-- ==== Sys2Proof/Word.lean ====
section
/-! DEFINITION. The word types of the XNX880 model and their plainest arithmetic. -/

namespace Sys2Proof

/-- A byte. -/
abbrev Byte := BitVec 8
/-- A 16-bit field. -/
abbrev W16 := BitVec 16
/-- A 32-bit register or instruction word. -/
abbrev W32 := BitVec 32
/-- A 64-bit argument, count or Rack Time value. -/
abbrev W64 := BitVec 64
/-- The bit pattern of an IEEE binary32 value. -/
abbrev F32 := BitVec 32

/-- A sparse table: the listed entries stand at strictly rising keys, and no entry equals
the table's default value, so that equal contents are equal lists. -/
abbrev Tbl (α : Type) := List (Nat × α)

/-- Saturating count: `n + k`, at most `m`. -/
def satAdd (m n k : Nat) : Nat := min m (n + k)

end Sys2Proof
end

