-- ==== Sys2Proof/Config.lean ====
section
/-! DEFINITION. What the spec leaves to the part and what it leaves open: constants with no body. Log entry 1 holds
the free values, log entry 6 the cryptographic primitives. -/

namespace Sys2Proof.Config

open Sys2Proof

/-- A byte whose value the spec leaves open, by device offset and an index: of a region whose contents are undefined (R346), of a
stash page that was not written (R310), of an SRAM word whose read-modify-write met an uncorrectable error (R288). Free
value: DESIGN CHOICE, log entry 1; safe. -/
opaque staleByte : Nat → Nat → Byte

/-- Which of the values within 1 ulp the VE's RSQ (5), EXP2 (6) and LOG2 (7) return for an input (R220: one fixed
function of its input). Free value: DESIGN CHOICE, log entry 1; safe. -/
opaque veApprox : Nat → F32 → Nat

/-- RSQ of −0, for which R220 states no result. Free value: DESIGN CHOICE, log entry 1; safe. -/
opaque rsqNegZero : F32

/-- INDEX of the first element of a VQNT, by VAd and by the block number: R180 takes the element's position in the
flattened tensor, and R223 gives VQNT no operand for it. Free value: DESIGN CHOICE, log entry 1; safe. -/
opaque vqntBase : Nat → Nat → Nat

/-- The S registers beyond S31 that a VRUN with A above 28 would take (R231 gives no bound). Free value: DESIGN CHOICE,
log entry 1; safe. -/
opaque vrunArg : Nat → W64

/-- The Sentinel's draw for the n-th sampled or unsampled core task (R482): true to sample. Free value: DESIGN CHOICE,
log entry 1; safe. -/
opaque sentinelDraw : Nat → Bool

/-- The n-th value of 32 bits that the spec leaves unstated: heater powers that the lock loop sets (R356), forecast
values (R359), a sequencer shift by 32 or more and the bias of a dark bus (R363), the line powers that follow a change of
bias (R352) and those of a spare that replaces a laser whose block stays in Fault (R353). Free value: DESIGN CHOICE, log
entry 1; safe. -/
opaque free32 : Nat → W32

/-- Bytes of the n-th draw from the CTR_DRBG of the security engine (R445), by byte position. Free value: DESIGN CHOICE,
log entry 1; safe. -/
opaque drawn : Nat → Nat → Byte

/-- Bytes of each half of the buddy region at a global address, which the pushing module works with: R343 gives a push
only the region's address. Free value: DESIGN CHOICE, log entry 24; safe. -/
opaque buddySlot : Nat → Nat

/-- DST of a collective op instance on a member in another module, by chip, die, slot, op and micro-batch: R431 writes to
it, and R430 gives an engine only its own descriptors. Free value: DESIGN CHOICE, log entry 25; safe. -/
opaque memberDst : Nat → Nat → Nat → Nat → Nat → Nat

/-- Element at which the data of a rank stand in that DST, for an all-to-all, whose receive counts only that member
holds. Free value: DESIGN CHOICE, log entry 25; safe. -/
opaque memberAt : Nat → Nat → Nat → Nat → Nat → Nat → Nat

/-- Eye width of a channel of a stack recorded at manufacture (R494). Free value: DESIGN CHOICE, log entry 1; safe. -/
opaque eyeWidth : Nat → Nat → Nat

/-- The 16 check bits of a 256-bit block of an on-package frame, by the block: R374 gives the code by its properties alone. Free
value: DESIGN CHOICE, log entry 1; safe. -/
opaque blockCheck : Nat → W16

/-- The Ouvusk PCI vendor identifier, which the spec does not give as a number (R515, R530). Free value: DESIGN CHOICE,
log entry 1; safe. -/
opaque vendorId : W16

/-- The silicon stepping, which every function reports as its revision identifier, and the subsystem identifiers that the spec gives
no number (R106). Free values: DESIGN CHOICE, log entry 1; safe. -/
opaque stepping : Byte
opaque subsystemIds : W16 × W16

/-- The endpoint UUID (R515), by byte position. Free value: DESIGN CHOICE, log entry 1; safe. -/
opaque uuidByte : Nat → Byte

/-- Expected release of the n-th lock that a command other than MAINT_REQUEST, or the module itself, holds: the
activity's own estimate (R506). Free value: DESIGN CHOICE, log entry 1; safe. -/
opaque lockEstimate : Nat → W64

/-- ROM_VERSION, the version of the boot ROM (R462). Free value: DESIGN CHOICE, log entry 1; safe. -/
opaque romVersion : W32

/-- VISIBLE of the operator realm's entry in a report: no request gives it one (R463). Free value: DESIGN CHOICE, log
entry 1; safe. -/
opaque operatorVisible : Byte

/-- Which realm a REALM_CLOSE from the steward's ring 0 closes when both are open: true for realm 2. The descriptor of that
ring carries no realm (R128, R131). Free value: DESIGN CHOICE, log entry 1; safe. -/
opaque closePick : Nat → Bool

/-- Bytes of the fused root digest, by position (R70, R446), and of the certificates that follow it for the n-th attestation
key, with their total length. Free values: DESIGN CHOICE, log entry 1; safe. -/
opaque rootDigest : Nat → Byte
opaque certLen : Nat → Nat
opaque certByte : Nat → Nat → Byte

/-- The digest over the measurements of the trusted computing base that an SPDM challenge may ask for: R467 does not say
which blocks it covers. By the bytes of all blocks and by byte position. Free value: DESIGN CHOICE, log entry 1; safe. -/
opaque tcbDigest : List Byte → Nat → Byte

/-- RDTExponent and RDTM of an SPDM ResponseNotReady, by the index of the answer. Free values: DESIGN CHOICE, log entry 1;
safe. -/
opaque readyTime : Nat → Byte × Byte

/-- A byte of the debug aperture whose place the spec names and whose contents it does not lay out: the hardware region of a
die, watcher tables, VE control registers, and a part whose domain is not On. By aperture address and
by the index of the read. Free value: DESIGN CHOICE, log entry 40; safe. -/
opaque apertureByte : Nat → Nat → Byte

/-- Times in seconds that the firmware-update answers estimate: 0 for a component, 1 for an activation. Free values: DESIGN
CHOICE, log entry 1; safe. -/
opaque updateTime : Nat → W16

/-- The plaintext of an RSAES-OAEP blob under the n-th attestation key, if it unwraps (R445, R451). Log entry 6. -/
opaque unwrap : Nat → List Byte → Option (List Byte)

/-- Byte of the RSASSA-PSS signature of a message under the n-th attestation key, by the index of its salt (R445). Log
entry 6. -/
opaque pssSig : Nat → Nat → List Byte → Nat → Byte

end Sys2Proof.Config
end

