-- ==== Sys2Proof/Machine/Parts.lean ====
section
/-! DEFINITION. The component records of the machine's state: plain data, one record per part of the module.
Each field's docstring ends in a tag [rule; width; reset value]; `DC n` marks a reset value the spec does not give
(log entry n). -/

namespace Sys2Proof.Machine

/-- The three part numbers (R3). -/
inductive Variant where
  | d8 | d4 | d2
  deriving DecidableEq, Repr

/-- The module's service phase (R41, R43, R62, R77, R79, R520). -/
inductive Phase where
  /-- PWR_EN low, or the input outside its release thresholds. -/
  | off
  /-- Dormant (R41). -/
  | dormant
  /-- Spring is running, before mailbox ready. -/
  | spring
  /-- Spring has stopped under R77. -/
  | stopped
  /-- Mailbox ready has been reached. -/
  | running
  /-- An accepted SHUTDOWN runs (R79). -/
  | shutting
  deriving DecidableEq, Repr

/-- The life cycle of a domain (R34), a block (R83) or a ring (R117). -/
inductive Life where
  | off | enabling | on | disabling | fault
  deriving DecidableEq, Repr

/-- The pins and physical inputs of the module, as last driven from outside. -/
structure Pins where
  /-- PWR_EN as recognised [R43; 1; 0 (R541: an open pin reads low)]. -/
  pwrEn : Bool := false
  /-- The input is released: false from a lockout, or a rise of PWR_EN outside the release thresholds, until a release
  [R27, R30; 1; DC 3]. -/
  inputOk : Bool := true
  /-- P36V in millivolts [R27; Nat; DC 3]. -/
  vin : Nat := 36000
  /-- WAKE_N is held low [R42; 1; 0 (R541 pull-up)]. -/
  wakeLow : Bool := false
  /-- PROFSEL[1:0] [R71; 2; 0 (R541 pull-downs)]. -/
  profsel : BitVec 2 := 0
  /-- THERM_TRIP_N is driven low by the board [R54; 1; DC 3]. -/
  boardTrip : Bool := false
  /-- CPL0 flow in 0.01 L/min [R58; Nat; DC 3]. -/
  flow0 : Nat := 600
  /-- CPL1 flow in 0.01 L/min [R58; Nat; DC 3]. -/
  flow1 : Nat := 200
  /-- CPL0 inlet in 0.01 °C [R58; Int; DC 3]. -/
  tin0 : Int := 3000
  /-- CPL1 inlet in 0.01 °C [R58; Int; DC 3]. -/
  tin1 : Int := 3000
  /-- CPL0 outlet in 0.01 °C [R520; Int; DC 3]. -/
  tout0 : Int := 3000
  /-- CPL1 outlet in 0.01 °C [R520; Int; DC 3]. -/
  tout1 : Int := 3000
  deriving DecidableEq, Repr

/-- One power domain (R34, R40). -/
structure Dom where
  /-- PWR_DOM_STATn.STATE [R40; 3; Off (Absent is read from the variant)]. -/
  st : Life := .off
  /-- PWR_DOM_STATn.CAUSE [R40; 3; 0b000]. -/
  cause : BitVec 3 := 0
  /-- PWR_DOM_STATn.IDLE_GATED [R40; 1; 0]. -/
  gated : Bool := false
  deriving DecidableEq, Repr

/-- Who asked for the power sequence that is running (R32, R33, R37). -/
inductive SeqWhy where
  | springStep
  /-- DOMAIN_CONTROL, by the fetch number of the command. -/
  | control (port ring no : Nat)
  | shutdown
  | springStop
  /-- A quadrant that a margin plan excludes (R497). -/
  | exclude
  deriving DecidableEq, Repr

/-- A power sequence in progress: the domains still to be taken, in order. -/
structure PowerSeq where
  /-- True for power-on. -/
  up : Bool
  /-- Domains not yet done, the first one in transition. -/
  todo : List Nat
  /-- Who runs it. -/
  why : SeqWhy
  deriving DecidableEq, Repr

/-- Target of an orderly shutdown (R78). -/
inductive ShutTarget where
  | dormant | respring
  deriving DecidableEq, Repr

/-- An accepted SHUTDOWN or FW_ACTIVATE (R79). -/
structure Shutdown where
  target : ShutTarget
  /-- FLAGS.FORCE of the command. -/
  force : Bool
  /-- Port of the steward's ring 0 that carries the command; none for the sideband. -/
  port : Option Nat
  /-- Fetch number of the command. -/
  no : Nat
  /-- Item of R79 in progress, 1 to 7. -/
  item : Nat
  deriving DecidableEq, Repr

/-- The attestation key check of R67. -/
inductive KeyCheck where
  | idle | running | reused | generated | failed
  deriving DecidableEq, Repr

/-- Progress of Spring (R65 to R77). -/
structure Spring where
  /-- Steps of R65 that have completed in this Spring [R65; List; empty]. -/
  done : List Nat := []
  /-- Steps that have started [R65; List; empty]. -/
  started : List Nat := []
  /-- GLB_SPRING_STAT.STOPPED with the step and the cause code [R69; Option; none]. -/
  stop : Option (Nat × Nat) := none
  /-- GLB_SPRING_STAT.COOLANT_WAIT [R69; 1; 0]. -/
  coolantWait : Bool := false
  /-- GLB_SPRING_STAT.PROF_SRC [R69; 2; 0b00]. -/
  profSrc : BitVec 2 := 0
  /-- GLB_SPRING_STAT.PROF [R69; 2; 0b00]. -/
  prof : BitVec 2 := 0
  /-- GLB_SPRING_STAT.FW_SLOT [R69; 1; 0]. -/
  fwSlot : Bool := false
  /-- GLB_SPRING_STAT.NEW_AK [R69; 1; 0]. -/
  newAk : Bool := false
  /-- GLB_SPRING_STAT.DISC_DONE [R69; 1; 0]. -/
  discDone : Bool := false
  /-- GLB_SPRING_STAT.MBX_READY [R69; 1; 0]. -/
  mbxReady : Bool := false
  /-- The attestation key check [R67; enum; idle]. -/
  keyCheck : KeyCheck := .idle
  /-- PROFSEL[1:0] as latched [R71; 2; DC 3]. -/
  latched : BitVec 2 := 0
  /-- This Spring was started by SHUTDOWN with Respring or an activation: PWR_GOOD stays high [R80; 1; 0]. -/
  respring : Bool := false
  /-- FLAGS.FW_FALLBACK of the report: the boot ROM booted the non-active slot [R462; 1; 0]. -/
  fwFallback : Bool := false
  /-- FLAGS.PROFILE_FALLBACK of the report [R462; 1; 0]. -/
  profFallback : Bool := false
  /-- A stop at step 2 left no way to verify an image: PLDM update is refused [R77; 1; 0]. -/
  noVerify : Bool := false
  deriving DecidableEq, Repr

/-- A stored or factory profile, as its fields (R72, R73). -/
structure Profile where
  /-- NUMBER; 0xFF for the factory profile. -/
  number : Nat
  twoRealm : Bool
  compat : Bool
  /-- POWER_CAP in units of 10 W. -/
  cap : Nat
  marginSlot : Nat
  stewardPort : Nat
  link0 : W16
  link1 : W16
  /-- PORT_DIVISION: one byte per port. -/
  division : List Byte
  deriving DecidableEq, Repr

/-- The power-cap loop and PWR_CAP_STAT (R44 to R49, R59, R60). -/
structure PowerCap where
  /-- PWR_CAP_STAT.CAP in units of 10 W [R49; 16; 0x0000, loaded at Spring]. -/
  cap : W16 := 0
  /-- The last input-power samples in W, newest first, at most ten [R45; List; empty]. -/
  samples : List Nat := []
  /-- The current samples at J1 in mA, newest first, at most ten [R29, R45; List; empty]. -/
  amps : List Nat := []
  /-- The clock that the loop requests in MHz [R45; Nat; DC 3]. -/
  clock : Nat := 1800
  /-- Array issue limit of R48: 0 none, 1 is 12, 2 is 8, 3 is 4 of 16 cycles [R48; 2; 0]. -/
  duty : Nat := 0
  /-- Loop steps for which the average has stayed more than 3% below the cap [R45; Nat; 0]. -/
  below : Nat := 0
  /-- PWR_CAP_STAT.ACTIVE [R49; 1; 0]. -/
  active : Bool := false
  /-- PWR_CAP_STAT.COOLANT_CAP [R49; 1; 0]. -/
  coolantCap : Bool := false
  /-- PWR_CAP_STAT.CURRENT_LIMIT [R49; 1; 0]. -/
  currentLimit : Bool := false
  /-- PWR_CAP_STAT.UNMET [R49; 1; 0]. -/
  unmet : Bool := false
  /-- The unmet limit is the 160 A limit, so rails go off 1 ms later [R48; 1; 0]. -/
  railOffDue : Bool := false
  deriving DecidableEq, Repr

/-- Thermal throttling of one die (R51). -/
structure DieThermal where
  /-- THM_STAT.THROTTLE bit [R56; 1; 0]. -/
  throttled : Bool := false
  /-- The clock that the throttle requests in MHz [R51; Nat; DC 3]. -/
  clock : Nat := 1800
  /-- The clock is being raised again: RELEASE has held for 10 ms [R51; 1; 0]. -/
  rising : Bool := false
  /-- Last quadrant sensor readings in 0.01 °C, Q0 first [R51; List; DC 3]. -/
  temps : List Int := []
  deriving DecidableEq, Repr

/-- The thermal trip and the THM block's registers (R50 to R56). -/
structure Thermal where
  /-- THM_STAT.TRIP_DRV: the module drives THERM_TRIP_N low [R56; 1; 0]. -/
  tripDrv : Bool := false
  /-- The clocks of the quadrant domains and PD(8d+6) are stopped [R54; 1; 0]. -/
  stopped : Bool := false
  /-- THM_HOT.TEMP in 0.01 °C [R56; 16; 0x0000]. -/
  hot : W16 := 0
  /-- The hottest junction outside the quadrant sensors, as last read, in 0.01 °C [R56; Int; 0]. -/
  other : Int := 0
  /-- THM_TRIPS.COUNT [R56; 32; 0]. -/
  trips : W32 := 0
  /-- Per-die throttling, keyed by die [R51; table; not throttled]. -/
  dies : Tbl DieThermal := []
  /-- Quadrants whose clock is stretched by droop, keyed by 4·die+q [R53; table; no]. -/
  droop : Tbl Bool := []
  /-- Droop stretch counts, keyed by 4·die+q [R519; table; 0]. -/
  droopCount : Tbl W32 := []
  /-- A coolant fault of R59 holds [R57; 1; 0]. -/
  coolantFault : Bool := false
  deriving DecidableEq, Repr

/-- The common part of a block (R81, R83, R87, R92, R100). -/
structure Blk where
  /-- BLK_STAT.STATE [R81; 3; Off]. -/
  st : Life := .off
  /-- BLK_CTL.EN [R81; 1; 0]. -/
  en : Bool := false
  /-- BLK_STAT.ENABLE_PENDING [R81; 1; 0]. -/
  enPend : Bool := false
  /-- BLK_STAT.WRIG [R81; 1; 0]. -/
  wrig : Bool := false
  /-- BLK_WRIG_ADDR.COUNT [R87; 4; 0]. -/
  wrigCount : BitVec 4 := 0
  /-- BLK_WRIG_ADDR.SRC [R87; 2; 0b00]. -/
  wrigSrc : BitVec 2 := 0
  /-- BLK_WRIG_ADDR.ADDR [R87; 26; 0]. -/
  wrigAddr : BitVec 26 := 0
  /-- RTs of the CFG_PARITY events of this block [R100; List; empty]. -/
  parity : List W64 := []
  /-- The recovery of R100 clears EN and waits for Off [R100; 1; 0]. -/
  recovering : Bool := false
  /-- Left in Fault by a second CFG_PARITY within 24 h [R100; 1; 0]. -/
  dead : Bool := false
  /-- A GLB_UPDATE that named the block waits for it to reach On or Off [R104; 1; 0]. -/
  updPend : Bool := false
  deriving DecidableEq, Repr

/-- An RWB register of compatibility mode: its live value and its shadow (R102). -/
structure Rwb where
  live : W32
  shadow : W32
  /-- The value in the CP's configuration record (R100). -/
  record : W32
  deriving DecidableEq, Repr

/-- A 64-byte descriptor (R118). -/
structure Desc where
  opcode : W16
  tag : W16
  realm : Byte
  flags : Byte
  rsvd : W16
  rtAt : W64
  a0 : W64
  a1 : W64
  a2 : W64
  a3 : W64
  a4 : W64
  a5 : W64
  deriving DecidableEq, Repr

/-- The result of a command (R119, R125). -/
structure Result where
  status : Byte
  detail : W16 := 0
  rv0 : W64 := 0
  rv1 : W64 := 0
  rv2 : W64 := 0
  deriving DecidableEq, Repr

/-- A command fetched and not yet completed (R120, R122). -/
structure InFlight where
  desc : Desc
  /-- Number of its fetch on the ring: it tells commands of one TAG apart. -/
  no : Nat := 0
  /-- The RT value at which the CP read the descriptor (R16, R124). -/
  rt : W64
  /-- Fetched while the host was the steward (R112). -/
  steward : Bool
  /-- The CP has begun to serve it. -/
  started : Bool := false
  /-- Its outcome, once it has ended and its completion is still to be written. -/
  result : Option Result := none
  /-- CFLAGS.DEFERRED (R127). -/
  deferred : Bool := false
  /-- Bytes that its transfer has moved so far (R114); 1 for a checkpoint capture under way. -/
  moved : Nat := 0
  /-- XFER_SEQ that a sealed DMA_COPY took when it first began (R457). -/
  xfer : Option W64 := none
  /-- Its ring went Off or Disabling: its completion is not written (R114, R117). -/
  dropped : Bool := false
  /-- Its execution ends with ABORTED and this DETAIL: a read of host memory has failed (1, R107), or its host has gone (0,
  R114). -/
  fails : Option Nat := none
  deriving DecidableEq, Repr

/-- One command ring (R116, R117, R120). -/
structure Ring where
  /-- RING_STAT.STATE [R116; 3; Off]. -/
  st : Life := .off
  /-- RING_CTL.EN [R116; 1; 0]. -/
  en : Bool := false
  /-- RING_CTL.IRQ_EN [R116; 1; 0]. -/
  irqEn : Bool := false
  /-- RING_CTL.VECTOR [R116; 3; r, the ring's number, set by `Ring.resetOf`]. -/
  vector : BitVec 3 := 0
  /-- RING_CTL.ENTRIES [R116; 4; 0x4]. -/
  entries : BitVec 4 := 4
  /-- DESC_BASE, host address bits [63:12] [R116; 52; 0]. -/
  descBase : BitVec 52 := 0
  /-- CPL_BASE, host address bits [63:12] [R116; 52; 0]. -/
  cplBase : BitVec 52 := 0
  /-- RING_STAT.FETCHED [R116; 16; 0]. -/
  fetched : W16 := 0
  /-- RING_STAT.LATCHED [R116; 1; 0]. -/
  latched : Bool := false
  /-- RING_STAT.ENABLE_PENDING [R116; 1; 0]. -/
  enPend : Bool := false
  /-- RING_STAT.WRIG [R116; 1; 0]. -/
  wrig : Bool := false
  /-- RING_WRIG_ADDR.COUNT [R116; 4; 0]. -/
  wrigCount : BitVec 4 := 0
  /-- RING_WRIG_ADDR.SRC [R116; 2; 0]. -/
  wrigSrc : BitVec 2 := 0
  /-- RING_WRIG_ADDR.ADDR [R116; 26; 0]. -/
  wrigAddr : BitVec 26 := 0
  /-- Descriptors fetched since the ring left Off, without wrap: it fixes slot and PHASE [R120; Nat; 0]. -/
  fetchNo : Nat := 0
  /-- Descriptors ever fetched: the number of the next fetch [model; Nat; 0]. -/
  total : Nat := 0
  /-- Completions written since the ring left Off [R120; Nat; 0]. -/
  cplNo : Nat := 0
  /-- A fetch pass is under way, paused at 16 in-flight commands [R120; 1; 0]. -/
  fetching : Bool := false
  /-- A KICK was written while fetching: the stopping slot is read again [R120; 1; 0]. -/
  rekick : Bool := false
  /-- Commands fetched and not yet completed, oldest first [R120; List; empty]. -/
  inflight : List InFlight := []
  deriving DecidableEq, Repr

/-- One BAR2 page mapping (R109, R132, R475). -/
structure BarMap where
  /-- Device offset of the page, or the aperture address of R475. -/
  target : Nat
  read : Bool
  write : Bool
  realm : Nat
  deriving DecidableEq, Repr

/-- What a function's configuration space holds of R105, R106 and R108. No command writes it: the values are the host's (log entry
83). -/
structure PcieCfg where
  /-- Vendor and device identifiers, class code, and revision identifier: fixed [R106, R8; 16, 16, 24, 8; the part's]. -/
  vendor : W16 := Config.vendorId
  device : W16 := 0x0880
  classCode : BitVec 24 := 0x120000
  revision : Byte := Config.stepping
  /-- Subsystem identifiers: fixed [R106; 2×16; the part's]. -/
  subsystem : W16 × W16 := Config.subsystemIds
  /-- Generation of ECRC is enabled [R105; 1; 0]. -/
  ecrcGen : Bool := false
  /-- Checking of ECRC is enabled [R105; 1; 0]. -/
  ecrcCheck : Bool := false
  /-- AER status of uncorrectable and of correctable errors [R105; 2×32; DC 3]. -/
  aerUnc : W32 := 0
  aerCor : W32 := 0
  /-- Max_Payload_Size in bytes [R105; Nat; DC 3]. -/
  payload : Nat := 128
  /-- Max_Read_Request_Size in bytes [R105; Nat; DC 3]. -/
  readRequest : Nat := 512
  /-- MSI-X is enabled [R105; 1; DC 3]. -/
  msixOn : Bool := false
  /-- Base addresses of BAR0, BAR2 and BAR4 [R108; 3×64; DC 3]. -/
  bar0 : W64 := 0
  bar2 : W64 := 0
  bar4 : W64 := 0
  deriving DecidableEq, Repr

/-- One PCIe function (R105 to R117). -/
structure Fn where
  /-- Its configuration space [R105, R108]. -/
  cfg : PcieCfg := {}
  /-- The link is in DL_Active [R110; 1; 0]. -/
  linkUp : Bool := false
  /-- PERSTn_N is low [R62; 1; DC 3]. -/
  perstLow : Bool := true
  /-- Link training is under way [R63; 1; 0]. -/
  training : Bool := false
  /-- The function is in D3hot [R105; 1; 0]. -/
  d3hot : Bool := false
  /-- RT at which the link last left DL_Active [R113; 64; DC 3]. -/
  downSince : W64 := 0
  /-- The 2 s out of DL_Active have passed while the other link was down too [R113; 1; 0]. -/
  overdue : Bool := false
  /-- The four rings, keyed 0 to 3 [R115; table; `Ring.resetOf`]. -/
  rings : Tbl Ring := []
  /-- BAR2 page mappings, keyed by BAR2 page [R109; table; none]. -/
  maps : Tbl (Option BarMap) := []
  /-- MSI-X table: address, data and mask per vector [R110; table; DC 3]. -/
  msix : Tbl (W64 × W32 × Bool) := []
  /-- MSI-X pending bits [R110; 8; DC 3]. -/
  pba : BitVec 8 := 0
  deriving DecidableEq, Repr

/-- The fields of an admission record (R246) and of its numerics record (R203). -/
structure Adm where
  /-- RATIO: 1, 2 or 3. -/
  ratio : Nat
  /-- IDLE: 0 none, 1 fill, 2 gate. -/
  idle : Nat
  deepOk : Bool
  microBatches : Nat
  tokens : Nat
  dieMask : BitVec 8
  stallMs : Nat
  taskBound : Nat
  /-- NEED_CLUSTERS, byte d. -/
  need : List Nat
  persist : Nat
  staging : Nat
  spill : Nat
  /-- SAT_LIMIT of R203. -/
  satLimit : Nat
  /-- LOSS_TID; none for 0xFF. -/
  lossTid : Option Nat
  lossEnable : Bool
  /-- ACTION SKIP. -/
  lossSkip : Bool
  k : F32
  alpha : F32
  warmup : Nat
  deriving DecidableEq, Repr

/-- A token reference (R260). -/
structure TokRef where
  other : Bool
  die : Nat
  /-- AMOUNT, 1 to 16. -/
  amount : Nat
  /-- RING: the ring size is 2^ring. -/
  ring : Nat
  entry : Nat
  deriving DecidableEq, Repr

/-- A task descriptor (R254). -/
structure Task where
  tag : W16
  /-- PHASE: 1 forward, 2 backward, 3 reduce, 4 solstice, 5 fill. -/
  phase : Nat
  perMb : Bool
  idleArg : Bool
  die : Nat
  lcluster : Nat
  entry : Nat
  /-- BOUND in µs; 0 for TASK_BOUND. -/
  bound : Nat
  argStep : W32
  argMb : Byte
  waits : List TokRef
  sigs : List TokRef
  args : List W64
  deriving DecidableEq, Repr

/-- A tensor entry: the numerics record of R172 and the shape of R251. -/
structure Tensor where
  tid : Nat
  cls : Nat
  format : Nat
  stoch : Bool
  watch : Bool
  consensus : Bool
  /-- SCALE_MODE: 0 PREDICT, 1 FIXED, 2 EXACT. -/
  scaleMode : Nat
  initScale : F32
  history : Nat
  headroom : Nat
  pairTid : Nat
  seed : W32
  rank : Nat
  axis : Nat
  dims : List Nat
  /-- TARGET of its section: the die whose scheduler and watchers hold the record, or 0xFF for every die of the job
  (R250). -/
  target : Nat := 0xFF
  deriving DecidableEq, Repr

/-- A member of a collective group (R429). -/
structure Member where
  chip : Nat
  die : Nat
  slot : Nat
  deriving DecidableEq, Repr

/-- A collective op descriptor (R430). -/
structure ColOp where
  op : Nat
  dtype : Nat
  group : Nat
  perMb : Bool
  shard : Bool
  acc : Bool
  tid : Nat
  /-- PEER, two's complement for RING. -/
  peer : Int
  src : Nat
  dst : Nat
  stage : Nat
  mbStride : Nat
  len : Nat
  /-- The counts table, empty for an even split (R434). -/
  counts : List Nat
  wait : Option TokRef
  sig : Option TokRef
  rsig : Option TokRef
  wstart : Nat
  wlen : Nat
  deriving DecidableEq, Repr

/-- A collective program (R429). -/
structure ColProg where
  groups : List (List Member)
  ops : List ColOp
  /-- Index of the CONSENSUS group. -/
  consensus : Option Nat
  deriving DecidableEq, Repr

/-- A loaded Kafort image, as the die schedulers hold it (R250, R252). -/
structure Image where
  digest : List Byte
  tasks : List Task
  deep : List Task
  /-- TOKENS sections: die, then (COUNT, PERSIST) per entry. -/
  tokens : List (Nat × List (Nat × Bool))
  /-- COL_PROG sections by die. -/
  col : List (Nat × ColProg)
  /-- Program ranges in use: section type, die, first instruction, count. -/
  ranges : List (Nat × Nat × Nat × Nat)
  /-- TENSORS sections (R250, R251). -/
  tensors : List Tensor := []
  deriving DecidableEq, Repr

/-- Where an instance of a descriptor stands (R255, R258). -/
inductive InstSt where
  | waiting | running | done | faulted
  deriving DecidableEq, Repr

/-- JOB_STATUS states (R131). -/
inductive JobSt where
  | admitted | started | inStep | solstice | held | aborted
  deriving DecidableEq, Repr

/-- How far Solstice has come (R328 to R332). -/
inductive Sol where
  /-- Not in Solstice. -/
  | none
  /-- The closing round runs. -/
  | closing
  /-- The aggregate flag is known; the gate of order 1 holds it. -/
  | gate (skip : Bool)
  /-- The BEGIN record, written at this RT, is being programmed. -/
  | begun (at_ : W64)
  /-- Orders 3 and 4: solstice-phase instances run. -/
  | run
  /-- The END record is being programmed. -/
  | ending
  deriving DecidableEq, Repr

/-- The loss value of one VLOSS (R224). -/
structure LossPost where
  m : Nat
  die : Nat
  cluster : Nat
  value : F32
  /-- Table and number of the cluster task that posted it. -/
  task : Nat × Nat
  deriving DecidableEq, Repr

/-- One entry of a watcher table or of a step summary (R196, R198). -/
structure WatEntry where
  zeros : Nat := 0
  sats : Nat := 0
  nonfin : Nat := 0
  retries : Nat := 0
  amax : F32 := 0
  deriving DecidableEq, Repr

/-- A step summary (R197, R198). -/
structure Summary where
  job : W16
  outcome : Nat
  localFlag : Bool
  aggFlag : Bool
  spike : Bool
  recompute : Bool
  step : W64
  loss : F32
  ema : F32
  entries : Tbl WatEntry
  scales : Tbl F32
  deriving DecidableEq, Repr

/-- A region of a job: bytes and one run of 2 MiB pages per die (R307). -/
structure Region where
  bytes : Nat := 0
  /-- Die, device offset of the run, pages. -/
  runs : List (Nat × Nat × Nat) := []
  deriving DecidableEq, Repr

/-- A Solstice command waiting for its end (R127). -/
inductive Deferred where
  | abort (port ring no : Nat) (force : Bool)
  | control (port ring no : Nat) (action : Nat) (steps : Nat)
  /-- Only the completion: the action is armed for an RT instant. -/
  | ack (port ring no : Nat)
  /-- Only the action: its instant fell into the Solstice. -/
  | act (action steps : Nat)
  deriving DecidableEq, Repr

/-- The step being run and its bookkeeping (R255, R264, R321). -/
structure Step where
  /-- Instance states, keyed by `instKey` of descriptor and micro-batch [R255; table; waiting]. -/
  insts : Tbl InstSt := []
  /-- RT at which an instance was dispatched, under the same key [R258; table; 0]. -/
  dispatched : Tbl W64 := []
  /-- The number of the step: that of its commit [R320; 64; 0]. -/
  num : W64 := 0
  /-- RT at which the step began [R264; 64; 0]. -/
  startRt : W64 := 0
  /-- Micro-batches switched to DEEP_TASKS [R278; List; empty]. -/
  deep : List Nat := []
  /-- Scales S in force for the step, keyed by TID [R175; table; INIT_SCALE]. -/
  scales : Tbl F32 := []
  /-- The job's local non-finite flag [R200; 1; 0]. -/
  localFlag : Bool := false
  /-- Flag bits received in reduction frames [R327; 1; 0]. -/
  rxFlag : Bool := false
  /-- The aggregate flag [R328; 1; 0]. -/
  aggFlag : Bool := false
  losses : List LossPost := []
  /-- Mean of the values posted so far: the step loss once the last micro-batch has posted [R204; 32; 0]. -/
  loss : F32 := 0
  /-- The detector has compared [R204; 1; 0]. -/
  lossSeen : Bool := false
  spike : Bool := false
  recompute : Bool := false
  /-- Dies of a lone job that have turned to the backward half [R274; List; empty]. -/
  turned : List Nat := []
  /-- Micro-batches for which a die has raised STASH_FULL [R311; List (die, m); empty]. -/
  stashFull : List (Nat × Nat) := []
  /-- SOLSTICE_HELD has been raised for this step [R277; 1; 0]. -/
  heldRaised : Bool := false
  /-- STASH_SPILL has been logged for this step [R310; 1; 0]. -/
  spillLogged : Bool := false
  /-- TIDs for which NONFINITE_TENSOR has been logged [R199; List; empty]. -/
  nfLogged : List Nat := []
  /-- Summary gathered [R197; Option; none]. -/
  gathered : Option (Tbl WatEntry) := none
  /-- Collective windows already logged late (die, op, m) [R399; List; empty]. -/
  lateWindows : List (Nat × Nat × Nat) := []
  /-- Closing-round state: rounds done of the consensus group [R435; Nat; 0]. -/
  closeRound : Nat := 0
  /-- NF bits received early for closing rounds, keyed by round [R435; table; none]. -/
  closeRx : Tbl (Option Bool) := []
  /-- Latest stamp of the closing round: RT, chip, die [R435; triple; 0]. -/
  closeLatest : W64 × Nat × Nat := (0, 0, 0)
  /-- Own arrival stamp of the closing round [R437; 64; 0]. -/
  closeOwn : W64 := 0
  deriving DecidableEq, Repr

/-- A job (R245, R319). -/
structure Job where
  id : W16
  realm : Nat
  slot : Nat
  adm : Adm
  /-- Logical cluster to physical cluster, keyed by 48·die + logical [R248; table; none]. -/
  cmap : Tbl (Option Nat) := []
  state : JobSt := .admitted
  main : Option Image := none
  fill : Option Image := none
  tensors : List Tensor := []
  persist : Region := {}
  staging : Region := {}
  spill : Region := {}
  /-- The step number: the count of committed steps [R320; 64; 0]. -/
  stepNo : W64 := 0
  /-- Histories of PREDICT tensors, newest first, keyed by TID [R176; table; empty]. -/
  hist : Tbl (List F32) := []
  /-- The loss EMA [R207; 32; 0]. -/
  ema : F32 := 0
  /-- The step in progress. -/
  step : Option Step := none
  sol : Sol := .none
  /-- Started by JOB_START and not withdrawn [R245; 1; 0]. -/
  started : Bool := false
  /-- The paired schedule: E0, LA, LB [R269; Option; none]. -/
  pair : Option (W64 × Nat × Nat) := none
  /-- Steps still to begin before a hold; none without limit [R131; Option; none]. -/
  budget : Option Nat := none
  /-- Hold before the next step [R131; 1; 0]. -/
  holdNext : Bool := false
  /-- RT at which the next step may begin: a lone start's or an action's instant [R274; Option; none]. -/
  startAt : Option W64 := none
  /-- An aborted step has not yet been reported under R259 [R259; 1; 0]. -/
  aborting : Bool := false
  /-- RT at which an abort was reported, until its 2 ms have passed [R335; Option; none]. -/
  quietFrom : Option W64 := none
  /-- An aborted step's signals are dropped until the next step begins [R335; 1; 0]. -/
  sigDrop : Bool := false
  /-- The last event code naming the job [R131; 16; 0]. -/
  lastEvent : W16 := 0
  summary : Option Summary := none
  deferred : List Deferred := []
  /-- Withdraw the job once its abort has been reported or its Solstice has ended [R131; 1; 0]. -/
  withdraw : Bool := false
  /-- Buddy pushes accepted during a Solstice, which wait for its end: die, op, m [R333; List; empty]. -/
  pushes : List (Nat × Nat × Nat) := []
  /-- Captures running: CHECKPOINT_PUSH or buddy pushes [R341; Nat; 0]. -/
  captures : Nat := 0
  /-- WEIGHT_SRC of R464 [R464; 2; 0]. -/
  weightSrc : Nat := 0
  /-- Chunk digests of loads, keyed by chunk [R465; table; zero]. -/
  chunks : Tbl (List Byte) := []
  /-- Chunks digested as 0xFF [R464; 32; 0]. -/
  unmeasured : Nat := 0
  /-- CKPT_ROOT [R464; 512; 0]. -/
  ckptRoot : List Byte := []
  /-- FILL_DONE has been logged for the loaded FILL image, or none is loaded [R276; 1; 1]. -/
  fillEnded : Bool := true
  /-- Fill instance states, keyed by descriptor [R276; table; waiting]. -/
  fillInsts : Tbl InstSt := []
  /-- RTs of the last progress of R265 [R265; 64; 0]. -/
  progress : W64 := 0
  deriving DecidableEq, Repr

/-- The die scheduler and scoreboard of one die, for both slots (R259 to R280). -/
structure Dsc where
  /-- PH_A: 0 none, 1 forward, 2 backward, 3 fill [R279; 2; 0b00]. -/
  phA : Nat := 0
  /-- PH_B [R279; 2; 0b00]. -/
  phB : Nat := 0
  /-- DSC_EQX: next Equinox instant of the die [R279; 64; all ones when none]. -/
  eqx : Option W64 := none
  /-- Index of the next Equinox of the pair [R269; Nat; 0]. -/
  eqxNo : Nat := 0
  /-- DSC_EQX_COUNT [R279; 32; 0]. -/
  eqxCount : W32 := 0
  /-- DSC_LATE_COUNT [R279; 32; 0]. -/
  lateCount : W32 := 0
  /-- DSC_DONE_A [R279; 32; 0]. -/
  doneA : W32 := 0
  /-- DSC_DONE_B [R279; 32; 0]. -/
  doneB : W32 := 0
  /-- A turn due at this instant has not been taken [R272; Option; none]. -/
  late : Option W64 := none
  /-- Slots whose ending phase was not complete at that instant, as a mask [R272; 2; 0]. -/
  lateMask : Nat := 0
  /-- The late turn was passed by the next Equinox: take the assignment in force [R273; 1; 0]. -/
  missed : Bool := false
  /-- Signals held for the next step: slot, entry, amount, step [R263; List; empty]. -/
  pend : List (Nat × Nat × Nat × Byte) := []
  /-- The four forecast values last sent [R359; 4×8; 0]. -/
  forecast : List Nat := []
  deriving DecidableEq, Repr

end Sys2Proof.Machine
end

