-- ==== Sys2Proof/Machine/PartsCompute.lean ====
section
/-! DEFINITION. The component records of clusters, cores and memory (chapters 06, 08 and 10). Field docstrings end in
a tag [rule; width; reset value]; `DC n` marks a reset value the spec does not give (log entry n). -/

namespace Sys2Proof.Machine

/-- The number formats of operands: B4, B8, B16 (R140, R166). -/
inductive BFmt where
  | b4 | b8 | b16
  deriving DecidableEq, Repr

/-- One tile held in a weight bank, with its header (R149, R151). -/
structure WTile where
  /-- Column shifts, 32 nibbles. -/
  shifts : List Nat
  /-- Elements (i, j) row-major, each the n-bit pattern. -/
  elems : List Nat
  /-- Nonzero-plane mask: bit p for plane p. -/
  mask : W16
  /-- A column block carries shift code 15. -/
  nonfinite : Bool
  deriving DecidableEq, Repr

/-- One weight bank (R149, R150). -/
structure Bank where
  fmt : BFmt := .b4
  /-- Valid tiles; empty when the bank is invalid [R165 ARR_BANK.TILES; 5; 0]. -/
  tiles : List WTile := []
  /-- A WLD is writing the bank [R165 ARR_STAT.LOAD; 1; 0]. -/
  loading : Bool := false
  deriving DecidableEq, Repr

/-- Where a matrix-queue entry stands (R155). -/
inductive QSt where
  | waiting | running
  deriving DecidableEq, Repr

/-- An entry of the matrix queue, with the register values captured at issue (R154, R155). -/
inductive QEntry where
  | wld (st : QSt) (line bank : Nat) (fmt : BFmt) (t : Nat)
  | mma (st : QSt) (line bank : Nat) (fmt : BFmt) (first t : Nat) (amask : BitVec 4) (ns : Bool) (sc : F32)
  | drn (st : QSt) (line : Nat) (add : Bool) (rows : List (Nat × List F32))
  deriving DecidableEq, Repr

/-- The task a core runs or holds pending (R154, R230). -/
structure CoreTask where
  tag : W16
  entry : Nat
  /-- AR0 to AR7 at the start. -/
  ars : List W16
  outTid : Option Nat
  /-- Logical core that the CCC named. -/
  logical : Nat
  deriving DecidableEq, Repr

/-- One physical core with its arrays (R139, R165). -/
structure Core where
  /-- CORE_CTL.SKIP_EN [R165; 1; 1]. -/
  skipEn : Bool := true
  /-- SKIP_EN in the CP's configuration record [R100; 1; 1]. -/
  skipRecord : Bool := true
  /-- CORE_STAT.ROLE: 0 none, 1 forward, 2 backward, 3 spare [R165; 2; 0b00]. -/
  role : Nat := 0
  /-- CORE_STAT.RETIRED [R165; 1; 0]. -/
  retired : Bool := false
  /-- CORE_STAT.GATED [R165; 1; 0]. -/
  gated : Bool := false
  /-- CORE_STAT.SLOT: 0 A, 1 B [R165; 1; 0]. -/
  slot : Nat := 0
  /-- A slot switch has been ordered and not yet taken [R162; Option; none]. -/
  switchTo : Option Nat := none
  /-- CORE_STAT.SLOW: the slow path is busy [R165; 1; 0]. -/
  slow : Bool := false
  /-- The running task [R165; Option; none]. -/
  task : Option CoreTask := none
  /-- The pending task behind it [R230; Option; none]. -/
  pendTask : Option CoreTask := none
  /-- Address of the instruction being issued [R165; 10; 0]. -/
  pc : Nat := 0
  /-- AR0 to AR7 [R139; 8×16; 0]. -/
  ar : Tbl W16 := []
  /-- LC0 to LC3: remaining passes of each counting loop [R139; 4×12; 0]. -/
  lc : Tbl Nat := []
  /-- Open loops, innermost first: LC number, address after its LOOP [R159; List; empty]. -/
  loops : List (Nat × Nat) := []
  /-- SC [R139; 32; DC 3: zero until a task sets 1.0]. -/
  sc : F32 := 0
  /-- The matrix queue, oldest first, at most 8 [R139; List; empty]. -/
  queue : List QEntry := []
  /-- Weight bank 0 [R149; record; invalid]. -/
  bank0 : Bank := {}
  /-- Weight bank 1 [R149; record; invalid]. -/
  bank1 : Bank := {}
  /-- Activation FIFOs: what they hold of the running MMA's vectors, array by array [R139; 4×512×8; empty]. -/
  fifo : List (Nat × List Byte) := []
  /-- Column-bottom units: the exact integers of the last fast tile, array by array [R139, R145; 4×32×40; 0 (R145)]. -/
  cols : List (Nat × List Int) := []
  /-- Accumulators of the running MMA, array by array [R139; 4×32×32; empty]. -/
  acc : List (Nat × List F32) := []
  /-- Drain latches: rows that no DRN has taken [R139; 4×32×32; none]. -/
  latch : Option (List (Nat × List F32)) := none
  /-- An issued MMA has no DRN issued after it [R160; 1; 0]. -/
  undrained : Bool := false
  /-- Banks loaded by a WLD that this task issued [R485; 2; 0]. -/
  ownBanks : List Nat := []
  /-- END has been issued and waits [R154; 1; 0]. -/
  ending : Bool := false
  /-- The core serves as a checker [R484; 1; 0]. -/
  checking : Bool := false
  /-- CORE_ACT_A, CORE_ACT_B, CORE_SKIP_A, CORE_SKIP_B, CORE_SLOW_A, CORE_SLOW_B, keyed 0 to 5 [R165; 6×32; 0]. -/
  counts : Tbl W32 := []
  deriving DecidableEq, Repr

/-- The kinds of a VE summary accumulator (R222). -/
inductive QKind where
  | max | min | sum | cnz | anyNf
  deriving DecidableEq, Repr

/-- One VE context (R212, R243). -/
structure Ve where
  /-- A program runs [R243 RUN; 1; 0]. -/
  run : Bool := false
  /-- Instruction being issued [R243 PC; 11; 0]. -/
  pc : Nat := 0
  /-- VEND has been issued and waits [R219; 1; 0]. -/
  ending : Bool := false
  /-- V0 to V31, lane values keyed by 128·register + lane [R212; 32×128×32; 0 (R208)]. -/
  v : Tbl W32 := []
  /-- M1 to M7 [R212; 7×256; 0 (R208)]. -/
  m : Tbl (BitVec 256) := []
  /-- VLEN [R212; 9; 0 (R208)]. -/
  vlen : Nat := 0
  /-- VA0 to VA7 [R212; 8×32; 0 (R208)]. -/
  va : Tbl W32 := []
  /-- VL0 to VL3: remaining passes [R212; 4×12; 0 (R208)]. -/
  vl : Tbl Nat := []
  /-- Open loops, innermost first [R219; List; empty]. -/
  loops : List (Nat × Nat) := []
  /-- Current TID [R212; 8; 0 (R208)]. -/
  tid : Nat := 0
  /-- Q0 to Q7 with their kinds [R212; 8×64; empty]. -/
  q : Tbl (Option (QKind × W64)) := []
  /-- VE_ISSUE counter of the slot [R243; 32; 0]. -/
  issued : W32 := 0
  deriving DecidableEq, Repr

/-- Why a CCC context stalls (R230 to R232). -/
inductive Stall where
  | task (a b c : Nat)
  | vrun (a entry : Nat)
  | dma (w : W32)
  | wait (cores : BitVec 24) (ve q0 q1 : Bool)
  | summary
  | ending
  deriving DecidableEq, Repr

/-- One CCC context (R227, R244). -/
structure Ccc where
  /-- The cluster task it runs: descriptor table (0 main, 1 deep, 2 fill), index, m, tag [R227; Option; none]. -/
  task : Option (Nat × Nat × Nat × W16) := none
  /-- PC [R227; 11; 0 (R208)]. -/
  pc : Nat := 0
  /-- S1 to S31 [R227; 31×64; 0 (R208)]. -/
  s : Tbl W64 := []
  /-- The stall in force [R230; Option; none]. -/
  stall : Option Stall := none
  /-- Faulted or stopped: waits for its running agents and is then reported [R233; 1; 0]. -/
  faulted : Bool := false
  deriving DecidableEq, Repr

/-- One cluster DMA transfer, as described when the DMA instruction issued (R235). -/
structure Xfer where
  sfmt : Nat
  dfmt : Nat
  tid : Nat
  src : W64
  dst : W64
  elems : Nat
  rows : Nat
  sstride : Nat
  dstride : Nat
  sscale : W64
  dscale : W64
  ibase : W32
  /-- The transfer has begun. -/
  running : Bool := false
  /-- Its rows have been read and converted, and its writes issued. -/
  moved : Bool := false
  /-- Bytes that other chips have returned, keyed by global address. -/
  got : Tbl Byte := []
  deriving DecidableEq, Repr

/-- One DMA context (R234, R242). -/
structure Dma where
  q0 : List Xfer := []
  q1 : List Xfer := []
  /-- Bytes written; CLU_DMA_A or CLU_DMA_B is this count in units of 32 [R242; 37; 0]. -/
  count : BitVec 37 := 0
  deriving DecidableEq, Repr

/-- One cluster's map (R242). -/
structure Clu where
  /-- CLU_MAP.LOST [R242; 5; 0x1F]. -/
  lost : Nat := 0x1F
  /-- CLU_MAP.SPARED [R242; 5; 0x1F]. -/
  spared : Nat := 0x1F
  deriving DecidableEq, Repr

/-- ECC condition of a stored 64-bit word or granule (R290, R301). -/
inductive EccSt where
  | ok | correctable | uncorrectable
  deriving DecidableEq, Repr

/-- A 2 MiB page's attribute: owner (0 operator, 1, 2) and epoch; none is unassigned (R302). -/
abbrev PageAttr := Option (Nat × Nat)

/-- Channel states of LPX_CHAN (R297, R298, R318). -/
inductive ChanSt where
  | present | failing | retired | armed
  deriving DecidableEq, Repr

/-- One LPDDR5X stack (R299, R318). -/
structure Stack where
  /-- LPX_STAT.INIT [R318; 1; 0]. -/
  initializing : Bool := false
  /-- LPX_STAT.TRAIN [R318; 1; 0]. -/
  training : Bool := false
  /-- LPX_STAT.SCRUB [R318; 1; 0]. -/
  scrub : Bool := false
  /-- LPX_STAT.THROTTLE [R318; 1; 0]. -/
  throttle : Bool := false
  /-- LPX_STAT.DERATE [R318; 1; 0]. -/
  derate : Bool := false
  /-- Milliseconds for which the case has read 92 °C or less while throttled [R299; Nat; 0]. -/
  coolMs : Nat := 0
  /-- LPX_CHAN.CSTATE, keyed by channel [R318; 16×2; Present]. -/
  chans : Tbl ChanSt := []
  /-- Armed channels that have met a Failing condition [R298; List; empty]. -/
  alsoFailing : List Nat := []
  /-- Margins of each channel as the last training found them [R296; table; none]. -/
  margins : Tbl (List Nat) := []
  /-- LPX_TEMP.TEMP in °C [R318; 8; 0x00]. -/
  temp : Byte := 0
  /-- LPX_ECC_CORR [R318; 32; 0]. -/
  corr : W32 := 0
  /-- LPX_ECC_UNC [R318; 32; 0]. -/
  unc : W32 := 0
  /-- Uncorrectable errors seen: channel, granule offset, RT [R298; List; empty]. -/
  uncLog : List (Nat × Nat × W64) := []
  deriving DecidableEq, Repr

/-- A stash page (R309, R310): pool page index or spill unit index. -/
inductive StashLoc where
  | pool (i : Nat)
  | spill (i : Nat)
  deriving DecidableEq, Repr

/-- The memory side of one die (R286 to R312, R317). -/
structure Srm where
  /-- SRM_REPAIR.USED [R317; 16; 0]. -/
  used : W16 := 0
  /-- SRM_REPAIR.LEFT [R317; 16; 0]. -/
  left : W16 := 0
  /-- SRM_ECC_CORR [R317; 32; 0]. -/
  corr : W32 := 0
  /-- SRM_ECC_UNC [R317; 32; 0]. -/
  unc : W32 := 0
  /-- Stash directory: slot, m, page, place [R310; List; empty]. -/
  stash : List (Nat × Nat × Nat × StashLoc) := []
  /-- Bytes of the listed stash pages written in the step: slot, m, first byte, count [R310; List; empty]. -/
  written : List (Nat × Nat × Nat × Nat) := []
  /-- Pages held at most by any micro-batch of the step, by slot and m [R311; List; empty]. -/
  peak : List (Nat × Nat × Nat) := []
  /-- Rows marked for repair, with the RTs of corrected errors by row [R489; tables; empty]. -/
  marked : List Nat := []
  rowCorr : Tbl (List W64) := []
  /-- RTs of REALM_TAG_MISMATCH on the die [R490; List; empty]. -/
  mismatches : List W64 := []
  deriving DecidableEq, Repr

end Sys2Proof.Machine
end

