-- ==== Sys2Proof/Machine/PartsLink.lean ====
section
/-! DEFINITION. The component records of the optical layer, Rack Time and the fabric (chapters 12 to 14). Field
docstrings end in a tag [rule; width; reset value]; `DC n` marks a reset value the spec does not give (log entry n). -/

namespace Sys2Proof.Machine

/-- One comb laser (R349 to R354, R385). -/
structure Laser where
  /-- LAS_STAT.BUS; none is 0xF [R385; 4; 0xF]. -/
  bus : Option Nat := none
  /-- LAS_STAT.HOT [R385; 1; 0]. -/
  hot : Bool := false
  /-- LAS_STAT.WORN [R385; 1; 0]. -/
  worn : Bool := false
  /-- LAS_BIAS.BIAS in 0.1 mA [R385; 16; 0x0000]. -/
  bias : W16 := 0
  /-- LAS_POWER.MEAN in 0.01 mW [R385; 16; 0x0000]. -/
  mean : W16 := 0
  /-- LAS_POWER.MIN in 0.01 mW [R385; 16; 0x0000]. -/
  min : W16 := 0
  /-- The laser has failed [R353; 1; 0]. -/
  failed : Bool := false
  /-- The laser was replaced by SPARE_SWAP [R354; 1; 0]. -/
  retired : Bool := false
  /-- The laser is being started, as a hot spare (none) or for a dark bus in place of a failed laser [R353; Option; none]. -/
  starting : Option (Option (Nat × Nat)) := none
  deriving DecidableEq, Repr

/-- States of a ring (R355). -/
inductive RingSt where
  | off | sweep | locked | hold | lost
  deriving DecidableEq, Repr

/-- One optical ring (R355 to R363). -/
structure OptRing where
  /-- State [R355; enum; OFF]. -/
  st : RingSt := .off
  /-- Heater power in µW [R363; 32; DC 3]. -/
  heater : W32 := 0
  /-- Monitor reading [R363; 16; DC 3]. -/
  monitor : W16 := 0
  /-- Lock target given by SETST [R363; 32; DC 3]. -/
  target : W32 := 0
  /-- Comb line the ring is locked to [R350; 4; DC 3]. -/
  line : Nat := 0
  /-- Exclusion list, at most two lines [R358; List; empty]. -/
  excl : List Nat := []
  /-- Feed-forward coefficients for Q0 to Q3 [R359; 4×32; DC 3]. -/
  ff : Tbl W32 := []
  /-- Feed-forward offset in force, in µW, signed [R359; 32; DC 3]. -/
  ffOffset : W32 := 0
  deriving DecidableEq, Repr

/-- One lock sequencer (R361, R363, R385). -/
structure Seq where
  /-- LCK_STAT.RUN [R385; 1; 0]. -/
  run : Bool := false
  /-- LCK_PC.PC [R385; 12; 0]. -/
  pc : Nat := 0
  /-- G1 to G15 [R361; 15×32; DC 3]. -/
  g : Tbl W32 := []
  /-- A WAIT is in progress, in units of 100 ns [R363; Option; none]. -/
  waiting : Option Nat := none
  /-- LCK_STAT.FF [R385; 1; 0]. -/
  ff : Bool := false
  /-- The last forecast word applied [R359; 4×8; DC 3]. -/
  forecast : List Nat := []
  /-- Calibration entries [R363; table; DC 3]. -/
  cal : Tbl W32 := []
  /-- LCK_TEMP.TEMP in 0.01 °C [R385; 16; 0x0000]. -/
  temp : W16 := 0
  /-- Records posted to the CP, oldest first: kind, B, C [R363; List; empty]. -/
  posts : List (Nat × W32 × W32) := []
  /-- RTs of LOCK_SEQ_FAULT [R364; List; empty]. -/
  faults : List W64 := []
  deriving DecidableEq, Repr

/-- A packet (R424). -/
structure Packet where
  kind : Nat
  hops : Nat
  dst : Nat
  src : Nat
  offset : Nat
  tag : W32
  step : Byte
  slot : Nat
  die : Nat
  aux : Nat
  aux2 : W64
  /-- Bytes requested (READ) or carried. -/
  len : Nat
  payload : List Byte
  deriving DecidableEq, Repr

/-- A frame (R367, R369, R370), its codewords decoded and its body as packets or raw bytes. -/
structure Frame where
  typ : Nat
  seqNo : W16 := 0
  /-- ACK with ACKV. -/
  ack : Option (BitVec 10) := none
  /-- Codewords, 1 to 16. -/
  cw : Nat := 1
  epoch : Nat := 0
  realm : Nat := 0
  partition : Nat := 0
  depart : Bool := false
  winter : Bool := false
  nf : Bool := false
  packets : List Packet := []
  /-- Body bytes of control, identity and timestamp frames. -/
  body : List Byte := []
  /-- The GCM tag of a sealed frame. -/
  tag : List Byte := []
  deriving DecidableEq, Repr

/-- LNK_STAT.PSTATE (R385). -/
inductive PState where
  | dark | training | up | hold | switching | down | quarantined
  deriving DecidableEq, Repr

/-- One link engine: an external port or an on-package group pair (R375 to R385, R443). -/
structure Link where
  /-- LNK_STAT.PSTATE [R385; 4; dark]. -/
  pst : PState := .dark
  /-- LNK_STAT.WINTER_RX [R385; 1; 0]. -/
  winterRx : Bool := false
  /-- LNK_STAT.DEPART_RX [R385; 1; 0]. -/
  departRx : Bool := false
  /-- The last frame received carried DEPART [R381; 1; 0]. -/
  lastDepart : Bool := false
  /-- LNK_STAT.ENC [R385; 1; 0]. -/
  enc : Bool := false
  /-- LNK_STAT.REPLAY [R385; 1; 0]. -/
  replay : Bool := false
  /-- LNK_LANES.TXSET [R385; 10; 0x000]. -/
  txSet : BitVec 10 := 0
  /-- LNK_LANES.RXSET [R385; 10; 0x000]. -/
  rxSet : BitVec 10 := 0
  /-- LNK_MAP_TX, nibble n for lane Ln [R385; 32; 0xFFFF_FFFF]. -/
  mapTx : W32 := 0xFFFFFFFF
  /-- LNK_MAP_RX [R385; 32; 0xFFFF_FFFF]. -/
  mapRx : W32 := 0xFFFFFFFF
  /-- LNK_RTT.RTT [R385; 16; 0x0000]. -/
  rtt : W16 := 0
  /-- LNK_REPLAYS [R385; 32; 0]. -/
  replays : W32 := 0
  /-- LNK_DROPS [R385; 32; 0]. -/
  drops : W32 := 0
  /-- FEC_CW_CORR [R385; 32; 0]. -/
  cwCorr : W32 := 0
  /-- FEC_CW_UNC [R385; 32; 0]. -/
  cwUnc : W32 := 0
  /-- FEC_SYMp [R385; 10×32; 0]. -/
  sym : Tbl W32 := []
  /-- Sequence number of the next data or reduction frame sent [R375; 16; DC 3]. -/
  txSeq : W16 := 0
  /-- Sequence number expected next [R375; 16; DC 3]. -/
  rxSeq : W16 := 0
  /-- A frame has been received in order, so ACK is valid [R369; 1; 0]. -/
  rxAny : Bool := false
  /-- No sealed frame has been opened since the port came up [R460; 1; 1]. -/
  fresh : Bool := true
  /-- A NAK was sent: later frames are discarded until the expected one arrives [R375; 1; 0]. -/
  discarding : Bool := false
  /-- Unacknowledged frames with their resend counts, oldest first, at most 128 [R376; List; empty]. -/
  unacked : List (Frame × Nat) := []
  /-- Frames held back: the window is full or the link is not up [R376, R382; List; empty]. -/
  held : List Frame := []
  /-- PORT_DOWN has been logged and PORT_UP has not followed [R382; 1; 0]. -/
  wasDown : Bool := false
  /-- Dropped receive positions with their causes [R378; List; empty]. -/
  dropped : List (Nat × Nat) := []
  /-- LANESET request outstanding: the wanted receive mask and the cause [R378; Option; none]. -/
  wantRx : Option (BitVec 10 × Nat) := none
  /-- Positions whose training runs [R379; 10; 0]. -/
  trainMask : BitVec 10 := 0
  /-- RTs of automatic restorations by position [R379; table; empty]. -/
  restores : Tbl (List W64) := []
  /-- Positions that stay dropped until LANE_RETRAIN [R379, R384; List; empty]. -/
  stuck : List Nat := []
  /-- Stage of R384 per receive position: 1 local sweep done, 2 RESWEEP sent [R384; table; 0]. -/
  tagStage : Tbl Nat := []
  /-- Transmit and receive spare positions in use as (lane, position) [R380; List; empty]. -/
  sparesTx : List (Nat × Nat) := []
  sparesRx : List (Nat × Nat) := []
  deriving DecidableEq, Repr

/-- Outcome of a port in discovery (R417). -/
inductive PortOut where
  | notIn | accepted | remapped | noLight | quarantined | refused | extra | pending | noPlan
  deriving DecidableEq, Repr

/-- One port entry of discovery (R409 to R417). -/
structure PortRec where
  out : PortOut := .notIn
  /-- Assigned kind: 0 dark, 1 neighbour, 2 global; and neighbour index. -/
  kind : Nat := 0
  nbr : Nat := 0
  /-- Quarantine cause of R413. -/
  cause : Nat := 0
  peerChip : Nat := 0xFFFF
  peerPort : Nat := 0xFF
  peerSerial : W64 := 0
  peerFw : W32 := 0
  peerVariant : Nat := 0
  proto : Nat := 0
  peerPartition : Nat := 0
  /-- A peer frame that passed R372 steps 1 to 4 has been received (HEARD). -/
  heard : Bool := false
  /-- This end has judged the port: true ACCEPT, false REFUSE. -/
  judged : Option Bool := none
  /-- Training has ended, so identity frames are exchanged. -/
  trained : Bool := false
  /-- The receiver sees light on the port. -/
  light : Bool := false
  /-- Both ends have shown ACCEPT since the port last came up. -/
  opened : Bool := false
  deriving DecidableEq, Repr

/-- A neighbour entry of a plan (R405). -/
structure Nbr where
  index : Nat
  minPorts : Nat
  chip : Nat
  serial : W64
  remotePort : List Nat
  deriving DecidableEq, Repr

/-- A fabric plan (R404, R406). -/
structure Plan where
  adopt : Bool
  timeRoot : Bool
  sameRack0 : Bool
  sameRack1 : Bool
  chip : Nat
  minProto : Nat
  serial : W64
  fabricId : W64
  globalMin : Nat
  timePort0 : Option Nat
  timePort1 : Option Nat
  nbrs : List Nbr
  /-- LO, HI, NEXT. -/
  routes : List (Nat × Nat × Nat)
  digest : List Byte
  deriving DecidableEq, Repr

/-- A light plan (R422): per port its (die, group), per transmit group its (die, receive group). -/
structure LightPlan where
  portSrc : List (Option (Nat × Nat))
  pkgDst : List (Option (Nat × Nat))
  deriving DecidableEq, Repr

/-- The discovery that runs or ran last (R409, R417, R418). -/
structure Disc where
  running : Bool := false
  /-- Ports covered. -/
  ports : List Nat := []
  startRt : W64 := 0
  endRt : W64 := 0
  /-- The command that waits for its end (R133). -/
  cmd : Option (Nat × Nat × Nat) := none
  deriving DecidableEq, Repr

/-- A packet that a link or the die fabric has delivered (R375, R460): `link` 96 is the die fabric. -/
structure RxPkt where
  pkt : Packet
  link : Nat
  realm : Nat
  /-- The frame was not sealed, or its tag has verified. -/
  opened : Bool
  /-- It came in a reduction frame, with this NF bit. -/
  red : Bool
  nf : Bool
  stamp : W64
  deriving DecidableEq, Repr

/-- A signal on its way to a scoreboard (R261 to R263). -/
structure Sig where
  slot : Nat
  die : Nat
  /-- Entry of the slot, 0 to 2,047. -/
  entry : Nat
  amount : Nat
  step : Byte
  fill : Bool
  /-- The instance that sends it: table (2 fill), descriptor, micro-batch. -/
  src : Nat × Nat × Nat
  deriving DecidableEq, Repr

/-- Who waits for a remote transaction (R428). -/
inductive TxnWho where
  | dma (die cluster slot queue : Nat)
  | col (die slot op m : Nat)
  /-- A CHECKPOINT_RESTORE from a buddy: port, ring and number of its command. -/
  | pull (port ring no : Nat)
  deriving DecidableEq, Repr

/-- A remote transaction in flight (R428). -/
structure Txn where
  tag : W32
  who : TxnWho
  dst : Nat
  port : Option Nat
  /-- READ: where the data go. -/
  into : Option Nat
  /-- Bytes requested or carried. -/
  bytes : Nat
  issued : W64
  deriving DecidableEq, Repr

/-- A CHECKPOINT_RESTORE that reads a buddy's region (R344). -/
structure Pull where
  port : Nat
  ring : Nat
  no : Nat
  /-- The job's slot; the buddy's chip, and the region's offset there. -/
  slot : Nat
  chip : Nat
  base : Nat
  /-- Headers of the two slots of the region, as they arrive. -/
  heads : List (Nat × List Byte) := []
  /-- Offset and bytes of the checkpoint being read, once the headers are in. -/
  body : Option (Nat × Nat) := none
  /-- Pieces of it that have arrived, by offset. -/
  got : List (Nat × List Byte) := []
  deriving DecidableEq, Repr

/-- An instance of a collective op (R431 to R438). -/
structure ColRun where
  die : Nat
  slot : Nat
  op : Nat
  m : Nat
  /-- Ranks whose contribution, chunk or elements have been received. -/
  got : List Nat := []
  /-- Contributions that have arrived and are not added yet: rank, position, length, and the bytes of one whose turn it
  is; one ahead of its turn waits in STAGE (R433). -/
  staged : List (Nat × Nat × Nat × Option (List Byte)) := []
  /-- Next rank to be added (RS). -/
  nextRank : Nat := 0
  /-- Barrier rounds done, and the latest stamp: RT, chip, die. For BUDDY, the item of R343 in progress. -/
  round : Nat := 0
  /-- BUDDY: complete checkpoints found in the two slots, by slot, and the slot written to. -/
  found : List (Nat × W64) := []
  half : Nat := 0
  latest : W64 × Nat × Nat := (0, 0, 0)
  own : W64 := 0
  /-- BARRIER packets received early, keyed by round. -/
  early : Tbl (Option (W64 × Nat × Nat)) := []
  /-- Window of R438: start and end. -/
  window : Option (W64 × W64) := none
  /-- Every send has been issued. -/
  sent : Bool := false
  /-- Bytes of REDUCE packets taken whose stamp is at or after the window's end (R398, R438). -/
  after : Nat := 0
  /-- RSIG has been sent. -/
  signalled : Bool := false
  /-- BUDDY: it waited for the end of a Solstice, and its step has ended (R333). -/
  held : Bool := false
  deriving DecidableEq, Repr

/-- Collective engine counters of one die (R442). -/
structure ColCnt where
  /-- COL_TX_A, COL_TX_B, COL_RX_A, COL_RX_B, COL_LATE, COL_FAULTS, keyed 0 to 5 [R442; 6×32; 0]. -/
  counts : Tbl W32 := []
  /-- DFB_TRANSIT and DFB_DROPS, keyed 0 and 1 [R443; 2×32; 0]. -/
  dfb : Tbl W32 := []
  deriving DecidableEq, Repr

/-- An entry of the last-arriver log (R437). -/
structure BarEntry where
  seqNo : Nat
  job : W16
  realm : Nat
  kind : Nat
  step : W64
  ownRt : W64
  lastRt : W64
  doneRt : W64
  lastChip : Nat
  groupSize : Nat
  op : Nat
  lastDie : Nat
  deriving DecidableEq, Repr

/-- What an armed instant does when it fires (R395). -/
inductive Instant where
  | lightSwitch (slot : Nat)
  | equinox0
  | jobStart (slot : Nat)
  | stepControl (slot action steps : Nat)
  | linkEpoch (realm : Nat)
  deriving DecidableEq, Repr

/-- One time port's exchange state (R393). -/
structure TimePort where
  /-- Kept exchanges, newest first, at most 8: θ and δ. -/
  kept : List (Int × Int) := []
  /-- δ of the first exchange kept since the port came up. -/
  first : Option Int := none
  /-- The neighbour's DIST and CORR as last received. -/
  dist : Nat := 0xFF
  peerCorr : W64 := 0
  /-- The last frame carried VALID and REF_OK. -/
  usable : Bool := false
  deriving DecidableEq, Repr

/-- The Rack Time unit (R387 to R402). -/
structure Rtb where
  /-- RAW [R387; 64; 0 (R389)]. -/
  raw : W64 := 0
  /-- CORR, signed [R387; 64; 0]. -/
  corr : W64 := 0
  /-- RTB_STAT.VALID [R402; 1; 0]. -/
  valid : Bool := false
  /-- RTB_STAT.SYNC_BAD [R402; 1; 0]. -/
  syncBad : Bool := false
  /-- RTB_STAT.HOLDOVER [R402; 1; 0]. -/
  holdover : Bool := false
  /-- RTB_STAT.SYNC_LOST [R402; 1; 0]. -/
  syncLost : Bool := false
  /-- A sync pulse has been seen since PD77 reached On [R389; 1; 0]. -/
  firstSync : Bool := false
  /-- P: signed adjustments of RAW still to be applied [R391; Int; 0]. -/
  slewRaw : Int := 0
  /-- Signed adjustments of CORR still to be applied [R388; Int; 0]. -/
  slewCorr : Int := 0
  /-- The next adjustment goes to CORR when both are due [R388; 1; 0]. -/
  turnCorr : Bool := false
  /-- The offset held unconfirmed from the previous pulse [R391; Option; none]. -/
  unconfirmed : Option Int := none
  /-- RT_LOAD waiting for the next sync pulse: value, port, fetch number [R390; Option; none]. -/
  load : Option (W64 × Nat × Nat) := none
  /-- The armed-instant table, at most 256 entries [R395; List; empty]. -/
  armed : List (W64 × Instant) := []
  /-- Time port 0 and time port 1 [R392; records; empty]. -/
  tp0 : TimePort := {}
  tp1 : TimePort := {}
  /-- RTB_STAT.TSRC [R402; 2; 0b11]. -/
  tsrc : BitVec 2 := 3
  /-- RTB_OFFSET.THETA [R402; 32; 0]. -/
  theta : W32 := 0
  /-- RTB_DELAY.DELTA [R402; 32; 0]. -/
  delta : W32 := 0
  /-- RTB_SLIPS [R402; 32; 0]. -/
  slips : W32 := 0
  /-- RTB_LOSSES [R402; 32; 0]. -/
  losses : W32 := 0
  /-- TX and arrival stamp of the last timestamp frame received, by port [R392; table; none]. -/
  echo : Tbl (W64 × W64) := []
  /-- An excursion of RT_OFFSET_HIGH has been logged [R394; 1; 0]. -/
  offsetHigh : Bool := false
  deriving DecidableEq, Repr

/-- The fabric (R403 to R428). -/
structure Fabric where
  /-- Plan in force [R403; Option; none]. -/
  plan : Option Plan := none
  /-- Division in force: PORT bytes [R408; 32×8; dark]. -/
  division : List Byte := []
  /-- Partition in force [R419; 12; 0xFFF at manufacture, then from flash]. -/
  partition : Nat := 0xFFF
  /-- Port entries [R417; table; not in division]. -/
  ports : Tbl PortRec := []
  disc : Disc := {}
  /-- Light plans in slots 0 to 7 [R421; table; empty]. -/
  plans : Tbl (Option LightPlan) := []
  /-- PHL_STAT.PLAN [R385; 3; 0]. -/
  planNo : Nat := 0
  /-- PHL_STAT.SWITCHING [R385; 1; 0]. -/
  switching : Bool := false
  /-- Slots of light-plan switches whose instant has fired [R366, R396; List; empty]. -/
  due : List Nat := []
  /-- Links held by the switch in progress [R366; List; empty]. -/
  switched : List Nat := []
  /-- Remote transactions in flight [R428; List; empty]. -/
  txns : List Txn := []
  /-- Restores from a buddy under way [R344; List; empty]. -/
  pulls : List Pull := []
  /-- Next transaction tag [R424; 32; DC 3]. -/
  nextTag : W32 := 0
  /-- Packets delivered and not yet handled, oldest first [R375; List; empty]. -/
  inbox : List RxPkt := []
  /-- Collective packets for an instance not yet dispatched, or for the next step [R433, R439; List; empty]. -/
  early : List RxPkt := []
  /-- Writes received from members, not yet claimed by a collective instance: slot, offset, bytes [R431; List;
  empty]. -/
  landed : List (Nat × Nat × Nat × W64) := []
  /-- Signals of instances that are done, before their release [R261; List; empty]. -/
  owed : List Sig := []
  /-- Signals on their way [R262; List; empty]. -/
  sigs : List Sig := []
  /-- Running collective instances [R432; List; empty]. -/
  runs : List ColRun := []
  /-- Completed collective instances of the step: (die, slot, op, m) [R432; List; empty]. -/
  colDone : List (Nat × Nat × Nat × Nat) := []
  /-- Collective counters by die [R442; table; 0]. -/
  cnt : Tbl ColCnt := []
  /-- The last-arriver log, newest first, at most 1,024 [R437; List; empty]. -/
  barLog : List BarEntry := []
  /-- Entries written since Spring [R437; 32; 0]. -/
  barSeq : Nat := 0
  deriving DecidableEq, Repr

end Sys2Proof.Machine
end

