-- ==== Sys2Proof/Machine/PartsService.lean ====
section
/-! DEFINITION. The component records of security, reliability, management and module flash (chapters 03 and 15 to
17). Field docstrings end in a tag [rule; width; reset value]; `DC n` marks a reset value the spec does not give
(log entry n). -/

namespace Sys2Proof.Machine

/-- States of a tenant realm (R448). -/
inductive RealmSt where
  | closed | opened | keyed | winter
  deriving DecidableEq, Repr

/-- A tenant realm (R448 to R453, R463, R477). -/
structure Realm where
  /-- State [R448; 2; Closed]. -/
  st : RealmSt := .closed
  /-- Port of the host that opened it [R449; Option; none]. -/
  owner : Option Nat := none
  /-- VISIBLE [R449; 4; 0]. -/
  visible : BitVec 4 := 0
  /-- REALM_ID [R451; 128; destroyed]. -/
  realmId : List Byte := []
  /-- Secrets S of the live epochs, keyed by epoch [R444; table; none]. -/
  secrets : Tbl (List Byte) := []
  /-- Checkpoint secret C [R444; 512; destroyed]. -/
  ckpt : List Byte := []
  /-- Newest epoch [R480; 2; 0]. -/
  epoch : Nat := 0
  /-- Two epochs are live [R480; 1; 0]. -/
  two : Bool := false
  /-- LINK_AT of the rotation has passed, so new frames use the newest epoch [R453; 1; 0]. -/
  linkNew : Bool := false
  /-- LINK_AT of the rotation [R453; 64; 0]. -/
  linkAt : W64 := 0
  /-- The page sweep of the rotation runs [R304; 1; 0]. -/
  sweeping : Bool := false
  /-- Nonce of the last report completed with OK on the ring, and whether it has been used [R451; Option; none]. -/
  anchor : Option (List Byte × Bool) := none
  /-- XFER_SEQ: sealed DMA_COPY commands begun since KEY_DELIVER [R457; 64; 0]. -/
  xferSeq : W64 := 0
  /-- The REALM_CLOSE that runs Winter: port, ring, fetch number, buffer [R477; Option; none]. -/
  closeCmd : Option (Nat × Nat × Nat × W64 × W64) := none
  /-- It waited for the end of a Solstice [R127; 1; 0]. -/
  closeDeferred : Bool := false
  /-- Winter step in progress, 1 to 6 [R477; Option; none]. -/
  winterStep : Option Nat := none
  /-- REALM_ID as the clean report names it, kept from the end of step 5 [R477; 128; none]. -/
  winterId : List Byte := []
  /-- RT at the start of Winter [R477; 64; 0]. -/
  winterFrom : W64 := 0
  deriving DecidableEq, Repr

/-- The security engine and the attestation block (R444 to R481). -/
structure Sec where
  r1 : Realm := {}
  r2 : Realm := {}
  /-- Realm bound to slot A: none, or 0 operator, 1, 2 [R450; Option; none]. -/
  bindA : Option Nat := none
  /-- Realm bound to slot B [R450; Option; none]. -/
  bindB : Option Nat := none
  /-- Draw of the operator realm's memory key [R302; 512; DC 1]. -/
  opKey : Nat := 0
  /-- A debug session is open [R480 DBG_OPEN; 1; 0]. -/
  dbgOpen : Bool := false
  /-- SEC_GRANT.GRANT [R480; 8; 0x00]. -/
  grant : Byte := 0
  /-- Grants other than REG_READ used since Spring [R480 DBG_USED; 1; 0]. -/
  dbgUsed : Bool := false
  /-- Any session since Spring [R462 DEBUG_STATE; 1; 0]. -/
  dbgEver : Bool := false
  /-- SEC_DENY [R480; 32; 0]. -/
  deny : W32 := 0
  /-- ATT_REPORTS [R481; 32; 0]. -/
  reports : W32 := 0
  /-- Frame counters of link keys, keyed by `linkKeyId` [R459; table; 0]. -/
  txCtr : Tbl Nat := []
  /-- Counter of the last frame delivered under a link key, plus one [R460; table; 0]. -/
  rxCtr : Tbl Nat := []
  deriving DecidableEq, Repr

/-- A held maintenance lock (R502 to R507, R514). -/
structure Lock where
  cls : Nat
  /-- Taken by a command. -/
  host : Bool
  /-- Taken by MAINT_REQUEST (held until release or expiry). -/
  request : Bool
  res : W64
  grantRt : W64
  /-- Expected release RT (R506). -/
  expect : W64
  /-- Containment by routing and feeding as it stood at the grant (R504): the ports and the laser of a die, or the dies
  that contain a port or a laser. -/
  covers : List W64
  deriving DecidableEq, Repr

/-- An internal lock request waiting (R506). -/
structure LockReq where
  cls : Nat
  res : W64
  deriving DecidableEq, Repr

/-- A Sentinel check in progress (R483, R484). -/
structure Check where
  die : Nat
  cluster : Nat
  slot : Nat
  core : Nat
  checker : Nat
  tag : W16
  job : W16
  /-- RT at dispatch. -/
  rt : W64
  /-- The checked core's task has ended. -/
  ended : Bool := false
  deriving DecidableEq, Repr

/-- A margin plan (R499). -/
structure Margin where
  factory : Bool := true
  replan : Bool := false
  pass : Nat := 0
  /-- CLOCK_KHZ. -/
  clockKhz : Nat := 1800000
  rt : W64 := 0
  /-- VGUARD, FMAX, VMIN_SRAM, AGE and EXCLUDED by domain. -/
  domains : Tbl (Nat × Nat × Nat × Nat × Bool) := []
  /-- BIAS_TARGET, LIMIT and SLOPE by laser. -/
  lasers : Tbl (Nat × Nat × Nat) := []
  /-- Line-power target by bus, in 0.01 mW. -/
  bus : Tbl Nat := []
  /-- Proportional gain, integral gain, feed-forward permitted, by sequencer. -/
  gains : Tbl (Nat × Nat × Bool) := []
  /-- Pre-emphasis, CTLE, eye height, spare in use, by 10·port + position. -/
  lanes : Tbl (Nat × Nat × Nat × Bool) := []
  deriving DecidableEq, Repr

/-- The Autumn pass (R495 to R498). -/
structure Autumn where
  /-- AGE_STAT.PASS [R514; 1; 0]. -/
  running : Bool := false
  /-- Number of the pass that runs [R495; Nat; 0]. -/
  number : Nat := 0
  /-- Slices running, with their resources; AGE_STAT.SLICE shows the order of the first [R496, R514; List; none]. -/
  slices : List (Nat × W64) := []
  /-- Highest order of R496 that a slice of the pass has reached [R496; 4; 0]. -/
  order : Nat := 0
  /-- FMAX measured in this pass, by quadrant domain, in MHz [R497; table; none]. -/
  fmax : Tbl Nat := []
  /-- VGUARD, by quadrant domain, in mV [R497; table; 0]. -/
  vguard : Tbl Nat := []
  /-- VMIN_SRAM, by SRAM array domain, in mV [R497; table; 0]. -/
  vmin : Tbl Nat := []
  /-- Near-misses per hour of the timing-error detectors, by quadrant domain [R493, R497; table; 0]. -/
  misses : Tbl Nat := []
  /-- BIAS_TARGET and SLOPE measured, by laser [R497; table; 0]. -/
  bias : Tbl (Nat × Nat) := []
  /-- Eye heights of the spare positions in mV, by 10·port + position [R493; table; 0]. -/
  eyes : Tbl Nat := []
  /-- Clock on its way down to a lowered declared clock, in MHz [R498; Option; none]. -/
  stepMhz : Option Nat := none
  deriving DecidableEq, Repr

/-- Sentinel, ageing, arbiter and the control processor (R482 to R514). -/
structure Rel where
  /-- Checks in progress [R484; List; empty]. -/
  checks : List Check := []
  /-- SNT_SAMPLED [R514; 32; 0]. -/
  sampled : W32 := 0
  /-- SNT_SKIPPED [R514; 32; 0]. -/
  skipped : W32 := 0
  /-- SNT_MISMATCH [R514; 32; 0]. -/
  mismatch : W32 := 0
  /-- MNT_LOCKk, keyed by k [R514; 16 records; not held]. -/
  locks : Tbl (Option Lock) := []
  /-- Internal requests queued, oldest first [R506; List; empty]. -/
  queue : List LockReq := []
  autumn : Autumn := {}
  /-- A contained restart is in progress [R110 CP_RESTART; 1; 0]. -/
  restarting : Bool := false
  /-- The CP is held in reset [R513; 1; 0]. -/
  held : Bool := false
  /-- Cause code and PC of the restart [R510, R511; record; 0]. -/
  cause : Nat := 0
  pc : W64 := 0
  /-- RTs of restarts [R513; List; empty]. -/
  restarts : List W64 := []
  /-- Ticks of unavailable time not yet counted in MNT_UNAVAIL [R501; Nat; 0]. -/
  unavailTicks : Nat := 0
  deriving DecidableEq, Repr

/-- An event record (R524). -/
structure Ev where
  code : W16
  realm : Byte
  job : W16
  count : Nat
  seqNo : Nat
  rt : W64
  unit : W64
  data : List W64
  deriving DecidableEq, Repr

/-- A journal entry (R331, R525). -/
inductive Journal where
  | begin (realm : Nat) (job : W16) (step rt seqNo : W64)
  | done (incomplete : Bool) (realm : Nat) (job : W16) (step rt seqNo : W64)
  | event (e : Ev)
  deriving DecidableEq, Repr

/-- One firmware slot of module flash (R70, R531). -/
structure FwSlot where
  /-- An image is present. -/
  present : Bool := false
  /-- The header is well formed, the chain leads to the fused root, the signature verifies (R70). -/
  headerOk : Bool := false
  chainOk : Bool := false
  sigOk : Bool := false
  svn : Nat := 0
  version : W32 := 0
  /-- Highest link protocol version of the image (R138, R412). -/
  proto : Nat := 1
  cpDigest : List Byte := []
  lseqDigest : List Byte := []
  ucodeDigest : List Byte := []
  /-- Marked unbootable under R533. -/
  unbootable : Bool := false
  deriving DecidableEq, Repr

/-- The staged update (R531). -/
structure Staged where
  image : Bool
  /-- The firmware slot that holds the image: true for slot B. -/
  slotB : Bool
  svn : Nat
  /-- The profile set, four records of 256 bytes. -/
  profiles : Option (List (List Byte))
  deriving DecidableEq, Repr

/-- Module flash and fuses: everything kept without power (R41, R444, R525). -/
structure Flash where
  /-- PROF0 to PROF3 as stored, 256 bytes each [R72; 4×2048; DC 4]. -/
  profiles : Tbl (List Byte) := []
  /-- A stored PROFILE_SELECT override [R71; Option; DC 4: none]. -/
  override : Option Nat := none
  slotA : FwSlot := {}
  slotB : FwSlot := {}
  /-- The active slot is B [R70; 1; DC 4]. -/
  activeB : Bool := false
  staged : Option Staged := none
  /-- A newly activated slot has not yet booted (R533) [R533; 1; DC 4]. -/
  freshSlot : Bool := false
  /-- Anti-rollback fuse value [R533; 64 steps; DC 4]. -/
  fuseSvn : Nat := 0
  /-- CP firmware digest recorded for the current attestation key [R67; Option; DC 4]. -/
  akDigest : Option (List Byte) := none
  /-- Number of attestation keys made: it names the current key [R67; Nat; DC 4]. -/
  akNo : Nat := 0
  serial : W64 := 0
  /-- The stored fabric plan, pending until a covering discovery [R403; Option; DC 4]. -/
  plan : Option Plan := none
  planPending : Bool := false
  /-- The stored partition identifier [R419; 12; 0xFFF]. -/
  partition : Nat := 0xFFF
  margins : Tbl Margin := []
  /-- The journal, newest first, at most 32,768 entries [R525; List; DC 4: empty]. -/
  journal : List Journal := []
  /-- Journal entries programmed since manufacture [R527; Nat; DC 4]. -/
  journalNo : Nat := 0
  /-- Event records logged since manufacture [R524; 64; DC 4]. -/
  evSeq : Nat := 0
  /-- Strikes: core key and RT [R486; List; DC 4: empty]. -/
  strikes : List (Nat × W64) := []
  /-- Conditions recorded at each core's last mismatch, keyed by core [R496; table; DC 4]. -/
  strikeCond : Tbl (List W64) := []
  /-- Cores marked for retirement with causes [R487; List; DC 4: empty]. -/
  marks : List (Nat × Nat) := []
  /-- Cores retired: core key and its spare 24 or 0x1F [R75, R488; List; DC 4: empty]. -/
  retired : List (Nat × Nat) := []
  /-- Repair map: rows replaced, and rows marked, as die and row [R291, R489; List; DC 4: empty]. -/
  repairMap : List (Nat × Nat) := []
  rowsMarked : List (Nat × Nat) := []
  /-- Channels retired or armed, keyed by 80·die + q [R297; table; DC 4: present]. -/
  chans : Tbl ChanSt := []
  /-- MNT_UNAVAIL in ms [R514; 32; from flash, DC 4]. -/
  unavail : W32 := 0
  /-- An interval of unavailability is open [R500; 1; DC 4: no]. -/
  unavailOpen : Bool := false
  /-- AGE_PASS.NUMBER: last completed pass [R514; 32; from flash, DC 4]. -/
  passNo : Nat := 0
  /-- Passes started since manufacture [R495; Nat; DC 4]. -/
  passStarted : Nat := 0
  /-- A pass was interrupted: AUTUMN_END is logged at the next Spring [R498; Option; DC 4: none]. -/
  passAbandoned : Option Nat := none
  deriving DecidableEq, Repr

/-- Where the sideband firmware-update flow stands (R516, R531). -/
inductive UpdSt where
  | idle | learn | ready | download | verify | apply
  deriving DecidableEq, Repr

/-- The PLDM firmware update flow (R516, R531). -/
structure Upd where
  st : UpdSt := .idle
  /-- The state before, and why the flow last became idle, as GetStatus reports them. -/
  prev : UpdSt := .idle
  reason : Nat := 0
  /-- Largest transfer that the update agent takes. -/
  chunk : Nat := 0
  /-- Components of the component table, and those verified. -/
  expect : List Nat := []
  done : List Nat := []
  /-- Component being updated: 1 image, 2 profile set. -/
  comp : Nat := 0
  /-- Size announced and bytes received. -/
  size : Nat := 0
  data : List Byte := []
  /-- Components verified and applied so far. -/
  image : Option FwSlot := none
  profiles : Option (List (List Byte)) := none
  /-- The FW_STAGE lock's handle. -/
  lock : Option Nat := none
  deriving DecidableEq, Repr

/-- An SPDM request whose answer is signed (R467): its code, the slot or the index of measurements, the kind of the
measurement summary, whether a signature is asked for, the nonce, and the token of a deferred answer. -/
structure SpdmReq where
  code : Nat
  param : Nat
  summary : Nat
  sign : Bool
  nonce : List Byte
  token : Nat := 0
  deriving DecidableEq, Repr

/-- A performance profiling session of one ring (R137, R469). -/
structure ProfSess where
  port : Nat
  ring : Nat
  mask : Byte
  period : W64
  addr : W64
  len : W64
  written : W64
  /-- A step ended since the last operator sample (R470). -/
  stepEnds : Nat
  deriving DecidableEq, Repr

/-- Management and telemetry (R515 to R534). -/
structure Mgt where
  /-- MGT_EID.SMBUS [R534; 8; 0x00]. -/
  eidSmbus : Byte := 0
  /-- MGT_EID.PCIE0 [R534; 8; 0x00]. -/
  eidPcie0 : Byte := 0
  /-- MGT_EID.PCIE1 [R534; 8; 0x00]. -/
  eidPcie1 : Byte := 0
  /-- PLDM terminus ID [R516; 8; DC 3]. -/
  tid : Byte := 0
  /-- Event receiver set by SetEventReceiver [R516; Option; none]. -/
  evReceiver : Option Byte := none
  /-- Buffer size of EventMessageBufferSize [R516; 16; DC 3]. -/
  evBuf : W16 := 0
  /-- PLDM event queue, oldest first, at most 256 [R529; List; empty]. -/
  evq : List Ev := []
  /-- MGT_EVQ.DROPPED [R534; 16; 0x0000]. -/
  dropped : Nat := 0
  /-- MGT_RX [R534; 32; 0]. -/
  rx : W32 := 0
  /-- MGT_ERR [R534; 32; 0]. -/
  err : W32 := 0
  /-- Hardware event queue, oldest first, at most 1,024 [R522; List; empty]. -/
  hwq : List Ev := []
  /-- Events counted only, while the queue was full [R522; Nat; 0]. -/
  lost : Nat := 0
  /-- The event log, newest first, at most 8,192 [R525; List; empty at Spring]. -/
  log : List Ev := []
  /-- Latest telemetry sample by set [R519; table; empty]. -/
  samples : Tbl (List Byte) := []
  /-- RT of the latest sample [R519; 64; 0]. -/
  sampleRt : W64 := 0
  /-- Means of the last 100 ms window delivered: 0 input power in W, 1 input current in mA, 2 + 2n the power and 3 + 2n
  the current of domain n [R471; table; 0]. -/
  coarse : Tbl Nat := []
  /-- Sums of the same figures over the current window, and the samples taken [R471; table and Nat; 0]. -/
  window : Tbl Nat := []
  windowCnt : Nat := 0
  /-- Step ends since the last operator sample of the counters [R470; Nat; 0]. -/
  stepEnds : Nat := 0
  /-- Counters since then: samples, occupancy, bytes read, written, sent, received [R470; 6 × Nat; 0]. -/
  cntAcc : List Nat := []
  /-- The same of the last interval delivered [R470; 6 × Nat; 0]. -/
  cntOut : List Nat := []
  upd : Upd := {}
  /-- SPDM requests of the negotiation served, 0 to 3 [R467; 2; 0]. -/
  spdmStage : Nat := 0
  /-- The request that awaits RESPOND_IF_READY [R467; Option; none]. -/
  spdmWait : Option SpdmReq := none
  /-- Profiling sessions [R137; List; empty]. -/
  sess : List ProfSess := []
  deriving DecidableEq, Repr

/-- What the block sends out: writes to host memory, interrupts, read data, frames and sideband answers. The list of
them is the model's own record of its outputs (log entry 5). -/
inductive Out where
  | hostWrite (port : Nat) (addr : W64) (data : List Byte)
  | msix (port vector : Nat)
  | readData (port bar : Nat) (offset : Nat) (value : W32) (poison : Bool)
  | bar2Data (port offset : Nat) (data : List Byte) (poison : Bool)
  | frame (link : Nat) (f : Frame)
  | packet (p : Packet)
  | spdm (code : Nat) (data : List Byte)
  | mctp (command : Nat) (data : List Byte)
  | pldm (typ command completion : Nat) (data : List Byte)
  | vendor (command : Nat) (data : List Byte)
  | laneSwitch (link : Nat)
  | departure
  deriving DecidableEq, Repr

end Sys2Proof.Machine
end

