-- ==== Sys2Proof/Machine/PartsIn.lean ====
section
/-! DEFINITION. What a command brings from outside the block: operand records of the rows. -/

namespace Sys2Proof.Machine

open Sys2Proof

/-- The physical outcome of a Spring step (R65, R75): only the fields of its own step are read. -/
structure SpringIn where
  /-- Step 1: the level of PROFSEL[1:0] at the latch instant of R71. -/
  profsel : BitVec 2 := 0
  /-- Step 2: self-tests passed and fuses read. -/
  selfTest : Bool := true
  /-- Step 5: flows in 0.01 L/min and inlets in 0.01 °C. -/
  flow0 : Nat := 600
  flow1 : Nat := 200
  tin0 : Int := 3000
  tin1 : Int := 3000
  /-- Step 6: the core microcode of the verified image. -/
  ucode : List Byte := []
  /-- Step 7: the rows that the march test finds failing: die, and row of its SRAM window. -/
  rows : List (Nat × Nat) := []
  /-- Step 9: lasers that started; mean and lowest line power in 0.01 mW by bus; rings locked as (ring key, line). -/
  lasers : List Nat := []
  power : List Nat := []
  low : List Nat := []
  locked : List (Nat × Nat) := []
  /-- Step 9: the lock-sequencer programs of the verified image, one list of words per die. -/
  seqProgs : List (List W32) := []
  deriving DecidableEq, Repr

/-- A frame as it reaches a receiver (R372, R373): the frame, its symbols that arrive wrong (their number in the frame's symbol
stream and the bits that are wrong), and the first check of R372 items 2 to 4 that it fails (0 for none). -/
structure FrameIn where
  f : Frame
  fail : Nat := 0
  errs : List (Nat × Nat) := []
  deriving DecidableEq, Repr

/-- What a check of the Sentinel or an Autumn replay found different (R486), with the conditions. -/
structure DiffIn where
  /-- PC of the first differing DRN and index of the first differing word, or 0x3FF. -/
  pc : Nat := 0
  index : Nat := 0
  /-- The two endings: 0 END, else the fault cause and PC. -/
  end1 : W64 := 0
  end2 : W64 := 0
  /-- Quadrant temperature in 0.1 °C. -/
  temp : Nat := 0
  /-- WF, AF, SKIP_EN and NS of the first differing MMA. -/
  wf : Nat := 0
  af : Nat := 0
  skip : Bool := false
  ns : Bool := false
  deriving DecidableEq, Repr

/-- What the telemetry unit reads at a sample (R519, R520): physical values, and counts since the last sample. -/
structure TelIn where
  /-- Input: mV, mA and W. -/
  vin : Nat := 0
  iin : Nat := 0
  pin : Nat := 0
  /-- Rail mV, mA and W by domain. -/
  rails : Tbl (Nat × Nat × Nat) := []
  /-- Hottest junction in 0.01 °C. -/
  tj : Int := 0
  /-- Flows in 0.01 L/min, inlets and outlets in 0.01 °C. -/
  flow0 : Nat := 0
  flow1 : Nat := 0
  tin0 : Int := 0
  tin1 : Int := 0
  tout0 : Int := 0
  tout1 : Int := 0
  /-- Readings in 0.01 °C: 32 quadrants, 16 SRAM dies, 8 ring banks, 10 lasers, 40 stacks. -/
  temps : List Int := []
  /-- Occupancy in 1/255, by die and by quadrant and slot, 64 values. -/
  occ : List Nat := []
  /-- MB read and written by stack, and MB sent and received by port, since the last sample. -/
  stackMb : Tbl (Nat × Nat) := []
  linkMb : Tbl (Nat × Nat) := []
  deriving DecidableEq, Repr

/-- What the training of a die's LPDDR5X found (R296): the channels that failed it, numbered over the five stacks, and the read and
write margins of the others. -/
structure TrainIn where
  failed : List Nat := []
  margins : List (Nat × List Nat) := []
  deriving DecidableEq, Repr

/-- An update package as it parses (R530): the image with its length and what the checks of R70 find, and the profile
set. -/
structure PkgIn where
  /-- The package is well formed, and its descriptor names this device. -/
  parsed : Bool := true
  image : Option FwSlot := none
  imageLen : Nat := 0
  profiles : Option (List (List Byte)) := none
  deriving DecidableEq, Repr

/-- What a slice of an Autumn pass measured (R493, R496): only the fields of its own order are read. -/
structure SliceIn where
  /-- Quadrant: highest passing replica frequency in MHz, voltage margin at which the replicas pass in mV, and
  near-misses per hour. -/
  mhz : Nat := 0
  mv : Nat := 0
  misses : Nat := 0
  /-- SRAM: lowest passing voltages in mV, by SRAM array domain. -/
  vmin : List (Nat × Nat) := []
  /-- Laser: BIAS_TARGET in 0.1 mA and SLOPE in mW/A. -/
  bias : Nat := 0
  slope : Nat := 0
  /-- Ring: new feed-forward coefficients (ring, quadrant, value). -/
  ff : List (Nat × Nat × W32) := []
  /-- LPDDR5X: stack and channel, and the eye width measured there, in the units of `Config.eyeWidth`. -/
  stack : Nat := 0
  chan : Nat := 0
  width : Nat := 0
  /-- Lane: eye heights of the spare positions (position, mV). -/
  eyes : List (Nat × Nat) := []
  /-- Replay: the cores whose signature differs, with the difference. -/
  diffs : List (Nat × DiffIn) := []
  /-- Commit: AGE by domain, gains by sequencer, equalisation by 10·port + position, which no rule computes. -/
  age : List (Nat × Nat) := []
  gains : List (Nat × Nat × Nat × Bool) := []
  eq : List (Nat × Nat × Nat) := []
  deriving DecidableEq, Repr

end Sys2Proof.Machine
end

