-- ==== Sys2Proof/Syntax.lean ====
section
/-! DEFINITION. The commands of the block: one constructor per row of spec/opcode_table.json. -/

namespace Sys2Proof

open Sys2Proof.Machine

/-- A mailbox command as its row carries it: the port and ring it is served from, its descriptor (R118), and the bytes
that the device reads from the command's host buffers, in the order of its arguments. -/
structure Cmd where
  port : Nat
  ring : Nat
  desc : Desc
  buf : List Byte
  deriving DecidableEq, Repr

/-- The commands, named after the rows of the opcode table. -/
inductive Instr where
  /-- PWR_EN_RISE (R62): PWR_EN rises with P36V within the release thresholds, and Spring starts at step 1. -/
  | pwrEnRise (vin : Nat)
  /-- PWR_EN_FALL (R30): PWR_EN goes low: PWR_GOOD is deasserted, every domain rail is turned off at once, and device state is lost. -/
  | pwrEnFall
  /-- PWR_EN_HOLD_EXPIRY (R543): 200 ms after a recognised PWR_EN fall, a rise that was held starts Spring if PWR_EN is still high. -/
  | pwrEnHoldExpiry
  /-- INPUT_LOCKOUT (R30): P36V crosses the undervoltage or overvoltage lockout threshold, and every rail is turned off with no orderly shutdown. -/
  | inputLockout (vin : Nat)
  /-- INPUT_RELEASE (R30): P36V returns within the release thresholds while PWR_EN is high, and Spring starts from step 1. -/
  | inputRelease (vin : Nat)
  /-- WAKE_N_ASSERT (R42): WAKE_N is held low for 10 µs or more in Dormant and starts Spring; an assertion during entry to Dormant is latched. -/
  | wakeNAssert
  /-- PERST_ASSERT (R114): PERSTn_N goes low: the function's rings go Off, its transfers stop, its BAR2 mappings are removed and its MSI-X table is reset. -/
  | perstAssert (p : Nat)
  /-- PERST_DEASSERT (R63): PERSTn_N goes high, and PCIe link training begins once the port's domain is On. -/
  | perstDeassert (p : Nat)
  /-- LINK_TRAINING_DONE (R63): PCIe link training of a port completes and the link comes up. -/
  | linkTrainingDone (p : Nat)
  /-- LINK_DOWN (R114): A function's PCIe link leaves DL_Active, with the effects on rings, transfers and mappings of R114. -/
  | linkDown (p : Nat)
  /-- FUNCTION_LEVEL_RESET (R114): A Function Level Reset takes the function's rings Off and stops its transfers, without counting toward failover. -/
  | functionLevelReset (p : Nat)
  /-- D3HOT_ENTRY (R114): The function enters D3hot: its rings go Off and fetched commands complete without their completions being written. -/
  | d3hotEntry (p : Nat)
  /-- STEWARD_FAILOVER (R113): The steward's link has been out of DL_Active for 2 s while the peer's link is up, so stewardship and its locks pass to the peer. -/
  | stewardFailover
  /-- THERM_TRIP_N_LOW (R54): THERM_TRIP_N is driven low by the board, and the clocks of the quadrant domains and PD(8d+6) stop within 10 µs. -/
  | thermTripNLow
  /-- THERM_TRIP_N_HIGH (R54): The THERM_TRIP_N line goes high, the stopped clocks restart, and a Solstice that was caught resumes. -/
  | thermTripNHigh
  /-- JUNCTION_TRIP (R54): A package junction sensor reaches 105 °C; the module drives THERM_TRIP_N low and aborts steps that are not in Solstice. -/
  | junctionTrip (temp : Int)
  /-- TRIP_RELEASE (R54): All junctions have read 90 °C or less and both flows have been at their minimums for 10 s, so the module releases its THERM_TRIP_N drive. -/
  | tripRelease (hot : Int)
  /-- DROOP_DETECT (R53): A quadrant's supply falls 5% below its set point, and its core clock is stretched within 10 ns. -/
  | droopDetect (d q : Nat)
  /-- DROOP_END (R53): The supply is back within 2% after at least 64 stretched cycles, and stretching ends. -/
  | droopEnd (d q : Nat)
  /-- THERMAL_POINT_REACHED (R51): A quadrant sensor reaches POINT, and clock throttling of the die begins. -/
  | thermalPointReached (d q : Nat) (temp : Int)
  /-- THROTTLE_STEP (R51): Every 100 µs while throttling, the die's quadrant clocks are lowered by 100 MHz down to 0.6 GHz, or raised after release. -/
  | throttleStep (d : Nat) (temps : List Int)
  /-- THROTTLE_RELEASE_TIMER (R51): The die's sensors have read RELEASE or less for 10 ms, and the clock starts to rise. -/
  | throttleReleaseTimer (d : Nat) (temps : List Int)
  /-- POWER_SAMPLE (R45): Every 10 µs the power-cap loop samples the input power at J1 and updates the 100 µs average. -/
  | powerSample (watts milliamps : Nat)
  /-- POWER_CAP_LOOP_STEP (R45): Every 20 µs the loop compares the average with the cap and lowers or raises the clock of every present quadrant. -/
  | powerCapLoopStep
  /-- POWER_CAP_UNMET_TIMER (R48): The average still exceeds the cap 1 ms after the 4-in-16 limit took effect, so POWER_CAP_UNMET is logged and UNMET is set. -/
  | powerCapUnmetTimer
  /-- CURRENT_LIMIT_RAIL_OFF (R48): 1 ms after an unmet 160 A limit, the input stage turns off every present quadrant domain with cause overcurrent. -/
  | currentLimitRailOff
  /-- COOLANT_LOSS_TIMER (R59): A flow has been below its minimum, or an inlet above 40 °C, for 2 s while running, so the coolant cap is added and FAULT_N goes low. -/
  | coolantLossTimer (f0 f1 : Nat) (t0 t1 : Int)
  /-- COOLANT_CLEAR_TIMER (R59): Both flows and both inlets have been within limits for 10 s, and the coolant cap is removed. -/
  | coolantClearTimer (f0 f1 : Nat) (t0 t1 : Int)
  /-- COOLANT_FLOW_TRIP (R59): A flow has been below 25% of its minimum for 0.5 s, and a thermal trip is driven. -/
  | coolantFlowTrip (f0 f1 : Nat)
  /-- SPRING_COOLANT_RESUME (R66): The flows and inlets come within limits during the Spring wait, and Spring resumes at step 6. -/
  | springCoolantResume (f0 f1 : Nat) (t0 t1 : Int)
  /-- LPX_TEMP_READ (R299): Every 1 ms a stack controller reads the case temperature and applies or ends derating and throttling. -/
  | lpxTempRead (n : Nat) (temp : Int)
  /-- DOMAIN_RAIL_FAULT (R35): A domain rail leaves regulation or exceeds its current limit: the domain enters Fault, its dependants go Off, and affected steps abort. -/
  | domainRailFault (n cause : Nat)
  /-- DOMAIN_TRANSITION_DONE (R34): A domain's Enabling or Disabling completes, and the power sequence in progress continues with the next domain. -/
  | domainTransitionDone (n : Nat)
  /-- LPX_INIT_DONE (R296): Training, pattern initialisation and unassignment of a die's LPDDR5X complete, and the die's pages become available. -/
  | lpxInitDone (d : Nat) (found : TrainIn)
  /-- SPRING_STEP_DONE (R65): A Spring step completes, and the steps that follow it start. -/
  | springStepDone (k : Nat) (ix : SpringIn)
  /-- ATTEST_KEY_CHECK_DONE (R67): The attestation key check ends, reusing the sealed key or generating a new one, and mailbox ready may follow. -/
  | attestKeyCheckDone (generated : Bool)
  /-- SPRING_STEP_TIMEOUT (R75): A Spring step among steps 1 to 10 exceeds its bound, and Spring stops at that step. -/
  | springStepTimeout (k : Nat)
  /-- BLK_CTL_WRITE (R83): A write to a block's BLK_CTL sets or clears EN and moves the block through its state table. -/
  | blkCtlWrite (who off : Nat) (v : W32)
  /-- BLOCK_DISABLE_DONE (R83): A block's Disabling completes to Off; its shadows take their live values, and a pending enable starts Enabling. -/
  | blockDisableDone (off : Nat)
  /-- BLOCK_ENABLE_DONE (R83): A block's Enabling completes to On, or goes on to Disabling if EN was cleared meanwhile. -/
  | blockEnableDone (off : Nat)
  /-- CONFIG_PARITY_SWEEP (R99): The background sweep checks the configuration parity of every register of a block at least once per millisecond. -/
  | configParitySweep (off : Nat) (bad : Option Nat)
  /-- CFG_PARITY_RECOVERY (R100): Once the block has reached Off, the CP rewrites its configuration from its record and sets EN. -/
  | cfgParityRecovery (off : Nat)
  /-- REGISTER_WRITE (R90): A write to a register field that has no row of its own is applied according to its access type and the block's state. -/
  | registerWrite (who bar off : Nat) (v : W32) (whole : Bool)
  /-- RWB_WRITE (R102): In compatibility mode a write to an RWB field sets the live field and shadow, the shadow only, or is dropped, by the block's state. -/
  | rwbWrite (who off : Nat) (v : W32)
  /-- GLB_UPDATE (R104): A write of GLB_UPDATE applies the shadows of the named WAT, SNT, AGE, THM or MNT blocks on one common RT tick. -/
  | glbUpdate (who : Nat) (v : W32)
  /-- CROSSING_TIMEOUT (R95): A register access stalled on a domain crossing reaches 4 µs and is abandoned; a read returns all ones. -/
  | crossingTimeout (who off : Nat) (isRead : Bool)
  /-- BAR2_ACCESS (R109): A host read or write through BAR2 reaches device memory only through a valid mapping and the checks at its target. -/
  | bar2Access (p off len : Nat) (data : Option (List Byte)) (errs : List (Nat × Nat))
  /-- RING_CTL_WRITE (R117): A write to RING_CTL moves a ring through Enabling, On, Disabling, Off or Fault. -/
  | ringCtlWrite (p r : Nat) (v : W32)
  /-- RING_DOORBELL (R120): KICK makes the device fetch descriptors in slot order while they carry the expected phase. -/
  | ringDoorbell (p r : Nat) (descs : List Desc)
  /-- RING_FETCH_RESUME (R120): A fetch that paused at 16 in-flight commands, or a pending re-read of the stopping slot, resumes. -/
  | ringFetchResume (p r : Nat) (descs : List Desc)
  /-- HOST_READ_FAIL (R107): A device read of host memory fails, which faults the ring for a descriptor fetch and aborts the command otherwise. -/
  | hostReadFail (p r : Nat) (tag : Option W16) (cause : Nat)
  /-- COMMAND_COMPLETE (R124): A command that took time ends; its completion is written and its MSI-X message follows. TAGs may repeat: `nth` tells which of the commands of this TAG ends. -/
  | commandComplete (p r : Nat) (tag : W16) (nth : Nat) (data : List Byte) (errs : List (Nat × Nat)) (pkg : PkgIn)
  /-- UNDEFINED_OPCODE_COMMAND (R126): A descriptor whose OPCODE is not defined completes with BAD_OPCODE. -/
  | undefinedOpcodeCommand (c : Cmd)
  /-- DEVICE_INFO (R138): Writes the 4,096-byte device record with the variant and the resource states. -/
  | deviceInfo (c : Cmd)
  /-- PROFILE_SELECT (R71): Stores or clears a profile override, which takes effect at the next Spring. -/
  | profileSelect (c : Cmd)
  /-- STEWARD_TRANSFER (R112): Hands the steward's rights, locks and debug session to the peer. -/
  | stewardTransfer (c : Cmd)
  /-- RT_LOAD (R390): Loads RAW at the next sync pulse, clears CORR and sets VALID. -/
  | rtLoad (c : Cmd)
  /-- POWER_CAP_SET (R44): Replaces the power cap in force with a cap in the variant's range. -/
  | powerCapSet (c : Cmd)
  /-- DOMAIN_CONTROL (R37): Powers the named domains on or off, whole or not at all, under the dependency and in-use checks. -/
  | domainControl (c : Cmd)
  /-- SHUTDOWN (R79): Runs the orderly shutdown to Dormant or Respring, optionally forcing admitted jobs out. -/
  | shutdown (c : Cmd)
  /-- DEPARTURE_PHASE_END (R79): After 1 ms of idle frames carrying DEPART, shutdown powers every domain off in reverse order. -/
  | departurePhaseEnd
  /-- REALM_OPEN (R449): Opens a tenant realm from a 64-byte realm request. -/
  | realmOpen (c : Cmd)
  /-- REALM_CLOSE (R477): Closes a realm and runs its Winter sequence. -/
  | realmClose (c : Cmd)
  /-- WINTER_STEP_DONE (R477): A Winter step completes on every die, and the next step begins. -/
  | winterStepDone (realm k : Nat)
  /-- JOB_ADMIT (R247): Admits a job into a slot, binds the slot to the realm and places its LPDDR5X regions. -/
  | jobAdmit (c : Cmd)
  /-- IMAGE_LOAD (R252): Parses and loads a Kafort image into the job's slot. -/
  | imageLoad (c : Cmd) (part : Bool)
  /-- JOB_START (R274): Starts a job, arming its first step or leaving a paired job to its Equinox. -/
  | jobStart (c : Cmd)
  /-- JOB_PAIR (R268): Pairs two admitted jobs and arms the Equinox schedule from E0. -/
  | jobPair (c : Cmd)
  /-- STEP_CONTROL (R270): Runs, holds or resumes a job's steps at once or at an RT instant. -/
  | stepControl (c : Cmd)
  /-- JOB_ABORT (R131): Aborts the job's step in progress with nothing committed, and with FORCE withdraws the job. -/
  | jobAbort (c : Cmd)
  /-- JOB_STATUS (R131): Returns a job's last committed step, its state and its last event code. -/
  | jobStatus (c : Cmd)
  /-- REGION_MAP (R109): Maps or unmaps 2 MiB pages of device memory into the function's BAR2. -/
  | regionMap (c : Cmd)
  /-- DMA_COPY (R132): Copies data between host and device, or within the device, clear or sealed. -/
  | dmaCopy (c : Cmd) (stop : Option Nat) (errs : List (Nat × Nat))
  /-- CHECKPOINT_PUSH (R341): Captures the job's last committed state into a host buffer while Solstice waits. -/
  | checkpointPush (c : Cmd) (part : Bool) (errs : List (Nat × Nat))
  /-- CHECKPOINT_RESTORE (R345): Restores a job's committed state from a host buffer or a buddy after full verification. -/
  | checkpointRestore (c : Cmd) (part : Bool) (errs : List (Nat × Nat))
  /-- BUDDY_RESERVE (R342): Reserves or releases a buddy checkpoint region for a partner chip. -/
  | buddyReserve (c : Cmd)
  /-- SCRUB_STATUS (R132): Returns the progress of Winter and the pages still under the old key epoch. -/
  | scrubStatus (c : Cmd)
  /-- PLAN_LOAD (R406): Validates a fabric plan and stores it, pending the next covering discovery. -/
  | planLoad (c : Cmd)
  /-- PORT_DIVIDE (R408): Replaces the port division and runs discovery on the ports it changes. -/
  | portDivide (c : Cmd)
  /-- LIGHT_PLAN_LOAD (R423): Loads a light plan into a slot and may arm a switch to it. -/
  | lightPlanLoad (c : Cmd)
  /-- PORT_STATUS (R417): Writes 32 port entries of discovery and link state. -/
  | portStatus (c : Cmd)
  /-- PARTITION_SET (R419): Stores the partition identifier, puts it in force and runs discovery. -/
  | partitionSet (c : Cmd)
  /-- DISCOVERY_REPORT (R417): Writes the discovery header, the port entries and the neighbour entries. -/
  | discoveryReport (c : Cmd)
  /-- ATTEST_REPORT (R462): Returns a signed attestation report bound to the caller's nonce. -/
  | attestReport (c : Cmd)
  /-- KEY_DELIVER (R452): Unwraps a realm key blob, checks its anchor and makes the realm Keyed at epoch 0. -/
  | keyDeliver (c : Cmd)
  /-- KEY_ROTATE (R453): Unwraps a new epoch's secret and arms its link switch at LINK_AT. -/
  | keyRotate (c : Cmd)
  /-- CERT_CHAIN_GET (R446): Returns the SPDM-format certificate chain. -/
  | certChainGet (c : Cmd)
  /-- FW_VERIFY_STAGE (R531): Verifies and stages an update package under the FW_STAGE lock. -/
  | fwVerifyStage (c : Cmd) (pkg : PkgIn) (part : Bool)
  /-- MAINT_REQUEST (R506): Requests a maintenance lock on a resource; it is granted or refused with CONFLICT or NO_RESOURCE. -/
  | maintRequest (c : Cmd)
  /-- MAINT_RELEASE (R507): Releases a lock taken by MAINT_REQUEST. -/
  | maintRelease (c : Cmd)
  /-- AUTUMN_PASS (R495): Starts an Autumn pass at once. -/
  | autumnPass (c : Cmd)
  /-- SPARE_SWAP (R135): Swaps a core, LPDDR5X channel, lane or laser to its spare, or arms the swap. -/
  | spareSwap (c : Cmd) (power low : Nat)
  /-- FW_ACTIVATE (R532): Rewrites the slot record to activate the staged update and ends in a Respring. -/
  | fwActivate (c : Cmd)
  /-- TELEMETRY_READ (R519): Copies the latest sample of a telemetry set. -/
  | telemetryRead (c : Cmd)
  /-- WATCH_READ (R197): Returns the watcher summary of the job's most recent ended step. -/
  | watchRead (c : Cmd)
  /-- BARRIER_LOG_READ (R437): Returns last-arriver log entries from an index. -/
  | barrierLogRead (c : Cmd)
  /-- EVENT_LOG_READ (R527): Returns event records or journal entries under the ring's visibility. -/
  | eventLogRead (c : Cmd)
  /-- MARGIN_PLAN_READ (R499): Returns the margin plan of a slot. -/
  | marginPlanRead (c : Cmd)
  /-- PROFILE_START (R137): Starts a performance profiling session on the ring. -/
  | profileStart (c : Cmd)
  /-- PROFILE_STOP (R137): Stops the ring's profiling session. -/
  | profileStop (c : Cmd)
  /-- PROFILE_SAMPLE (R470): A profiling sample period ends, and the counters are delivered, coarsened while a tenant realm is open. -/
  | profileSample (p ring : Nat) (data : List Byte)
  /-- DEBUG_ENTER (R473): Opens a debug session with a grant mask. -/
  | debugEnter (c : Cmd)
  /-- DEBUG_EXIT (R474): Closes the debug session and removes every aperture mapping. -/
  | debugExit (c : Cmd)
  /-- CP_WATCHDOG_EXPIRY (R510): The CP watchdog has not been serviced for 50 ms, and a contained restart starts. -/
  | cpWatchdogExpiry (pc : W64)
  /-- CONTAINED_RESTART_TRIGGER (R510): A CP memory error, fault, refused request or CP parity error starts a contained restart. -/
  | containedRestartTrigger (cause : Nat) (pc : W64)
  /-- CP_RESTART_DONE (R511): The CP has reloaded and rebuilt its state; it serves latched rings and recommits or reruns the commands it had fetched. -/
  | cpRestartDone
  /-- CP_RESTART_TIMEOUT (R513): A restart does not complete within 300 ms, or is the fourth in 24 h, so the CP is held in reset. -/
  | cpRestartTimeout
  /-- TILE_NOP (R159): Tile instruction that does nothing. -/
  | tileNop (d c k : Nat) (w : W32)
  /-- TILE_END (R154): Tile instruction that waits for the matrix queue and every DRN write before reporting the task done. -/
  | tileEnd (d c k : Nat) (w : W32)
  /-- SETA (R159): Sets an address register to an immediate. -/
  | seta (d c k : Nat) (w : W32)
  /-- ADDA (R159): Adds an immediate to an address register, modulo 2^16. -/
  | adda (d c k : Nat) (w : W32)
  /-- LOOP (R159): Opens a counted loop on a loop counter. -/
  | loop (d c k : Nat) (w : W32)
  /-- ENDL (R159): Closes a loop, branching back until the count is done. -/
  | endl (d c k : Nat) (w : W32)
  /-- SCL (R154): Loads SC from a binary32 word of a sliver line, after earlier DRN writes. -/
  | scl (d c k : Nat) (w : W32) (errs : List (Nat × Nat))
  /-- WLD (R159): Queues a load of weight tiles into a bank. -/
  | wld (d c k : Nat) (w : W32)
  /-- MMA (R159): Queues a matrix multiply of activation vectors against bank tiles. -/
  | mma (d c k : Nat) (w : W32)
  /-- DRN (R158): Queues a store or add of the drain latches into a 16-line output record. -/
  | drn (d c k : Nat) (w : W32)
  /-- SYNC (R159): Waits until the queue is empty and every DRN write is complete. -/
  | sync (d c k : Nat) (w : W32)
  /-- WLD_START (R155): A queued WLD begins writing its bank once earlier MMAs on that bank are done. -/
  | wldStart (d c k : Nat)
  /-- WLD_DONE (R149): A WLD completes, and the bank holds valid tiles with their nonzero-plane masks. -/
  | wldDone (d c k : Nat) (errs : List (Nat × Nat))
  /-- MMA_START (R155): A queued MMA sends its first plane once its bank is loaded and the latches are free. -/
  | mmaStart (d c k : Nat) (errs : List (Nat × Nat))
  /-- MMA_DONE (R147): The MMA's accumulators move to the drain latches. -/
  | mmaDone (d c k : Nat)
  /-- DRN_START (R155): A queued DRN takes the drain latches once its MMA's results reach them. -/
  | drnStart (d c k : Nat)
  /-- DRN_DONE (R158): A DRN's output record is written, or added, in the sliver. -/
  | drnDone (d c k : Nat) (errs : List (Nat × Nat))
  /-- TILE_TASK_DONE (R154): END's wait ends, and the core reports the task done to its CCC. -/
  | tileTaskDone (d c k : Nat)
  /-- CORE_SLOT_SWITCH (R162): At the first instant it runs no task, a core flushes its state and takes the ordered slot. -/
  | coreSlotSwitch (d c k : Nat)
  /-- IDLE_GATING_RESTORE (R39): 5 µs before a scheduled turn, the gated array supplies of the idle set begin to come back. -/
  | idleGatingRestore (d q : Nat)
  /-- CCC_NOP (R229): CCC instruction that does nothing. -/
  | cccNop (d c slot : Nat) (w : W32)
  /-- CCC_END (R232): Waits for every agent of the context, then reports the cluster task done. -/
  | cccEnd (d c slot : Nat) (w : W32)
  /-- CCC_ALU (R229): Register arithmetic, logic, shift or compare operation. -/
  | cccAlu (d c slot : Nat) (w : W32)
  /-- CCC_ADDI (R229): Adds an immediate to a register. -/
  | cccAddi (d c slot : Nat) (w : W32)
  /-- CCC_LUI (R229): Loads an immediate shifted left by 16 bits. -/
  | cccLui (d c slot : Nat) (w : W32)
  /-- CCC_ORI (R229): ORs a zero-extended immediate into a register. -/
  | cccOri (d c slot : Nat) (w : W32)
  /-- CCC_LD (R229): Loads a 64-bit word from the slot's die-shared window. -/
  | cccLd (d c slot : Nat) (w : W32) (errs : List (Nat × Nat))
  /-- CCC_ST (R229): Stores a 64-bit word to the slot's die-shared window. -/
  | cccSt (d c slot : Nat) (w : W32)
  /-- CCC_BEQ (R229): Branches if two registers are equal. -/
  | cccBeq (d c slot : Nat) (w : W32)
  /-- CCC_BNE (R229): Branches if two registers differ. -/
  | cccBne (d c slot : Nat) (w : W32)
  /-- CCC_BLT (R229): Branches if one register is less than another, signed. -/
  | cccBlt (d c slot : Nat) (w : W32)
  /-- CCC_BLTU (R229): Branches if one register is less than another, unsigned. -/
  | cccBltu (d c slot : Nat) (w : W32)
  /-- BFLT (R229): Branches on a binary32 less-than, never when either operand is NaN. -/
  | bflt (d c slot : Nat) (w : W32)
  /-- JAL (R229): Jumps relative and links. -/
  | jal (d c slot : Nat) (w : W32)
  /-- JALR (R229): Jumps to a register plus an immediate and links. -/
  | jalr (d c slot : Nat) (w : W32)
  /-- TASK (R230): Starts a core task on a logical core through CLU_MAP. -/
  | task (d c slot : Nat) (w : W32)
  /-- VRUN (R231): Starts a VE program with VA0 to VA7 from four S registers. -/
  | vrun (d c slot : Nat) (w : W32)
  /-- CCC_DMA (R234): Appends a transfer, described by seven registers, to a DMA queue. -/
  | cccDma (d c slot : Nat) (w : W32)
  /-- CCC_WAIT (R232): Stalls until the named cores, the VE and the DMA queues have finished. -/
  | cccWait (d c slot : Nat) (w : W32)
  /-- CCC_BUSY (R229): Reads which cores, VE and queues hold work of the context. -/
  | cccBusy (d c slot : Nat) (w : W32)
  /-- CCC_RDRT (R229): Reads Rack Time at issue. -/
  | cccRdrt (d c slot : Nat) (w : W32)
  /-- CCC_STALL_END (R230): A stalled TASK, VRUN, DMA, WAIT or summary interlock can now proceed. -/
  | cccStallEnd (d c slot : Nat)
  /-- CLUSTER_TASK_DONE (R232): END's wait ends, and the instance is reported done to the die scheduler. -/
  | clusterTaskDone (d c slot : Nat)
  /-- VNOP (R219): VE instruction that does nothing. -/
  | vnop (d c slot : Nat) (w : W32)
  /-- VEND (R222): Waits for earlier instructions, delivers the summaries and ends the program. -/
  | vend (d c slot : Nat) (w : W32)
  /-- VLOOP (R219): Opens a counted or register-counted VE loop. -/
  | vloop (d c slot : Nat) (w : W32)
  /-- VENDL (R219): Closes a VE loop. -/
  | vendl (d c slot : Nat) (w : W32)
  /-- VSETVL (R214): Sets VLEN from an address register and decrements it. -/
  | vsetvl (d c slot : Nat) (w : W32)
  /-- VADDA (R219): Adds an immediate to a VE address register. -/
  | vadda (d c slot : Nat) (w : W32)
  /-- VADDR (R219): Adds one VE address register to another. -/
  | vaddr (d c slot : Nat) (w : W32)
  /-- VLI (R219): Loads an immediate into every element of a register. -/
  | vli (d c slot : Nat) (w : W32)
  /-- VLD (R219): Loads active elements from consecutive memory. -/
  | vld (d c slot : Nat) (w : W32) (errs : List (Nat × Nat))
  /-- VST (R219): Stores active elements to consecutive memory. -/
  | vst (d c slot : Nat) (w : W32)
  /-- VLDX (R219): Gathers lanes by byte offsets. -/
  | vldx (d c slot : Nat) (w : W32) (errs : List (Nat × Nat))
  /-- VSTX (R219): Scatters lanes by byte offsets; the higher lane wins a collision. -/
  | vstx (d c slot : Nat) (w : W32)
  /-- VLDB (R219): Broadcasts one memory element into every active element. -/
  | vldb (d c slot : Nat) (w : W32) (errs : List (Nat × Nat))
  /-- VARI (R220): Elementwise add, subtract, multiply, max, min or copysign. -/
  | vari (d c slot : Nat) (w : W32)
  /-- VFMA (R220): Fused multiply-add or multiply-subtract with one rounding. -/
  | vfma (d c slot : Nat) (w : W32)
  /-- VUN (R220): Unary move, negate, abs, sqrt, reciprocal, rsqrt, exp2 or log2. -/
  | vun (d c slot : Nat) (w : W32)
  /-- VCMP (R215): Writes a compare or non-finite test into a mask. -/
  | vcmp (d c slot : Nat) (w : W32)
  /-- VMSK (R219): Combines masks over all 256 bits. -/
  | vmsk (d c slot : Nat) (w : W32)
  /-- VSEL (R219): Selects between two registers by mask. -/
  | vsel (d c slot : Nat) (w : W32)
  /-- VCVT (R220): Converts between binary32, binary16 and bfloat16. -/
  | vcvt (d c slot : Nat) (w : W32)
  /-- VRED (R221): Reduces active lanes by a fixed pairwise tree into every lane. -/
  | vred (d c slot : Nat) (w : W32)
  /-- VSUM (R222): Combines active lanes into a summary accumulator of a fixed kind. -/
  | vsum (d c slot : Nat) (w : W32)
  /-- VTID (R219): Sets the current TID. -/
  | vtid (d c slot : Nat) (w : W32)
  /-- VQNT (R223): Quantises up to 8 registers into B-format blocks, a shift header and a tile scale word. -/
  | vqnt (d c slot : Nat) (w : W32) (errs : List (Nat × Nat))
  /-- VDQ (R223): Dequantises B-format blocks into registers. -/
  | vdq (d c slot : Nat) (w : W32) (errs : List (Nat × Nat))
  /-- VLOSS (R224): Posts lane 0 as a loss value of the job's LOSS_TID. -/
  | vloss (d c slot : Nat) (w : W32)
  /-- VE_PROGRAM_DONE (R222): VEND's wait ends; summaries are written to S24 to S31 and the program ends. -/
  | veProgramDone (d c slot : Nat)
  /-- DMA_TRANSFER_START (R234): A queued transfer begins once earlier transfers of its queue are done. -/
  | dmaTransferStart (d c slot queue : Nat) (errs : List (Nat × Nat))
  /-- DMA_TRANSFER_DONE (R237): A transfer completes its copy or conversion, and the next queued transfer may start. -/
  | dmaTransferDone (d c slot queue : Nat)
  /-- WCK_TRACKING_LOST (R298): A channel loses WCK-to-DQ tracking and enters Failing. -/
  | wckTrackingLost (n q : Nat)
  /-- INSTANCE_DISPATCH (R256): A ready instance takes its waits and is dispatched to its CCC context. -/
  | instanceDispatch (slot tbl ix m : Nat)
  /-- INSTANCE_SIGNAL_RELEASE (R261): Once every write of a done instance is visible, its signals are sent. -/
  | instanceSignalRelease (slot tbl ix m : Nat)
  /-- SIGNAL_APPLY (R263): A signal reaches a scoreboard entry and is added, held for the next step or dropped. -/
  | signalApply (ix : Nat)
  /-- TASK_TIMEOUT (R258): An instance reaches its BOUND; it is stopped and its step aborted. -/
  | taskTimeout (d c slot : Nat)
  /-- STEP_ABORT_REPORTED (R259): The last running instance of an aborted step ends, and the abort is reported to the CP. -/
  | stepAbortReported (slot : Nat)
  /-- ABORT_QUIET_END (R335): 2 ms after the abort is reported, the held job's next step may begin. -/
  | abortQuietEnd (slot : Nat)
  /-- STEP_STALL_LIMIT (R265): No main instance or collective has made progress for STALL_MS, so the step is aborted. -/
  | stepStallLimit (slot : Nat)
  /-- STEP_BEGIN (R264): A step begins: entries are reset, held signals added, watcher tables and flags cleared, and lost clusters remapped. -/
  | stepBegin (slot : Nat)
  /-- EQUINOX_TURN (R271): At an Equinox instant each die scheduler issues the switch order if its ending phases are done. -/
  | equinoxTurn
  /-- LATE_TURN (R272): The ending phases complete after the Equinox, so the turn is taken late and logged. -/
  | lateTurn (d : Nat)
  /-- LONE_TURN (R274): A lone job's ending phase completes, and the self-timed turn is taken. -/
  | loneTurn (d : Nat)
  /-- CLOSING_ROUND_START (R328): All instances of the step are done, and the lowest die's engine starts the OR all-reduce of the running flag. -/
  | closingRoundStart (slot : Nat)
  /-- CLOSING_ROUND_DONE (R328): The aggregate flag is known, and Solstice begins by commit or skip. -/
  | closingRoundDone (slot : Nat)
  /-- SOLSTICE_GATE_PASS (R329): The Solstice gate holds (summary gathered, no capture, CP running), and the CP writes the BEGIN record. -/
  | solsticeGatePass (slot : Nat)
  /-- BEGIN_RECORD_PROGRAMMED (R331): The BEGIN record is programmed, and the solstice-phase instances are dispatched. -/
  | beginRecordProgrammed (slot : Nat)
  /-- SOLSTICE_PHASE_DONE (R329): The last solstice-phase instance is done; histories, EMA and step number are updated and the END record is written. -/
  | solsticePhaseDone (slot : Nat)
  /-- END_RECORD_PROGRAMMED (R332): The END record is programmed: Solstice ends, the summary is kept and stash pages are released. -/
  | endRecordProgrammed (slot : Nat)
  /-- KEY_SWEEP_START (R453): At LINK_AT plus 2,500,000 ticks the page sweep to the new epoch begins on every die. -/
  | keySweepStart (realm : Nat)
  /-- KEY_SWEEP_DONE (R304): The last page has moved to the new epoch, and the old keys are destroyed. -/
  | keySweepDone (realm : Nat)
  /-- LPX_SCRUB_SCHEDULE (R300): Every 24 h the firmware requests the LPX_SCRUB lock for a die. -/
  | lpxScrubSchedule (d : Nat)
  /-- PATROL_DONE (R300): A patrol pass over a die ends, and its lock is released. -/
  | patrolDone (d : Nat) (errs : List (Nat × Nat))
  /-- REMOTE_REQUEST (R313): A request carried by the die fabric is checked at its target and served or refused. -/
  | remoteRequest (chip slot realm : Nat) (wr : Bool) (off len : Nat) (data : List Byte) (errs : List (Nat × Nat))
  /-- LASER_FAILURE (R353): A laser's bus power stays below 50% for 2 µs, or its drive fails, so a hot spare is switched in. -/
  | laserFailure (n power low : Nat)
  /-- SPARE_LASER_STARTED (R353): An off spare laser has started, as a hot spare or into a dark bus. -/
  | spareLaserStarted (n power low : Nat)
  /-- LOCK_LOOP_SAMPLE (R356): Every 0.5 µs the lock loop samples each monitor and corrects the heater. -/
  | lockLoopSample (d : Nat) (mon : List (Nat × W16))
  /-- RING_LOCK_LOSS (R357): A ring's reading stays outside capture for 2 µs; it goes LOST, its lane drops and a sweep starts. -/
  | ringLockLoss (d ix : Nat)
  /-- HOLD_LIGHT_RETURN (R356): Light returns to a HOLD ring, which locks within ±40 GHz and goes LOST otherwise. -/
  | holdLightReturn (d ix : Nat) (near : Bool)
  /-- RING_SWEEP_DONE (R358): A ring sweep ends by locking to the nearest non-excluded resonance and updating calibration. -/
  | ringSweepDone (d ix : Nat) (found : Option (Nat × W32))
  /-- FORECAST_WORD (R359): Every 10 µs the die scheduler sends its activity forecast, and heater offsets ramp in. -/
  | forecastWord (d : Nat)
  /-- LSEQ_NOP (R363): Sequencer instruction that does nothing. -/
  | lseqNop (d : Nat) (w : W32)
  /-- HALT (R363): Ends the sequencer program while the hardware loops continue. -/
  | halt (d : Nat) (w : W32)
  /-- LSEQ_ALU (R363): Sequencer register arithmetic or logic. -/
  | lseqAlu (d : Nat) (w : W32)
  /-- LSEQ_ADDI (R363): Sequencer add of an immediate. -/
  | lseqAddi (d : Nat) (w : W32)
  /-- LSEQ_LUI (R363): Sequencer load of an upper immediate. -/
  | lseqLui (d : Nat) (w : W32)
  /-- BR (R363): Sequencer conditional branch. -/
  | br (d : Nat) (w : W32)
  /-- LSEQ_WAIT (R363): Sequencer stalls for a count of 100 ns. -/
  | lseqWait (d : Nat) (w : W32)
  /-- LSEQ_WAIT_END (R363): A sequencer WAIT's time runs out, and the program continues. -/
  | lseqWaitEnd (d : Nat)
  /-- RDMON (R363): Reads a ring's monitor. -/
  | rdmon (d : Nat) (w : W32) (v : W16)
  /-- RDHTR (R363): Reads a ring's heater power. -/
  | rdhtr (d : Nat) (w : W32)
  /-- WRHTR (R363): Writes the heater power of a ring in SWEEP. -/
  | wrhtr (d : Nat) (w : W32)
  /-- SETST (R363): Sets a ring's state and lock target. -/
  | setst (d : Nat) (w : W32)
  /-- RDST (R363): Reads a ring's state, line and exclusion-list length. -/
  | rdst (d : Nat) (w : W32)
  /-- RDCAL (R363): Reads a calibration entry. -/
  | rdcal (d : Nat) (w : W32)
  /-- WRCAL (R363): Writes a calibration entry. -/
  | wrcal (d : Nat) (w : W32)
  /-- WRFF (R363): Writes a ring's feed-forward coefficient for a quadrant. -/
  | wrff (d : Nat) (w : W32)
  /-- RDLAS (R363): Reads the bus's mean line power or its laser's bias. -/
  | rdlas (d : Nat) (w : W32)
  /-- WRBIAS (R363): Sets the bias of the laser that feeds the bus. -/
  | wrbias (d : Nat) (w : W32)
  /-- RDTMP (R363): Reads the ring-bank temperature. -/
  | rdtmp (d : Nat) (w : W32) (temp : W16)
  /-- LSEQ_RDRT (R363): Reads the low 32 bits of Rack Time. -/
  | lseqRdrt (d : Nat) (w : W32)
  /-- POST (R363): Posts two registers to the CP as a record. -/
  | post (d : Nat) (w : W32)
  /-- LIGHT_PLAN_SWITCH (R366): At the switch instant, engines with changed routing stop sending, and the matrix changes. -/
  | lightPlanSwitch
  /-- MATRIX_SETTLED (R366): The matrix has settled, and each engine aligns, sends a LANESET commit and replays. -/
  | matrixSettled
  /-- DATA_FRAME (R375): A data frame is checked, verified if sealed, delivered in sequence and acknowledged, or discarded and NAKed. -/
  | dataFrame (l : Nat) (ix : FrameIn)
  /-- REDUCTION_FRAME (R327): A reduction frame is delivered, and its NF bit is ORed into the running flag. -/
  | reductionFrame (l : Nat) (ix : FrameIn)
  /-- IDLE_FRAME (R370): An idle frame is received, carrying its acknowledgement and status bits. -/
  | idleFrame (l : Nat) (ix : FrameIn)
  /-- NAK (R376): A NAK control frame makes the sender resend from the named frame. -/
  | nak (l : Nat) (ix : FrameIn) (n : W16)
  /-- LANESET_REQUEST (R378): A request for a new position mask makes the transmitter finish its frame and send a commit. -/
  | lanesetRequest (l : Nat) (ix : FrameIn) (m : BitVec 10) (cause : Nat)
  /-- LANESET_COMMIT (R378): A commit makes the receiver deskew on the new set from frame s. -/
  | lanesetCommit (l : Nat) (ix : FrameIn) (m : BitVec 10) (map : W32)
  /-- RESWEEP (R384): The remote sequencer excludes the line of its modulator ring and sweeps it. -/
  | resweep (l : Nat) (ix : FrameIn) (p line : Nat)
  /-- TRAIN (R379): A TRAIN frame begins or reports the PRBS31 training of positions. -/
  | train (l : Nat) (ix : FrameIn) (m passed : BitVec 10)
  /-- SPARE (R380): A SPARE frame makes the remote engine move a logical lane to a free spare position. -/
  | spare (l : Nat) (ix : FrameIn) (n : Nat)
  /-- REPLAY_TIMEOUT (R376): ACK has not advanced for LNK_RTT plus 1 µs, so the sender resends from its oldest frame. -/
  | replayTimeout (l : Nat)
  /-- LANE_DROP_CONDITION (R378): A LOS, TAG, LOCK, ERR or REMOTE condition holds on a position, and a LANESET request without it is sent. -/
  | laneDropCondition (l p cause found : Nat)
  /-- LANESET_REQUEST_REPEAT (R378): Every 2 µs without a commit, the LANESET request is sent again. -/
  | lanesetRequestRepeat (l : Nat)
  /-- LANE_PRBS_DONE (R379): After 20 µs of PRBS31, an error-free position is requested back into the set. -/
  | lanePrbsDone (l p : Nat) (ok : Bool)
  /-- COMMON_MODE_OUTAGE (R381): Every position of a direction loses light within 100 ns, and the set is held. -/
  | commonModeOutage (l : Nat)
  /-- COMMON_MODE_HOLD_EXPIRY (R381): Light has not returned within 100 µs, and the port goes down. -/
  | commonModeHoldExpiry (l : Nat)
  /-- RTB_SYNC_PULSE (R391): A sync pulse is checked against RAW, and the offset is ignored, held, slewed or refused. -/
  | rtbSyncPulse (n : Nat)
  /-- SLEW_ADJUST (R388): Every 65,536 ticks the slew engine applies one adjustment to RAW or CORR. -/
  | slewAdjust (n : Nat)
  /-- RTB_CLK_LOSS (R400): RTB_CLK is lost, and RAW enters holdover on the internal oscillator. -/
  | rtbClkLoss
  /-- RTB_CLK_RELOCK (R400): The clock has been back and locked for 1 ms, so holdover ends. -/
  | rtbClkRelock
  /-- RTB_SYNC_LOSS_TIMEOUT (R400): No sync pulse has arrived within 2^20 + 2^10 ticks, so SYNC_LOST is set. -/
  | rtbSyncLossTimeout
  /-- TIMESTAMP_SEND (R392): Once per sync period each end of a time relation sends a timestamp frame. -/
  | timestampSend (port n : Nat)
  /-- TIMESTAMP_FRAME (R393): A timestamp frame yields θ and δ, and CORR is stepped, slewed or held. -/
  | timestampFrame (port n part : Nat) (tx echoTx echoRx corr : W64) (flags dist : Nat)
  /-- INSTANT_FIRES (R396): RT reaches an armed instant, which is delivered to its target. -/
  | instantFires
  /-- WINDOW_END_REACHED (R399): RT reaches a window's end. -/
  | windowEndReached (d slot op m : Nat)
  /-- PORT_LIGHT_DETECTED (R409): Light reaches a division port, and training of its positions begins. -/
  | portLightDetected (p : Nat)
  /-- PORT_TRAINING_DONE (R409): A port's training ends, and identity exchange begins. -/
  | portTrainingDone (p : Nat) (tx rx : BitVec 10) (rtt : W16)
  /-- IDENTITY_SEND (R411): Every 10 µs each end sends an identity frame on the port. -/
  | identitySend (p : Nat)
  /-- IDENTITY_FRAME (R411): A peer identity frame is received and the port is judged. -/
  | identityFrame (p : Nat) (ix : FrameIn)
  /-- QUARANTINE_DARK_TIMER (R413): After 100 µs of REFUSE, the quarantined end turns its transmitter dark. -/
  | quarantineDarkTimer (p : Nat)
  /-- DISCOVERY_TIMEOUT (R409): 25 s after a discovery began, ports without light take the outcome no light. -/
  | discoveryTimeout
  /-- WRITE (R425): A WRITE packet writes its payload at OFFSET after the target checks. -/
  | write (l : Nat)
  /-- WRITE_ACK (R425): A WRITE_ACK acknowledges a remote write. -/
  | writeAck (l : Nat)
  /-- READ (R425): A READ packet requests LEN bytes and is answered with READ_DATA. -/
  | read (l : Nat) (errs : List (Nat × Nat))
  /-- READ_DATA (R425): READ_DATA returns the data of a remote read. -/
  | readData (l : Nat) (errs : List (Nat × Nat))
  /-- SIGNAL (R432): A SIGNAL packet applies a token signal at the target slot and die. -/
  | signal (l : Nat)
  /-- REDUCE (R433): A REDUCE contribution is added in rank order, or staged until its turn. -/
  | reduce (l : Nat) (errs : List (Nat × Nat))
  /-- NACK (R428): A NACK ends a remote transaction in a REMOTE fault. -/
  | nack (l : Nat)
  /-- BARRIER (R436): A BARRIER packet combines the latest arrival stamp, or ORs the closing-round flag. -/
  | barrier (l : Nat)
  /-- COUNT (R434): A COUNT packet announces an A2A element count, which is checked against the expected count. -/
  | count (l : Nat)
  /-- PACKET_FORWARD (R427): A packet for another chip is forwarded with HOPS decremented, or dropped with a NACK. -/
  | packetForward (l : Nat)
  /-- REMOTE_TRANSACTION_TIMEOUT (R428): A remote transaction has had no acknowledgement for 2 ms; it faults and its port is taken down. -/
  | remoteTransactionTimeout (tag : W32)
  /-- COL_RS (R431): Reduce-scatter op instance begins. -/
  | colRs (d slot op m : Nat) (errs : List (Nat × Nat))
  /-- COL_AG (R431): All-gather op instance begins, with shard checks when SHARD is set. -/
  | colAg (d slot op m : Nat) (errs : List (Nat × Nat))
  /-- COL_A2A (R431): All-to-all op instance begins. -/
  | colA2a (d slot op m : Nat) (errs : List (Nat × Nat))
  /-- COL_SEND (R431): Send op instance begins. -/
  | colSend (d slot op m : Nat) (errs : List (Nat × Nat))
  /-- COL_RING (R431): Ring op instance begins. -/
  | colRing (d slot op m : Nat) (errs : List (Nat × Nat))
  /-- COL_BARRIER (R436): Barrier op instance stamps its arrival and runs its rounds. -/
  | colBarrier (d slot op m : Nat)
  /-- COL_BUDDY (R343): Buddy push instance begins writing the checkpoint to the buddy slot. -/
  | colBuddy (d slot op m : Nat) (errs : List (Nat × Nat))
  /-- COL_OP_DONE (R432): A collective instance completes, its SIG is applied, and a barrier's log entry is written. -/
  | colOpDone (d slot op m : Nat) (errs : List (Nat × Nat))
  /-- SENTINEL_CHECK_DONE (R486): Both cores of a check have ended; SNT_SAMPLED advances, or a mismatch aborts the step and gives strikes. -/
  | sentinelCheckDone (d c k : Nat) (diff : Option DiffIn)
  /-- STRIKE_EXPIRY (R487): A strike expires 24 h after it was taken. -/
  | strikeExpiry
  /-- CORE_TAKEOVER (R488): At the next Equinox or Solstice after the lock is granted, the spare takes over from a marked core. -/
  | coreTakeover (d c k : Nat)
  /-- AUTUMN_SCHEDULE (R495): AGE_PERIOD hours after the last completed pass, a scheduled pass starts. -/
  | autumnSchedule
  /-- AUTUMN_SLICE (R496): A slice's MARGIN_SWEEP lock is granted, and the slice runs on its resource. -/
  | autumnSlice (order : Nat) (r : W64) (ix : SliceIn)
  /-- AUTUMN_SLICE_DONE (R496): A slice ends and releases its lock, and the next slice may run. -/
  | autumnSliceDone (r : W64)
  /-- CLOCK_REPLAN_STEP (R498): Every 20 µs the clock steps 25 MHz toward a lowered declared clock. -/
  | clockReplanStep
  /-- MAINT_LOCK_EXPIRY (R507): A MAINT_REQUEST lock reaches MAX_HOURS; its activity stops and the lock is released. -/
  | maintLockExpiry (k : Nat)
  /-- MAINT_QUEUED_GRANT (R506): A queued internal lock request no longer conflicts and is granted. -/
  | maintQueuedGrant
  /-- MAINT_ACTIVITY_END (R502): A command's maintenance activity ends, and its lock is released. -/
  | maintActivityEnd (k : Nat)
  /-- GET_VERSION (R467): SPDM request for the supported versions. -/
  | getVersion (b : Nat)
  /-- GET_CAPABILITIES (R467): SPDM request for the responder's capabilities. -/
  | getCapabilities (b : Nat)
  /-- NEGOTIATE_ALGORITHMS (R467): SPDM algorithm negotiation. -/
  | negotiateAlgorithms (b : Nat) (asym hash : W32)
  /-- GET_DIGESTS (R467): SPDM request for the certificate chain digests. -/
  | getDigests (b : Nat)
  /-- GET_CERTIFICATE (R467): SPDM request for the slot 0 certificate chain. -/
  | getCertificate (b slot off len : Nat)
  /-- CHALLENGE (R467): SPDM challenge, signed with the attestation key. -/
  | challenge (b slot summary : Nat) (nonce : List Byte) (later : Bool)
  /-- GET_MEASUREMENTS (R467): SPDM request for measurement blocks 1 to 8. -/
  | getMeasurements (b index : Nat) (sign : Bool) (nonce : List Byte) (later : Bool)
  /-- RESPOND_IF_READY (R467): SPDM retry of a deferred response. -/
  | respondIfReady (b code token : Nat) (later : Bool)
  /-- SPDM_UNSUPPORTED_REQUEST (R467): Any other SPDM request is answered with ERROR UnsupportedRequest. -/
  | spdmUnsupportedRequest (b code : Nat)
  /-- SET_ENDPOINT_ID (R515): MCTP control message that assigns the binding's endpoint ID. -/
  | setEndpointId (b : Nat) (eid : Byte)
  /-- GET_ENDPOINT_ID (R515): MCTP control message returning the endpoint ID. -/
  | getEndpointId (b : Nat)
  /-- GET_ENDPOINT_UUID (R515): MCTP control message returning the endpoint UUID. -/
  | getEndpointUuid (b : Nat)
  /-- GET_MCTP_VERSION_SUPPORT (R515): MCTP control message returning the supported versions. -/
  | getMctpVersionSupport (b : Nat) (typ : Byte)
  /-- GET_MESSAGE_TYPE_SUPPORT (R515): MCTP control message returning the supported message types. -/
  | getMessageTypeSupport (b : Nat)
  /-- GET_VENDOR_DEFINED_MESSAGE_SUPPORT (R515): MCTP control message returning vendor-defined message support. -/
  | getVendorDefinedMessageSupport (b : Nat)
  /-- SET_TID (R516): PLDM Base SetTID. -/
  | setTid (b : Nat) (tid : Byte)
  /-- GET_TID (R516): PLDM Base GetTID. -/
  | getTid (b : Nat)
  /-- GET_PLDM_VERSION (R516): PLDM Base GetPLDMVersion. -/
  | getPldmVersion (b typ : Nat)
  /-- GET_PLDM_TYPES (R516): PLDM Base GetPLDMTypes. -/
  | getPldmTypes (b : Nat)
  /-- GET_PLDM_COMMANDS (R516): PLDM Base GetPLDMCommands. -/
  | getPldmCommands (b typ : Nat)
  /-- GET_PDR_REPOSITORY_INFO (R516): PLDM Platform GetPDRRepositoryInfo. -/
  | getPdrRepositoryInfo (b : Nat)
  /-- GET_PDR (R521): PLDM Platform GetPDR returning sensor PDRs. -/
  | getPdr (b handle : Nat)
  /-- GET_SENSOR_READING (R521): Returns a numeric sensor from the latest sample, coarsened where required. -/
  | getSensorReading (b sensor : Nat)
  /-- GET_STATE_SENSOR_READINGS (R521): Returns the state sensors 20 and 21. -/
  | getStateSensorReadings (b sensor : Nat)
  /-- SET_EVENT_RECEIVER (R516): PLDM Platform SetEventReceiver. -/
  | setEventReceiver (b : Nat) (eid : Option Byte)
  /-- EVENT_MESSAGE_SUPPORTED (R516): PLDM Platform EventMessageSupported. -/
  | eventMessageSupported (b : Nat)
  /-- EVENT_MESSAGE_BUFFER_SIZE (R516): PLDM Platform EventMessageBufferSize. -/
  | eventMessageBufferSize (b : Nat) (n : W16)
  /-- POLL_FOR_PLATFORM_EVENT_MESSAGE (R529): Returns and acknowledges queued PLDM events, releasing MGT_ALERT_N when the queue empties. -/
  | pollForPlatformEventMessage (b : Nat) (ack : Bool)
  /-- GET_FRU_RECORD_TABLE_METADATA (R516): PLDM FRU record table metadata. -/
  | getFruRecordTableMetadata (b : Nat)
  /-- GET_FRU_RECORD_TABLE (R516): PLDM FRU record table with part number, variant and serial. -/
  | getFruRecordTable (b : Nat)
  /-- QUERY_DEVICE_IDENTIFIERS (R530): PLDM firmware update QueryDeviceIdentifiers. -/
  | queryDeviceIdentifiers (b : Nat)
  /-- GET_FIRMWARE_PARAMETERS (R516): PLDM firmware update GetFirmwareParameters. -/
  | getFirmwareParameters (b : Nat)
  /-- REQUEST_UPDATE (R531): Opens a sideband update flow, refused while FW_STAGE is held. -/
  | requestUpdate (b maxLen : Nat)
  /-- PASS_COMPONENT_TABLE (R516): PLDM firmware update PassComponentTable. -/
  | passComponentTable (b : Nat) (comps : List Nat)
  /-- UPDATE_COMPONENT (R531): Begins staging a component over the sideband. -/
  | updateComponent (b comp size : Nat)
  /-- REQUEST_FIRMWARE_DATA (R516): Data requested by the module from the update agent arrives and is staged. -/
  | requestFirmwareData (data : List Byte)
  /-- TRANSFER_COMPLETE (R516): PLDM firmware update TransferComplete. -/
  | transferComplete
  /-- VERIFY_COMPLETE (R531): PLDM firmware update VerifyComplete, reporting the verification outcome. -/
  | verifyComplete (image : FwSlot)
  /-- APPLY_COMPLETE (R516): PLDM firmware update ApplyComplete. -/
  | applyComplete
  /-- ACTIVATE_FIRMWARE (R532): Activates the staged update as FW_ACTIVATE without FORCE. -/
  | activateFirmware (b : Nat)
  /-- GET_STATUS (R516): PLDM firmware update GetStatus. -/
  | getStatus (b : Nat)
  /-- CANCEL_UPDATE_COMPONENT (R516): Cancels the component update in progress. -/
  | cancelUpdateComponent (b : Nat)
  /-- CANCEL_UPDATE (R516): Cancels the update flow. -/
  | cancelUpdate (b : Nat)
  /-- PLDM_UNSUPPORTED_COMMAND (R516): Other PLDM commands or types are answered with an error code. -/
  | pldmUnsupportedCommand (b typ cmd : Nat)
  /-- EVENT_READ (R517): Vendor-defined read of event records from an index. -/
  | eventRead (b : Nat) (start : W64)
  /-- JOURNAL_READ (R517): Vendor-defined read of journal entries from an index. -/
  | journalRead (b : Nat) (start : W64)
  /-- TELEMETRY_SAMPLE (R519): Every 1 ms the telemetry unit samples every set. -/
  | telemetrySample (ix : TelIn)
  /-- POWER_WINDOW_DELIVERY (R471): While both tenant realms are open, each 100 ms power window's coarsened mean is delivered. -/
  | powerWindowDelivery
  /-- EVENT_LOG_TRANSFER (R522): The CP moves queued events into the log, the journal and the PLDM queue. -/
  | eventLogTransfer
  /-- REGISTER_READ (R88): A BAR0 read that is denied under R89, or reaches a domain that is not On under R97, returns zero or all ones and raises a folded BAR_DENIED or OFFDOM_ACCESS record with its MSI-X message. -/
  | registerRead (who bar off n mask : Nat) (bad : List Nat)
  /-- BAD_PEC_PACKET (R515): An SMBus MCTP packet whose PEC is bad is dropped and counted in MGT_ERR. -/
  | badPecPacket
  deriving DecidableEq, Repr

end Sys2Proof
end

