-- ==== Sys2Proof/Machine/Float.lean ====
section
/-! DEFINITION. IEEE binary32, binary16 and bfloat16 arithmetic, rounded to nearest-even with subnormals kept and the
canonical NaN (R183, R186): values are taken apart into exact dyadic numbers, computed exactly, and rounded once. -/

namespace Sys2Proof.Machine

open Sys2Proof

/-- A value taken apart: finite values are (−1)^neg × m × 2^e. -/
inductive FV where
  | nan
  | inf (neg : Bool)
  | fin (neg : Bool) (m : Nat) (e : Int)
  deriving DecidableEq, Repr

/-- A binary format: mantissa bits, exponent bits, and the exponent of its smallest subnormal. -/
structure FFmt where
  mant : Nat
  ex : Nat
  emin : Int
  deriving DecidableEq, Repr

def f32 : FFmt := ⟨23, 8, -149⟩
def f16 : FFmt := ⟨10, 5, -24⟩
def bf16 : FFmt := ⟨7, 8, -133⟩

/-- Take a pattern of a format apart. -/
def unpack (t : FFmt) (w : Nat) : FV :=
  let m := w % 2 ^ t.mant
  let e := w / 2 ^ t.mant % 2 ^ t.ex
  let neg := w / 2 ^ (t.mant + t.ex) % 2 == 1
  if e = 2 ^ t.ex - 1 then (if m = 0 then .inf neg else .nan)
  else if e = 0 then .fin neg m t.emin
  else .fin neg (m + 2 ^ t.mant) (t.emin + e - 1)

def signBit (t : FFmt) (neg : Bool) : Nat := if neg then 2 ^ (t.mant + t.ex) else 0

def infPat (t : FFmt) : Nat := (2 ^ t.ex - 1) * 2 ^ t.mant

/-- The canonical quiet NaN (R183). -/
def nanPat (t : FFmt) : Nat := infPat t + 2 ^ (t.mant - 1)

/-- `n / d` rounded to the nearest integer, ties to even. -/
def divRne (n d : Nat) : Nat :=
  let q := n / d
  let r := n % d
  if 2 * r < d then q else if d < 2 * r then q + 1 else if q % 2 = 0 then q else q + 1

/-- 2 to an integer power as numerator and denominator. -/
def pow2 (e : Int) : Nat × Nat := if 0 ≤ e then (2 ^ e.toNat, 1) else (1, 2 ^ (-e).toNat)

/-- Round `num / den × 2^e` to a format. -/
def roundRat (t : FFmt) (neg : Bool) (num den : Nat) (e : Int) : Nat :=
  if num = 0 then signBit t neg
  else
    let top := (num.log2 : Int) - (den.log2 : Int) + e
    -- The value lies in [2^(top − 1), 2^(top + 1)).
    let low := (num * (pow2 (e - top)).1 < den * (pow2 (e - top)).2 : Bool)
    let msb := if low then top - 1 else top
    let q := max (msb - t.mant) t.emin
    let p := pow2 (e - q)
    let k := divRne (num * p.1) (den * p.2)
    let bits := (q - t.emin).toNat * 2 ^ t.mant + k
    signBit t neg + (if infPat t ≤ bits then infPat t else bits)

/-- Round a value taken apart to a format. -/
def pack (t : FFmt) : FV → Nat
  | .nan => nanPat t
  | .inf neg => signBit t neg + infPat t
  | .fin neg m e => roundRat t neg m 1 e

def unp (x : F32) : FV := unpack f32 x.toNat
def rnd (v : FV) : F32 := BitVec.ofNat 32 (pack f32 v)

def fNan : F32 := 0x7FC00000
def fOne : F32 := 0x3F800000

/-- The signed mantissas of two finite values over one exponent. -/
def alignInt (n1 : Bool) (m1 : Nat) (e1 : Int) (n2 : Bool) (m2 : Nat) (e2 : Int) : Int × Int × Int :=
  let e := min e1 e2
  let a : Int := m1 * 2 ^ (e1 - e).toNat
  let b : Int := m2 * 2 ^ (e2 - e).toNat
  (if n1 then -a else a, if n2 then -b else b, e)

/-- Exact sum. A zero sum is −0 only if both terms are negative. -/
def vAdd : FV → FV → FV
  | .nan, _ => .nan
  | _, .nan => .nan
  | .inf a, .inf b => if a = b then .inf a else .nan
  | .inf a, _ => .inf a
  | _, .inf b => .inf b
  | .fin n1 m1 e1, .fin n2 m2 e2 =>
    let t := alignInt n1 m1 e1 n2 m2 e2
    let s := t.1 + t.2.1
    if s = 0 then .fin (n1 && n2) 0 t.2.2 else .fin (decide (s < 0)) s.natAbs t.2.2

/-- Exact product. -/
def vMul : FV → FV → FV
  | .nan, _ => .nan
  | _, .nan => .nan
  | .inf a, .inf b => .inf (a != b)
  | .inf a, .fin b m _ => if m = 0 then .nan else .inf (a != b)
  | .fin a m _, .inf b => if m = 0 then .nan else .inf (a != b)
  | .fin a m e, .fin b k f => .fin (a != b) (m * k) (e + f)

def vNeg : FV → FV
  | .nan => .nan
  | .inf a => .inf (!a)
  | .fin a m e => .fin (!a) m e

def fAdd (x y : F32) : F32 := rnd (vAdd (unp x) (unp y))
def fSub (x y : F32) : F32 := rnd (vAdd (unp x) (vNeg (unp y)))
def fMul (x y : F32) : F32 := rnd (vMul (unp x) (unp y))
/-- x × y + z with one rounding. -/
def fFma (x y z : F32) : F32 := rnd (vAdd (vMul (unp x) (unp y)) (unp z))
/-- x × y − z with one rounding. -/
def fFms (x y z : F32) : F32 := rnd (vAdd (vMul (unp x) (unp y)) (vNeg (unp z)))

def fDiv (x y : F32) : F32 :=
  match unp x, unp y with
  | .nan, _ => fNan
  | _, .nan => fNan
  | .inf _, .inf _ => fNan
  | .inf a, .fin b _ _ => BitVec.ofNat 32 (pack f32 (.inf (a != b)))
  | .fin a _ _, .inf b => BitVec.ofNat 32 (signBit f32 (a != b))
  | .fin a m e, .fin b k f =>
    if k = 0 then (if m = 0 then fNan else BitVec.ofNat 32 (pack f32 (.inf (a != b))))
    else BitVec.ofNat 32 (roundRat f32 (a != b) m k (e - f))

/-- Integer square root by bits, from bit `k` − 1 down. -/
def isqrtGo (n : Nat) : Nat → Nat → Nat
  | 0, r => r
  | k + 1, r => let c := r + 2 ^ k; isqrtGo n k (if c * c ≤ n then c else r)

def isqrt (n : Nat) : Nat := isqrtGo n (n.log2 / 2 + 1) 0

def fSqrt (x : F32) : F32 :=
  match unp x with
  | .nan => fNan
  | .inf neg => if neg then fNan else x
  | .fin neg m e =>
    if m = 0 then x
    else if neg then fNan
    else
      let odd := e % 2 = 1
      let m1 := (if odd then 2 * m else m) * 2 ^ 60
      let e1 := (if odd then e - 1 else e) - 60
      let r := isqrt m1
      -- A sticky bit below the root keeps the rounding exact.
      BitVec.ofNat 32 (roundRat f32 false (2 * r + if r * r = m1 then 0 else 1) 1 (e1 / 2 - 1))

def isNan (x : F32) : Bool := unp x == .nan
def isInf (x : F32) : Bool := match unp x with | .inf _ => true | _ => false
def isNonFinite (x : F32) : Bool := match unp x with | .fin _ _ _ => false | _ => true
def isNeg (x : F32) : Bool := x.getLsbD 31
def fAbs (x : F32) : F32 := x &&& 0x7FFFFFFF
def fNegate (x : F32) : F32 := x ^^^ 0x80000000
def isZero (x : F32) : Bool := fAbs x == 0

/-- Order key of a value that is not NaN: the values' order, with the two zeros equal. -/
def fKey (x : F32) : Int := if isNeg x then -((fAbs x).toNat : Int) else ((fAbs x).toNat : Int)

def fLt (x y : F32) : Bool := !isNan x && !isNan y && decide (fKey x < fKey y)
def fLe (x y : F32) : Bool := !isNan x && !isNan y && decide (fKey x ≤ fKey y)
def fEq (x y : F32) : Bool := !isNan x && !isNan y && decide (fKey x = fKey y)

/-- Every NaN produced is the canonical one (R183). -/
def canon (x : F32) : F32 := if isNan x then fNan else x

/-- Widening, exact (R184). -/
def widen (t : FFmt) (w : Nat) : F32 := BitVec.ofNat 32 (pack f32 (unpack t w))

/-- Narrowing, rounded to nearest-even (R184). -/
def narrow (t : FFmt) (x : F32) : Nat := pack t (unp x)

/-- The binary32 power of two 2^k, for k from −149 to 127. -/
def fPow2 (k : Int) : F32 := BitVec.ofNat 32 (roundRat f32 false 1 1 k)

end Sys2Proof.Machine
end

