-- ==== Sys2Proof/Machine/Table.lean ====
section
/-! DEFINITION. Sparse tables: reading an entry, writing one, and their canonical form. -/

namespace Sys2Proof.Machine

open Sys2Proof

/-- The entry at key `k`, or the table's default `d`. -/
def tget {α : Type} (d : α) : Tbl α → Nat → α
  | [], _ => d
  | (j, v) :: t, k => if j = k then v else tget d t k

/-- The table without key `k`. -/
def tdrop {α : Type} : Tbl α → Nat → Tbl α
  | [], _ => []
  | (j, v) :: t, k => if j = k then tdrop t k else (j, v) :: tdrop t k

/-- Insert before the first larger key. -/
def tins {α : Type} : Tbl α → Nat → α → Tbl α
  | [], k, v => [(k, v)]
  | (j, w) :: t, k, v => if k < j then (k, v) :: (j, w) :: t else (j, w) :: tins t k v

/-- Write entry `k`: a value equal to the default removes the entry. -/
def tset {α : Type} [DecidableEq α] (d : α) (t : Tbl α) (k : Nat) (v : α) : Tbl α :=
  if v = d then tdrop t k else tins (tdrop t k) k v

/-- Change entry `k`. -/
def tmod {α : Type} [DecidableEq α] (d : α) (t : Tbl α) (k : Nat) (f : α → α) : Tbl α :=
  tset d t k (f (tget d t k))

/-- Change every entry; those that become the default are removed. -/
def tmap {α : Type} [DecidableEq α] (d : α) (f : Nat → α → α) (t : Tbl α) : Tbl α :=
  (t.map fun e => (e.1, f e.1 e.2)).filter fun e => decide (e.2 ≠ d)

/-- Canonical form: keys strictly rise and no entry is the default. -/
def tok {α : Type} [DecidableEq α] (d : α) : Tbl α → Bool
  | [] => true
  | [(_, v)] => decide (v ≠ d)
  | (j, v) :: (k, w) :: t => decide (v ≠ d) && decide (j < k) && tok d ((k, w) :: t)

/-- Write a run of consecutive entries. -/
def tsetRun {α : Type} [DecidableEq α] (d : α) (t : Tbl α) (k : Nat) : List α → Tbl α
  | [] => t
  | v :: vs => tsetRun d (tset d t k v) (k + 1) vs

/-- Read a run of consecutive entries. -/
def tgetRun {α : Type} (d : α) (t : Tbl α) (k n : Nat) : List α :=
  (List.range n).map fun i => tget d t (k + i)

/-- Drop every entry whose key lies in `[lo, lo + n)`. -/
def tclear {α : Type} (t : Tbl α) (lo n : Nat) : Tbl α :=
  t.filter fun e => !(lo ≤ e.1 && e.1 < lo + n)

end Sys2Proof.Machine
end

