-- ==== Sys2Proof/Machine/Operands.lean ====
section
/-! DEFINITION. Operand forms: bit fields, little-endian byte strings and masks. -/

namespace Sys2Proof.Machine

open Sys2Proof

/-- The `len` bits of `w` from bit `lo` up, as a number. -/
def fld {n : Nat} (w : BitVec n) (lo len : Nat) : Nat := (w.toNat >>> lo) % 2 ^ len

/-- Bit `i` of `w`. -/
def bit {n : Nat} (w : BitVec n) (i : Nat) : Bool := w.toNat.testBit i

/-- The two's complement value of the `len` bits of `w` from bit `lo` up. -/
def sfld {n : Nat} (w : BitVec n) (lo len : Nat) : Int :=
  let v := fld w lo len
  if v < 2 ^ (len - 1) then (v : Int) else (v : Int) - 2 ^ len

/-- Little-endian number of a byte string. -/
def leNat : List Byte → Nat
  | [] => 0
  | b :: bs => b.toNat + 256 * leNat bs

/-- The `k` low bytes of `v`, low byte first. -/
def leBytes : Nat → Nat → List Byte
  | 0, _ => []
  | k + 1, v => BitVec.ofNat 8 v :: leBytes k (v / 256)

/-- The `len` bytes of `b` from offset `off`. -/
def slice (b : List Byte) (off len : Nat) : List Byte := (b.drop off).take len

/-- The little-endian number of `len` bytes at offset `off`. -/
def leAt (b : List Byte) (off len : Nat) : Nat := leNat (slice b off len)

/-- `n` zero bytes. -/
def zeros (n : Nat) : List Byte := List.replicate n 0

/-- A byte string cut or filled with zeros to `n` bytes. -/
def fit (n : Nat) (b : List Byte) : List Byte := b.take n ++ zeros (n - b.length)

/-- The mask with bit `i` set for each `i < n` that `p` selects. -/
def maskOf (n : Nat) (p : Nat → Bool) : Nat :=
  (List.range n).foldl (fun m i => if p i then m + 2 ^ i else m) 0

/-- The set bits of a mask below `n`, ascending. -/
def bitsOf (n m : Nat) : List Nat := (List.range n).filter fun i => m.testBit i

/-- 1 for true. -/
def b2n (b : Bool) : Nat := if b then 1 else 0

/-- A count of 32 bits that wraps (R397 and the counters of the register chapters). -/
def inc32 (w : W32) (k : Nat) : W32 := w + BitVec.ofNat 32 k

/-- The value of `w` as a two's complement number. -/
def sint {n : Nat} (w : BitVec n) : Int := w.toInt

end Sys2Proof.Machine
end

