-- ==== Sys2Proof/Machine/Crypto.lean ====
section
/-! DEFINITION. SHA-512 (FIPS 180-4), the CRC-32 of R331 and R372, HMAC, HKDF, AES-256-GCM and AES-256-XTS. The spec names
these standards (R445) without giving them: PRESUMED, log entry 6. -/

namespace Sys2Proof.Machine

open Sys2Proof

/-- Big-endian number of a byte string. -/
def beNat (b : List Byte) : Nat := b.foldl (fun n x => 256 * n + x.toNat) 0

/-- `k` bytes of `v`, high byte first. -/
def beBytes (k v : Nat) : List Byte := (leBytes k v).reverse

/-! ### SHA-512 -/

/-- Bits 64 and up of a root: the k-th root of `p` times 2^64, rounded down, found bit by bit below 2^`b`. -/
def rootBits (k p : Nat) : Nat → Nat → Nat
  | 0, r => r
  | b + 1, r => rootBits k p b (if (r + 2 ^ b) ^ k ≤ p * 2 ^ (64 * k) then r + 2 ^ b else r)

/-- The first 64 bits of the fraction of the k-th root of `p`: what the constants of the hash are, for the first 80 primes
(k = 3) and the first 8 (k = 2). -/
def rootFraction (k p : Nat) : Nat := rootBits k p 69 0 % 2 ^ 64

/-- Cube-root fractions of the first 80 primes, four to a number, the first highest. -/
def shaCubes : List Nat := [
    0x428a2f98d728ae227137449123ef65cdb5c0fbcfec4d3b2fe9b5dba58189dbbc,
    0x3956c25bf348b53859f111f1b605d019923f82a4af194f9bab1c5ed5da6d8118,
    0xd807aa98a303024212835b0145706fbe243185be4ee4b28c550c7dc3d5ffb4e2,
    0x72be5d74f27b896f80deb1fe3b1696b19bdc06a725c71235c19bf174cf692694,
    0xe49b69c19ef14ad2efbe4786384f25e30fc19dc68b8cd5b5240ca1cc77ac9c65,
    0x2de92c6f592b02754a7484aa6ea6e4835cb0a9dcbd41fbd476f988da831153b5,
    0x983e5152ee66dfaba831c66d2db43210b00327c898fb213fbf597fc7beef0ee4,
    0xc6e00bf33da88fc2d5a79147930aa72506ca6351e003826f142929670a0e6e70,
    0x27b70a8546d22ffc2e1b21385c26c9264d2c6dfc5ac42aed53380d139d95b3df,
    0x650a73548baf63de766a0abb3c77b2a881c2c92e47edaee692722c851482353b,
    0xa2bfe8a14cf10364a81a664bbc423001c24b8b70d0f89791c76c51a30654be30,
    0xd192e819d6ef5218d69906245565a910f40e35855771202a106aa07032bbd1b8,
    0x19a4c116b8d2d0c81e376c085141ab532748774cdf8eeb9934b0bcb5e19b48a8,
    0x391c0cb3c5c95a634ed8aa4ae3418acb5b9cca4f7763e373682e6ff3d6b2b8a3,
    0x748f82ee5defb2fc78a5636f43172f6084c87814a1f0ab728cc702081a6439ec,
    0x90befffa23631e28a4506cebde82bde9bef9a3f7b2c67915c67178f2e372532b,
    0xca273eceea26619cd186b8c721c0c207eada7dd6cde0eb1ef57d4f7fee6ed178,
    0x06f067aa72176fba0a637dc5a2c898a6113f9804bef90dae1b710b35131c471b,
    0x28db77f523047d8432caab7b40c724933c9ebe0a15c9bebc431d67c49c100d4c,
    0x4cc5d4becb3e42b6597f299cfc657e2a5fcb6fab3ad6faec6c44198c4a475817]

/-- Square-root fractions of the first 8 primes, four to a number, the first highest. -/
def shaSquares : List Nat := [
    0x6a09e667f3bcc908bb67ae8584caa73b3c6ef372fe94f82ba54ff53a5f1d36f1,
    0x510e527fade682d19b05688c2b3e6c1f1f83d9abfb41bd6b5be0cd19137e2179]

/-- Word `i` of a number of four 64-bit words, the first highest. -/
def quadWord (x i : Nat) : Nat := x / 2 ^ (64 * (3 - i)) % 2 ^ 64

/-- The round constants in order. -/
def shaRounds : List W64 := shaCubes.flatMap fun x => (List.range 4).map fun i => BitVec.ofNat 64 (quadWord x i)

/-- XOR of a word turned right by each of the amounts, and of the word moved right by the last, if any. -/
def turned (amounts : List Nat) (drop : Option Nat) (x : W64) : W64 :=
  amounts.foldl (fun a n => a ^^^ x.rotateRight n) (match drop with | some n => x >>> n | none => 0)

/-- A register of four words, the oldest highest: the hash state is two of these. -/
abbrev Quad := BitVec 256

/-- Word `i` of a register, the newest numbered 0. -/
def Quad.word (q : Quad) (i : Nat) : W64 := q.extractLsb' (64 * i) 64

/-- Take a word in, the oldest going out. -/
def Quad.push (q : Quad) (x : W64) : Quad := (q <<< 64) ||| x.setWidth 256

/-- Add two registers word by word. -/
def Quad.plus (p q : Quad) : Quad := (List.range 4).reverse.foldl (fun a i => a.push (p.word i + q.word i)) 0

/-- The register of four words of which the first is the newest. -/
def Quad.of (x : Nat) : Quad := (List.range 4).reverse.foldl (fun a i => a.push (BitVec.ofNat 64 (quadWord x i))) 0

/-- One round under a constant and the schedule word that stands first in the window of 16, which moves on by one. -/
def shaStep (h : Quad × Quad × List W64) (k : W64) : Quad × Quad × List W64 :=
  let (p, q, win) := h
  let e := q.word 0
  let pick := q.word 2 ^^^ (e &&& (q.word 1 ^^^ q.word 2))
  let most := (p.word 0 &&& (p.word 1 ||| p.word 2)) ||| (p.word 1 &&& p.word 2)
  let t := q.word 3 + turned [14, 18, 41] none e + pick + k + win.headD 0
  let next := win.headD 0 + turned [1, 8] (some 7) (win.getD 1 0) + win.getD 9 0 + turned [19, 61] (some 6) (win.getD 14 0)
  (p.push (t + turned [28, 34, 39] none (p.word 0) + most), q.push (p.word 3 + t), win.drop 1 ++ [next])

/-- `b` cut into `n` pieces of `k` bytes. -/
def cut (k : Nat) : Nat → List Byte → List (List Byte)
  | 0, _ => []
  | n + 1, b => b.take k :: cut k n (b.drop k)

/-- Take in one block of 128 bytes. -/
def shaTake (h : Quad × Quad) (block : List Byte) : Quad × Quad :=
  let win := (cut 8 16 block).map fun b => BitVec.ofNat 64 (beNat b)
  let r := shaRounds.foldl shaStep (h.1, h.2, win)
  (h.1.plus r.1, h.2.plus r.2.1)

/-- The 64-byte SHA-512 digest of a message: the message, a set bit, zeros, and its length in bits as the last 16 bytes of
whole blocks. -/
def sha512 (m : List Byte) : List Byte :=
  let whole := m ++ 0x80#8 :: zeros ((239 - m.length % 128) % 128) ++ beBytes 16 (8 * m.length)
  let start := (Quad.of (shaSquares.getD 0 0), Quad.of (shaSquares.getD 1 0))
  let h := (cut 128 (whole.length / 128) whole).foldl shaTake start
  [h.1, h.2].flatMap fun q => [0, 1, 2, 3].flatMap fun i => beBytes 8 (q.word i).toNat

/-! ### CRC-32 (R331, R372) -/

/-- Shift one bit of the reflected polynomial 0x04C11DB7. -/
def crcBit (c : W32) : W32 := if c.getLsbD 0 then (c >>> 1) ^^^ 0xEDB88320 else c >>> 1

def crcByte (c : W32) (b : Byte) : W32 :=
  let x := c ^^^ b.setWidth 32
  crcBit (crcBit (crcBit (crcBit (crcBit (crcBit (crcBit (crcBit x)))))))

/-- CRC-32, initial value and final XOR all ones. -/
def crc32 (m : List Byte) : W32 := m.foldl crcByte 0xFFFFFFFF ^^^ 0xFFFFFFFF

/-! ### HMAC and HKDF with SHA-512 (R445) -/

def xorBytes (a b : List Byte) : List Byte := (a.zip b).map fun x => x.1 ^^^ x.2

/-- HMAC of RFC 2104 with SHA-512. -/
def hmac (key msg : List Byte) : List Byte :=
  let k := fit 128 (if 128 < key.length then sha512 key else key)
  sha512 (k.map (· ^^^ 0x5C) ++ sha512 (k.map (· ^^^ 0x36) ++ msg))

/-- HKDF of RFC 5869 for at most 64 bytes. -/
def hkdf (salt ikm info : List Byte) (len : Nat) : List Byte :=
  (hmac (hmac salt ikm) (info ++ [1])).take len

/-! ### AES-256 -/

/-- Multiplication by x in the field of AES. -/
def aesTwice (x : Byte) : Byte := if x.getLsbD 7 then (x <<< 1) ^^^ 0x1B else x <<< 1

/-- Product in the field of AES, over the low `n` bits of the first factor. -/
def aesMul : Nat → Byte → Byte → Byte
  | 0, _, _ => 0
  | n + 1, a, b => (if a.getLsbD 0 then b else 0) ^^^ aesMul n (a >>> 1) (aesTwice b)

/-- What the substitution of a byte is: its inverse, turned left by 0 to 4 places and added up, plus 0x63. The inverse is
the byte's 254th power. -/
def aesSubRule (x : Byte) : Byte :=
  let sq (y : Byte) : Byte := aesMul 8 y y
  let inv := (List.range 7).foldl (fun (a : Byte × Byte) _ => (sq a.1, aesMul 8 a.2 (sq a.1))) (x, 1)
  [0, 1, 2, 3, 4].foldl (fun a n => a ^^^ inv.2.rotateLeft n) 0x63

/-- The substitution, 16 bytes to a number, the first highest. -/
def aesRows : List Nat := [
    0x637c777bf26b6fc53001672bfed7ab76, 0xca82c97dfa5947f0add4a2af9ca472c0,
    0xb7fd9326363ff7cc34a5e5f171d83115, 0x04c723c31896059a071280e2eb27b275,
    0x09832c1a1b6e5aa0523bd6b329e32f84, 0x53d100ed20fcb15b6acbbe394a4c58cf,
    0xd0efaafb434d338545f9027f503c9fa8, 0x51a3408f929d38f5bcb6da2110fff3d2,
    0xcd0c13ec5f974417c4a77e3d645d1973, 0x60814fdc222a908846eeb814de5e0bdb,
    0xe0323a0a4906245cc2d3ac629195e479, 0xe7c8376d8dd54ea96c56f4ea657aae08,
    0xba78252e1ca6b4c6e8dd741f4bbd8b8a, 0x703eb5664803f60e613557b986c11d9e,
    0xe1f8981169d98e949b1e87e9ce5528df, 0x8ca1890dbfe6426841992d0fb054bb16]

/-- Its inverse, laid out in the same way. -/
def aesBackRows : List Nat := [
    0x52096ad53036a538bf40a39e81f3d7fb, 0x7ce339829b2fff87348e4344c4dee9cb,
    0x547b9432a6c2233dee4c950b42fac34e, 0x082ea16628d924b2765ba2496d8bd125,
    0x72f8f66486689816d4a45ccc5d65b692, 0x6c704850fdedb9da5e154657a78d9d84,
    0x90d8ab008cbcd30af7e45805b8b34506, 0xd02c1e8fca3f0f02c1afbd0301138a6b,
    0x3a9111414f67dcea97f2cfcef0b4e673, 0x96ac7422e7ad3585e2f937e81c75df6e,
    0x47f11a711d29c5896fb7620eaa18be1b, 0xfc563e4bc6d279209adbc0fe78cd5af4,
    0x1fdda8338807c731b11210592780ec5f, 0x60517fa919b54a0d2de57a9f93c99cef,
    0xa0e03b4dae2af5b0c8ebbb3c83539961, 0x172b047eba77d626e169146355210c7d]

/-- Byte `x` of a table of 16 rows. -/
def rowByte (rows : List Nat) (x : Byte) : Byte :=
  BitVec.ofNat 8 (rows.getD (x.toNat / 16) 0 / 256 ^ (15 - x.toNat % 16))

def aesSub (x : Byte) : Byte := rowByte aesRows x
def aesBack (x : Byte) : Byte := rowByte aesBackRows x

/-- The words of the key schedule after `n` more words, newest first; `i` is the number of the next word. -/
def aesExtend : Nat → Nat → Byte → List (List Byte) → List (List Byte)
  | 0, _, _, w => w
  | n + 1, i, rc, w =>
    let p := w.headD []
    let q :=
      if i % 8 = 0 then xorBytes ((p.drop 1 ++ p.take 1).map aesSub) [rc, 0, 0, 0]
      else if i % 8 = 4 then p.map aesSub
      else p
    aesExtend n (i + 1) (if i % 8 = 0 then aesTwice rc else rc) (xorBytes (w.getD 7 []) q :: w)

/-- The 15 round keys of a 256-bit key. -/
def aesKeys (key : List Byte) : List (List Byte) :=
  cut 16 15 (aesExtend 52 8 1 (cut 4 8 key).reverse).reverse.flatten

/-- Row r of the state turns by r columns: byte 4c + r comes from column c + r, or c − r on the way back. -/
def aesTurn (back : Bool) (b : List Byte) : List Byte :=
  (List.range 16).map fun i => b.getD ((i + (if back then 12 else 4) * (i % 4)) % 16) 0

/-- A column multiplied by the circulant of the four coefficients. -/
def aesMix (co : List Byte) (c : List Byte) : List Byte :=
  (List.range 4).map fun r => (List.range 4).foldl (fun a k => a ^^^ aesMul 4 (co.getD ((k + 4 - r) % 4) 0) (c.getD k 0)) 0

def aesMixAll (co : List Byte) (b : List Byte) : List Byte := (cut 4 4 b).flatMap (aesMix co)

/-- The rounds after the first key addition: each but the last mixes its columns. -/
def aesRounds : List (List Byte) → List Byte → List Byte
  | [], b => b
  | k :: ks, b =>
    let t := aesTurn false (b.map aesSub)
    aesRounds ks (xorBytes (if ks.isEmpty then t else aesMixAll [2, 3, 1, 1] t) k)

/-- AES-256 (FIPS 197) on a block of 16 bytes. -/
def aes (keys : List (List Byte)) (b : List Byte) : List Byte := aesRounds keys.tail (xorBytes b (keys.headD []))

/-- The rounds undone, last first: `keys` holds the round keys newest first. -/
def aesUndo : List (List Byte) → Bool → List Byte → List Byte
  | [], _, b => b
  | k :: ks, last, b =>
    let t := xorBytes b k
    if ks.isEmpty then t
    else aesUndo ks false ((aesTurn true (if last then t else aesMixAll [14, 11, 13, 9] t)).map aesBack)

/-- The inverse of AES-256 on a block. -/
def aesInv (keys : List (List Byte)) (b : List Byte) : List Byte := aesUndo keys.reverse true b

/-! ### AES-256-XTS (R303, R445) -/

/-- A tweak of 16 bytes, the low byte first, multiplied by x. -/
def xtsNext (t : List Byte) : List Byte :=
  let n := 2 * leNat t
  leBytes 16 (if 2 ^ 128 ≤ n then n % 2 ^ 128 ^^^ 0x87 else n)

/-- `f` on the blocks of a data unit between two additions of the tweak. -/
def xtsBlocks (f : List Byte → List Byte) : Nat → List Byte → List Byte → List Byte
  | 0, _, _ => []
  | n + 1, t, b => xorBytes (f (xorBytes (b.take 16) t)) t ++ xtsBlocks f n (xtsNext t) (b.drop 16)

/-- A data unit of whole blocks under a pair of 256-bit keys, enciphered or deciphered: the first key is that of the data,
the second that of the tweak. -/
def xts (back : Bool) (pair : List Byte) (unit : Nat) (b : List Byte) : List Byte :=
  let keys := aesKeys (pair.take 32)
  xtsBlocks (if back then aesInv keys else aes keys) (b.length / 16)
    (aes (aesKeys (pair.drop 32)) (leBytes 16 unit)) b

/-! ### AES-256-GCM (R445) -/

/-- `n` steps of the product of `x` and `v` in the field of GHASH, from the top bit of `x`. -/
def ghashMul : Nat → BitVec 128 → BitVec 128 → BitVec 128 → BitVec 128
  | 0, _, _, z => z
  | n + 1, x, v, z =>
    ghashMul n (x <<< 1) (if v.getLsbD 0 then (v >>> 1) ^^^ (0xE1#128 <<< 120) else v >>> 1)
      (if x.getLsbD 127 then z ^^^ v else z)

/-- GHASH of `n` blocks. -/
def ghash (h : BitVec 128) : Nat → List Byte → BitVec 128 → BitVec 128
  | 0, _, y => y
  | n + 1, b, y => ghash h n (b.drop 16) (ghashMul 128 (y ^^^ BitVec.ofNat 128 (beNat (b.take 16))) h 0)

/-- Zeros up to the next block. -/
def gcmPad (b : List Byte) : List Byte := b ++ zeros ((16 - b.length % 16) % 16)

/-- `n` blocks of keystream from counter `c`. -/
def gcmStream (keys : List (List Byte)) (iv : List Byte) : Nat → Nat → List Byte
  | 0, _ => []
  | n + 1, c => aes keys (iv ++ beBytes 4 c) ++ gcmStream keys iv n (c + 1)

/-- Encryption or decryption by AES-256-GCM (NIST SP 800-38D) under a key and a 96-bit IV. -/
def gcmXor (key iv data : List Byte) : List Byte :=
  xorBytes data (gcmStream (aesKeys key) iv ((data.length + 15) / 16) 2)

/-- The 128-bit tag of AES-256-GCM over the AAD and the ciphertext. -/
def gcmTag (key iv aad ct : List Byte) : List Byte :=
  let keys := aesKeys key
  let text := gcmPad aad ++ gcmPad ct ++ beBytes 8 (8 * aad.length) ++ beBytes 8 (8 * ct.length)
  let h := BitVec.ofNat 128 (beNat (aes keys (zeros 16)))
  xorBytes (aes keys (iv ++ beBytes 4 1)) (beBytes 16 (ghash h (text.length / 16) text 0).toNat)

/-- An ASCII string as bytes. -/
def ascii (x : String) : List Byte := x.toList.map fun c => BitVec.ofNat 8 c.toNat

end Sys2Proof.Machine
end

