-- ==== Sys2Proof/Machine/Ecc.lean ====
section
/-! DEFINITION. The codes that guard memory: SECDED over an SRAM word and the parity of an SRAM line (R286, R290), and the
Reed-Solomon check word of an LPDDR5X granule (R293). The spec names the codes without their matrices: log entry 92. -/

namespace Sys2Proof.Machine

open Sys2Proof

/-! ### SECDED (R286, R290) -/

/-- True when a number has an odd count of ones below bit `n`. -/
def oddOnes (n x : Nat) : Bool := (List.range n).foldl (fun a i => a != x.testBit i) false

/-- Place of data bit `i` of a word in a Hamming code: the i-th place that is no power of two. DESIGN CHOICE, log entry
92. -/
def hammingPlace (i : Nat) : Nat :=
  i + (if i = 0 then 3 else if i < 4 then 4 else if i < 11 then 5 else if i < 26 then 6 else if i < 57 then 7 else 8)

/-- The 8-bit SECDED code of a 64-bit word: bits 6 to 0 are the sum of the places of its ones, and bit 7 makes the count
of ones even. -/
def secded (w : W64) : Nat :=
  let sum := (List.range 64).foldl (fun a i => if w.getLsbD i then a ^^^ hammingPlace i else a) 0
  sum + 128 * b2n (oddOnes 64 w.toNat != oddOnes 7 sum)

/-- A stored word of 72 bits whose bits differ from those written where `mask` has ones (bits 71 to 64 are the code), as a
read finds it: its condition, and the data that it returns. -/
def wordRead (w : W64) (mask : Nat) : EccSt × W64 :=
  if mask % 2 ^ 72 = 0 then (.ok, w)
  else
    let d := w ^^^ BitVec.ofNat 64 mask
    let c := secded w ^^^ mask / 2 ^ 64 % 256
    let at_ := (secded d ^^^ c) % 128
    let odd := oddOnes 64 d.toNat != oddOnes 8 c
    if !odd then (if at_ = 0 then (.ok, d) else (.uncorrectable, d))
    else match (List.range 64).find? fun i => hammingPlace i == at_ with
      | some i => (.correctable, d ^^^ BitVec.ofNat 64 (2 ^ i))
      | none => if at_ = 0 || [1, 2, 4, 8, 16, 32, 64].contains at_ then (.correctable, d) else (.uncorrectable, d)

/-- The parity bit over a line's tag and its valid bit. -/
def lineParity (tag : Nat) (valid : Bool) : Bool := oddOnes 2 tag != valid

/-! ### The check word of a granule (R293) -/

/-- Product over the low `n` bits of the first factor, in the field of `w`-bit symbols with polynomial `poly`. -/
def fieldMul (w poly : Nat) : Nat → Nat → Nat → Nat
  | 0, _, _ => 0
  | n + 1, a, b =>
    (if a % 2 = 1 then b else 0) ^^^ fieldMul w poly n (a / 2) (if b < 2 ^ (w - 1) then 2 * b else (2 * b) ^^^ poly)

/-- Powers of x from x^0 on. -/
def fieldPowers (w poly : Nat) : Nat → Nat → List Nat
  | 0, _ => []
  | n + 1, a => a :: fieldPowers w poly n (fieldMul w poly 2 2 a)

/-- Coefficients below the leading one, highest first, of the polynomial whose roots are the first `n` powers of x. -/
def checkPoly (w poly n : Nat) : List Nat :=
  ((fieldPowers w poly n 1).foldl (fun (p : List Nat) r =>
    ((p ++ [0]).zip (0 :: p)).map fun (y : Nat × Nat) => y.1 ^^^ fieldMul w poly w r y.2) [1]).drop 1

/-- The `n` check symbols of a Reed-Solomon code over `w`-bit symbols: the remainder, highest coefficient first, of the data as a
polynomial whose first symbol is its highest coefficient. DESIGN CHOICE, log entry 92. -/
def rsCheck (w poly n : Nat) (data : List Nat) : List Nat :=
  let g := checkPoly w poly n
  data.foldl (fun (r : List Nat) b =>
    let f := b ^^^ r.headD 0
    ((r.drop 1 ++ [0]).zip g).map fun (y : Nat × Nat) => y.1 ^^^ fieldMul w poly w f y.2) (List.replicate n 0)

/-- The four check symbols of the 64 stored bytes and the 32-bit raw address of a granule, as bytes. The field polynomial is
0x11D: DESIGN CHOICE, log entry 92. -/
def checkWord (stored : List Byte) (raw : Nat) : List Byte :=
  (rsCheck 8 0x11D 4 ((fit 64 stored ++ leBytes 4 raw).map (·.toNat))).map (BitVec.ofNat 8)

/-- Condition of a granule whose stored bytes differ from those written where `mask` has ones: bytes 0 to 63 are the data,
64 to 67 the check word and 68 to 71 the address term. Up to 2 byte errors are corrected, 3 or 4 detected, and an error in
the address term shows as uncorrectable (R293). Beyond 4, DESIGN CHOICE (log entry 92): uncorrectable. -/
def granuleEcc (mask : Nat) : EccSt :=
  let wrong (i : Nat) : Bool := mask / 256 ^ i % 256 != 0
  let n := ((List.range 68).filter wrong).length
  if (List.range 4).any fun i => wrong (68 + i) then .uncorrectable
  else if n = 0 then .ok
  else if n ≤ 2 then .correctable
  else .uncorrectable

end Sys2Proof.Machine
end

