-- ==== Sys2Proof/Machine/PartsTop.lean ====
section
/-! DEFINITION. The groups of the machine's state: supply and pins, program stores, compute state, memory, optics.
Field docstrings end in a tag [rule; width; reset value]; `DC n` marks a reset value the spec does not give
(log entry n). -/

namespace Sys2Proof.Machine

open Sys2Proof

/-- The module's supply side (R27, R30, R42, R43, R543). -/
structure Supply where
  pins : Pins := {}
  /-- PWR_GOOD [R43; 1; 0]. -/
  good : Bool := false
  /-- A WAKE_N assertion latched during entry to Dormant [R42; 1; 0]. -/
  wakeLatched : Bool := false
  /-- The 200 ms after a recognised PWR_EN fall run [R543; 1; 0]. -/
  hold : Bool := false
  /-- A PWR_EN rise is held until the 200 ms end [R543; 1; 0]. -/
  riseHeld : Bool := false
  deriving DecidableEq, Repr

/-- The program stores: instruction words by key (die, slot, address), and the sequencer stores (R149, R212, R227,
R361). -/
structure Progs where
  /-- Tile stores, keyed (2·(4·die + quadrant) + slot)·1024 + address [R139; 64×1024×32; 0 (R208)]. -/
  tile : Tbl W32 := []
  /-- VE stores, keyed (2·(4·die + quadrant) + slot)·2048 + address [R212; 64×2048×32; 0 (R208)]. -/
  ve : Tbl W32 := []
  /-- CCC stores, keyed (2·(4·die + quadrant) + slot)·2048 + address [R227; 64×2048×32; 0 (R208)]. -/
  ccc : Tbl W32 := []
  /-- Core microcode, as the cores of each quadrant hold it, keyed 4·die + quadrant [R65; table of bytes; none]. -/
  ucode : Tbl (List Byte) := []
  /-- Sequencer stores, keyed 4096·die + address [R361; 8×4096×32; DC 3]. -/
  seq : Tbl W32 := []
  /-- Store halves cleared with their block, keyed 2 × context + (0 VE, 1 CCC), with the runs of instructions loaded
  since: first and count [R208; table; none]. -/
  gone : Tbl (Option (List (Nat × Nat))) := []
  deriving DecidableEq, Repr

/-- Clusters, contexts and cores (R139, R212, R227, R234). -/
structure Compute where
  /-- Cluster maps, keyed 48·die + c [R242; table; none lost]. -/
  clu : Tbl Clu := []
  /-- CCC contexts, keyed 2·(48·die + c) + slot [R227; table; idle]. -/
  ccc : Tbl Ccc := []
  /-- VE contexts, same key [R212; table; idle]. -/
  ve : Tbl Ve := []
  /-- DMA contexts, same key [R234; table; empty]. -/
  dma : Tbl Dma := []
  /-- Cores, keyed 25·(48·die + c) + k [R139; table; `Core` reset]. -/
  core : Tbl Core := []
  /-- Watcher tables, keyed 256·context + TID [R196; table; 0]. -/
  wat : Tbl WatEntry := []
  /-- WAT_NF, WAT_SAT and WAT_RETRY, keyed 3·context + 0, 1, 2 [R202; table; 0]. -/
  watTot : Tbl W32 := []
  deriving DecidableEq, Repr

/-- A memory key (R302, R447): the operator realm's, drawn at a Spring, or that of a tenant realm's REALM_ID and secret. -/
inductive MemKey where
  | operator (draw : Nat)
  | tenant (realmId secret : List Byte)
  deriving DecidableEq, Repr

/-- What is stored in a granule: the encryption of 64 bytes under a key, or the bytes themselves (R303). -/
structure Gran where
  key : Option MemKey
  data : List Byte
  deriving DecidableEq, Repr

/-- A page of LPDDR5X: what its unlisted granules hold, and the sweep's cursor (R305, R306). -/
structure PageMem where
  /-- The raw bytes at first: 0xA5, or free values of the index given [R296; Option; none]. -/
  base : Option Nat := none
  /-- Sweeps of the page, oldest first: the granules moved, the key they left and the key they took [R304; List; empty]. -/
  layers : List (Nat × MemKey × MemKey) := []
  /-- Cursor of the sweep that moves the page; 0 when none does [R305; 16; 0]. -/
  cursor : Nat := 0
  deriving DecidableEq, Repr

/-- Bonded SRAM and LPDDR5X (R281 to R306). -/
structure Mem where
  /-- SRAM bytes of valid lines, by device offset; an unlisted byte is 0 [R287; table; 0]. -/
  sram : Tbl Byte := []
  /-- Valid lines and their realm tag, keyed by device offset / 32 [R286; table; invalid]. -/
  line : Tbl (Option Nat) := []
  /-- Stored bits of SRAM words and their SECDED codes that differ from those written, keyed by device offset / 8
  [R286, R290; table; none]. -/
  sramEcc : Tbl Nat := []
  /-- Granules written since the page was last filled, keyed by device offset / 64 [R303, R306; table; none]. -/
  lpx : Tbl (Option Gran) := []
  /-- Page attributes, keyed by device offset / 2 MiB [R302; table; unassigned]. -/
  page : Tbl PageAttr := []
  /-- What the unlisted granules of a page hold, keyed as `page` [R296, R304; table; 0xA5]. -/
  pageGen : Tbl PageMem := []
  /-- Bits of granules, their check words and address terms that differ from those written, keyed by device offset / 64
  [R293, R301; table; none]. -/
  lpxEcc : Tbl Nat := []
  deriving DecidableEq, Repr

/-- The lasers, comb buses, rings and lock sequencers (R348 to R364). -/
structure Optics where
  /-- Lasers, keyed 0 to 9 [R349; table; off]. -/
  las : Tbl Laser := []
  /-- Line power of the buses in 0.01 mW, keyed 0 to 7 [R350; table; 0 (DC 3)]. -/
  bus : Tbl Nat := []
  /-- Rings, keyed 224·die + ring [R355; table; OFF]. -/
  ring : Tbl OptRing := []
  /-- Lock sequencers, keyed by die [R361; table; stopped]. -/
  seq : Tbl Seq := []
  deriving DecidableEq, Repr

/-- A buddy region held for a partner (R342, R343). -/
structure Buddy where
  partner : Nat
  region : Region
  /-- Bytes of each of the two slots. -/
  bytes : Nat
  deriving DecidableEq, Repr

end Sys2Proof.Machine
end

