-- ==== Sys2Proof/Machine/State.lean ====
section
/-! DEFINITION. The state of the module, its state after reset, and the reasons a step can stop. -/

namespace Sys2Proof.Machine

open Sys2Proof

/-- Faults: the block has none. Everything the spec calls a fault of the module (a block, a domain, a ring, a task, a
step) is recorded in the state and the module goes on; no command ends the machine. -/
inductive Fault where
  deriving DecidableEq, Repr

/-- Refusals of a command. -/
inductive Refusal where
  /-- Raised by a dispatch arm whose command has no meaning yet. Safe: the machine stops. -/
  | notModelled (mnemonic : String)
  deriving DecidableEq, Repr

/-- Everything the spec gives the module, and the queue of commands that wait. -/
structure State where
  /-- The part number, fixed for the part: no step changes it [R3; enum; D8, DC 2]. -/
  variant : Variant := .d8
  /-- The service phase [R41, R43, R62, R77, R79; enum; off]. -/
  phase : Phase := .off
  /-- Pins, PWR_GOOD and the latches of the supply side [R27 to R43]. -/
  sup : Supply := {}
  /-- Power domains PD0 to PD79, keyed by number [R34; table; Off]. -/
  doms : Tbl Dom := []
  /-- The power sequence in progress [R32, R33, R37; Option; none]. -/
  pseq : Option PowerSeq := none
  /-- Accepted power sequences that wait for the one in progress, oldest first [R37; List; empty]. -/
  pwait : List PowerSeq := []
  /-- Progress of Spring and GLB_SPRING_STAT [R65 to R77]. -/
  spring : Spring := {}
  /-- The profile in force [R71 to R73; Option; none]. -/
  prof : Option Profile := none
  /-- The orderly shutdown in progress [R79; Option; none]. -/
  shut : Option Shutdown := none
  /-- The power-cap loop [R44 to R49]. -/
  cap : PowerCap := {}
  /-- Thermal throttling, trip and droop [R50 to R60]. -/
  thm : Thermal := {}
  /-- Blocks, keyed by BAR0 frame offset [R81, R85; table; Off, EN 0] (log entry 8). -/
  blks : Tbl Blk := []
  /-- RWB registers that differ from their reset values, keyed by BAR0 address [R101 to R104; table; reset values]. -/
  rwb : Tbl Rwb := []
  /-- PCIe function 0 [R105 to R117]. -/
  fn0 : Fn := {}
  /-- PCIe function 1 [R105 to R117]. -/
  fn1 : Fn := {}
  /-- The steward's port [R74, R111 to R113; Option; none]. -/
  steward : Option Nat := none
  /-- The job of slot A [R245; Option; none]. -/
  jobA : Option Job := none
  /-- The job of slot B [R245; Option; none]. -/
  jobB : Option Job := none
  /-- Job identifiers given out, by realm 0 to 2 [R245; table; 0]. -/
  jobIds : Tbl Nat := []
  /-- Die schedulers, keyed by die [R255 to R279; table; reset of `Dsc`]. -/
  dsc : Tbl Dsc := []
  /-- Scoreboard counts, keyed 4096·die + entry [R260; table; 0]. -/
  scb : Tbl Nat := []
  /-- The program stores [R139, R212, R227, R361]. -/
  prg : Progs := {}
  /-- Clusters, contexts and cores [chapters 06 to 08]. -/
  cmp : Compute := {}
  /-- SRAM and LPDDR5X [chapter 10]. -/
  mem : Mem := {}
  /-- The SRAM side of each die, keyed by die [R310, R317; table; reset of `Srm`]. -/
  srm : Tbl Srm := []
  /-- LPDDR5X stacks, keyed 0 to 39 [R299, R318; table; reset of `Stack`]. -/
  stk : Tbl Stack := []
  /-- Lasers, rings and lock sequencers [chapter 12]. -/
  opt : Optics := {}
  /-- Link engines: port p, or 32 + 8·die + group for on-package groups [R385, R443; table; dark]. -/
  links : Tbl Link := []
  /-- The Rack Time unit [chapter 13]. -/
  rtb : Rtb := {}
  /-- Fabric, discovery and collectives [chapter 14]. -/
  fab : Fabric := {}
  /-- Realms, keys, attestation and debug [chapter 15]. -/
  sec : Sec := {}
  /-- Sentinel, ageing, maintenance locks and CP restarts [chapter 16]. -/
  rel : Rel := {}
  /-- Events, telemetry and the sideband [chapter 17]. -/
  mgt : Mgt := {}
  /-- Module flash and fuses, kept without power [R41, R444, R525; record; DC 4]. -/
  flash : Flash := {}
  /-- Buddy regions reserved for partners, keyed by partner chip [R342; table; none]. -/
  buddies : Tbl (Option Buddy) := []
  /-- The model's own counter, which indexes the free values (log entry 1) [model; Nat; 0, DC 1]. -/
  freeCtr : Nat := 0
  /-- The model's own record of what the block sent out, newest first (log entry 5) [model; List; empty]. -/
  out : List Out := []
  /-- Commands waiting, first in first out [model; List; empty]. -/
  pending : List Instr := []
  deriving DecidableEq, Repr

namespace State

/-- Replace `variant`. -/
def setVariant (s : State) (v : Variant) : State := { s with variant := v }
/-- Replace `phase`. -/
def setPhase (s : State) (v : Phase) : State := { s with phase := v }
/-- Replace `sup`. -/
def setSup (s : State) (v : Supply) : State := { s with sup := v }
/-- Replace `doms`. -/
def setDoms (s : State) (v : Tbl Dom) : State := { s with doms := v }
/-- Replace `pseq`. -/
def setPseq (s : State) (v : Option PowerSeq) : State := { s with pseq := v }
/-- Replace `pwait`. -/
def setPwait (s : State) (v : List PowerSeq) : State := { s with pwait := v }
/-- Replace `spring`. -/
def setSpring (s : State) (v : Spring) : State := { s with spring := v }
/-- Replace `prof`. -/
def setProf (s : State) (v : Option Profile) : State := { s with prof := v }
/-- Replace `shut`. -/
def setShut (s : State) (v : Option Shutdown) : State := { s with shut := v }
/-- Replace `cap`. -/
def setCap (s : State) (v : PowerCap) : State := { s with cap := v }
/-- Replace `thm`. -/
def setThm (s : State) (v : Thermal) : State := { s with thm := v }
/-- Replace `blks`. -/
def setBlks (s : State) (v : Tbl Blk) : State := { s with blks := v }
/-- Replace `rwb`. -/
def setRwb (s : State) (v : Tbl Rwb) : State := { s with rwb := v }
/-- Replace `fn0`. -/
def setFn0 (s : State) (v : Fn) : State := { s with fn0 := v }
/-- Replace `fn1`. -/
def setFn1 (s : State) (v : Fn) : State := { s with fn1 := v }
/-- Replace `steward`. -/
def setSteward (s : State) (v : Option Nat) : State := { s with steward := v }
/-- Replace `jobA`. -/
def setJobA (s : State) (v : Option Job) : State := { s with jobA := v }
/-- Replace `jobB`. -/
def setJobB (s : State) (v : Option Job) : State := { s with jobB := v }
/-- Replace `jobIds`. -/
def setJobIds (s : State) (v : Tbl Nat) : State := { s with jobIds := v }
/-- Replace `dsc`. -/
def setDsc (s : State) (v : Tbl Dsc) : State := { s with dsc := v }
/-- Replace `scb`. -/
def setScb (s : State) (v : Tbl Nat) : State := { s with scb := v }
/-- Replace `prg`. -/
def setPrg (s : State) (v : Progs) : State := { s with prg := v }
/-- Replace `cmp`. -/
def setCmp (s : State) (v : Compute) : State := { s with cmp := v }
/-- Replace `mem`. -/
def setMem (s : State) (v : Mem) : State := { s with mem := v }
/-- Replace `srm`. -/
def setSrm (s : State) (v : Tbl Srm) : State := { s with srm := v }
/-- Replace `stk`. -/
def setStk (s : State) (v : Tbl Stack) : State := { s with stk := v }
/-- Replace `opt`. -/
def setOpt (s : State) (v : Optics) : State := { s with opt := v }
/-- Replace `links`. -/
def setLinks (s : State) (v : Tbl Link) : State := { s with links := v }
/-- Replace `rtb`. -/
def setRtb (s : State) (v : Rtb) : State := { s with rtb := v }
/-- Replace `fab`. -/
def setFab (s : State) (v : Fabric) : State := { s with fab := v }
/-- Replace `sec`. -/
def setSec (s : State) (v : Sec) : State := { s with sec := v }
/-- Replace `rel`. -/
def setRel (s : State) (v : Rel) : State := { s with rel := v }
/-- Replace `mgt`. -/
def setMgt (s : State) (v : Mgt) : State := { s with mgt := v }
/-- Replace `flash`. -/
def setFlash (s : State) (v : Flash) : State := { s with flash := v }
/-- Replace `buddies`. -/
def setBuddies (s : State) (v : Tbl (Option Buddy)) : State := { s with buddies := v }
/-- Replace `freeCtr`. -/
def setFreeCtr (s : State) (v : Nat) : State := { s with freeCtr := v }
/-- Replace `out`. -/
def setOut (s : State) (v : List Out) : State := { s with out := v }
/-- Replace `pending`. -/
def setPending (s : State) (v : List Instr) : State := { s with pending := v }

/-- The machine right after reset: no power, every field at its reset value (log entries 2 to 5). -/
def reset : State := {}

end State

end Sys2Proof.Machine
end

