-- ==== Sys2Proof/Machine/Flags.lean ====
section
/-! DEFINITION. Status flags and event records: Rack Time as read, the event queue with its folding, and the module's
fault, trip and alert lines. -/

namespace Sys2Proof.Machine

open Sys2Proof

/-- Rack Time: RAW plus CORR (R387). -/
def rtNow (s : State) : W64 := s.rtb.raw + s.rtb.corr

/-- 1 ms, 1 s, 2 ms and 24 h in ticks of 0.8 ns. -/
def ticksMs : Nat := 1250000
def ticksSec : Nat := 1250000000
def tick2ms : Nat := 2500000
def ticksDay : Nat := 86400 * 1250000000

/-! ### Severity (R528) -/

/-- SEV of a code: 0 info, 1 warning, 2 error, 3 critical. BUDDY_PUSH and CP_RESTART are told by their outcome. -/
def sevOf (code : Nat) (data : List W64) : Nat :=
  if code ∈ [0x1001, 0x1004, 0x2004, 0x2006, 0x2007, 0x2008, 0x3002, 0x300A, 0x4001, 0x4002, 0x4004, 0x4005, 0x4008,
    0x4009, 0x400C, 0x400D, 0x5001, 0x5003, 0x5004, 0x6003, 0x6005, 0x6008, 0x600B, 0x7001, 0x7002, 0x7004, 0x7008,
    0x700A, 0x8001, 0x8002, 0x9004, 0x9009, 0x900A] then 1
  else if code ∈ [0x1003, 0x2002, 0x2005, 0x3003, 0x3004, 0x3005, 0x3006, 0x3007, 0x3008, 0x3009, 0x300D, 0x4003,
    0x4006, 0x400A, 0x5002, 0x6002, 0x7003, 0x8003, 0x8004, 0x8006, 0x9001] then 2
  else if code ∈ [0x6004, 0x8005, 0x9005] then 3
  else if code = 0x7006 then (if data.getLast? = some 0 then 0 else 1)
  else if code = 0x7007 then (if data.getLast? = some 1 then 3 else 2)
  else 0

def sevOfEv (e : Ev) : Nat := sevOf e.code.toNat e.data

/-! ### Raising an event (R522 to R524) -/

/-- Advance COUNT of the first record of a list that `p` takes; none if there is none. -/
def foldWhere (p : Ev → Bool) : List Ev → Option (List Ev)
  | [] => none
  | e :: es => if p e then some ({ e with count := satAdd 65535 e.count 1 } :: es) else (foldWhere p es).map (e :: ·)

/-- R192: after RECOMPUTE_FAILED the job's last event stays 0x1003; the records of the agents that the failure ends do
not displace it. -/
def keepsLast (j : Job) (code : W16) : Bool :=
  (j.step.map (·.recompute)).getD false && (code == 0x3005 || code == 0x3006 || code == 0x3007)

/-- Note in a job record the code of an event that names it (R131). -/
def noteJob (j : Option Job) (realm : Nat) (id code : W16) : Option Job :=
  match j with
  | some j => if j.realm = realm ∧ j.id = id ∧ keepsLast j code = false then some { j with lastEvent := code } else some j
  | none => none

/-- An event advances COUNT of the first record that `p` takes, or else takes a place in the hardware queue. -/
def logEv (p : Ev → Bool) (code : Nat) (realm : Byte) (job : W16) (unit : W64) (data : List W64) (s : State) : State :=
  let m := s.mgt
  let e : Ev := { code := BitVec.ofNat 16 code, realm, job, count := 1, seqNo := 0, rt := rtNow s, unit, data := data.take 12 }
  let m' : Mgt := match foldWhere p m.hwq with
    | some q => { m with hwq := q }
    | none => match foldWhere p m.log with
      | some l => { m with log := l }
      | none => if m.hwq.length < 1024 then { m with hwq := m.hwq ++ [e] } else { m with lost := m.lost + 1 }
  if job = 0xFFFF then s.setMgt m'
  else ((s.setMgt m').setJobA (noteJob s.jobA realm.toNat job e.code)).setJobB (noteJob s.jobB realm.toNat job e.code)

/-- An event that folds into a record of its CODE, UNIT and JOB of the last `fold` ticks; 0 for none. -/
def logFold (fold : Nat) (code : Nat) (realm : Byte) (job : W16) (unit : W64) (data : List W64) (s : State) : State :=
  logEv (fun e => fold != 0 && e.code == BitVec.ofNat 16 code && e.unit == unit && e.job == job
    && decide ((rtNow s).toNat - fold ≤ e.rt.toNat)) code realm job unit data s

/-- An event that names neither job nor realm. -/
def logMod (code : Nat) (unit : W64) (data : List W64) (s : State) : State :=
  logFold 0 code 0xFF 0xFFFF unit data s

/-- An event of a job. -/
def logJob (code : Nat) (j : Job) (unit : W64) (data : List W64) (s : State) : State :=
  logFold 0 code (BitVec.ofNat 8 j.realm) j.id unit data s

/-- A number as an event data word. -/
def dw (n : Nat) : W64 := BitVec.ofNat 64 n

/-- Bytes packed into one data word, low byte first (R524). -/
def packW (ns : List Nat) : W64 := BitVec.ofNat 64 (leNat (ns.map (BitVec.ofNat 8)))

/-! ### Resource identifiers (R503) -/

/-- The 64-bit identifier from its fields. -/
def resId (kind die unit sub dir : Nat) : W64 :=
  BitVec.ofNat 64 (kind <<< 56 + die <<< 48 + unit <<< 40 + sub <<< 32 + dir <<< 24)

def resDie (d : Nat) : W64 := resId 2 d 0 0 0
def resDom (n : Nat) : W64 := resId 3 0xFF n 0 0
def resCluster (d c : Nat) : W64 := resId 4 d c 0 0
def resCore (d c k : Nat) : W64 := resId 5 d c k 0
def resStack (n : Nat) : W64 := resId 6 (n / 5) n 0 0
def resChan (n q : Nat) : W64 := resId 7 (n / 5) n q 0
def resPort (p : Nat) : W64 := resId 8 0xFF p 0 0
def resLane (p l dir : Nat) : W64 := resId 9 0xFF p l dir
def resLaser (n : Nat) : W64 := resId 10 0xFF n 0 0
def resStore : W64 := resId 11 0xFF 0 0 0
def resFn (p : Nat) : W64 := resId 12 0xFF p 0 0

/-! ### Lines (R54, R57, R529) -/

/-- THERM_TRIP_N reads low, driven from either side (R54, R56). -/
def tripLine (s : State) : Bool := s.thm.tripDrv || s.sup.pins.boardTrip

/-- Some domain is in Fault. -/
def anyDomFault (s : State) : Bool := s.doms.any fun e => e.2.st == Life.fault

/-- FAULT_N is driven low (R57); in Off and Dormant it is released (R43). -/
def faultN (s : State) : Bool :=
  s.phase != .off && s.phase != .dormant &&
    (s.thm.coolantFault || s.thm.tripDrv || s.sup.pins.boardTrip || anyDomFault s || s.spring.stop.isSome
      || s.spring.coolantWait)

/-- The sideband serves PLDM (R518). -/
def pldmServed (s : State) : Bool :=
  (s.phase == .spring || s.phase == .running || s.phase == .shutting) && !s.rel.restarting && !s.rel.held

/-- MGT_ALERT_N is driven low (R529). -/
def alertN (s : State) : Bool := pldmServed s && !s.mgt.evq.isEmpty

end Sys2Proof.Machine
end

