-- ==== Sys2Proof/Machine/Topology.lean ====
section
/-! DEFINITION. What the part carries (R3 to R10) and where it stands: dies, ports, domains and their requirements
(R31), and the BAR0 map (R85, R86). -/

namespace Sys2Proof.Machine

open Sys2Proof

/-- Present compute dies (R4). -/
def dies (s : State) : Nat :=
  match s.variant with | .d8 => 8 | .d4 => 4 | .d2 => 2

/-- Equipped optical ports (R5). -/
def ports (s : State) : Nat :=
  match s.variant with | .d8 => 32 | .d4 => 16 | .d2 => 8

/-- TDP in W (R9). -/
def tdp (s : State) : Nat :=
  match s.variant with | .d8 => 4800 | .d4 => 2500 | .d2 => 1300

/-- Lowest and highest cap in units of 10 W (R44). -/
def capRange (s : State) : Nat × Nat :=
  match s.variant with | .d8 => (200, 480) | .d4 => (110, 250) | .d2 => (70, 130)

/-- Minimum flows of CPL0 and CPL1 in 0.01 L/min (R58). -/
def minFlow (s : State) : Nat × Nat :=
  match s.variant with | .d8 => (600, 200) | .d4 => (350, 150) | .d2 => (200, 100)

/-- VARIANT code (R138, R410). -/
def variantCode (s : State) : Nat := dies s

/-- Domain `n` is present (R4, R5). -/
def domPresent (s : State) (n : Nat) : Bool :=
  if n < 64 then n / 8 < dies s
  else if n < 68 then (n - 64) * 8 < ports s
  else n < 80

/-- The record of a domain. -/
def dom (s : State) (n : Nat) : Dom := tget {} s.doms n

def setDom (s : State) (n : Nat) (d : Dom) : State := s.setDoms (tset {} s.doms n d)

/-- Domain `n` is present and On. -/
def domOn (s : State) (n : Nat) : Bool := domPresent s n && (dom s n).st == .on

/-- Domains that domain `n` requires directly (R31). -/
def domReq (n : Nat) : List Nat :=
  if n < 64 then
    let b := n / 8 * 8
    match n % 8 with
    | 4 => [b + 5]
    | 5 => [76]
    | 6 => [b + 5, 68]
    | 7 => [b + 6]
    | _ => [b + 4, b + 6]
  else match n with
    | 64 | 65 | 66 | 67 => [68]
    | 68 | 69 | 70 => [71]
    | 71 => [76]
    | 72 => [79]
    | 73 => [72]
    | 74 | 75 => [76]
    | 76 => [73]
    | 77 | 78 => [76]
    | _ => []

/-- Domains required directly or through others, `fuel` levels deep. -/
def domReqAll : Nat → Nat → List Nat
  | 0, _ => []
  | f + 1, n => domReq n ++ (domReq n).flatMap (domReqAll f)

/-- Domains that require `n`, directly or through others (R35). No chain of R31 is longer than eight. -/
def dependants (n : Nat) : List Nat :=
  (List.range 80).filter fun m => (domReqAll 9 m).contains n

/-- The power-on order of R32, as far as the domains are present. -/
def powerOrder (s : State) : List Nat :=
  ([79, 72, 73, 76, 77, 74, 75, 78, 71, 68, 69, 70]
    ++ (List.range 8).flatMap (fun d => [5, 4, 6, 7, 0, 1, 2, 3].map (8 * d + ·))
    ++ [64, 65, 66, 67]).filter (domPresent s)

/-- Domains of step 1 of R32, step 2, and steps 3 to 5. -/
def bootDomains : List Nat := [79, 72, 73]
def serviceDomains : List Nat := [76, 77, 74, 75, 78]

/-- Quadrant domain of cluster `c` of die `d`. -/
def quadDom (d c : Nat) : Nat := 8 * d + c / 12

/-! ### Keys of clusters, contexts, cores and links -/

def cluKey (d c : Nat) : Nat := 48 * d + c
def ctxKey (d c slot : Nat) : Nat := 2 * (48 * d + c) + slot
def coreKey (d c k : Nat) : Nat := 25 * (48 * d + c) + k
def pkgLink (d g : Nat) : Nat := 32 + 8 * d + g

/-! ### Lasers, lines and positions (R349, R350) -/

/-- Power domain of laser `n`: bank A or bank B (R348). -/
def laserDom (n : Nat) : Nat := if n < 5 then 69 else 70

/-- Lasers of the bank of laser `n` first, then those of the other bank. -/
def bankOrder (n : Nat) : List Nat := if n < 5 then List.range 10 else [5, 6, 7, 8, 9, 0, 1, 2, 3, 4]

/-- The laser that feeds bus `b` at Spring. -/
def busLaser (b : Nat) : Nat := if b < 4 then b else b + 1

/-- Comb line of a position of a group, 8 and 9 being S0 and S1. -/
def lineOf (p : Nat) : Nat := if p < 8 then 2 * p else if p = 8 then 7 else 9

/-- Position of ring `i` of a die in its group: 40 modulators and 72 modulators, then filters likewise (DEDUCED, log entry
96). -/
def ringPos (i : Nat) : Nat :=
  if i < 40 then i % 10 else if i < 112 then (i - 40) % 9 else if i < 152 then (i - 112) % 10 else (i - 152) % 9

/-- The line on which ring `i` of a die works. -/
def ringLine (i : Nat) : Nat := lineOf (ringPos i)

/-! ### The BAR0 map (R85, R86) -/

/-- A block's frame: its code, base, size, die, BLK_ID.INSTANCE and SUB, and its domain. -/
structure Frame0 where
  code : Nat
  base : Nat
  size : Nat
  die : Nat
  inst : Nat
  sub : Nat
  dom : Nat
  deriving DecidableEq, Repr

def dieBase (d : Nat) : Nat := 0x1000000 + d * 0x400000
def cluBase (d c : Nat) : Nat := dieBase d + 0x100000 + c * 0x8000

/-- The block frame that holds BAR0 offset `a`, if the map names one. -/
def frameAt (a : Nat) : Option Frame0 :=
  if a < 0x1000000 then
    let tbl : List (Nat × Nat) := [(0, 76), (1, 76), (2, 77), (3, 77), (4, 79), (5, 78), (6, 78), (7, 76)]
    match tbl[a / 0x10000]? with
    | some (i, p) => if a % 0x10000 < 0x1000 then some ⟨i, i * 0x10000, 0x1000, 0xFF, 0, 0xFF, p⟩ else none
    | none => none
  else if a < 0x3000000 then
    let d := (a - 0x1000000) / 0x400000
    let o := (a - 0x1000000) % 0x400000
    let b := dieBase d
    if o < 0x1000 then some ⟨8, b, 0x1000, d, 0, 0xFF, 8 * d + 6⟩
    else if o < 0x2000 then some ⟨9, b + 0x1000, 0x1000, d, 0, 0xFF, 8 * d + 6⟩
    else if o < 0x3000 then some ⟨10, b + 0x2000, 0x1000, d, 0, 0xFF, 8 * d + 6⟩
    else if o < 0x4000 then some ⟨11, b + 0x3000, 0x1000, d, 0, 0xFF, 8 * d + 5⟩
    else if o < 0x9000 then
      let k := (o - 0x4000) / 0x1000
      some ⟨12, b + 0x4000 + k * 0x1000, 0x1000, d, 5 * d + k, 0xFF, 8 * d + 7⟩
    else if 0x10000 ≤ o ∧ o < 0x20000 then some ⟨13, b + 0x10000, 0x10000, d, 0, 0xFF, 8 * d + 6⟩
    else if 0x100000 ≤ o ∧ o < 0x100000 + 48 * 0x8000 then
      let c := (o - 0x100000) / 0x8000
      let q := (o - 0x100000) % 0x8000
      let cb := cluBase d c
      let p := quadDom d c
      if q < 0x1000 then some ⟨14 + q / 0x400, cb + q / 0x400 * 0x400, 0x400, d, c, 0xFF, p⟩
      else
        let k := (q - 0x1000) / 0x400
        if k < 25 then
          let r := (q - 0x1000) % 0x400
          some ⟨18 + r / 0x200, cb + 0x1000 + k * 0x400 + r / 0x200 * 0x200, 0x200, d, c, k, p⟩
        else none
    else none
  else if a < 0x3001000 then some ⟨0x14, 0x3000000, 0x1000, 0xFF, 0, 0xFF, 68⟩
  else if 0x3010000 ≤ a ∧ a < 0x301A000 then
    let n := (a - 0x3010000) / 0x1000
    some ⟨0x15, 0x3010000 + n * 0x1000, 0x1000, 0xFF, n, 0xFF, if n < 5 then 69 else 70⟩
  else if 0x3020000 ≤ a ∧ a < 0x3028000 then
    let n := (a - 0x3020000) / 0x1000
    some ⟨0x16, 0x3020000 + n * 0x1000, 0x1000, 0xFF, n, 0xFF, 71⟩
  else if 0x3040000 ≤ a ∧ a < 0x3060000 then
    let p := (a - 0x3040000) / 0x1000
    some ⟨0x17, 0x3040000 + p * 0x1000, 0x1000, 0xFF, p, 0xFF, 64 + p / 8⟩
  else if 0x3060000 ≤ a ∧ a < 0x3080000 then
    let p := (a - 0x3060000) / 0x1000
    some ⟨0x18, 0x3060000 + p * 0x1000, 0x1000, 0xFF, p, 0xFF, 64 + p / 8⟩
  else if 0x3800000 ≤ a ∧ a < 0x3801000 then some ⟨0x19, 0x3800000, 0x1000, 0xFF, 0, 0xFF, 73⟩
  else if 0x3810000 ≤ a ∧ a < 0x3811000 then some ⟨0x1A, 0x3810000, 0x1000, 0xFF, 0, 0xFF, 73⟩
  else if 0x3820000 ≤ a ∧ a < 0x3821000 then some ⟨0x1B, 0x3820000, 0x1000, 0xFF, 0, 0xFF, 72⟩
  else if 0x3830000 ≤ a ∧ a < 0x3832000 then
    let n := (a - 0x3830000) / 0x1000
    some ⟨0x1C, 0x3830000 + n * 0x1000, 0x1000, 0xFF, n, 0xFF, 74 + n⟩
  else if 0x3840000 ≤ a ∧ a < 0x3841000 then some ⟨0x1D, 0x3840000, 0x1000, 0xFF, 0, 0xFF, 79⟩
  else none

/-- `o` is one of the dword offsets from `lo` up to `hi`. -/
def inRun (o lo hi : Nat) : Bool := lo ≤ o && o ≤ hi && o % 4 == 0

/-- Block-specific offsets of the frame of a block of code `c` at which a register stands. -/
def specNamed (c o : Nat) : Bool :=
  match c with
  | 0x00 => o == 0x20 || o == 0x30 || o == 0x34
  | 0x02 => inRun o 0x20 0x40
  | 0x03 => inRun o 0x20 0x2C
  | 0x04 => inRun o 0x20 0x28
  | 0x05 => inRun o 0x20 0x28
  | 0x06 => inRun o 0x20 0x2C
  | 0x07 => o == 0x20 || inRun o 0x40 0x80
  | 0x08 => inRun o 0x20 0x38
  | 0x09 => inRun o 0x20 0x38
  | 0x0A => inRun o 0x20 0x24 || (0x100 ≤ o && o < 0x900 &&
      (o % 0x100 == 4 || inRun (o % 0x100) 0x20 0x34 || inRun (o % 0x100) 0xA0 0xC8))
  | 0x0B => inRun o 0x20 0x34
  | 0x0C => inRun o 0x20 0x2C
  | 0x0D => inRun o 0x20 0x24 || inRun o 0x8000 0xBFFC
  | 0x0E => inRun o 0x20 0x2C
  | 0x0F => inRun o 0x20 0x28
  | 0x10 => inRun o 0x20 0x24
  | 0x11 => inRun o 0x20 0x38
  | 0x12 => inRun o 0x20 0x38
  | 0x13 => inRun o 0x20 0x24
  | 0x14 => o == 0x20
  | 0x15 => inRun o 0x20 0x24
  | 0x16 => inRun o 0x20 0x28
  | 0x17 => inRun o 0x20 0x34
  | 0x18 => inRun o 0x20 0x4C
  | 0x19 => inRun o 0x20 0x28
  | 0x1A => inRun o 0x20 0x24
  | 0x1D => o == 0x40 || inRun o 0x100 0x23C
  | _ => false

/-- The frame of the register at BAR0 offset `a`; none for a reserved offset, in a frame or between frames (R85, R87). -/
def regAt (a : Nat) : Option Frame0 :=
  match frameAt a with
  | some f => if inRun (a - f.base) 0 0xC || specNamed f.code (a - f.base) then some f else none
  | none => none

/-- The block of frame `f` is on a part that the variant lacks (R3, R98). -/
def frameAbsent (s : State) (f : Frame0) : Bool := !domPresent s f.dom

/-- Bases of single frames. -/
def baseGLB : Nat := 0
def baseTHM : Nat := 0x40000
def baseAGE : Nat := 0x50000
def baseSNT : Nat := 0x60000
def baseMNT : Nat := 0x70000
def baseCP : Nat := 0x3820000
def baseWAT (d c : Nat) : Nat := cluBase d c + 0xC00
def baseVE (d c : Nat) : Nat := cluBase d c + 0x400
def baseCCC (d c : Nat) : Nat := cluBase d c + 0x800
def baseCLU (d c : Nat) : Nat := cluBase d c
def baseCORE (d c k : Nat) : Nat := cluBase d c + 0x1000 + k * 0x400
def baseARR (d c k : Nat) : Nat := baseCORE d c k + 0x200
def baseDSC (d : Nat) : Nat := dieBase d
def baseCOL (d : Nat) : Nat := dieBase d + 0x1000
def baseDFB (d : Nat) : Nat := dieBase d + 0x2000
def baseSRM (d : Nat) : Nat := dieBase d + 0x3000
def baseLPX (n : Nat) : Nat := dieBase (n / 5) + 0x4000 + n % 5 * 0x1000
def baseSCB (d : Nat) : Nat := dieBase d + 0x10000
def baseLCK (n : Nat) : Nat := 0x3020000 + n * 0x1000
def baseLNK (p : Nat) : Nat := 0x3040000 + p * 0x1000
def baseLAS (n : Nat) : Nat := 0x3010000 + n * 0x1000
def basePHL : Nat := 0x3000000
def baseRTB : Nat := 0x20000
def baseMGT : Nat := 0x30000
def baseMBX : Nat := 0x10000
def baseSEC : Nat := 0x3800000
def baseATT : Nat := 0x3810000

/-- The block at frame base `b` (R81). -/
def blk (s : State) (b : Nat) : Blk := tget {} s.blks b

def setBlk (s : State) (b : Nat) (x : Blk) : State := s.setBlks (tset {} s.blks b x)

/-- The block at `b` is On: it takes new work. -/
def blkOn (s : State) (b : Nat) : Bool := (blk s b).st == .on

/-- The block at `b` carries on the work it has accepted: On, or draining in Disabling (R83, R84). -/
def blkWorks (s : State) (b : Nat) : Bool := (blk s b).st == .on || (blk s b).st == .disabling

/-! ### RWB registers (R56, R202, R514) -/

/-- Reset value of the RWB register of block code `c`; none if the block has none. -/
def rwbReset (c : Nat) : Option (W32 × W32) :=
  match c with
  | 0x04 => some (0x5F64, 0xFFFF)
  | 0x05 => some (0x0A8, 0xFFF)
  | 0x06 => some (0x0A, 0xFF)
  | 0x07 => some (0x18, 0x1F)
  | 0x11 => some (0x7FF, 0x7FF)
  | _ => none

/-- The record of the RWB register of the frame at `b` with block code `c`. -/
def rwbOf (s : State) (b c : Nat) : Rwb :=
  let r := ((rwbReset c).map (·.1)).getD 0
  tget ⟨r, r, r⟩ s.rwb b

def setRwbOf (s : State) (b c : Nat) (x : Rwb) : State :=
  let r := ((rwbReset c).map (·.1)).getD 0
  s.setRwb (tset ⟨r, r, r⟩ s.rwb b x)

/-- Acting throttle point and release in 0.01 °C (R56). -/
def thmPoint (s : State) : Nat :=
  let v := if (blk s baseTHM).st == .fault then 100 else fld (rwbOf s baseTHM 4).live 0 8
  max 80 (min 100 v)

def thmRelease (s : State) : Nat :=
  let v := if (blk s baseTHM).st == .fault then 95 else fld (rwbOf s baseTHM 4).live 8 8
  max 70 (min (min 95 (thmPoint s - 3)) v)

/-- WAT_SATCAP.CAP in force in cluster `c` of die `d`: 0 in Fault (R201). -/
def satCap (s : State) (d c : Nat) : Nat :=
  if (blk s (baseWAT d c)).st == .fault then 0 else fld (rwbOf s (baseWAT d c) 0x11).live 0 11

/-- SNT_RATE in force, in units of 0.01% (R514). -/
def sntRate (s : State) : Nat :=
  let v := fld (rwbOf s baseSNT 6).live 0 8
  if v = 0 then 1 else min 200 v

/-- AGE_PERIOD.HOURS in force (R514). -/
def agePeriod (s : State) : Nat := fld (rwbOf s baseAGE 5).live 0 12

/-- MNT_CFG.MAX_HOURS in force (R514). -/
def maxHours (s : State) : Nat :=
  let v := fld (rwbOf s baseMNT 7).live 0 5
  if v = 0 ∨ v > 24 then 24 else v

/-- Two-realm mode of the profile in force. -/
def twoRealm (s : State) : Bool := (s.prof.map (·.twoRealm)).getD false

/-- Compatibility mode is in force (R101). -/
def compat (s : State) : Bool := (s.prof.map (·.compat)).getD false

/-- Some tenant realm is open: Opened, Keyed or in Winter (R448). -/
def realmOf (s : State) (r : Nat) : Realm := if r = 1 then s.sec.r1 else s.sec.r2

def setRealm (s : State) (r : Nat) (x : Realm) : State :=
  if r = 1 then s.setSec { s.sec with r1 := x } else s.setSec { s.sec with r2 := x }

def tenantOpen (s : State) : Bool := s.sec.r1.st != .closed || s.sec.r2.st != .closed

end Sys2Proof.Machine
end

