-- ==== Sys2Proof/Machine/Contexts.lean ====
section
/-! DEFINITION. Cluster contexts and cores: reading and replacing them, and stopping their work (R233, R258). -/

namespace Sys2Proof.Machine

open Sys2Proof

def clu (s : State) (d c : Nat) : Clu := tget {} s.cmp.clu (cluKey d c)
def core (s : State) (d c k : Nat) : Core := tget {} s.cmp.core (coreKey d c k)
def setCore (s : State) (d c k : Nat) (x : Core) : State :=
  s.setCmp { s.cmp with core := tset {} s.cmp.core (coreKey d c k) x }

def ccc (s : State) (d c slot : Nat) : Ccc := tget {} s.cmp.ccc (ctxKey d c slot)
def setCcc (s : State) (d c slot : Nat) (x : Ccc) : State :=
  s.setCmp { s.cmp with ccc := tset {} s.cmp.ccc (ctxKey d c slot) x }
def ve (s : State) (d c slot : Nat) : Ve := tget {} s.cmp.ve (ctxKey d c slot)
def setVe (s : State) (d c slot : Nat) (x : Ve) : State :=
  s.setCmp { s.cmp with ve := tset {} s.cmp.ve (ctxKey d c slot) x }
def dma (s : State) (d c slot : Nat) : Dma := tget {} s.cmp.dma (ctxKey d c slot)
def setDma (s : State) (d c slot : Nat) (x : Dma) : State :=
  s.setCmp { s.cmp with dma := tset {} s.cmp.dma (ctxKey d c slot) x }

/-- A word of a store half is cleared: it has not been loaded since the block was last Off (R208). -/
def storeGone (s : State) (k pc : Nat) : Bool :=
  match tget none s.prg.gone k with
  | none => false
  | some l => !l.any fun r => r.1 ≤ pc && pc < r.1 + r.2

/-- A core's work state after a task: banks, role and counters stay (R150, R154). -/
def coreIdle (x : Core) : Core :=
  { x with task := none, pc := 0, lc := [], loops := [], queue := [], fifo := [], acc := [], latch := none, undrained := false
           ownBanks := [], ending := false, slow := false
           bank0 := if x.bank0.loading then {} else x.bank0, bank1 := if x.bank1.loading then {} else x.bank1 }

/-- Discard the pending core tasks of a context (R233). -/
def dropPending (d c slot : Nat) (s : State) : State :=
  (List.range 25).foldl (fun t k =>
    let x := core t d c k
    if x.slot = slot ∧ x.pendTask.isSome then setCore t d c k { x with pendTask := none } else t) s

/-- The context stops (R233): pending core tasks and queued transfers are discarded and the VE program stops. -/
def cccStop (d c slot : Nat) (s : State) : State :=
  let s1 := dropPending d c slot s
  let v := ve s1 d c slot
  let s2 := setVe s1 d c slot { v with run := false, ending := false, pc := 0 }
  let q := dma s2 d c slot
  let s3 := setDma s2 d c slot { q with q0 := q.q0.filter (·.running), q1 := q.q1.filter (·.running) }
  setCcc s3 d c slot { ccc s3 d c slot with faulted := true, stall := none }

/-- The contexts of a slot, their core tasks and their VE programs stop (R258); a DMA transfer in progress runs to its
end (R233). Their checks are over. -/
def stopSlot (slot : Nat) (s : State) : State :=
  let m := s.cmp
  let s1 := s.setCmp { m with
    ccc := tmap {} (fun k (x : Ccc) =>
      if k % 2 = slot ∧ x.task.isSome then { x with faulted := true, stall := none } else x) m.ccc
    ve := tmap {} (fun k (v : Ve) => if k % 2 = slot ∧ v.run then { v with run := false, ending := false, pc := 0 } else v) m.ve
    dma := tmap {} (fun k (q : Dma) =>
      if k % 2 = slot then { q with q0 := q.q0.filter (·.running), q1 := q.q1.filter (·.running) } else q) m.dma
    core := tmap {} (fun _ (x : Core) =>
      if x.slot = slot ∧ (x.task.isSome ∨ x.pendTask.isSome ∨ x.checking) then
        { coreIdle x with pendTask := none, checking := false } else x) m.core }
  s1.setRel { s1.rel with checks := s1.rel.checks.filter fun c => c.slot != slot }

end Sys2Proof.Machine
end

