-- ==== Sys2Proof/Machine/Ops.lean ====
section
/-! DEFINITION. Shared operations: outputs, jobs and steps (abort, incomplete Solstice, withdrawal), mailbox rings and
their completions, and domains leaving On. -/

namespace Sys2Proof.Machine

open Sys2Proof

/-- Send something out of the block. -/
def emit (o : Out) (s : State) : State := s.setOut (o :: s.out)

/-- Read the model's free-value counter and advance it (log entry 1). -/
def fresh (s : State) : Nat × State := (s.freeCtr, s.setFreeCtr (s.freeCtr + 1))

/-! ### Slots and jobs -/

/-- The job whose main slot is `slot` (0 A, 1 B). -/
def jobAt (s : State) (slot : Nat) : Option Job := if slot = 0 then s.jobA else s.jobB

def setJobAt (s : State) (slot : Nat) (j : Option Job) : State :=
  if slot = 0 then s.setJobA j else s.setJobB j

/-- The realm bound to a slot: none, 0 operator, 1 or 2 (R450). -/
def bindOf (s : State) (slot : Nat) : Option Nat := if slot = 0 then s.sec.bindA else s.sec.bindB

def setBind (s : State) (slot : Nat) (r : Option Nat) : State :=
  if slot = 0 then s.setSec { s.sec with bindA := r } else s.setSec { s.sec with bindB := r }

/-- The slot is held: a job's main slot, or the fill slot of the other slot's job (R245). -/
def slotHeld (s : State) (slot : Nat) : Bool :=
  (jobAt s slot).isSome || ((jobAt s (1 - slot)).map (fun j => j.adm.idle == 1)).getD false

/-- Some job is admitted. -/
def anyJob (s : State) : Bool := s.jobA.isSome || s.jobB.isSome

/-- The main slot of the job `id` of realm `r`. -/
def findJob (s : State) (r : Nat) (id : W16) : Option Nat :=
  if (s.jobA.map (fun j => decide (j.realm = r ∧ j.id = id))).getD false then some 0
  else if (s.jobB.map (fun j => decide (j.realm = r ∧ j.id = id))).getD false then some 1
  else none

/-- Dies of a job, ascending. -/
def jobDies (j : Job) : List Nat := (List.range 8).filter fun d => j.adm.dieMask.getLsbD d

/-- The job is started, as JOB_STATUS shows it (R344). -/
def jobRuns (j : Job) : Bool := j.state == .started || j.state == .inStep || j.state == .solstice

/-- Physical cluster of logical cluster `l` on die `d` (R248). -/
def physOf (j : Job) (d l : Nat) : Option Nat := tget none j.cmap (48 * d + l)

/-- Physical clusters that the job is mapped to on die `d`. -/
def jobClusters (j : Job) (d : Nat) : List Nat :=
  (List.range (j.adm.need.getD d 0)).filterMap (physOf j d)

/-- The job uses cluster `c` of die `d`. -/
def jobUsesCluster (j : Job) (d c : Nat) : Bool := (jobClusters j d).contains c

/-- The job uses domain `n` (R40): the quadrants of its clusters, the other domains of its dies, and every domain that
these require. DEDUCED, log entry 9. -/
def jobUsesDom (j : Job) (n : Nat) : Bool :=
  let own := (jobDies j).flatMap fun d =>
    [8 * d + 4, 8 * d + 5, 8 * d + 6, 8 * d + 7]
      ++ (List.range 4).filterMap fun q =>
        if (jobClusters j d).any (fun c => c / 12 == q) then some (8 * d + q) else none
  own.contains n || own.any fun m => (domReqAll 9 m).contains n

/-- A resource contains another by its kind and numbers (R504): 1 module, 2 die, 3 domain, 4 cluster, 5 core, 6 stack,
7 channel, 8 port, 9 lane, 10 laser. -/
def resInside (a b : W64) : Bool :=
  let ka := fld a 56 8
  let kb := fld b 56 8
  let ua := fld a 40 8
  let ub := fld b 40 8
  let db := fld b 48 8
  match ka with
  | 1 => true
  | 2 =>
    let d := fld a 48 8
    (kb == 3 && ub < 64 && ub / 8 == d) || ((kb == 4 || kb == 5 || kb == 6 || kb == 7) && db == d)
  | 3 =>
    if ua < 64 then ua % 8 < 4 && (kb == 4 || kb == 5) && db == ua / 8 && ub / 12 == ua % 8
    else if ua < 68 then (kb == 8 || kb == 9) && ub / 8 == ua - 64
    else if ua == 69 then kb == 10 && ub < 5
    else ua == 70 && kb == 10 && 5 ≤ ub
  | 4 => kb == 5 && db == fld a 48 8 && ub == ua
  | 6 => kb == 7 && ub == ua
  | 8 => kb == 9 && ub == ua
  | 9 => kb == 9 && ub == ua && fld b 32 8 == fld a 32 8 && fld a 24 8 == 2
  | _ => false

/-- The port of a port or of a lane. -/
def resPortOf (r : W64) : W64 := if fld r 56 8 = 9 then resPort (fld r 40 8) else r

/-- The lock covers `b` (R504), with the routing and feeding of its grant. -/
def lockCovers (l : Lock) (b : W64) : Bool :=
  l.res == b || resInside l.res b || (fld l.res 56 8 == 2 && l.covers.contains (resPortOf b))

/-- A held maintenance lock covers domain `n` (R40 MAINT). -/
def maintHolds (s : State) (n : Nat) : Bool :=
  s.rel.locks.any fun e => (e.2.map (fun l => lockCovers l (resDom n))).getD false

/-- A Winter sequence runs. -/
def winterRuns (s : State) : Bool := s.sec.r1.st == .winter || s.sec.r2.st == .winter

/-- Winter holds the domains its steps 3 to 5 act on: every die's SRAM and LPDDR5X, and the security engine
(DEDUCED, log entry 9). -/
def winterHolds (s : State) (n : Nat) : Bool :=
  winterRuns s && ((n < 64 && domPresent s n) || n == 73 || n == 76)

/-- The domain is in use under R19 (bits [11:8] of R40). -/
def domInUse (s : State) (n : Nat) : Bool :=
  (s.jobA.map (jobUsesDom · n)).getD false || (s.jobB.map (jobUsesDom · n)).getD false
    || maintHolds s n || winterHolds s n

/-! ### The journal (R331, R525) -/

/-- Program one journal entry: 32,768 entries, the oldest overwritten. -/
def journalAdd (mk : W64 → Journal) (s : State) : State :=
  let f := s.flash
  s.setFlash { f with
    journal := (mk (dw f.journalNo) :: f.journal).take 32768
    journalNo := f.journalNo + 1 }

/-- The newest record of a job's Solstice is a BEGIN without its END (R334). -/
def openBegin (j : List Journal) (realm : Nat) (job : W16) (step : W64) : Bool :=
  match j.find? (fun e => match e with
    | .begin r i st _ _ => r == realm && i == job && st == step
    | .done _ r i st _ _ => r == realm && i == job && st == step
    | .event _ => false) with
  | some (.begin _ _ _ _ _) => true
  | _ => false

/-! ### Steps -/

/-- Key of an instance: descriptor index, table (0 TASKS, 1 DEEP_TASKS) and micro-batch. -/
def instKey (t i m : Nat) : Nat := (2 * i + t) * 1024 + m

def instOf (st : Step) (t i m : Nat) : InstSt := tget .waiting st.insts (instKey t i m)

/-- Some instance of the step runs. -/
def anyRunning (st : Step) : Bool := st.insts.any fun e => e.2 == .running

/-- Device offset of page `i` of a slot's stash pool on die `d` (R283). -/
def poolAddr (d slot i : Nat) : Nat := 0x080000000000 + d * 0x80000000 + 0x5E800000 + slot * 0x1000000 + i * 0x10000

/-- Release the stash pages of die `d` that `p` selects: a released pool page reads zero (R312). -/
def stashDrop (d : Nat) (p : Nat → Nat → Bool) (s : State) : State :=
  let x := tget {} s.srm d
  let s1 := (x.stash.filter fun e => p e.1 e.2.1).foldl (fun t e => match e.2.2.2 with
    | .pool i =>
      let a := poolAddr d e.1 i
      t.setMem { t.mem with
        sram := tclear t.mem.sram a 0x10000
        line := tclear t.mem.line (a / 32) 0x800
        sramEcc := tclear t.mem.sramEcc (a / 8) 0x2000 }
    | .spill _ => t) s
  s1.setSrm (tset {} s1.srm d { x with
    stash := x.stash.filter fun e => !p e.1 e.2.1, written := x.written.filter fun e => !p e.1 e.2.1 })

/-- The chip number that this module puts in its packets: 0xFFFF until a plan assigns one (R282). -/
def ownChip (s : State) : Nat := (s.fab.plan.map (·.chip)).getD 0xFFFF

/-- The running flag of the step of a slot (R327). -/
def runFlag (s : State) (slot : Nat) : Bool :=
  match (jobAt s slot).bind (·.step) with
  | some st => st.localFlag || st.rxFlag
  | none => false

/-- Release every stash page of a slot (R312). -/
def stashRelease (slot : Nat) (s : State) : State :=
  (List.range 8).foldl (fun t d =>
    let u := stashDrop d (fun sl _ => sl == slot) t
    u.setSrm (tmod {} u.srm d fun x => { x with peak := x.peak.filter (fun e => e.1 != slot) })) s

/-- Discard the held signals of a slot on every die (R335). -/
def pendDiscard (slot : Nat) (s : State) : State :=
  s.setDsc (tmap {} (fun _ (x : Dsc) => { x with pend := x.pend.filter (fun p => p.1 != slot) }) s.dsc)

/-- S in force for a tensor in the step (R175). -/
def scaleOf (j : Job) (st : Step) (t : Tensor) : F32 :=
  let _ := j
  tget t.initScale st.scales t.tid

/-- The slots whose watcher tables hold counts of a job: its own and, with a FILL image, the one its fill work runs in
(R181, R276). -/
def watSlots (j : Job) : List Nat := if j.fill.isSome then [j.slot, 1 - j.slot] else [j.slot]

/-- The watcher entries of a job's slot summed over its clusters (R197). `amax` is compared as the bit pattern of a
non-negative binary32, whose order is that of the values. -/
def gatherWat (s : State) (j : Job) : Tbl WatEntry :=
  let ctxs := (jobDies j).flatMap fun d => (jobClusters j d).flatMap fun c => (watSlots j).map (ctxKey d c)
  j.tensors.foldl (fun t x =>
    let e := ctxs.foldl (fun (a : WatEntry) k =>
      let w := tget {} s.cmp.wat (256 * k + x.tid)
      { zeros := min (2 ^ 64 - 1) (a.zeros + w.zeros)
        sats := satAdd (2 ^ 32 - 1) a.sats w.sats
        nonfin := satAdd (2 ^ 32 - 1) a.nonfin w.nonfin
        retries := satAdd (2 ^ 32 - 1) a.retries w.retries
        amax := if a.amax.toNat ≤ w.amax.toNat then w.amax else a.amax }) {}
    tset {} t x.tid e) []

/-- The summary of a step that ends (R197, R198): outcome 1 committed, 2 skipped, 3 aborted. -/
def mkSummary (s : State) (j : Job) (st : Step) (outcome : Nat) : Summary :=
  { job := j.id, outcome, localFlag := st.localFlag, aggFlag := st.aggFlag, spike := st.spike
    recompute := st.recompute, step := st.num, loss := st.loss, ema := j.ema
    entries := st.gathered.getD (gatherWat s j), scales := st.scales }

/-- The collective program of a die. -/
def colProg (j : Job) (d : Nat) : Option ColProg :=
  (j.main.bind fun g => g.col.find? fun c => c.1 == d).map (·.2)

/-- A capture of the job of a slot starts or ends (R341). -/
def addCapture (slot : Nat) (up : Bool) (s : State) : State :=
  match jobAt s slot with
  | some j => setJobAt s slot (some { j with captures := if up then j.captures + 1 else j.captures - 1 })
  | none => s

/-- An instance that a step's end takes with it: a buddy push has failed, and its capture ends (R341, R343). -/
def pushLost (s : State) (y : ColRun) : State :=
  match jobAt s y.slot with
  | none => s
  | some j => match (colProg j y.die).bind fun p => p.ops[y.op]? with
    | some o =>
      if o.op ≠ 7 then s
      else addCapture y.slot false
        (logJob 0x7006 j (resDie y.die) [j.stepNo, dw (o.dst / 2 ^ 48 % 65536), dw y.half, 1, 0] s)
    | none => s

/-- Drop the collective instances of a slot. -/
def dropCol (slot : Nat) (s0 : State) : State :=
  let s1 := (s0.fab.runs.filter fun r => r.slot == slot).foldl pushLost s0
  let s := setJobAt s1 slot ((jobAt s1 slot).map fun j => { j with pushes := [] })
  s.setFab { s.fab with
    runs := s.fab.runs.filter (fun r => r.slot != slot)
    landed := s.fab.landed.filter (fun r => r.1 != slot)
    colDone := s.fab.colDone.filter (fun r => r.2.1 != slot) }

/-- Give back the pages of a region (R307). -/
def freeRegion (r : Region) (s : State) : State :=
  s.setMem { s.mem with
    page := r.runs.foldl (fun t x => tclear t (x.2.1 / 0x200000) x.2.2) s.mem.page }

/-- The fill image's tasks have not all ended. -/
def fillBusy (j : Job) : Bool := j.fill.isSome && !j.fillEnded

/-- R245: withdraw a job. Its pages return to unassigned (R307); its slots keep their binding (R450); a pair ends when
both jobs are withdrawn (R269). -/
def withdrawJob (slot : Nat) (s : State) : State :=
  match jobAt s slot with
  | none => s
  | some j =>
    let s0 := if j.adm.idle = 1 then stopSlot (1 - slot) s else s
    let s1 := freeRegion j.persist (freeRegion j.staging (freeRegion j.spill (setJobAt s0 slot none)))
    let s2 := dropCol slot (pendDiscard slot (stashRelease slot s1))
    let s3 := s2.setRtb { s2.rtb with
      armed := s2.rtb.armed.filter fun a => match a.2 with
        | .jobStart sl => sl != slot
        | .stepControl sl _ _ => sl != slot
        | .equinox0 => (jobAt s2 (1 - slot)).isSome && j.pair.isSome
        | _ => true }
    let left (p : Job → Bool) : Bool := (jobAt s3 (1 - slot)).any p
    let off (k : Nat) : Bool := k == slot || j.adm.idle == 1
    let s4 := s3.setDsc (tmap {} (fun _ (x : Dsc) =>
      let y := { x with phA := if off 0 then 0 else x.phA, phB := if off 1 then 0 else x.phB }
      if left (·.pair.isSome) then y else { y with eqx := none, late := none, lateMask := 0, missed := false }) s3.dsc)
    s4.setCmp { s4.cmp with
      core := if left (·.started) then s4.cmp.core else tmap {} (fun _ (x : Core) => { x with role := 0 }) s4.cmp.core }

/-! ### Functions and rings (R105 to R124) -/

def fn (s : State) (p : Nat) : Fn := if p = 0 then s.fn0 else s.fn1

def setFn (s : State) (p : Nat) (f : Fn) : State := if p = 0 then s.setFn0 f else s.setFn1 f

/-- A ring at reset: VECTOR is the ring's number (R116). -/
def ringReset (r : Nat) : Ring := { vector := BitVec.ofNat 3 r }

def ring (s : State) (p r : Nat) : Ring := tget (ringReset r) (fn s p).rings r

def setRing (s : State) (p r : Nat) (x : Ring) : State :=
  setFn s p { fn s p with rings := tset (ringReset r) (fn s p).rings r x }

/-- INFLIGHT (R116): commands fetched and not yet completed. -/
def inflight (x : Ring) : Nat := x.inflight.length

/-- A mailbox service is given: mailbox ready, CP neither restarting nor held. -/
def mbxServed (s : State) : Bool :=
  (s.phase == .running || s.phase == .shutting) && s.spring.mbxReady && !s.rel.restarting && !s.rel.held

/-- The CP runs firmware: PD72 is On, and no contained restart is in progress or has failed (R20, R513). -/
def cpRuns (s : State) : Bool := domOn s 72 && !s.rel.restarting && !s.rel.held

/-- The bytes of a completion (R119). -/
def completionBytes (e : InFlight) (r : Result) (phase : Bool) : List Byte :=
  leBytes 2 e.desc.tag.toNat ++ [r.status, BitVec.ofNat 8 (b2n phase + 2 * b2n e.deferred)]
    ++ leBytes 2 e.desc.opcode.toNat ++ leBytes 2 r.detail.toNat
    ++ leBytes 8 r.rv0.toNat ++ leBytes 8 r.rv1.toNat ++ leBytes 8 r.rv2.toNat

/-- Send an MSI-X message unless the vector is masked, when its pending bit is set instead (R105). -/
def msix (p v : Nat) (s : State) : State :=
  let f := fn s p
  match tget (0, 0, true) f.msix v with
  | (_, _, true) => setFn s p { f with pba := f.pba ||| BitVec.ofNat 8 (2 ^ v) }
  | (_, _, false) => emit (.msix p v) s

/-- Write one completion (R119, R120, R123): into slot m mod 2^ENTRIES, with the message after it. -/
def writeCompletion (p r : Nat) (e : InFlight) (res : Result) (s : State) : State :=
  let x := ring s p r
  let n := 2 ^ x.entries.toNat
  let m := x.cplNo
  let phase := m / n % 2 == 0
  let addr : W64 := BitVec.ofNat 64 (x.cplBase.toNat * 4096 + m % n * 32)
  let s1 := setRing s p r { x with cplNo := m + 1 }
  let s2 := emit (.hostWrite p addr (completionBytes e res phase)) s1
  if x.irqEn || bit e.desc.flags 2 then msix p x.vector.toNat s2 else s2

/-- COMPLETION_DROPPED (R114, R117). -/
def logDropped (e : InFlight) (res : Result) (s : State) : State :=
  logMod 0x9008 0 [dw e.desc.opcode.toNat, dw e.desc.tag.toNat, dw res.status.toNat] s

/-- End a command of a ring with its result: its completion is written, or logged as dropped. -/
def endCmd (p r : Nat) (e : InFlight) (res : Result) (s : State) : State :=
  let x := ring s p r
  let s1 := setRing s p r { x with inflight := x.inflight.erase e }
  if e.dropped then logDropped e res s1 else writeCompletion p r e res s1

/-- Set the result of the started command of this fetch number; its completion follows in COMMAND_COMPLETE. -/
def resultFor (no : Nat) (res : Result) (deferred : Bool) : List InFlight → List InFlight
  | [] => []
  | e :: es =>
    if e.no = no ∧ e.started ∧ e.result.isNone then
      { e with result := some res, deferred := e.deferred || deferred } :: es
    else e :: resultFor no res deferred es

def finishCmd (p r no : Nat) (res : Result) (deferred : Bool) (s : State) : State :=
  let x := ring s p r
  setRing s p r { x with inflight := resultFor no res deferred x.inflight }

/-- Status codes (R125). -/
def stOk : Byte := 0
def stBusy : Byte := 1
def stBadOpcode : Byte := 2
def stBadArg : Byte := 3
def stDenied : Byte := 4
def stWrongState : Byte := 5
def stWinter : Byte := 6
def stConflict : Byte := 7
def stNoResource : Byte := 8
def stVerifyFail : Byte := 9
def stTimeout : Byte := 10
def stAborted : Byte := 11

def ok : Result := { status := stOk }
def okRv (a b c : W64) : Result := { status := stOk, rv0 := a, rv1 := b, rv2 := c }
def failWith (st : Byte) (detail : Nat) : Result := { status := st, detail := BitVec.ofNat 16 detail }

/-! ### Ring life cycle (R114, R117) -/

/-- Commands that transfer data for as long as they run: IMAGE_LOAD, DMA_COPY, CHECKPOINT_PUSH, CHECKPOINT_RESTORE and
FW_VERIFY_STAGE. -/
def transferOp (n : Nat) : Bool := [0x0204, 0x0302, 0x0303, 0x0304, 0x0505].contains n

/-- Commands that read host memory. -/
def hostReads (d : Desc) : Bool :=
  [0x0201, 0x0203, 0x0204, 0x0206, 0x0401, 0x0402, 0x0403, 0x0502, 0x0503, 0x0505].contains d.opcode.toNat
    || (d.opcode == 0x0302 && d.a3 == 0) || (d.opcode == 0x0304 && d.a1 == 1)

/-- Commands that read host memory, or that transfer data to it for as long as they run. -/
def usesHost (d : Desc) : Bool := hostReads d || d.opcode == 0x0303 || (d.opcode == 0x0302 && d.a3 == 1)

/-- A ring goes Off without Disabling: registers to reset, doorbells discarded, fetched commands run to their end and
their completions are not written (R114 items 1 and 2). -/
def ringOff (p r : Nat) (s : State) : State :=
  let x := ring s p r
  setRing s p r { ringReset r with
    fetched := x.fetched, total := x.total
    inflight := x.inflight.map fun e => { e with dropped := true } }

/-- The four rings of a function go Off. -/
def ringsOff (p : Nat) (s : State) : State :=
  [0, 1, 2, 3].foldl (fun t r => ringOff p r t) s

/-- Enter ring Fault with a cause (R117). -/
def ringFault (p r : Nat) (cause : List W64) (s : State) : State :=
  let x := ring s p r
  logMod 0x9009 (resFn p) (dw r :: cause) (setRing s p r { x with st := .fault, fetching := false, rekick := false })

/-! ### Stewardship -/

/-- The host of port `p` is the steward; nobody is before mailbox ready (R74). -/
def isSteward (s : State) (p : Nat) : Bool := s.spring.mbxReady && s.steward == some p

/-! ### The end of Solstice for commands that waited (R127) -/

/-- A STEP_CONTROL action applied to a job (R131, R270): 1 run `n` steps, 2 hold before the next step, 3 resume.
The exact reading of the actions is in log entry 10. A paired job's next step waits for a forward Equinox from now on. -/
def applyControl (now : W64) (action n : Nat) (j : Job) : Job :=
  let run (b : Option Nat) : Job := { j with
    budget := b, holdNext := false, state := if j.state == .held then .started else j.state
    startAt := if j.pair.isSome then some now else j.startAt }
  let hold : Job := { j with holdNext := true, state := if j.state == .started then .held else j.state }
  match action with
  | 1 => if n = 0 then hold else run (some n)
  | 2 => hold
  | _ => run none

/-- Start the Winter of a realm (R448, R477): its rings complete with WINTER from here on. -/
def startWinter (r : Nat) (s : State) : State :=
  setRealm s r { realmOf s r with st := .winter, winterStep := some 1, winterFrom := rtNow s, sweeping := false }

/-- Carry out one command that waited for the end of a Solstice (`inSol`, R127) or for the report of an abort (R131). -/
def runDeferred (slot : Nat) (inSol : Bool) (s : State) (d : Deferred) : State :=
  match jobAt s slot with
  | none => match d with
    | .abort p r no _ => finishCmd p r no (failWith stWrongState 0) inSol s
    | .control p r no _ _ => finishCmd p r no (failWith stWrongState 0) inSol s
    | .ack p r no => finishCmd p r no (failWith stWrongState 0) inSol s
    | .act _ _ => s
  | some j =>
    let rv := okRv (BitVec.ofNat 64 (j.stepNo.toNat % 2 ^ 32)) 0 0
    match d with
    | .abort p r no force =>
      let s1 := setJobAt s slot (some { j with state := if j.state == .aborted then .aborted else .held })
      let s2 := if force then withdrawJob slot s1 else s1
      finishCmd p r no rv inSol s2
    | .control p r no action n =>
      if j.state == .aborted then finishCmd p r no (failWith stWrongState 0) inSol s
      else finishCmd p r no rv inSol (setJobAt s slot (some (applyControl (rtNow s) action n j)))
    | .ack p r no => finishCmd p r no rv inSol s
    | .act action n =>
      if j.state == .aborted then s else setJobAt s slot (some (applyControl (rtNow s) action n j))

/-- The commands that waited take effect, in the order in which they came. -/
def finishDeferred (slot : Nat) (inSol : Bool) (s : State) : State :=
  match jobAt s slot with
  | none => s
  | some j => j.deferred.foldl (runDeferred slot inSol) (setJobAt s slot (some { j with deferred := [] }))

/-! ### Aborting a step -/

/-- A step of some job has ended (R470). -/
def noteStepEnd (s : State) : State :=
  s.setMgt { s.mgt with
    stepEnds := s.mgt.stepEnds + 1, sess := s.mgt.sess.map fun x => { x with stepEnds := x.stepEnds + 1 } }

/-- R334: a Solstice that cannot end. The END record is programmed with OUTCOME incomplete, the summary is kept, and
the job's committed state is undefined. -/
def incompleteSolstice (slot : Nat) (s : State) : State :=
  match jobAt s slot with
  | none => s
  | some j =>
    match j.step with
    | none => s
    | some st =>
      let rt := rtNow s
      let s1 := journalAdd (Journal.done true j.realm j.id st.num rt) s
      let j' : Job := { j with
        state := .aborted, sol := .none, step := none, aborting := false, quietFrom := none
        sigDrop := true
        summary := some (mkSummary s j st 3), lastEvent := 0x3003 }
      let s2 := noteStepEnd (setJobAt s1 slot (some j'))
      let s3 := finishDeferred slot true (dropCol slot (pendDiscard slot (stashRelease slot (stopSlot slot
        (logJob 0x3003 j' 0 [st.num] s2)))))
      if j.withdraw then withdrawJob slot s3 else s3

/-- R259, R335: abort the step of a slot with nothing committed. In Solstice R334 applies instead; once the END record has been
written, the Solstice reaches its end (R332). In the closing round a fault brings R334 (R333), and what is no fault (`plain`)
an ordinary abort (R328). -/
def abortWith (plain : Bool) (slot : Nat) (s : State) : State :=
  match jobAt s slot with
  | none => s
  | some j =>
    match j.step with
    | none => s
    | some st =>
      if j.sol == .none || (plain && j.sol == .closing) then
        if j.aborting then s
        else
          let j' : Job := { j with sol := .none, state := .held, aborting := true, sigDrop := true, summary := some (mkSummary s j st 3) }
          dropCol slot (pendDiscard slot (stashRelease slot (noteStepEnd (setJobAt s slot (some j')))))
      else if j.sol == .ending && !openBegin s.flash.journal j.realm j.id st.num then s
      else incompleteSolstice slot s

/-- A fault aborts the step of a slot. -/
def abortStep (slot : Nat) (s : State) : State := abortWith false slot s

/-- A command, a stall or a thermal trip aborts the step of a slot. -/
def abortPlain (slot : Nat) (s : State) : State := abortWith true slot s

/-- Abort the steps of both slots that `p` selects. -/
def abortWhere (p : Job → Bool) (s : State) : State :=
  let s1 := if (s.jobA.map p).getD false then abortStep 0 s else s
  if (s1.jobB.map p).getD false then abortStep 1 s1 else s1

/-- The job record after a module event with `code`: the event is the last one of a job whose step it aborted (R131). -/
def noteEnd (code : W16) (old new : Option Job) : Option Job :=
  new.map fun j => if j.aborting && !(old.map (·.aborting)).getD true then { j with lastEvent := code } else j

/-- R131, R233, R248: a module event with `code` takes the machine from `s` to `t`, and JOB_STATUS names that event for
each job whose step it ended. -/
def noteAborts (code : W16) (s t : State) : State :=
  (t.setJobA (noteEnd code s.jobA t.jobA)).setJobB (noteEnd code s.jobB t.jobB)

/-- Abort every step that uses one of the domains. -/
def abortDoms (ns : List Nat) (s : State) : State := abortWhere (fun j => ns.any (jobUsesDom j)) s

/-- Abort every step that runs on die `d`. -/
def abortDie (d : Nat) (s : State) : State := abortWhere (fun j => (jobDies j).contains d) s

/-! ### Time ports and their source (R394, R400) -/

def setRtb (s : State) (x : Rtb) : State := s.setRtb x

/-- RTB_LOSS with its cause (R394, R400, R402). -/
def rtbLoss (cause : Nat) (s : State) : State :=
  logMod 0x5002 0 [dw cause] (setRtb s { s.rtb with losses := inc32 s.rtb.losses 1 })

def timePort (s : State) (i : Nat) : TimePort := if i = 0 then s.rtb.tp0 else s.rtb.tp1

def setTimePort (s : State) (i : Nat) (x : TimePort) : State :=
  if i = 0 then setRtb s { s.rtb with tp0 := x } else setRtb s { s.rtb with tp1 := x }

/-- This module is the root of the time tree. -/
def isRoot (s : State) : Bool := (s.fab.plan.map (·.timeRoot)).getD false

/-- The port of time port `i` in the plan in force. -/
def timePortNo (s : State) (i : Nat) : Option Nat :=
  s.fab.plan.bind fun p => if i = 0 then p.timePort0 else p.timePort1

def sameRack (s : State) (i : Nat) : Bool :=
  (s.fab.plan.map fun p => if i = 0 then p.sameRack0 else p.sameRack1).getD false

def linkUpAt (s : State) (l : Nat) : Bool :=
  let x := tget {} s.links l
  x.pst == .up || x.pst == .hold || x.pst == .switching

/-- Time port `i` is usable (R394): its port is up and its neighbour's frames carry VALID and REF_OK. -/
def timeUsable (s : State) (i : Nat) : Bool :=
  (timePort s i).usable && (match timePortNo s i with | some p => linkUpAt s p | none => false)

/-- Source of CORR in force, as TSRC codes it. -/
def timeSource (s : State) : Nat :=
  if isRoot s then 0 else if timeUsable s 0 then 1 else if timeUsable s 1 then 2 else 3

/-- Take the source in force; losing the last usable time port is an RTB_LOSS with cause 0x3 (R394, R400). A root slews what
CORR holds back to 0 (log entry 93). -/
def retime (s : State) : State :=
  let n := timeSource s
  let old := s.rtb.tsrc.toNat
  let s1 := setRtb s { s.rtb with tsrc := BitVec.ofNat 2 n, slewCorr := if n = 3 then 0 else if n = 0 then -s.rtb.corr.toInt else s.rtb.slewCorr }
  if n = 3 ∧ old ≠ 3 ∧ old ≠ 0 then rtbLoss 3 s1 else s1

/-! ### Ports going down (R382, R394, R416) -/

/-- Resource of a link engine: a port, or the die of an on-package group (R503). -/
def linkUnit (l : Nat) : W64 := if l < 32 then resPort l else resDie ((l - 32) / 8)

/-- What an event names of a link engine beyond its UNIT: nothing for a port, the group of an on-package group. -/
def linkName (l : Nat) : List W64 := if l < 32 then [] else [dw ((l - 32) % 8)]

/-- The ring behind a position of a link: key of the optics table, for the receive or transmit direction. -/
def ringOf (s : State) (l p : Nat) (rx : Bool) : Option Nat :=
  if l < 32 then
    (tget none s.fab.plans s.fab.planNo).bind fun pl => (pl.portSrc.getD l none).map fun g =>
      224 * g.1 + (if rx then 112 else 0) + 10 * g.2 + p
  else some (224 * ((l - 32) / 8) + (if rx then 152 else 40) + 9 * ((l - 32) % 8) + p)

/-- The port's link has gone: what its time relation held is void, and the identity exchange has to run again. -/
def portForget (l : Nat) (s : State) : State :=
  let void (t : State) (i : Nat) : State :=
    if timePortNo t i = some l ∧ l < 32 then setTimePort t i { timePort t i with kept := [], first := none, usable := false }
    else t
  let s1 := void (void s 0) 1
  let s2 := if l < 32 then s1.setFab { s1.fab with ports := tmod {} s1.fab.ports l fun x =>
      { x with heard := false, judged := none, trained := false, opened := false } } else s1
  retime s2

/-- R382: a link that carried data goes down: 1 too few positions, 2 replay gave up, 3 light did not return, 4 a
transaction timed out, 5 its block or die left On (log entry 16). -/
def portDown (l cause : Nat) (s : State) : State :=
  let x := tget {} s.links l
  if x.pst == .up || x.pst == .hold || x.pst == .switching then
    let s1 := s.setLinks (tset {} s.links l { x with
      pst := .down, wasDown := true, replay := false, wantRx := none, discarding := false, trainMask := BitVec.ofNat 10 0xFF })
    portForget l (logMod 0x4006 (linkUnit l) (linkName l ++ [dw cause]) s1)
  else s

/-- Ports that the light plan in force routes to die `d`. -/
def portsOfDie (s : State) (d : Nat) : List Nat :=
  match tget none s.fab.plans s.fab.planNo with
  | none => []
  | some pl => (List.range 32).filter fun p => ((pl.portSrc.getD p none).map (·.1)) == some d

/-- FILL_DONE once every fill instance has ended (R276). -/
def fillCheck (owner : Nat) (s : State) : State :=
  match jobAt s owner with
  | none => s
  | some j =>
    match j.fill with
    | none => s
    | some img =>
      let sts := (List.range img.tasks.length).map fun i => tget .waiting j.fillInsts i
      if j.fillEnded || sts.any fun x => x == .waiting || x == .running then s
      else logJob 0x300B j 0 [dw (b2n (sts.any (· == .faulted)))] (setJobAt s owner (some { j with fillEnded := true }))

/-- A context's task ends: its instance takes the state given, and the context runs none. -/
def cccReport (d c slot : Nat) (st : InstSt) (s : State) : State :=
  let x := ccc s d c slot
  match x.task with
  | none => s
  | some (tbl, i, m, _) =>
    let s1 := setCcc s d c slot { x with task := none, stall := none, faulted := false }
    if tbl = 2 then
      match jobAt s1 (1 - slot) with
      | none => s1
      | some j => fillCheck (1 - slot) (setJobAt s1 (1 - slot) (some { j with
          fillInsts := tset .waiting j.fillInsts i st }))
    else
      match jobAt s1 slot with
      | none => s1
      | some j => match j.step with
        | none => s1
        | some sp => setJobAt s1 slot (some { j with step := some { sp with
            insts := tset .waiting sp.insts (instKey tbl i m) st } })

end Sys2Proof.Machine
end

