-- ==== Sys2Proof/Machine/Domains.lean ====
section
/-! DEFINITION. Power domains: what is lost when one leaves On (R38, R83, R97), faults (R35), power sequences (R32,
R33), the start and the stop of Spring (R62, R77), and loss of input power (R30). -/

namespace Sys2Proof.Machine

open Sys2Proof

/-- Device offsets of a die's SRAM window and LPDDR5X range (R281). -/
def sramBase (d : Nat) : Nat := 0x080000000000 + d * 0x80000000
def lpxBase (d : Nat) : Nat := d * 0x4000000000

/-- SRAM contents of die `d` are lost, and its stash directory with them (R38, R289). -/
def sramLost (d : Nat) (s : State) : State :=
  let b := sramBase d
  (s.setMem { s.mem with
      sram := tclear s.mem.sram b 0x80000000
      line := tclear s.mem.line (b / 32) (0x80000000 / 32)
      sramEcc := tclear s.mem.sramEcc (b / 8) (0x80000000 / 8) }).setSrm
    (tmod {} s.srm d fun x => { x with stash := [], written := [], peak := [] })

/-- LPDDR5X contents of die `d` are lost, and every page becomes unassigned (R38, R296). -/
def lpxLost (d : Nat) (s : State) : State :=
  let b := lpxBase d
  s.setMem { s.mem with
    lpx := tclear s.mem.lpx (b / 64) (0x4000000000 / 64)
    page := tclear s.mem.page (b / 0x200000) (0x4000000000 / 0x200000)
    pageGen := tclear s.mem.pageGen (b / 0x200000) (0x4000000000 / 0x200000)
    lpxEcc := tclear s.mem.lpxEcc (b / 64) (0x4000000000 / 64) }

/-- Contexts, cores, watchers and stores of quadrant `q` of die `d` take their reset values (R97, R208); the instances
that ran in the contexts have ended in fault (R241, R259). -/
def quadReset (d q : Nat) (s0 : State) : State :=
  let c0 := 48 * d + 12 * q
  let qi := 4 * d + q
  let s := (List.range 24).foldl (fun t i => cccReport d (12 * q + i / 2) (i % 2) .faulted t) s0
  ((s.setCmp { s.cmp with
      clu := tclear s.cmp.clu c0 12
      ccc := tclear s.cmp.ccc (2 * c0) 24
      ve := tclear s.cmp.ve (2 * c0) 24
      dma := tclear s.cmp.dma (2 * c0) 24
      core := tclear s.cmp.core (25 * c0) 300
      wat := tclear s.cmp.wat (512 * c0) (512 * 12)
      watTot := tclear s.cmp.watTot (6 * c0) 72 }).setRel { s.rel with
    checks := s.rel.checks.filter fun x => !(x.die == d && x.cluster / 12 == q) }).setPrg
    { s.prg with
      tile := tclear s.prg.tile (2 * qi * 1024) 2048
      gone := tclear s.prg.gone (4 * c0) 48
      ucode := tdrop s.prg.ucode qi
      ve := tclear s.prg.ve (2 * qi * 2048) 4096
      ccc := tclear s.prg.ccc (2 * qi * 2048) 4096 }

/-- The maps and CORE_STAT.RETIRED of quadrant `q` of die `d`, as the retirements in flash give them (R75, R488). -/
def quadRetired (d q : Nat) (s : State) : State :=
  s.flash.retired.foldl (fun t e =>
    let c := e.1 / 25
    if c / 48 = d ∧ c % 48 / 12 = q then
      t.setCmp { t.cmp with
        clu := tmod {} t.cmp.clu c fun x =>
          if e.2 = 0x1F then { x with lost := e.1 % 25 } else { x with spared := e.1 % 25 }
        core := tmod {} t.cmp.core e.1 fun x => { x with retired := true } }
    else t) s

/-- The blocks and RWB registers of domain `n` take their reset values (R83, R97). What stays is the CP's memory of their
CFG_PARITY events (R100). -/
def blocksReset (n : Nat) (s : State) : State :=
  let own (b : Nat) : Bool := match frameAt b with | some f => f.dom == n | none => false
  (s.setBlks (tmap {} (fun b (x : Blk) => if own b then { parity := x.parity } else x) s.blks)).setRwb
    (s.rwb.filter fun e => !own e.1)

/-- What a PCIe function loses when its link leaves DL_Active, PERSTn_N goes low or it is reset (R114): transfers to or from
its host, those that have not begun among them, end with ABORTED. Profiling sessions into its host end with it (log entry
37). -/
def fnReset (p : Nat) (s : State) : State :=
  let s1 := ringsOff p s
  let gone (e : InFlight) : InFlight := if usesHost e.desc ∧ e.result.isNone then { e with fails := some 0 } else e
  let f := fn s1 p
  let s2 := setFn s1 p { f with
    cfg := {}, maps := [], msix := [], pba := 0
    rings := [0, 1, 2, 3].foldl (fun t r => tmod (ringReset r) t r fun x => { x with inflight := x.inflight.map gone }) f.rings }
  s2.setMgt { s2.mgt with sess := s2.mgt.sess.filter fun x => x.port != p }

/-- The domain of a function leaves On: its link leaves DL_Active. -/
def fnDown (p : Nat) (s : State) : State :=
  let t := fnReset p s
  let f := fn t p
  setFn t p { f with linkUp := false, training := false, d3hot := false
                     downSince := if f.linkUp then rtNow t else f.downSince, overdue := f.overdue && !f.linkUp }

/-- The rings of die `d` go OFF: heater off (R355). -/
def heatersOff (d : Nat) (s : State) : State :=
  s.setOpt { s.opt with ring := tmap {} (fun k (x : OptRing) =>
    if k / 224 = d then { x with st := .off, heater := 0, ffOffset := 0 } else x) s.opt.ring }

/-- A bank of five lasers goes off, and the buses that it feeds are dark (R353, R354). -/
def bankOff (first : Nat) (s : State) : State :=
  s.setOpt { s.opt with
    las := tclear s.opt.las first 5
    bus := s.opt.bus.filter fun b => !(s.opt.las.any fun e => first ≤ e.1 && e.1 < first + 5 && e.2.bus == some b.1) }

/-- Everything that a domain holds takes its reset value when the domain leaves On. -/
def domReset (n : Nat) (s0 : State) : State :=
  let s := blocksReset n s0
  if n < 64 then
    let d := n / 8
    match n % 8 with
    | 4 => sramLost d s
    | 5 => s.setSrm (tset {} s.srm d {})
    | 6 =>
      (((s.setDsc (tset {} s.dsc d {})).setScb (tclear s.scb (4096 * d) 4096)).setFab
        { s.fab with
          cnt := tset {} s.fab.cnt d {}
          runs := s.fab.runs.filter fun r => r.die != d }).setLinks (tclear s.links (pkgLink d 0) 8)
      |> fun t => (portsOfDie t d).foldl (fun u p => portDown p 5 u) t
      |> heatersOff d
    | 7 => (lpxLost d s).setStk (tclear s.stk (5 * d) 5)
    | k => quadReset d k s
  else match n with
    | 64 | 65 | 66 | 67 => s.setLinks (tclear s.links (8 * (n - 64)) 8)
    | 68 => s.setFab { s.fab with planNo := 0, switching := false, switched := [], plans := [] }
    | 69 => bankOff 0 s
    | 70 => bankOff 5 s
    | 71 => (s.setOpt { s.opt with ring := [], seq := [] }).setPrg { s.prg with seq := [] }
    | 73 => s.setSec {}
    | 74 => fnDown 0 s
    | 75 => fnDown 1 s
    | 76 => s.setMgt { s.mgt with hwq := [], lost := 0, log := [], sess := [] }
    | 77 => (s.setRtb {}).setMgt { s.mgt with
        eidSmbus := 0, eidPcie0 := 0, eidPcie1 := 0, tid := 0, evReceiver := none, evBuf := 0, evq := [], dropped := 0,
        rx := 0, err := 0, upd := {}, spdmStage := 0, spdmWait := none }
    | 78 => (s.setMgt { s.mgt with
        samples := [], sampleRt := 0, coarse := [], window := [], windowCnt := 0, stepEnds := 0, cntAcc := [], cntOut := [] }).setRel
        { s.rel with checks := [], sampled := 0, skipped := 0, mismatch := 0 }
    | _ => s

/-- A domain goes Off (STATE and CAUSE), with everything it holds. -/
def domOff (n : Nat) (s : State) : State := domReset n (setDom s n {})

/-! ### Loss of power and the start of Spring -/

/-- The state with every domain off: only the part, its pins (PERSTn_N among them, R63), module flash, the outputs and the waiting commands are
kept (R30, R41). -/
def powerLost (s : State) : State :=
  { State.reset with
    variant := s.variant
    sup := { pins := s.sup.pins, hold := s.sup.hold, riseHeld := s.sup.riseHeld, wakeLatched := s.sup.wakeLatched }
    fn0 := { perstLow := s.fn0.perstLow }, fn1 := { perstLow := s.fn1.perstLow }
    flash := s.flash, freeCtr := s.freeCtr, out := s.out, pending := s.pending }

/-- Spring starts at step 1 (R62). In a Respring PWR_GOOD stays high and PROFSEL is latched at once (R71, R80). -/
def startSpring (respring : Bool) (s : State) : State :=
  let t := powerLost s
  let t1 := t.setSpring {
    started := [1], respring
    latched := if respring then s.sup.pins.profsel else 0 }
  let t2 := (t1.setPhase .spring).setSup { t1.sup with good := respring, wakeLatched := false, hold := false,
                                                       riseHeld := false }
  (t2.setPseq (some { up := true, todo := [79], why := .springStep })).setDoms [(79, { st := .enabling })]

/-! ### Power sequences (R32, R33) -/

/-- Work of a sequence that is already done: domains On for power-on, Off for power-off. A power-off of a domain in
Fault takes it Off at once (R37). -/
def seqSkip (up : Bool) : List Nat → State → List Nat × State
  | [], s => ([], s)
  | n :: ns, s =>
    if up then
      if (dom s n).st == .on then seqSkip up ns s else (n :: ns, s)
    else
      match (dom s n).st with
      | .off => seqSkip up ns s
      | .fault => seqSkip up ns (domOff n s)
      | _ => (n :: ns, s)

/-- Put the first domain of the work list into transition. -/
def seqKick (up : Bool) (ns : List Nat) (s : State) : State :=
  match ns with
  | [] => s
  | n :: _ =>
    if up then
      if (dom s n).st == .enabling then s else setDom s n { st := .enabling }
    else if (dom s n).st == .disabling then s else setDom s n { (dom s n) with st := .disabling }

/-- Start or continue a power sequence; the sequence is over when its list is empty. -/
def seqGo (up : Bool) (todo : List Nat) (why : SeqWhy) (s : State) : State :=
  let r := seqSkip up todo s
  let t := seqKick up r.1 r.2
  t.setPseq (match r.1 with | [] => none | ns => some { up, todo := ns, why })

/-- The masks of domains On (R130). -/
def onMasks (s : State) : W64 × W64 :=
  (BitVec.ofNat 64 (maskOf 64 (domOn s)), BitVec.ofNat 64 (maskOf 16 fun i => domOn s (64 + i)))

/-- The last domain of a power sequence is done. -/
def seqEnd (q : PowerSeq) (s : State) : State :=
  match q.why with
  | .springStep => s
  | .exclude => s
  | .control p r no =>
    finishCmd p r no (okRv (onMasks s).1 (onMasks s).2 0) false s
  | .springStop =>
    match s.spring.stop with
    | some (k, _) => if !q.up && (k == 2 || k == 3) then seqGo true [76, 77] .springStop s else s
    | none => s
  | .shutdown =>
    match s.shut with
    | some h =>
      match h.target with
      | .respring => startSpring true s
      | .dormant =>
        let t := (powerLost s).setPhase .dormant
        if t.sup.wakeLatched then startSpring false t else t
    | none => s

/-- Start the next waiting power sequence (R37). -/
def pwaitGo : List PowerSeq → State → State
  | [], s => s.setPwait []
  | q :: qs, s =>
    if s.pseq.isSome then s.setPwait (q :: qs)
    else
      let t := seqGo q.up q.todo q.why s
      pwaitGo qs (if t.pseq.isNone then seqEnd q t else t)

/-- Go on with a sequence whose remaining work is `todo`, end it when nothing is left, and start a waiting one. -/
def seqRun (q : PowerSeq) (todo : List Nat) (s : State) : State :=
  let t := seqGo q.up todo q.why s
  if t.pseq.isNone then
    let u := seqEnd q t
    pwaitGo u.pwait u
  else t

/-! ### The stop of Spring (R77) -/

/-- Domains that stay on when Spring has stopped. -/
def stopKeep : List Nat := [79, 72, 73, 76, 77]

/-- R77 numbers no cause of SPRING_STOP: the model's numbers are 1 self-test or fuses, 2 a bound exceeded, 3 a domain in Fault,
4 no firmware slot accepted, 5 the attestation key, 6 sequencer programs not verified (DEDUCED, log entry 81).
The stop is journalled, every domain but those of `stopKeep` is powered off, and after a stop at step 2 or 3 PD76 and PD77 are
powered on. -/
def springStop (step cause : Nat) (s : State) : State :=
  let rt := rtNow s
  let e : Ev := { code := 0x9005, realm := 0xFF, job := 0xFFFF, count := 1, seqNo := s.flash.evSeq, rt, unit := 0,
                  data := [dw step, dw cause] }
  let s1 := journalAdd (fun _ => .event e) s
  let s2 := s1.setFlash { s1.flash with evSeq := s1.flash.evSeq + 1, unavailOpen := true }
  let s3 := s2.setMgt { s2.mgt with evq := (s2.mgt.evq ++ [e]).drop ((s2.mgt.evq ++ [e]).length - 256) }
  let s4 := (s3.setSpring { s3.spring with stop := some (step, cause), coolantWait := false,
                                           noVerify := step == 2 && cause == 1 }).setPhase .stopped
  let offs := (powerOrder s4).reverse.filter fun n => !stopKeep.contains n
  let r := seqSkip false offs s4
  match r.1 with
  | [] =>
    if step = 2 ∨ step = 3 then seqGo true [76, 77] .springStop r.2 else r.2.setPseq none
  | _ => seqGo false offs .springStop s4

/-- Step that Spring is at: the lowest-numbered step that has not completed (R69). -/
def springStep (s : State) : Nat :=
  ((List.range 12).filter fun i => i > 0 && !s.spring.done.contains i).headD 0xB |> min 0xB

/-! ### Domain faults (R35, R75) -/

/-- A domain enters Fault with a cause; the domains that require it go Off without Disabling; steps that use an
affected domain are aborted. In Spring, R75 holds a die's other domains in Fault or stops Spring. -/
def domFault (n cause : Nat) (s : State) : State :=
  let deps := (dependants n).filter fun m => domPresent s m && (dom s m).st != .off && (dom s m).st != .fault
  let s1 := logMod 0x8003 (resDom n) [dw cause] s
  let s2 := noteAborts 0x8003 s (abortDoms (n :: deps) s1)
  let s3 := deps.foldl (fun t m => domOff m t) s2
  let s4 := setDom (domReset n s3) n { st := .fault, cause := BitVec.ofNat 3 cause }
  let s5 := match s4.pseq with
    | some q => s4.setPseq (some { q with todo := q.todo.filter fun m => !(n :: dependants n).contains m })
    | none => s4
  let inSpring := s.phase == .spring || (s.phase == .running && !s.spring.discDone)
  if inSpring && n < 64 then
    let others := (List.range 8).map (8 * (n / 8) + ·) |>.filter (· != n)
    let s6 := others.foldl (fun t m =>
      if (dom t m).st == .fault then t else setDom (domReset m t) m { st := .fault, cause := 4 }) s5
    match s6.pseq with
    | some q => seqRun q (q.todo.filter fun m => !others.contains m) s6
    | none => s6
  else if inSpring && [72, 73, 76, 77, 79].contains n then
    springStop (springStep s) 3 (s5.setPseq none)
  else
    match s5.pseq with
    | some q => seqRun q q.todo s5
    | none => s5

end Sys2Proof.Machine
end

