-- ==== Sys2Proof/Machine/Power.lean ====
section
/-! DEFINITION. The supply, power capping, thermal protection, droop and coolant (chapter 02). -/

namespace Sys2Proof.Machine

open Sys2Proof

abbrev Res := Host.Outcome State Fault Refusal

/-! ### Input and start pins (R27, R30, R42, R62, R543) -/

/-- P36V lies within the release thresholds, and outside the lockout thresholds (R27), in mV. -/
def vinReleased (v : Nat) : Bool := 29500 < v && v < 41000
def vinLockout (v : Nat) : Bool := v < 28500 || 42000 < v

def setPins (s : State) (p : Pins) : State := s.setSup { s.sup with pins := p }

/-- PWR_EN_RISE (R30, R62, R543): Spring starts, or the rise is held for the rest of the 200 ms after a fall. Outside the
release thresholds the input is waited for. -/
def execPwrEnRise (vin : Nat) (s : State) : Res :=
  let s1 := setPins s { s.sup.pins with pwrEn := true, vin := vin }
  if s.sup.pins.pwrEn then .next s
  else if !s.sup.pins.inputOk || !vinReleased vin then .next (setPins s1 { s1.sup.pins with inputOk := false })
  else if s.sup.hold then .next (s1.setSup { s1.sup with riseHeld := true })
  else .next (startSpring false s1)

/-- PWR_EN_FALL (R30): every rail goes off at once; the 200 ms of R543 begin. -/
def execPwrEnFall (s : State) : Res :=
  let t := powerLost (setPins s { s.sup.pins with pwrEn := false })
  .next (t.setSup { t.sup with hold := true, riseHeld := false, wakeLatched := false })

/-- PWR_EN_HOLD_EXPIRY (R543). -/
def execPwrEnHoldExpiry (s : State) : Res :=
  if !s.sup.hold then .next s
  else
    let s1 := s.setSup { s.sup with hold := false, riseHeld := false }
    if s.sup.riseHeld && s.sup.pins.pwrEn && s.sup.pins.inputOk then .next (startSpring false s1) else .next s1

/-- INPUT_LOCKOUT (R30). -/
def execInputLockout (vin : Nat) (s : State) : Res :=
  if !vinLockout vin then .next s
  else .next (powerLost (setPins s { s.sup.pins with inputOk := false, vin := vin }))

/-- INPUT_RELEASE (R30): Spring starts from its first step while PWR_EN is high. -/
def execInputRelease (vin : Nat) (s : State) : Res :=
  if s.sup.pins.inputOk || !vinReleased vin then .next s
  else
    let s1 := setPins s { s.sup.pins with inputOk := true, vin := vin }
    if !s.sup.pins.pwrEn then .next s1
    else if s.sup.hold then .next (s1.setSup { s1.sup with riseHeld := true })
    else .next (startSpring false s1)

/-- WAKE_N_ASSERT (R42): taken in Dormant, latched while the module is entering Dormant, ignored elsewhere. The module counts
as entering Dormant from item 7 of R79 on, while its domains go off (DEDUCED, log entry 78). -/
def execWakeNAssert (s : State) : Res :=
  match s.phase with
  | .dormant => if s.sup.pins.pwrEn && s.sup.pins.inputOk then .next (startSpring false s) else .next s
  | .shutting =>
    match s.shut with
    | some h =>
      if h.target == .dormant && 7 ≤ h.item then .next (s.setSup { s.sup with wakeLatched := true }) else .next s
    | none => .next s
  | _ => .next s

/-! ### Clocks (R19, R45, R51) -/

/-- The margin plan in force. -/
def planInForce (s : State) : Margin :=
  tget {} s.flash.margins ((s.prof.map (·.marginSlot)).getD 0)

/-- The declared core clock in MHz (R11), or the clock on its way down to it (R498). -/
def declaredMhz (s : State) : Nat := s.rel.autumn.stepMhz.getD ((planInForce s).clockKhz / 1000)

/-- Throttling of one die. -/
def dieThm (s : State) (d : Nat) : DieThermal := tget {} s.thm.dies d

def setDieThm (s : State) (d : Nat) (x : DieThermal) : State :=
  s.setThm { s.thm with dies := tset {} s.thm.dies d x }

/-- The clock that thermal throttling lets die `d` have. -/
def throttleMhz (s : State) (d : Nat) : Nat :=
  let x := dieThm s d
  if x.throttled then min x.clock (declaredMhz s) else declaredMhz s

/-- The lowest clock that the actors other than the power cap request (R45). -/
def othersMhz (s : State) : Nat :=
  (List.range (dies s)).foldl (fun m d => min m (throttleMhz s d)) (declaredMhz s)

/-- The clock in force in the quadrants of die `d`, in MHz: 0 while a trip stops it (R19). -/
def dieMhz (s : State) (d : Nat) : Nat :=
  if s.thm.stopped then 0
  else if s.cap.active then min s.cap.clock (throttleMhz s d) else throttleMhz s d

/-- The clocks of the quadrants and of PD(8d+6) run (R54). -/
def clocksRun (s : State) : Bool := !s.thm.stopped

/-! ### Power capping (R44 to R49, R60) -/

/-- The cap that the loop keeps, in W (R60). Until Spring has loaded a profile's cap it is the variant's highest cap (DESIGN
CHOICE, log entry 79). -/
def capW (s : State) : Nat :=
  let c := (if s.prof.isSome then s.cap.cap.toNat else (capRange s).2) * 10
  if s.cap.coolantCap then min c (tdp s / 2) else c

def avgOf (l : List Nat) : Nat := if l.isEmpty then 0 else l.foldl (· + ·) 0 / l.length

/-- POWER_SAMPLE (R45): the input power in W and the input current in mA, over the last 100 µs. -/
def execPowerSample (watts milliamps : Nat) (s : State) : Res :=
  if !s.sup.good then .next s
  else .next (s.setCap { s.cap with samples := (watts :: s.cap.samples).take 10
                                    amps := (milliamps :: s.cap.amps).take 10 })

/-- One step of the loop (R45 to R48). A limit is over while the average power exceeds the cap or the average current
exceeds 160 A (R29); it is 5% over, or 3% under, in the same measure. -/
def capLoop (s : State) : State :=
  let c := s.cap
  let w := avgOf c.samples
  let a := avgOf c.amps
  let cap := capW s
  let others := othersMhz s
  let clock := if c.active then min c.clock others else others
  let ampOver := 160000 < a
  let overCap := cap < w || ampOver
  let big := cap * 105 < w * 100 || 160000 * 105 < a * 100
  let low := w * 100 < cap * 97 && a * 100 < 160000 * 97
  let c1 : PowerCap :=
    if overCap then
      if 600 < clock then { c with clock := max 600 (clock - if big then 100 else 25), below := 0 }
      else { c with clock := clock, duty := min 3 (c.duty + 1), below := 0 }
    else if low then
      if c.below < 50 then { c with clock := clock, below := c.below + 1 }
      else if 0 < c.duty then { c with clock := clock, duty := c.duty - 1 }
      else { c with clock := min others (clock + 25) }
    else { c with clock := clock, below := 0 }
  let limit := if ampOver then true else if a * 100 < 160000 * 97 then false else c.currentLimit
  let c2 := { c1 with active := decide (c1.clock < others), currentLimit := limit, unmet := c.unmet && overCap
                      railOffDue := c.railOffDue && ampOver }
  let begins := (c2.active && !c.active) || (limit && !c.currentLimit)
  let s1 := s.setCap c2
  if begins then logMod 0x8002 0 [] s1 else s1

/-- POWER_CAP_LOOP_STEP (R45): every 20 µs. -/
def execPowerCapLoopStep (s : State) : Res :=
  if !s.sup.good || s.cap.samples.isEmpty then .next s else .next (capLoop s)

/-- POWER_CAP_UNMET_TIMER (R48): 1 ms after the last issue limit took effect. The event is logged once per episode; a
160 A limit that cannot be met takes the rails off 1 ms later. -/
def execPowerCapUnmetTimer (s : State) : Res :=
  let w := avgOf s.cap.samples
  let a := avgOf s.cap.amps
  if s.cap.duty = 3 ∧ (capW s < w ∨ 160000 < a) then
    let s1 := s.setCap { s.cap with unmet := true, railOffDue := s.cap.railOffDue || decide (160000 < a) }
    .next (if s.cap.unmet then s1 else logMod 0x8006 0 [dw (capW s), dw w] s1)
  else .next s

/-- CURRENT_LIMIT_RAIL_OFF (R48): every present quadrant domain faults with cause rail overcurrent. -/
def execCurrentLimitRailOff (s : State) : Res :=
  if !s.cap.railOffDue then .next s
  else
    let qs := (List.range 64).filter fun n =>
      n % 8 < 4 && domPresent s n && (dom s n).st != .off && (dom s n).st != .fault
    .next (qs.foldl (fun t n => domFault n 1 t) (s.setCap { s.cap with railOffDue := false }))

/-! ### Thermal throttling and droop (R51, R53) -/

/-- Lower the clock of a throttled die by one step. -/
def throttleDown (x : DieThermal) : DieThermal := { x with clock := max 600 (x.clock - 100), rising := false }

/-- Raise it by one step; the episode ends at the declared clock. -/
def throttleUp (decl : Nat) (x : DieThermal) : DieThermal :=
  if decl ≤ x.clock + 100 then { x with clock := decl, throttled := false, rising := false }
  else { x with clock := x.clock + 100 }

/-- THM_HOT follows the readings (R56): the hottest of the quadrant sensors and of the other junctions, as last read. -/
def noteHot (s : State) : State :=
  let t := s.thm
  s.setThm { t with hot := BitVec.ofInt 16 (t.dies.foldl (fun m e => e.2.temps.foldl max m) t.other) }

/-- The hottest junction of the package reads `temp`: no junction reads more. -/
def noteHottest (temp : Int) (s : State) : State :=
  noteHot (s.setThm { s.thm with
    other := temp, dies := tmap {} (fun _ (x : DieThermal) => { x with temps := x.temps.map (min temp) }) s.thm.dies })

/-- Quadrant `q` of a die reads `temp`; sensors that have not been read yet count as this one. -/
def readQuad (q : Nat) (temp : Int) (x : DieThermal) : DieThermal :=
  { x with temps := (x.temps ++ List.replicate (4 - x.temps.length) temp).set q temp }

/-- THERMAL_POINT_REACHED (R51): quadrant `q` of die `d` reads `temp` (0.01 °C). The first step of an episode is taken
and logged; an episode whose clock is rising turns down again. The first step is counted from the declared clock, whatever the
power cap holds (DEDUCED, log entry 80). -/
def execThermalPointReached (d q : Nat) (temp : Int) (s : State) : Res :=
  if !(domOn s (8 * d + q) && q < 4) || temp < (thmPoint s * 100 : Nat) then .next s
  else
    let x := readQuad q temp (dieThm s d)
    if x.throttled then .next (noteHot (setDieThm s d { x with rising := false }))
    else
      let y := throttleDown { x with throttled := true, clock := declaredMhz s }
      .next (logMod 0x8001 (resDie d) [] (noteHot (setDieThm s d y)))

/-- THROTTLE_STEP (R51): every 100 µs, with the readings of all sensors of the die. Once the clock rises it goes on rising
while the sensors stay below POINT (DEDUCED, log entry 80). -/
def execThrottleStep (d : Nat) (temps : List Int) (s : State) : Res :=
  let x := { dieThm s d with temps := temps }
  if !x.throttled || d ≥ dies s then .next s
  else if x.rising then .next (noteHot (setDieThm s d (throttleUp (declaredMhz s) x)))
  else if temps.all fun t => t ≤ ((thmPoint s - 2) * 100 : Nat) then .next (noteHot (setDieThm s d x))
  else .next (noteHot (setDieThm s d (throttleDown x)))

/-- THROTTLE_RELEASE_TIMER (R51): the sensors have read RELEASE or less for 10 ms. -/
def execThrottleReleaseTimer (d : Nat) (temps : List Int) (s : State) : Res :=
  let x := { dieThm s d with temps := temps }
  if !x.throttled || d ≥ dies s || !(temps.all fun t => t ≤ (thmRelease s * 100 : Nat)) then .next s
  else .next (noteHot (setDieThm s d (throttleUp (declaredMhz s) { x with rising := true })))

/-- DROOP_DETECT (R53): the core clock of the quadrant is stretched; only the count shows it. -/
def execDroopDetect (d q : Nat) (s : State) : Res :=
  if !(domOn s (8 * d + q) && q < 4) then .next s
  else .next (s.setThm { s.thm with
    droop := tset false s.thm.droop (4 * d + q) true
    droopCount := tmod 0 s.thm.droopCount (4 * d + q) (inc32 · 1) })

/-- DROOP_END (R53). -/
def execDroopEnd (d q : Nat) (s : State) : Res :=
  .next (s.setThm { s.thm with droop := tset false s.thm.droop (4 * d + q) false })

/-! ### Thermal trip (R54, R55) -/

/-- The clocks stop, and every step that is not in Solstice is aborted (R55). -/
def tripStop (s : State) : State :=
  let out (j : Option Job) : Bool := j.any fun j => j.sol == .none || j.sol == .closing
  let t := s.setThm { s.thm with stopped := true }
  let t1 := if out t.jobA then abortPlain 0 t else t
  if out t1.jobB then abortPlain 1 t1 else t1

/-- The module drives THERM_TRIP_N low itself (R54): the trip is logged and counted. -/
def driveTrip (s : State) : State :=
  if s.thm.tripDrv then s
  else
    let s1 := s.setThm { s.thm with tripDrv := true, trips := inc32 s.thm.trips 1 }
    noteAborts 0x8005 s (tripStop (logMod 0x8005 0 [] s1))

/-- Protection of R54 and R59 is active: PD79 is On and Spring or service runs. -/
def inService (s : State) : Bool := s.sup.good && domOn s 79

/-- JUNCTION_TRIP (R54): a package junction reads `temp` (0.01 °C). -/
def execJunctionTrip (temp : Int) (s : State) : Res :=
  if !inService s || temp < 10500 then .next s
  else .next (driveTrip (noteHot (s.setThm { s.thm with other := temp })))

/-- THERM_TRIP_N_LOW (R54): the board drives the line low. -/
def execThermTripNLow (s : State) : Res :=
  let s1 := setPins s { s.sup.pins with boardTrip := true }
  if !inService s then .next s1 else .next (tripStop s1)

/-- The clocks restart when the line is high (R54). -/
def tripRestart (s : State) : State :=
  if tripLine s then s else s.setThm { s.thm with stopped := false }

/-- THERM_TRIP_N_HIGH (R54). -/
def execThermTripNHigh (s : State) : Res :=
  .next (tripRestart (setPins s { s.sup.pins with boardTrip := false }))

/-- TRIP_RELEASE (R54): for 10 s all junctions have read 90 °C or less and both flows were at their minimums. -/
def execTripRelease (hot : Int) (s : State) : Res :=
  if !s.thm.tripDrv || 9000 < hot || s.sup.pins.flow0 < (minFlow s).1 || s.sup.pins.flow1 < (minFlow s).2 then .next s
  else .next (tripRestart (noteHottest hot (s.setThm { s.thm with tripDrv := false })))

/-! ### Coolant (R57 to R60) -/

/-- Flows in 0.01 L/min and inlets in 0.01 °C, as PD79 reads them. -/
def setCoolant (s : State) (f0 f1 : Nat) (t0 t1 : Int) : State :=
  setPins s { s.sup.pins with flow0 := f0, flow1 := f1, tin0 := t0, tin1 := t1 }

/-- Both flows and both inlets are within limits (R59). -/
def coolantOk (s : State) : Bool :=
  let p := s.sup.pins
  (minFlow s).1 ≤ p.flow0 && (minFlow s).2 ≤ p.flow1 && p.tin0 ≤ 4000 && p.tin1 ≤ 4000

/-- The second and third rows of R59 apply: from the start of Spring step 6 until the module leaves service. -/
def coolantWatched (s : State) : Bool :=
  (s.phase == .spring && s.spring.started.contains 6) || s.phase == .running || s.phase == .shutting

/-- COOLANT_LOSS_TIMER (R59): out of limits for 2 s. -/
def execCoolantLossTimer (f0 f1 : Nat) (t0 t1 : Int) (s : State) : Res :=
  let s1 := setCoolant s f0 f1 t0 t1
  if !coolantWatched s1 || coolantOk s1 || s1.thm.coolantFault then .next s1
  else
    let s2 := (s1.setCap { s1.cap with coolantCap := true }).setThm { s1.thm with coolantFault := true }
    .next (logMod 0x8004 0 [] s2)

/-- COOLANT_CLEAR_TIMER (R59): within limits for 10 s. -/
def execCoolantClearTimer (f0 f1 : Nat) (t0 t1 : Int) (s : State) : Res :=
  let s1 := setCoolant s f0 f1 t0 t1
  if !coolantOk s1 || !s1.thm.coolantFault || !coolantWatched s1 then .next s1
  else .next ((s1.setCap { s1.cap with coolantCap := false }).setThm { s1.thm with coolantFault := false })

/-- COOLANT_FLOW_TRIP (R59): a flow below 25% of its minimum for 0.5 s. -/
def execCoolantFlowTrip (f0 f1 : Nat) (s : State) : Res :=
  let s1 := setPins s { s.sup.pins with flow0 := f0, flow1 := f1 }
  if !coolantWatched s1 || !(f0 * 4 < (minFlow s).1 || f1 * 4 < (minFlow s).2) then .next s1
  else .next (driveTrip s1)

/-! ### Stack temperatures (R52, R299) -/

def stack (s : State) (n : Nat) : Stack := tget {} s.stk n
def setStack (s : State) (n : Nat) (x : Stack) : State := s.setStk (tset {} s.stk n x)

/-- LPX_TEMP_READ (R299): stack `n` reads `temp` (0.01 °C), every 1 ms. Throttling ends at the read at which 92 °C or
less has been read for 10 ms, the eleventh such read in a row. -/
def execLpxTempRead (n : Nat) (temp : Int) (s : State) : Res :=
  if !domOn s (8 * (n / 5) + 7) then .next s
  else
    let x := stack s n
    let cool := if temp ≤ 9200 then x.coolMs + 1 else 0
    let derate := if 8500 < temp then true else if temp ≤ 8300 then false else x.derate
    let thr := if 9500 < temp then true else if 11 ≤ cool then false else x.throttle
    let y := { x with temp := BitVec.ofInt 8 (temp / 100), derate, throttle := thr
                      coolMs := if thr then cool else 0 }
    let s1 := setStack s n y
    if thr && !x.throttle then .next (logMod 0x8001 (resStack n) [] s1) else .next s1

/-- DOMAIN_RAIL_FAULT (R35): cause 1 overcurrent, 2 undervoltage, 3 overvoltage. -/
def execDomainRailFault (n cause : Nat) (s : State) : Res :=
  if !domPresent s n || (dom s n).st == .off || (dom s n).st == .fault || cause = 0 || 3 < cause then .next s
  else .next (domFault n cause s)

end Sys2Proof.Machine
end

