-- ==== Sys2Proof/Machine/Cores.lean ====
section
/-! DEFINITION. Cores and clusters as the schedulers see them: CLU_MAP, usability (R248), the flush of R162, and the
takeover by a spare (R488). -/

namespace Sys2Proof.Machine

open Sys2Proof

/-- Physical core of a logical core (R230, R488): the spare takes the number in CLU_MAP.SPARED. -/
def physCore (s : State) (d c l : Nat) : Nat := if (clu s d c).spared = l ∧ l < 24 then 24 else l

/-- Logical core of a physical core. -/
def logCore (s : State) (d c k : Nat) : Nat := if k = 24 then (clu s d c).spared else k

/-- R248: a cluster is usable. -/
def clusterUsable (s : State) (d c : Nat) : Bool :=
  domOn s (quadDom d c) && (clu s d c).lost == 0x1F
    && blkOn s (baseCLU d c) && blkOn s (baseVE d c) && blkOn s (baseCCC d c) && blkOn s (baseWAT d c)

/-- Usable clusters of die `d`, ascending. -/
def usableClusters (s : State) (d : Nat) : List Nat := (List.range 48).filter (clusterUsable s d)

/-- The flush of R162: everything a core holds of its slot is cleared; role, gating, retirement and counters stay. -/
def flushCore (x : Core) : Core :=
  { skipEn := x.skipEn, skipRecord := x.skipRecord, role := x.role, retired := x.retired, gated := x.gated, slot := x.slot, counts := x.counts }

/-- Device offset of the sliver of core `k` of cluster `c` of die `d` (R283). -/
def sliverBase (d c k : Nat) : Nat := sramBase d + (25 * c + k) * 0x140000

/-- Move the entries of a table whose keys lie in `[a, a+n)` to `[b, b+n)`, in place of what is there. -/
def tmove {α : Type} [DecidableEq α] (dflt : α) (t : Tbl α) (a b n : Nat) : Tbl α :=
  (t.filter fun e => a ≤ e.1 && e.1 < a + n).foldl (fun u e => tset dflt u (e.1 - a + b) e.2) (tclear t b n)

/-- Copy a sliver with its tags, valid bits and poison (R488 step 3). -/
def copySliver (d c k k' : Nat) (s : State) : State :=
  let a := sliverBase d c k
  let b := sliverBase d c k'
  s.setMem { s.mem with
    sram := tmove 0 s.mem.sram a b 0x140000
    line := tmove none s.mem.line (a / 32) (b / 32) (0x140000 / 32)
    sramEcc := tmove 0 s.mem.sramEcc (a / 8) (b / 8) (0x140000 / 8) }

/-- The spare of a cluster is free to take over. -/
def spareFree (s : State) (d c : Nat) : Bool :=
  (clu s d c).spared == 0x1F && !(core s d c 24).retired

/-- R488 and R75: core `k` is retired with a cause; the spare takes over if it is free, otherwise the cluster is lost
and the steps that use it are aborted. -/
def retireCore (d c k cause : Nat) (s : State) : State :=
  let key := coreKey d c k
  let free := spareFree s d c && k != 24
  let lostNow := !free && (k != 24 || (clu s d c).spared != 0x1F)
  let spareNo := if free then 24 else 0x1F
  let old := core s d c k
  let s1 :=
    if free then
      let t := copySliver d c k 24 s
      let sp := flushCore (core t d c 24)
      let t1 := setCore t d c 24 { sp with role := old.role, slot := old.slot, switchTo := old.switchTo, gated := false }
      t1.setCmp { t1.cmp with clu := tmod {} t1.cmp.clu (cluKey d c) fun x => { x with spared := k } }
    else if lostNow then
      s.setCmp { s.cmp with clu := tmod {} s.cmp.clu (cluKey d c) fun x => { x with lost := k } }
    else s
  let s2 := setCore s1 d c k { flushCore old with retired := true, role := 0 }
  let s3 := s2.setFlash { s2.flash with
    retired := s2.flash.retired ++ [(key, spareNo)]
    marks := s2.flash.marks.filter fun m => m.1 != key }
  let s4 := logMod 0x7002 (resCore d c k) [dw spareNo, dw cause] s3
  if lostNow then noteAborts 0x7002 s (abortWhere (fun j => jobUsesCluster j d c) s4) else s4

/-- Mark a core for retirement (R487). -/
def markCore (key cause : Nat) (s : State) : State :=
  if (s.flash.marks.any fun m => m.1 == key) || (s.flash.retired.any fun m => m.1 == key) then s
  else s.setFlash { s.flash with marks := s.flash.marks ++ [(key, cause)] }

def coreMarked (s : State) (key : Nat) : Bool := s.flash.marks.any fun m => m.1 == key

/-- Strikes of a core younger than 24 h (R487). -/
def strikesOf (s : State) (key : Nat) : Nat :=
  (s.flash.strikes.filter fun e => e.1 == key && (rtNow s).toNat - e.2.toNat < ticksDay).length

/-! ### Contexts and the end of their agents (R160, R165, R226, R233, R240, R241, R258) -/

/-- Realm of a slot's requests. -/
def slotRealm (s : State) (slot : Nat) : Nat := (bindOf s slot).getD 0

/-- Main slot of the job whose work a context of `slot` runs: its own, or the other when the slot holds fill work. -/
def ownerSlot (s : State) (slot : Nat) : Nat := if (jobAt s slot).isSome then slot else 1 - slot

/-- An event of the job that a context works for. -/
def logCtx (code slot : Nat) (unit : W64) (data : List W64) (s : State) : State :=
  match jobAt s (ownerSlot s slot) with
  | some j => logJob code j unit data s
  | none => logMod code unit data s

/-- A fault of a fill instance stops every remaining one, waiting or running, and leaves the step alone (R276). -/
def fillFault (owner : Nat) (s : State) : State :=
  match jobAt s owner with
  | none => s
  | some j =>
    let n := (j.fill.map (·.tasks.length)).getD 0
    let t := (List.range n).foldl (fun t i =>
      if tget .waiting t i = .waiting then tset .waiting t i .faulted else t) j.fillInsts
    fillCheck owner (stopSlot (1 - owner) (setJobAt s owner (some { j with fillInsts := t })))

/-- The work of a context has faulted: the step of its job is aborted, or its fill work ends. -/
def ctxAbort (slot : Nat) (s : State) : State :=
  if (jobAt s slot).isSome then abortStep slot s else fillFault (1 - slot) s

/-- R233: a cluster task ends in fault with a cause and an agent; at most one CCC_FAULT per cluster task. -/
def cccFault (d c slot cause agent : Nat) (s : State) : State :=
  let x := ccc s d c slot
  if x.task.isNone || x.faulted then s
  else
    let s1 := logCtx 0x3006 slot (resCluster d c) [dw slot, dw x.pc, dw cause, dw agent] s
    ctxAbort slot (cccStop d c slot s1)

/-! ### Tasks of a core (R154, R230) -/

/-- Start a task on an idle core (R154). -/
def coreStart (x : Core) (t : CoreTask) : Core :=
  { x with
    task := some t, pc := t.entry, ar := (List.range 8).foldl (fun a i => tset 0 a i (t.ars.getD i 0)) []
    lc := [], loops := [], sc := fOne, queue := [], acc := [], latch := none, undrained := false, ownBanks := []
    ending := false, slow := false }

/-- The pending task of a core starts when the core runs none (R230). -/
def coreNext (x : Core) : Core :=
  match x.task, x.pendTask with
  | none, some t => if x.checking then x else coreStart { x with pendTask := none } t
  | _, _ => x

/-! ### Checks of the Sentinel (R483 to R486) -/

/-- The checked task of a core has ended. -/
def checkEnded (d c k : Nat) (s : State) : State :=
  s.setRel { s.rel with checks := s.rel.checks.map fun x =>
    if x.die = d ∧ x.cluster = c ∧ x.core = k then { x with ended := true } else x }

/-- Checks that `p` selects are over: their checkers are free again, and a task that waits at one starts (R230). -/
def checksDrop (p : Check → Bool) (s : State) : State :=
  let s1 := (s.rel.checks.filter p).foldl (fun t x =>
    setCore t x.die x.cluster x.checker (coreNext { core t x.die x.cluster x.checker with checking := false })) s
  s1.setRel { s1.rel with checks := s1.rel.checks.filter fun x => !p x }

/-- Checks that `p` selects are abandoned: each counts as a skipped sample (R485, R514). -/
def checksSkip (p : Check → Bool) (s : State) : State :=
  let n := (s.rel.checks.filter p).length
  let s1 := checksDrop p s
  s1.setRel { s1.rel with skipped := inc32 s1.rel.skipped n }

/-- R485: the running check of a core's task is abandoned. -/
def checkAbandon (d c k : Nat) (s : State) : State :=
  checksSkip (fun x => x.die == d && x.cluster == c && x.core == k && !x.ended) s

/-- R160: the running task of a core ends in fault. -/
def tileFault (d c k cause : Nat) (s : State) : State :=
  let x := core s d c k
  match x.task with
  | none => s
  | some t =>
    let s1 := checkEnded d c k (setCore s d c k (coreIdle x))
    let s2 := logCtx 0x3004 x.slot (resCore d c k) [dw t.tag.toNat, dw x.pc, dw cause] s1
    cccFault d c x.slot 6 t.logical s2

/-- A core with both banks invalid (R150). -/
def banksLost (x : Core) : Core := { x with bank0 := {}, bank1 := {} }

/-- R150, R165: CORE leaves On other than by Disabling: both banks are invalid, and every task that it held, running or pending, is
reported failed with no TILE_FAULT. A check that it serves is abandoned (DEDUCED, log entry 90). -/
def coreFail (d c k : Nat) (s : State) : State :=
  let x := core s d c k
  let s1 := setCore s d c k (banksLost { coreIdle x with pendTask := none })
  let s2 := checkEnded d c k (checksSkip (fun y => y.die == d && y.cluster == c && y.checker == k) s1)
  match x.task.or x.pendTask with
  | none => s2
  | some t => cccFault d c x.slot 6 t.logical s2

/-- R150: CORE leaves On by Disabling: its banks are invalid once it holds no task (DEDUCED, log entry 90). -/
def coreLeaves (d c k : Nat) (s : State) : State :=
  let x := core s d c k
  if x.task.isNone && x.pendTask.isNone then setCore s d c k (banksLost x) else s

/-- R226: the VE program of a context ends in fault. -/
def veFault (d c slot cause : Nat) (s : State) : State :=
  let v := ve s d c slot
  let s1 := logCtx 0x3005 slot (resCluster d c) [dw slot, dw v.pc, dw cause] s
  cccFault d c slot 6 24 (setVe s1 d c slot { v with run := false, ending := false, pc := 0 })

/-- Remote transactions of the DMA queues of a context that `p` selects are over. -/
def dmaTxnsDrop (d c slot : Nat) (p : Nat → Bool) (s : State) : State :=
  s.setFab { s.fab with txns := s.fab.txns.filter fun t => match t.who with
    | .dma d' c' slot' q => !(d' == d && c' == c && slot' == slot && p q)
    | _ => true }

/-- R240: the running transfer of a queue ends in fault; every later transfer of the context is discarded. -/
def dmaFault (d c slot queue cause : Nat) (s : State) : State :=
  let s1 := dmaTxnsDrop d c slot (· == queue) (logCtx 0x3007 slot (resCluster d c) [dw slot, dw queue, dw cause] s)
  let q := dma s1 d c slot
  let s2 := setDma s1 d c slot (if queue = 0 then { q with q0 := [], q1 := q.q1.filter (·.running) }
    else { q with q0 := q.q0.filter (·.running), q1 := [] })
  cccFault d c slot 6 (25 + queue) s2

/-- R241: CLU enters Fault. -/
def cluDown (d c : Nat) (s : State) : State :=
  [0, 1].foldl (fun t slot =>
    let q := dma t d c slot
    if q.q0.isEmpty && q.q1.isEmpty then t
    else cccFault d c slot 6 (if q.q0.isEmpty then 26 else 25)
      (dmaTxnsDrop d c slot (fun _ => true) (setDma t d c slot { q with q0 := [], q1 := [] }))) s

/-- R241: VE enters Fault. -/
def veDown (d c : Nat) (s : State) : State :=
  [0, 1].foldl (fun t slot =>
    let v := ve t d c slot
    if v.run then cccFault d c slot 6 24 (setVe t d c slot { v with run := false, ending := false, pc := 0 }) else t) s

/-- R241: CCC enters Fault: every cluster task that it held is reported failed, with no CCC_FAULT. -/
def cccDown (d c : Nat) (s : State) : State :=
  [0, 1].foldl (fun t slot =>
    if (ccc t d c slot).task.isSome then ctxAbort slot (cccReport d c slot .faulted (cccStop d c slot t)) else t) s

/-! ### Blocks of the links and the optical layer (R364, R385, R441) -/

/-- R364: the LCK block of sequencer `d` is in Fault: the program ends, rings in SWEEP go to HOLD at their calibrated
heater power, and feed-forward is off. -/
def lckDown (d : Nat) (s : State) : State :=
  let q := tget {} s.opt.seq d
  s.setOpt { s.opt with
    seq := tset {} s.opt.seq d { q with run := false, pc := 0, waiting := none, ff := false }
    ring := tmap {} (fun k (x : OptRing) =>
      if k / 224 = d then
        { x with ffOffset := 0
                 st := if x.st == .sweep then .hold else x.st
                 heater := if x.st == .sweep then tget 0 q.cal (k % 224) else x.heater }
      else x) s.opt.ring }

/-- A sequencer starts its program from instruction 0 (R361). -/
def seqStart (d : Nat) (s : State) : State :=
  s.setOpt { s.opt with seq := tmod {} s.opt.seq d fun q => { q with run := true, pc := 0, waiting := none } }

/-- R498, R514: a pass in progress is abandoned; its slices end and their locks are released. -/
def passAbandon (s : State) : State :=
  if !s.rel.autumn.running then s
  else
    let n := s.rel.autumn.number
    let s1 := s.setRel { s.rel with
      autumn := { stepMhz := s.rel.autumn.stepMhz }
      locks := s.rel.locks.filter fun e => !(e.2.any fun l => l.cls == 0 && !l.host)
      queue := s.rel.queue.filter fun q => q.cls != 0 }
    logMod 0x7009 0 [dw n, 1] (s1.setFlash { s1.flash with passAbandoned := none })

/-- What a block brings with it when it leaves On (R165, R241, R364, R385, R402). `byFault` is false for
Disabling. -/
def clusterBlockDown (code d c k : Nat) (byFault : Bool) (s : State) : State :=
  match code with
  | 0x02 => if byFault then rtbLoss 4 (abortWhere (fun _ => true) s) else s
  | 0x05 => if byFault then passAbandon s else s
  | 0x06 =>
    if byFault then checksSkip (fun _ => true) s else s
  | 0x0E => if byFault then cluDown d c s else s
  | 0x0F => if byFault then veDown d c s else s
  | 0x10 => if byFault then cccDown d c s else s
  | 0x12 => if byFault then coreFail d c k s else coreLeaves d c k s
  | 0x13 => tileFault d c k 8 s
  | 0x16 => lckDown c s
  | 0x17 => portDown c 5 s
  | 0x18 => portDown c 5 s
  | _ => s

end Sys2Proof.Machine
end

