-- ==== Sys2Proof/Machine/Spring.lean ====
section
/-! DEFINITION. Spring (chapter 03): profiles, firmware slots, the steps, their timeouts, and the domain transitions
that carry them. -/

namespace Sys2Proof.Machine

open Sys2Proof

/-! ### Profiles (R71 to R73, R407) -/

/-- All bytes of a range are zero. -/
def zeroAt (b : List Byte) (off len : Nat) : Bool := (slice b off len).all (· == 0)

/-- A division record is valid for this part (R407). -/
def divisionOk (s : State) (b : List Byte) : Bool :=
  let ps := slice b 8 32
  b.length == 64 && leAt b 0 2 == 1 && zeroAt b 2 6 && zeroAt b 0x28 24
    && (List.range 32).all (fun p =>
      let v := (ps.getD p 0).toNat
      let kind := v / 64
      kind != 3 && v / 16 % 4 == 0 && (kind == 1 || v % 16 == 0) && (p < ports s || v == 0))
    && (List.range 16).all (fun i => (ps.filter fun v => v.toNat == 64 + i).length ≤ 8)

/-- PCIEn_LINK (R72). -/
def linkFieldOk (v : Nat) : Bool :=
  1 ≤ v % 16 && v % 16 ≤ 5 && (v / 16 % 16 == 4 || v / 16 % 16 == 3) && v / 256 % 8 ≤ 2 && v / 4096 == 0

/-- The checks of R72 and R101, each with the offset of the field it concerns, in the order of the record: R73 gives the failed
field of PROFILE_FALLBACK neither a code nor an order, and the model takes the lowest offset (DEDUCED, log entry 81). -/
def profileChecks (s : State) (n : Nat) (b : List Byte) : List (Nat × Bool) :=
  [(0x00, b.length == 256 && leAt b 0 2 == 1),
   (0x02, leAt b 2 1 == n),
   (0x03, leAt b 3 1 < 3),
   (0x04, (capRange s).1 ≤ leAt b 4 2 && leAt b 4 2 ≤ (capRange s).2),
   (0x06, leAt b 6 1 < 4),
   (0x07, leAt b 7 1 < 2),
   (0x08, linkFieldOk (leAt b 8 2)),
   (0x0A, linkFieldOk (leAt b 10 2)),
   (0x0C, zeroAt b 12 4),
   (0x10, divisionOk s (slice b 0x10 64)),
   (0x50, zeroAt b 0x50 112),
   (0xC0, slice b 0xC0 64 == sha512 (slice b 0 0xC0))]

/-- Offset of the first field that makes a profile record invalid; none for a valid record. -/
def profileFault (s : State) (n : Nat) (b : List Byte) : Option Nat :=
  ((profileChecks s n b).find? fun c => !c.2).map (·.1)

def readProfile (n : Nat) (b : List Byte) : Profile :=
  { number := n, twoRealm := leAt b 3 1 % 2 == 1, compat := leAt b 3 1 / 2 == 1, cap := leAt b 4 2
    marginSlot := leAt b 6 1, stewardPort := leAt b 7 1, link0 := BitVec.ofNat 16 (leAt b 8 2)
    link1 := BitVec.ofNat 16 (leAt b 10 2), division := slice b 0x18 32 }

/-- The factory profile (R73). Both links: 32 GT/s, x16, Max_Payload_Size 256. -/
def factoryProfile (s : State) : Profile :=
  { number := 0xFF, twoRealm := false, compat := false, cap := (capRange s).2, marginSlot := 0, stewardPort := 0
    link0 := 0x0145, link1 := 0x0145, division := zeros 32 }

def storedProfile (s : State) (n : Nat) : List Byte := tget [] s.flash.profiles n

/-- The profile that Spring takes: its record, PROF_SRC, and the fallback's tried number and failed field (R71, R73). -/
def selectProfile (s : State) : Profile × Nat × Option (Nat × Nat) :=
  let pins := s.spring.latched.toNat
  let tryN (n : Nat) : Option Profile :=
    if (profileFault s n (storedProfile s n)).isNone then some (readProfile n (storedProfile s n)) else none
  let sel := s.flash.override.getD pins
  match profileFault s sel (storedProfile s sel) with
  | none => (readProfile sel (storedProfile s sel), if s.flash.override.isSome then 1 else 0, none)
  | some f =>
    let viaPins := if s.flash.override.isSome then tryN pins else none
    match viaPins with
    | some p => (p, 0, some (sel, f))
    | none =>
      match tryN 0 with
      | some p => (p, 2, some (sel, f))
      | none => (factoryProfile s, 3, some (sel, f))

/-! ### Firmware slots (R70, R533) -/

/-- Failed check of a slot: 1 header, 2 chain, 3 signature, 4 security version, 5 empty or unbootable. -/
def slotFault (s : State) (x : FwSlot) : Option Nat :=
  if !x.present || x.unbootable then some 5
  else if !x.headerOk then some 1
  else if !x.chainOk then some 2
  else if !x.sigOk then some 3
  else if x.svn < s.flash.fuseSvn then some 4
  else none

def fwSlot (s : State) (b : Bool) : FwSlot := if b then s.flash.slotB else s.flash.slotA

def setFwSlot (s : State) (b : Bool) (x : FwSlot) : State :=
  if b then s.setFlash { s.flash with slotB := x } else s.setFlash { s.flash with slotA := x }

/-- The slot that runs. -/
def bootedSlot (s : State) : FwSlot := fwSlot s s.spring.fwSlot

/-! ### Progress -/

def stepStart (k : Nat) (s : State) : State :=
  s.setSpring { s.spring with started := s.spring.started ++ [k] }

def stepEnd (k : Nat) (s : State) : State :=
  s.setSpring { s.spring with done := s.spring.done ++ [k] }

/-- The check of R67 has ended well. -/
def keyReady (s : State) : Bool := s.spring.keyCheck == .reused || s.spring.keyCheck == .generated

/-- Step 10 starts once steps 7 to 9 and the attestation key check are done; a failed key check stops Spring there. -/
def tryStep10 (s : State) : State :=
  if [7, 8, 9].all s.spring.done.contains && !s.spring.started.contains 10 then
    if s.spring.keyCheck == .failed then springStop 10 5 s
    else if keyReady s then stepStart 10 s
    else s
  else s

/-- The margin plan in force excludes domain `n` (R497). -/
def domExcluded (s : State) (n : Nat) : Bool := (tget (0, 0, 0, 0, false) (planInForce s).domains n).2.2.2.2

/-- Step 6 starts: the optical, die and port-group domains of R32, but for excluded quadrants (log entry 29). -/
def startStep6 (s : State) : State :=
  seqGo true ((powerOrder s).filter fun n => !(bootDomains.contains n || serviceDomains.contains n || domExcluded s n))
    .springStep
    (stepStart 6 s)

/-- Default light plan (R421). -/
def defaultPlan (s : State) : LightPlan :=
  let n := dies s
  { portSrc := (List.range 32).map fun p => if p < ports s then some (p / 4, p % 4) else none
    pkgDst := (List.range 64).map fun i =>
      let d := i / 8
      let h := i % 8
      if d < n then
        let e := if h = d then Nat.xor d (n / 2) else h
        if e < n then some (e, if h = d then e else d) else none
      else none }

/-- R334 at Spring: every BEGIN record without its END receives an END with OUTCOME incomplete. -/
def closeBegins (s : State) : State :=
  let opens := s.flash.journal.filterMap fun e => match e with
    | .begin r j st _ _ => if openBegin s.flash.journal r j st then some (r, j, st) else none
    | _ => none
  opens.reverse.foldl (fun t x =>
    if openBegin t.flash.journal x.1 x.2.1 x.2.2 then
      logFold 0 0x3003 (BitVec.ofNat 8 x.1) x.2.1 0 [x.2.2]
        (journalAdd (Journal.done true x.1 x.2.1 x.2.2 (rtNow t)) t)
    else t) s

/-- R533: the first Spring that boots a newly activated slot advances the fuses. -/
def fuseAdvance (s : State) : State :=
  let x := bootedSlot s
  let s1 := s.setFlash { s.flash with freshSlot := false }
  if s.flash.freshSlot && s.spring.fwSlot == s.flash.activeB && s.flash.fuseSvn < x.svn then
    let s2 := s1.setFlash { s1.flash with fuseSvn := min 64 x.svn }
    let y := fwSlot s2 (!s.spring.fwSlot)
    if y.svn < s2.flash.fuseSvn then setFwSlot s2 (!s.spring.fwSlot) { y with unbootable := true } else s2
  else s1

/-- Ports of the division in force: KIND other than dark. -/
def divPorts (s : State) : List Nat :=
  (List.range 32).filter fun p => (s.fab.division.getD p 0).toNat / 64 != 0

/-- Start a discovery on a set of ports (R409): their outcome is pending. -/
def startDisc (ps : List Nat) (cmd : Option (Nat × Nat × Nat)) (s : State) : State :=
  s.setFab { s.fab with
    ports := ps.foldl (fun t p =>
      let v := (s.fab.division.getD p 0).toNat
      let up := linkUpAt s p
      tset {} t p { (tget {} t p) with out := .pending, kind := v / 64, nbr := v % 16, cause := 0, heard := false,
                                       judged := none, trained := up, light := up, opened := false }) s.fab.ports
    disc := { running := true, ports := ps, startRt := rtNow s, endRt := rtNow s, cmd } }

/-- Step 10 ends: mailbox ready (R74, R334, R498, R533), and step 11 begins. -/
def mailboxReady (s : State) : State :=
  let s1 := fuseAdvance (closeBegins s)
  let s2 := match s1.flash.passAbandoned with
    | some n => (logMod 0x7009 0 [dw n, 1] s1).setFlash { s1.flash with passAbandoned := none }
    | none => s1
  let s3 := (s2.setSteward (some ((s2.prof.map (·.stewardPort)).getD 0))).setPhase .running
  let s4 := s3.setSpring { s3.spring with mbxReady := true, started := s3.spring.started ++ [11] }
  let wake (t : State) (p r : Nat) : State :=
    let x := ring t p r
    if x.latched then setRing t p r { x with latched := false, fetching := x.st == .on } else t
  let s5 := [0, 1].foldl (fun t p => [0, 1, 2, 3].foldl (fun u r => wake u p r) t) s4
  startDisc (divPorts s5) none s5

/-! ### The lock sequencers and the on-package groups (R361, R365) -/

/-- The programs match the digest that the boot ROM passed on (R361): the words of all programs, in order. -/
def seqProgsGood (s : State) (ps : List (List W32)) : Bool :=
  sha512 (ps.flatMap fun p => p.flatMap fun w => leBytes 4 w.toNat) == (bootedSlot s).lseqDigest

/-- Lane positions of on-package group `h` of die `d`, as a receiver or a transmitter, whose rings are locked. -/
def pkgLocked (s : State) (d h : Nat) (rx : Bool) : Nat :=
  maskOf 8 fun p =>
    (tget {} s.opt.ring (224 * d + (if rx then 152 else 40) + 9 * h + p)).st == .locked

/-- Map of logical lanes to positions: Ln on position n where the mask has it, else 0xF. -/
def laneMap (mask : Nat) : W32 :=
  BitVec.ofNat 32 ((List.range 8).foldl (fun m n => m + (if mask.testBit n then n else 15) * 16 ^ n) 0)

/-- Step 9 trains the on-package groups (R365): a group pair with at least 4 positions each way is up. -/
def trainPkg (s : State) : State :=
  match tget none s.fab.plans 0 with
  | none => s
  | some pl => (List.range 64).foldl (fun t i =>
      match pl.pkgDst.getD i none with
      | none => t
      | some (e, g) =>
        let tx := Nat.land (pkgLocked t (i / 8) (i % 8) false) (pkgLocked t e g true)
        let rx := Nat.land (pkgLocked t (i / 8) (i % 8) true) (pkgLocked t e g false)
        let up := 4 ≤ (bitsOf 8 tx).length && 4 ≤ (bitsOf 8 rx).length
        t.setLinks (tmod {} t.links (32 + i) fun x => { x with
          pst := if up then .up else .down
          txSet := BitVec.ofNat 10 tx, rxSet := BitVec.ofNat 10 rx, mapTx := laneMap tx, mapRx := laneMap rx })) s

/-- External filter rings that hold no line go to HOLD (R365). -/
def holdExternal (n : Nat) (t : Tbl OptRing) : Tbl OptRing :=
  (List.range (40 * n)).foldl (fun u i =>
    tmod {} u (224 * (i / 40) + 112 + i % 40) fun (x : OptRing) => if x.st == .off then { x with st := .hold } else x) t

/-! ### Lasers at Spring (R75, R349) -/

/-- How far the lasers have been started: buses fed, lasers that were tried and failed, spares not tried yet, and what took the place
of a failed default laser. -/
structure Lit where
  fed : List (Nat × Nat) := []
  failed : List Nat := []
  spare : List Nat
  swaps : List (Nat × Nat × Option Nat) := []

/-- Try the lasers of a list in turn: those that failed, the first that started, and the rest. -/
def tryLasers (starts : Nat → Bool) : List Nat → List Nat × Option Nat × List Nat
  | [] => ([], none, [])
  | l :: ls => if starts l then ([], some l, ls) else let r := tryLasers starts ls; (l :: r.1, r.2)

/-- Bus `b` takes its default laser, or the first spare that starts, those of the same bank first. -/
def feedBus (starts : Nat → Bool) (a : Lit) (b : Nat) : Lit :=
  let l := busLaser b
  if starts l then { a with fed := a.fed ++ [(b, l)] }
  else
    let r := tryLasers starts ((bankOrder l).filter a.spare.contains)
    { fed := a.fed ++ r.2.1.toList.map fun x => (b, x)
      failed := a.failed ++ l :: r.1
      spare := a.spare.filter r.2.2.contains
      swaps := a.swaps ++ [(b, l, r.2.1)] }

/-- Start up to `n` of the spares left as hot spares: those that started, and those that failed. -/
def hotSpares (starts : Nat → Bool) : Nat → List Nat → List Nat × List Nat
  | 0, _ => ([], [])
  | _, [] => ([], [])
  | n + 1, l :: ls =>
    if starts l then let r := hotSpares starts n ls; (l :: r.1, r.2)
    else let r := hotSpares starts (n + 1) ls; (r.1, l :: r.2)

/-- LASER_SPARED: a spare has taken the bus of a failed laser, or none is left, which 0xF stands for (DEDUCED, log entry 18). -/
def logSpared (b old : Nat) (new : Option Nat) (s : State) : State := logMod 0x4008 (resLaser old) [dw b, dw (new.getD 15)] s

/-- Highest permitted bias of a laser, as the margin plan in force gives it (R385, R499). -/
def biasLimit (s : State) (n : Nat) : Nat := (tget (0, 0, 0) (planInForce s).lasers n).2.1

/-- WORN follows the bias in force: above 90% of LIMIT, and LASER_WORN is logged when it begins (R352). -/
def wornCheck (s : State) (n : Nat) : State :=
  let x := tget {} s.opt.las n
  let worn := x.bias.toNat * 10 > biasLimit s n * 9
  let s1 := s.setOpt { s.opt with las := tset {} s.opt.las n { x with worn } }
  if worn && !x.worn then logMod 0x4009 (resLaser n) [] s1 else s1

/-- The lasers that are lit, checked in turn. -/
def wornAll (s : State) : State :=
  ((s.opt.las.filter fun e => e.2.bus.isSome || e.2.hot).map (·.1)).foldl wornCheck s

/-- The lasers start: default lasers of the present dies, spares for those that fail, and two hot spares. Every lit laser works at the
bias target of the margin plan (R352). `power` and `low` are the mean and lowest line power by bus. -/
def lightUp (started : List Nat) (power low : List Nat) (s : State) : State :=
  let usable (l : Nat) : Bool := domOn s (laserDom l) && !(tget {} s.opt.las l).retired
  let buses := List.range (dies s)
  let starts (l : Nat) : Bool := usable l && started.contains l
  let a := buses.foldl (feedBus starts) { spare := (List.range 10).filter fun l => usable l && !(buses.map busLaser).contains l }
  let h := hotSpares starts 2 a.spare
  let bias (l : Nat) : W16 := BitVec.ofNat 16 (tget (0, 0, 0) (planInForce s).lasers l).1
  let put (t : Tbl Laser) (w : Nat × Nat) : Tbl Laser := tmod {} t w.2 fun (x : Laser) => { x with
    bus := some w.1, bias := bias w.2, mean := BitVec.ofNat 16 (power.getD w.1 0), min := BitVec.ofNat 16 (low.getD w.1 0) }
  let las1 := a.fed.foldl put s.opt.las
  let las2 := h.1.foldl (fun t l => tmod {} t l fun (x : Laser) => { x with hot := true, bias := bias l }) las1
  let las3 := ((a.failed ++ h.2).filter usable).foldl (fun t l => tmod {} t l fun (x : Laser) => { x with failed := true }) las2
  let bus := a.fed.foldl (fun t w => tset 0 t w.1 (power.getD w.1 0)) []
  wornAll <| a.swaps.foldl (fun t w => logSpared w.1 w.2.1 w.2.2 t) (s.setOpt { s.opt with las := las3, bus })

/-! ### The steps (R65) -/

/-- Step 6 loads the core microcode into the cores of every quadrant that is On (R65). -/
def loadUcode (code : List Byte) (s : State) : State :=
  s.setPrg { s.prg with
    ucode := (List.range 32).foldl (fun t q => if domOn s (8 * (q / 4) + q % 4) then tset [] t q code else t) s.prg.ucode }

/-- What one set of spare rows serves: the sliver of a physical core, numbered 25c + k, or 1200 for the hardware region and the
die-shared windows (R283, R291). A row is a line of the die's SRAM window (log entry 12). -/
def repairGroup (row : Nat) : Nat := min 1200 (row / 40960)

/-- One failing row: replaced by a spare row where one is left; else its core is retired, or its die is in Fault (R75, R291). -/
def repairRow (s : State) (x : Nat × Nat) : State :=
  let g := repairGroup x.2
  if s.flash.repairMap.contains x || !domOn s (8 * x.1 + 4) || 0x3000000 ≤ x.2 then s
  else if (s.flash.repairMap.filter fun e => e.1 == x.1 && repairGroup e.2 == g).length < (if g = 1200 then 512 else 32) then
    s.setFlash { s.flash with repairMap := s.flash.repairMap ++ [x] }
  else if g = 1200 then domFault (8 * x.1 + 5) 2 s
  else if s.flash.retired.any fun e => e.1 == coreKey x.1 (g / 25) (g % 25) then s
  else retireCore x.1 (g / 25) (g % 25) 4 s

/-- Step 7 (R291): the rows that the march test finds failing and the rows marked since are repaired, and every line is invalid. -/
def repairRows (rows : List (Nat × Nat)) (s : State) : State :=
  let s1 := (s.flash.rowsMarked ++ rows).foldl repairRow s
  let s2 := s1.setFlash { s1.flash with rowsMarked := s1.flash.rowsMarked.filter fun m => !domOn s (8 * m.1 + 4) }
  ((List.range (dies s)).filter fun d => domOn s (8 * d + 4)).foldl (fun t d =>
    let n := (t.flash.repairMap.filter fun e => e.1 == d).length
    (sramLost d t).setSrm (tmod {} (sramLost d t).srm d fun y =>
      { y with used := BitVec.ofNat 16 n, left := BitVec.ofNat 16 (1200 * 32 + 512 - n) })) s2

/-- What the end of step `k` brings. -/
def springEffect (k : Nat) (i : SpringIn) (s : State) : State :=
  match k with
  | 1 =>
    let s1 := (s.setSpring { s.spring with latched := i.profsel }).setSup
      { s.sup with good := true, pins := { s.sup.pins with profsel := i.profsel } }
    seqGo true [72, 73] .springStep (stepStart 2 (stepEnd 1 (if s.sup.pins.boardTrip then tripStop s1 else s1)))
  | 2 => if !i.selfTest then springStop 2 1 s else stepStart 3 (stepEnd 2 s)
  | 3 =>
    let a := s.flash.activeB
    match slotFault s (fwSlot s a) with
    | none => stepStart 4 (stepEnd 3 (s.setSpring { s.spring with fwSlot := a }))
    | some f =>
      let s1 := logMod 0x6003 0 [dw (b2n a), dw f] s
      if (slotFault s (fwSlot s (!a))).isNone then
        let s2 := setFwSlot s1 a {}
        stepStart 4 (stepEnd 3 (s2.setSpring { s2.spring with fwSlot := !a, fwFallback := true }))
      else springStop 3 4 s
  | 4 =>
    let r := selectProfile s
    let p := r.1
    let k := fresh s
    let s1 := ((k.2.setSec { s.sec with opKey := k.1 }).setProf (some p)).setSpring { s.spring with
      profSrc := BitVec.ofNat 2 r.2.1
      prof := if r.2.1 = 3 then 0 else BitVec.ofNat 2 p.number
      profFallback := r.2.2.isSome, keyCheck := .running }
    let s2 := (s1.setCap { s1.cap with cap := BitVec.ofNat 16 p.cap }).setFab
      { s1.fab with division := p.division, partition := s.flash.partition
                    plan := if s.flash.planPending then none else s.flash.plan }
    let s3 := match r.2.2 with
      | some (n, f) => logMod 0x9004 0 [dw n, dw f] s2
      | none => s2
    seqGo true serviceDomains .springStep (stepStart 5 (stepEnd 4 s3))
  | 5 =>
    let s1 := stepEnd 5 (setCoolant s i.flow0 i.flow1 i.tin0 i.tin1)
    if coolantOk s1 then startStep6 s1
    else logMod 0x8004 0 []
      (s1.setSpring { s1.spring with coolantWait := true })
  | 6 => stepStart 9 (stepStart 8 (stepStart 7 (stepEnd 6 (loadUcode i.ucode s))))
  | 7 =>
    tryStep10 (stepEnd 7 (repairRows i.rows s))
  | 8 => tryStep10 (stepEnd 8 s)
  | 9 =>
    let n := dies s
    let s0 := lightUp i.lasers i.power i.low s
    let lit (k : Nat) : Bool :=
      k / 224 < n && (112 ≤ k % 224 || s0.opt.las.any fun e => e.2.bus == some (k / 224))
    let rings := (i.locked.filter fun w => lit w.1 && w.2 == ringLine (w.1 % 224)).foldl (fun t w =>
      tmod {} t w.1 fun (x : OptRing) => { x with st := .locked, line := w.2 }) s0.opt.ring
    let prg := (List.range 8).foldl (fun t d => tsetRun 0 t (4096 * d) ((i.seqProgs.getD d []).take 4096)) s.prg.seq
    let s1 := (s0.setOpt { s0.opt with ring := rings }).setPrg { s0.prg with seq := prg }
    if !seqProgsGood s i.seqProgs then springStop 9 6 s
    else
      let s2 := (s1.setFab { s1.fab with plans := tset none s1.fab.plans 0 (some (defaultPlan s)), planNo := 0 }).setOpt
        { s1.opt with
          ring := holdExternal n s1.opt.ring
          seq := (List.range 8).foldl (fun t d => tmod {} t d fun (x : Seq) => { x with run := true }) s1.opt.seq }
      tryStep10 (stepEnd 9 (trainPkg s2))
  | 10 => mailboxReady (stepEnd 10 s)
  | _ => s

/-- Some stack of a die whose PD(8d+7) is On is still training or being initialised (R296). -/
def stacksBusy (s : State) : Bool :=
  s.stk.any fun e => (e.2.training || e.2.initializing) && domOn s (8 * (e.1 / 5) + 7)

/-- SPRING_STEP_TIMEOUT (R75): a step of steps 1 to 10 exceeds its bound. -/
def execSpringStepTimeout (k : Nat) (s : State) : Res :=
  if s.phase == .spring && s.spring.started.contains k && !s.spring.done.contains k && k ≤ 10 then
    .next (springStop k 2 (s.setPseq none))
  else .next s

/-- SPRING_COOLANT_RESUME (R66): flows and inlets are within limits, and Spring resumes at step 6. -/
def execSpringCoolantResume (f0 f1 : Nat) (t0 t1 : Int) (s : State) : Res :=
  let s1 := setCoolant s f0 f1 t0 t1
  if s1.spring.coolantWait && coolantOk s1 then
    .next (startStep6 (s1.setSpring { s1.spring with coolantWait := false }))
  else .next s1

/-- ATTEST_KEY_CHECK_DONE (R67): the sealed key is reused when the firmware digest is the recorded one; otherwise a new
key pair is generated, or generation fails. -/
def execAttestKeyCheckDone (generated : Bool) (s : State) : Res :=
  if s.spring.keyCheck != .running || s.phase != .spring || !s.spring.started.contains 5 then .next s
  else
    let dig := (bootedSlot s).cpDigest
    if s.flash.akDigest = some dig then
      .next (tryStep10 (s.setSpring { s.spring with keyCheck := .reused }))
    else if generated then
      let s1 := s.setFlash { s.flash with akDigest := some dig, akNo := s.flash.akNo + 1 }
      .next (tryStep10 (s1.setSpring { s1.spring with keyCheck := .generated, newAk := true }))
    else .next (tryStep10 (s.setSpring { s.spring with keyCheck := .failed }))

/-! ### Domain transitions (R34) -/

/-- What a domain's arrival at On brings (R63, R75, R289, R296, R389, R488). -/
def domUp (n : Nat) (s : State) : State :=
  let s1 := setDom s n { st := .on }
  if n < 64 then
    match n % 8 with
    | 7 => s1.setStk ([0, 1, 2, 3, 4].foldl (fun t k =>
        tset {} t (5 * (n / 8) + k) { training := true }) s1.stk)
    | 4 => sramLost (n / 8) s1
    | 5 | 6 => s1
    | q => quadRetired (n / 8) q s1
  else match n with
    | 74 => if s1.fn0.perstLow then s1 else s1.setFn0 { s1.fn0 with training := true }
    | 75 => if s1.fn1.perstLow then s1 else s1.setFn1 { s1.fn1 with training := true }
    | 77 => s1.setRtb {}
    | _ => s1

/-- DOMAIN_TRANSITION_DONE (R34): the domain's Enabling or Disabling completes, and the sequence goes on. -/
def execDomainTransitionDone (n : Nat) (s : State) : Res :=
  let st := (dom s n).st
  if !domPresent s n || !(st == .enabling || st == .disabling) then .next s
  else
    let s1 := if st == .enabling then domUp n s else domOff n s
    match s1.pseq with
    | none => .next s1
    | some q =>
      if q.todo.head? = some n then .next (seqRun q (q.todo.drop 1) s1) else .next s1

/-- LPX_INIT_DONE (R296, R297): training, the 0xA5 pattern and unassignment of die `d` complete. Channels that failed
their retraining pass, or whose retirement is armed, are retired as the die's map is formed; CHANNEL_FAILING with cause 4 reports
the former (R76; DEDUCED, log entry 94). `failed` holds channel numbers q = 0 to 79 of the die. -/
def execLpxInitDone (d : Nat) (found : TrainIn) (s : State) : Res :=
  if !domOn s (8 * d + 7) || !((List.range 5).any fun k => (stack s (5 * d + k)).training || (stack s (5 * d + k)).initializing) then .next s
  else
    let retire := (List.range 80).filter fun q =>
      found.failed.contains q || tget .present s.flash.chans (80 * d + q) == .armed
        || tget .present s.flash.chans (80 * d + q) == .retired
    let s1 := s.setFlash { s.flash with
      chans := retire.foldl (fun t q => tset .present t (80 * d + q) .retired) s.flash.chans }
    let s2 := s1.setStk ([0, 1, 2, 3, 4].foldl (fun t k =>
      tset {} t (5 * d + k) { (tget {} t (5 * d + k)) with
        training := false, initializing := false, alsoFailing := []
        margins := found.margins.foldl (fun u q => if q.1 / 16 = k then tset [] u (q.1 % 16) q.2 else u) []
        chans := retire.foldl (fun u q => if q / 16 = k then tset .present u (q % 16) .retired else u) [] }) s1.stk)
    let lost := retire.filter fun q => tget .present s.flash.chans (80 * d + q) == .present
    .next (lost.foldl (fun t q => logMod 0x2006 (resChan (5 * d + q / 16) (q % 16)) [4] t) (lpxLost d s2))

end Sys2Proof.Machine
end

