-- ==== Sys2Proof/Machine/Regs.lean ====
section
/-! DEFINITION. Writing registers and the life of blocks (R81 to R84, R88 to R104). -/

namespace Sys2Proof.Machine

open Sys2Proof

/-! ### Requesters and permissions (R89, R473). Requester 0 is the CP, 1 PCIE0, 2 PCIE1. -/

/-- BAR_DENIED: records of one requester within 1 ms are folded (R89). -/
def barDenied (who off : Nat) (s : State) : State := logFold ticksMs 0x9006 0xFF 0xFFFF (resFn (who - 1)) [dw off] s

/-- OFFDOM_ACCESS: accesses to one domain within 1 ms are folded (R97). -/
def offdom (d off : Nat) (s : State) : State := logFold ticksMs 0x9003 0xFF 0xFFFF (resDom d) [dw off] s

/-- A privileged change that SEC does not apply: SEC_DENY counts it and ATTEST_FAIL is logged (R18, R480). -/
def secRefuse (s : State) : State :=
  logMod 0x6002 0 [] (s.setSec { s.sec with deny := inc32 s.sec.deny 1 })

/-- A write of the CP that SEC does not apply, because SEC is not On; SEC's own registers are the exception, or the CP could
never enable it (R18; DEDUCED, log entry 8). -/
def cpBarred (s : State) (who : Nat) (f : Frame0) : Bool := who == 0 && f.code != 0x19 && !blkOn s baseSEC

/-- WRITE_IGNORED. -/
def writeIgnored (who off : Nat) (s : State) : State := logMod 0x9002 0 [dw off, dw who] s

/-- Grant bit of DEBUG_ENTER that a write of block code `c` needs; none for a block never writable (R473). -/
def grantBit (c : Nat) : Option Nat :=
  if c ∈ [0x12, 0x13, 0x0E, 0x0F, 0x10, 0x11, 0x08, 0x0D] then some 1
  else if c ∈ [0x0B, 0x0C, 0x0A] then some 2
  else if c ∈ [0x14, 0x15, 0x16, 0x17, 0x18, 0x09] then some 3
  else if c ∈ [0x04, 0x05, 0x06, 0x07, 0x02] then some 4
  else none

/-- The debug session grants a write of block `c` to requester `who`. -/
def debugWrite (s : State) (who c : Nat) : Bool :=
  s.sec.dbgOpen && isSteward s (who - 1) && (match grantBit c with | some b => bit s.sec.grant b | none => false)

/-- The offset is the RWB register of its frame. -/
def isRwb (f : Frame0) (off : Nat) : Bool := (rwbReset f.code).isSome && off == f.base + 0x20

/-- R89 for a write. The CP is not a host. -/
def mayWrite (s : State) (who : Nat) (f : Frame0) (off : Nat) : Bool :=
  who == 0 || debugWrite s who f.code
    || (isSteward s (who - 1) && compat s && !tenantOpen s && (isRwb f off || off == 0x30))

/-- A host requester's link is up; the CP always reaches its registers while it runs. -/
def whoUp (s : State) (who : Nat) : Bool :=
  if who = 0 then domOn s 72 && !s.rel.held && !s.rel.restarting else (fn s (who - 1)).linkUp

/-! ### Ignored writes (R92) -/

/-- A write to an RW field of a block that is not Off. -/
def wrigBlk (who off b : Nat) (x : Blk) (s : State) : State :=
  if x.wrig then setBlk s b { x with wrigCount := BitVec.ofNat 4 (satAdd 15 x.wrigCount.toNat 1) }
  else writeIgnored who off (setBlk s b { x with
    wrig := true, wrigCount := 1, wrigSrc := BitVec.ofNat 2 who, wrigAddr := BitVec.ofNat 26 off })

/-! ### What a block loses at Off (R208 and the counter rules of each chapter) -/

def blkOffReset (f : Frame0) (s : State) : State :=
  let d := f.die
  match f.code with
  | 0x02 => s.setRtb { s.rtb with slips := 0, losses := 0 }
  | 0x03 => s.setMgt { s.mgt with rx := 0, err := 0, dropped := 0 }
  | 0x04 => s.setThm { s.thm with trips := 0 }
  | 0x06 => s.setRel { s.rel with sampled := 0, skipped := 0, mismatch := 0 }
  | 0x08 => s.setDsc (tmod {} s.dsc d fun x => { x with eqxCount := 0, lateCount := 0, doneA := 0, doneB := 0 })
  | 0x09 => s.setFab { s.fab with cnt := tmod {} s.fab.cnt d fun x => { x with counts := [] } }
  | 0x0A => s.setFab { s.fab with cnt := tmod {} s.fab.cnt d fun x => { x with dfb := [] } }
  | 0x0B => s.setSrm (tmod {} s.srm d fun x => { x with corr := 0, unc := 0 })
  | 0x0C => s.setStk (tmod {} s.stk f.inst fun x => { x with corr := 0, unc := 0 })
  | 0x0E => s.setCmp { s.cmp with dma := tclear s.cmp.dma (2 * cluKey d f.inst) 2 }
  | 0x0F => (s.setCmp { s.cmp with ve := tclear s.cmp.ve (2 * cluKey d f.inst) 2 }).setPrg
      { s.prg with gone := tset none (tset none s.prg.gone (2 * ctxKey d f.inst 0) (some [])) (2 * ctxKey d f.inst 1) (some []) }
  | 0x10 =>
    let t := cccReport d f.inst 0 .faulted (cccReport d f.inst 1 .faulted s)
    (t.setCmp { t.cmp with ccc := tclear t.cmp.ccc (2 * cluKey d f.inst) 2 }).setPrg
      { t.prg with
        gone := tset none (tset none t.prg.gone (2 * ctxKey d f.inst 0 + 1) (some [])) (2 * ctxKey d f.inst 1 + 1) (some []) }
  | 0x11 => s.setCmp { s.cmp with wat := tclear s.cmp.wat (512 * cluKey d f.inst) 512
                                  watTot := tclear s.cmp.watTot (6 * cluKey d f.inst) 6 }
  | 0x12 => setCore s d f.inst f.sub { flushCore (core s d f.inst f.sub) with counts := [] }
  | 0x17 => s.setLinks (tmod {} s.links f.inst fun x => { x with replays := 0, drops := 0 })
  | 0x18 => s.setLinks (tmod {} s.links f.inst fun x => { x with cwCorr := 0, cwUnc := 0, sym := [] })
  | 0x19 => s.setSec { s.sec with deny := 0 }
  | 0x1A => s.setSec { s.sec with reports := 0 }
  | _ => s

/-- The blocks that make a cluster usable (R248). -/
def clusterBlock (c : Nat) : Bool := 0x0E ≤ c && c ≤ 0x11

/-- When a block of a mapped cluster is no longer On, the step is aborted (R248). -/
def blkLeftOn (f : Frame0) (s : State) : State :=
  let s1 := clusterBlockDown f.code f.die f.inst f.sub false s
  if clusterBlock f.code then abortWhere (fun j => jobUsesCluster j f.die f.inst) s1 else s1

/-! ### BLK_CTL (R81 to R83) -/

/-- The state table of R83 for a write of EN. -/
def enWrite (en : Bool) (x : Blk) : Blk :=
  match x.st, en with
  | .off, true => { x with st := .enabling, en := true }
  | .off, false => x
  | .enabling, e => { x with en := e }
  | .on, true => x
  | .on, false => { x with st := .disabling, en := false }
  | .disabling, true => { x with en := true, enPend := true }
  | .disabling, false => { x with en := false, enPend := false }
  | .fault, false => { x with st := .disabling, en := false }
  | .fault, true => x

/-- A write of BLK_CTL that has reached the block: EN acts in every state; SKIP_EN of CORE_CTL only at Off. -/
def blkCtl (who off : Nat) (v : W32) (f : Frame0) (s : State) : State :=
  let x := blk s f.base
  let skip := bit v 1
  let s1 :=
    if f.code = 0x12 then
      let c := core s f.die f.inst f.sub
      if x.st == .off then
        setCore s f.die f.inst f.sub { c with skipEn := skip, skipRecord := if who = 0 then skip else c.skipRecord }
      else if skip != c.skipEn then wrigBlk who off f.base x s
      else s
    else s
  let y := enWrite (bit v 0) (blk s1 f.base)
  let s2 := setBlk s1 f.base y
  if x.st == .on && y.st != .on then blkLeftOn f s2 else s2

/-- A write that has passed R89 and R98 reaches a block whose domain is On, or raises OFFDOM_ACCESS (R97). -/
def inDomain (f : Frame0) (off : Nat) (act : State → State) (s : State) : State :=
  if frameAbsent s f then s
  else if domOn s f.dom then act s
  else offdom f.dom off s

/-- BLK_CTL_WRITE (R83). -/
def execBlkCtlWrite (who off : Nat) (v : W32) (s : State) : Res :=
  match frameAt off with
  | none => .next s
  | some f =>
    if off != f.base || !whoUp s who then .next s
    else if !mayWrite s who f off then .next (barDenied who off s)
    else if cpBarred s who f then .next (secRefuse s)
    else .next (inDomain f off (blkCtl who off v f) s)

/-- Shadows of a block take their live values (R102). -/
def shadowsLive (f : Frame0) (s : State) : State :=
  if (rwbReset f.code).isSome then
    let r := rwbOf s f.base f.code
    setRwbOf s f.base f.code { r with shadow := r.live }
  else s

/-- Shadows of a block become live (R104). -/
def shadowsApply (f : Frame0) (s : State) : State :=
  if (rwbReset f.code).isSome then
    let r := rwbOf s f.base f.code
    setRwbOf s f.base f.code { r with live := r.shadow, record := r.shadow }
  else s

/-- The block has finished everything that it accepted while On (R84). Blocks not named here hold no work that takes time. -/
def drained (f : Frame0) (s : State) : Bool :=
  let d := f.die
  let c := f.inst
  match f.code with
  | 0x06 => s.rel.checks.isEmpty
  | 0x09 => s.fab.runs.all fun r => r.die != d
  | 0x0E => [0, 1].all fun sl => (dma s d c sl).q0.isEmpty && (dma s d c sl).q1.isEmpty
  | 0x0F => [0, 1].all fun sl => !(ve s d c sl).run
  | 0x10 => [0, 1].all fun sl => (ccc s d c sl).task.isNone
  | 0x12 =>
    let x := core s d c f.sub
    x.task.isNone && x.pendTask.isNone && !x.checking
  | 0x13 => (core s d c f.sub).queue.isEmpty
  | _ => true

/-- Configuration registers and shadows of a block take their reset values (R100). -/
def cfgReset (f : Frame0) (s : State) : State :=
  let s1 := match rwbReset f.code with
    | some (r, _) => setRwbOf s f.base f.code { rwbOf s f.base f.code with live := r, shadow := r }
    | none => s
  if f.code = 0x12 then setCore s1 f.die f.inst f.sub { core s1 f.die f.inst f.sub with skipEn := true } else s1

/-- The CP rewrites the configuration of a block from its record (R100). -/
def cfgRewrite (f : Frame0) (s : State) : State :=
  let s1 := if (rwbReset f.code).isSome then
      let r := rwbOf s f.base f.code
      setRwbOf s f.base f.code { r with live := r.record, shadow := r.record }
    else s
  if f.code = 0x12 then
    let x := core s1 f.die f.inst f.sub
    setCore s1 f.die f.inst f.sub { x with skipEn := x.skipRecord }
  else s1

/-- A block's Disabling is over (R83, R84, R100, R102). -/
def blkDisableDone (off : Nat) (s : State) : Res :=
  match frameAt off with
  | none => .next s
  | some f =>
    let x := blk s f.base
    if off != f.base || !domOn s f.dom || x.st != .disabling || !drained f s then .next s
    else
      let s1 := if x.updPend then shadowsApply f s else s
      let s2 := shadowsLive f (blkOffReset f s1)
      if x.recovering then
        let y : Blk := { parity := x.parity, recovering := true }
        .next (setBlk (cfgReset f s2) f.base (if x.enPend then { y with st := .enabling, en := true } else y))
      else if x.enPend then .next (setBlk s2 f.base { st := .enabling, en := true, parity := x.parity })
      else .next (setBlk s2 f.base { parity := x.parity })

/-- A block's Enabling is over (R83, R104). -/
def blkEnableDone (off : Nat) (s : State) : Res :=
  match frameAt off with
  | none => .next s
  | some f =>
    let x := blk s f.base
    if off != f.base || x.st != .enabling || !domOn s f.dom then .next s
    else
      let s1 := if x.updPend && x.en then shadowsApply f s else s
      let s2 := if f.code = 0x16 then seqStart f.inst s1 else s1
      if x.en then .next (setBlk s2 f.base { x with st := .on, updPend := false })
      else .next (setBlk s1 f.base { x with st := .disabling })

/-! ### Configuration parity (R99, R100, R492) -/

/-- BLK_ID of a frame (R87). -/
def blkId (f : Frame0) : W32 := BitVec.ofNat 32 (f.code <<< 24 + f.die <<< 16 + f.inst <<< 8 + f.sub)

/-- Steps that depend on a block (R99): those that use its cluster or its die. -/
def abortDependents (f : Frame0) (s : State) : State :=
  if f.die = 0xFF then s
  else if f.code ≥ 0x0E then abortWhere (fun j => jobUsesCluster j f.die f.inst) s
  else abortDie f.die s

/-- A mismatch puts the block in Fault; a second one within 24 h leaves it there (R100). A shadow that was pending is lost. -/
def parityFault (f : Frame0) (off : Nat) (s : State) : State :=
  let x := blk s f.base
  let rt := rtNow s
  let recent := x.dead || x.parity.any fun t => rt.toNat - t.toNat < ticksDay
  let y := { x with st := .fault, parity := rt :: x.parity, recovering := !recent, dead := recent, enPend := false
                    updPend := false }
  let s1 := logMod 0x9001 0 [dw (blkId f).toNat, dw off] (setBlk s f.base y)
  let s2 := if x.st == .fault then s1
    else noteAborts 0x9001 s (abortDependents f (clusterBlockDown f.code f.die f.inst f.sub true s1))
  if recent && (f.code == 0x12 || f.code == 0x13) then markCore (coreKey f.die f.inst f.sub) 2 s2 else s2

/-- CFG_PARITY_RECOVERY (R18, R100): at Off, the CP rewrites the configuration from its record and sets EN. -/
def execCfgParityRecovery (off : Nat) (s : State) : Res :=
  match frameAt off with
  | none => .next s
  | some f =>
    let x := blk s f.base
    if off != f.base || !x.recovering || x.st != .off || !domOn s f.dom || s.rel.restarting || s.rel.held then .next s
    else if cpBarred s 0 f then .next (secRefuse s)
    else .next (setBlk (cfgRewrite f s) f.base { x with st := .enabling, en := true, recovering := false })

/-! ### RWB fields and GLB_UPDATE (R102 to R104) -/

/-- A write to an RWB register in compatibility mode, by the block's state (R102). -/
def rwbCompat (who off : Nat) (v : W32) (f : Frame0) (s : State) : State :=
  match rwbReset f.code with
  | none => s
  | some (_, mask) =>
    let w := v &&& mask
    let r := rwbOf s f.base f.code
    match (blk s f.base).st with
    | .off => setRwbOf s f.base f.code { live := w, shadow := w, record := w }
    | .fault => writeIgnored who off s
    | _ => setRwbOf s f.base f.code { r with shadow := w }

/-- Outside compatibility mode an RWB field behaves as RW (R90). -/
def rwbNative (who off : Nat) (v : W32) (f : Frame0) (s : State) : State :=
  match rwbReset f.code with
  | none => s
  | some (_, mask) =>
    let x := blk s f.base
    if x.st == .off then
      let w := v &&& mask
      setRwbOf s f.base f.code
        { live := w, shadow := w, record := if who = 0 then w else (rwbOf s f.base f.code).record }
    else wrigBlk who off f.base x s

/-- RWB_WRITE (R102). -/
def execRwbWrite (who off : Nat) (v : W32) (s : State) : Res :=
  match frameAt off with
  | none => .next s
  | some f =>
    if !isRwb f off || !whoUp s who then .next s
    else if !mayWrite s who f off then .next (barDenied who off s)
    else if cpBarred s who f then .next (secRefuse s)
    else .next (inDomain f off (fun t => if compat t then rwbCompat who off v f t else rwbNative who off v f t) s)

/-- The frames that GLB_UPDATE names (R103). -/
def updFrames (s : State) (v : W32) : List Nat :=
  (if bit v 4 then [baseMNT] else []) ++ (if bit v 3 then [baseTHM] else []) ++ (if bit v 2 then [baseAGE] else [])
    ++ (if bit v 1 then [baseSNT] else [])
    ++ if bit v 0 then (List.range (dies s)).flatMap fun d =>
        if bit v (8 + d) then (List.range 48).map (baseWAT d) else []
      else []

/-- One named block takes its shadows, or notes that it will (R104). -/
def updOne (s : State) (b : Nat) : State :=
  match frameAt b with
  | none => s
  | some f =>
    let x := blk s f.base
    match x.st with
    | .on => shadowsApply f s
    | .enabling => setBlk s f.base { x with updPend := true }
    | .disabling => setBlk s f.base { x with updPend := true }
    | _ => s

/-- GLB_UPDATE (R104). -/
def execGlbUpdate (who : Nat) (v : W32) (s : State) : Res :=
  if !whoUp s who then .next s
  else
    match frameAt 0x30 with
    | none => .next s
    | some f =>
      if who != 0 && !(isSteward s (who - 1) && compat s && !tenantOpen s) then .next (barDenied who 0x30 s)
      else if cpBarred s who f then .next (secRefuse s)
      else .next (inDomain f 0x30 (fun t =>
        if !compat t then writeIgnored who 0x30 t
        else if (blk t f.base).st != .on then writeIgnored who 0x30 t
        else (updFrames t v).foldl updOne t) s)

/-! ### Other registers (R88, R90, R116) -/

/-- A ring's ignored write (R117). -/
def wrigRing (p r off : Nat) (x : Ring) (s : State) : State :=
  if x.wrig then setRing s p r { x with wrigCount := BitVec.ofNat 4 (satAdd 15 x.wrigCount.toNat 1) }
  else writeIgnored (p + 1) off (setRing s p r { x with
    wrig := true, wrigCount := 1, wrigSrc := BitVec.ofNat 2 (p + 1), wrigAddr := BitVec.ofNat 26 off })

/-- Replace the low 32 (`hi = false`) or high bits of a ring base, kept as bits [63:12]. -/
def baseWrite (hi : Bool) (v : W32) (b : BitVec 52) : BitVec 52 :=
  if hi then BitVec.ofNat 52 (b.toNat % 2 ^ 20 + v.toNat * 2 ^ 20)
  else BitVec.ofNat 52 (b.toNat / 2 ^ 20 * 2 ^ 20 + v.toNat / 4096)

/-- BAR4 (R110, R116): ring bases and the MSI-X table. -/
def bar4Write (p off : Nat) (v : W32) (s : State) : State :=
  if off < 0x4000 then
    let r := off / 0x1000
    let x := ring s p r
    let o := off % 0x1000
    if o ∈ [0x10, 0x14, 0x18, 0x1C] then
      if x.st == .off then
        if o = 0x10 then setRing s p r { x with descBase := baseWrite false v x.descBase }
        else if o = 0x14 then setRing s p r { x with descBase := baseWrite true v x.descBase }
        else if o = 0x18 then setRing s p r { x with cplBase := baseWrite false v x.cplBase }
        else setRing s p r { x with cplBase := baseWrite true v x.cplBase }
      else wrigRing p r off x s
    else s
  else if 0x80000 ≤ off ∧ off < 0x80080 then
    let k := (off - 0x80000) / 16
    let f := fn s p
    let e := tget (0, 0, true) f.msix k
    let e' : W64 × W32 × Bool := match off % 16 / 4 with
      | 0 => (BitVec.ofNat 64 (e.1.toNat / 2 ^ 32 * 2 ^ 32 + v.toNat), e.2.1, e.2.2)
      | 1 => (BitVec.ofNat 64 (e.1.toNat % 2 ^ 32 + v.toNat * 2 ^ 32), e.2.1, e.2.2)
      | 2 => (e.1, v, e.2.2)
      | _ => (e.1, e.2.1, bit v 0)
    let s1 := setFn s p { f with msix := tset (0, 0, true) f.msix k e' }
    if bit f.pba k && !e'.2.2 then
      emit (.msix p k) (setFn s1 p { fn s1 p with pba := f.pba &&& BitVec.ofNat 8 (255 - 2 ^ k) })
    else s1
  else s

/-- REGISTER_WRITE (R90): a write to a register with no row of its own. `whole` is false when a byte enable is clear
(R88). Fields of type RO and RS take no effect; an RWB field outside compatibility mode behaves as RW. -/
def execRegisterWrite (who bar off : Nat) (v : W32) (whole : Bool) (s : State) : Res :=
  if !whoUp s who then .next s
  else if bar = 4 then
    if who = 0 then .next s
    else if !whole then .next (writeIgnored who off s)
    else .next (bar4Write (who - 1) off v s)
  else
    match regAt off with
    | none => .next s
    | some f =>
      if !mayWrite s who f off then .next (barDenied who off s)
      else if cpBarred s who f then .next (secRefuse s)
      else if !whole then .next (inDomain f off (writeIgnored who off) s)
      else .next (inDomain f off (fun t =>
        if isRwb f off then (if compat t then rwbCompat who off v f t else rwbNative who off v f t) else t) s)

end Sys2Proof.Machine
end

