-- ==== Sys2Proof/Machine/Mailbox.lean ====
section
/-! DEFINITION. Serving mailbox commands (R105 to R129): the order of the checks, the rings, the PCIe links, the
handover of stewardship, and the module commands of R130. -/

namespace Sys2Proof.Machine

open Sys2Proof

/-! ### Serving a command -/

/-- What the tables of R130 to R137 give every command. -/
structure CmdSpec where
  op : Nat
  /-- Rings column (R128). -/
  o : Bool := false
  s : Bool := false
  m : Bool := false
  t : Bool := false
  /-- The S entry of the row holds only with FORCE. -/
  sForce : Bool := false
  /-- Arguments that the row names, as a mask. -/
  args : Nat := 0
  /-- The row names RT_AT. -/
  rt : Bool := false
  /-- The command makes a privileged change, which SEC applies (R468, R480). -/
  sec : Bool := false
  /-- Commands of an Open realm's ring (R448). -/
  inOpen : Bool := false
  /-- The command of a Closed realm's ring (R448). -/
  inClosed : Bool := false
  /-- Served while Spring step 11 runs (R68). -/
  early : Bool := true
  /-- DENIED that the command's own rules give, with its DETAIL. -/
  deny : InFlight → State → Option Nat := fun _ _ => none
  /-- What SEC checks before it applies the change (R468). -/
  secOk : InFlight → State → Bool := fun _ _ => true

def argOf (d : Desc) (k : Nat) : W64 :=
  match k with | 0 => d.a0 | 1 => d.a1 | 2 => d.a2 | 3 => d.a3 | 4 => d.a4 | _ => d.a5

/-- The realm of a ring (R115). -/
def ringRealm (r : Nat) : Nat := if r = 1 ∨ r = 2 then r else 0

def forced (d : Desc) : Bool := bit d.flags 0
def sealed (d : Desc) : Bool := bit d.flags 3

/-- R128: the detail code of DENIED, if the ring, the role or the realm does not permit the command. -/
def denyDetail (k : CmdSpec) (p r : Nat) (e : InFlight) (s : State) : Option Nat :=
  if r = 0 then
    if k.o then none
    else if k.s && (!k.sForce || forced e.desc) then (if e.steward then none else some 2)
    else some 1
  else if r = 3 then if k.t then none else some 1
  else if !k.m then some 1
  else if e.desc.realm.toNat ≠ r then some 3
  else match (realmOf s r).owner with
    | some q => if q = p then none else some 3
    | none => none

/-- The generic part of BAD_ARG (R118, R128, R16), REALM, FLAGS, reserved bytes and RT_AT before the arguments (log entry 11). -/
def badField (k : CmdSpec) (r : Nat) (e : InFlight) : Option Nat :=
  let d := e.desc
  if (r = 0 ∨ r = 3) ∧ d.realm ≠ 0 then some 0x20
  else if fld d.flags 4 3 ≠ 0 then some 0x21
  else if d.rsvd ≠ 0 then some 0x22
  else if d.rtAt ≠ 0 ∧ (!k.rt || d.rtAt.toNat < e.rt.toNat + tick2ms) then some 0x10
  else (List.range 6).find? fun i => !k.args.testBit i && argOf d i != 0

/-- A command that names an RT instant is refused (R389, R391). -/
def rtRefused (s : State) : Bool := !s.rtb.valid || s.rtb.syncBad

/-- WRONG_STATE that holds for every command (R68, R79, R389, R448). -/
def wrongPhase (k : CmdSpec) (r : Nat) (e : InFlight) (s : State) : Bool :=
  s.phase == .shutting || (k.rt && e.desc.rtAt != 0 && rtRefused s) || (!k.early && !s.spring.discDone)
    || ((r == 1 || r == 2) && (match (realmOf s r).st with
        | .closed => !k.inClosed
        | .opened => !k.inOpen
        | _ => false))

/-- The first entry of a ring that has not been started. -/
def firstWaiting : List InFlight → Option InFlight
  | [] => none
  | e :: es => if e.started then firstWaiting es else some e

/-- R122: the next entry of a ring may start now: one with FENCE waits for every earlier command to complete. As commands start
in ring order, no later one starts before it. -/
def fenceOpen (l : List InFlight) (e : InFlight) : Bool := !bit e.desc.flags 1 || l.head? == some e

/-- The entry that a command row serves, if the ring's next command is that one. -/
def nextCmd (c : Cmd) (s : State) : Option InFlight :=
  if !mbxServed s || 2 ≤ c.port || 4 ≤ c.ring then none
  else
    let l := (ring s c.port c.ring).inflight
    match firstWaiting l with
    | some e => if e.desc = c.desc ∧ fenceOpen l e then some e else none
    | none => none

/-- Replace the entry of `e`'s fetch number. -/
def putEntry (p r : Nat) (e e' : InFlight) (s : State) : State :=
  let x := ring s p r
  setRing s p r { x with inflight := x.inflight.map fun y => if y.no = e.no then e' else y }

/-- The outcome of the checks that stand before BUSY in R126; none when the command goes on. -/
def turnAway (k : CmdSpec) (bad : InFlight → State → Option Result) (winter : InFlight → State → Bool)
    (wrong : InFlight → State → Bool) (p r : Nat) (e : InFlight) (s : State) : Option Result :=
  match denyDetail k p r e s with
  | some d => some (failWith stDenied d)
  | none => match k.deny e s with
  | some d => some (failWith stDenied d)
  | none =>
    if k.sec && (!blkOn s baseSEC || !k.secOk e s) then some (failWith stDenied 4)
    else if ((r == 1 || r == 2) && (realmOf s r).st == .winter) || winter e s then some (failWith stWinter 0)
    else match badField k r e with
      | some d => some (failWith stBadArg d)
      | none =>
        match bad e s with
        | some x => some x
        | none => if wrongPhase k r e s || wrong e s then some (failWith stWrongState 0) else none

/-- How a command ends whose host memory cannot be read, or whose host has gone (R107, R114). -/
def failsWith (e : InFlight) : Result := failWith stAborted (e.fails.getD 0)

/-- One mailbox command: the checks in the order of R126, then its body. A body that answers no result leaves the
command in progress, and COMMAND_COMPLETE writes its completion later. A command whose execution fails (`fails`) is still
turned away by the checks, by BUSY and by CONFLICT; else it ends with ABORTED and none of its effect. -/
def runCmd (k : CmdSpec) (c : Cmd) (bad : InFlight → State → Option Result) (winter : InFlight → State → Bool)
    (wrong : InFlight → State → Bool) (body : InFlight → State → State × Option Result) (s : State) : Res :=
  match nextCmd c s with
  | none => .next s
  | some e =>
    if e.desc.opcode.toNat ≠ k.op then .next s
    else
      match turnAway k bad winter wrong c.port c.ring e s with
      | some x =>
        let s1 := if x = failWith stDenied 4 then secRefuse s else s
        .next (endCmd c.port c.ring e x s1)
      | none =>
        let e' := { e with started := true }
        let t := putEntry c.port c.ring e e' s
        let o := body e' t
        match e.fails, o.2 with
        | none, none => .next o.1
        | none, some x => .next (endCmd c.port c.ring e' x o.1)
        | some _, some x =>
          if x.status = stBusy ∨ x.status = stConflict then .next (endCmd c.port c.ring e' x o.1)
          else .next (endCmd c.port c.ring e' (failsWith e) t)
        | some _, none => .next (endCmd c.port c.ring e' (failsWith e) t)

/-- No check of that kind. -/
def noBad (_ : InFlight) (_ : State) : Option Result := none
def noFlag (_ : InFlight) (_ : State) : Bool := false

/-- A check of a record that the command reads from host memory: it finds nothing where the read has failed. -/
def ifRead (e : InFlight) (x : Option Result) : Option Result := if e.fails.isSome then none else x

/-- A BAD_ARG when the condition holds. -/
def badWhen (c : Bool) (d : Nat) : Option Result := if c then some (failWith stBadArg d) else none

/-- The first of several outcomes. -/
def firstOf : List (Option Result) → Option Result
  | [] => none
  | some x :: _ => some x
  | none :: l => firstOf l

/-- R129: a host buffer of at least `need` bytes, its address in argument `k`, its length in the next one. -/
def badBuf (d : Desc) (k need : Nat) : Option Result :=
  if (argOf d k).toNat % 64 ≠ 0 then some (failWith stBadArg k)
  else if (argOf d (k + 1)).toNat % 64 ≠ 0 then some (failWith stBadArg (k + 1))
  else if (argOf d (k + 1)).toNat < need then
    some { status := stBadArg, detail := BitVec.ofNat 16 (k + 1), rv0 := BitVec.ofNat 64 need }
  else none

/-- R129: a record of a fixed size that the device reads. -/
def badRec (d : Desc) (k size : Nat) : Option Result :=
  if (argOf d k).toNat % 64 ≠ 0 then some (failWith stBadArg k)
  else if (argOf d (k + 1)).toNat ≠ size then some (failWith stBadArg (k + 1))
  else none

/-- Write the data of a command into its host buffer at argument `k`; nothing reaches a host whose link is down. -/
def intoBuf (c : Cmd) (k : Nat) (data : List Byte) (s : State) : State :=
  if !(fn s c.port).linkUp then s else emit (.hostWrite c.port (argOf c.desc k) data) s

/-- UNDEFINED_OPCODE_COMMAND (R126): opcodes of the tables of R130 to R137. -/
def knownOps : List Nat :=
  [0x0101, 0x0102, 0x0103, 0x0104, 0x0105, 0x0106, 0x0107,
   0x0201, 0x0202, 0x0203, 0x0204, 0x0205, 0x0206, 0x0207, 0x0208, 0x0209,
   0x0301, 0x0302, 0x0303, 0x0304, 0x0305, 0x0306,
   0x0401, 0x0402, 0x0403, 0x0404, 0x0405, 0x0406,
   0x0501, 0x0502, 0x0503, 0x0504, 0x0505,
   0x0601, 0x0602, 0x0603, 0x0604, 0x0605,
   0x0701, 0x0702, 0x0703, 0x0704, 0x0705,
   0x0801, 0x0802, 0x0803, 0x0804]

def execUndefinedOpcodeCommand (c : Cmd) (s : State) : Res :=
  match nextCmd c s with
  | none => .next s
  | some e =>
    if knownOps.contains e.desc.opcode.toNat then .next s
    else .next (endCmd c.port c.ring e (failWith stBadOpcode 0) s)

/-! ### Rings (R117, R120) -/

/-- Causes of ring Fault at EN, lowest first (R117). -/
def ringCause (x : Ring) : Option Nat :=
  if x.descBase = 0 then some 1
  else if x.cplBase = 0 then some 2
  else if x.entries.toNat < 4 ∨ 12 < x.entries.toNat then some 3
  else none

/-- A ring leaves Off: Enabling, or Fault when a cause holds. -/
def ringEnable (p r : Nat) (x : Ring) (s : State) : State :=
  let y := { x with en := true, enPend := false, fetched := 0, fetchNo := 0, cplNo := 0, fetching := false
                    rekick := false }
  match ringCause y with
  | none => setRing s p r { y with st := .enabling }
  | some k => ringFault p r [dw k] (setRing s p r y)

/-- A ring enters Disabling: fetching stops, and commands in progress complete unwritten (R117). -/
def ringDisable (p r : Nat) (x : Ring) (s : State) : State :=
  setRing s p r { x with st := .disabling, en := false, fetching := false, rekick := false, latched := false
                         inflight := x.inflight.map fun e => { e with dropped := true } }

/-- RING_CTL_WRITE (R117, R83, R92): ENTRIES, VECTOR and IRQ_EN change only at Off; EN acts in every state. The write shows that
the host has taken the function out of D3hot, which the spec does not say how it is left (DEDUCED, log entry 47). -/
def execRingCtlWrite (p r : Nat) (v : W32) (s : State) : Res :=
  if 2 ≤ p || 4 ≤ r || !(fn s p).linkUp then .next s
  else
    let s := setFn s p { fn s p with d3hot := false }
    let x := ring s p r
    let en := bit v 0
    let x1 := { x with entries := BitVec.ofNat 4 (fld v 12 4), vector := BitVec.ofNat 3 (fld v 8 3)
                       irqEn := bit v 1 }
    match x.st with
    | .off => if en then .next (ringEnable p r x1 s) else .next (setRing s p r x1)
    | st =>
      let s1 := if x1 = x then s else wrigRing p r (0x1000 * r + 4) x s
      let y := ring s1 p r
      match st, en with
      | .on, false => .next (ringDisable p r y s1)
      | .enabling, e => .next (setRing s1 p r { y with en := e })
      | .disabling, e => .next (setRing s1 p r { y with en := e, enPend := e })
      | .fault, false => .next (ringDisable p r y s1)
      | _, _ => .next s1

/-- A ring's Disabling is over (R83, R117). -/
def ringDisabled (p r : Nat) (s : State) : State :=
  let x := ring s p r
  let y : Ring := { x with st := .off, wrig := false, wrigCount := 0, wrigSrc := 0, wrigAddr := 0 }
  if x.enPend then ringEnable p r y s else setRing s p r y

/-- A ring's Enabling is over: On, or on to Disabling if EN was cleared meanwhile (R83). -/
def ringEnabled (p r : Nat) (s : State) : State :=
  let x := ring s p r
  if x.en then setRing s p r { x with st := .on } else ringDisable p r x s

/-- A plan offset from 0x400_0000 up names ring `r` of function `p`: 0x400_0000 + p × 0x10_0000 + r × 0x1000. -/
def ringOffset (p r : Nat) : Nat := 0x4000000 + p * 0x100000 + r * 0x1000

def ringNamed (off : Nat) : Option (Nat × Nat) :=
  let p := (off - 0x4000000) / 0x100000
  let r := off % 0x100000 / 0x1000
  if 0x4000000 ≤ off ∧ p < 2 ∧ r < 4 ∧ off = ringOffset p r then some (p, r) else none

/-- BLOCK_DISABLE_DONE (R83, R117): of a block, or of a ring in a block's place. -/
def execBlockDisableDone (off : Nat) (s : State) : Res :=
  match ringNamed off with
  | some (p, r) => if (ring s p r).st == .disabling then .next (ringDisabled p r s) else .next s
  | none => blkDisableDone off s

/-- BLOCK_ENABLE_DONE (R83, R117): of a block, or of a ring in a block's place. -/
def execBlockEnableDone (off : Nat) (s : State) : Res :=
  match ringNamed off with
  | some (p, r) => if (ring s p r).st == .enabling then .next (ringEnabled p r s) else .next s
  | none => blkEnableDone off s

/-- One fetch pass over the descriptors that the device reads from the next slot on (R120). -/
def fetchGo (now : W64) (steward : Bool) : List Desc → Ring → Ring
  | [], x => { x with fetching := x.rekick, rekick := false }
  | d :: ds, x =>
    if 16 ≤ inflight x then { x with fetching := true }
    else if bit d.flags 7 != (x.fetchNo / 2 ^ x.entries.toNat % 2 == 0) then
      { x with fetching := x.rekick, rekick := false }
    else fetchGo now steward ds { x with
      fetchNo := x.fetchNo + 1, fetched := x.fetched + 1, total := x.total + 1
      inflight := x.inflight ++ [{ desc := d, no := x.total, rt := now, steward }] }

def fetchPass (p r : Nat) (descs : List Desc) (s : State) : State :=
  setRing s p r (fetchGo (rtNow s) (isSteward s p) descs (ring s p r))

/-- RING_DOORBELL (R64, R93, R120): `descs` is what the descriptor slots hold, from the next slot on. -/
def execRingDoorbell (p r : Nat) (descs : List Desc) (s : State) : Res :=
  if 2 ≤ p || 4 ≤ r || !(fn s p).linkUp then .next s
  else
    let x := ring s p r
    if x.st != .on then .next (writeIgnored (p + 1) (0x1000 * r) s)
    else if !mbxServed s then .next (setRing s p r { x with latched := true })
    else if x.fetching then .next (setRing s p r { x with rekick := true })
    else .next (fetchPass p r descs s)

/-- RING_FETCH_RESUME (R120): a paused or repeated pass goes on at the slot where it stopped. -/
def execRingFetchResume (p r : Nat) (descs : List Desc) (s : State) : Res :=
  let x := ring s p r
  if 2 ≤ p || 4 ≤ r || x.st != .on || !x.fetching || 16 ≤ inflight x || !mbxServed s then .next s
  else .next (fetchPass p r descs s)

/-! ### Links of the functions and stewardship (R63, R112, R113) -/

/-- PERST_DEASSERT (R63). -/
def execPerstDeassert (p : Nat) (s : State) : Res :=
  if 2 ≤ p then .next s
  else
    let f := fn s p
    .next (setFn s p { f with perstLow := false, training := f.training || (domOn s (74 + p) && !f.linkUp) })

/-- Every right of the steward passes to the other host, its locks and the debug session with it (R112). -/
def passSteward (s : State) : State := s.setSteward (s.steward.map (1 - ·))

/-- The automatic handover (R113). -/
def failover (s : State) : State :=
  logMod 0x9007 0 [] (passSteward s)

/-- LINK_TRAINING_DONE (R63, R113): the link comes up; a steward whose own link has been down for 2 s loses its place
to the peer whose link is now up. -/
def execLinkTrainingDone (p : Nat) (s : State) : Res :=
  if 2 ≤ p || !(fn s p).training || (fn s p).perstLow || !domOn s (74 + p) then .next s
  else
    let s1 := setFn s p { fn s p with training := false, linkUp := true, overdue := false, d3hot := false }
    if s1.steward = some (1 - p) ∧ (fn s1 (1 - p)).overdue ∧ s1.spring.mbxReady then .next (failover s1) else .next s1

/-- STEWARD_FAILOVER (R113): the steward's link has been out of DL_Active for 2 s. -/
def execStewardFailover (s : State) : Res :=
  match s.steward with
  | none => .next s
  | some p =>
    if (fn s p).linkUp || !s.spring.mbxReady then .next s
    else if (fn s (1 - p)).linkUp then .next (failover s)
    else .next (setFn s p { fn s p with overdue := true })

/-- D3HOT_ENTRY (R114): items 1 and 2. -/
def execD3hotEntry (p : Nat) (s : State) : Res :=
  if 2 ≤ p || !(fn s p).linkUp then .next s
  else
    let s1 := ringsOff p s
    .next (setFn s1 p { fn s1 p with d3hot := true })

/-! ### Module commands (R130) -/

/-- A block was left in Fault by R100. -/
def blkDead (s : State) (b : Nat) : Bool := (blk s b).dead

/-- Resource state code: 0 Present, 1 Fault, 2 Retired, 3 Absent (R138). -/
def dieState (s : State) (d : Nat) : Nat :=
  if dies s ≤ d then 3
  else if [4, 5, 6].any (fun k => (dom s (8 * d + k)).st == .fault)
    || [baseDSC d, baseCOL d, baseDFB d, baseSRM d, baseSCB d].any (blkDead s) then 1
  else 0

/-- Channel q of stack n. -/
def chanState (s : State) (n q : Nat) : Nat :=
  if dies s ≤ n / 5 then 3
  else if (dom s (8 * (n / 5) + 7)).st == .fault || blkDead s (baseLPX n) then 1
  else match tget .present (stack s n).chans q with
    | .retired => 2
    | _ => 0

def portState (s : State) (p : Nat) : Nat :=
  if ports s ≤ p then 3
  else if (dom s (64 + p / 8)).st == .fault || blkDead s (baseLNK p) || blkDead s (0x3060000 + p * 0x1000) then 1
  else 0

def laserState (s : State) (n : Nat) : Nat :=
  let x := tget {} s.opt.las n
  if x.retired then 2
  else if x.failed || (dom s (if n < 5 then 69 else 70)).st == .fault || blkDead s (baseLAS n) then 1
  else 0

/-- Active cores of a cluster. -/
def activeCores (s : State) (d c : Nat) : Nat :=
  if dies s ≤ d then 0xFF
  else ((List.range 24).filter fun k => !(core s d c (physCore s d c k)).retired).length

/-- Lanes of a port that are up (R138): logical lane n has a receive position. -/
def lanesUp (s : State) (p : Nat) : Nat :=
  if ports s ≤ p then 0
  else
    let x := tget {} s.links p
    if x.pst == .up || x.pst == .hold || x.pst == .switching then
      maskOf 8 fun n => fld x.mapRx (4 * n) 4 != 15
    else 0

/-- State code of a domain (R40). -/
def lifeCode : Life → Nat
  | .off => 0 | .enabling => 1 | .on => 2 | .disabling => 3 | .fault => 4

def domCode (s : State) (n : Nat) : Nat := if domPresent s n then lifeCode (dom s n).st else 7

def bytesOf (l : List Nat) : List Byte := l.map (BitVec.ofNat 8)

/-- The DEVICE_INFO record (R138). -/
def deviceRecord (s : State) : List Byte :=
  fit 4096 (leBytes 4 1 ++ bytesOf [variantCode s, dies s, s.steward.getD 0, (s.prof.map (·.number)).getD 0xFF]
    ++ leBytes 8 s.flash.serial.toNat ++ leBytes 4 (bootedSlot s).version.toNat ++ leBytes 4 (bootedSlot s).svn
    ++ leBytes 4 (bootedSlot s).proto ++ leBytes 4 (planInForce s).clockKhz
    ++ bytesOf ((List.range 8).map (dieState s)) ++ zeros 24
    ++ bytesOf ((List.range 384).map fun i => activeCores s (i / 48) (i % 48))
    ++ bytesOf ((List.range 640).map fun i => chanState s (i / 16) (i % 16))
    ++ bytesOf ((List.range 32).map (portState s)) ++ bytesOf ((List.range 32).map (lanesUp s))
    ++ bytesOf ((List.range 10).map (laserState s)) ++ bytesOf ((List.range 80).map (domCode s)))

/-- DEVICE_INFO (R130, R138). -/
def execDeviceInfo (c : Cmd) (s : State) : Res :=
  runCmd { op := 0x0101, o := true, m := true, t := true, args := 3, inOpen := true } c
    (fun e _ => badBuf e.desc 0 4096) noFlag noFlag
    (fun _ t => (intoBuf c 0 (deviceRecord t) t, some (okRv (dw (variantCode t + 256 * dies t)) 0 0))) s

/-- PROFILE_SELECT (R71, R130): the stored override, kept through power loss. -/
def execProfileSelect (c : Cmd) (s : State) : Res :=
  runCmd { op := 0x0102, s := true, args := 1, sec := true } c
    (fun e t =>
      let n := e.desc.a0.toNat
      badWhen (!(n < 4 || n == 7) || (n < 4 && (profileFault t n (storedProfile t n)).isSome)) 0) noFlag noFlag
    (fun e t =>
      let n := e.desc.a0.toNat
      (t.setFlash { t.flash with override := if n = 7 then none else some n }, some ok)) s

/-- STEWARD_TRANSFER (R112). -/
def execStewardTransfer (c : Cmd) (s : State) : Res :=
  runCmd { op := 0x0103, s := true } c noBad noFlag
    (fun _ t =>
      let q := 1 - t.steward.getD 0
      !(fn t q).linkUp || (ring t q 0).st != .on)
    (fun _ t =>
      let u := passSteward t
      (u, some (okRv (dw (u.steward.getD 0)) 0 0))) s

/-- POWER_CAP_SET (R44). -/
def execPowerCapSet (c : Cmd) (s : State) : Res :=
  runCmd { op := 0x0105, s := true, args := 1, sec := true } c
    (fun e t =>
      let n := e.desc.a0.toNat
      badWhen (n < (capRange t).1 || (capRange t).2 < n) 0) noFlag noFlag
    (fun e t =>
      (t.setCap { t.cap with cap := BitVec.ofNat 16 e.desc.a0.toNat }, some (okRv (dw t.cap.cap.toNat) 0 0))) s

/-- The domains a DOMAIN_CONTROL names. -/
def namedDoms (d : Desc) : List Nat := bitsOf 80 (d.a0.toNat + d.a1.toNat % 65536 * 2 ^ 64)

/-- R36 and R7: a domain that DOMAIN_CONTROL may name. -/
def controllable (s : State) (n : Nat) : Bool :=
  (n < 68 || n == 69 || n == 70) && domPresent s n

/-- R37: the request is refused. -/
def controlWrong (up : Bool) (ns : List Nat) (s : State) : Bool :=
  ns.any fun n =>
    let st := (dom s n).st
    let falls := st == .on || st == .fault
    if up then
      st == .disabling
        || ((st == .off || st == .fault) && (domReq n).any fun m => !domOn s m && !ns.contains m)
    else
      st == .enabling
        || (falls && ((List.range 80).any fun m =>
              (domReq m).contains n && !ns.contains m && domPresent s m
                && ((dom s m).st == .on || (dom s m).st == .enabling)))
        || (falls && domInUse s n)
        || (falls && (n == 69 || n == 70) && (List.range 5).any fun i =>
              (tget {} s.opt.las (i + if n = 69 then 0 else 5)).bus.isSome)

/-- DOMAIN_CONTROL (R36, R37): the sequence runs in the order of R32 or R33 and the masks follow at its end. -/
def execDomainControl (c : Cmd) (s : State) : Res :=
  runCmd { op := 0x0106, s := true, args := 7, sec := true } c
    (fun e t => firstOf [
      badWhen (2 ^ 16 ≤ e.desc.a1.toNat) 1,
      badWhen (2 ≤ e.desc.a2.toNat) 2,
      badWhen ((namedDoms e.desc).any fun n => n < 64 && !controllable t n) 0,
      badWhen ((namedDoms e.desc).any fun n => 64 ≤ n && !controllable t n) 1])
    noFlag
    (fun e t => controlWrong (bit e.desc.a2 0) (namedDoms e.desc) t)
    (fun e t =>
      let up := bit e.desc.a2 0
      let ns := namedDoms e.desc
      let order := if up then powerOrder t else (powerOrder t).reverse
      let q : PowerSeq := { up, todo := order.filter ns.contains, why := .control c.port c.ring e.no }
      let left := q.todo.filter fun n => (dom t n).st != (if up then .on else .off)
      if left.isEmpty then (t, some (okRv (onMasks t).1 (onMasks t).2 0))
      else if t.pseq.isSome then (t.setPwait (t.pwait ++ [{ q with todo := left }]), none)
      else (seqRun q left t, none)) s

end Sys2Proof.Machine
end

