-- ==== Sys2Proof/Machine/RackTime.lean ====
section
/-! DEFINITION. Rack Time (chapter 13): ticks, loading, the sync check, slews, time ports and the armed-instant table. -/

namespace Sys2Proof.Machine

open Sys2Proof

/-! ### Availability (R500, R501; log entry 28) -/

/-- Locked rings of a port's group in one direction. -/
def ringsLocked (s : State) (p : Nat) (rx : Bool) : Nat :=
  ((List.range 10).filter fun i => match ringOf s p i rx with
    | some k => (tget {} s.opt.ring k).st == .locked
    | none => false).length

/-- The port is down for a cause inside the module: its rings, its laser, its domain, or its LNK or FEC block. -/
def portInside (s : State) (p : Nat) : Bool :=
  portState s p == 1 || ringsLocked s p true < 4 || ringsLocked s p false < 4
    || (match ringOf s p 0 true with | some k => tget 0 s.opt.bus (k / 224) == 0 | none => false)

/-- The port holds 4 or more lanes in both directions. -/
def portHolds (s : State) (p : Nat) : Bool :=
  let x := tget {} s.links p
  linkUpAt s p && 4 ≤ (bitsOf 10 x.txSet.toNat).length && 4 ≤ (bitsOf 10 x.rxSet.toNat).length

/-- The module is available: jobs can run and commit, at least 15 in 16 clusters are usable, and no accepted port is
short of lanes for a cause inside the module. -/
def available (s : State) : Bool :=
  !s.rel.restarting && !s.rel.held
    && 15 * 48 * dies s ≤ 16 * (((List.range (dies s)).filter fun d => dieState s d == 0).flatMap (usableClusters s)).length
    && (divPorts s).all fun p =>
      let x := tget {} s.fab.ports p
      !(x.out == .accepted || x.out == .remapped) || portHolds s p || !portInside s p

/-- The interval of unavailability stands open while time passes: in service once step 11 has ended, by what holds now;
in a stopped Spring always; in another Spring only if it was open before. Off, Dormant, an orderly shutdown and a wait
for coolant do not count. -/
def unavailNow (s : State) : Bool :=
  match s.phase with
  | .running => if s.spring.discDone then !available s else s.flash.unavailOpen
  | .stopped => true
  | .spring => s.flash.unavailOpen && !s.spring.coolantWait
  | _ => false

/-- `n` ticks count as unavailable. -/
def countUnavail (n : Nat) (s : State) : State :=
  let t := s.rel.unavailTicks + n
  (s.setRel { s.rel with unavailTicks := t % ticksMs }).setFlash { s.flash with
    unavail := BitVec.ofNat 32 (min (2 ^ 32 - 1) (s.flash.unavail.toNat + t / ticksMs)), unavailOpen := true }

/-- `n` ticks pass: RAW advances while PD77 is On (R387, R389), and unavailable time is counted (R501). -/
def passTicks (n : Nat) (s : State) : State :=
  let s1 := if domOn s 77 then setRtb s { s.rtb with raw := s.rtb.raw + BitVec.ofNat 64 n } else s
  if unavailNow s then countUnavail n s1
  else if s.phase == .running && s.flash.unavailOpen then s1.setFlash { s1.flash with unavailOpen := false }
  else s1

/-- The unit delivers instants, takes stamps and exchanges frames (R402). -/
def rtbServes (s : State) : Bool := domOn s 77 && blkOn s baseRTB

/-- All 256 entries of the armed-instant table are in use (R395). -/
def armFull (s : State) : Bool := 256 ≤ s.rtb.armed.length

/-- Arm an instant (R395). -/
def arm (at_ : W64) (x : Instant) (s : State) : State := setRtb s { s.rtb with armed := s.rtb.armed ++ [(at_, x)] }

/-- RT_LOAD (R390): the value is taken at the next sync pulse. -/
def execRtLoad (c : Cmd) (s : State) : Res :=
  runCmd { op := 0x0104, s := true, args := 1 } c
    (fun e _ => badWhen (fld e.desc.a0 0 20 ≠ 0) 0) noFlag
    (fun _ t => anyJob t || !t.rtb.armed.isEmpty)
    (fun e t =>
      if t.rtb.load.isSome then (t, some (failWith stBusy 0))
      else (setRtb t { t.rtb with load := some (e.desc.a0, c.port, e.no) }, none)) s

/-- RTB_SYNC_SLIP (R391). -/
def slip (d : Int) (s : State) : State :=
  logMod 0x5003 0 [BitVec.ofInt 64 d] (setRtb s { s.rtb with slips := inc32 s.rtb.slips 1 })

/-- The offset d of R391, centred into −2^19 to 2^19 − 1. -/
def syncOffset (s : State) : Int :=
  let v := ((s.rtb.raw.toNat : Int) + s.rtb.slewRaw) % 1048576
  if v < 524288 then v else v - 1048576

/-- The check of a sync pulse against RAW (R391). -/
def syncCheck (s : State) : State :=
  let d := syncOffset s
  let sure := (s.rtb.unconfirmed.map fun u => decide ((d - u).natAbs ≤ 1)).getD false
  if d.natAbs ≤ 1 then setRtb s { s.rtb with unconfirmed := none }
  else
    let s1 := slip d s
    if !sure then setRtb s1 { s1.rtb with unconfirmed := some d }
    else if d.natAbs ≤ 65536 then setRtb s1 { s1.rtb with unconfirmed := none, slewRaw := s1.rtb.slewRaw - d }
    else setRtb s1 { s1.rtb with unconfirmed := none, syncBad := true }

/-- RTB_SYNC_PULSE (R389 to R391), `n` ticks after what went before. -/
def execRtbSyncPulse (n : Nat) (s : State) : Res :=
  let s := passTicks n s
  if !rtbServes s || s.rtb.holdover then .next s
  else
    let s1 := setRtb s { s.rtb with syncLost := false }
    match s1.rtb.load with
    | some (v, p, no) =>
      let s2 := setRtb s1 { s1.rtb with
        raw := v, corr := 0, valid := true, syncBad := false, firstSync := true, slewRaw := 0, slewCorr := 0
        unconfirmed := none, load := none }
      .next (finishCmd p 0 no (okRv v 0 0) false s2)
    | none =>
      if !s1.rtb.firstSync then
        .next (setRtb s1 { s1.rtb with raw := 0, corr := 0, firstSync := true, slewRaw := 0, slewCorr := 0 })
      else if s1.rtb.syncBad then .next s1
      else .next (syncCheck s1)

/-- The sign of an adjustment still to be applied. -/
def sgn (x : Int) : Int := if x < 0 then -1 else if 0 < x then 1 else 0

/-- SLEW_ADJUST (R388): of `n` ticks the last one is adjusted, so RT never decreases. RAW and CORR take turns. -/
def execSlewAdjust (n : Nat) (s : State) : Res :=
  if n = 0 ∨ (s.rtb.slewRaw = 0 ∧ s.rtb.slewCorr = 0) then .next (passTicks n s)
  else
    let r := (passTicks n s).rtb
    if r.slewRaw ≠ 0 ∧ (r.slewCorr = 0 ∨ !r.turnCorr) then
      .next (setRtb (passTicks n s) { r with
        raw := r.raw + BitVec.ofInt 64 (sgn r.slewRaw), slewRaw := r.slewRaw - sgn r.slewRaw, turnCorr := true })
    else
      .next (setRtb (passTicks n s) { r with
        corr := r.corr + BitVec.ofInt 64 (sgn r.slewCorr), slewCorr := r.slewCorr - sgn r.slewCorr
        turnCorr := false })

/-- RTB_CLK_LOSS (R400). -/
def execRtbClkLoss (s : State) : Res :=
  if !domOn s 77 || s.rtb.holdover then .next s
  else .next (rtbLoss 1 (setRtb s { s.rtb with holdover := true }))

/-- RTB_CLK_RELOCK (R400). -/
def execRtbClkRelock (s : State) : Res :=
  if !domOn s 77 then .next s else .next (setRtb s { s.rtb with holdover := false })

/-- RTB_SYNC_LOSS_TIMEOUT (R400): the watch runs only while RTB_CLK is locked. -/
def execRtbSyncLossTimeout (s : State) : Res :=
  if !domOn s 77 || s.rtb.holdover || s.rtb.syncLost then .next s
  else .next (rtbLoss 2 (setRtb s { s.rtb with syncLost := true }))

/-! ### Time ports (R392 to R394) -/

/-- REF_OK: no RTB_LOSS holds (R392). -/
def refOk (s : State) : Bool := !s.rtb.holdover && !s.rtb.syncLost && s.rtb.tsrc != 3

/-- DIST of this module (R392, R394). -/
def timeDist (s : State) : Nat :=
  match timeSource s with
  | 0 => 0
  | 1 => min 0xFF (s.rtb.tp0.dist + 1)
  | 2 => min 0xFF (s.rtb.tp1.dist + 1)
  | _ => 0xFF

/-- The body of a timestamp frame (R392). -/
def timeBody (s : State) (port : Nat) : List Byte :=
  let e := tget (0, 0) s.rtb.echo port
  fit 300 (leBytes 8 (rtNow s).toNat ++ leBytes 8 e.1.toNat ++ leBytes 8 e.2.toNat ++ leBytes 8 s.rtb.corr.toNat
    ++ bytesOf [b2n s.rtb.valid + 2 * b2n (refOk s) + 4 * b2n (isRoot s) + 8 * b2n s.rtb.holdover, timeDist s])

/-- TIMESTAMP_SEND (R389, R392), on a port that carries a time relation. -/
def execTimestampSend (port n : Nat) (s : State) : Res :=
  let s := passTicks n s
  if !rtbServes s || !s.rtb.valid || 32 ≤ port || !linkUpAt s port then .next s
  else .next (emit (.frame port { typ := 5, body := timeBody s port }) s)

/-- Median of the kept delays, doubled (R393): with eight, the sum of the middle two. -/
def insertSorted (x : Int) : List Int → List Int
  | [] => [x]
  | y :: ys => if x ≤ y then x :: y :: ys else y :: insertSorted x ys

def median2 (l : List Int) : Int :=
  let t := l.foldr insertSorted []
  let n := t.length
  t.getD ((n - 1) / 2) 0 + t.getD (n / 2) 0

/-- R393: the exchange with delay δ is kept. -/
def exchangeKept (x : TimePort) (rtt : Nat) (delta : Int) : Bool :=
  if delta < 0 then false
  else match x.first with
    | none => delta ≤ (2 * rtt : Nat)
    | some f =>
      if x.kept.length < 8 then (delta - f).natAbs ≤ 8
      else (2 * delta - median2 (x.kept.map (·.2))).natAbs ≤ 16

/-- Saturate to a 32-bit two's complement number. -/
def sat32 (x : Int) : W32 := BitVec.ofInt 32 (max (-2147483648) (min 2147483647 x))

/-- The action of R394 on the mean offset `sum2 / (2 × n)` at time port `i`. -/
def timeAct (i port : Nat) (sum2 : Int) (n : Nat) (s : State) : State :=
  let d : Int := 2 * n
  let mean := sum2 / d
  let high := 1250 * d < (sum2.natAbs : Int)
  let s1 := if high && anyJob s then
      if s.rtb.offsetHigh then s
      else logMod 0x5004 (resPort port) [BitVec.ofInt 64 mean] (setRtb s { s.rtb with offsetHigh := true })
    else setRtb s { s.rtb with offsetHigh := false }
  if (sum2.natAbs : Int) ≤ d then s1
  else if sameRack s1 i then
    setRtb s1 { s1.rtb with slewCorr := ((timePort s1 i).peerCorr - s1.rtb.corr).toInt }
  else if !anyJob s1 && s1.rtb.armed.isEmpty && decide (125 * d < (sum2.natAbs : Int)) then
    setRtb s1 { s1.rtb with corr := s1.rtb.corr + BitVec.ofInt 64 mean, slewCorr := 0 }
  else setRtb s1 { s1.rtb with slewCorr := mean }

/-- What the exchange of one frame at time port `i` brings. θ is kept doubled, so no half tick is lost. -/
def timeExchange (i port : Nat) (tx echoTx echoRx corr : W64) (flags dist : Nat) (t4 : W64) (s : State) : State :=
  let x := { timePort s i with dist := dist, peerCorr := corr, usable := flags % 4 == 3 }
  if flags % 2 = 0 then retime (setTimePort s i x)
  else
    let theta2 : Int := (echoRx - echoTx).toInt + (tx - t4).toInt
    let delta : Int := (t4 - echoTx).toInt - (tx - echoRx).toInt
    if echoTx = 0 ∨ !exchangeKept x (tget {} s.links port).rtt.toNat delta then retime (setTimePort s i x)
    else
      let y := { x with kept := ((theta2, delta) :: x.kept).take 8, first := some (x.first.getD delta) }
      let s0 := setTimePort s i y
      let s1 := retime (setRtb s0 { s0.rtb with delta := sat32 delta })
      if timeSource s1 = i + 1 then
        let sum2 := (y.kept.map (·.1)).foldl (· + ·) 0
        let n := y.kept.length
        timeAct i port sum2 n (setRtb s1 { s1.rtb with theta := sat32 (sum2 / (2 * n : Int)) })
      else s1

/-- TIMESTAMP_FRAME (R389, R392 to R394, R420), arriving on `port` `n` ticks after what went before. -/
def execTimestampFrame (port n part : Nat) (tx echoTx echoRx corr : W64) (flags dist : Nat) (s : State) : Res :=
  let s := passTicks n s
  if !rtbServes s || !s.rtb.valid || 32 ≤ port || !linkUpAt s port then .next s
  else if part ≠ s.fab.partition then .next (logFold ticksSec 0x400D 0xFF 0xFFFF (linkUnit port) [] s)
  else
    let t4 := rtNow s
    let s1 := setRtb s { s.rtb with echo := tset (0, 0) s.rtb.echo port (tx, t4) }
    if isRoot s1 then .next s1
    else if timePortNo s1 0 = some port then .next (timeExchange 0 port tx echoTx echoRx corr flags dist t4 s1)
    else if timePortNo s1 1 = some port then .next (timeExchange 1 port tx echoTx echoRx corr flags dist t4 s1)
    else .next s1

end Sys2Proof.Machine
end

