-- ==== Sys2Proof/Machine/Memory.lean ====
section
/-! DEFINITION. The device offset map (R281, R283), bonded SRAM with its lines and ECC (R286 to R290), LPDDR5X with its
page attributes and channels (R292 to R306), the checks at a target (R313, R322), and the stash (R309 to R312). -/

namespace Sys2Proof.Machine

open Sys2Proof

/-! ### Where an offset lies -/

/-- The parts of the device offset map. -/
inductive Place where
  | lpx (d : Nat)
  | sliver (d c k slot : Nat)
  | hardware (d : Nat)
  | shared (d slot : Nat)
  | pool (d slot : Nat)
  | stash (m b : Nat)
  | window (off : Nat)
  | unmapped
  deriving DecidableEq, Repr

/-- R281, R283. -/
def placeOf (s : State) (off : Nat) : Place :=
  if off < 0x020000000000 then
    let d := off / 0x4000000000
    if d < dies s then .lpx d else .unmapped
  else if 0x080000000000 ≤ off ∧ off < 0x080400000000 then
    let d := (off - 0x080000000000) / 0x80000000
    let w := off % 0x80000000
    if dies s ≤ d then .unmapped
    else if w < 0x5DC00000 then
      let x := w / 0x140000
      .sliver d (x / 25) (x % 25) (if w % 0x140000 < 0xA0000 then 0 else 1)
    else if w < 0x5E000000 then .hardware d
    else if w < 0x60000000 then
      let slot := if w < 0x5F000000 then 0 else 1
      if w % 0x1000000 < 0x800000 then .shared d slot else .pool d slot
    else .unmapped
  else if 0x0E0000000000 ≤ off ∧ off < 0x0F0000000000 then
    .stash ((off - 0x0E0000000000) / 0x40000000) (off % 0x40000000)
  else if 0x0F0000000000 ≤ off ∧ off < 0x0F0004000000 then .window (off - 0x0F0000000000)
  else .unmapped

/-- Die of a place. -/
def Place.die? : Place → Option Nat
  | .lpx d => some d
  | .sliver d _ _ _ => some d
  | .hardware d => some d
  | .shared d _ => some d
  | .pool d _ => some d
  | _ => none

/-! ### Channels (R292, R295) -/

/-- Channel q = 0 to 79 of die `d` as stack and channel. -/
def chanOf (d q : Nat) : Nat × Nat := (5 * d + q / 16, q % 16)

def chanRetired (s : State) (d q : Nat) : Bool :=
  tget .present (stack s (chanOf d q).1).chans (q % 16) == .retired

/-- Channels that serve an offset's half, in map order, as q. -/
def mapChans (s : State) (d o : Nat) : List Nat :=
  let all := if twoRealm s then
      let h := if o < 0x2000000000 then 0 else 8
      (List.range 40).map fun j => 16 * (j / 8) + h + j % 8
    else List.range 80
  all.filter fun q => !chanRetired s d q

/-- Offset within the range or half that R292 divides. -/
def mapOff (s : State) (o : Nat) : Nat := if twoRealm s then o % 0x2000000000 else o

/-- Die-local offset `o` is backed (R292, R295, R297). -/
def backed (s : State) (d o : Nat) : Bool := mapOff s o < (mapChans s d o).length * 2812499520

/-- Stack, channel and raw address of the granule at die-local offset `o` (R292). -/
def rawPlace (s : State) (d o : Nat) : Nat × Nat × Nat :=
  let cs := mapChans s d o
  let g := mapOff s o / 64
  let q := cs.getD (g % cs.length) 0
  let cg := g / cs.length
  ((chanOf d q).1, (chanOf d q).2, cg / 15 * 1024 + cg % 15 * 64)

/-- Address within the channel of the check word of the granule at raw address `raw` (R292). -/
def checkPlace (raw : Nat) : Nat := raw / 1024 * 1024 + 960 + raw % 1024 / 64 * 4

/-! ### Pages (R302, R306, R307) -/

def pageAttr (s : State) (pg : Nat) : PageAttr := tget none s.mem.page pg

/-- Give a page to an owner under an epoch; what is stored in it stays (R306, R307). -/
def assignPage (owner epoch pg : Nat) (s : State) : State :=
  s.setMem { s.mem with
    page := tset none s.mem.page pg (some (owner, epoch))
    pageGen := tmod {} s.mem.pageGen pg fun x => { x with cursor := 0 } }

/-! ### Encryption (R302 to R306) -/

/-- The memory key of an owner's epoch (R302, R447). -/
def memKeyOf (s : State) (owner epoch : Nat) : MemKey :=
  if owner = 0 then .operator s.sec.opKey
  else .tenant (realmOf s owner).realmId (tget [] (realmOf s owner).secrets epoch)

/-- The n-th draw of `len` random bytes. -/
def drawBytes (n len : Nat) : List Byte := (List.range len).map (Config.drawn n)

/-- The 64 bytes of a memory key (R447). -/
def keyBytes (s : State) : MemKey → List Byte
  | .operator n => drawBytes n 64
  | .tenant realmId secret => hkdf realmId secret (ascii "XNX880 MEM" ++ leBytes 8 s.flash.serial.toNat) 64

/-- Encrypt, or with `back` decrypt, granule `g` under a key: the data unit is the granule, and its number the tweak (R303). -/
def crypt (s : State) (back : Bool) (k : MemKey) (g : Nat) (b : List Byte) : List Byte := xts back (keyBytes s k) g b

/-- Bytes that granule `g` stores, read from the channel as they are (R293, R303, R306). -/
def storedGran (s : State) (g : Nat) : List Byte :=
  match tget none s.mem.lpx g with
  | some e => match e.key with | some k => crypt s false k g e.data | none => e.data
  | none =>
    let x := tget {} s.mem.pageGen (g / 32768)
    x.layers.foldl (fun b l => if g % 32768 < l.1 then crypt s false l.2.2 g (crypt s true l.2.1 g b) else b)
      (match x.base with
        | none => List.replicate 64 0xA5
        | some n => (List.range 64).map fun i => Config.staleByte (64 * g + i) n)

/-- The key under which an access takes granule `g`: below the cursor of a page that a sweep moves, the realm's newest
(R305). None in an unassigned page. -/
def granKey (s : State) (g : Nat) : Option MemKey :=
  (pageAttr s (g / 32768)).map fun a =>
    memKeyOf s a.1 (if g % 32768 < (tget {} s.mem.pageGen (g / 32768)).cursor then (realmOf s a.1).epoch else a.2)

/-- The 64 bytes of granule `g` as its page's owner reads them. -/
def granule (s : State) (g : Nat) : List Byte :=
  let k := granKey s g
  let b := match tget none s.mem.lpx g with
    | some e => if e.key = k then e.data else (match k with | some k => crypt s true k g (storedGran s g) | none => storedGran s g)
    | none => match k with | some k => crypt s true k g (storedGran s g) | none => storedGran s g
  (List.range 64).map fun i => b.getD i 0

/-- The check word of granule `g` (R293). -/
def storedCheck (s : State) (g : Nat) : List Byte :=
  checkWord (storedGran s g) (rawPlace s (64 * g / 0x4000000000) (64 * g % 0x4000000000)).2.2

/-- The sweep re-encrypts the granules of page `pg` from its cursor up to `upto` of 32,768 under the newest epoch of its
owner; past the last one the page's attribute takes that epoch (R304, R305). -/
def sweepTo (pg upto : Nat) (s : State) : State :=
  match pageAttr s pg with
  | none => s
  | some (o, e) =>
    let new := (realmOf s o).epoch
    let x := tget {} s.mem.pageGen pg
    let last := (upto, memKeyOf s o e, memKeyOf s o new)
    let moved (g : Nat) : Bool := g / 32768 == pg && x.cursor ≤ g % 32768 && g % 32768 < upto
    let done := upto = 32768
    s.setMem { s.mem with
      lpx := tmap none (fun g v => if moved g then v.map fun _ => { key := some (memKeyOf s o new), data := granule s g } else v) s.mem.lpx
      page := if done then tset none s.mem.page pg (some (o, new)) else s.mem.page
      pageGen := tset {} s.mem.pageGen pg { x with
        layers := if x.cursor = 0 then x.layers ++ [last] else x.layers.dropLast ++ [last]
        cursor := if done then 0 else upto } }

/-- Move a page to the newest epoch of its owner, contents kept (R304). -/
def movePage (pg : Nat) (s : State) : State := sweepTo pg 32768 s

/-- Pages of a die that a sweep of realm `r` has still to move, ascending. -/
def oldPagesOn (s : State) (r d : Nat) : List Nat :=
  (s.mem.page.filter fun e => e.1 / 131072 == d && e.2.any fun a => a.1 == r && a.2 != (realmOf s r).epoch).map (·.1)

/-- The sweeps on every die go on by one granule (R304: one page at a time in ascending offset). The pace is the model's (DESIGN
CHOICE, log entry 95). -/
def sweepTick (s : State) : State :=
  [1, 2].foldl (fun t r =>
    if !(realmOf t r).sweeping then t
    else (List.range (dies t)).foldl (fun u d => match (oldPagesOn u r d).head? with
      | some pg => sweepTo pg ((tget {} u.mem.pageGen pg).cursor + 1) u
      | none => u) t) s

/-- Stacks that have trained go on to the initialisation (R296: steps 1 to 3, then step 4). -/
def trainTick (s : State) : State :=
  s.setStk (tmap {} (fun _ (x : Stack) => if x.training then { x with training := false, initializing := true } else x) s.stk)

/-- A step on an empty queue: a tick of Rack Time passes, and what takes time by itself goes on (log entry 7). -/
def idle (s : State) : State := sweepTick (trainTick (passTicks 1 s))

/-! ### ECC (R290, R298, R301, R489, R490) -/

/-- Bits that have changed since they were written, by offset: of an SRAM word and its code, or of an LPDDR5X granule, its check
word and its address term. -/
def applyErrs (errs : List (Nat × Nat)) (s : State) : State :=
  errs.foldl (fun t e => match placeOf t e.1 with
    | .lpx _ => t.setMem { t.mem with lpxEcc := tset 0 t.mem.lpxEcc (e.1 / 64) (e.2 % 2 ^ 576) }
    | .unmapped => t
    | .stash _ _ => t
    | .window _ => t
    | _ => t.setMem { t.mem with sramEcc := tset 0 t.mem.sramEcc (e.1 / 8) (e.2 % 2 ^ 72) }) s

/-- Mark an SRAM row (R489); a row is taken as a line (log entry 12). -/
def markRow (d row : Nat) (s : State) : State :=
  let x := tget {} s.srm d
  if x.marked.contains row then s
  else
    let s1 := s.setSrm (tset {} s.srm d { x with marked := x.marked ++ [row] })
    let s2 := s1.setFlash { s1.flash with rowsMarked := s1.flash.rowsMarked ++ [(d, row)] }
    logMod 0x2008 (resDie d) [dw row] s2

/-- A corrected SRAM read. -/
def sramCorrected (d row : Nat) (s : State) : State :=
  let x := tget {} s.srm d
  let rt := rtNow s
  let l := (rt :: tget [] x.rowCorr row).filter fun t => rt.toNat - t.toNat < ticksDay
  let s1 := s.setSrm (tset {} s.srm d { x with corr := inc32 x.corr 1, rowCorr := tset [] x.rowCorr row l })
  let s2 := logFold ticksSec 0x2001 0xFF 0xFFFF (resDie d) [dw row] s1
  if 16 ≤ l.length then markRow d row s2 else s2

/-- An uncorrectable SRAM read. -/
def sramUncorrectable (d row : Nat) (s : State) : State :=
  let x := tget {} s.srm d
  let s1 := s.setSrm (tset {} s.srm d { x with unc := inc32 x.unc 1 })
  markRow d row (logMod 0x2002 (resDie d) [dw row] s1)

/-- REALM_TAG_MISMATCH (R287, R490). -/
def tagMismatch (d line tag realm : Nat) (s : State) : State :=
  let x := tget {} s.srm d
  let rt := rtNow s
  let again := x.mismatches.any fun t => rt.toNat - t.toNat < ticksDay
  let s1 := s.setSrm (tset {} s.srm d { x with mismatches := rt :: x.mismatches })
  let s2 := markRow d line (noteAborts 0x6004 s (abortDie d
    (logFold ticksMs 0x6004 0xFF 0xFFFF (resDie d) [dw line, dw tag, dw realm] s1)))
  if again then setBlk s2 (baseSRM d) { (blk s2 (baseSRM d)) with st := .fault, dead := true } else s2

/-- The lines of an access, ascending. -/
def unitsOf (off len size : Nat) : List Nat :=
  if len = 0 then [] else (List.range ((off + len - 1) / size - off / size + 1)).map (off / size + ·)

/-- The 64-bit word `w` of SRAM as it was written. -/
def sramWord (s : State) (w : Nat) : W64 := BitVec.ofNat 64 (leNat (tgetRun 0 s.mem.sram (8 * w) 8))

/-- What a read finds in word `w` (R290). -/
def sramFound (s : State) (w : Nat) : EccSt × W64 :=
  let m := tget 0 s.mem.sramEcc w
  if m = 0 then (.ok, sramWord s w) else wordRead (sramWord s w) m

/-- What one SRAM line brings to a read of realm `r`: its log entries, and poison (R287, R290). -/
def lineCheck (r d off len : Nat) (a : Bool × State) (l : Nat) : Bool × State :=
  match tget none a.2.mem.line l with
  | none => a
  | some tag =>
    if tag ≠ r then (a.1, tagMismatch d (l % 0x4000000) tag r a.2)
    else
      (unitsOf (max off (32 * l)) (min (off + len) (32 * l + 32) - max off (32 * l)) 8).foldl (fun b w =>
        match (sramFound b.2 w).1 with
        | .ok => b
        | .correctable => (b.1, sramCorrected d (l % 0x4000000) b.2)
        | .uncorrectable => (true, sramUncorrectable d (l % 0x4000000) b.2)) a

/-- One SRAM byte as realm `r` reads it. -/
def sramByte (s : State) (r off : Nat) : Byte :=
  if tget none s.mem.line (off / 32) ≠ some r then 0
  else if tget 0 s.mem.sramEcc (off / 8) = 0 then tget 0 s.mem.sram off
  else (sramFound s (off / 8)).2.extractLsb' (8 * (off % 8)) 8

/-- Read SRAM for realm `r`: data, poison, and the state with what the read logged. -/
def sramRead (r off len : Nat) (s : State) : List Byte × Bool × State :=
  let data := (List.range len).map fun i => sramByte s r (off + i)
  let a := (unitsOf off len 32).foldl (lineCheck r ((off - 0x080000000000) / 0x80000000) off len) (false, s)
  (data, a.1, a.2)

/-- The read of a read-modify-write of word `w` (R288): the word is as the read found it; an uncorrectable one holds free values
from then on. -/
def sramMend (s : State) (w : Nat) : State :=
  let d := (8 * w - 0x080000000000) / 0x80000000
  let put (b : List Byte) (t : State) : State := t.setMem { t.mem with sram := tsetRun 0 t.mem.sram (8 * w) b }
  match sramFound s w with
  | (.ok, _) => s
  | (.correctable, x) => sramCorrected d (w / 4 % 0x4000000) (put (leBytes 8 x.toNat) s)
  | (.uncorrectable, _) =>
    let (n, t) := fresh s
    sramUncorrectable d (w / 4 % 0x4000000) (put ((List.range 8).map fun i => Config.staleByte (8 * w + i) n) t)

/-- Write SRAM for realm `r` (R288, R290): words of a valid line that are covered in part are read first; the words written, and
all those of a line that becomes valid, lose their errors. -/
def sramWrite (r off : Nat) (data : List Byte) (s : State) : State :=
  let len := data.length
  let words := unitsOf off len 8
  let valid (w : Nat) : Bool := (tget none s.mem.line (w / 4)).isSome
  let s1 := (words.filter fun w => valid w && !(off ≤ 8 * w && 8 * w + 8 ≤ off + len)).foldl sramMend s
  let clean := (unitsOf (off / 32 * 32) ((off + len + 31) / 32 * 32 - off / 32 * 32) 8).filter fun w => !valid w || words.contains w
  s1.setMem { s1.mem with
    sram := tsetRun 0 s1.mem.sram off data
    line := (unitsOf off len 32).foldl (fun t l => tset none t l (some r)) s1.mem.line
    sramEcc := if s1.mem.sramEcc.isEmpty then [] else clean.foldl tdrop s1.mem.sramEcc }

/-- Tag-clear of one slot on die `d` (R289). -/
def tagClear (d slot : Nat) (s : State) : State :=
  let b := sramBase d
  let sh := b + 0x5E000000 + slot * 0x1000000
  let inHalf (a : Nat) : Bool :=
    b ≤ a && a < b + 0x5DC00000 && (if (a - b) % 0x140000 < 0xA0000 then slot == 0 else slot == 1)
      || sh ≤ a && a < sh + 0x1000000
  s.setMem { s.mem with
    sram := s.mem.sram.filter fun e => !inHalf e.1
    line := s.mem.line.filter fun e => !inHalf (32 * e.1)
    sramEcc := s.mem.sramEcc.filter fun e => !inHalf (8 * e.1) }

/-- A channel enters Failing (R298): cause 1 uncorrectable errors, 2 lost tracking, 3 a margin (R494). An armed channel stays
armed. -/
def chanFailing (n c cause : Nat) (s : State) : State :=
  let x := stack s n
  let log (y : Stack) : State := logMod 0x2006 (resChan n c) [dw cause] (setStack s n y)
  match tget .present x.chans c with
  | .present => log { x with chans := tset .present x.chans c .failing }
  | .armed => if x.alsoFailing.contains c then s else log { x with alsoFailing := c :: x.alsoFailing }
  | _ => s

/-- What one granule brings to a read (R298, R301). -/
def granuleCheck (a : Bool × State) (g : Nat) : Bool × State :=
  let s := a.2
  let d := 64 * g / 0x4000000000
  match granuleEcc (tget 0 s.mem.lpxEcc g) with
  | .ok => a
  | .correctable =>
    let p := rawPlace s d (64 * g % 0x4000000000)
    let x := stack s p.1
    (a.1, logFold ticksSec 0x2001 0xFF 0xFFFF (resChan p.1 p.2.1) [dw p.2.2]
      (setStack s p.1 { x with corr := inc32 x.corr 1 }))
  | .uncorrectable =>
    let p := rawPlace s d (64 * g % 0x4000000000)
    let x := stack s p.1
    let rt := rtNow s
    let recent := x.uncLog.filter fun e => rt.toNat - e.2.2.toNat < 3600 * ticksSec
    let other := recent.any fun e => e.1 == p.2.1 && e.2.1 != g
    let s1 := setStack s p.1 { x with unc := inc32 x.unc 1, uncLog := (p.2.1, g, rt) :: recent }
    let s2 := logMod 0x2002 (resChan p.1 p.2.1) [dw p.2.2] s1
    (true, if other then chanFailing p.1 p.2.1 1 s2 else s2)

/-- One LPDDR5X byte as its owner reads it (R303, R306). -/
def lpxByte (s : State) (off : Nat) : Byte := (granule s (off / 64)).getD (off % 64) 0

/-- `len` LPDDR5X bytes as their owner reads them. -/
def lpxBytes (s : State) (off len : Nat) : List Byte :=
  slice ((unitsOf off len 64).flatMap (granule s)) (off % 64) len

def lpxRead (off len : Nat) (s : State) : List Byte × Bool × State :=
  let a := (unitsOf off len 64).foldl granuleCheck (false, s)
  (lpxBytes s off len, a.1, a.2)

/-- Write LPDDR5X under each granule's own key; a granule written in full loses its error (R301, R303). -/
def lpxWrite (off : Nat) (data : List Byte) (s : State) : State :=
  let len := data.length
  if len = 0 then s
  else
    let gs := unitsOf off len 64
    let stop := off + len
    let whole := (granule s (off / 64)).take (off % 64) ++ data
      ++ (granule s ((stop - 1) / 64)).drop ((stop - 1) % 64 + 1)
    let full := gs.filter fun g => off ≤ 64 * g ∧ 64 * g + 64 ≤ stop
    s.setMem { s.mem with
      lpx := tsetRun none s.mem.lpx (off / 64)
        ((gs.zip (cut 64 gs.length whole)).map fun x => some { key := granKey s x.1, data := x.2 })
      lpxEcc := if s.mem.lpxEcc.isEmpty then [] else full.foldl tdrop s.mem.lpxEcc }

/-! ### The checks at a target (R313, R322) -/

/-- Who issues a request. -/
inductive Src where
  /-- A host through DMA_COPY or BAR2, for a realm. -/
  | host
  /-- A cluster DMA or collective engine of the job of `slot`; `sol` for a solstice-phase instance. -/
  | agent (slot : Nat) (sol : Bool)
  /-- A CHECKPOINT_RESTORE of the job of `slot`. -/
  | restore (slot : Nat)
  /-- Another chip, by its number. -/
  | remote (chip : Nat)
  deriving DecidableEq, Repr

/-- Page `pg` lies in a region. -/
def inRegion (r : Region) (pg : Nat) : Bool :=
  r.runs.any fun x => x.2.1 / 0x200000 ≤ pg && pg < x.2.1 / 0x200000 + x.2.2

/-- R322: a write by `src` to the PERSIST region of job `j` is accepted. -/
def fenceOpens (j : Job) (src : Src) : Bool :=
  let idle := (j.state == .admitted || j.state == .held || j.state == .aborted)
  match src with
  | .host => idle
  | .agent slot sol => slot == j.slot && (idle || (sol && j.sol == .run))
  | .restore slot => slot == j.slot
  | .remote _ => false

/-- R322 for a page. -/
def fenceOk (s : State) (src : Src) (pg : Nat) : Bool :=
  [s.jobA, s.jobB].all fun j => match j with
    | some j => !inRegion j.persist pg || fenceOpens j src
    | none => true

/-- R342: pages of a buddy region are written only by the chip that it is reserved for. -/
def buddyOk (s : State) (src : Src) (pg : Nat) : Bool :=
  s.buddies.all fun e => match e.2 with
    | some b => !inRegion b.region pg || (match src with | .remote chip => chip == b.partner | _ => false)
    | none => true

/-- Offsets at which an access of `len` bytes has to be checked: its ends, and every multiple of 128 KiB in it. Each
boundary of R283, and each page boundary, is such a multiple. -/
def checkPoints (off len : Nat) : List Nat :=
  off :: (off + len - 1) :: ((unitsOf off len 0x20000).drop 1).map (0x20000 * ·)

/-- Checks 2 to 5 at one offset; none when they pass. -/
def checkAt (realm : Nat) (src : Src) (write : Bool) (s : State) (off : Nat) : Option Nat :=
  match placeOf s off with
  | .lpx d =>
    if !backed s d (off % 0x4000000000) || !domOn s (8 * d + 7) then some 2
    else match pageAttr s (off / 0x200000) with
      | none => some 3
      | some (o, _) =>
        if o ≠ realm || (write && !buddyOk s src (off / 0x200000)) then some 3
        else if write && !fenceOk s src (off / 0x200000) then some 5
        else none
  | .sliver d _ _ slot =>
    if !domOn s (8 * d + 4) then some 2 else if bindOf s slot = some realm then none else some 4
  | .shared d slot =>
    if !domOn s (8 * d + 4) then some 2 else if bindOf s slot = some realm then none else some 4
  | _ => some 2

/-- The first check that fails for the whole access: each is made on all of it before the next. -/
def checkRange (realm : Nat) (src : Src) (write : Bool) (off len : Nat) (s : State) : Option Nat :=
  if len = 0 then none else ((checkPoints off len).filterMap (checkAt realm src write s)).min?

/-- REMOTE_DENIED (R313). -/
def remoteDenied (chip off check : Nat) (s : State) : State :=
  logFold ticksMs 0x2007 0xFF 0xFFFF 0 [dw chip, dw off, dw check] s

/-- The SRM block that serves an offset is in Fault (R317). -/
def srmFault (s : State) (off : Nat) : Bool := (blk s (baseSRM ((off - 0x080000000000) / 0x80000000))).st == .fault

/-- A stack of die `d` is in Fault. -/
def lpxFaultOn (s : State) (d : Nat) : Bool := (List.range 5).any fun k => (blk s (baseLPX (5 * d + k))).st == .fault

/-- The stack that holds granule `g` of die `d` is in Fault: it issues refresh only (R317). -/
def granFault (s : State) (d g : Nat) : Bool := (blk s (baseLPX (rawPlace s d (64 * g % 0x4000000000)).1)).st == .fault

/-- Read checked memory. In Fault, SRM and LPX return poison (R317). -/
def memRead (realm off len : Nat) (s : State) : List Byte × Bool × State :=
  match placeOf s off with
  | .lpx d =>
    let a := lpxRead off len s
    (a.1, a.2.1 || (lpxFaultOn s d && (unitsOf off len 64).any (granFault s d)), a.2.2)
  | _ =>
    let a := sramRead realm off len s
    (a.1, a.2.1 || srmFault s off, a.2.2)

/-- Write checked memory; a block in Fault takes nothing (R317). -/
def memWrite (realm off : Nat) (data : List Byte) (s : State) : State :=
  match placeOf s off with
  | .lpx d =>
    if !lpxFaultOn s d then lpxWrite off data s
    else (unitsOf off data.length 64).foldl (fun t g =>
      let lo := max off (64 * g)
      if granFault t d g then t else lpxWrite lo (slice data (lo - off) (min (off + data.length) (64 * g + 64) - lo)) t) s
  | _ => if srmFault s off then s else sramWrite realm off data s

/-! ### The stash (R309 to R312) -/

/-- Where stash page (m, page) of a slot on die `d` lives. -/
def stashFind (s : State) (d slot m page : Nat) : Option StashLoc :=
  ((tget {} s.srm d).stash.find? fun e => e.1 == slot && e.2.1 == m && e.2.2.1 == page).map (·.2.2.2)

/-- Base and units of a job's spill share on die `d`. -/
def spillShare (s : State) (d slot : Nat) : Nat × Nat :=
  match jobAt s slot with
  | none => (0, 0)
  | some j => match j.spill.runs.find? fun r => r.1 == d with
    | some r => (r.2.1, r.2.2 * 32)
    | none => (0, 0)

/-- Device offset of a stash place. -/
def stashAddr (s : State) (d slot : Nat) : StashLoc → Nat
  | .pool i => poolAddr d slot i
  | .spill i => (spillShare s d slot).1 + i * 0x10000

def stashUsed (s : State) (d slot : Nat) : List StashLoc :=
  ((tget {} s.srm d).stash.filter fun e => e.1 == slot).map (·.2.2.2)

/-- First free pool page, then first free spill unit (R310). -/
def stashFree (s : State) (d slot : Nat) : Option StashLoc :=
  let used := stashUsed s d slot
  if 131072 ≤ used.length then none
  else match (List.range 128).find? fun i => !used.contains (.pool i) with
    | some i => some (.pool i)
    | none => ((List.range (min 131072 (spillShare s d slot).2)).find? fun i => !used.contains (.spill i)).map .spill

/-- Pages that micro-batch m holds on the die. -/
def stashHeld (s : State) (d slot m : Nat) : Nat :=
  ((tget {} s.srm d).stash.filter fun e => e.1 == slot && e.2.1 == m).length

/-- Note the largest number of pages that a micro-batch has held (R311). -/
def peakSet (slot m n : Nat) (l : List (Nat × Nat × Nat)) : List (Nat × Nat × Nat) :=
  if l.any fun e => e.1 == slot && e.2.1 == m then
    l.map fun e => if e.1 == slot && e.2.1 == m then (slot, m, max e.2.2 n) else e
  else l ++ [(slot, m, n)]

/-- Allocate a stash page; the first spill of a step is logged (R310). -/
def stashAlloc (d slot m page : Nat) (s : State) : Option State :=
  match stashFree s d slot with
  | none => none
  | some loc =>
    let x := tget {} s.srm d
    let s1 := s.setSrm (tset {} s.srm d { x with stash := x.stash ++ [(slot, m, page, loc)] })
    let n := stashHeld s1 d slot m
    let s2 := s1.setSrm (tmod {} s1.srm d fun y => { y with peak := peakSet slot m n y.peak })
    match loc with
    | .pool _ => some s2
    | .spill _ =>
      match jobAt s2 slot with
      | some j => match j.step with
        | some st =>
          if st.spillLogged then some s2
          else some (logJob 0x2003 j (resDie d) [dw m] (setJobAt s2 slot (some { j with
            step := some { st with spillLogged := true } })))
        | none => some s2
      | none => some s2

/-- Allocate what a stash write of [b, b + len) of micro-batch m needs; none when the stash is exhausted. -/
def stashReserve (d slot m b len : Nat) (s : State) : Option State :=
  (unitsOf b len 0x10000).foldl (fun a p => a.bind fun t =>
    if (stashFind t d slot m p).isSome then some t else stashAlloc d slot m p t) (some s)

/-- The device offset behind byte `b` of the stash of micro-batch m. -/
def stashByteAddr (s : State) (d slot m b : Nat) : Option Nat :=
  (stashFind s d slot m (b / 0x10000)).map fun l => stashAddr s d slot l + b % 0x10000

/-- One stash byte: bytes that were not written are free (R310). -/
def stashByte (s : State) (realm d slot m b : Nat) : Byte :=
  match stashByteAddr s d slot m b with
  | none => 0
  | some a =>
    if !((tget {} s.srm d).written.any fun w => w.1 == slot && w.2.1 == m && w.2.2.1 ≤ b && b < w.2.2.1 + w.2.2.2) then
      Config.staleByte a s.freeCtr
    else match placeOf s a with
      | .lpx _ => lpxByte s a
      | _ => sramByte s realm a

/-- Read the stash; none when a page was not written in the step. -/
def stashRead (realm d slot m b len : Nat) (s : State) : Option (List Byte × Bool × State) :=
  let pages := unitsOf b len 0x10000
  if pages.any fun p => (stashFind s d slot m p).isNone then none
  else
    let data := (List.range len).map fun i => stashByte s realm d slot m (b + i)
    let a := pages.foldl (fun (a : Bool × State) p =>
      match stashFind a.2 d slot m p with
      | none => a
      | some l =>
        let lo := max b (p * 0x10000)
        let n := min (b + len) ((p + 1) * 0x10000) - lo
        let x := memRead realm (stashAddr a.2 d slot l + lo % 0x10000) n a.2
        (a.1 || x.2.1, x.2.2)) (false, s)
    some (data, a.1, a.2)

/-- Write the stash, byte ranges page by page; none when it is exhausted. -/
def stashWrite (realm d slot m b : Nat) (data : List Byte) (s : State) : Option State :=
  (stashReserve d slot m b data.length s).map fun t0 =>
    let t := t0.setSrm (tmod {} t0.srm d fun x => { x with written := (slot, m, b, data.length) :: x.written })
    (unitsOf b data.length 0x10000).foldl (fun u p =>
      match stashFind u d slot m p with
      | none => u
      | some l =>
        let lo := max b (p * 0x10000)
        let n := min (b + data.length) ((p + 1) * 0x10000) - lo
        memWrite realm (stashAddr u d slot l + lo % 0x10000) (slice data (lo - b) n) u) t

/-! ### Placing regions (R307, R342) -/

/-- Page numbers of die `d` that a realm may take: all, or the half of its slot in two-realm mode. `half` is none for
single-realm mode. -/
def pageRange (d : Nat) (half : Option Nat) : Nat × Nat :=
  let b := d * 0x4000000000 / 0x200000
  match half with
  | none => (b, 131072)
  | some h => (b + h * 65536, 65536)

/-- Lowest run of `n` free backed pages of a die (the place within the half is log entry 13). -/
def findRun (s : State) (d : Nat) (half : Option Nat) (n : Nat) : Option Nat :=
  let r := pageRange d half
  let used := s.mem.page.map (·.1)
  let free (pg : Nat) : Bool :=
    !used.contains pg && backed s d (pg * 0x200000 % 0x4000000000)
      && backed s d (pg * 0x200000 % 0x4000000000 + 0x1FFFFF)
  let starts := r.1 :: ((used.filter fun u => r.1 ≤ u && u < r.1 + r.2).map (· + 1))
  starts.find? fun b => b + n ≤ r.1 + r.2 && (n == 0 || (List.range n).all fun i => free (b + i))

/-- The LPDDR5X of die `d` can give pages (R296). -/
def dieBacked (s : State) (d : Nat) : Bool :=
  domOn s (8 * d + 7) && (List.range 5).all fun k =>
    !((stack s (5 * d + k)).training || (stack s (5 * d + k)).initializing)

/-- Place a region of `bytes` over the dies given, page p on die p mod n; none when a run does not fit. -/
def placeRegion (s : State) (ds : List Nat) (halfs : List (Option Nat)) (owner epoch bytes : Nat) :
    Option (Region × State) :=
  let n := ds.length
  let pages := (bytes + 0x1FFFFF) / 0x200000
  let r := ((List.range n).zip ds).foldl (fun (a : Option (Region × State)) jd =>
    a.bind fun (reg, t) =>
      let share := (pages + n - 1 - jd.1) / n
      if share = 0 then some (reg, t)
      else if !dieBacked t jd.2 then none
      else (halfs.findSome? fun h => findRun t jd.2 h share).map fun b =>
        ({ reg with runs := reg.runs ++ [(jd.2, b * 0x200000, share)] },
          (List.range share).foldl (fun u i => assignPage owner epoch (b + i) u) t))
    (some (({ bytes } : Region), s))
  if n = 0 then none else r

end Sys2Proof.Machine
end

