-- ==== Sys2Proof/Machine/Quant.lean ====
section
/-! DEFINITION. B formats (R166 to R171), the quantiser with its retry (R174 to R194), the edge converters' rules
(R184), and the watchers (R195 to R200). -/

namespace Sys2Proof.Machine

open Sys2Proof

/-! ### Formats -/

/-- Format codes of R172. -/
def isB (code : Nat) : Bool := code ≤ 2

/-- Magnitude width f of a B format code (R166). -/
def magBits (code : Nat) : Nat := match code with | 0 => 3 | 1 => 7 | _ => 15

/-- Bytes of a block of 32 elements, E of R170. -/
def blockBytes (code : Nat) : Nat := match code with | 0 => 16 | 1 => 32 | _ => 64

/-- Bytes of one element of a binary format. -/
def elemBytes (code : Nat) : Nat := match code with | 0x10 => 4 | 1 => 1 | 0 => 1 | _ => 2

def binFmt (code : Nat) : FFmt := match code with | 0x10 => f32 | 0x11 => f16 | _ => bf16

/-- Elements of a block as bytes (R170). -/
def packElems (code : Nat) (es : List Nat) : List Byte :=
  match code with
  | 0 => (List.range 16).map fun i => BitVec.ofNat 8 (es.getD (2 * i) 0 + 16 * es.getD (2 * i + 1) 0)
  | 1 => (List.range 32).map fun i => BitVec.ofNat 8 (es.getD i 0)
  | _ => (List.range 32).flatMap fun i => leBytes 2 (es.getD i 0)

def unpackElem (code : Nat) (bs : List Byte) (i : Nat) : Nat :=
  match code with
  | 0 => ((bs.getD (i / 2) 0).toNat >>> (4 * (i % 2))) % 16
  | 1 => (bs.getD i 0).toNat
  | _ => leAt bs (2 * i) 2

/-! ### Decoding (R167, R171, R182) -/

/-- One element of a block with shift code `s` under scale S. -/
def decodeElem (f s : Nat) (S : F32) (w : Nat) : F32 :=
  let m := w % 2 ^ f
  let neg := w / 2 ^ f % 2 == 1
  if s = 15 ∧ m = 2 ^ f - 1 then BitVec.ofNat 32 (pack f32 (.inf neg))
  else if s = 15 ∧ m = 0 ∧ neg then fNan
  else
    let sh := if s = 15 then 0 else s
    let v := rnd (vMul (.fin false m (-((sh + f : Nat) : Int))) (unp S))
    if neg && v != fNan then fNegate v else v

/-! ### Scales (R174, R175) -/

/-- The exponent k of the smallest power of two S = 2^k with a × 2^f ≤ limit × S, for a = m × 2^e > 0. -/
def fitExp (m : Nat) (e : Int) (f limit : Nat) : Int :=
  let k0 := (m.log2 : Int) + e
  let ok (k : Int) : Bool :=
    let p := pow2 (e + f - k)
    m * p.1 ≤ limit * p.2
  if ok (k0 - 1) then k0 - 1 else if ok k0 then k0 else if ok (k0 + 1) then k0 + 1 else k0 + 2

/-- P(a, f) as an exponent, for a finite a > 0. -/
def fitOf (a : F32) (f limit : Nat) : Int :=
  match unp a with
  | .fin _ m e => fitExp m e f limit
  | _ => 128

/-- The scale 2^k, at most 2^127 (log entry 14). -/
def scaleExp (k : Int) : F32 := fPow2 (min 127 (max (-149) k))

/-- Largest magnitude of the finite values. -/
def maxMag (xs : List F32) : F32 :=
  xs.foldl (fun a x => if isNonFinite x then a else if a.toNat < (fAbs x).toNat then fAbs x else a) 0

/-- 1/S rounded once to 24 bits, as m × 2^e (R178). -/
def recipOf (S : F32) : Nat × Int :=
  match unp S with
  | .fin _ m e =>
    if m = 0 then (0, 0)
    else if m = 2 ^ m.log2 then (1, -(e + m.log2))
    else (divRne (2 ^ (m.log2 + 24)) m, -(e + m.log2 + 24))
  | _ => (0, 0)

/-! ### Rounding (R179, R180) -/

/-- STOCH: SEED, STEP and TID of the tensor; none rounds to nearest-even. -/
abbrev Stoch := Option (W32 × W32 × W32)

/-- The 16-bit value r of R180. -/
def stochR (seed step tid index : W32) : Nat :=
  let h := seed ^^^ (step * 0x9E3779B9) ^^^ (tid * 0x85EBCA6B) ^^^ index
  let h := h ^^^ (h >>> 16)
  let h := h * 0x7FEB352D
  let h := h ^^^ (h >>> 15)
  let h := h * 0x846CA68B
  let h := h ^^^ (h >>> 16)
  (h >>> 16).toNat

/-- Round v = n × 2^e to an integer. -/
def roundV (st : Stoch) (index : Nat) (n : Nat) (e : Int) : Nat :=
  let p := pow2 e
  match st with
  | none => divRne (n * p.1) p.2
  | some (seed, step, tid) =>
    let q := n * p.1 / p.2
    let phi := (n * p.1 - q * p.2) * 65536 / p.2
    if 65536 ≤ phi + stochR seed step tid (BitVec.ofNat 32 index) then q + 1 else q

/-! ### Blocks (R178, R181) -/

/-- Encode one finite value at shift s with magnitude limit `lim`: code, saturated, zero. -/
def encElem (f s lim : Nat) (inv : Nat × Int) (st : Stoch) (x : F32) (index : Nat) : Nat × Bool × Bool :=
  match unp x with
  | .fin neg m e =>
    let n := m * inv.1
    let ex := e + inv.2 + ((s + f : Nat) : Int)
    let p := pow2 ex
    let sat := decide (lim * p.2 < n * p.1)
    let k := min lim (roundV st index n ex)
    (k + (if neg && 0 < k then 2 ^ f else 0), sat, k == 0)
  | _ => (0, false, true)

/-- Encode a non-finite value (R171). -/
def encNonFinite (f : Nat) (x : F32) : Nat :=
  match unp x with
  | .inf neg => 2 ^ f - 1 + if neg then 2 ^ f else 0
  | _ => 2 ^ f

/-- Counts of a quantise operation, with the largest finite magnitude (R181). -/
structure QCount where
  nf : Nat := 0
  sat : Nat := 0
  zero : Nat := 0
  amax : F32 := 0
  deriving DecidableEq, Repr

def QCount.add (a b : QCount) : QCount :=
  { nf := a.nf + b.nf, sat := a.sat + b.sat, zero := a.zero + b.zero
    amax := if a.amax.toNat < b.amax.toNat then b.amax else a.amax }

/-- An element of a quantise operation's source: its value and its index in the flattened tensor; none for padding. -/
abbrev QElem := Option (F32 × Nat)

/-- The shift of a block of finite values: the largest s in 0 to 14 that fits, 0 if none does (R178). -/
def shiftOf (f : Nat) (inv : Nat × Int) (xs : List QElem) : Nat :=
  let a := maxMag (xs.filterMap fun x => x.map (·.1))
  let fits (s : Nat) : Bool :=
    match unp a with
    | .fin _ m e =>
      let p := pow2 (e + inv.2 + ((s + f : Nat) : Int))
      m * inv.1 * p.1 ≤ (2 ^ f - 1) * p.2
    | _ => false
  ((List.range 15).reverse.find? fits).getD 0

/-- One block: shift code, 32 element codes, counts (R178). -/
def encBlock (f : Nat) (inv : Nat × Int) (st : Stoch) (xs : List QElem) : Nat × List Nat × QCount :=
  let nonf := xs.any fun x => (x.map fun y => isNonFinite y.1).getD false
  let s := if nonf then 15 else shiftOf f inv xs
  let lim := if nonf then 2 ^ f - 2 else 2 ^ f - 1
  let one (x : QElem) : Nat × QCount :=
    match x with
    | none => (0, {})
    | some (v, i) =>
      if isNonFinite v then (encNonFinite f v, { nf := 1 })
      else
        let r := encElem f (if nonf then 0 else s) lim inv st v i
        (r.1, { sat := b2n r.2.1, zero := if r.2.2 && !r.2.1 then 1 else 0, amax := fAbs v })
  let rs := xs.map one
  (s, rs.map (·.1), rs.foldl (fun a r => a.add r.2) {})

/-- One pass over a tile under S. -/
def encPass (f : Nat) (S : F32) (st : Stoch) (blocks : List (List QElem)) : List (Nat × List Nat) × QCount :=
  let rs := blocks.map (encBlock f (recipOf S) st)
  (rs.map (fun r => (r.1, r.2.1)), rs.foldl (fun a r => a.add r.2.2) {})

/-- The outcome of a quantise operation (R190 to R194). -/
inductive QOut where
  /-- Blocks as (shift, codes), tile scale word, counts of the pass written, and first scale and sat count of a retry. -/
  | written (blocks : List (Nat × List Nat)) (S : F32) (n : QCount) (retry : Option (F32 × Nat))
  | failed (S : F32) (n : QCount)
  deriving DecidableEq, Repr

/-- All finite values and whether some block is non-finite. -/
def tileVals (blocks : List (List QElem)) : List F32 := (blocks.flatMap id).filterMap fun x => x.map (·.1)

/-- A quantise operation on one tile: `limit` is the saturation limit in force. -/
def quantTile (f : Nat) (S : F32) (st : Stoch) (limit : Nat) (blocks : List (List QElem)) : QOut :=
  let p := encPass f S st blocks
  if p.2.sat ≤ limit then .written p.1 S p.2 none
  else
    let vals := tileVals blocks
    let top := if vals.any isNonFinite then 2 ^ f - 2 else 2 ^ f - 1
    let k := fitOf (maxMag vals) f top
    if 127 < k then .failed S p.2
    else
      let sr := fPow2 k
      let q := encPass f sr st blocks
      .written q.1 sr q.2 (some (S, p.2.sat))

/-- S of an operation on a tensor (R175): EXACT takes the source's own fitting scale. -/
def opScale (t : Tensor) (inForce : F32) (f : Nat) (vals : List F32) : F32 :=
  if t.scaleMode = 2 then
    let a := maxMag vals
    if a = 0 then t.initScale else scaleExp (fitOf a f (2 ^ f - 1))
  else inForce

/-! ### The next scale of a tensor (R175, R176) -/

/-- S that a tensor takes at the start of a step. -/
def predict (t : Tensor) (hist : List F32) : F32 :=
  if !isB t.format then fOne
  else if t.scaleMode = 0 then
    let a := maxMag hist
    if a = 0 then t.initScale else scaleExp (fitOf a (magBits t.format) (2 ^ magBits t.format - 1) + t.headroom)
  else t.initScale

/-! ### Watchers (R195 to R200) -/

/-- The tensor record of a TID of a job. -/
def tensorOf (j : Job) (tid : Nat) : Option Tensor := j.tensors.find? fun t => t.tid == tid

/-- The record of a TID on die `d` (R250). -/
def tensorOn (j : Job) (d tid : Nat) : Option Tensor :=
  (tensorOf j tid).filter fun t => t.target == 0xFF || t.target == d

/-- Add to a watcher entry. -/
def watAdd (e : WatEntry) (n : QCount) (retries : Nat) : WatEntry :=
  { zeros := satAdd (2 ^ 32 - 1) e.zeros n.zero, sats := satAdd (2 ^ 32 - 1) e.sats n.sat
    nonfin := satAdd (2 ^ 32 - 1) e.nonfin n.nf, retries := satAdd (2 ^ 32 - 1) e.retries retries
    amax := if e.amax.toNat < n.amax.toNat then n.amax else e.amax }

def satInc (w : W32) (k : Nat) : W32 := BitVec.ofNat 32 (satAdd (2 ^ 32 - 1) w.toNat k)

/-- The job whose work a slot does: its own, or the other slot's in fill work. -/
def ctxJob (s : State) (slot : Nat) : Option Job := jobAt s (ownerSlot s slot)

/-- The consequences of a non-finite count: NONFINITE_TENSOR once per TID and step, and the local flag (R199, R200). -/
def nonfiniteSeen (slot d c : Nat) (t : Tensor) (s : State) : State :=
  let own := ownerSlot s slot
  match jobAt s own with
  | none => s
  | some j => match j.step with
    | none => s
    | some st =>
      let st1 := if t.consensus then { st with localFlag := true } else st
      let first := !st.nfLogged.contains t.tid
      let s1 := setJobAt s own (some { j with step := some { st1 with
        nfLogged := if first then st.nfLogged ++ [t.tid] else st.nfLogged } })
      if first then logJob 0x1001 j (resCluster d c) [dw t.tid, dw t.cls, rtNow s] s1 else s1

/-- A watcher counts elements of a TID in the table of the context's slot (R181, R195): only a watched tensor of the job
that the slot works for, and only while the block is On. -/
def watCount (d c slot tid : Nat) (n : QCount) (retries : Nat) (s : State) : State :=
  match (ctxJob s slot).bind (tensorOn · d tid) with
  | none => s
  | some t =>
    if !t.watch || !blkOn s (baseWAT d c) then s
    else
      let k := ctxKey d c slot
      let tot := s.cmp.watTot
      let tot1 := tmod 0 tot (3 * k) (satInc · n.nf)
      let tot2 := tmod 0 tot1 (3 * k + 1) (satInc · n.sat)
      let tot3 := tmod 0 tot2 (3 * k + 2) (satInc · retries)
      let s1 := s.setCmp { s.cmp with
        wat := tmod {} s.cmp.wat (256 * k + tid) fun e => watAdd e n retries
        watTot := tot3 }
      if 0 < n.nf then nonfiniteSeen slot d c t s1 else s1

/-- SATURATE_RECOMPUTE with both scales and the first pass's saturation count, folded per TID within a step (R191, R194):
the step's records of a TID are one. -/
def logRecompute (d c slot tid : Nat) (S sr : F32) (sat : Nat) (s : State) : State :=
  match ctxJob s slot with
  | none => s
  | some j =>
    let since := (j.step.map (·.startRt)).getD 0
    logEv (fun e => e.code == 0x1002 && e.job == j.id && e.realm == BitVec.ofNat 8 j.realm && e.data.head? == some (dw tid)
        && decide (since.toNat ≤ e.rt.toNat))
      0x1002 (BitVec.ofNat 8 j.realm) j.id (resCluster d c) [dw tid, dw S.toNat, dw sr.toNat, dw sat] s

/-- RECOMPUTE_FAILED (R192): the step is aborted. In fill work the instance ends in fault and the step goes on (R276). -/
def recomputeFailed (d c slot tid : Nat) (s : State) : State :=
  let own := ownerSlot s slot
  match jobAt s own with
  | none => s
  | some j =>
    let s1 := setJobAt s own (some { j with step := j.step.map fun st => { st with recompute := true } })
    let s2 := logJob 0x1003 j (resCluster d c) [dw tid] s1
    if own = slot then abortStep slot s2 else s2

/-- The saturation limit in force (R190). -/
def satLimit (s : State) (d c slot : Nat) : Nat :=
  min (((ctxJob s slot).map (·.adm.satLimit)).getD 1024) (satCap s d c)

/-- STOCH operands of a tensor in the job's step (R180, R189). -/
def stochOf (j : Job) (t : Tensor) : Stoch :=
  if t.stoch then some (t.seed, BitVec.ofNat 32 (j.stepNo.toNat + 1), BitVec.ofNat 32 t.tid) else none

end Sys2Proof.Machine
end

