-- ==== Sys2Proof/Machine/Tile.lean ====
section
/-! DEFINITION. Tile programs and the matrix queue (chapter 06). A core issues the instruction at its PC; WLD, MMA and
DRN go through the matrix queue, whose starts and ends are commands of their own. -/

namespace Sys2Proof.Machine

open Sys2Proof

/-! ### Issue -/

/-- The instruction word at the PC of a core. -/
def tileWord (s : State) (d c k : Nat) : W32 :=
  let x := core s d c k
  tget 0 s.prg.tile ((2 * (4 * d + c / 12) + x.slot) * 1024 + x.pc)

/-- A core issues (R48, R54, R163, R165); in Disabling it carries on what it has accepted (R84). -/
def coreIssues (s : State) (d c k : Nat) : Bool :=
  let x := core s d c k
  x.task.isSome && !x.ending && !x.gated && clocksRun s && domOn s (quadDom d c) && blkWorks s (baseCORE d c k)

/-- Advance the PC; a fetch beyond instruction 1,023 is a PC_BOUND fault (R160). -/
def tileAdvance (d c k : Nat) (x : Core) (s : State) : State :=
  let s1 := setCore s d c k { x with pc := x.pc + 1 }
  if 1023 ≤ x.pc then tileFault d c k 3 s1 else s1

/-- Issue word `w` at core (d, c, k) when it stands at the PC and has opcode `op`. -/
def tileIssue (d c k : Nat) (w : W32) (op : Nat → Bool) (body : Core → State → State) (s : State) : Res :=
  if !coreIssues s d c k || tileWord s d c k != w || !op (fld w 26 6) then .next s
  else .next (body (core s d c k) s)

/-- An instruction with its reserved bits: a set one is ILLEGAL_OP (R159, R160). `used` is the mask of its fields. -/
def tileChecked (d c k : Nat) (w : W32) (used : Nat) (good : Bool) (body : Core → State → State) (x : Core)
    (s : State) : State :=
  if w.toNat % 2 ^ 26 &&& (2 ^ 26 - 1 - used) ≠ 0 || !good then tileFault d c k 1 s else body x s

def arOf (x : Core) (i : Nat) : W16 := tget 0 x.ar i

/-- Add to an address register, modulo 2^16. -/
def arAdd (x : Core) (i n : Nat) : Core := { x with ar := tset 0 x.ar i (arOf x i + BitVec.ofNat 16 n) }

/-- Bits of AR and IMM, and of LC. -/
def usedArImm : Nat := 0x3800000 + 0xFFFF

/-- TILE_NOP (R159); an undefined opcode ends the task in fault (R160). -/
def execTileNop (d c k : Nat) (w : W32) (s : State) : Res :=
  tileIssue d c k w (fun o => o = 0 || o = 7 || 0xC ≤ o)
    (tileChecked d c k w 0 (fld w 26 6 = 0) fun x t => tileAdvance d c k x t) s

/-- TILE_END (R154): the end waits for the queue; an undrained MMA is a fault (R160). -/
def execTileEnd (d c k : Nat) (w : W32) (s : State) : Res :=
  tileIssue d c k w (· = 1) (tileChecked d c k w 0 true fun x t =>
    if x.undrained then tileFault d c k 6 t else setCore t d c k { x with ending := true }) s

/-- SETA (R159). -/
def execSeta (d c k : Nat) (w : W32) (s : State) : Res :=
  tileIssue d c k w (· = 2) (tileChecked d c k w usedArImm true fun x t =>
    tileAdvance d c k { x with ar := tset 0 x.ar (fld w 23 3) (BitVec.ofNat 16 (fld w 0 16)) } t) s

/-- ADDA (R159). -/
def execAdda (d c k : Nat) (w : W32) (s : State) : Res :=
  tileIssue d c k w (· = 3) (tileChecked d c k w usedArImm true fun x t =>
    tileAdvance d c k (arAdd x (fld w 23 3) (fld w 0 16)) t) s

/-- LOOP (R159, R160). -/
def execLoop (d c k : Nat) (w : W32) (s : State) : Res :=
  tileIssue d c k w (· = 4) (tileChecked d c k w (0x3000000 + 0xFFF) true fun x t =>
    let l := fld w 24 2
    if 4 ≤ x.loops.length || x.loops.any (·.1 == l) then tileFault d c k 5 t
    else tileAdvance d c k { x with loops := (l, x.pc + 1) :: x.loops, lc := tset 0 x.lc l (fld w 0 12) } t) s

/-- ENDL (R159, R160): back to the instruction after its LOOP until the count is done. -/
def execEndl (d c k : Nat) (w : W32) (s : State) : Res :=
  tileIssue d c k w (· = 5) (tileChecked d c k w 0x3000000 true fun x t =>
    let l := fld w 24 2
    match x.loops with
    | (m, back) :: rest =>
      if m ≠ l then tileFault d c k 5 t
      else if tget 0 x.lc l = 0 then tileAdvance d c k { x with loops := rest } t
      else setCore t d c k { x with pc := back, lc := tset 0 x.lc l (tget 0 x.lc l - 1) }
    | [] => tileFault d c k 5 t) s

/-! ### Sliver access -/

/-- Device offset of a line of the slot's half of a core's sliver (R161, R283). -/
def lineAddr (d c k slot line : Nat) : Nat := sliverBase d c k + slot * 0xA0000 + 32 * line

/-- Lines `a` to `a + n − 1` lie in the half (R160). -/
def linesIn (a n : Nat) : Bool := a + n ≤ 20480

/-- Read lines of the core's half; SRM in Fault returns poison (R317). -/
def readLines (d c k slot line n : Nat) (s : State) : List Byte × Bool × State :=
  memRead (slotRealm s slot) (lineAddr d c k slot line) (32 * n) s

/-- SCL (R154, R159): after every earlier DRN write; it reads its word at issue. -/
def execScl (d c k : Nat) (w : W32) (errs : List (Nat × Nat)) (s : State) : Res :=
  tileIssue d c k w (· = 6) (tileChecked d c k w (0x3800000 + 7) true fun x t =>
    let a := (arOf x (fld w 23 3)).toNat
    if x.queue.any fun e => match e with | .drn _ _ _ _ => true | _ => false then t
    else if !linesIn a 1 then tileFault d c k 2 t
    else
      let r := memRead (slotRealm t x.slot) (lineAddr d c k x.slot a + 4 * fld w 0 3) 4 (applyErrs errs t)
      if r.2.1 then tileFault d c k 9 r.2.2
      else tileAdvance d c k { x with sc := BitVec.ofNat 32 (leNat r.1) } r.2.2) s

/-- SYNC (R159): waits until the queue is empty. -/
def execSync (d c k : Nat) (w : W32) (s : State) : Res :=
  tileIssue d c k w (· = 0xB) (tileChecked d c k w 0 true fun x t =>
    if x.queue.isEmpty then tileAdvance d c k x t else t) s

/-! ### The matrix queue: issue (R154, R155, R159, R160) -/

def fmtOf (n : Nat) : BFmt := match n with | 0 => .b4 | 1 => .b8 | _ => .b16
def fmtBits : BFmt → Nat | .b4 => 4 | .b8 => 8 | .b16 => 16
def fmtCode : BFmt → Nat | .b4 => 0 | .b8 => 1 | .b16 => 2
def fmtMag (f : BFmt) : Nat := fmtBits f - 1
/-- Tiles per bank (R149). -/
def bankTiles : BFmt → Nat | .b4 => 16 | .b8 => 8 | .b16 => 4
/-- Lines of a weight tile record (R156). -/
def wldLines (f : BFmt) : Nat := 1 + 4 * fmtBits f
/-- Lines of an activation group record of T tiles (R157). -/
def groupLines (f : BFmt) (t : Nat) : Nat := 1 + 4 * t * (4 * fmtBits f) / 32

/-- Lines of a group record that an MMA reads (R157): the shifts, and the vectors of the arrays `vs` that it enables. -/
def mmaReads (f : BFmt) (t : Nat) (vs : List Nat) : List Nat :=
  let span := t * (4 * fmtBits f)
  (List.range (groupLines f t)).filter fun l =>
    l == 0 || vs.any fun v => decide (v * span < 32 * l) && decide (32 * (l - 1) < (v + 1) * span)

def bankOf (x : Core) (b : Nat) : Bank := if b = 0 then x.bank0 else x.bank1
def setBank (x : Core) (b : Nat) (k : Bank) : Core := if b = 0 then { x with bank0 := k } else { x with bank1 := k }

/-- Tiles that bank `b` holds for the next MMA issued: those of the last WLD queued on it, or the bank's own. -/
def bankTilesFor (x : Core) (b : Nat) : Nat × BFmt :=
  let own := (bankOf x b).tiles.length
  x.queue.foldl (fun a e => match e with
    | .wld _ _ b' f t => if b' = b then (t, f) else a
    | _ => a) (own, (bankOf x b).fmt)

/-- Queue an operation that uses AR, and advance AR and PC. -/
def enqueue (d c k ar n : Nat) (pi : Bool) (e : QEntry) (x : Core) (s : State) : State :=
  let y := { x with queue := x.queue ++ [e] }
  tileAdvance d c k (if pi then arAdd y ar n else y) s

/-- WLD (R159). -/
def execWld (d c k : Nat) (w : W32) (s : State) : Res :=
  tileIssue d c k w (· = 8) (tileChecked d c k w 0x3F8000F (fld w 20 2 ≠ 3) fun x t =>
    let f := fmtOf (fld w 20 2)
    let n := fld w 0 4 + 1
    let a := (arOf x (fld w 23 3)).toNat
    if 8 ≤ x.queue.length then t
    else if !linesIn a (n * wldLines f) then tileFault d c k 2 t
    else if bankTiles f < n then tileFault d c k 4 t
    else if !blkOn t (baseARR d c k) then tileFault d c k 8 t
    else enqueue d c k (fld w 23 3) (n * wldLines f) (bit w 19) (.wld .waiting a (fld w 22 1) f n) x t) s

/-- MMA (R159). -/
def execMma (d c k : Nat) (w : W32) (s : State) : Res :=
  tileIssue d c k w (· = 9) (tileChecked d c k w 0x3FCF0FF (fld w 20 2 ≠ 3) fun x t =>
    let f := fmtOf (fld w 20 2)
    let n := fld w 0 4 + 1
    let first := fld w 4 4
    let a := (arOf x (fld w 23 3)).toNat
    if 8 ≤ x.queue.length then t
    else if !(mmaReads f n (bitsOf 4 (fld w 12 4))).all fun l => linesIn (a + l) 1 then tileFault d c k 2 t
    else if (bankTilesFor x (fld w 22 1)).1 < first + n then tileFault d c k 4 t
    else if x.undrained then tileFault d c k 6 t
    else if !blkOn t (baseARR d c k) then tileFault d c k 8 t
    else
      let own := x.ownBanks.contains (fld w 22 1) || x.queue.any fun e => match e with
        | .wld _ _ b _ _ => b == fld w 22 1
        | _ => false
      let t := if own then t else checkAbandon d c k t
      enqueue d c k (fld w 23 3) (groupLines f n) (bit w 19)
      (.mma .waiting a (fld w 22 1) f first n (BitVec.ofNat 4 (fld w 12 4)) (bit w 18) x.sc)
      { x with undrained := true } t) s

/-- Arrays whose rows the next DRN issued writes (R158): those of the last MMA issued. -/
def drnArrays (x : Core) : List Nat :=
  let queued := x.queue.foldl (fun (a : Option (List Nat)) e => match e with
    | .mma _ _ _ _ _ _ am _ _ => some (bitsOf 4 am.toNat)
    | _ => a) none
  queued.getD ((x.latch.getD []).map (·.1))

/-- DRN (R158, R159). -/
def execDrn (d c k : Nat) (w : W32) (s : State) : Res :=
  tileIssue d c k w (· = 0xA) (tileChecked d c k w 0x3E00000 true fun x t =>
    let a := (arOf x (fld w 23 3)).toNat
    if 8 ≤ x.queue.length then t
    else if x.undrained && !(drnArrays x).all fun v => linesIn (a + 4 * v) 4 then tileFault d c k 2 t
    else if !x.undrained then tileFault d c k 7 t
    else if !blkOn t (baseARR d c k) then tileFault d c k 8 t
    else enqueue d c k (fld w 23 3) 16 (bit w 21) (.drn .waiting a (bit w 22) [])
      { x with undrained := false } t) s

/-! ### The matrix queue: execution (R155) -/

/-- Split a queue at its first waiting entry of a kind: what stands before it, the entry, what follows. -/
def firstOfKind (p : QEntry → Bool) : List QEntry → Option (List QEntry × QEntry × List QEntry)
  | [] => none
  | e :: es => if p e then some ([], e, es) else (firstOfKind p es).map fun r => (e :: r.1, r.2)

def isWld (st : QSt) : QEntry → Bool | .wld q _ _ _ _ => q == st | _ => false
def isMma (st : QSt) : QEntry → Bool | .mma q _ _ _ _ _ _ _ _ => q == st | _ => false
def isDrn (st : QSt) : QEntry → Bool | .drn q _ _ _ => q == st | _ => false

/-- A DRN of the list writes lines that meet [a, a + n). -/
def drnMeets (l : List QEntry) (a n : Nat) : Bool :=
  l.any fun e => match e with | .drn _ b _ _ => decide (b < a + n ∧ a < b + 16) | _ => false

/-- An entry of the list uses bank `b`. -/
def mmaOn (l : List QEntry) (b : Nat) : Bool :=
  l.any fun e => match e with | .mma _ _ b' _ _ _ _ _ _ => b' == b | _ => false
def wldOn (l : List QEntry) (b : Nat) : Bool :=
  l.any fun e => match e with | .wld _ _ b' _ _ => b' == b | _ => false

/-- The arrays run: clocks, domain, CORE and ARR. -/
def arrRuns (s : State) (d c k : Nat) : Bool :=
  clocksRun s && domOn s (quadDom d c) && blkWorks s (baseCORE d c k) && blkOn s (baseARR d c k)
    && (core s d c k).task.isSome && !(core s d c k).gated

/-- WLD_START (R155): after every earlier MMA on the bank, and after every earlier DRN that writes its lines. -/
def execWldStart (d c k : Nat) (s : State) : Res :=
  let x := core s d c k
  if !arrRuns s d c k || x.queue.any (isWld .running) then .next s
  else match firstOfKind (isWld .waiting) x.queue with
    | some (pre, .wld _ a b f t, post) =>
      if mmaOn pre b || drnMeets pre a (t * wldLines f) then .next s
      else .next (setCore s d c k { setBank x b { fmt := f, tiles := [], loading := true } with
        queue := pre ++ .wld .running a b f t :: post })
    | _ => .next s

/-- One weight tile from its record (R156): shifts, elements row-major, nonzero-plane mask (R151). -/
def readTile (f : BFmt) (rec_ : List Byte) : WTile :=
  let n := fmtBits f
  let shifts := (List.range 32).map fun j => unpackElem 0 rec_ j
  let row (p i : Nat) : Nat := leAt rec_ (32 + 128 * p + 4 * i) 4
  let elem (i j : Nat) : Nat := (List.range n).foldl (fun v p => 2 * v + (row p i >>> j) % 2) 0
  { shifts, elems := (List.range 1024).map fun e => elem (e / 32) (e % 32)
    mask := BitVec.ofNat 16 (maskOf n fun p => (List.range 32).any fun i => row p i != 0)
    nonfinite := shifts.any (· == 15) }

/-- WLD_DONE (R149, R151): the bank holds its tiles; an uncorrectable error is an ECC fault (R160). -/
def execWldDone (d c k : Nat) (errs : List (Nat × Nat)) (s : State) : Res :=
  let x := core s d c k
  if !arrRuns s d c k then .next s
  else match firstOfKind (isWld .running) x.queue with
    | some (pre, .wld _ a b f t, post) =>
      let r := readLines d c k x.slot a (t * wldLines f) (applyErrs errs s)
      if r.2.1 then .next (tileFault d c k 9 r.2.2)
      else
        let tiles := (List.range t).map fun i => readTile f (slice r.1 (32 * wldLines f * i) (32 * wldLines f))
        .next (setCore r.2.2 d c k { setBank x b { fmt := f, tiles } with
          queue := pre ++ post, ownBanks := if x.ownBanks.contains b then x.ownBanks else x.ownBanks ++ [b] })
    | _ => .next s

/-! ### One MMA (R140 to R152) -/

/-- The vectors of an activation group record. -/
structure Group where
  fmt : BFmt
  tiles : Nat
  bytes : List Byte

def groupShift (g : Group) (v t : Nat) : Nat := unpackElem 0 g.bytes (v * g.tiles + t)

def groupElem (g : Group) (v t e : Nat) : Nat :=
  let sz := 4 * fmtBits g.fmt
  unpackElem (fmtCode g.fmt) (slice g.bytes (32 + (v * g.tiles + t) * sz) sz) e

/-- The exact integer of a sign-magnitude element. -/
def signedMag (n w : Nat) : Int :=
  let m : Int := (w % 2 ^ (n - 1) : Nat)
  if w / 2 ^ (n - 1) % 2 = 1 then -m else m

/-- The tile goes to the slow path (R152). -/
def slowTile (wt : WTile) (g : Group) (t : Nat) (vs : List Nat) : Bool :=
  wt.nonfinite || vs.any fun v => groupShift g v t == 15

/-- The drain of one result (R146): convert, scale, tensor scale. -/
def drainStep (dot : Int) (e : Nat) (sc : F32) : F32 :=
  let p := rnd (.fin (decide (dot < 0)) dot.natAbs 0)
  fMul (fMul p (fPow2 (-(e : Int)))) sc

/-- What the column-bottom unit of column `j` holds after the last plane of a tile: the exact integer dot product (R145). -/
def tileDot (wf : BFmt) (wt : WTile) (g : Group) (t v j : Nat) : Int :=
  (List.range 32).foldl (fun (a : Int) i =>
    a + signedMag (fmtBits wf) (wt.elems.getD (32 * i + j) 0) * signedMag (fmtBits g.fmt) (groupElem g v t i)) 0

/-- The units of array `v` after a tile. -/
def tileCols (wf : BFmt) (wt : WTile) (g : Group) (t v : Nat) : List Int := (List.range 32).map (tileDot wf wt g t v)

/-- What the activation FIFO of array `v` holds of its vector at most (R139). -/
def groupFifo (g : Group) (v : Nat) : List Byte :=
  let span := g.tiles * (4 * fmtBits g.fmt)
  (slice g.bytes (32 + v * span) span).take 512

/-- One column of one tile for one vector: the array's exact dot product and drain, or the slow path. -/
def tileColumn (wf : BFmt) (wt : WTile) (g : Group) (t v j : Nat) (sc : F32) (slow : Bool) : F32 :=
  let sw := wt.shifts.getD j 0
  let sa := groupShift g v t
  if slow then
    let sum := (List.range 32).foldl (fun a i =>
      fAdd a (fMul (decodeElem (fmtMag wf) sw fOne (wt.elems.getD (32 * i + j) 0))
        (decodeElem (fmtMag g.fmt) sa fOne (groupElem g v t i)))) 0
    fMul sum sc
  else
    drainStep (tileDot wf wt g t v j) (sw + sa + fmtMag wf + fmtMag g.fmt) sc

/-- The accumulators of array `v` after all tiles of an MMA (R146, R152). -/
def mmaRow (wf : BFmt) (tiles : List WTile) (g : Group) (sc : F32) (vs : List Nat) (v : Nat) : List F32 :=
  (List.range 32).map fun j =>
    (tiles.zip (List.range tiles.length)).foldl (fun a wt =>
      fAdd a (tileColumn wf wt.1 g wt.2 v j sc (slowTile wt.1 g wt.2 vs))) 0

/-- Plane cycles of one tile: sent and saved (R140, R142, R151). -/
def tileCycles (wf : BFmt) (af : BFmt) (skip : Bool) (wt : WTile) : Nat × Nat :=
  let n := fmtBits wf
  let passes := if af = .b16 then 2 else 1
  let set := (bitsOf n wt.mask.toNat).length
  let magn := (bitsOf n (wt.mask.toNat / 2 * 2)).length
  let sent := if !skip then n else if magn = 0 then 1 else set
  (passes * sent, passes * (n - sent))

/-- A counter of a core, by its index in R165 and the slot. -/
def coreCount (x : Core) (i n : Nat) : Core :=
  { x with counts := tmod 0 x.counts (2 * i + x.slot) (inc32 · n) }

/-- A read added to what has been read: its bytes, whether one was bad, and the state after it. -/
def readAnd (r x : List Byte × Bool × State) : List Byte × Bool × State := (r.1 ++ x.1, r.2.1 || x.2.1, x.2.2)

/-- Read the lines `ls` of an `n`-line record; the others are not read and leave zeros in their place. -/
def readGroup (d c k slot a n : Nat) (ls : List Nat) (s : State) : List Byte × Bool × State :=
  (List.range n).foldl (fun r l =>
    if ls.contains l then readAnd r (readLines d c k slot (a + l) 1 r.2.2) else (r.1 ++ zeros 32, r.2)) ([], false, s)

/-- MMA_START (R155): after every earlier WLD to the bank and every earlier DRN that writes the group record. -/
def execMmaStart (d c k : Nat) (errs : List (Nat × Nat)) (s : State) : Res :=
  let x := core s d c k
  if !arrRuns s d c k || x.queue.any (isMma .running) then .next s
  else match firstOfKind (isMma .waiting) x.queue with
    | some (pre, .mma _ a b f first t am ns sc, post) =>
      if wldOn pre b || drnMeets pre a (groupLines f t) then .next s
      else
        let r := readGroup d c k x.slot a (groupLines f t) (mmaReads f t (bitsOf 4 am.toNat)) (applyErrs errs s)
        if r.2.1 then .next (tileFault d c k 9 r.2.2)
        else
          let bk := bankOf x b
          let g : Group := { fmt := f, tiles := t, bytes := r.1 }
          let tiles := (bk.tiles.drop first).take t
          let vs := bitsOf 4 am.toNat
          let idx := tiles.zip (List.range tiles.length)
          let fast := idx.filter fun w => !slowTile w.1 g w.2 vs
          let cyc := fast.map fun w => tileCycles bk.fmt f (x.skipEn && !ns) w.1
          let cols := match fast.getLast? with
            | some w => (vs.map fun v => (v, tileCols bk.fmt w.1 g w.2 v)) ++ x.cols.filter fun e => !vs.contains e.1
            | none => x.cols
          let y := { x with
            fifo := vs.map fun v => (v, groupFifo g v), cols
            acc := vs.map fun v => (v, mmaRow bk.fmt tiles g sc vs v)
            queue := pre ++ .mma .running a b f first t am ns sc :: post
            slow := decide (fast.length < idx.length) }
          .next (setCore r.2.2 d c k
            (coreCount (coreCount (coreCount y 0 (cyc.foldl (fun n e => n + e.1) 0))
              1 (cyc.foldl (fun n e => n + e.2) 0)) 2 (idx.length - fast.length)))
    | _ => .next s

/-- MMA_DONE (R146, R155): the accumulators move to the drain latches once these are free. -/
def execMmaDone (d c k : Nat) (s : State) : Res :=
  let x := core s d c k
  if !arrRuns s d c k || x.latch.isSome then .next s
  else match firstOfKind (isMma .running) x.queue with
    | some (pre, _, post) =>
      .next (setCore s d c k { x with latch := some x.acc, acc := [], fifo := [], slow := false, queue := pre ++ post })
    | none => .next s

/-- DRN_START (R155): the nearest earlier MMA's rows are in the latches, which the DRN frees. -/
def execDrnStart (d c k : Nat) (s : State) : Res :=
  let x := core s d c k
  if !arrRuns s d c k || x.queue.any (isDrn .running) then .next s
  else match firstOfKind (isDrn .waiting) x.queue, x.latch with
    | some (pre, .drn _ a m _, post), some rows =>
      if pre.any fun e => isMma .waiting e || isMma .running e then .next s
      else .next (setCore s d c k { x with latch := none, queue := pre ++ .drn .running a m rows :: post })
    | _, _ => .next s

/-- Counts of the values that a DRN writes (R195). -/
def drnCounts (vals : List F32) : QCount :=
  vals.foldl (fun a v => a.add
    (if isNonFinite v then { nf := 1 } else { zero := b2n (isZero v), amax := fAbs v })) {}

/-- One row of an output record: read in add mode, and written (R158). -/
def drnRow (d c k slot a : Nat) (add : Bool) (acc : Bool × List F32 × State) (row : Nat × List F32) :
    Bool × List F32 × State :=
  let (bad, vals, s) := acc
  if bad then acc
  else
    let adr := lineAddr d c k slot (a + 4 * row.1)
    let old := if add then memRead (slotRealm s slot) adr 128 s else ([], false, s)
    if old.2.1 then (true, vals, old.2.2)
    else
      let new := if add then
          (row.2.zip (List.range 32)).map fun v => fAdd (BitVec.ofNat 32 (leAt old.1 (4 * v.2) 4)) v.1
        else row.2
      (false, vals ++ new,
        memWrite (slotRealm s slot) adr (new.flatMap fun v => leBytes 4 v.toNat) old.2.2)

/-- DRN_DONE (R158, R195). -/
def execDrnDone (d c k : Nat) (errs : List (Nat × Nat)) (s : State) : Res :=
  let x := core s d c k
  if !arrRuns s d c k then .next s
  else match firstOfKind (isDrn .running) x.queue with
    | some (pre, .drn _ a m rows, post) =>
      let r := rows.foldl (drnRow d c k x.slot a m) (false, [], applyErrs errs s)
      if r.1 then .next (tileFault d c k 9 r.2.2)
      else
        let s1 := setCore r.2.2 d c k { x with queue := pre ++ post }
        match x.task.bind (·.outTid) with
        | some tid => .next (watCount d c x.slot tid (drnCounts r.2.1) 0 s1)
        | none => .next s1
    | _ => .next s

/-- TILE_TASK_DONE (R154): END's wait is over; the pending task follows. -/
def execTileTaskDone (d c k : Nat) (s : State) : Res :=
  let x := core s d c k
  if x.task.isNone || !x.ending || !x.queue.isEmpty || !clocksRun s || !domOn s (quadDom d c) then .next s
  else
    let y := coreNext (coreIdle x)
    .next (checkEnded d c k (setCore s d c k (if y.task.isNone && !blkOn s (baseCORE d c k) then banksLost y else y)))

/-- CORE_SLOT_SWITCH (R162): at the first instant at which the core runs no task. -/
def execCoreSlotSwitch (d c k : Nat) (s : State) : Res :=
  let x := core s d c k
  match x.switchTo with
  | none => .next s
  | some slot =>
    if x.task.isSome || x.checking || !clocksRun s || !domOn s (quadDom d c) then .next s
    else .next (setCore s d c k (coreNext { flushCore x with slot, pendTask := x.pendTask }))

/-- IDLE_GATING_RESTORE (R39, R164): the supplies of a quadrant's gated cores come back with both banks invalid. -/
def execIdleGatingRestore (d q : Nat) (s : State) : Res :=
  if !domOn s (8 * d + q) || 4 ≤ q then .next s
  else
    let s1 := (List.range 300).foldl (fun t i =>
      let key := coreKey d (12 * q + i / 25) (i % 25)
      t.setCmp { t.cmp with core := tmod {} t.cmp.core key fun x =>
        if x.gated then banksLost { x with gated := false } else x }) s
    .next (setDom s1 (8 * d + q) { (dom s1 (8 * d + q)) with gated := false })

end Sys2Proof.Machine
end

