-- ==== Sys2Proof/Machine/Ve.lean ====
section
/-! DEFINITION. The vector engine (R208 to R226). -/

namespace Sys2Proof.Machine

open Sys2Proof

/-! ### Elements (R213, R214) -/

/-- Element types: 0 binary32, 1 binary16, 2 bfloat16. -/
def tyFmt (ty : Nat) : FFmt := match ty with | 0 => f32 | 1 => f16 | _ => bf16
def tyBytes (ty : Nat) : Nat := if ty = 0 then 4 else 2
def tyLanes (ty : Nat) : Nat := if ty = 0 then 128 else 256

def lane (v : Ve) (r l : Nat) : W32 := tget 0 v.v (128 * r + l)

/-- Element `i` of a register. -/
def elem (v : Ve) (ty r i : Nat) : Nat :=
  if ty = 0 then (lane v r i).toNat else (lane v r (i / 2)).toNat / 2 ^ (16 * (i % 2)) % 65536

/-- A register with element `i` replaced. -/
def setElem (ty r i x : Nat) (v : Ve) : Ve :=
  if ty = 0 then { v with v := tset 0 v.v (128 * r + i) (BitVec.ofNat 32 x) }
  else
    let o := (lane v r (i / 2)).toNat
    let n := if i % 2 = 0 then o / 65536 * 65536 + x % 65536 else o % 65536 + x % 65536 * 65536
    { v with v := tset 0 v.v (128 * r + i / 2) (BitVec.ofNat 32 n) }

/-- Mask register; M0 reads all ones (R212). -/
def maskReg (v : Ve) (k : Nat) : BitVec 256 := if k = 0 then BitVec.allOnes 256 else tget 0 v.m k

/-- Elements below VLEN for a type. -/
def below (v : Ve) (ty : Nat) : Nat := min v.vlen (tyLanes ty)

/-- Active elements under mask `mk`, ascending (R214). -/
def active (v : Ve) (ty mk : Nat) : List Nat :=
  (List.range (below v ty)).filter fun i => (maskReg v mk).getLsbD i

/-- Write a list of (element, value) into a register. -/
def putElems (ty r : Nat) (l : List (Nat × Nat)) (v : Ve) : Ve := l.foldl (fun a e => setElem ty r e.1 e.2 a) v

def vaOf (v : Ve) (n : Nat) : W32 := tget 0 v.va n
def vaAdd (v : Ve) (n k : Nat) : Ve := { v with va := tset 0 v.va n (vaOf v n + BitVec.ofNat 32 k) }

/-! ### Issue (R218, R219, R226) -/

def veWord (s : State) (d c slot : Nat) : W32 :=
  if storeGone s (2 * ctxKey d c slot) (ve s d c slot).pc then 0
  else tget 0 s.prg.ve ((2 * (4 * d + c / 12) + slot) * 2048 + (ve s d c slot).pc)

def veIssues (s : State) (d c slot : Nat) : Bool :=
  let v := ve s d c slot
  v.run && !v.ending && clocksRun s && domOn s (quadDom d c) && blkWorks s (baseVE d c)

/-- Advance; a fetch beyond instruction 2,047 is a PC_BOUND fault. -/
def veAdvance (d c slot : Nat) (v : Ve) (s : State) : State :=
  let s1 := setVe s d c slot { v with pc := v.pc + 1, issued := inc32 v.issued 1 }
  if 2047 ≤ v.pc then veFault d c slot 3 s1 else s1

/-- Issue word `w` in a context when it stands at the PC and has an opcode that `op` takes. `used` is the mask of the
fields its row names, `good` the rest of its encoding. -/
def veIssue (d c slot : Nat) (w : W32) (op : Nat → Bool) (used : Nat) (good : Bool) (body : Ve → State → State)
    (s : State) : Res :=
  if !veIssues s d c slot || veWord s d c slot != w || !op (fld w 26 6) then .next s
  else if w.toNat % 2 ^ 26 &&& (2 ^ 26 - 1 - used) ≠ 0 || !good then .next (veFault d c slot 1 s)
  else .next (body (ve s d c slot) s)

def fD (w : W32) : Nat := fld w 21 5
def fA (w : W32) : Nat := fld w 16 5
def fB (w : W32) : Nat := fld w 11 5
def fMK (w : W32) : Nat := fld w 8 3
def fTY (w : W32) : Nat := fld w 6 2
def fFN (w : W32) : Nat := fld w 0 6
def fVA (w : W32) : Nat := fld w 18 3

def usedV : Nat := 0x3FFFFFF
def usedM : Nat := 0x3FE07C0

/-- VNOP (R219); an undefined opcode ends the program in fault (R226). -/
def execVnop (d c slot : Nat) (w : W32) (s : State) : Res :=
  veIssue d c slot w (fun o => o = 0 || o ∈ [0xD, 0xE, 0xF, 0x17, 0x1A, 0x1B] || 0x20 ≤ o) 0 (fld w 26 6 = 0)
    (fun v t => veAdvance d c slot v t) s

/-- VEND (R219, R222): the end waits, and VE_PROGRAM_DONE delivers the summaries. -/
def execVend (d c slot : Nat) (w : W32) (s : State) : Res :=
  veIssue d c slot w (· = 1) 0 true
    (fun v t => setVe t d c slot { v with ending := true, issued := inc32 v.issued 1 }) s

/-- VLOOP (R219, R226). -/
def execVloop (d c slot : Nat) (w : W32) (s : State) : Res :=
  veIssue d c slot w (· = 2) (0x3000000 + 0x800000 + 0x1C0000 + 0xFFF) true
    (fun v t =>
      let l := fld w 24 2
      let n := if bit w 23 then (vaOf v (fVA w)).toNat else fld w 0 12 + 1
      if 4 ≤ v.loops.length || v.loops.any (·.1 == l) || n = 0 || 4096 < n then veFault d c slot 5 t
      else veAdvance d c slot { v with loops := (l, v.pc + 1) :: v.loops, vl := tset 0 v.vl l (n - 1) } t) s

/-- VENDL (R219, R226). -/
def execVendl (d c slot : Nat) (w : W32) (s : State) : Res :=
  veIssue d c slot w (· = 3) 0x3000000 true
    (fun v t =>
      let l := fld w 24 2
      match v.loops with
      | (m, back) :: rest =>
        if m ≠ l then veFault d c slot 5 t
        else if tget 0 v.vl l = 0 then veAdvance d c slot { v with loops := rest } t
        else setVe t d c slot { v with pc := back, vl := tset 0 v.vl l (tget 0 v.vl l - 1)
                                       issued := inc32 v.issued 1 }
      | [] => veFault d c slot 5 t) s

/-- VSETVL (R214). -/
def execVsetvl (d c slot : Nat) (w : W32) (s : State) : Res :=
  veIssue d c slot w (· = 4) 0x1C00C0 (fTY w ≠ 3)
    (fun v t =>
      let a := vaOf v (fVA w)
      let n := min a.toNat (tyLanes (fTY w))
      veAdvance d c slot { v with vlen := n, va := tset 0 v.va (fVA w) (a - BitVec.ofNat 32 n) } t) s

/-- VADDA (R219). -/
def execVadda (d c slot : Nat) (w : W32) (s : State) : Res :=
  veIssue d c slot w (· = 5) 0x1CFFFF true
    (fun v t => veAdvance d c slot { v with
      va := tset 0 v.va (fVA w) (vaOf v (fVA w) + BitVec.ofInt 32 (sfld w 0 16)) } t) s

/-- VADDR (R219). -/
def execVaddr (d c slot : Nat) (w : W32) (s : State) : Res :=
  veIssue d c slot w (· = 6) 0x1F8000 true
    (fun v t => veAdvance d c slot { v with
      va := tset 0 v.va (fVA w) (vaOf v (fVA w) + vaOf v (fld w 15 3)) } t) s

/-- VLI (R219): every element, whatever VLEN. -/
def execVli (d c slot : Nat) (w : W32) (s : State) : Res :=
  veIssue d c slot w (· = 7) 0x3E3FFFF (fld w 16 2 ≠ 3)
    (fun v t =>
      let imm := fld w 0 16
      let x := if fld w 16 2 = 0 then imm * 65536 else imm * 65536 + imm
      veAdvance d c slot { v with
        v := tsetRun 0 v.v (128 * fD w) (List.replicate 128 (BitVec.ofNat 32 x)) } t) s

/-! ### Memory (R216, R217) -/

/-- Device offset of `n` bytes at a VE address; none outside the bounds of R217. -/
def veAddr (s : State) (d c slot : Nat) (a : W32) (n : Nat) : Option Nat :=
  if bit a 31 then
    let o := fld a 0 26
    if fld a 26 5 = 0 ∧ o + n ≤ 0x800000 then some (sramBase d + 0x5E000000 + slot * 0x1000000 + o) else none
  else
    let l := fld a 20 5
    let o := fld a 0 20
    if fld a 25 6 = 0 ∧ l < 24 ∧ o + n ≤ 655360 ∧ (clu s d c).lost ≠ physCore s d c l then
      some (sliverBase d c (physCore s d c l) + slot * 0xA0000 + o)
    else none

/-- What goes wrong with the element addresses `as` of `n` bytes: ADDR_BOUND before ALIGN. -/
def veAddrBad (s : State) (d c slot n : Nat) (as_ : List W32) : Option Nat :=
  if as_.any fun a => (veAddr s d c slot a n).isNone then some 2
  else if as_.any fun a => a.toNat % n ≠ 0 then some 4
  else none

/-- Read `n` bytes at each address; poison of any of them is the program's. -/
def veReads (d c slot n : Nat) (as_ : List W32) (s : State) : List Nat × Bool × State :=
  as_.foldl (fun acc a =>
    match veAddr acc.2.2 d c slot a n with
    | none => acc
    | some o =>
      let r := memRead (slotRealm acc.2.2 slot) o n acc.2.2
      (acc.1 ++ [leNat r.1], acc.2.1 || r.2.1, r.2.2)) ([], false, s)

/-- Write (address, value) pairs in order. -/
def veWrites (d c slot n : Nat) (l : List (W32 × Nat)) (s : State) : State :=
  l.foldl (fun t e => match veAddr t d c slot e.1 n with
    | none => t
    | some o => memWrite (slotRealm t slot) o (leBytes n e.2) t) s

/-- PI: VA advances by VLEN elements (R218). -/
def vePi (w : W32) (v : Ve) : Ve :=
  if bit w 17 then vaAdd v (fVA w) (v.vlen * tyBytes (fTY w)) else v

/-- A load of active elements from the addresses that `addr` gives them. -/
def veLoad (d c slot : Nat) (w : W32) (errs : List (Nat × Nat)) (addr : Nat → W32) (v : Ve) (s : State) : State :=
  let ty := fTY w
  let els := active v ty (fMK w)
  let as_ := els.map addr
  match veAddrBad s d c slot (tyBytes ty) as_ with
  | some k => veFault d c slot k s
  | none =>
    let r := veReads d c slot (tyBytes ty) as_ (applyErrs errs s)
    if r.2.1 then veFault d c slot 9 r.2.2
    else veAdvance d c slot (vePi w (putElems ty (fD w) (els.zip r.1) v)) r.2.2

/-- A store of active elements, in ascending element order. -/
def veStore (d c slot : Nat) (w : W32) (addr : Nat → W32) (v : Ve) (s : State) : State :=
  let ty := fTY w
  let els := active v ty (fMK w)
  match veAddrBad s d c slot (tyBytes ty) (els.map addr) with
  | some k => veFault d c slot k s
  | none =>
    veAdvance d c slot (vePi w v)
      (veWrites d c slot (tyBytes ty) (els.map fun i => (addr i, elem v ty (fD w) i)) s)

/-- Address of element `i` of a consecutive access. -/
def seqAddr (w : W32) (v : Ve) (i : Nat) : W32 := vaOf v (fVA w) + BitVec.ofNat 32 (i * tyBytes (fTY w))
/-- Address of lane `i` of an indexed access. -/
def idxAddr (w : W32) (v : Ve) (i : Nat) : W32 := vaOf v (fVA w) + lane v (fB w) i

/-- VLD (R219). -/
def execVld (d c slot : Nat) (w : W32) (errs : List (Nat × Nat)) (s : State) : Res :=
  veIssue d c slot w (· = 8) 0x3FE07C0 (fTY w ≠ 3) (fun v t => veLoad d c slot w errs (seqAddr w v) v t) s

/-- VST (R219). -/
def execVst (d c slot : Nat) (w : W32) (s : State) : Res :=
  veIssue d c slot w (· = 9) 0x3FE07C0 (fTY w ≠ 3) (fun v t => veStore d c slot w (seqAddr w v) v t) s

/-- VLDX (R219). -/
def execVldx (d c slot : Nat) (w : W32) (errs : List (Nat × Nat)) (s : State) : Res :=
  veIssue d c slot w (· = 0xA) 0x3FEFFC0 (fTY w = 0) (fun v t => veLoad d c slot w errs (idxAddr w v) v t) s

/-- VSTX (R219): the higher lane's value remains. -/
def execVstx (d c slot : Nat) (w : W32) (s : State) : Res :=
  veIssue d c slot w (· = 0xB) 0x3FEFFC0 (fTY w = 0) (fun v t => veStore d c slot w (idxAddr w v) v t) s

/-- VLDB (R219): one element into every active element. -/
def execVldb (d c slot : Nat) (w : W32) (errs : List (Nat × Nat)) (s : State) : Res :=
  veIssue d c slot w (· = 0xC) 0x3FE07C0 (fTY w ≠ 3)
    (fun v t => veLoad d c slot w errs (fun _ => vaOf v (fVA w)) v t) s

/-! ### Arithmetic (R220) -/

/-- Order of two values that are not NaN, with −0 below +0. -/
def ltSigned (neg1 : Bool) (k1 : Nat) (neg2 : Bool) (k2 : Nat) : Bool :=
  match neg1, neg2 with
  | true, false => true
  | false, true => false
  | false, false => decide (k1 < k2)
  | true, true => decide (k2 < k1)

/-- MAX and MIN on patterns of a format: NaN when either operand is NaN. -/
def maxMin (t : FFmt) (wantMax : Bool) (x y : Nat) : Nat :=
  if unpack t x == .nan || unpack t y == .nan then nanPat t
  else
    let h := 2 ^ (t.mant + t.ex)
    let lt := ltSigned (x / h == 1) (x % h) (y / h == 1) (y % h)
    if lt == wantMax then y else x

def canonPat (t : FFmt) (x : Nat) : Nat := if unpack t x == .nan then nanPat t else x

/-- VARI on one element. -/
def variOp (t : FFmt) (fn x y : Nat) : Nat :=
  let h := 2 ^ (t.mant + t.ex)
  match fn with
  | 0 => pack t (vAdd (unpack t x) (unpack t y))
  | 1 => pack t (vAdd (unpack t x) (vNeg (unpack t y)))
  | 2 => pack t (vMul (unpack t x) (unpack t y))
  | 3 => maxMin t true x y
  | 4 => maxMin t false x y
  | _ => canonPat t (x % h + y / h * h)

/-- VARI (R219, R220). -/
def execVari (d c slot : Nat) (w : W32) (s : State) : Res :=
  veIssue d c slot w (· = 0x10) usedV (fTY w ≠ 3 ∧ fFN w ≤ 5)
    (fun v t =>
      let ty := fTY w
      veAdvance d c slot (putElems ty (fD w) ((active v ty (fMK w)).map fun i =>
        (i, variOp (tyFmt ty) (fFN w) (elem v ty (fA w) i) (elem v ty (fB w) i))) v) t) s

/-- VFMA (R219, R220). -/
def execVfma (d c slot : Nat) (w : W32) (s : State) : Res :=
  veIssue d c slot w (· = 0x11) usedV (fTY w ≠ 3 ∧ fFN w ≤ 1)
    (fun v t =>
      let ty := fTY w
      let f := tyFmt ty
      veAdvance d c slot (putElems ty (fD w) ((active v ty (fMK w)).map fun i =>
        let p := vMul (unpack f (elem v ty (fA w) i)) (unpack f (elem v ty (fB w) i))
        (i, pack f (vAdd (unpack f (elem v ty (fD w) i)) (if fFN w = 0 then p else vNeg p)))) v) t) s

/-! RSQ, EXP2 and LOG2: the binary32 value at or next below the exact one in magnitude, found with a wide fixed point,
and the choice among the values within 1 ulp that `Config.veApprox` makes. -/

/-- The binary32 pattern of `num / den × 2^e` truncated, and whether it is exact. -/
def truncRat (num den : Nat) (e : Int) : Nat × Bool :=
  if num = 0 then (0, true)
  else
    let top := (num.log2 : Int) - (den.log2 : Int) + e
    let low := (num * (pow2 (e - top)).1 < den * (pow2 (e - top)).2 : Bool)
    let msb := if low then top - 1 else top
    let q := max (msb - 23) (-149)
    let p := pow2 (e - q)
    let k := num * p.1 / (den * p.2)
    (min (infPat f32) ((q + 149).toNat * 2 ^ 23 + k), num * p.1 % (den * p.2) == 0)

/-- One of the values within 1 ulp of a value known as its truncation. -/
def within (fn : Nat) (x : F32) (t : Nat × Bool) : Nat :=
  let k := Config.veApprox fn x
  if t.2 then (if t.1 = 0 then t.1 + k % 2 else t.1 - 1 + k % 3) else t.1 + k % 2

/-- 2^(2^(−i)) in 220-bit fixed point, for i = 1 up, times the selected ones. -/
def exp2Go (n : Nat) : Nat → Nat → Nat → Nat
  | 0, _, acc => acc
  | i + 1, root, acc =>
    let r := isqrt (root * 2 ^ 220)
    exp2Go n i r (if n.testBit i then acc * r / 2 ^ 220 else acc)

/-- EXP2 of m × 2^e (signed): the truncation of 2^(k + f). -/
def exp2Trunc (neg : Bool) (m : Nat) (e : Int) : Nat × Bool :=
  let p := pow2 (e + 200)
  let fix : Int := (m * p.1 / p.2 : Nat)
  let v := if neg then -fix else fix
  let k := v / 2 ^ 200
  let f := (v % 2 ^ 200).toNat
  let r := exp2Go f 200 (2 * 2 ^ 220) (2 ^ 220)
  let t := truncRat r (2 ^ 220) k
  (t.1, f == 0 && t.2)

/-- Fraction bits of log2 of y in [1, 2), y in 400-bit fixed point. -/
def log2Go : Nat → Nat → Nat → Nat
  | 0, _, acc => acc
  | i + 1, y, acc =>
    let q := y * y / 2 ^ 400
    if 2 ^ 401 ≤ q then log2Go i (q / 2) (2 * acc + 1) else log2Go i q (2 * acc)

/-- LOG2 of m × 2^e: sign and truncation of the magnitude. -/
def log2Trunc (m : Nat) (e : Int) : Bool × Nat × Bool :=
  let l := m.log2
  let frac := log2Go 120 (m * 2 ^ (400 - l)) 0
  let v : Int := (l + e) * 2 ^ 120 + frac
  let t := truncRat v.natAbs (2 ^ 120) 0
  (decide (v < 0), t.1, frac == 0 && t.2)

/-- VUN on one binary32 element, FN 3 to 7. -/
def vunSlow (fn : Nat) (x : F32) : F32 :=
  match fn with
  | 3 => fSqrt x
  | 4 => fDiv fOne x
  | 5 =>
    match unp x with
    | .nan => fNan
    | .inf neg => if neg then fNan else 0
    | .fin neg m e =>
      if m = 0 then (if neg then Config.rsqNegZero else 0x7F800000)
      else if neg then fNan
      else
        let odd := e % 2 = 1
        let m1 := if odd then 2 * m else m
        let e1 := if odd then e - 1 else e
        let r := isqrt (2 ^ 400 / m1)
        let t := truncRat r (2 ^ 200) (-(e1 / 2))
        BitVec.ofNat 32 (within 5 x (t.1, t.2 && r * r * m1 == 2 ^ 400))
  | 6 =>
    match unp x with
    | .nan => fNan
    | .inf neg => if neg then 0 else 0x7F800000
    | .fin neg m e =>
      if !neg && 128 * (pow2 (-e)).1 ≤ m * (pow2 (-e)).2 then 0x7F800000
      else if neg && 200 * (pow2 (-e)).1 ≤ m * (pow2 (-e)).2 then BitVec.ofNat 32 (Config.veApprox 6 x % 2)
      else BitVec.ofNat 32 (within 6 x (exp2Trunc neg m e))
  | _ =>
    match unp x with
    | .nan => fNan
    | .inf neg => if neg then fNan else 0x7F800000
    | .fin neg m e =>
      if m = 0 then 0xFF800000
      else if neg then fNan
      else
        let t := log2Trunc m e
        BitVec.ofNat 32 (within 7 x t.2 + if t.1 then 2 ^ 31 else 0)

/-- VUN on one element. -/
def vunOp (t : FFmt) (fn x : Nat) : Nat :=
  let h := 2 ^ (t.mant + t.ex)
  match fn with
  | 0 => x
  | 1 => canonPat t (if x < h then x + h else x - h)
  | 2 => canonPat t (x % h)
  | n => (vunSlow n (BitVec.ofNat 32 x)).toNat

/-- VUN (R219, R220). -/
def execVun (d c slot : Nat) (w : W32) (s : State) : Res :=
  veIssue d c slot w (· = 0x12) (usedV - 0xF800) (fTY w ≠ 3 ∧ fFN w ≤ 7 ∧ (fFN w < 3 ∨ fTY w = 0))
    (fun v t =>
      let ty := fTY w
      veAdvance d c slot (putElems ty (fD w) ((active v ty (fMK w)).map fun i =>
        (i, vunOp (tyFmt ty) (fFN w) (elem v ty (fA w) i))) v) t) s

/-- VCMP on one element. -/
def vcmpOp (t : FFmt) (fn x y : Nat) : Bool :=
  let h := 2 ^ (t.mant + t.ex)
  let nan := unpack t x == .nan || unpack t y == .nan
  let key (a : Nat) : Int := if a / h = 1 then -((a % h : Nat) : Int) else ((a % h : Nat) : Int)
  match fn with
  | 0 => !nan && decide (key x = key y)
  | 1 => !nan && decide (key x < key y)
  | 2 => !nan && decide (key x ≤ key y)
  | 3 => nan
  | _ => infPat t ≤ x % h

def setMask (v : Ve) (k : Nat) (m : BitVec 256) : Ve := { v with m := tset 0 v.m k m }

/-- VCMP (R215, R219): every bit below VLEN is written, 0 where the element is inactive. -/
def execVcmp (d c slot : Nat) (w : W32) (s : State) : Res :=
  veIssue d c slot w (· = 0x13) usedV (fTY w ≠ 3 ∧ fFN w ≤ 4 ∧ fD w < 8 ∧ fD w ≠ 0)
    (fun v t =>
      let ty := fTY w
      let n := below v ty
      let src := maskReg v (fMK w)
      let old := (maskReg v (fD w)).toNat
      let new := maskOf n fun i =>
        src.getLsbD i && vcmpOp (tyFmt ty) (fFN w) (elem v ty (fA w) i) (elem v ty (fB w) i)
      veAdvance d c slot (setMask v (fD w) (BitVec.ofNat 256 (old / 2 ^ n * 2 ^ n + new))) t) s

/-- VMSK (R215, R219): on all 256 bits. -/
def execVmsk (d c slot : Nat) (w : W32) (s : State) : Res :=
  veIssue d c slot w (· = 0x14) (usedV - 0x7C0) (fFN w ≤ 3 ∧ fD w < 8 ∧ fD w ≠ 0 ∧ fA w < 8 ∧ fB w < 8)
    (fun v t =>
      let a := maskReg v (fA w)
      let b := maskReg v (fB w)
      let m := match fFN w with | 0 => a &&& b | 1 => a ||| b | 2 => a &&& ~~~b | _ => ~~~a
      veAdvance d c slot (setMask v (fD w) m) t) s

/-- VSEL (R219): MK selects. -/
def execVsel (d c slot : Nat) (w : W32) (s : State) : Res :=
  veIssue d c slot w (· = 0x15) (usedV - 0x3F) (fTY w ≠ 3)
    (fun v t =>
      let ty := fTY w
      let m := maskReg v (fMK w)
      veAdvance d c slot (putElems ty (fD w) ((List.range (below v ty)).map fun i =>
        (i, if m.getLsbD i then elem v ty (fA w) i else elem v ty (fB w) i)) v) t) s

/-- VCVT (R220): widening from, narrowing to, or between the types. -/
def vcvt (w : W32) (v : Ve) : Ve :=
  let dst := fTY w
  let src := fld w 0 2
  let h := fld w 2 1
  if dst = 0 ∧ src ≠ 0 then
    putElems 0 (fD w) ((active v 0 (fMK w)).map fun i =>
      (i, (widen (tyFmt src) (elem v src (fA w) (128 * h + i))).toNat)) v
  else if src = 0 ∧ dst ≠ 0 then
    putElems dst (fD w) ((active v 0 (fMK w)).map fun i =>
      (128 * h + i, narrow (tyFmt dst) (lane v (fA w) i))) v
  else
    putElems dst (fD w) ((active v dst (fMK w)).map fun i =>
      (i, pack (tyFmt dst) (unpack (tyFmt src) (elem v src (fA w) i)))) v

/-- VCVT (R219, R220). -/
def execVcvt (d c slot : Nat) (w : W32) (s : State) : Res :=
  veIssue d c slot w (· = 0x16) (usedV - 0xF838) (fTY w ≠ 3 ∧ fld w 0 2 ≠ 3)
    (fun v t => veAdvance d c slot (vcvt w v) t) s

/-! ### Reductions and summaries (R221, R222) -/

/-- One level of the pairwise tree. -/
def treeLevel (f : F32 → F32 → F32) : List F32 → List F32
  | x :: y :: l => f x y :: treeLevel f l
  | l => l

/-- The seven levels over 128 values. -/
def tree (f : F32 → F32 → F32) (l : List F32) : F32 :=
  ((List.range 7).foldl (fun a _ => treeLevel f a) l).headD 0

def fMax (x y : F32) : F32 := BitVec.ofNat 32 (maxMin f32 true x.toNat y.toNat)
def fMin (x y : F32) : F32 := BitVec.ofNat 32 (maxMin f32 false x.toNat y.toNat)

/-- Kind 0 MAX, 1 MIN, 2 SUM: its operation and its identity. -/
def redOp (fn : Nat) : F32 → F32 → F32 := match fn with | 0 => fMax | 1 => fMin | _ => fAdd
def redId (fn : Nat) : F32 := match fn with | 0 => 0xFF800000 | 1 => 0x7F800000 | _ => 0

/-- The R221 reduction of the active lanes of a register. -/
def reduce (v : Ve) (fn a mk : Nat) : F32 :=
  let act := active v 0 mk
  tree (redOp fn) ((List.range 128).map fun i => if act.contains i then lane v a i else redId fn)

/-- VRED (R221). -/
def execVred (d c slot : Nat) (w : W32) (s : State) : Res :=
  veIssue d c slot w (· = 0x18) (usedV - 0xF800) (fTY w = 0 ∧ fFN w ≤ 2)
    (fun v t =>
      let x := reduce v (fFN w) (fA w) (fMK w)
      veAdvance d c slot { v with v := tsetRun 0 v.v (128 * fD w) (List.replicate 128 x) } t) s

def qKind (fn : Nat) : QKind :=
  match fn with | 0 => .max | 1 => .min | 2 => .sum | 3 => .cnz | _ => .anyNf

/-- Qk after a VSUM; an empty Qk stands for the kind's identity. -/
def vsumVal (v : Ve) (fn a mk : Nat) (old : Option W64) : W64 :=
  let prev : F32 := match old with | some q => BitVec.ofNat 32 q.toNat | none => redId fn
  match fn with
  | 3 => old.getD 0 + dw ((active v 0 mk).filter fun i => !isZero (lane v a i)).length
  | 4 =>
    if old = some 1 ∨ ((List.range (below v 0)).any fun i => isNonFinite (lane v a i)) then 1 else 0
  | n => dw (redOp n prev (reduce v n a mk)).toNat

/-- VSUM (R222). -/
def execVsum (d c slot : Nat) (w : W32) (s : State) : Res :=
  veIssue d c slot w (· = 0x19) (usedV - 0xF800) (fTY w = 0 ∧ fFN w ≤ 4 ∧ fD w < 8)
    (fun v t =>
      let k := fD w
      let kind := qKind (fFN w)
      match tget none v.q k with
      | some (kd, x) =>
        if kd ≠ kind then veFault d c slot 6 t
        else veAdvance d c slot { v with
          q := tset none v.q k (some (kind, vsumVal v (fFN w) (fA w) (fMK w) (some x))) } t
      | none => veAdvance d c slot { v with
          q := tset none v.q k (some (kind, vsumVal v (fFN w) (fA w) (fMK w) none)) } t) s

/-- VTID (R219). -/
def execVtid (d c slot : Nat) (w : W32) (s : State) : Res :=
  veIssue d c slot w (· = 0x1C) 0xFF true (fun v t => veAdvance d c slot { v with tid := fld w 0 8 } t) s

/-! ### Quantise, dequantise, loss (R223, R224) -/

/-- S in force for a tensor in the step (R175). -/
def inForce (j : Job) (t : Tensor) : F32 :=
  match j.step with
  | some st => scaleOf j st t
  | none => predict t (tget [] j.hist t.tid)

/-- Fields shared by VQNT and VDQ: first register, VAd, VAk, VAw, N. -/
def qFields (w : W32) : Nat × Nat × Nat × Nat × Nat :=
  (fD w, fVA w, fld w 15 3, fld w 12 3, fld w 9 3 + 1)

/-- Elements of N registers of which the last counts `vlen` lanes. -/
def seqLen (v : Ve) (n : Nat) : Nat := (n - 1) * 128 + min 128 v.vlen

/-- Cut a list into blocks of 32, the last padded. -/
def blocksOf : Nat → List QElem → List (List QElem)
  | 0, _ => []
  | n + 1, l => (l.take 32 ++ List.replicate (32 - min 32 l.length) none) :: blocksOf n (l.drop 32)

/-- Addresses of a block run that VQNT or VDQ uses, with their byte counts: header bytes, blocks, scale word. -/
def runAddrs (vad : W32) (k b e : Nat) (vaw : W32) : List (W32 × Nat) :=
  (vad + BitVec.ofNat 32 (k / 2), (k + b + 1) / 2 - k / 2)
    :: (vad + BitVec.ofNat 32 (32 + k * e), b * e) :: [(vaw, 4)]

/-- Replace the shift nibbles of blocks k up in the header bytes that hold them. -/
def putNibbles (old : List Byte) (k : Nat) (shifts : List Nat) : List Byte :=
  let base := k / 2 * 2
  (List.range old.length).map fun i =>
    let nib (n : Nat) (dflt : Nat) : Nat := if k ≤ n then shifts.getD (n - k) dflt else dflt
    let o := (old.getD i 0).toNat
    BitVec.ofNat 8 (nib (base + 2 * i) (o % 16) + 16 * nib (base + 2 * i + 1) (o / 16))

/-- Count what a quantise operation wrote, and report a retry (R191, R194). -/
def quantCount (d c slot tid : Nat) (S : F32) (n : QCount) (retry : Option (F32 × Nat)) (s : State) : State :=
  match retry with
  | some (s0, sat) => watCount d c slot tid n 1 (logRecompute d c slot tid s0 S sat s)
  | none => watCount d c slot tid n 0 s

/-- VQNT on a context whose record and operands are good (R223). -/
def vqntWrite (d c slot : Nat) (w : W32) (v : Ve) (j : Job) (t : Tensor) (b : Nat) (s : State) : State :=
  let (a, ad, ak, aw, n) := qFields w
  let k := (vaOf v ak).toNat
  let e := blockBytes t.format
  let vad := vaOf v ad
  let len := seqLen v n
  let base := Config.vqntBase vad.toNat k
  let els : List QElem := (List.range len).map fun i => some (lane v (a + i / 128) (i % 128), base + i)
  let blocks := blocksOf b els
  let f := magBits t.format
  let S := opScale t (inForce j t) f (tileVals blocks)
  match quantTile f S (stochOf j t) (satLimit s d c slot) blocks with
  | .failed _ _ => veFault d c slot 7 (recomputeFailed d c slot t.tid s)
  | .written bs S' cnt retry =>
    let hdr := vad + BitVec.ofNat 32 (k / 2)
    let hn := (k + b + 1) / 2 - k / 2
    match veAddr s d c slot hdr hn, veAddr s d c slot (vad + BitVec.ofNat 32 (32 + k * e)) (b * e),
        veAddr s d c slot (vaOf v aw) 4 with
    | some ho, some bo, some wo =>
      let r := memRead (slotRealm s slot) ho hn s
      if r.2.1 then veFault d c slot 9 r.2.2
      else
        let rl := slotRealm s slot
        let s1 := memWrite rl ho (putNibbles r.1 k (bs.map (·.1))) r.2.2
        let s2 := memWrite rl bo (bs.flatMap fun x => packElems t.format x.2) s1
        let s3 := memWrite rl wo (leBytes 4 S'.toNat) s2
        veAdvance d c slot v (quantCount d c slot t.tid S' cnt retry s3)
    | _, _, _ => veFault d c slot 2 s

/-- VQNT (R223). -/
def execVqnt (d c slot : Nat) (w : W32) (errs : List (Nat × Nat)) (s : State) : Res :=
  veIssue d c slot w (· = 0x1D) 0x3FFFE00 true
    (fun v t0 =>
      let t := applyErrs errs t0
      let (a, ad, ak, aw, n) := qFields w
      match (ctxJob t slot).bind fun j => (tensorOn j d v.tid).map fun x => (j, x) with
      | none => veFault d c slot 7 t
      | some (j, x) =>
        let k := (vaOf v ak).toNat
        let b := (seqLen v n + 31) / 32
        let e := blockBytes x.format
        if !isB x.format || x.cls = 5 || 64 < k + b || !blkOn t (baseWAT d c) then veFault d c slot 7 t
        else if 32 < a + n then veFault d c slot 1 t
        else if (runAddrs (vaOf v ad) k b e (vaOf v aw)).any fun y => (veAddr t d c slot y.1 y.2).isNone then
          veFault d c slot 2 t
        else if (vaOf v aw).toNat % 4 ≠ 0 || (x.format = 2 && (vaOf v ad).toNat % 2 ≠ 0) then veFault d c slot 4 t
        else vqntWrite d c slot w v j x b t) s

/-- VDQ (R223): the format is that of the current TID's record. -/
def execVdq (d c slot : Nat) (w : W32) (errs : List (Nat × Nat)) (s : State) : Res :=
  veIssue d c slot w (· = 0x1E) 0x3FFFE00 true
    (fun v t0 =>
      let t := applyErrs errs t0
      let (a, ad, ak, aw, n) := qFields w
      match (ctxJob t slot).bind fun j => tensorOn j d v.tid with
      | none => veFault d c slot 7 t
      | some x =>
        let k := (vaOf v ak).toNat
        let len := seqLen v n
        let b := (len + 31) / 32
        let e := blockBytes x.format
        let vad := vaOf v ad
        if !isB x.format || 64 < k + b then veFault d c slot 7 t
        else if 32 < a + n then veFault d c slot 1 t
        else match veAddr t d c slot (vad + BitVec.ofNat 32 (k / 2)) ((k + b + 1) / 2 - k / 2),
            veAddr t d c slot (vad + BitVec.ofNat 32 (32 + k * e)) (b * e), veAddr t d c slot (vaOf v aw) 4 with
          | some ho, some bo, some wo =>
            if (vaOf v aw).toNat % 4 ≠ 0 || (x.format = 2 && vad.toNat % 2 ≠ 0) then veFault d c slot 4 t
            else
              let rl := slotRealm t slot
              let h := memRead rl ho ((k + b + 1) / 2 - k / 2) t
              let m := memRead rl bo (b * e) h.2.2
              let q := memRead rl wo 4 m.2.2
              if h.2.1 || m.2.1 || q.2.1 then veFault d c slot 9 q.2.2
              else
                let S : F32 := BitVec.ofNat 32 (leNat q.1)
                let val (i : Nat) : Nat :=
                  let nib := unpackElem 0 h.1 (i / 32 + k % 2)
                  let wd := unpackElem x.format (slice m.1 (i / 32 * e) e) (i % 32)
                  (decodeElem (magBits x.format) nib S wd).toNat
                veAdvance d c slot ((List.range len).foldl (fun u i =>
                  setElem 0 (a + i / 128) (i % 128) (val i) u) v) q.2.2
          | _, _, _ => veFault d c slot 2 t) s

/-- Place of a post in the order of R224: micro-batch, die, cluster. -/
def postKey (p : LossPost) : Nat := (p.m * 8 + p.die) * 48 + p.cluster

/-- Insert a post after those that stand before it or beside it in the order. -/
def insertPost (p : LossPost) : List LossPost → List LossPost
  | [] => [p]
  | q :: l => if postKey q ≤ postKey p then q :: insertPost p l else p :: q :: l

/-- The mean of the posts, which stand in the order of R224 (R204). -/
def lossMean (l : List LossPost) : F32 :=
  match l with
  | [] => 0
  | p :: ps => fDiv (ps.foldl (fun a q => fAdd a q.value) p.value) (rnd (.fin false l.length 0))

/-- R205: the detector raises LOSS_SPIKE. -/
def spikes (j : Job) (loss : F32) : Bool :=
  j.adm.lossEnable && decide (j.adm.warmup + 1 ≤ j.stepNo.toNat) && fLt 0 j.ema && fLt (fMul j.adm.k j.ema) loss
    && !isNonFinite loss

/-- A value is posted (R204, R224). -/
def lossPost (slot : Nat) (p : LossPost) (s : State) : State :=
  match jobAt s slot with
  | none => s
  | some j => match j.step with
    | none => s
    | some st =>
      let l := insertPost p st.losses
      setJobAt s slot (some { j with step := some { st with losses := l, loss := lossMean l } })

/-- VLOSS (R224): lane 0 of A is posted with the micro-batch of the cluster task. DEDUCED, log entry 91: a fill instance has no
step, so the value it posts is counted by the watcher and enters no step's loss. -/
def execVloss (d c slot : Nat) (w : W32) (s : State) : Res :=
  veIssue d c slot w (· = 0x1F) 0x1F0000 true
    (fun v t =>
      match (ctxJob t slot).bind (·.adm.lossTid), (ccc t d c slot).task with
      | some tid, some (tbl, i, m, _) =>
        let x := lane v (fA w) 0
        let t1 := watCount d c slot tid (drnCounts [x]) 0 t
        veAdvance d c slot v (lossPost slot { m, die := d, cluster := c, value := x, task := (tbl, i) } t1)
      | _, _ => veFault d c slot 7 t) s

/-- VE_PROGRAM_DONE (R222): VEND's wait is over; every non-empty Qk is written to S(24 + k). -/
def execVeProgramDone (d c slot : Nat) (s : State) : Res :=
  let v := ve s d c slot
  if !v.run || !v.ending || !clocksRun s || !domOn s (quadDom d c) then .next s
  else
    let x := ccc s d c slot
    let s1 := setCcc s d c slot { x with
      s := v.q.foldl (fun t e => match e.2 with | some (_, q) => tset 0 t (24 + e.1) q | none => t) x.s }
    .next (setVe s1 d c slot { v with run := false, ending := false, pc := 0, loops := [] })

end Sys2Proof.Machine
end

