-- ==== Sys2Proof/Machine/Ccc.lean ====
section
/-! DEFINITION. The cluster control core (R227 to R233): its instructions, its stalls, and the start of core tasks, VE
programs and DMA transfers. -/

namespace Sys2Proof.Machine

open Sys2Proof

/-! ### Issue -/

/-- The word at the PC of a context. -/
def cccWord (s : State) (d c slot : Nat) : W32 :=
  if storeGone s (2 * ctxKey d c slot + 1) (ccc s d c slot).pc then 0
  else tget 0 s.prg.ccc ((2 * (4 * d + c / 12) + slot) * 2048 + (ccc s d c slot).pc)

def cccIssues (s : State) (d c slot : Nat) : Bool :=
  let x := ccc s d c slot
  x.task.isSome && !x.faulted && x.stall.isNone && clocksRun s && domOn s (quadDom d c) && blkWorks s (baseCCC d c)

/-- Sn; S0 reads 0. -/
def sReg (x : Ccc) (n : Nat) : W64 := if n = 0 then 0 else tget 0 x.s n

/-- Write Sn; S0 ignores writes. -/
def setS (n : Nat) (v : W64) (x : Ccc) : Ccc := if n = 0 then x else { x with s := tset 0 x.s n v }

/-- Go on at `target`; a fetch outside the store is a PC_BOUND fault (R233). The PC is kept modulo 2^64. -/
def cccGoto (d c slot : Nat) (x : Ccc) (target : Int) (s : State) : State :=
  let p := (target % (2 ^ 64 : Nat)).toNat
  let s1 := setCcc s d c slot { x with pc := p }
  if 2048 ≤ p then cccFault d c slot 3 0xFF s1 else s1

def cccNext (d c slot : Nat) (x : Ccc) (s : State) : State := cccGoto d c slot x (x.pc + 1) s

/-- Issue word `w` when it stands at the PC and has an opcode that `op` takes. `used` is the mask of its fields, `good`
the rest of its encoding, `regs` the registers it reads or writes: naming S24 to S31 while a VE program of the context
runs stalls it (R231). -/
def cccIssue (d c slot : Nat) (w : W32) (op : Nat → Bool) (used : Nat) (good : Bool) (regs : List Nat)
    (body : Ccc → State → State) (s : State) : Res :=
  if !cccIssues s d c slot || cccWord s d c slot != w || !op (fld w 26 6) then .next s
  else if w.toNat % 2 ^ 26 &&& (2 ^ 26 - 1 - used) ≠ 0 || !good then .next (cccFault d c slot 1 0xFF s)
  else if regs.any (fun r => 24 ≤ r && r < 32) && (ve s d c slot).run then
    .next (setCcc s d c slot { ccc s d c slot with stall := some .summary })
  else .next (body (ccc s d c slot) s)

def cD (w : W32) : Nat := fld w 21 5
def cA (w : W32) : Nat := fld w 16 5
def cB (w : W32) : Nat := fld w 11 5

/-- CCC_NOP (R229); an undefined opcode ends the cluster task in fault (R233). -/
def execCccNop (d c slot : Nat) (w : W32) (s : State) : Res :=
  cccIssue d c slot w (fun o => o = 0 || o = 0xF || 0x16 ≤ o) 0 (fld w 26 6 = 0) [] (cccNext d c slot) s

/-- The operations of ALU (R229). -/
def aluOp (fn : Nat) (a b : W64) : W64 :=
  let sh := b.toNat % 64
  match fn with
  | 0 => a + b
  | 1 => a - b
  | 2 => a &&& b
  | 3 => a ||| b
  | 4 => a ^^^ b
  | 5 => a <<< sh
  | 6 => a >>> sh
  | 7 => a.sshiftRight sh
  | 8 => a * b
  | 9 => if a.toNat ≤ b.toNat then a else b
  | 10 => if a.toNat ≤ b.toNat then b else a
  | 11 => if a.toNat < b.toNat then 1 else 0
  | _ => if a.toInt < b.toInt then 1 else 0

/-- An instruction that writes a value to D and goes on. -/
def cccPut (d c slot : Nat) (w : W32) (f : Ccc → W64) (x : Ccc) (s : State) : State :=
  cccNext d c slot (setS (cD w) (f x) x) s

/-- CCC_ALU (R229). -/
def execCccAlu (d c slot : Nat) (w : W32) (s : State) : Res :=
  cccIssue d c slot w (· = 2) 0x3FFFFFF (fld w 0 11 ≤ 12) [cD w, cA w, cB w]
    (cccPut d c slot w fun x => aluOp (fld w 0 11) (sReg x (cA w)) (sReg x (cB w))) s

/-- CCC_ADDI (R229). -/
def execCccAddi (d c slot : Nat) (w : W32) (s : State) : Res :=
  cccIssue d c slot w (· = 3) 0x3FFFFFF true [cD w, cA w]
    (cccPut d c slot w fun x => sReg x (cA w) + BitVec.ofInt 64 (sfld w 0 16)) s

/-- CCC_LUI (R229). -/
def execCccLui (d c slot : Nat) (w : W32) (s : State) : Res :=
  cccIssue d c slot w (· = 4) 0x3E0FFFF true [cD w] (cccPut d c slot w fun _ => dw (fld w 0 16 * 65536)) s

/-- CCC_ORI (R229). -/
def execCccOri (d c slot : Nat) (w : W32) (s : State) : Res :=
  cccIssue d c slot w (· = 5) 0x3FFFFFF true [cD w, cA w]
    (cccPut d c slot w fun x => sReg x (cA w) ||| dw (fld w 0 16)) s

/-- Device offset of the slot's die-shared window (R283). -/
def sharedBase (d slot : Nat) : Nat := sramBase d + 0x5E000000 + slot * 0x1000000

/-- Byte offset of a load or store within the window. -/
def cccAddr (w : W32) (x : Ccc) : Nat := (sReg x (cA w) + BitVec.ofInt 64 (sfld w 0 16)).toNat

/-- What is wrong with a window address: ADDR_BOUND before ALIGN. -/
def cccAddrBad (a : Nat) : Option Nat :=
  if 0x800000 ≤ a then some 2 else if a % 8 ≠ 0 then some 4 else none

/-- CCC_LD (R229, R233). -/
def execCccLd (d c slot : Nat) (w : W32) (errs : List (Nat × Nat)) (s : State) : Res :=
  cccIssue d c slot w (· = 6) 0x3FFFFFF true [cD w, cA w]
    (fun x t =>
      match cccAddrBad (cccAddr w x) with
      | some k => cccFault d c slot k 0xFF t
      | none =>
        let r := memRead (slotRealm t slot) (sharedBase d slot + cccAddr w x) 8 (applyErrs errs t)
        if r.2.1 then cccFault d c slot 9 0xFF r.2.2
        else cccPut d c slot w (fun _ => dw (leNat r.1)) x r.2.2) s

/-- CCC_ST (R229, R233). -/
def execCccSt (d c slot : Nat) (w : W32) (s : State) : Res :=
  cccIssue d c slot w (· = 7) 0x3FFFFFF true [cD w, cA w]
    (fun x t =>
      match cccAddrBad (cccAddr w x) with
      | some k => cccFault d c slot k 0xFF t
      | none =>
        cccNext d c slot x (memWrite (slotRealm t slot) (sharedBase d slot + cccAddr w x)
          (leBytes 8 (sReg x (cD w)).toNat) t)) s

/-- A branch: A stands in [25:21] and B in [20:16] (R228). -/
def cccBranch (d c slot : Nat) (w : W32) (cond : W64 → W64 → Bool) (x : Ccc) (s : State) : State :=
  if cond (sReg x (cD w)) (sReg x (cA w)) then cccGoto d c slot x (x.pc + sfld w 0 16) s else cccNext d c slot x s

/-- CCC_BEQ (R229). -/
def execCccBeq (d c slot : Nat) (w : W32) (s : State) : Res :=
  cccIssue d c slot w (· = 8) 0x3FFFFFF true [cD w, cA w] (cccBranch d c slot w fun a b => a == b) s

/-- CCC_BNE (R229). -/
def execCccBne (d c slot : Nat) (w : W32) (s : State) : Res :=
  cccIssue d c slot w (· = 9) 0x3FFFFFF true [cD w, cA w] (cccBranch d c slot w fun a b => a != b) s

/-- CCC_BLT (R229). -/
def execCccBlt (d c slot : Nat) (w : W32) (s : State) : Res :=
  cccIssue d c slot w (· = 0xA) 0x3FFFFFF true [cD w, cA w]
    (cccBranch d c slot w fun a b => decide (a.toInt < b.toInt)) s

/-- CCC_BLTU (R229). -/
def execCccBltu (d c slot : Nat) (w : W32) (s : State) : Res :=
  cccIssue d c slot w (· = 0xB) 0x3FFFFFF true [cD w, cA w]
    (cccBranch d c slot w fun a b => decide (a.toNat < b.toNat)) s

/-- BFLT (R229): never when either operand is NaN. -/
def execBflt (d c slot : Nat) (w : W32) (s : State) : Res :=
  cccIssue d c slot w (· = 0xC) 0x3FFFFFF true [cD w, cA w]
    (cccBranch d c slot w fun a b => fLt (BitVec.ofNat 32 a.toNat) (BitVec.ofNat 32 b.toNat)) s

/-- JAL (R229). -/
def execJal (d c slot : Nat) (w : W32) (s : State) : Res :=
  cccIssue d c slot w (· = 0xD) 0x3FFFFFF true [cD w]
    (fun x t => cccGoto d c slot (setS (cD w) (dw (x.pc + 1)) x) (x.pc + sfld w 0 21) t) s

/-- JALR (R229): the target is read before D is written. -/
def execJalr (d c slot : Nat) (w : W32) (s : State) : Res :=
  cccIssue d c slot w (· = 0xE) 0x3FFFFFF true [cD w, cA w]
    (fun x t => cccGoto d c slot (setS (cD w) (dw (x.pc + 1)) x)
      ((sReg x (cA w) + BitVec.ofInt 64 (sfld w 0 16)).toNat : Int) t) s

/-! ### Agents of a context (R229, R232) -/

/-- Physical core `k` holds a running or a pending task of the slot's context. -/
def coreHolds (s : State) (d c slot k : Nat) : Bool :=
  let x := core s d c k
  x.slot == slot && (x.task.isSome || x.pendTask.isSome)

/-- Physical core `k` counts as not finished for WAIT and END: a checker counts as running (R484). -/
def coreBusy (s : State) (d c slot k : Nat) : Bool :=
  coreHolds s d c slot k || ((core s d c k).checking && (core s d c k).slot == slot)

/-- Every agent of the context has finished. -/
def agentsDone (s : State) (d c slot : Nat) : Bool :=
  (List.range 25).all (fun k => !coreBusy s d c slot k) && !(ve s d c slot).run
    && (dma s d c slot).q0.isEmpty && (dma s d c slot).q1.isEmpty

/-- CCC_END (R232): the context waits, and CLUSTER_TASK_DONE reports the task. -/
def execCccEnd (d c slot : Nat) (w : W32) (s : State) : Res :=
  cccIssue d c slot w (· = 1) 0 true [] (fun x t => setCcc t d c slot { x with stall := some .ending }) s

/-- What a WAIT still waits for. -/
def waitOver (s : State) (d c slot : Nat) (cores : BitVec 24) (v q0 q1 : Bool) : Bool :=
  (bitsOf 24 cores.toNat).all (fun l => !coreBusy s d c slot (physCore s d c l))
    && !(v && (ve s d c slot).run) && !(q0 && !(dma s d c slot).q0.isEmpty)
    && !(q1 && !(dma s d c slot).q1.isEmpty)

/-- CCC_WAIT (R232). -/
def execCccWait (d c slot : Nat) (w : W32) (s : State) : Res :=
  cccIssue d c slot w (· = 0x13) 0x1F0007 true [cA w]
    (fun x t =>
      let m := BitVec.ofNat 24 (sReg x (cA w)).toNat
      if waitOver t d c slot m (bit w 2) (bit w 0) (bit w 1) then cccNext d c slot x t
      else setCcc t d c slot { x with stall := some (.wait m (bit w 2) (bit w 0) (bit w 1)) }) s

/-- CCC_BUSY (R229). -/
def execCccBusy (d c slot : Nat) (w : W32) (s : State) : Res :=
  cccIssue d c slot w (· = 0x14) 0x3E00000 true [cD w]
    (fun x t =>
      let v := maskOf 24 (fun l => coreHolds t d c slot (physCore t d c l)) + b2n (ve t d c slot).run * 2 ^ 24
        + b2n (!(dma t d c slot).q0.isEmpty) * 2 ^ 25 + b2n (!(dma t d c slot).q1.isEmpty) * 2 ^ 26
      cccPut d c slot w (fun _ => dw v) x t) s

/-- CCC_RDRT (R229): Rack Time at issue. -/
def execCccRdrt (d c slot : Nat) (w : W32) (s : State) : Res :=
  cccIssue d c slot w (· = 0x15) 0x3E00000 true [cD w] (fun x t => cccPut d c slot w (fun _ => rtNow t) x t) s

/-! ### TASK (R230) and the Sentinel's sample (R482, R483) -/

/-- Phase of a slot's half on a die: 0 none, 1 forward, 2 backward, 3 fill (R279). -/
def halfOf (s : State) (d slot : Nat) : Nat :=
  let x := tget {} s.dsc d
  if slot = 0 then x.phA else x.phB

/-- The current step of a slot: the one that runs, else the last one committed. -/
def curStep (s : State) (sl : Nat) : W64 :=
  match jobAt s sl with
  | none => 0
  | some j => match j.step with | some st => st.num | none => j.stepNo

/-- In a half of a lone job, the cores of the other role set take no task of it (R267, R275). DEDUCED, log entry 15. -/
def roleBars (s : State) (d c slot k : Nat) : Bool :=
  match jobAt s slot with
  | none => false
  | some j =>
    let r := (core s d c k).role
    j.pair.isNone && ((halfOf s d slot == 1 && r == 2) || (halfOf s d slot == 2 && r == 1))

/-- The core can take or queue a task of the slot now. -/
def coreOpen (s : State) (d c slot k : Nat) : Bool :=
  let x := core s d c k
  x.pendTask.isNone && x.slot == slot && x.switchTo.isNone && !x.gated && !roleBars s d c slot k

/-- R483: core `k` can serve as a checker for a task of `slot` on core `run`. -/
def checkerFits (s : State) (d c slot run k : Nat) : Bool :=
  let x := core s d c k
  let key := coreKey d c k
  k != run && (k < 24 || (clu s d c).spared != 0x1F) && blkOn s (baseCORE d c k) && !x.gated && !x.retired
    && !coreMarked s key && x.slot == slot && x.task.isNone && x.pendTask.isNone && !x.checking
    && x.bank0.tiles.isEmpty && !x.bank0.loading && x.bank1.tiles.isEmpty && !x.bank1.loading
    && strikesOf s key == 0

/-- R482, R483: the draw at the dispatch of a core task, and its checker. -/
def sentinelSample (d c slot k : Nat) (t : CoreTask) (s : State) : State :=
  if !blkOn s baseSNT then s
  else
    let (i, s1) := fresh s
    if !Config.sentinelDraw i then s1
    else match (List.range 25).find? (checkerFits s1 d c slot k) with
      | none => s1.setRel { s1.rel with skipped := inc32 s1.rel.skipped 1 }
      | some k' =>
        let s2 := setCore s1 d c k' { core s1 d c k' with checking := true }
        s2.setRel { s2.rel with checks := s2.rel.checks ++ [{
          die := d, cluster := c, slot, core := k, checker := k', tag := t.tag
          job := ((jobAt s (ownerSlot s slot)).map (·.id)).getD 0xFFFF, rt := rtNow s }] }

/-- The task that a TASK instruction describes. -/
def taskOf (x : Ccc) (a b dd : Nat) : CoreTask :=
  let sc := sReg x dd
  { tag := BitVec.ofNat 16 (fld sc 16 16), entry := fld sc 0 10
    ars := (List.range 8).map fun i => BitVec.ofNat 16 (fld (sReg x (b + i / 4)) (16 * (i % 4)) 16)
    outTid := if bit sc 40 then some (fld sc 32 8) else none
    logical := fld (sReg x a) 0 5 }

/-- Run a TASK that has passed its encoding checks: fault, stall or start. -/
def taskGo (d c slot a b dd : Nat) (x : Ccc) (s : State) : State :=
  let t := taskOf x a b dd
  let k := physCore s d c t.logical
  if 24 ≤ t.logical || (clu s d c).lost == k || !blkOn s (baseCORE d c k) then cccFault d c slot 5 0xFF s
  else if !coreOpen s d c slot k then setCcc s d c slot { x with stall := some (.task a b dd) }
  else
    let y := core s d c k
    let s1 := sentinelSample d c slot k t s
    let y' := if y.task.isNone && !y.checking then coreStart y t else { y with pendTask := some t }
    cccNext d c slot { x with stall := none } (setCore s1 d c k y')

/-- TASK (R230). -/
def execTask (d c slot : Nat) (w : W32) (s : State) : Res :=
  cccIssue d c slot w (· = 0x10) 0x3FFFFFF (fld w 0 11 = 0 ∧ cB w ≠ 0 ∧ cB w ≠ 31) [cA w, cB w, cB w + 1, cD w]
    (taskGo d c slot (cA w) (cB w) (cD w)) s

/-! ### VRUN (R231) -/

/-- An S register as VRUN reads it. -/
def vrunReg (x : Ccc) (n : Nat) : W64 := if n < 32 then sReg x n else Config.vrunArg n

/-- Run a VRUN: fault, stall or start. -/
def vrunGo (d c slot a entry : Nat) (x : Ccc) (s : State) : State :=
  if !blkOn s (baseVE d c) then cccFault d c slot 8 0xFF s
  else
    let v := ve s d c slot
    if v.run then setCcc s d c slot { x with stall := some (.vrun a entry) }
    else
      let va := (List.range 8).foldl (fun t i =>
        tset 0 t i (BitVec.ofNat 32 (fld (vrunReg x (a + i / 2)) (32 * (i % 2)) 32))) []
      cccNext d c slot { x with stall := none }
        (setVe s d c slot { v with
          run := true, ending := false, pc := entry, va, vlen := 128, vl := [], tid := 0, loops := [], q := [] })

/-- VRUN (R231). -/
def execVrun (d c slot : Nat) (w : W32) (s : State) : Res :=
  cccIssue d c slot w (· = 0x11) 0x1F07FF true ((List.range 4).map (cA w + ·))
    (vrunGo d c slot (cA w) (fld w 0 11)) s

/-! ### The DMA instruction (R234 to R236) -/

/-- Element size of a format for alignment: raw 1, B formats 32, then the binary formats. -/
def dmaAlign (f : Nat) : Nat :=
  match f with | 0 => 1 | 1 => 32 | 2 => 32 | 3 => 32 | 4 => 4 | _ => 2

def dmaIsB (f : Nat) : Bool := 1 ≤ f && f ≤ 3

/-- The transfer that registers Sa to Sa+6 describe. -/
def xferOf (x : Ccc) (w : W32) : Xfer :=
  let a := cD w
  let r (i : Nat) : W64 := sReg x (a + i)
  { sfmt := fld w 18 3, dfmt := fld w 15 3, tid := fld w 7 8, src := r 0, dst := r 1
    elems := fld (r 2) 0 32, rows := fld (r 2) 32 16 + 1, sstride := fld (r 3) 0 32, dstride := fld (r 3) 32 32
    sscale := r 4, dscale := r 5, ibase := BitVec.ofNat 32 (r 6).toNat }

/-- The descriptor keeps R235 and R236. -/
def xferGood (x : Ccc) (w : W32) : Bool :=
  let a := cD w
  let t := xferOf x w
  1 ≤ a && a ≤ 25 && t.sfmt != 7 && t.dfmt != 7 && ((t.sfmt == 0) == (t.dfmt == 0))
    && 1 ≤ t.elems && t.elems ≤ 16777216 && fld (sReg x (a + 2)) 48 16 == 0 && fld (sReg x (a + 6)) 32 32 == 0
    && t.src.toNat % dmaAlign t.sfmt == 0 && t.sstride % dmaAlign t.sfmt == 0
    && t.dst.toNat % dmaAlign t.dfmt == 0 && t.dstride % dmaAlign t.dfmt == 0
    && (!dmaIsB t.sfmt || t.sscale.toNat % 4 == 0) && (!dmaIsB t.dfmt || t.dscale.toNat % 4 == 0)

/-- Run a DMA instruction: fault, stall or append. -/
def dmaGo (d c slot : Nat) (w : W32) (x : Ccc) (s : State) : State :=
  if !blkOn s (baseCLU d c) then cccFault d c slot 8 0xFF s
  else if !xferGood x w then cccFault d c slot 7 0xFF s
  else
    let q := dma s d c slot
    let full := if bit w 6 then 4 ≤ q.q1.length else 4 ≤ q.q0.length
    if full then setCcc s d c slot { x with stall := some (.dma w) }
    else
      let q' := if bit w 6 then { q with q1 := q.q1 ++ [xferOf x w] } else { q with q0 := q.q0 ++ [xferOf x w] }
      cccNext d c slot { x with stall := none } (setDma s d c slot q')

/-- CCC_DMA (R234, R235). -/
def execCccDma (d c slot : Nat) (w : W32) (s : State) : Res :=
  cccIssue d c slot w (· = 0x12) 0x3FFFFC0 true ((List.range 7).map (cD w + ·)) (dmaGo d c slot w) s

/-! ### Stalls -/

/-- CCC_STALL_END (R230 to R232, R234): the stalled instruction proceeds if it can now. -/
def execCccStallEnd (d c slot : Nat) (s : State) : Res :=
  let x := ccc s d c slot
  if x.task.isNone || x.faulted || !clocksRun s || !domOn s (quadDom d c) || !blkWorks s (baseCCC d c) then .next s
  else match x.stall with
    | some (.task a b dd) => .next (taskGo d c slot a b dd x s)
    | some (.vrun a e) => .next (vrunGo d c slot a e x s)
    | some (.dma w) => .next (dmaGo d c slot w x s)
    | some (.wait m v q0 q1) =>
      if waitOver s d c slot m v q0 q1 then .next (cccNext d c slot { x with stall := none } s) else .next s
    | some .summary =>
      if (ve s d c slot).run then .next s else .next (setCcc s d c slot { x with stall := none })
    | _ => .next s

end Sys2Proof.Machine
end

