-- ==== Sys2Proof/Machine/Wire.lean ====
section
/-! DEFINITION. Frames on the lanes (R368, R373, R374): symbols, check symbols, the striping over the positions of a set, and
what the decoder makes of the errors that a frame meets. -/

namespace Sys2Proof.Machine

open Sys2Proof

/-- Data symbols of codeword `k` of a frame whose bits are those of `n` (R368). -/
def dataSymbols (n k : Nat) : List Nat := (List.range 256).map fun j => n / 2 ^ (2560 * k + 10 * j) % 1024

/-- The 16 check symbols of an external codeword (R373). -/
def fecSymbols (data : List Nat) : List Nat := rsCheck 10 0x409 16 data

/-- The check symbols of an on-package codeword (R374): 16 check bits for each of its ten blocks of 256 bits. The spec names no
code; its check bits are free values (log entry 1). -/
def blockSymbols (n k : Nat) : List Nat :=
  let bits := (List.range 10).foldl (fun a b => a + (Config.blockCheck (n / 2 ^ (2560 * k + 256 * b) % 2 ^ 256)).toNat * 2 ^ (16 * b)) 0
  (List.range 16).map fun j => bits / 2 ^ (10 * j) % 1024

/-- The symbol stream of a frame of `cw` codewords (R368). -/
def frameSymbols (ext : Bool) (cw : Nat) (data : List Byte) : List Nat :=
  let n := leNat data
  (List.range cw).flatMap fun k => dataSymbols n k ++ if ext then fecSymbols (dataSymbols n k) else blockSymbols n k

/-- Symbol `j` of a frame travels on this position of a set (R368). -/
def symbolPos (set : List Nat) (j : Nat) : Nat := set.getD (j % set.length) 0

/-- What the `i`-th position of `n` carries of a frame; a fill symbol, for which none stands, ends a position that carries one
symbol fewer (R368). -/
def laneStream (n : Nat) (syms : List Nat) (i : Nat) : List (Option Nat) :=
  (List.range ((syms.length + n - 1) / n)).map fun r => syms[n * r + i]?

/-- Positions of a set with the symbols of a frame that each carries. -/
def lanesOf (set : List Nat) (syms : List Nat) : List (Nat × List (Option Nat)) :=
  ((List.range set.length).zip set).map fun x => (x.2, laneStream set.length syms x.1)

/-! ### The decoder -/

/-- Bit errors of a symbol that lie in block `b` of an on-package codeword: symbol `j` with the wrong bits `e`. -/
def blockHits (j e b : Nat) : Nat :=
  ((List.range 10).filter fun i =>
    e.testBit i && (if j < 256 then (10 * j + i) / 256 == b else (10 * (j - 256) + i) / 16 == b)).length

/-- Codeword `k` can be decoded when its symbols have met these errors (symbol of the frame, wrong bits): up to 8 wrong symbols
(R373), or on-package at most one wrong bit in each block (R374). -/
def wordDecodes (ext : Bool) (errs : List (Nat × Nat)) (k : Nat) : Bool :=
  let mine := errs.filter fun e => e.1 / 272 == k
  if ext then mine.length ≤ 8
  else (List.range 10).all fun b => (mine.foldl (fun n e => n + blockHits (e.1 % 272) e.2 b) 0) ≤ 1

/-- The errors of a frame that are wrong at all, one per symbol. -/
def realErrs (cw : Nat) (errs : List (Nat × Nat)) : List (Nat × Nat) :=
  (errs.foldl (fun (t : List (Nat × Nat)) e =>
    if e.1 < 272 * cw && e.2 % 1024 != 0 && !(t.any fun x => x.1 == e.1) then t ++ [(e.1, e.2 % 1024)] else t) [])

/-- Codewords of a frame that the decoder corrects. -/
def wordsFixed (ext : Bool) (cw : Nat) (errs : List (Nat × Nat)) : Nat :=
  ((List.range cw).filter fun k => (errs.any fun e => e.1 / 272 == k) && wordDecodes ext errs k).length

/-- Codewords of a frame that it cannot decode. -/
def wordsLost (ext : Bool) (cw : Nat) (errs : List (Nat × Nat)) : Nat :=
  ((List.range cw).filter fun k => !wordDecodes ext errs k).length

end Sys2Proof.Machine
end

