-- ==== Sys2Proof/Machine/Links.lean ====
section
/-! DEFINITION. Frames, replay and lanes (R367 to R385, R458 to R460): sending and receiving frames, the LANESET
protocol, restoring lanes, sparing them, and ports going up and down. -/

namespace Sys2Proof.Machine

open Sys2Proof

def lnk (s : State) (l : Nat) : Link := tget {} s.links l
def setLnk (s : State) (l : Nat) (x : Link) : State := s.setLinks (tset {} s.links l x)

/-- The engine of a link runs: its domain and its blocks are On (R383, R385, R441). -/
def linkServes (s : State) (l : Nat) : Bool :=
  if l < 32 then domOn s (64 + l / 8) && blkOn s (baseLNK l) && blkOn s (0x3060000 + l * 0x1000)
  else l < 96 && domOn s (8 * ((l - 32) / 8) + 6) && blkOn s (baseDFB ((l - 32) / 8))

/-- Positions of a link's groups: 10 external, 9 on-package (R348). -/
def linkPositions (l : Nat) : Nat := if l < 32 then 10 else 9

def popcount (n m : Nat) : Nat := (bitsOf n m).length

/-- The module is in item 6 of R79: idle frames carry DEPART. -/
def departs (s : State) : Bool := (s.shut.map fun h => h.item == 6).getD false

/-! ### Building a frame (R367, R369) -/

/-- The acknowledgement that a frame carries. -/
def ackOf (x : Link) : Option (BitVec 10) :=
  if x.rxAny then some (BitVec.ofNat 10 (x.rxSeq.toNat + 65535)) else none

/-- Fill the header fields that every frame takes from the sender's state. -/
def dress (s : State) (l : Nat) (f : Frame) : Frame :=
  { f with ack := ackOf (lnk s l), partition := s.fab.partition, depart := departs s, winter := winterRuns s }

/-- Send a frame that is neither acknowledged nor replayed. -/
def sendPlain (l : Nat) (f : Frame) (s : State) : State := emit (.frame l (dress s l f)) s

/-- A control frame (R371); its operands are packed low byte first (log entry 17). -/
def sendControl (l op : Nat) (args : List Byte) (s : State) : State :=
  sendPlain l { typ := 3, body := fit 300 (BitVec.ofNat 8 op :: args) } s

/-- The logical lane that position `p` carries, by a lane map; 0xF if none. -/
def laneAt (map : W32) (p : Nat) : Nat := ((List.range 8).find? fun n => fld map (4 * n) 4 == p).getD 15

/-- The 16 header bytes of a frame (R369) with ACK and ACKV taken as 0. -/
def headerBytes (x : Link) (f : Frame) : List Byte :=
  let ps := bitsOf 10 x.txSet.toNat
  let lo := (List.range 8).foldl (fun a j =>
    a + ((f.seqNo.toNat % 64) * 16 + (match ps[j]? with | some p => laneAt x.mapTx p | none => 15)) * 2 ^ (10 * j)) 0
  leBytes 16 (lo + f.typ * 2 ^ 80 + b2n f.nf * 2 ^ 84 + b2n f.winter * 2 ^ 85 + b2n f.depart * 2 ^ 86
    + f.partition * 2 ^ 88 + f.realm * 2 ^ 100 + f.epoch * 2 ^ 102 + (f.cw - 1) * 2 ^ 104
    + f.seqNo.toNat / 64 * 2 ^ 108)

/-- The 32 header bytes of a packet (R424). -/
def packetHeader (p : Packet) : List Byte :=
  leBytes 1 p.kind ++ leBytes 1 p.hops ++ leBytes 2 p.len ++ leBytes 2 p.dst ++ leBytes 2 p.src ++ leBytes 8 p.offset
    ++ leBytes 4 p.tag.toNat ++ [p.step] ++ leBytes 1 (8 * p.slot + p.die) ++ leBytes 2 p.aux ++ leBytes 8 p.aux2.toNat

/-- Bytes that a frame's packets take in its body. -/
def packetsLen (f : Frame) : Nat := f.packets.foldl (fun n p => n + 32 + p.payload.length) 0

/-- All bytes of a frame (R367): header with the acknowledgement, body, CRC-32. The tag of a sealed frame ends its body. -/
def frameBytes (x : Link) (f : Frame) : List Byte :=
  let head := leBytes 16 (leNat (headerBytes x f) + (match f.ack with | some a => 2 ^ 87 + a.toNat * 2 ^ 118 | none => 0))
  let body := if f.typ = 1 ∨ f.typ = 2 then f.packets.flatMap fun p => packetHeader p ++ p.payload else f.body
  let room := 320 * f.cw - 20
  let b := head ++ (if f.realm = 0 then fit room body else fit (room - 16) body ++ fit 16 f.tag)
  b ++ leBytes 4 (crc32 b).toNat

/-- A frame as link `l` sends it: its transmit positions with the symbols that each carries (R368). -/
def wireOf (s : State) (l : Nat) (f : Frame) : List (Nat × List (Option Nat)) :=
  let x := tget {} s.links l
  lanesOf (bitsOf 10 x.txSet.toNat) (frameSymbols (l < 32) f.cw (frameBytes x f))

/-- Codewords of a frame that holds these packets, with its tag if it is sealed. -/
def codewords (f : Frame) : Nat :=
  max 1 ((packetsLen f + (if f.realm = 0 then 0 else 16) + 20 + 319) / 320)

/-! ### Sealing (R458 to R461) -/

/-- The epoch under which frames of a realm are first sent now (R453). -/
def sendEpoch (r : Realm) : Nat := if r.two && !r.linkNew then (r.epoch + 3) % 4 else r.epoch

/-- The link key of a realm and epoch on port `l`, for one direction (R447); none if it is not held. -/
def linkKey (s : State) (realm epoch l : Nat) (out : Bool) : Option (List Byte) :=
  let r := realmOf s realm
  let peer := tget {} s.fab.ports l
  match tget [] r.secrets epoch with
  | [] => none
  | x =>
    let me := leBytes 8 s.flash.serial.toNat ++ leBytes 1 l
    let you := leBytes 8 peer.peerSerial.toNat ++ leBytes 1 peer.peerPort
    some (hkdf r.realmId x (ascii "XNX880 LINK" ++ (if out then me ++ you else you ++ me)) 32)

/-- Key of a counter of R459: realm, epoch, port, peer port and peer serial. -/
def linkKeyId (s : State) (realm epoch l : Nat) : Nat :=
  let peer := tget {} s.fab.ports l
  (((realm * 4 + epoch) * 32 + l) * 256 + peer.peerPort) * 2 ^ 64 + peer.peerSerial.toNat

def gcmIv (ctr : Nat) : List Byte := zeros 4 ++ beBytes 8 ctr

/-- The AAD of a sealed frame (R458): its header, its packet headers and the zeros after them. -/
def frameAad (x : Link) (f : Frame) : List Byte :=
  headerBytes x f ++ f.packets.flatMap packetHeader ++ zeros (320 * f.cw - 36 - packetsLen f)

/-- Put bytes back as the payloads of packets. -/
def repack : List Packet → List Byte → List Packet
  | [], _ => []
  | p :: ps, b => { p with payload := b.take p.payload.length } :: repack ps (b.drop p.payload.length)

/-- A frame as it is first sent: sealed when its realm is a tenant realm. -/
def sealFrame (l : Nat) (f : Frame) (s : State) : Frame × State :=
  if f.realm = 0 then (f, s)
  else
    let e := sendEpoch (realmOf s f.realm)
    match linkKey s f.realm e l true with
    | none => (f, s)
    | some key =>
      let id := linkKeyId s f.realm e l
      let iv := gcmIv (tget 0 s.sec.txCtr id)
      let g := { f with epoch := e }
      let ct := gcmXor key iv (g.packets.flatMap (·.payload))
      let tag := gcmTag key iv (frameAad (lnk s l) g) ct
      ({ g with packets := repack g.packets ct, tag }, s.setSec { s.sec with txCtr := tmod 0 s.sec.txCtr id (· + 1) })

/-- Open a received sealed frame under the counter `ctr`. -/
def openWith (key : List Byte) (x : Link) (f : Frame) (ctr : Nat) : Option (List Packet) :=
  let iv := gcmIv ctr
  let ct := f.packets.flatMap (·.payload)
  if gcmTag key iv (frameAad x f) ct = f.tag then some (repack f.packets (gcmXor key iv ct)) else none

/-! ### Sending with replay (R375, R376) -/

/-- Data and reduction frames may be sent now. -/
def linkOpen (s : State) (l : Nat) : Bool := linkServes s l && (lnk s l).pst == .up

/-- NF of a frame at its first sending: a reduction frame of this module carries the running flag of the slot that its
packets belong to (R327). -/
def sendNf (s : State) (f : Frame) : Bool :=
  match f.packets with
  | p :: _ => if f.typ = 2 ∧ p.src = ownChip s then runFlag s p.slot else f.nf
  | [] => f.nf

/-- First sending of a frame: sequence number, seal, replay buffer. -/
def sendFirst (l : Nat) (f : Frame) (s : State) : State :=
  let x := lnk s l
  let g := { dress s l f with seqNo := x.txSeq, cw := codewords f, nf := sendNf s f }
  let r := sealFrame l g s
  let y := lnk r.2 l
  emit (.frame l r.1) (setLnk r.2 l { y with
    txSeq := y.txSeq + 1, unacked := y.unacked ++ [(r.1, 0)], enc := y.enc || f.realm != 0 })

/-- Frames of a closing realm are not sent (R477, R478). -/
def realmSends (s : State) (realm : Nat) : Bool := realm == 0 || (realmOf s realm).st != .winter

/-- Send a data or reduction frame, or hold it at its sender (R376, R382). -/
def sendData (l : Nat) (f : Frame) (s : State) : State :=
  let x := lnk s l
  if !realmSends s f.realm then s
  else if linkOpen s l && x.held.isEmpty && x.unacked.length < 128 then sendFirst l f s
  else setLnk s l { x with held := x.held ++ [f] }

/-- Send held frames while the window has room. -/
def flushGo (l : Nat) : List Frame → State → State
  | [], s => setLnk s l { lnk s l with held := [] }
  | f :: fs, s =>
    if 128 ≤ (lnk s l).unacked.length then setLnk s l { lnk s l with held := f :: fs }
    else flushGo l fs (if realmSends s f.realm then sendFirst l f s else s)

def flushHeld (l : Nat) (s : State) : State := if linkOpen s l then flushGo l (lnk s l).held s else s

/-- Resend unacknowledged frames from a sequence number on; a frame already resent 8 times takes the link down. -/
def replayFrom (l : Nat) (n : W16) (s : State) : State :=
  let x := lnk s l
  let todo := x.unacked.dropWhile fun e => e.1.seqNo != n
  if todo.isEmpty || !linkOpen s l then s
  else if todo.any fun e => 8 ≤ e.2 then portDown l 2 s
  else
    let kept := x.unacked.takeWhile fun e => e.1.seqNo != n
    let s1 := setLnk s l { x with
      unacked := kept ++ todo.map (fun e => (e.1, e.2 + 1)), replay := true, replays := inc32 x.replays todo.length }
    todo.foldl (fun t e => emit (.frame l { e.1 with ack := ackOf x }) t) s1

/-- Resend from the oldest unacknowledged frame. -/
def replayOldest (l : Nat) (s : State) : State :=
  match (lnk s l).unacked with
  | [] => s
  | e :: _ => replayFrom l e.1.seqNo s

/-- Drop frames through the one that an ACK names. -/
def ackGo (a : BitVec 10) : List (Frame × Nat) → Option (List (Frame × Nat))
  | [] => none
  | e :: es => if e.1.seqNo.toNat % 1024 = a.toNat then some es else ackGo a es

def ackTake (l : Nat) (a : Option (BitVec 10)) (s : State) : State :=
  match a with
  | none => s
  | some a =>
    let x := lnk s l
    match ackGo a x.unacked with
    | none => s
    | some rest => flushHeld l (setLnk s l { x with unacked := rest.map (fun e => (e.1, 0)), replay := false })

/-! ### Ports going up (R382, R416) -/

/-- The link carries data again: held traffic goes on and replay resumes. -/
def portUp (l : Nat) (s : State) : State :=
  let x := lnk s l
  let s1 := setLnk s l { x with
    pst := .up, wasDown := false, fresh := true, departRx := false, trainMask := 0, wantRx := none }
  retime (flushHeld l (replayOldest l (if x.wasDown then logMod 0x400B (linkUnit l) (linkName l) s1 else s1)))

/-- Both directions hold 4 positions or more. -/
def lanesEnough (x : Link) : Bool := 4 ≤ popcount 10 x.txSet.toNat && 4 ≤ popcount 10 x.rxSet.toNat

/-- A down link whose lanes are back: an on-package pair is up; a port runs the identity exchange first (R416). -/
def lanesBack (l : Nat) (s : State) : State :=
  let x := lnk s l
  if x.pst == .down && lanesEnough x then
    if l < 32 then
      (setLnk s l { x with pst := .training }).setFab { s.fab with
        ports := tmod {} s.fab.ports l fun p => { p with trained := true } }
    else portUp l s
  else s

/-! ### Receiving (R372, R375, R420, R460) -/

/-- PARTITION_FOREIGN (R420). -/
def partForeign (l : Nat) (s : State) : State := logFold ticksSec 0x400D 0xFF 0xFFFF (linkUnit l) (linkName l) s

/-- NAK for the frame expected; later frames are discarded until it arrives. -/
def sendNak (l : Nat) (s : State) : State :=
  let x := lnk s l
  if x.discarding then s
  else sendControl l 1 (leBytes 2 x.rxSeq.toNat) (setLnk s l { x with discarding := true })

/-- FEC counters of a frame (R373, R385): the symbols corrected count on the positions that carried them. -/
def fecCount (l : Nat) (i : FrameIn) (s : State) : State :=
  let x := lnk s l
  let es := realErrs i.f.cw i.errs
  let set := bitsOf 10 x.rxSet.toNat
  setLnk s l { x with
    cwCorr := inc32 x.cwCorr (wordsFixed (l < 32) i.f.cw es), cwUnc := inc32 x.cwUnc (wordsLost (l < 32) i.f.cw es)
    sym := (es.filter fun e => wordDecodes (l < 32) es (e.1 / 272)).foldl (fun t e => tmod 0 t (symbolPos set e.1) (inc32 · 1)) x.sym }

/-- The first check of R372 that a frame fails, 0 for none: 1 when a codeword does not decode. -/
def rxFail (l : Nat) (i : FrameIn) : Nat :=
  if wordsLost (l < 32) i.f.cw (realErrs i.f.cw i.errs) ≠ 0 then 1 else i.fail

/-- The checks of R372 on a frame of a kind, and what its header brings; false when the frame is discarded. -/
def rxChecks (l : Nat) (i : FrameIn) (s : State) : Bool × State :=
  let s1 := fecCount l i s
  if rxFail l i ≠ 0 then (false, s1)
  else if i.f.typ ≠ 0 ∧ i.f.typ ≠ 4 ∧ i.f.partition ≠ s1.fab.partition then (false, partForeign l s1)
  else if i.f.realm = 3 then (false, s1)
  else
    let x := lnk s1 l
    let s2 := setLnk s1 l { x with
      winterRx := i.f.winter, lastDepart := i.f.depart, pst := if x.pst == .hold then .up else x.pst
      tagStage := x.tagStage.filter fun e => !x.rxSet.getLsbD e.1 }
    (true, ackTake l i.f.ack s2)

/-- A link receives frames at all. -/
def linkLit (s : State) (l : Nat) : Bool :=
  let p := (lnk s l).pst
  linkServes s l && p != .dark && p != .quarantined

/-- What the receiver makes of a sealed frame: packets and whether they are opened, or none when the tag fails. -/
def openFrame (l : Nat) (f : Frame) (s : State) : Option (List Packet × Bool × State) :=
  if f.realm = 0 then some (f.packets, true, s)
  else match linkKey s f.realm f.epoch l false with
    | none => some (f.packets, false, s)
    | some key =>
      let id := linkKeyId s f.realm f.epoch l
      let c := tget 0 s.sec.rxCtr id
      let n := if (lnk s l).fresh then 129 else 1
      ((List.range n).findSome? fun k => (openWith key (lnk s l) f (c + k)).map fun ps => (ps, c + k)).map fun r =>
        (r.1, true, setLnk (s.setSec { s.sec with rxCtr := tset 0 s.sec.rxCtr id (r.2 + 1) }) l
          { lnk s l with fresh := false })

/-- The NF bit of a reduction frame joins the running flag of the step that a packet names (R327). -/
def nfTake (nf : Bool) (realm : Nat) (p : Packet) (s : State) : State :=
  if !nf then s
  else match jobAt s p.slot with
    | some j => match j.step with
      | some st => if BitVec.ofNat 8 st.num.toNat = p.step ∧ j.realm = realm then
          setJobAt s p.slot (some { j with step := some { st with rxFlag := true } }) else s
      | none => s
    | none => s

/-- A data or reduction frame in sequence is delivered and acknowledged; any other is dropped or NAKed. -/
def deliver (l : Nat) (f : Frame) (red : Bool) (s : State) : State :=
  let x := lnk s l
  if f.seqNo = x.rxSeq then
    match openFrame l f s with
    | none =>
      sendNak l (logFold ticksMs 0x6005 (BitVec.ofNat 8 f.realm) 0xFFFF (linkUnit l) (linkName l ++ [dw f.realm, dw f.epoch]) s)
    | some (ps, opened, s1) =>
      let y := lnk s1 l
      let s2 := setLnk s1 l { y with
        rxSeq := y.rxSeq + 1, rxAny := true, discarding := false, enc := y.enc || f.realm != 0 }
      let now := rtNow s2
      let s3 := s2.setFab { s2.fab with inbox := s2.fab.inbox ++ ps.map fun p =>
        { pkt := p, link := l, realm := f.realm, opened, red, nf := f.nf, stamp := now } }
      let s4 := if red && opened then
          ps.foldl (fun t p => if p.dst = ownChip t then nfTake f.nf f.realm p t else t) s3
        else s3
      sendPlain l { typ := 0 } s4
  else if (f.seqNo - x.rxSeq).toNat < 32768 then sendNak l s
  else s

/-- A frame of the data or reduction kind arrives. -/
def rxData (l : Nat) (i : FrameIn) (typ : Nat) (s : State) : Res :=
  if !linkLit s l || i.f.typ ≠ typ then .next s
  else
    let r := rxChecks l i s
    if !r.1 then .next (sendNak l r.2)
    else if (lnk r.2 l).pst != .up then .next r.2
    else .next (deliver l i.f (typ == 2) r.2)

/-- DATA_FRAME (R375). -/
def execDataFrame (l : Nat) (i : FrameIn) (s : State) : Res := rxData l i 1 s

/-- REDUCTION_FRAME (R327, R375): its NF bit goes with each of its packets. -/
def execReductionFrame (l : Nat) (i : FrameIn) (s : State) : Res := rxData l i 2 s

/-- IDLE_FRAME (R370): its header alone counts. -/
def execIdleFrame (l : Nat) (i : FrameIn) (s : State) : Res :=
  if !linkLit s l || i.f.typ ≠ 0 then .next s
  else
    let r := rxChecks l i s
    .next (if r.1 then r.2 else sendNak l r.2)

/-- A control frame with its own effect. -/
def rxControl (l : Nat) (i : FrameIn) (act : State → State) (s : State) : Res :=
  if !linkLit s l || i.f.typ ≠ 3 then .next s
  else
    let r := rxChecks l i s
    .next (if r.1 then act r.2 else sendNak l r.2)

/-- NAK (R376). -/
def execNak (l : Nat) (i : FrameIn) (n : W16) (s : State) : Res := rxControl l i (replayFrom l n) s

/-- REPLAY_TIMEOUT (R376): ACK has not advanced for the timeout. -/
def execReplayTimeout (l : Nat) (s : State) : Res :=
  if !linkOpen s l then .next s else .next (replayOldest l s)

/-! ### LANESET (R378, R383) -/

/-- A held maintenance lock of class `cls` covers a link. -/
def linkLocked (s : State) (cls : List Nat) (l : Nat) : Bool :=
  s.rel.locks.any fun e => (e.2.map fun k => cls.contains k.cls && (lockCovers k (linkUnit l)
    || (fld k.res 56 8 == 9 && fld k.res 40 8 == l))).getD false

/-- A spare position that neither carries a lane nor stays dropped. -/
def freeSpare (x : Link) (used : List (Nat × Nat)) (l : Nat) : Option Nat :=
  [8, 9].find? fun p => p < linkPositions l && !(used.any fun e => e.2 == p) && !x.stuck.contains p

/-- Logical lane of a position, given the lanes moved to spare positions. -/
def laneOfPos (spares : List (Nat × Nat)) (p : Nat) : Option Nat :=
  match spares.find? fun e => e.2 == p with
  | some e => some e.1
  | none => if p < 8 && !(spares.any fun e => e.1 == p) then some p else none

/-- R491: receive positions that stay dropped are moved to a free spare position; the move waits while a LANE_RETRAIN or
MARGIN_SWEEP lock covers the port. -/
def moveStuck (l : Nat) (s : State) : State :=
  let x := lnk s l
  if linkLocked s [0, 3] l || (freeSpare x x.sparesRx l).isNone then s
  else match (x.stuck.filter fun p => !x.rxSet.getLsbD p).findSome? (laneOfPos x.sparesRx) with
    | some n => sendControl l 6 (leBytes 1 n) s
    | none => s

/-- Lanes that a map of 8 positions puts on spare positions; a lane without a position keeps what it had. -/
def sparesOf (old : List (Nat × Nat)) (map : W32) : List (Nat × Nat) :=
  (List.range 8).filterMap fun n =>
    let p := fld map (4 * n) 4
    if p = 15 then old.find? fun e => e.1 == n else if p = n then none else some (n, p)

/-- LANE_RETRAIN starts on a dropped position: its exclusion list is cleared and its ring is swept (R358, R379). -/
def retrainPos (l p : Nat) (rx : Bool) (s : State) : State :=
  match ringOf s l p rx with
  | some key => s.setOpt { s.opt with ring := tmod {} s.opt.ring key fun x => { x with excl := [], st := .sweep } }
  | none => s

/-- LANE_DROP at one end: direction 0 receive, 1 transmit. -/
def logLaneDrop (l p : Nat) (map : W32) (dir cause : Nat) (s : State) : State :=
  let x := lnk s l
  logMod 0x4001 (linkUnit l) (linkName l ++ [dw p, dw (laneAt map p), dw dir, dw cause]) (setLnk s l { x with drops := inc32 x.drops 1 })

/-- LANE_RESTORED at one end. -/
def logLaneRestored (l p dir : Nat) (map : W32) (s : State) : State :=
  logMod 0x4007 (linkUnit l) (linkName l ++ [dw p, dw (laneAt map p), dw dir]) s

/-- The cause for which a receive position is or is being dropped. -/
def dropCause (x : Link) (p : Nat) : Nat :=
  match x.dropped.find? fun e => e.1 == p with | some e => e.2 | none => (x.wantRx.map (·.2)).getD 0

/-- Ask the transmitter for a receive set; below 4 positions no LANESET is sent and the link is down. -/
def wantSet (l : Nat) (m : BitVec 10) (cause : Nat) (s : State) : State :=
  let x := lnk s l
  if popcount 10 m.toNat < 4 && (x.pst == .up || x.pst == .hold || x.pst == .switching) then
    portDown l 1 (setLnk s l { x with rxSet := m })
  else sendControl l 2 (leBytes 2 m.toNat ++ leBytes 1 cause) (setLnk s l { x with wantRx := some (m, cause) })

/-- Position `p` leaves the receive set for a cause. -/
def laneDrop (l p cause : Nat) (s : State) : State :=
  let x := lnk s l
  let cur := (x.wantRx.map (·.1)).getD x.rxSet
  if !cur.getLsbD p || x.pst == .hold then s
  else
    let m := cur &&& ~~~(BitVec.ofNat 10 (2 ^ p))
    wantSet l m cause (setLnk s l { x with
      dropped := x.dropped ++ [(p, cause)], stuck := if cause = 4 then x.stuck ++ [p] else x.stuck })

/-- Sweep a ring with one more line excluded (R358, R384). -/
def sweepWithout (key line : Nat) (s : State) : State :=
  s.setOpt { s.opt with ring := tmod {} s.opt.ring key fun x =>
    { x with st := .sweep, excl := if x.excl.contains line then x.excl else (line :: x.excl).take 2 } }

/-- What a TAG failure adds: the mismatch is logged, and the ring, then the remote ring, is swept (R384). -/
def tagFailure (l p found : Nat) (s : State) : State :=
  let x := lnk s l
  let s1 := logMod 0x4002 (linkUnit l) (linkName l ++ [dw p, dw (laneAt x.mapRx p), dw found]) s
  let st := tget 0 x.tagStage p
  let s2 := setLnk s1 l { lnk s1 l with
    tagStage := tset 0 x.tagStage p (min 2 (st + 1)), stuck := if 2 ≤ st then x.stuck ++ [p] else x.stuck }
  match ringOf s2 l p true with
  | none => s2
  | some key =>
    let line := (tget {} s2.opt.ring key).line
    if st = 0 then sweepWithout key line s2
    else if st = 1 then sendControl l 4 (leBytes 1 p ++ leBytes 1 line) s2
    else s2

/-- A LOCKED filter ring has no light to lock on: it goes to HOLD (R355). -/
def ringDark (l : Nat) (s : State) (p : Nat) : State :=
  match ringOf s l p true with
  | some key => s.setOpt { s.opt with ring := tmod {} s.opt.ring key fun (x : OptRing) =>
      if x.st == .locked then { x with st := .hold } else x }
  | none => s

/-- LANE_DROP_CONDITION (R378, R384): `found` is the lane found in a TAG failure. -/
def execLaneDropCondition (l p cause found : Nat) (s : State) : Res :=
  let x := lnk s l
  if !linkLit s l || cause = 0 || 5 < cause || !x.rxSet.getLsbD p || x.pst == .hold then .next s
  else .next (laneDrop l p cause (if cause = 2 then tagFailure l p found s else if cause = 1 then ringDark l s p else s))

/-- LANESET_REQUEST_REPEAT (R378): every 2 µs until the commit. -/
def execLanesetRequestRepeat (l : Nat) (s : State) : Res :=
  match (lnk s l).wantRx with
  | some (m, c) =>
    if linkLit s l then .next (sendControl l 2 (leBytes 2 m.toNat ++ leBytes 1 c) s) else .next s
  | none => .next s

/-- Lane map of a mask: a lane moved to a spare stands there, any other on its own position. -/
def mapOf (spares : List (Nat × Nat)) (m : BitVec 10) : W32 :=
  BitVec.ofNat 32 ((List.range 8).foldl (fun a n =>
    let p := ((spares.find? fun e => e.1 == n).map (·.2)).getD n
    a + (if m.getLsbD p then p else 15) * 16 ^ n) 0)

/-- Exclusion lists of restored lanes are cleared (R358). -/
def clearExcl (l p : Nat) (rx : Bool) (s : State) : State :=
  match ringOf s l p rx with
  | some key => s.setOpt { s.opt with ring := tmod {} s.opt.ring key fun x => { x with excl := [] } }
  | none => s

/-- Commit a transmit set (R378): from the next frame on, the frames run on it. -/
def commitTx (l : Nat) (m : BitVec 10) (cause : Nat) (s : State) : State :=
  let x := lnk s l
  let gone := bitsOf 10 (x.txSet &&& ~~~m).toNat
  let came := bitsOf 10 (m &&& ~~~x.txSet).toNat
  let map := mapOf x.sparesTx m
  let s1 := setLnk s l { x with txSet := m, mapTx := map }
  let s2 := sendControl l 3 (leBytes 2 m.toNat ++ leBytes 4 map.toNat ++ leBytes 2 x.txSeq.toNat) s1
  let s3 := gone.foldl (fun t p => logLaneDrop l p x.mapTx 1 cause t) s2
  lanesBack l (came.foldl (fun t p => clearExcl l p false (logLaneRestored l p 1 map t)) s3)

/-- LANESET_REQUEST (R378): the transmitter answers with a commit. -/
def execLanesetRequest (l : Nat) (i : FrameIn) (m : BitVec 10) (cause : Nat) (s : State) : Res :=
  rxControl l i (fun t => commitTx l m cause t) s

/-- LANESET_COMMIT (R366, R378, R379): the receiver deskews on the new set. -/
def execLanesetCommit (l : Nat) (i : FrameIn) (m : BitVec 10) (map : W32) (s : State) : Res :=
  rxControl l i (fun t =>
    let x := lnk t l
    let gone := bitsOf 10 (x.rxSet &&& ~~~m).toNat
    let came := bitsOf 10 (m &&& ~~~x.rxSet).toNat
    let remote := gone.filter fun p => dropCause x p == 0
    let s1 := gone.foldl (fun u p => logLaneDrop l p x.mapRx 0 (if remote.contains p then 5 else dropCause x p) u) t
    let s2 := setLnk s1 l { lnk s1 l with
      rxSet := m, mapRx := map, sparesRx := sparesOf x.sparesRx map, wantRx := none, dropped := (x.dropped ++ remote.map fun p => (p, 5)).filter fun e => !m.getLsbD e.1
      trainMask := (lnk s1 l).trainMask &&& ~~~m }
    let s2 := if linkLocked s2 [3] l then gone.foldl (fun u p => retrainPos l p true u) s2 else s2
    let s3 := came.foldl (fun u p => clearExcl l p true (logLaneRestored l p 0 map u)) s2
    let s4 := ((sparesOf x.sparesRx map).filter fun e => !x.sparesRx.contains e).foldl (fun u e =>
      logMod 0x400F (linkUnit l) (linkName l ++ [dw e.1, 0, dw e.2]) u) s3
    moveStuck l (if (lnk s4 l).pst == .switching then lanesBack l (setLnk s4 l { lnk s4 l with pst := .up })
      else lanesBack l s4)) s

/-! ### Restoring and sparing lanes (R379, R380, R384, R491) -/

/-- Begin the training of a dropped position whose ring is locked again. -/
def startTrain (l p : Nat) (s : State) : State :=
  let x := lnk s l
  let m := x.trainMask ||| BitVec.ofNat 10 (2 ^ p)
  sendControl l 5 (leBytes 2 m.toNat ++ leBytes 2 0) (setLnk s l { x with trainMask := m })

/-- RESWEEP (R384): the modulator ring of a position is swept with a line excluded. -/
def execResweep (l : Nat) (i : FrameIn) (p line : Nat) (s : State) : Res :=
  rxControl l i (fun t => match ringOf t l p false with | some key => sweepWithout key line t | none => t) s

/-- TRAIN (R379): both ends train the positions named; `passed` are those that the peer has found free of error. -/
def execTrain (l : Nat) (i : FrameIn) (m passed : BitVec 10) (s : State) : Res :=
  rxControl l i (fun t =>
    let x := lnk t l
    let new := m &&& ~~~x.trainMask
    let _ := passed
    if new = 0 then t
    else sendControl l 5 (leBytes 2 (x.trainMask ||| m).toNat ++ leBytes 2 0)
      (setLnk t l { x with trainMask := x.trainMask ||| m })) s

/-- Restorations of a position within the last hour. -/
def recentRestores (s : State) (x : Link) (p : Nat) : List W64 :=
  (tget [] x.restores p).filter fun t => (rtNow s).toNat - t.toNat < 3600 * ticksSec

/-- The position may be restored without LANE_RETRAIN (R379). -/
def autoRestores (s : State) (l p : Nat) : Bool :=
  let x := lnk s l
  !x.stuck.contains p && dropCause x p != 4 && (recentRestores s x p).length < 3 && !linkLocked s [3] l

/-- LANE_PRBS_DONE (R379): the pattern on a trained position has ended, free of error or not. -/
def execLanePrbsDone (l p : Nat) (ok : Bool) (s : State) : Res :=
  let x := lnk s l
  if !linkLit s l || !x.trainMask.getLsbD p || linkPositions l ≤ p then .next s
  else if !ok then .next (setLnk s l { x with trainMask := x.trainMask &&& ~~~(BitVec.ofNat 10 (2 ^ p)) })
  else
    let fall := x.pst == .down || x.pst == .training
    let lock := linkLocked s [3] l
    if !fall && !lock && !autoRestores s l p then .next (moveStuck l (setLnk s l { x with
        trainMask := x.trainMask &&& ~~~(BitVec.ofNat 10 (2 ^ p))
        stuck := if x.stuck.contains p then x.stuck else x.stuck ++ [p] }))
    else
      let y := { x with
        trainMask := x.trainMask &&& ~~~(BitVec.ofNat 10 (2 ^ p))
        restores := if fall || lock then x.restores else tset [] x.restores p (rtNow s :: recentRestores s x p)
        stuck := if lock then x.stuck.filter (· != p) else x.stuck
        tagStage := if lock then tset 0 x.tagStage p 0 else x.tagStage }
      let m := (x.wantRx.map (·.1)).getD x.rxSet ||| BitVec.ofNat 10 (2 ^ p)
      .next (wantSet l m 0 (setLnk s l y))

/-- Move a logical lane of the transmit direction to a spare position, train it and commit (R380). -/
def spareTx (l n : Nat) (s : State) : Option State :=
  let x := lnk s l
  (freeSpare x x.sparesTx l).map fun p =>
    let old := laneMapPos x n
    let m := (x.txSet &&& ~~~(BitVec.ofNat 10 (2 ^ old))) ||| BitVec.ofNat 10 (2 ^ p)
    let s1 := setLnk s l { x with sparesTx := x.sparesTx.filter (fun e => e.1 != n) ++ [(n, p)] }
    commitTx l m 0 (logMod 0x400F (linkUnit l) (linkName l ++ [dw n, 1, dw p]) s1)
where
  /-- Transmit position of a logical lane. -/
  laneMapPos (x : Link) (n : Nat) : Nat := ((x.sparesTx.find? fun e => e.1 == n).map (·.2)).getD n

/-- SPARE (R380): the remote end asks to move a logical lane to a free spare position. -/
def execSpare (l : Nat) (i : FrameIn) (n : Nat) (s : State) : Res :=
  rxControl l i (fun t => if 8 ≤ n then t else (spareTx l n t).getD t) s

/-! ### Common-mode outages (R381) -/

/-- COMMON_MODE_OUTAGE (R381): every position of a direction loses light at once. After a frame with DEPART the port
goes dark and nothing is logged. -/
def execCommonModeOutage (l : Nat) (s : State) : Res :=
  let x := lnk s l
  if !linkLit s l || x.pst != .up then .next s
  else
    let t := (bitsOf 10 x.rxSet.toNat).foldl (ringDark l) s
    if x.lastDepart then .next (portForget l (setLnk t l { x with pst := .dark, departRx := true }))
    else .next (setLnk t l { x with pst := .hold })

/-- COMMON_MODE_HOLD_EXPIRY (R381, R382): light has not returned within 100 µs. -/
def execCommonModeHoldExpiry (l : Nat) (s : State) : Res :=
  if (lnk s l).pst == .hold then .next (portDown l 3 s) else .next s

end Sys2Proof.Machine
end

