-- ==== Sys2Proof/Machine/Optics.lean ====
section
/-! DEFINITION. Lasers, rings, lock sequencers and the switch matrix (R348 to R366). -/

namespace Sys2Proof.Machine

open Sys2Proof

def laser (s : State) (n : Nat) : Laser := tget {} s.opt.las n
def setLaser (s : State) (n : Nat) (x : Laser) : State := s.setOpt { s.opt with las := tset {} s.opt.las n x }
def optRing (s : State) (k : Nat) : OptRing := tget {} s.opt.ring k
def setOptRing (s : State) (k : Nat) (x : OptRing) : State := s.setOpt { s.opt with ring := tset {} s.opt.ring k x }
def seqr (s : State) (d : Nat) : Seq := tget {} s.opt.seq d
def setSeqr (s : State) (d : Nat) (x : Seq) : State := s.setOpt { s.opt with seq := tset {} s.opt.seq d x }

/-! ### Lasers (R349, R352 to R354) -/

/-- The hot spare that replaces laser `n`: one of the same bank is preferred; the lowest number (DEDUCED, log entry
18). -/
def hotSpare (s : State) (n : Nat) : Option Nat := (bankOrder n).find? fun k => (laser s k).hot

/-- An off spare that can be started. -/
def offSpare (s : State) (n : Nat) : Option Nat :=
  (bankOrder n).find? fun k =>
    let x := laser s k
    !x.hot && x.bus.isNone && !x.failed && !x.retired && x.starting.isNone && domOn s (laserDom k) && blkOn s (baseLAS k)

/-- BIAS_TARGET of the margin plan, the bias at which a laser starts. -/
def biasTarget (s : State) (n : Nat) : W16 := BitVec.ofNat 16 (tget (0, 0, 0) (planInForce s).lasers n).1

/-- Laser `k`, a spare, feeds bus `b` in place of laser `old`. -/
def laserFeeds (k b old power low : Nat) (s : State) : State :=
  let s1 := setLaser s k { laser s k with
    hot := false, starting := none, bus := some b, bias := biasTarget s k, mean := BitVec.ofNat 16 power, min := BitVec.ofNat 16 low }
  logSpared b old (some k) (wornCheck (s1.setOpt { s1.opt with bus := tset 0 s1.opt.bus b power }) k)

/-- Start an off spare in place of laser `n`, for a bus that stands dark or as a hot spare. -/
def startSpare (n : Nat) (why : Option (Nat × Nat)) (s : State) : Option State :=
  (offSpare s n).map fun o => setLaser s o { laser s o with starting := some why }

/-- Laser `n` leaves bus `b`: a hot spare takes the bus and an off spare is started in its place; with no hot spare an
off spare is started for the bus; with no spare the bus stays dark, and LASER_SPARED says so. `power` and `low` are the mean and lowest line
power that the spare brings. -/
def laserReplace (n b power low : Nat) (s : State) : State :=
  match hotSpare s n with
  | some k =>
    let s1 := laserFeeds k b n power low s
    (startSpare n none s1).getD s1
  | none =>
    let s1 := s.setOpt { s.opt with bus := tset 0 s.opt.bus b 0 }
    (startSpare n (some (b, n)) s1).getD (logSpared b n none s1)

/-- LASER_FAILURE (R353): the laser's block enters Fault and the laser is switched off (log entry 18). A hot spare whose drive fails
leaves its place to an off spare. -/
def execLaserFailure (n power low : Nat) (s : State) : Res :=
  let x := laser s n
  if !domOn s (laserDom n) || (x.bus.isNone && !x.hot) then .next s
  else
    let s1 := setLaser s n { x with bus := none, hot := false, failed := true, worn := false, bias := 0, mean := 0, min := 0 }
    let s2 := setBlk s1 (baseLAS n) { blk s1 (baseLAS n) with st := .fault }
    match x.bus with
    | some b => .next (laserReplace n b power low s2)
    | none => .next ((startSpare n none s2).getD s2)

/-- SPARE_LASER_STARTED (R353): the spare becomes a hot spare at its bias, or feeds the dark bus that waits for it. -/
def execSpareLaserStarted (n power low : Nat) (s : State) : Res :=
  match (laser s n).starting with
  | none => .next s
  | some none => .next (wornCheck (setLaser s n { laser s n with starting := none, hot := true, bias := biasTarget s n }) n)
  | some (some (b, old)) => .next (laserFeeds n b old power low s)

/-! ### Rings (R355 to R359) -/

/-- The link and the position of a ring, if a link uses its group; the ring of the same number among the filters and the modulators
serves the other direction (R351, R362). -/
def linkOfRing (s : State) (k : Nat) : Option (Nat × Nat) :=
  let d := k / 224
  let i := k % 224 % 112
  if i < 40 then
    ((List.range 32).find? fun l => (tget none s.fab.plans s.fab.planNo).any fun pl =>
      pl.portSrc.getD l none == some (d, i / 10)).map fun l => (l, i % 10)
  else some (pkgLink d ((i - 40) / 9), (i - 40) % 9)

/-- A filter ring: it serves the receive direction. -/
def isFilter (k : Nat) : Bool := 112 ≤ k % 224

/-- The sequencer of die `d` can serve its rings: PD71 and its LCK block are On, and the die is present. -/
def lckServes (s : State) (d : Nat) : Bool := d < dies s && domOn s 71 && blkOn s (baseLCK d)

/-- A ring is locked: the position behind it is trained if it is to be restored (R379, R382). Behind a modulator ring the remote end
is told to train. -/
def ringLocked (k : Nat) (s : State) : State :=
  match linkOfRing s k with
  | none => s
  | some (l, p) =>
    let x := lnk s l
    if !isFilter k then
      if linkLit s l && !x.txSet.getLsbD p && !linkLocked s [3] l then
        sendControl l 5 (leBytes 2 (x.trainMask ||| BitVec.ofNat 10 (2 ^ p)).toNat ++ leBytes 2 0) s
      else s
    else if !linkLit s l || x.rxSet.getLsbD p || x.trainMask.getLsbD p then s
    else if x.pst == .down || (x.pst == .up && (autoRestores s l p || linkLocked s [3] l) && x.dropped.any fun e => e.1 == p)
      then startTrain l p s
    else s

/-- LOCK_LOST: records of one ring within 1 ms are folded into one. -/
def logLockLost (k : Nat) (s : State) : State :=
  let d := k / 224
  let i := k % 224
  let data := [dw i, dw (ringPos i)]
  logEv (fun e => e.code == 0x4005 && e.unit == resDie d && e.data == data
    && decide ((rtNow s).toNat - ticksMs ≤ e.rt.toNat)) 0x4005 0xFF 0xFFFF (resDie d) data s

/-- LOCK_LOOP_SAMPLE (R356): the monitors of the LOCKED rings of die `d` are read and their heaters corrected; the
power that the loop sets is a free value (log entry 1). -/
def execLockLoopSample (d : Nat) (mon : List (Nat × W16)) (s : State) : Res :=
  if dies s ≤ d || !domOn s 71 then .next s
  else .next (mon.foldl (fun t e =>
    let k := 224 * d + e.1
    if 224 ≤ e.1 || (optRing t k).st != .locked then t
    else
      let (i, t1) := fresh t
      setOptRing t1 k { optRing t1 k with monitor := e.2, heater := Config.free32 i }) s)

/-- A ring has lost its line: it is LOST, and the sequencer sweeps it while its block is On (R357, R364). -/
def ringLost (k : Nat) (s : State) : State :=
  setOptRing s k { optRing s k with st := if lckServes s (k / 224) then .sweep else .lost }

/-- The modulator ring of transmit position `p` is LOST: the transmitter commits its set without the position, with cause REMOTE, or
with fewer than 4 positions goes down (R378, R382; log entry 18). -/
def txLost (l p : Nat) (s : State) : State :=
  let x := lnk s l
  let m := x.txSet &&& ~~~(BitVec.ofNat 10 (2 ^ p))
  if !linkLit s l || !x.txSet.getLsbD p then s
  else if popcount 10 m.toNat < 4 then portDown l 1 (setLnk s l { x with txSet := m })
  else commitTx l m 5 s

/-- RING_LOCK_LOSS (R357). -/
def execRingLockLoss (d i : Nat) (s : State) : Res :=
  let k := 224 * d + i
  if dies s ≤ d || 224 ≤ i || !domOn s 71 || (optRing s k).st != .locked then .next s
  else
    let s1 := ringLost k (logLockLost k s)
    match linkOfRing s1 k with
    | some (l, p) => .next (if isFilter k then laneDrop l p 3 s1 else txLost l p s1)
    | none => .next s1

/-- HOLD_LIGHT_RETURN (R356): `near` when the light lies within ±40 GHz of the held point. -/
def execHoldLightReturn (d i : Nat) (near : Bool) (s : State) : Res :=
  let k := 224 * d + i
  if dies s ≤ d || 224 ≤ i || !domOn s 71 || (optRing s k).st != .hold then .next s
  else if near then .next (ringLocked k (setOptRing s k { optRing s k with st := .locked }))
  else .next (ringLost k s)

/-- RING_SWEEP_DONE (R358): the line, one that carries lanes (R350), and the heater power at lock, or none when no resonance was met; a filter ring
then holds, and a modulator ring stays LOST (log entry 18). -/
def execRingSweepDone (d i : Nat) (found : Option (Nat × W32)) (s : State) : Res :=
  let k := 224 * d + i
  let x := optRing s k
  if !lckServes s d || 224 ≤ i || x.st != .sweep then .next s
  else match found with
    | none => .next (setOptRing s k { x with st := if 112 ≤ i then .hold else .lost })
    | some (line, heater) =>
      if !((List.range 10).map lineOf).contains line || x.excl.contains line then .next s
      else
        let s1 := setOptRing s k { x with st := .locked, line, heater }
        .next (ringLocked k (setSeqr s1 d { seqr s1 d with cal := tset 0 (seqr s1 d).cal i heater }))

/-- FORECAST_WORD (R359): the die scheduler's four values are free values (log entry 1); the offset of a ring is the
sum of its coefficients times the changes, and is added to its heater. -/
def execForecastWord (d : Nat) (s : State) : Res :=
  if !lckServes s d || !domOn s (8 * d + 6) || !blkOn s (baseDSC d) then .next s
  else
    let (i, s1) := fresh s
    let new := (List.range 4).map fun q => fld (Config.free32 i) (8 * q) 8
    let q := seqr s1 d
    let off (x : OptRing) : W32 := (List.range 4).foldl (fun a j =>
      a + tget 0 x.ff j * BitVec.ofInt 32 ((new.getD j 0 : Int) - (q.forecast.getD j 0 : Int))) 0
    let s2 := s1.setOpt { s1.opt with
      seq := tset {} s1.opt.seq d { q with forecast := new, ff := true }
      ring := tmap {} (fun k (x : OptRing) =>
        if k / 224 = d && (x.st == .locked || x.st == .hold) then { x with ffOffset := off x, heater := x.heater + off x }
        else x) s1.opt.ring }
    .next (s2.setDsc (tmod {} s2.dsc d fun y => { y with forecast := new }))

/-! ### The lock sequencers (R361 to R364) -/

/-- Gn; G0 reads 0. -/
def gReg (x : Seq) (n : Nat) : W32 := if n = 0 then 0 else tget 0 x.g n

/-- Write Gn; G0 ignores writes. -/
def setG (n : Nat) (v : W32) (x : Seq) : Seq := if n = 0 then x else { x with g := tset 0 x.g n v }

def qA (w : W32) : Nat := fld w 22 4
def qB (w : W32) : Nat := fld w 18 4
def qC (w : W32) : Nat := fld w 14 4
def qImm (w : W32) : Int := sfld w 0 14

/-- The word at the PC of sequencer `d`. -/
def seqWord (s : State) (d : Nat) : W32 := tget 0 s.prg.seq (4096 * d + (seqr s d).pc)

/-- LOCK_SEQ_FAULT (R364): a second fault within 24 h leaves the block in Fault. -/
def seqFault (d : Nat) (s : State) : State :=
  let q := seqr s d
  let rt := rtNow s
  let again := q.faults.any fun t => rt.toNat - t.toNat < ticksDay
  let s1 := logMod 0x400A (resDie d) [dw q.pc, dw (if q.pc < 4096 then (seqWord s d).toNat else 0)] s
  let s2 := setBlk s1 (baseLCK d) { blk s1 (baseLCK d) with st := .fault, recovering := !again, dead := again }
  lckDown d (setSeqr s2 d { q with faults := rt :: q.faults })

/-- Go on at `target`; a fetch outside the store ends the program in fault. -/
def seqGoto (d : Nat) (x : Seq) (target : Int) (s : State) : State :=
  if target < 0 || 4096 ≤ target then seqFault d (setSeqr s d { x with pc := if target < 0 then 4096 else target.toNat })
  else setSeqr s d { x with pc := target.toNat }

def seqNext (d : Nat) (x : Seq) (s : State) : State := seqGoto d x (x.pc + 1) s

/-- Issue word `w` when it stands at the PC of a running sequencer and has an opcode that `op` takes; `used` is the
mask of its fields below the opcode, `good` the rest of its encoding. -/
def seqIssue (d : Nat) (w : W32) (op : Nat → Bool) (used : Nat) (good : Bool) (body : Seq → State → State)
    (s : State) : Res :=
  let x := seqr s d
  if !x.run || x.waiting.isSome || !domOn s 71 || !blkOn s (baseLCK d) || seqWord s d != w || !op (fld w 26 6) then .next s
  else if w.toNat % 2 ^ 26 &&& (2 ^ 26 - 1 - used) ≠ 0 || !good then .next (seqFault d s)
  else .next (body x s)

/-- An instruction that writes a value to A and goes on. -/
def seqPut (d : Nat) (w : W32) (f : Seq → W32) (x : Seq) (s : State) : State := seqNext d (setG (qA w) (f x) x) s

/-- An instruction on the ring that B names; an Absent index ends the program in fault. -/
def onRing (d : Nat) (w : W32) (f : Nat → Seq → State → State) (x : Seq) (s : State) : State :=
  let i := (gReg x (qB w)).toNat
  if 224 ≤ i || dies s ≤ d then seqFault d s else f (224 * d + i) x s

/-- LSEQ_NOP (R363); an undefined opcode ends the program in fault (R364). -/
def execLseqNop (d : Nat) (w : W32) (s : State) : Res :=
  seqIssue d w (fun o => o = 0 || 0x12 < o) 0 (fld w 26 6 = 0) (seqNext d) s

/-- HALT (R363): the hardware loops go on. -/
def execHalt (d : Nat) (w : W32) (s : State) : Res :=
  seqIssue d w (· = 1) 0 true (fun x t => setSeqr t d { x with run := false, pc := 0 }) s

/-- The operations of ALU; a shift by 32 or more gives a free value. -/
def seqAlu (op : Nat) (a b free : W32) : W32 :=
  match op with
  | 0 => a + b
  | 1 => a - b
  | 2 => a &&& b
  | 3 => a ||| b
  | 4 => a ^^^ b
  | 5 => if b.toNat < 32 then a <<< b.toNat else free
  | 6 => if b.toNat < 32 then a >>> b.toNat else free
  | 7 => a * b
  | 8 => if a.toNat ≤ b.toNat then a else b
  | _ => if a.toNat ≤ b.toNat then b else a

/-- LSEQ_ALU (R363). -/
def execLseqAlu (d : Nat) (w : W32) (s : State) : Res :=
  seqIssue d w (· = 2) 0x3FFC00F (fld w 0 4 ≤ 9) (fun x t =>
    let (i, t1) := fresh t
    seqPut d w (fun x => seqAlu (fld w 0 4) (gReg x (qB w)) (gReg x (qC w)) (Config.free32 i)) x t1) s

/-- LSEQ_ADDI (R363). -/
def execLseqAddi (d : Nat) (w : W32) (s : State) : Res :=
  seqIssue d w (· = 3) 0x3FC3FFF true (seqPut d w fun x => gReg x (qB w) + BitVec.ofInt 32 (qImm w)) s

/-- LSEQ_LUI (R363). -/
def execLseqLui (d : Nat) (w : W32) (s : State) : Res :=
  seqIssue d w (· = 4) 0x3C3FFFF true (seqPut d w fun _ => BitVec.ofNat 32 (fld w 0 18 * 16384)) s

/-- BR (R363). -/
def execBr (d : Nat) (w : W32) (s : State) : Res :=
  seqIssue d w (· = 5) 0xFFFFFF true (fun x t =>
    let a := gReg x (qB w)
    let b := gReg x (qC w)
    let take := match fld w 22 2 with
      | 0 => decide (a = b)
      | 1 => decide (a ≠ b)
      | 2 => decide (a.toInt < b.toInt)
      | _ => decide (a.toNat < b.toNat)
    if take then seqGoto d x (x.pc + qImm w) t else seqNext d x t) s

/-- LSEQ_WAIT (R363). -/
def execLseqWait (d : Nat) (w : W32) (s : State) : Res :=
  seqIssue d w (· = 6) 0x3FFF true (fun x t =>
    if fld w 0 14 = 0 then seqNext d x t else setSeqr t d { x with waiting := some (fld w 0 14) }) s

/-- LSEQ_WAIT_END (R363). -/
def execLseqWaitEnd (d : Nat) (s : State) : Res :=
  let x := seqr s d
  if !x.run || x.waiting.isNone || !blkOn s (baseLCK d) || !domOn s 71 then .next s
  else .next (seqNext d { x with waiting := none } s)

/-- RDMON (R363): `v` is the monitor's reading now. -/
def execRdmon (d : Nat) (w : W32) (v : W16) (s : State) : Res :=
  seqIssue d w (· = 7) 0x3FC0000 true (onRing d w fun k x t =>
    seqPut d w (fun _ => BitVec.ofNat 32 v.toNat) x (setOptRing t k { optRing t k with monitor := v })) s

/-- RDHTR (R363). -/
def execRdhtr (d : Nat) (w : W32) (s : State) : Res :=
  seqIssue d w (· = 8) 0x3FC0000 true (onRing d w fun k x t => seqPut d w (fun _ => (optRing t k).heater) x t) s

/-- WRHTR (R363): only a ring in SWEEP. -/
def execWrhtr (d : Nat) (w : W32) (s : State) : Res :=
  seqIssue d w (· = 9) 0x3FC000 true (onRing d w fun k x t =>
    if (optRing t k).st != .sweep then seqFault d t
    else seqNext d x (setOptRing t k { optRing t k with heater := gReg x (qC w) })) s

/-- SETST (R363). The codes 4 to 7 are undefined and end the program in fault (log entry 18). -/
def execSetst (d : Nat) (w : W32) (s : State) : Res :=
  seqIssue d w (· = 0xA) 0x3FC007 (fld w 0 3 ≤ 3) (onRing d w fun k x t =>
    let st : RingSt := match fld w 0 3 with | 0 => .off | 1 => .sweep | 2 => .locked | _ => .hold
    let y := optRing t k
    let t1 := setOptRing t k { y with st, target := gReg x (qC w), heater := if st == .off then 0 else y.heater }
    seqNext d x (if st == .locked then ringLocked k t1 else t1)) s

/-- Code of a ring's state, as RDST gives it (LOST is 4, log entry 18). -/
def ringCode : RingSt → Nat
  | .off => 0 | .sweep => 1 | .locked => 2 | .hold => 3 | .lost => 4

/-- RDST (R363). -/
def execRdst (d : Nat) (w : W32) (s : State) : Res :=
  seqIssue d w (· = 0xB) 0x3FC0000 true (onRing d w fun k x t =>
    let y := optRing t k
    seqPut d w (fun _ => BitVec.ofNat 32 (ringCode y.st + 16 * (y.line % 16) + 256 * y.excl.length)) x t) s

/-- RDCAL (R363). -/
def execRdcal (d : Nat) (w : W32) (s : State) : Res :=
  seqIssue d w (fun o => o = 0xC && !bit w 0) 0x3FC0000 true
    (seqPut d w fun x => tget 0 x.cal (gReg x (qB w)).toNat) s

/-- WRCAL (R363). -/
def execWrcal (d : Nat) (w : W32) (s : State) : Res :=
  seqIssue d w (fun o => o = 0xC && bit w 0) 0x3FC001 true (fun x t =>
    seqNext d { x with cal := tset 0 x.cal (gReg x (qB w)).toNat (gReg x (qC w)) } t) s

/-- WRFF (R363). -/
def execWrff (d : Nat) (w : W32) (s : State) : Res :=
  seqIssue d w (· = 0xD) 0x3FC003 true (onRing d w fun k x t =>
    let y := optRing t k
    seqNext d x (setOptRing t k { y with ff := tset 0 y.ff (fld w 0 2) (gReg x (qC w)) })) s

/-- The laser that feeds CBb. -/
def feeding (s : State) (b : Nat) : Option Nat := (List.range 10).find? fun n => (laser s n).bus == some b

/-- RDLAS (R363); the bias of a dark bus is a free value. -/
def execRdlas (d : Nat) (w : W32) (s : State) : Res :=
  seqIssue d w (· = 0xE) 0x3C00001 true (fun x t =>
    let (i, t1) := fresh t
    let v := if !bit w 0 then BitVec.ofNat 32 (tget 0 t1.opt.bus d)
      else match feeding t1 d with
        | some n => BitVec.ofNat 32 (laser t1 n).bias.toNat
        | none => Config.free32 i
    seqPut d w (fun _ => v) x t1) s

/-- Set the bias of the laser that feeds a bus (R352). The field has 16 bits. The line powers follow the bias: they are free values
(log entry 1). -/
def biasSet (n : Nat) (v : W32) (s : State) : State :=
  let (i, s1) := fresh s
  let x := laser s1 n
  let mean : W16 := BitVec.ofNat 16 (fld (Config.free32 i) 0 16)
  let s2 := setLaser s1 n { x with bias := BitVec.ofNat 16 v.toNat, mean, min := BitVec.ofNat 16 (fld (Config.free32 i) 16 16) }
  wornCheck (match x.bus with
    | some b => s2.setOpt { s2.opt with bus := tset 0 s2.opt.bus b mean.toNat }
    | none => s2) n

/-- WRBIAS (R363). -/
def execWrbias (d : Nat) (w : W32) (s : State) : Res :=
  seqIssue d w (· = 0xF) 0x3C0000 true (fun x t =>
    seqNext d x (match feeding t d with | some n => biasSet n (gReg x (qB w)) t | none => t)) s

/-- RDTMP (R363): `temp` is the ring-bank temperature now. -/
def execRdtmp (d : Nat) (w : W32) (temp : W16) (s : State) : Res :=
  seqIssue d w (· = 0x10) 0x3C00000 true (fun x t =>
    seqPut d w (fun _ => BitVec.ofNat 32 temp.toNat) { x with temp } t) s

/-- LSEQ_RDRT (R363). -/
def execLseqRdrt (d : Nat) (w : W32) (s : State) : Res :=
  seqIssue d w (· = 0x11) 0x3C00000 true (fun x t => seqPut d w (fun _ => BitVec.ofNat 32 (rtNow t).toNat) x t) s

/-- POST (R363). -/
def execPost (d : Nat) (w : W32) (s : State) : Res :=
  seqIssue d w (· = 0x12) 0x3FFFFF true (fun x t =>
    seqNext d { x with posts := x.posts ++ [(fld w 0 14, gReg x (qB w), gReg x (qC w))] } t) s

/-! ### Light-plan switches (R366, R423) -/

/-- Links whose routing differs between two light plans. -/
def changedLinks (a b : LightPlan) : List Nat :=
  (List.range 32).filter (fun p => a.portSrc.getD p none != b.portSrc.getD p none)
    ++ ((List.range 64).filter fun i => a.pkgDst.getD i none != b.pkgDst.getD i none).map (32 + ·)

/-- The plan routes or lights a link. -/
def routed (pl : LightPlan) (l : Nat) : Bool :=
  if l < 32 then (pl.portSrc.getD l none).isSome else (pl.pkgDst.getD (l - 32) none).isSome

/-- A link enters the switch: frames stop, and a drop in progress is abandoned. -/
def switchLink (pl : LightPlan) (l : Nat) (s : State) : State :=
  let x := lnk s l
  let y := { x with wantRx := none, trainMask := 0, dropped := x.dropped.filter fun e => !x.rxSet.getLsbD e.1 }
  if !routed pl l then setLnk s l { y with pst := if x.pst == .quarantined then .quarantined else .dark }
  else if x.pst == .up || x.pst == .hold || (32 ≤ l && x.pst == .dark) then setLnk s l { y with pst := .switching }
  else setLnk s l y

/-- LIGHT_PLAN_SWITCH (R366): the oldest switch whose instant has fired; in Fault, PHL takes none (R385). -/
def execLightPlanSwitch (s : State) : Res :=
  match s.fab.due with
  | [] => .next s
  | n :: rest =>
    if s.fab.switching then .next s
    else
      let s1 := s.setFab { s.fab with due := rest }
      match tget none s1.fab.plans s1.fab.planNo, tget none s1.fab.plans n with
      | some a, some b =>
        if !domOn s1 68 || !blkOn s1 basePHL then .next s1
        else
          let ls := changedLinks a b
          let s2 := s1.setFab { s1.fab with planNo := n, switching := true, switched := ls }
          .next (ls.foldl (fun t l => switchLink b l t) s2)
      | _, _ => .next s1

/-- Positions of lanes 0 to 7 whose modulator rings are locked behind a link. -/
def lockedTx (s : State) (l : Nat) : Nat :=
  maskOf 8 fun p => match ringOf s l p false with | some k => (optRing s k).st == .locked | none => false

/-- A link has its new group: it sends a LANESET commit first, then replays (R366). -/
def settleLink (l : Nat) (s : State) : State :=
  let x := lnk s l
  if x.pst != .switching then s
  else
    let m := BitVec.ofNat 10 (lockedTx s l)
    let map := mapOf [] m
    let s1 := setLnk s l { x with txSet := m, mapTx := map, sparesTx := [] }
    let s2 := sendControl l 3 (leBytes 2 m.toNat ++ leBytes 4 map.toNat ++ leBytes 2 x.txSeq.toNat) s1
    if lanesEnough (lnk s2 l) then flushHeld l (replayOldest l (setLnk s2 l { lnk s2 l with pst := .up }))
    else portDown l 1 s2

/-- MATRIX_SETTLED (R366). -/
def execMatrixSettled (s : State) : Res :=
  if !s.fab.switching then .next s
  else
    let s1 := s.setFab { s.fab with switching := false, switched := [] }
    .next (retime (s.fab.switched.foldl (fun t l => settleLink l t) s1))

end Sys2Proof.Machine
end

