-- ==== Sys2Proof/Machine/Fabric.lean ====
section
/-! DEFINITION. Fabric plans, port division, discovery, partitions and light plans (R403 to R423). -/

namespace Sys2Proof.Machine

open Sys2Proof

def port (s : State) (p : Nat) : PortRec := tget {} s.fab.ports p
def setPort (s : State) (p : Nat) (x : PortRec) : State := s.setFab { s.fab with ports := tset {} s.fab.ports p x }

/-- Chip number in force (R282). -/
def chipNo (s : State) : Option Nat := s.fab.plan.map (·.chip)

/-! ### Plans (R403 to R406) -/

/-- A neighbour entry of 32 bytes. -/
def nbrOf (b : List Byte) : Nbr :=
  { index := leAt b 0 1, minPorts := leAt b 1 1, chip := leAt b 2 2, serial := BitVec.ofNat 64 (leAt b 8 8)
    remotePort := (slice b 0x10 8).map (·.toNat) }

def nbrOk (b : List Byte) : Bool :=
  let x := nbrOf b
  x.index < 16 && x.minPorts ≤ 8 && zeroAt b 4 4 && x.chip != 0xFFFF && zeroAt b 0x18 8
    && x.remotePort.all fun r => r < 32 || r == 0xFF

/-- The neighbour entries and the route entries of a plan, as byte strings. -/
def planNbrs (b : List Byte) : List (List Byte) := (List.range (leAt b 0x18 1)).map fun i => slice b (0x80 + 32 * i) 32
def planRoutes (b : List Byte) : List (List Byte) :=
  (List.range (leAt b 0x1C 2)).map fun i => slice b (0x80 + 32 * leAt b 0x18 1 + 8 * i) 8

/-- The plan that a byte string holds. -/
def planOf (b : List Byte) : Plan :=
  { adopt := leAt b 2 1 == 1
    timeRoot := (leAt b 3 1).testBit 0, sameRack0 := (leAt b 3 1).testBit 1, sameRack1 := (leAt b 3 1).testBit 2
    chip := leAt b 4 2, minProto := leAt b 6 2, serial := BitVec.ofNat 64 (leAt b 8 8)
    fabricId := BitVec.ofNat 64 (leAt b 0x10 8), globalMin := leAt b 0x19 1
    timePort0 := if leAt b 0x1A 1 < 32 then some (leAt b 0x1A 1) else none
    timePort1 := if leAt b 0x1B 1 < 32 then some (leAt b 0x1B 1) else none
    nbrs := (planNbrs b).map nbrOf
    routes := (planRoutes b).map fun r => (leAt r 0 2, leAt r 2 2, leAt r 4 2)
    digest := sha512 b }

/-- The fields of a plan lie within their values (R404 to R406). A TIME_PORT that names an Absent port is accepted: R404 admits 0 to 31,
and a time port is not the target of R7 (DEDUCED, log entry 89). -/
def planOk (s : State) (b : List Byte) : Bool :=
  let x := planOf b
  let tp (v : Nat) : Bool := x.timeRoot || v < 32 || v == 0xFF
  leAt b 0 2 == 1 && leAt b 2 1 ≤ 1 && leAt b 3 1 < 8 && x.chip != 0xFFFF && 1 ≤ x.minProto
    && x.serial == s.flash.serial && x.fabricId != 0 && leAt b 0x18 1 ≤ 16 && x.globalMin ≤ 32
    && tp (leAt b 0x1A 1) && tp (leAt b 0x1B 1) && leAt b 0x1C 2 ≤ 1024 && zeroAt b 0x1E 98
    && (planNbrs b).all nbrOk && (x.nbrs.map (·.index)).eraseDups.length == x.nbrs.length
    && ((planRoutes b).all fun r => leAt r 0 2 ≤ leAt r 2 2 && leAt r 4 2 != x.chip && zeroAt r 6 2)

/-- Length of a plan by its own counts. -/
def planLen (b : List Byte) : Nat := 128 + 32 * leAt b 0x18 1 + 8 * leAt b 0x1C 2

/-- Some job is started (R344). -/
def anyStarted (s : State) : Bool := (s.jobA.map jobRuns).getD false || (s.jobB.map jobRuns).getD false

/-- The bytes that the device reads from a command's buffers: `len` bytes from position `off`. -/
def bufAt (c : Cmd) (off len : Nat) : List Byte := fit len (slice c.buf off len)

/-- PLAN_LOAD (R403, R406): the plan is stored and pending. -/
def execPlanLoad (c : Cmd) (s : State) : Res :=
  runCmd { op := 0x0401, s := true, args := 3 } c
    (fun e t =>
      let n := e.desc.a1.toNat
      let b := bufAt c 0 n
      firstOf [
        badWhen (e.desc.a0.toNat % 64 ≠ 0) 0,
        badWhen (n < 128 || (e.fails.isNone && n ≠ planLen b)) 1,
        ifRead e (badWhen (!planOk t b) 0)])
    noFlag (fun _ t => anyStarted t)
    (fun e t =>
      let b := bufAt c 0 e.desc.a1.toNat
      let x := planOf b
      (t.setFlash { t.flash with plan := some x, planPending := true },
        some (okRv (BitVec.ofNat 64 (leAt x.digest 0 8)) 0 0))) s

/-! ### The end of a discovery (R403, R409, R418) -/

/-- Ports accepted for a neighbour index, or for the global layer. -/
def acceptedTo (s : State) (kind nbr : Nat) : Nat :=
  ((List.range 32).filter fun p =>
    let x := port s p
    (x.out == .accepted || x.out == .remapped) && x.kind == kind && (kind != 1 || x.nbr == nbr)).length

/-- A shortfall against the plan in force (R415). -/
def shortfall (s : State) : Bool :=
  match s.fab.plan with
  | none => false
  | some x => (x.nbrs.any fun n => acceptedTo s 1 n.index < n.minPorts) || acceptedTo s 2 0 < x.globalMin

/-- FLAGS of the discovery header (R417). -/
def discFlags (s : State) : Nat :=
  b2n (!s.fab.disc.running) + 2 * b2n (shortfall s) + 4 * b2n s.fab.plan.isNone + 8 * b2n (s.fab.partition == 0xFFF)

/-- Ports of the division with an outcome. -/
def countOut (s : State) (p : PortOut → Bool) : Nat := ((divPorts s).filter fun q => p (port s q).out).length

/-- A pending plan comes into force (R403). A time port that it moves to another port begins anew (R393). -/
def planTake (s : State) : State :=
  let t := (s.setFab { s.fab with plan := s.flash.plan }).setFlash { s.flash with planPending := false }
  let fresh (u : State) (i : Nat) : State := if timePortNo s i = timePortNo t i then u else setTimePort u i {}
  fresh (fresh t 0) 1

/-- The discovery ends: with PORT_DIVIDE's TIMEOUT its undiscovered ports stay dark (R133); ports without light take the outcome no light, a pending plan comes into force if the
discovery covered the whole division, the end is logged, and the command that waits completes. -/
def discEnd (timeout : Bool) (s : State) : State :=
  let d := s.fab.disc
  let short := timeout && d.cmd.isSome
  let s1 := s.setFab { s.fab with
    disc := { d with running := false, endRt := rtNow s, cmd := none }
    ports := d.ports.foldl (fun t p => tmod {} t p fun x =>
      if x.out == .pending && (!x.light || short) then { x with out := .noLight } else x) s.fab.ports }
  let s1 := if short then (d.ports.filter fun p => (port s p).out == .pending).foldl (fun t p =>
      setLnk t p { lnk t p with pst := .dark }) s1 else s1
  let cover := (divPorts s1).all d.ports.contains
  let s2 := if s1.flash.planPending && cover then planTake s1 else s1
  let s3 := logMod 0x400E 0 [dw (discFlags s2), dw (countOut s2 fun o => o == .accepted || o == .remapped),
    dw (countOut s2 (· == .quarantined)), dw (countOut s2 (· == .noLight))] (retime s2)
  let s4 := match d.cmd with
    | some (p, r, no) => finishCmd p r no (if timeout then failWith stTimeout 0 else ok) false s3
    | none => s3
  if s4.spring.started.contains 11 && !s4.spring.done.contains 11 then
    s4.setSpring { s4.spring with done := s4.spring.done ++ [11], discDone := true }
  else s4

/-- End the discovery once no port of its set is pending. -/
def discCheck (s : State) : State :=
  if s.fab.disc.running && !(s.fab.disc.ports.any fun p => (port s p).out == .pending) then discEnd false s else s

/-- SPRING_STEP_DONE (R65, R68): step `k` has started, its domains are On, and it ends. Step 11 is a discovery and ends
with it. -/
def execSpringStepDone (k : Nat) (i : SpringIn) (s : State) : Res :=
  if !(s.phase == .spring || (s.phase == .running && k == 11)) then .next s
  else if !s.spring.started.contains k || s.spring.done.contains k || s.pseq.isSome then .next s
  else if k = 8 ∧ stacksBusy s then .next s
  else if k = 11 then .next (discCheck s)
  else .next (springEffect k i s)

/-- DISCOVERY_TIMEOUT (R409): 25 s after it began. -/
def execDiscoveryTimeout (s : State) : Res :=
  if s.fab.disc.running then .next (discEnd true s) else .next s

/-! ### Ports in discovery (R409 to R416) -/

/-- The port belongs to the division in force. -/
def inDivision (s : State) (p : Nat) : Bool := (divPorts s).contains p

/-- PORT_LIGHT_DETECTED (R409, R413, R415, R416). Light on a dark port is never answered. -/
def execPortLightDetected (p : Nat) (s : State) : Res :=
  if ports s ≤ p || !linkServes s p || ringsLocked s p false < 4 then .next s
  else
    let x := port s p
    if !inDivision s p then .next (setPort s p { x with light := true, out := .extra })
    else
      let y := lnk s p
      if y.pst == .dark || y.pst == .quarantined then
        let v := (s.fab.division.getD p 0).toNat
        .next (setPort (setLnk s p { y with pst := .training }) p { x with
          light := true, trained := false, heard := false, judged := none, opened := false, out := .pending, cause := 0
          kind := v / 64, nbr := v % 16 })
      else .next (setPort s p { x with light := true })

/-- PORT_TRAINING_DONE (R379, R409): the positions trained in each direction and the round trip measured. -/
def execPortTrainingDone (p : Nat) (tx rx : BitVec 10) (rtt : W16) (s : State) : Res :=
  let y := lnk s p
  if 32 ≤ p || !linkServes s p || y.pst != .training || !(port s p).light || (port s p).trained then .next s
  else
    let z := { y with txSet := tx, rxSet := rx, mapTx := mapOf y.sparesTx tx, mapRx := mapOf y.sparesRx rx, rtt, trainMask := 0 }
    if lanesEnough z then .next (setPort (setLnk s p z) p { port s p with trained := true }) else .next (setLnk s p z)

/-- The body of an identity frame (R410). -/
def identityBody (s : State) (p : Nat) : List Byte :=
  let x := port s p
  fit 300 (leBytes 2 1 ++ leBytes 1 p ++ leBytes 1 (variantCode s) ++ leBytes 2 ((chipNo s).getD 0xFFFF)
    ++ leBytes 2 s.fab.partition ++ leBytes 8 s.flash.serial.toNat ++ leBytes 4 (bootedSlot s).version.toNat
    ++ leBytes 2 1 ++ leBytes 2 (bootedSlot s).proto ++ leBytes 8 ((s.fab.plan.map (·.fabricId.toNat)).getD 0)
    ++ (match s.fab.plan with | some pl => pl.digest.take 16 | none => zeros 16)
    ++ leBytes 8 x.peerSerial.toNat ++ leBytes 1 x.peerPort
    ++ leBytes 1 (b2n x.heard + 2 * b2n (x.judged == some true) + 4 * b2n (x.judged == some false)
        + 8 * b2n s.fab.plan.isNone)
    ++ leBytes 1 (if x.judged == some false then x.cause else 0) ++ leBytes 1 0 ++ leBytes 2 x.proto)

/-- IDENTITY_SEND (R411): every 10 µs from the end of training, while the transmitter is lit. -/
def execIdentitySend (p : Nat) (s : State) : Res :=
  if 32 ≤ p || !linkServes s p || !(port s p).trained || (lnk s p).pst == .dark then .next s
  else .next (sendPlain p { typ := 4, body := identityBody s p } s)

/-- The peer of a port, as its identity frame gives it. -/
structure Peer where
  port : Nat
  variant : Nat
  chip : Nat
  partition : Nat
  serial : W64
  fw : W32
  protoMin : Nat
  protoMax : Nat
  fabricId : W64
  heard : Bool
  accept : Bool
  refuse : Bool
  noPlan : Bool
  deriving DecidableEq, Repr

def peerOf (b : List Byte) : Peer :=
  let f := leAt b 0x39 1
  { port := leAt b 2 1, variant := leAt b 3 1, chip := leAt b 4 2, partition := leAt b 6 2 % 4096
    serial := BitVec.ofNat 64 (leAt b 8 8), fw := BitVec.ofNat 32 (leAt b 0x10 4), protoMin := leAt b 0x14 2
    protoMax := leAt b 0x16 2, fabricId := BitVec.ofNat 64 (leAt b 0x18 8), heard := f.testBit 0
    accept := f.testBit 1, refuse := f.testBit 2, noPlan := f.testBit 3 }

/-- Outcomes of R413. -/
inductive Verdict where
  | quarantine (cause : Nat)
  | noPlan
  | extra
  | accept
  | remap (nbr : Nat)
  deriving DecidableEq, Repr

/-- The entry of a neighbour index. -/
def nbrEntry (pl : Plan) (n : Nat) : Option Nbr := pl.nbrs.find? fun e => e.index == n

/-- Place of port `p` among the ports that the division gives a neighbour, lowest first. -/
def nbrRank (s : State) (n p : Nat) : Nat :=
  ((List.range p).filter fun q => (s.fab.division.getD q 0).toNat == 64 + n).length

/-- The remote port expected on `p`. -/
def wantedPort (s : State) (e : Nbr) (p : Nat) : Nat := e.remotePort.getD (nbrRank s e.index p) 0xFF

/-- The peer matches the neighbour entry of row 8 on port `p`. -/
def matchesNbr (s : State) (e : Nbr) (p : Nat) (q : Peer) : Bool :=
  q.chip == e.chip && (e.serial == 0 || q.serial == e.serial)
    && (wantedPort s e p == 0xFF || wantedPort s e p == q.port)

/-- Agreed protocol version (R412); none if it is not valid. -/
def agreed (s : State) (pl : Plan) (q : Peer) : Option Nat :=
  let v := min q.protoMax (bootedSlot s).proto
  if 1 ≤ v ∧ q.protoMin ≤ v ∧ pl.minProto ≤ v then some v else none

/-- The judgement of R413 and R414. -/
def judge (s : State) (p : Nat) (q : Peer) : Verdict :=
  if q.serial = s.flash.serial then .quarantine 5
  else if s.fab.partition = 0xFFF ∨ q.partition ≠ s.fab.partition then .quarantine 1
  else match s.fab.plan with
    | none => .noPlan
    | some pl =>
      if q.fabricId ≠ pl.fabricId ∨ q.noPlan then .quarantine 4
      else if (agreed s pl q).isNone then .quarantine 2
      else
        let v := (s.fab.division.getD p 0).toNat
        if v / 64 = 0 then .extra
        else if v / 64 = 2 then .accept
        else if (nbrEntry pl (v % 16)).any fun e => matchesNbr s e p q then .accept
        else if !pl.adopt then .quarantine 3
        else match pl.nbrs.find? fun e => q.chip == e.chip && (e.serial == 0 || q.serial == e.serial) with
          | none => .quarantine 3
          | some e =>
            let held := ((List.range 32).filter fun r => r != p && (port s r).kind == 1 && (port s r).nbr == e.index
              && ((port s r).out == .accepted || (port s r).out == .remapped)).length
            if 8 ≤ held then .quarantine 3 else .remap e.index

/-- The row 9 of R413 applies: the peer is not the neighbour that the division gives. -/
def mismatched (s : State) (p : Nat) (q : Peer) : Bool :=
  match judge s p q with
  | .quarantine 3 => true
  | .remap _ => true
  | _ => false

/-- NEIGHBOUR_MISMATCH: expected and found chip and port. -/
def logMismatch (p : Nat) (q : Peer) (s : State) : State :=
  let n := (s.fab.division.getD p 0).toNat % 16
  let e := s.fab.plan.bind fun pl => nbrEntry pl n
  logMod 0x4004 (linkUnit p) [dw ((e.map (·.chip)).getD 0xFFFF), dw ((e.map fun x => wantedPort s x p).getD 0xFF),
    dw q.chip, dw q.port] s

/-- PORT_QUARANTINE (R413): REFUSE is sent until QUARANTINE_DARK_TIMER. -/
def quarantine (p cause : Nat) (q : Peer) (s : State) : State :=
  let s1 := setPort s p { port s p with out := .quarantined, cause, judged := some false, opened := false }
  retime (logMod 0x4003 (linkUnit p) [dw cause, q.serial, dw q.chip] (setLnk s1 p { lnk s1 p with pst := .quarantined }))

/-- The port's transmitter goes dark with an outcome. -/
def goDark (p : Nat) (out : PortOut) (s : State) : State :=
  let s1 := setPort s p { port s p with out, trained := false, judged := none, opened := false }
  retime (setLnk s1 p { lnk s1 p with pst := .dark })

/-- Apply the judgement of a port. -/
def applyVerdict (p : Nat) (q : Peer) (s : State) : State :=
  let v := judge s p q
  let s1 := if mismatched s p q then logMismatch p q s else s
  let proto := (s.fab.plan.bind fun pl => agreed s pl q).getD 0
  let n := (s.fab.division.getD p 0).toNat
  match v with
  | .quarantine k => quarantine p k q s1
  | .noPlan => goDark p .noPlan s1
  | .extra => goDark p .extra s1
  | .accept => setPort s1 p { port s1 p with out := .accepted, judged := some true, cause := 0, proto, kind := n / 64, nbr := n % 16 }
  | .remap i => setPort s1 p { port s1 p with out := .remapped, judged := some true, cause := 0, proto, kind := 1, nbr := i }

/-- An identity frame that passed its checks: the peer is noted and, once it has heard this end, judged; a peer other
than the one last accepted is judged anew. -/
def identityTake (p : Nat) (q : Peer) (s : State) : State :=
  let x := port s p
  let new := x.peerSerial != q.serial || x.peerPort != q.port || x.peerChip != q.chip || x.peerPartition != q.partition
  let s1 := setPort s p { x with
    heard := true, peerChip := q.chip, peerPort := q.port, peerSerial := q.serial, peerFw := q.fw
    peerVariant := q.variant, peerPartition := q.partition
    judged := if new && x.judged == some true then none else x.judged }
  let s2 := if q.heard && (port s1 p).judged.isNone then applyVerdict p q s1 else s1
  if (port s2 p).judged != some true then s2
  else if q.refuse then goDark p .refused s2
  else if q.accept && !(port s2 p).opened then
    let s3 := setPort s2 p { port s2 p with opened := true }
    if (lnk s3 p).pst == .training && lanesEnough (lnk s3 p) then portUp p s3 else s3
  else s2

/-- IDENTITY_FRAME (R411), whatever partition it carries. -/
def execIdentityFrame (p : Nat) (i : FrameIn) (s : State) : Res :=
  if 32 ≤ p || !linkServes s p || i.f.typ ≠ 4 || !(port s p).trained || (lnk s p).pst == .dark then .next s
  else
    let r := rxChecks p i s
    if !r.1 || leAt i.f.body 0 2 ≠ 1 then .next r.2
    else .next (discCheck (identityTake p (peerOf i.f.body) r.2))

/-- QUARANTINE_DARK_TIMER (R413): 100 µs after the judgement. -/
def execQuarantineDarkTimer (p : Nat) (s : State) : Res :=
  let x := port s p
  if 32 ≤ p || x.out != .quarantined || !x.trained then .next s
  else .next (setPort s p { x with trained := false, light := false })

/-! ### PORT_DIVIDE and PARTITION_SET (R408, R419) -/

/-- A port in use (R19): its link is up, and a job is admitted, it is a time port of the plan, or a transaction is in flight on it
(DEDUCED, log entry 88). -/
def portInUse (s : State) (p : Nat) : Bool :=
  linkUpAt s p && (anyJob s || timePortNo s 0 == some p || timePortNo s 1 == some p
    || s.fab.txns.any fun x => x.port == some p)

/-- Lanes that a port holds in both directions under a new division: none where it is dark. -/
def lanesUnder (s : State) (new : List Byte) (p : Nat) : Nat :=
  if (new.getD p 0).toNat / 64 = 0 then 0
  else min (bitsOf 10 (lnk s p).txSet.toNat).length (bitsOf 10 (lnk s p).rxSet.toNat).length

/-- PORT_DIVIDE (R19, R133, R403, R408). While a job is admitted every port of the division counts as used by it, and a division
that would leave a port in use below 4 lanes is refused (DEDUCED, log entry 88). -/
def execPortDivide (c : Cmd) (s : State) : Res :=
  runCmd { op := 0x0402, s := true, args := 1, sec := true } c
    (fun e t => firstOf [badWhen (e.desc.a0.toNat % 64 ≠ 0) 0, ifRead e (badWhen (!divisionOk t (bufAt c 0 64)) 0)]) noFlag
    (fun _ t =>
      let new := slice (bufAt c 0 64) 8 32
      let moved (p : Nat) : Bool := new.getD p 0 != t.fab.division.getD p 0
      (anyJob t && (t.flash.planPending || (divPorts t).any moved))
        || (List.range 32).any fun p => moved p && portInUse t p && lanesUnder t new p < 4)
    (fun e t =>
      if t.fab.disc.running then (t, some (failWith stBusy 0))
      else
        let new := slice (bufAt c 0 64) 8 32
        let changed := (List.range 32).filter fun p => new.getD p 0 != t.fab.division.getD p 0
        let t1 := t.setFab { t.fab with division := new }
        let t2 := (changed.filter fun p => (new.getD p 0).toNat / 64 == 0).foldl (fun u p =>
          retime (setPort (setLnk u p { lnk u p with pst := .dark }) p {})) t1
        let cover := if t2.flash.planPending then divPorts t2 else (divPorts t2).filter changed.contains
        (discCheck (startDisc cover (some (c.port, c.ring, e.no)) t2), none)) s

/-- PARTITION_SET (R419): in force at once, with a discovery on every port of the division. -/
def execPartitionSet (c : Cmd) (s : State) : Res :=
  runCmd { op := 0x0405, s := true, args := 1 } c
    (fun e _ => badWhen (4096 ≤ e.desc.a0.toNat) 0) noFlag (fun _ t => anyJob t)
    (fun e t =>
      let n := e.desc.a0.toNat
      let t1 := (t.setFlash { t.flash with partition := n }).setFab { t.fab with partition := n }
      (discCheck (startDisc (divPorts t1) (if t.fab.disc.running then t.fab.disc.cmd else none) t1), some ok)) s

/-! ### Reports (R417) -/

/-- PSTATE code (R385). -/
def pstCode : PState → Nat
  | .dark => 0 | .training => 1 | .up => 2 | .hold => 3 | .switching => 4 | .down => 5 | .quarantined => 6

def outCode : PortOut → Nat
  | .notIn => 0 | .accepted => 1 | .remapped => 2 | .noLight => 3 | .quarantined => 4 | .refused => 5 | .extra => 6
  | .pending => 7 | .noPlan => 8

/-- Die and group that serve a port, as the reports pack them. -/
def portSource (s : State) (p : Nat) : Nat :=
  match (tget none s.fab.plans s.fab.planNo).bind fun pl => pl.portSrc.getD p none with
  | some (d, g) => 16 * d + g
  | none => 0xFF

/-- A port entry of 32 bytes. -/
def portEntry (s : State) (p : Nat) : List Byte :=
  let x := port s p
  let y := lnk s p
  if ports s ≤ p then fit 32 (bytesOf [9, 0xFF, 0, 0, 0xFF, 0xFF, 0xFF, portSource s p])
  else bytesOf [outCode x.out, pstCode y.pst, 64 * x.kind + (if x.kind = 1 then x.nbr else 0), x.cause]
    ++ leBytes 2 x.peerChip ++ bytesOf [x.peerPort, portSource s p] ++ leBytes 8 x.peerSerial.toNat
    ++ leBytes 4 x.peerFw.toNat ++ leBytes 2 x.proto ++ leBytes 2 x.peerPartition ++ leBytes 2 y.txSet.toNat
    ++ leBytes 2 y.rxSet.toNat ++ leBytes 2 y.rtt.toNat ++ zeros 2

def portEntries (s : State) : List Byte := (List.range 32).flatMap (portEntry s)

/-- PORT_STATUS. -/
def execPortStatus (c : Cmd) (s : State) : Res :=
  runCmd { op := 0x0404, o := true, m := true, t := true, args := 3 } c (fun e _ => badBuf e.desc 0 1024) noFlag noFlag
    (fun _ t => (intoBuf c 0 (portEntries t) t, some ok)) s

/-- The neighbour entries of the discovery report. -/
def nbrEntries (s : State) : List Byte :=
  let l := (s.fab.plan.map (·.nbrs)).getD []
  (List.range 16).flatMap fun i => match l[i]? with
    | none => 0xFF :: zeros 15
    | some e =>
      let planned := ((List.range 32).filter fun p => (s.fab.division.getD p 0).toNat == 64 + e.index).length
      bytesOf [e.index, e.minPorts, planned, acceptedTo s 1 e.index] ++ leBytes 2 e.chip ++ zeros 10

/-- The 1,344 bytes of DISCOVERY_REPORT. -/
def discRecord (s : State) : List Byte :=
  let d := s.fab.disc
  leBytes 4 1 ++ bytesOf [discFlags s, b2n ((s.fab.plan.map (·.adopt)).getD false)]
    ++ leBytes 2 ((chipNo s).getD 0xFFFF) ++ leBytes 2 s.fab.partition ++ zeros 6
    ++ (match s.fab.plan with | some pl => pl.digest.take 16 | none => zeros 16)
    ++ leBytes 8 d.startRt.toNat ++ leBytes 8 (if d.running then 0 else d.endRt.toNat) ++ zeros 16
    ++ portEntries s ++ nbrEntries s

/-- DISCOVERY_REPORT. -/
def execDiscoveryReport (c : Cmd) (s : State) : Res :=
  runCmd { op := 0x0406, o := true, t := true, args := 3 } c (fun e _ => badBuf e.desc 0 1344) noFlag noFlag
    (fun _ t => (intoBuf c 0 (discRecord t) t, some (okRv (dw (discFlags t % 4)) 0 0))) s

/-! ### LIGHT_PLAN_LOAD (R422, R423) -/

/-- The light plan that 128 bytes hold. -/
def lightOf (b : List Byte) : LightPlan :=
  { portSrc := (slice b 0x20 32).map fun v => if v = 0xFF then none else some (v.toNat / 16 % 8, v.toNat % 4)
    pkgDst := (slice b 0x40 64).map fun v => if v = 0xFF then none else some (v.toNat / 16 % 8, v.toNat % 8) }

/-- A light plan is valid (R422). -/
def lightOk (s : State) (b : List Byte) : Bool :=
  let x := lightOf b
  let n := dies s
  let src (p : Nat) := x.portSrc.getD p none
  let dst (i : Nat) := x.pkgDst.getD i none
  leAt b 0 2 == 1 && zeroAt b 2 30
    && ((slice b 0x20 32).all fun v => v == 0xFF || (v.toNat < 128 && v.toNat / 4 % 4 == 0))
    && ((slice b 0x40 64).all fun v => v == 0xFF || (v.toNat < 128 && v.toNat / 8 % 2 == 0))
    && ((List.range 32).all fun p => match src p with
      | some g => g.1 < n && p < ports s && ((List.range p).all fun q => src q != some g)
      | none => p ≥ ports s || !inDivision s p)
    && ((List.range 64).all fun i => match dst i with
      | some g => g.1 < n && i / 8 < n && g.1 != i / 8 && dst (8 * g.1 + g.2) == some (i / 8, i % 8)
          && ((List.range i).all fun j => dst j != some g)
      | none => true)

/-- Instants of armed light-plan switches. -/
def armedSwitches (s : State) : List (W64 × Nat) :=
  s.rtb.armed.filterMap fun a => match a.2 with | .lightSwitch n => some (a.1, n) | _ => none

/-- LIGHT_PLAN_LOAD (R395, R423). -/
def execLightPlanLoad (c : Cmd) (s : State) : Res :=
  let loads (d : Desc) : Bool := !(d.a1 == 0 && d.a2 == 0)
  runCmd { op := 0x0403, s := true, args := 7, rt := true, sec := true } c
    (fun e t => firstOf [
      badWhen (8 ≤ e.desc.a0.toNat) 0,
      if loads e.desc then firstOf [badRec e.desc 1 128, ifRead e (badWhen (!lightOk t (bufAt c 0 128)) 1)]
      else badWhen (e.desc.rtAt = 0) 0x10])
    noFlag
    (fun e t =>
      let n := e.desc.a0.toNat
      let at_ := e.desc.rtAt
      (loads e.desc && (n == t.fab.planNo || (armedSwitches t).any (fun a => a.2 == n) || t.fab.due.contains n))
        || (!loads e.desc && (tget none t.fab.plans n).isNone)
        || (at_ != 0 && (armedSwitches t).any fun a => (at_.toNat - a.1.toNat) + (a.1.toNat - at_.toNat) ≤ 2500))
    (fun e t =>
      let n := e.desc.a0.toNat
      if e.desc.rtAt ≠ 0 && armFull t then (t, some (failWith stNoResource 0))
      else
        let t1 := if loads e.desc then t.setFab { t.fab with plans := tset none t.fab.plans n (some (lightOf (bufAt c 0 128))) } else t
        (if e.desc.rtAt = 0 then t1 else arm e.desc.rtAt (.lightSwitch n) t1, some ok)) s

end Sys2Proof.Machine
end

