-- ==== Sys2Proof/Machine/RegRead.lean ====
section
/-! DEFINITION. What the registers of BAR0 read: the common header (R81, R87) and the register tables of each chapter
(R40, R49, R56, R69, R103, R165, R201, R242 to R244, R279, R280, R317, R318, R385, R402, R442, R443, R480, R481, R514,
R534). Reading changes no register (R88). -/

namespace Sys2Proof.Machine

open Sys2Proof

/-- A register value from its fields: value and lowest bit of each. -/
def regOf (fs : List (Nat × Nat)) : W32 := BitVec.ofNat 32 (fs.foldl (fun a f => a + f.1 * 2 ^ f.2) 0)

/-- A bit of a register. -/
def rb (b : Bool) (i : Nat) : Nat × Nat := (b2n b, i)

/-! ### Status bits [31:8] by block (the tables of each chapter) -/

/-- Job of slot `sl`, if it uses die `d`. -/
def jobOn (s : State) (d sl : Nat) : Option Job :=
  (jobAt s sl).bind fun j => if (jobDies j).contains d then some j else none

def statDsc (s : State) (d : Nat) : List (Nat × Nat) :=
  let x := tget {} s.dsc d
  let ab (sl : Nat) : Bool := (jobOn s d sl).any fun j => j.aborting
  let sol (sl : Nat) : Bool := (jobOn s d sl).any fun j => j.sol != .none
  [rb (ab 1) 15, rb (sol 1) 14, (x.phB, 12), rb (ab 0) 11, rb (sol 0) 10, (x.phA, 8)]

/-- Signals held for a slot on a die (R263). -/
def pendCount (s : State) (d sl : Nat) : Nat := ((tget {} s.dsc d).pend.filter fun e => e.1 == sl).length

/-- Stash places of a slot in its spill region. -/
def spillCount (s : State) (d sl : Nat) : Nat :=
  ((stashUsed s d sl).filter fun l => match l with | .spill _ => true | _ => false).length

/-- The march test and repair of die `d` run (R291). -/
def repairs (s : State) (d : Nat) : Bool :=
  s.phase == .spring && s.spring.started.contains 7 && !s.spring.done.contains 7 && domOn s (8 * d + 4)

/-- A Winter clears the tags of a slot (R477). -/
def tagClears (s : State) (sl : Nat) : Bool :=
  [1, 2].any fun r => (realmOf s r).winterStep == some 3 && bindOf s sl == some r

/-- A key-epoch sweep has pages of die `d` to move (R304). -/
def sweepOn (s : State) (d : Nat) : Bool :=
  [1, 2].any fun r => (realmOf s r).sweeping && !(oldPagesOn s r d).isEmpty

/-- A Winter writes pages of die `d` (R306). -/
def scrubOn (s : State) (d : Nat) : Bool :=
  [1, 2].any fun r => (realmOf s r).winterStep == some 4
    && s.mem.page.any fun e => e.1 / 131072 == d && e.2.any fun a => a.1 == r

def poolCount (s : State) (d sl : Nat) : Nat := (stashUsed s d sl).length - spillCount s d sl

/-- Running collective instances of a slot on a die. -/
def colRuns (s : State) (d sl : Nat) : Nat := (s.fab.runs.filter fun r => r.die == d && r.slot == sl).length

/-- Engine of the die runs a barrier op. -/
def barrierRuns (s : State) (d : Nat) : Bool :=
  s.fab.runs.any fun r => r.die == d
    && (((jobAt s r.slot).bind (·.main)).any fun im => ((im.col.find? fun c => c.1 == d).any fun c =>
      ((c.2.ops[r.op]?).map (·.op)).getD 0 == 6))

/-- The closing round of a job runs on die `d`, the lowest of its dies. -/
def closeRuns (s : State) (d : Nat) : Bool :=
  [s.jobA, s.jobB].any fun j => j.any fun j => j.sol == .closing && (jobDies j).head? == some d

def statOf (s : State) (f : Frame0) : List (Nat × Nat) :=
  let d := f.die
  let c := f.inst
  match f.code with
  | 0x02 =>
    let x := s.rtb
    [(x.tsrc.toNat, 13), rb (x.slewRaw != 0 || x.slewCorr != 0) 12, rb x.syncBad 11, rb x.holdover 10, rb x.syncLost 9,
     rb x.valid 8]
  | 0x03 =>
    [rb (s.mgt.upd.st != .idle) 11, rb (s.rel.restarting || s.rel.held) 10, rb (alertN s) 9, rb (s.mgt.eidSmbus != 0) 8]
  | 0x04 =>
    [(maskOf 8 fun k => (tget {} s.thm.dies k).throttled, 24), rb (!coolantOk s) 11, rb (tripLine s) 10,
     rb s.thm.tripDrv 9]
  | 0x05 => [(((s.rel.autumn.slices.map (·.1)).headD 0) % 8, 9), rb s.rel.autumn.running 8]
  | 0x06 => [rb (!s.flash.marks.isEmpty) 9, rb (!s.rel.checks.isEmpty) 8]
  | 0x07 => [((s.rel.locks.filter fun e => e.2.isSome).length, 8)]
  | 0x08 => statDsc s d
  | 0x09 =>
    [rb (closeRuns s d) 11, rb (barrierRuns s d) 10, rb (colRuns s d 1 != 0) 9, rb (colRuns s d 0 != 0) 8]
  | 0x0A => [(maskOf 8 fun h => (lnk s (pkgLink d h)).pst == .up, 8)]
  | 0x0B =>
    [rb (repairs s d) 12, rb (tagClears s 1) 11, rb (tagClears s 0) 10, rb (spillCount s d 1 != 0) 9,
     rb (spillCount s d 0 != 0) 8]
  | 0x0C =>
    let x := stack s c
    [rb x.initializing 13, rb x.training 12, rb (sweepOn s (c / 5)) 11, rb (x.scrub || scrubOn s (c / 5)) 10, rb x.throttle 9, rb x.derate 8]
  | 0x0D => [rb (256 ≤ pendCount s d 1) 9, rb (256 ≤ pendCount s d 0) 8]
  | 0x0E =>
    let busy (sl : Nat) : Bool := ((dma s d c sl).q0 ++ (dma s d c sl).q1).any (·.running)
    [rb (busy 1) 9, rb (busy 0) 8]
  | 0x0F => [rb (ve s d c 1).run 9, rb (ve s d c 0).run 8]
  | 0x10 =>
    let waits (sl : Nat) : Bool := match (ccc s d c sl).stall with
      | some (.wait _ _ _ _) => true
      | some .summary => true
      | some .ending => true
      | _ => false
    [rb (waits 1) 11, rb (waits 0) 10, rb (ccc s d c 1).task.isSome 9, rb (ccc s d c 0).task.isSome 8]
  | 0x11 =>
    let nf (sl : Nat) : Bool := tget 0 s.cmp.watTot (3 * ctxKey d c sl) != 0
    [rb (nf 1) 9, rb (nf 0) 8]
  | 0x12 =>
    let x := core s d c f.sub
    [(if f.sub = 24 ∧ (clu s d c).spared = 0x1F then 3 else x.role, 24), rb x.retired 23, rb x.gated 22, (x.slot, 21), rb x.slow 20, (x.queue.length, 16), rb x.task.isSome 15]
  | 0x13 =>
    let x := core s d c f.sub
    let busy := x.queue.foldl (fun (a : BitVec 4) e => match e with | .mma .running _ _ _ _ _ m _ _ => a ||| m | _ => a) 0
    [(busy.toNat, 12), rb x.latch.isSome 10, rb x.bank1.loading 9, rb x.bank0.loading 8]
  | 0x14 => [rb s.fab.switching 11, (s.fab.planNo, 8)]
  | 0x15 =>
    let x := laser s c
    [rb x.worn 13, rb x.hot 12, (x.bus.getD 15, 8)]
  | 0x16 =>
    let x := seqr s c
    [rb (x.ff && blkOn s (baseDSC c)) 10, rb (s.opt.ring.any fun e => e.1 / 224 == c && e.2.st == .sweep) 9, rb x.run 8]
  | 0x17 =>
    let x := lnk s c
    [(pstCode x.pst, 16), rb x.winterRx 11, rb x.departRx 10, rb x.enc 9, rb x.replay 8]
  | 0x19 =>
    let code (r : Realm) : Nat := match r.st with | .closed => 0 | .opened => 1 | .keyed => 2 | .winter => 3
    [rb s.sec.dbgOpen 15, rb s.sec.dbgUsed 14, rb (twoRealm s) 13, (code s.sec.r2, 10), (code s.sec.r1, 8)]
  | 0x1A => [rb (s.spring.keyCheck == .running && s.spring.started.contains 5
      && s.flash.akDigest != some (bootedSlot s).cpDigest) 8]
  | _ => []

/-- The low byte of BLK_STAT (R81). -/
def statLow (x : Blk) : List (Nat × Nat) := [rb x.wrig 5, rb x.enPend 4, (lifeCode x.st, 0)]

/-! ### Block-specific registers by offset in the frame -/

/-- GLB_SPRING_STAT (R69). -/
def springStat (s : State) : W32 :=
  let x := s.spring
  let step := match x.stop with
    | some (k, _) => k
    | none => ((List.range 11).find? fun k => !x.done.contains (k + 1)).elim 11 (· + 1)
  regOf [(x.profSrc.toNat, 20), (x.prof.toNat, 18), rb x.fwSlot 17, rb x.newAk 16, rb x.discDone 11, rb x.mbxReady 10,
    rb x.stop.isSome 9, rb x.coolantWait 8, (step, 0)]

/-- The block of code `c` at base `b` holds a shadow that differs from its live value (R103). -/
def shadowPend (s : State) (b c : Nat) : Bool :=
  let r := rwbOf s b c
  r.shadow != r.live

/-- GLB_UPDATE_STAT (R103). -/
def updateStat (s : State) : W32 :=
  let dies := maskOf 8 fun d => (List.range 48).any fun c => shadowPend s (baseWAT d c) 0x11
  regOf [rb (compat s) 16, (dies, 8), rb (shadowPend s baseMNT 7) 4, rb (shadowPend s baseTHM 4) 3,
    rb (shadowPend s baseAGE 5) 2, rb (shadowPend s baseSNT 6) 1, rb (dies != 0) 0]

def half (hi : Bool) (v : W64) : W32 := BitVec.ofNat 32 (if hi then v.toNat / 2 ^ 32 else v.toNat)

/-- PWR_DOM_STATn (R40). -/
def domStat (s : State) (n : Nat) : W32 :=
  if !domPresent s n then 7
  else
    let x := dom s n
    regOf [rb x.gated 12, rb (maintHolds s n) 11, rb (winterHolds s n) 10, rb (s.jobB.any fun j => jobUsesDom j n) 9,
      rb (s.jobA.any fun j => jobUsesDom j n) 8, (if x.st = .fault then x.cause.toNat else 0, 3), (lifeCode x.st, 0)]

/-- PWR_CAP_STAT (R49). -/
def capStat (s : State) : W32 :=
  let x := s.cap
  regOf [(x.cap.toNat, 16), rb x.unmet 4, rb (x.duty != 0) 3, rb x.currentLimit 2, rb x.coolantCap 1, rb x.active 0]

/-- MNT_LOCKk (R514). -/
def lockReg (s : State) (k : Nat) : W32 :=
  match tget none s.rel.locks k with
  | none => 0
  | some l =>
    let d := fld l.res 48 8
    regOf [(1, 31), (l.cls, 28), rb l.host 27, (if d = 0xFF then 0 else d % 8, 24), (fld l.res 56 4, 20),
      (fld l.res 40 8, 12), (fld l.res 32 8, 4), (fld l.res 24 2, 0)]

/-- Registers of a link engine and its FEC in the LNK and FEC layouts (R385, R443). -/
def lnkReg (s : State) (l o : Nat) : W32 :=
  let x := lnk s l
  match o with
  | 0x20 => regOf [(x.rxSet.toNat, 10), (x.txSet.toNat, 0)]
  | 0x24 => x.mapTx
  | 0x28 => x.mapRx
  | 0x2C => regOf [(x.rtt.toNat, 0)]
  | 0x30 => x.replays
  | 0x34 => x.drops
  | _ => 0

def fecReg (s : State) (l o n : Nat) : W32 :=
  let x := lnk s l
  if o = 0x20 then x.cwCorr
  else if o = 0x24 then x.cwUnc
  else if 0x28 ≤ o ∧ o < 0x28 + 4 * n ∧ o % 4 = 0 then tget 0 x.sym ((o - 0x28) / 4)
  else 0

/-- LNK_STAT's block-specific bits of a group pair (R443). -/
def pkgStat (s : State) (l : Nat) : W32 :=
  let x := lnk s l
  let p := if x.pst = .training ∨ x.pst = .hold ∨ x.pst = .quarantined then 0 else pstCode x.pst
  regOf [(p, 16), rb x.winterRx 11, rb x.enc 9, rb x.replay 8]

def regSrm (s : State) (d o : Nat) : W32 :=
  let x := tget {} s.srm d
  match o with
  | 0x20 => regOf [(x.used.toNat, 16), (x.left.toNat, 0)]
  | 0x24 => x.corr
  | 0x28 => x.unc
  | 0x2C => regOf [(poolCount s d 1, 8), (poolCount s d 0, 0)]
  | 0x30 => regOf [(spillCount s d 0, 0)]
  | 0x34 => regOf [(spillCount s d 1, 0)]
  | _ => 0

def regLpx (s : State) (n o : Nat) : W32 :=
  let x := stack s n
  match o with
  | 0x20 => BitVec.ofNat 32 ((List.range 16).foldl (fun a c =>
      a + (match tget .present x.chans c with | .present => 0 | .failing => 1 | .retired => 2 | .armed => 3) * 4 ^ c) 0)
  | 0x24 => regOf [(x.temp.toNat, 0)]
  | 0x28 => x.corr
  | 0x2C => x.unc
  | _ => 0

def regClu (s : State) (d c o : Nat) : W32 :=
  let a := dma s d c 0
  let b := dma s d c 1
  match o with
  | 0x20 => regOf [((clu s d c).lost, 8), ((clu s d c).spared, 0)]
  | 0x24 => regOf [(b.q1.length, 12), (b.q0.length, 8), (a.q1.length, 4), (a.q0.length, 0)]
  | 0x28 => BitVec.ofNat 32 (a.count.toNat / 32)
  | 0x2C => BitVec.ofNat 32 (b.count.toNat / 32)
  | _ => 0

def regVe (s : State) (d c o : Nat) : W32 :=
  let a := ve s d c 0
  let b := ve s d c 1
  match o with
  | 0x20 => regOf [(if b.run then b.pc else 0, 16), (if a.run then a.pc else 0, 0)]
  | 0x24 => a.issued
  | 0x28 => b.issued
  | _ => 0

def regCcc (s : State) (d c o : Nat) : W32 :=
  let a := ccc s d c 0
  let b := ccc s d c 1
  let tag (x : Ccc) : Nat := (x.task.map fun t => t.2.2.2.toNat).getD 0
  match o with
  | 0x20 => regOf [(if b.task.isSome then b.pc % 2048 else 0, 16), (if a.task.isSome then a.pc % 2048 else 0, 0)]
  | 0x24 => regOf [(tag b, 16), (tag a, 0)]
  | _ => 0

def regWat (s : State) (d c o : Nat) : W32 :=
  let tot (sl i : Nat) : W32 := tget 0 s.cmp.watTot (3 * ctxKey d c sl + i)
  match o with
  | 0x24 => tot 0 0
  | 0x28 => tot 1 0
  | 0x2C => tot 0 1
  | 0x30 => tot 1 1
  | 0x34 => tot 0 2
  | 0x38 => tot 1 2
  | _ => 0

def regCore (s : State) (d c k o : Nat) : W32 :=
  let x := core s d c k
  if o = 0x20 then regOf (match x.task with | some t => [(t.tag.toNat, 16), (x.pc % 1024, 0)] | none => [])
  else if 0x24 ≤ o ∧ o ≤ 0x38 ∧ o % 4 = 0 then tget 0 x.counts ((o - 0x24) / 4)
  else 0

def regArr (s : State) (d c k o : Nat) : W32 :=
  let x := core s d c k
  let bank (b : Bank) : W32 :=
    regOf [(match b.fmt with | .b4 => 0 | .b8 => 1 | .b16 => 2, 8), (b.tiles.length, 0)]
  match o with
  | 0x20 => bank x.bank0
  | 0x24 => bank x.bank1
  | _ => 0

def regDsc (s : State) (d o : Nat) : W32 :=
  let x := tget {} s.dsc d
  let runs (sl : Nat) : Nat := ((List.range 48).filter fun c => (ccc s d c sl).task.isSome).length
  let eqx : W64 := x.eqx.getD (BitVec.ofNat 64 (2 ^ 64 - 1))
  match o with
  | 0x20 => half false eqx
  | 0x24 => half true eqx
  | 0x28 => regOf [(runs 1, 16), (runs 0, 0)]
  | 0x2C => x.eqxCount
  | 0x30 => x.lateCount
  | 0x34 => x.doneA
  | 0x38 => x.doneB
  | _ => 0

def regScb (s : State) (d o : Nat) : W32 :=
  if o = 0x20 then regOf [(pendCount s d 1, 16), (pendCount s d 0, 0)]
  else if o = 0x24 then regOf [((curStep s 1).toNat % 256, 8), ((curStep s 0).toNat % 256, 0)]
  else if 0x8000 ≤ o ∧ o < 0xC000 ∧ o % 4 = 0 then BitVec.ofNat 32 (tget 0 s.scb (4096 * d + (o - 0x8000) / 4) % 65536)
  else 0

def regCol (s : State) (d o : Nat) : W32 :=
  let x := tget {} s.fab.cnt d
  if o = 0x20 then regOf [(colRuns s d 1, 16), (colRuns s d 0, 0)]
  else if 0x24 ≤ o ∧ o ≤ 0x38 ∧ o % 4 = 0 then tget 0 x.counts ((o - 0x24) / 4)
  else 0

def regDfb (s : State) (d o : Nat) : W32 :=
  let x := tget {} s.fab.cnt d
  if o = 0x20 then tget 0 x.dfb 0
  else if o = 0x24 then tget 0 x.dfb 1
  else if 0x100 ≤ o ∧ o < 0x900 then
    let l := pkgLink d (o / 0x100 - 1)
    let q := o % 0x100
    if q = 4 then pkgStat s l else if q < 0x80 then lnkReg s l q else fecReg s l (q - 0x80) 9
  else 0

def regRtb (s : State) (o : Nat) : W32 :=
  let x := s.rtb
  match o with
  | 0x20 => half false (rtNow s)
  | 0x24 => half true (rtNow s)
  | 0x28 => half false x.corr
  | 0x2C => half true x.corr
  | 0x30 => x.theta
  | 0x34 => x.delta
  | 0x38 => regOf [(x.armed.length, 0)]
  | 0x3C => x.slips
  | 0x40 => x.losses
  | _ => 0

def regMgt (s : State) (o : Nat) : W32 :=
  let x := s.mgt
  match o with
  | 0x20 => regOf [(x.eidPcie1.toNat, 16), (x.eidPcie0.toNat, 8), (x.eidSmbus.toNat, 0)]
  | 0x24 => regOf [(x.dropped, 16), (x.evq.length, 0)]
  | 0x28 => x.rx
  | 0x2C => x.err
  | _ => 0

/-- Cores that hold at least one strike in force (R487, R514). -/
def struckCores (s : State) : List Nat := ((s.flash.strikes.map (·.1)).eraseDups).filter fun k => strikesOf s k != 0

def regSec (s : State) (o : Nat) : W32 :=
  let x := s.sec
  match o with
  | 0x20 => regOf [rb x.r2.two 7, (x.r2.epoch, 4), rb x.r1.two 3, (x.r1.epoch, 0)]
  | 0x24 => regOf [(if x.dbgOpen then x.grant.toNat else 0, 0)]
  | 0x28 => x.deny
  | _ => 0

/-- Counts of rings of a die by state (R385 LCK_RINGS). -/
def ringCount (s : State) (d : Nat) (st : RingSt) : Nat := (s.opt.ring.filter fun e => e.1 / 224 == d && e.2.st == st).length

/-- A block-specific register at offset `o` of its frame; 0 where the tables name none. -/
def regSpec (s : State) (f : Frame0) (o : Nat) : W32 :=
  let d := f.die
  let c := f.inst
  if isRwb f (f.base + o) then
    if f.code = 0x11 && (blk s f.base).st == .fault then 0 else (rwbOf s f.base f.code).live
  else match f.code with
    | 0x00 => if o = 0x20 then springStat s else if o = 0x34 then updateStat s else 0
    | 0x02 => regRtb s o
    | 0x03 => regMgt s o
    | 0x04 => if o = 0x24 then regOf [(s.thm.hot.toNat, 0)] else if o = 0x28 then s.thm.trips else 0
    | 0x05 => if o = 0x24 then BitVec.ofNat 32 s.flash.passNo
        else if o = 0x28 then regOf [((struckCores s).length, 0)] else 0
    | 0x06 => match o with | 0x24 => s.rel.sampled | 0x28 => s.rel.skipped | 0x2C => s.rel.mismatch | _ => 0
    | 0x07 => if 0x40 ≤ o ∧ o < 0x80 ∧ o % 4 = 0 then lockReg s ((o - 0x40) / 4) else if o = 0x80 then s.flash.unavail else 0
    | 0x08 => regDsc s d o
    | 0x09 => regCol s d o
    | 0x0A => regDfb s d o
    | 0x0B => regSrm s d o
    | 0x0C => regLpx s c o
    | 0x0D => regScb s d o
    | 0x0E => regClu s d c o
    | 0x0F => regVe s d c o
    | 0x10 => regCcc s d c o
    | 0x11 => regWat s d c o
    | 0x12 => regCore s d c f.sub o
    | 0x13 => regArr s d c f.sub o
    | 0x14 => if o = 0x20 then BitVec.ofNat 32 ((List.range 8).foldl (fun a b => a + (feeding s b).getD 15 * 16 ^ b) 0) else 0
    | 0x15 =>
      let x := laser s c
      if o = 0x20 then regOf [(biasLimit s c, 16), (x.bias.toNat, 0)]
      else if o = 0x24 then regOf [(x.min.toNat, 16), (x.mean.toNat, 0)] else 0
    | 0x16 =>
      let x := seqr s c
      match o with
      | 0x20 => regOf [(if x.run then x.pc % 4096 else 0, 0)]
      | 0x24 => regOf [(ringCount s c .lost, 24), (ringCount s c .hold, 16), (ringCount s c .sweep, 8), (ringCount s c .locked, 0)]
      | 0x28 => regOf [(x.temp.toNat, 0)]
      | _ => 0
    | 0x17 => lnkReg s c o
    | 0x18 => fecReg s c o 10
    | 0x19 => regSec s o
    | 0x1A => if o = 0x20 then BitVec.ofNat 32 s.flash.fuseSvn else if o = 0x24 then s.sec.reports else 0
    | 0x1D =>
      if 0x100 ≤ o ∧ o < 0x240 ∧ o % 4 = 0 then domStat s ((o - 0x100) / 4) else if o = 0x40 then capStat s else 0
    | _ => 0

/-- The word at a dword-aligned offset of BAR0, for a block that is present and whose domain is On. -/
def regValue (s : State) (f : Frame0) (off : Nat) : W32 :=
  let o := off - f.base
  let x := blk s f.base
  if o = 0 then
    regOf [rb (f.code == 0x12 && (core s f.die f.inst f.sub).skipEn) 1, rb x.en 0]
  else if o = 4 then regOf (statOf s f ++ statLow x)
  else if o = 8 then regOf [(x.wrigCount.toNat, 28), (x.wrigSrc.toNat, 26), (x.wrigAddr.toNat, 0)]
  else if o = 0xC then blkId f
  else if o < 0x20 then 0
  else regSpec s f o

/-- A register of an Absent block (R98). -/
def regAbsent (f : Frame0) (off : Nat) : W32 :=
  if off - f.base = 4 then 7 else if off - f.base = 0xC then blkId f else 0

/-- R89: every host may read GLB, every header, PWR_DOM_STATn and PWR_CAP_STAT. -/
def openRead (f : Frame0) (off : Nat) : Bool :=
  let o := off - f.base
  f.code == 0 || o < 0x20 || (f.code == 0x1D && (o == 0x40 || (0x100 ≤ o && o < 0x240)))

/-- R89, R473: the read is permitted to requester `who`; REG_READ opens every register to the steward. -/
def mayRead (s : State) (who : Nat) (f : Frame0) (off : Nat) : Bool :=
  who == 0 || openRead f off || (s.sec.dbgOpen && bit s.sec.grant 0 && isSteward s (who - 1))

/-- What a permitted read of a dword returns, and what it logs (R97, R98). -/
def regRead (off : Nat) (s : State) : W32 × State :=
  match regAt off with
  | none => (0, s)
  | some f =>
    if frameAbsent s f then (regAbsent f off, s)
    else if !domOn s f.dom then (0xFFFFFFFF, offdom f.dom off s)
    else (regValue s f off, s)

/-- A register access checks the parity of a configuration register (R99). -/
def parityReg (f : Frame0) (off : Nat) : Bool := off == f.base || isRwb f off

/-- A byte of a dword under its byte enables (R88). -/
def byEnable (mask : Nat) (v : W32) : W32 :=
  BitVec.ofNat 32 ((List.range 4).foldl (fun a i => a + if mask.testBit i then fld v (8 * i) 8 * 256 ^ i else 0) 0)

end Sys2Proof.Machine
end

