-- ==== Sys2Proof/Machine/Packets.lean ====
section
/-! DEFINITION. Packets and remote requests (R313, R314, R316, R342, R424 to R428): routing, sending, the service of a
request at its target, and transactions in flight. -/

namespace Sys2Proof.Machine

open Sys2Proof

/-! ### Routing and sending (R424 to R427) -/

/-- Where a packet goes next (R426). -/
inductive Hop where
  | own
  | via (ports : List Nat)
  | unreachable
  deriving DecidableEq, Repr

/-- Up ports whose peer is a chip. -/
def portsTo (s : State) (chip : Nat) : List Nat :=
  (List.range 32).filter fun p => linkUpAt s p && (port s p).peerChip == chip

/-- A chip number names this module (R282). -/
def isOwn (s : State) (chip : Nat) : Bool := chip == 0xFFFF || chipNo s == some chip

/-- R426. -/
def nextHop (s : State) (dst : Nat) : Hop :=
  if isOwn s dst then .own
  else if !(portsTo s dst).isEmpty then .via (portsTo s dst)
  else match (s.fab.plan.map (·.routes)).bind fun rs => rs.find? fun r => r.1 ≤ dst && dst ≤ r.2.1 with
    | some r => if (portsTo s r.2.2).isEmpty then .unreachable else .via (portsTo s r.2.2)
    | none => .unreachable

/-- The port among those found that a packet takes. -/
def portFor (p : Packet) (ps : List Nat) : Nat :=
  ps.getD ((Nat.xor (Nat.xor p.src p.dst) (p.offset / 4096)) % 65536 % ps.length) 0

/-- Send a packet; none if its destination is unreachable. One packet takes one frame (log entry 20). The port is
none when the packet stays in this module. -/
def sendPacket (p : Packet) (realm : Nat) (red nf : Bool) (s : State) : Option (Option Nat × State) :=
  match nextHop s p.dst with
  | .own =>
    some (none, s.setFab { s.fab with inbox := s.fab.inbox ++ [
      { pkt := p, link := 96, realm, opened := true, red, nf, stamp := rtNow s }] })
  | .via ps =>
    let l := portFor p ps
    some (some l, sendData l { typ := if red then 2 else 1, realm, nf, packets := [p] } s)
  | .unreachable => none

/-- Send an answer; one that finds no way is lost. -/
def sendAnswer (p : Packet) (realm : Nat) (s : State) : State :=
  match sendPacket p realm false false s with
  | some r => r.2
  | none => s

/-- A packet of this module with its fields at zero. -/
def newPacket (s : State) (kind dst offset : Nat) : Packet :=
  { kind, hops := 8, dst, src := ownChip s, offset, tag := 0, step := 0, slot := 0, die := 0, aux := 0, aux2 := 0
    len := 0, payload := [] }

/-- Cut a range into pieces of at most 4,096 bytes. -/
def pieces (off len : Nat) : List (Nat × Nat) :=
  (List.range ((len + 4095) / 4096)).map fun i => (off + 4096 * i, min 4096 (len - 4096 * i))

/-! ### Transactions (R428) -/

/-- Issue a request as a transaction; none if it is unreachable. -/
def issueTxn (who : TxnWho) (p : Packet) (realm : Nat) (red : Bool) (into : Option Nat) (s : State) : Option State :=
  let q := { p with tag := s.fab.nextTag }
  match sendPacket q realm red false s with
  | none => none
  | some (port, t) => some (t.setFab { t.fab with
      nextTag := t.fab.nextTag + 1
      txns := t.fab.txns ++ [{ tag := q.tag, who, dst := p.dst, port, into, bytes := p.len, issued := rtNow s }] })

/-- The transactions of a requester are over. -/
def txnsDrop (who : TxnWho) (s : State) : State :=
  s.setFab { s.fab with txns := s.fab.txns.filter fun t => t.who != who }

def txnsOf (s : State) (who : TxnWho) : List Txn := s.fab.txns.filter fun t => t.who == who

/-! ### Service at the target (R313, R314, R316, R342) -/

/-- Registers that the alias shows: those that every host may read. -/
def aliasOk (s : State) (o len : Nat) : Bool :=
  let _ := s
  (unitsOf o len 4).all fun w => match regAt (4 * w) with | some f => openRead f (4 * w) | none => false

/-- Read `len` bytes of BAR0 at offset `o`. -/
def aliasRead (o len : Nat) (s : State) : List Byte × State :=
  let r := (unitsOf o len 4).foldl (fun (a : List Byte × State) w =>
    let v := regRead (4 * w) a.2
    (a.1 ++ leBytes 4 v.1.toNat, v.2)) ([], s)
  (slice r.1 (o % 4) len, r.2)

/-- The buddy region that a remote chip addresses at an offset: RV0 is the offset of its first page. -/
def buddyAt (s : State) (off : Nat) : Option (Nat × Buddy) :=
  s.buddies.findSome? fun e => e.2.bind fun b => match b.region.runs.head? with
    | some r => if r.2.1 ≤ off && off < r.2.1 + b.region.bytes then some (r.2.1, b) else none
    | none => none

/-- Device offset of byte `i` of a region (R307). -/
def regionOff (r : Region) (i : Nat) : Nat :=
  let p := i / 0x200000
  match r.runs[p % r.runs.length]? with
  | some x => x.2.1 + p / r.runs.length * 0x200000 + i % 0x200000
  | none => 0

/-- The pieces of memory behind a range: a buddy region is addressed by its byte numbers (R342). -/
def behind (s : State) (src : Src) (realm off len : Nat) : List (Nat × Nat) :=
  match src with
  | .remote _ =>
    match (if realm = 0 then buddyAt s off else none) with
    | some (base, b) => (unitsOf (off - base) len 0x200000).map fun p =>
        let lo := max (off - base) (p * 0x200000)
        (regionOff b.region lo, min (off - base + len) ((p + 1) * 0x200000) - lo)
    | none => [(off, len)]
  | _ => [(off, len)]

/-- What a target answers. -/
inductive Answer where
  | ack
  | data (bytes : List Byte) (poison : Bool)
  | nack (check : Nat)
  deriving DecidableEq, Repr

/-- The first check of R313 that refuses a range, over its pieces. -/
def refusal (src : Src) (realm : Nat) (write : Bool) (ps : List (Nat × Nat)) (s : State) : Option Nat :=
  ps.findSome? fun x => checkRange realm src write x.1 x.2 s

/-- A read at its target. -/
def targetRead (src : Src) (realm off len : Nat) (s : State) : Answer × State :=
  match placeOf s off with
  | .window o =>
    if realm = 0 && aliasOk s o len then
      let r := aliasRead o len s
      (.data r.1 false, r.2)
    else (.nack 2, s)
  | _ =>
    let ps := behind s src realm off len
    match refusal src realm false ps s with
    | some k => (.nack k, s)
    | none =>
      let r := ps.foldl (fun (a : List Byte × Bool × State) x =>
        let m := memRead realm x.1 x.2 a.2.2
        (a.1 ++ m.1, a.2.1 || m.2.1, m.2.2)) ([], false, s)
      (.data r.1 r.2.1, r.2.2)

/-- A write at its target. -/
def targetWrite (src : Src) (realm off : Nat) (data : List Byte) (s : State) : Answer × State :=
  let ps := behind s src realm off data.length
  match refusal src realm true ps s with
  | some k => (.nack k, s)
  | none =>
    let r := ps.foldl (fun (a : List Byte × State) x => (a.1.drop x.2, memWrite realm x.1 (a.1.take x.2) a.2)) (data, s)
    (.ack, r.2)

/-- A request that the die fabric carries, with REMOTE_DENIED for one that is refused. -/
def serve (src : Src) (chip realm off : Nat) (write : Bool) (len : Nat) (data : List Byte) (s : State) : Answer × State :=
  let r := if write then targetWrite src realm off data s else targetRead src realm off len s
  match r.1 with
  | .nack k => (r.1, remoteDenied chip off k r.2)
  | _ => r

/-- The packet of an answer to a request of a chip with a tag. Poison travels in AUX bit 0 of READ_DATA (log
entry 20). -/
def answerPacket (s : State) (dst : Nat) (tag : W32) : Answer → Packet
  | .ack => { newPacket s 2 dst 0 with tag }
  | .data b p => { newPacket s 4 dst 0 with tag, len := b.length, payload := b, aux := b2n p }
  | .nack k => { newPacket s 7 dst 0 with tag, aux := k }

/-- The die whose fabric serves an offset grants requests (R441). -/
def dfbGrants (s : State) (off : Nat) : Bool :=
  match (placeOf s off).die? with
  | some d => domOn s (8 * d + 6) && blkOn s (baseDFB d)
  | none => true

/-- REMOTE_REQUEST (R313): a request of another die or chip. A write that the persist fence refuses aborts the step of
a requester in this module (R322). -/
def execRemoteRequest (chip slot realm : Nat) (wr : Bool) (off len : Nat) (data : List Byte)
    (errs : List (Nat × Nat)) (s : State) : Res :=
  if !dfbGrants s off then .next s
  else
    let own := isOwn s chip
    let sol := ((jobAt s slot).map fun j => j.sol == .run).getD false
    let src := if own then Src.agent slot sol else Src.remote chip
    let r := serve src chip realm off wr len data (applyErrs errs s)
    let t := if own && r.1 == .nack 5 then abortStep slot r.2 else r.2
    .next (emit (.packet (answerPacket s chip 0 r.1)) t)

end Sys2Proof.Machine
end

