-- ==== Sys2Proof/Machine/Dma.lean ====
section
/-! DEFINITION. The cluster DMA (R234 to R240): copies, conversions with the edge converters and the quantiser, and
transfers from and to other chips. -/

namespace Sys2Proof.Machine

open Sys2Proof

/-! ### What a context works for -/

/-- The descriptor of an instance that a context of `slot` runs: table 0 main, 1 deep, 2 fill. -/
def ctxDesc (s : State) (slot tbl i : Nat) : Option Task :=
  if tbl = 2 then (jobAt s (1 - slot)).bind fun j => j.fill.bind fun g => g.tasks[i]?
  else (jobAt s slot).bind fun j => j.main.bind fun g => (if tbl = 1 then g.deep else g.tasks)[i]?

/-- The cluster task of a context is a solstice-phase instance. -/
def ctxSol (s : State) (d c slot : Nat) : Bool :=
  match (ccc s d c slot).task with
  | some (tbl, i, _, _) => ((ctxDesc s slot tbl i).map fun t => t.phase == 4).getD false
  | none => false

/-- A state in which a transfer goes on, or has met a cause of R240. -/
abbrev Run := State × Option Nat

/-- Go on unless a cause has been met. -/
def thenRun (r : Run) (f : State → Run) : Run :=
  match r.2 with
  | some _ => r
  | none => f r.1

/-- Do a list of things in order until one meets a cause. -/
def runAll {α : Type} (l : List α) (f : α → State → Run) (s : State) : Run :=
  l.foldl (fun r a => thenRun r (f a)) (s, none)

/-! ### One access (R238, R281, R282, R309, R313) -/

/-- Chip number and offset of a global address. -/
def gChip (a : Nat) : Nat := a / 2 ^ 48 % 65536
def gOff (a : Nat) : Nat := a % 2 ^ 48

/-- An access of this module that a check refuses: one that crosses dies, or that the persist fence refuses, is logged
at its target. -/
def ownDenied (d off k : Nat) (s : State) : State :=
  let cross := match (placeOf s off).die? with | some e => e != d | none => false
  if cross || k == 5 then remoteDenied (ownChip s) off k s else s

/-- The die fabric carries an access of die `d` to an offset (R441). -/
def fabricOk (s : State) (d off : Nat) : Bool :=
  match (placeOf s off).die? with
  | some e => e == d || (domOn s (8 * d + 6) && blkOn s (baseDFB d) && dfbGrants s off)
  | none => true

/-- Read `len` bytes at a device offset for an agent of die `d`; a stash address is that of the agent's slot. The causes
are those of R240. -/
def ownRead (src : Src) (realm d slot off len : Nat) (stash : Bool) (s : State) : List Byte × Run :=
  let got (b : List Byte) (poison : Bool) (t : State) : List Byte × Run := (b, t, if poison then some 3 else none)
  match placeOf s off with
  | .stash m b =>
    if !stash || 2 ^ 30 < b + len then ([], s, some 2)
    else match stashRead realm d slot m b len s with
      | some (x, p, t) => got x p t
      | none => ([], s, some 2)
  | .window o => if realm = 0 && aliasOk s o len then let r := aliasRead o len s; got r.1 false r.2 else ([], s, some 2)
  | _ =>
    if !fabricOk s d off then ([], s, some 4)
    else match checkRange realm src false off len s with
      | some k => ([], ownDenied d off k s, some 2)
      | none => let r := memRead realm off len s; got r.1 r.2.1 r.2.2

/-- Write at a device offset. -/
def ownWrite (src : Src) (realm d slot off : Nat) (data : List Byte) (stash : Bool) (s : State) : Run :=
  match placeOf s off with
  | .stash m b =>
    if !stash || 2 ^ 30 < b + data.length then (s, some 2)
    else match stashWrite realm d slot m b data s with
      | some t => (t, none)
      | none => (s, some 2)
  | _ =>
    if !fabricOk s d off then (s, some 4)
    else match checkRange realm src true off data.length s with
      | some k => (ownDenied d off k s, some 2)
      | none => (memWrite realm off data s, none)

/-! ### Access of a transfer -/

def dmaWho (d c slot queue : Nat) : TxnWho := .dma d c slot queue
def dmaSrc (s : State) (d c slot : Nat) : Src := .agent slot (ctxSol s d c slot)

/-- The running transfer of a queue. -/
def dmaHead (s : State) (d c slot queue : Nat) : Option Xfer :=
  let q := dma s d c slot
  match (if queue = 0 then q.q0 else q.q1) with
  | x :: _ => if x.running then some x else none
  | [] => none

/-- Replace the first transfer of a queue. -/
def dmaSetHead (d c slot queue : Nat) (x : Xfer) (s : State) : State :=
  let q := dma s d c slot
  setDma s d c slot (if queue = 0 then { q with q0 := x :: q.q0.drop 1 } else { q with q1 := x :: q.q1.drop 1 })

/-- Read bytes of a source: from this module, or what another chip has returned. -/
def dmaRead (d c slot : Nat) (x : Xfer) (a len : Nat) (s : State) : List Byte × Run :=
  if isOwn s (gChip a) then ownRead (dmaSrc s d c slot) (slotRealm s slot) d slot (gOff a) len true s
  else (tgetRun 0 x.got a len, s, none)

/-- CLU_DMA counts the bytes that a transfer writes (R242). -/
def dmaCount (d c slot n : Nat) (s : State) : State :=
  let q := dma s d c slot
  setDma s d c slot { q with count := q.count + BitVec.ofNat 37 n }

/-- Write bytes of a destination; those for another chip leave as WRITE packets. -/
def dmaWrite (d c slot queue : Nat) (a : Nat) (b : List Byte) (s : State) : Run :=
  let r := if isOwn s (gChip a) then
      ownWrite (dmaSrc s d c slot) (slotRealm s slot) d slot (gOff a) b true s
    else runAll (pieces (gOff a) b.length) (fun p t =>
      match issueTxn (dmaWho d c slot queue)
        { newPacket t 1 (gChip a) p.1 with len := p.2, payload := slice b (p.1 - gOff a) p.2 }
        (slotRealm t slot) false none t with
      | some u => (u, none)
      | none => (t, some 4)) s
  thenRun r fun t => (dmaCount d c slot b.length t, none)

/-! ### Rows and tiles (R236, R237) -/

/-- Format code of R172 for a format code of R235 other than raw. -/
def dmaFmt (f : Nat) : Nat :=
  match f with | 1 => 0 | 2 => 1 | 3 => 2 | 4 => 0x10 | 5 => 0x11 | _ => 0x12

/-- Bytes of a row. -/
def rowBytes (f elems : Nat) : Nat :=
  if f = 0 then elems
  else if dmaIsB f then
    let nb := (elems + 31) / 32
    32 * ((nb + 63) / 64) + nb * blockBytes (dmaFmt f)
  else elems * elemBytes (dmaFmt f)

/-- Quantisation tiles of a row. -/
def rowTiles (elems : Nat) : Nat := (elems + 1023) / 1024

def addr64 (base : W64) (n : Nat) : Nat := (base + dw n).toNat
def srcRow (x : Xfer) (r : Nat) : W64 := x.src + dw (r * x.sstride)
def dstRow (x : Xfer) (r : Nat) : W64 := x.dst + dw (r * x.dstride)

/-- Elements of tile `t` of a row. -/
def tileElems (x : Xfer) (t : Nat) : Nat := min 1024 (x.elems - 1024 * t)

/-- Offset of the block run that holds tile `t`, in a row of a B format. -/
def runOff (f t : Nat) : Nat := t / 2 * (32 + 64 * blockBytes (dmaFmt f))

/-- Offsets in a row of the shift bytes of tile `t` and of its blocks. -/
def hdrOff (f t : Nat) : Nat := runOff f t + t % 2 * 16
def blkOff (f t : Nat) : Nat := runOff f t + 32 + t % 2 * 32 * blockBytes (dmaFmt f)

/-- The binary32 values of tile `t` of row `r` of the source. -/
def tileIn (d c slot : Nat) (x : Xfer) (r t : Nat) (s : State) : List F32 × Run :=
  let n := tileElems x t
  let f := dmaFmt x.sfmt
  if dmaIsB x.sfmt then
    let nb := (n + 31) / 32
    let e := blockBytes f
    let h := dmaRead d c slot x (addr64 (srcRow x r) (hdrOff x.sfmt t)) ((nb + 1) / 2) s
    let b := if h.2.2.isSome then ([], h.2) else dmaRead d c slot x (addr64 (srcRow x r) (blkOff x.sfmt t)) (nb * e) h.2.1
    let w := if b.2.2.isSome then ([], b.2)
      else dmaRead d c slot x (addr64 x.sscale (4 * (r * rowTiles x.elems + t))) 4 b.2.1
    let S : F32 := BitVec.ofNat 32 (leNat w.1)
    ((List.range n).map fun i => decodeElem (magBits f) (unpackElem 0 h.1 (i / 32)) S
      (unpackElem f (slice b.1 (i / 32 * e) e) (i % 32)), w.2)
  else
    let z := elemBytes f
    let b := dmaRead d c slot x (addr64 (srcRow x r) (1024 * t * z)) (n * z) s
    ((List.range n).map fun i => widen (binFmt f) (leAt b.1 (z * i) z), b.2)

/-- What the edge converter counts for a value written as pattern `w` of a binary format (R181, R184). -/
def convCount (f : FFmt) (v : F32) (w : Nat) : QCount :=
  if isNonFinite v then { nf := 1 }
  else match unpack f w with
    | .fin _ m _ => { zero := b2n (m == 0), amax := fAbs v }
    | _ => { nf := 1, sat := 1, amax := fAbs v }

/-- Write a tile of a binary format. -/
def tileBin (d c slot queue : Nat) (x : Xfer) (r t : Nat) (vals : List F32) (s : State) : Run :=
  let f := dmaFmt x.dfmt
  let ws := vals.map (narrow (binFmt f))
  let cnt := (vals.zip ws).foldl (fun a y => a.add (convCount (binFmt f) y.1 y.2)) ({} : QCount)
  let k := dmaWrite d c slot queue (addr64 (dstRow x r) (1024 * t * elemBytes f)) (ws.flatMap (leBytes (elemBytes f))) s
  thenRun k fun u => (watCount d c slot x.tid cnt 0 u, none)

/-- Quantise a tile and write its shifts, blocks and scale word. -/
def tileQuant (d c slot queue : Nat) (x : Xfer) (j : Job) (ten : Tensor) (r t : Nat) (vals : List F32) (s : State) :
    Run :=
  let f := dmaFmt x.dfmt
  let idx (i : Nat) : Nat := (x.ibase.toNat + r * x.elems + 1024 * t + i) % 2 ^ 32
  let els : List QElem := (vals.zip (List.range vals.length)).map fun y => some (y.1, idx y.2)
  let blocks := blocksOf ((vals.length + 31) / 32) els
  let S := opScale ten (inForce j ten) (magBits f) (Machine.tileVals blocks)
  match quantTile (magBits f) S (stochOf j ten) (satLimit s d c slot) blocks with
  | .failed _ _ => (recomputeFailed d c slot x.tid s, some 5)
  | .written bs S' cnt retry =>
    let nib := packElems 0 (bs.map (·.1))
    let k1 := dmaWrite d c slot queue (addr64 (dstRow x r) (hdrOff x.dfmt t)) (if t % 2 = 0 then nib ++ zeros 16 else nib) s
    let k2 := thenRun k1 (dmaWrite d c slot queue (addr64 (dstRow x r) (blkOff x.dfmt t)) (bs.flatMap fun y => packElems f y.2))
    let k3 := thenRun k2 (dmaWrite d c slot queue (addr64 x.dscale (4 * (r * rowTiles x.elems + t))) (leBytes 4 S'.toNat))
    thenRun k3 fun u => (quantCount d c slot x.tid S' cnt retry u, none)

/-- Copy one row, and its scale words when its format is a B format. -/
def rowCopy (d c slot queue : Nat) (x : Xfer) (r : Nat) (s : State) : Run :=
  let b := dmaRead d c slot x (srcRow x r).toNat (rowBytes x.sfmt x.elems) s
  let k := thenRun b.2 (dmaWrite d c slot queue (dstRow x r).toNat b.1)
  if dmaIsB x.sfmt then
    thenRun k fun t =>
      let o := 4 * (r * rowTiles x.elems)
      let w := dmaRead d c slot x (addr64 x.sscale o) (4 * rowTiles x.elems) t
      thenRun w.2 (dmaWrite d c slot queue (addr64 x.dscale o) w.1)
  else k

/-- Convert one row, tile by tile. -/
def rowConvert (d c slot queue : Nat) (x : Xfer) (r : Nat) (s : State) : Run :=
  runAll (List.range (rowTiles x.elems)) (fun t u =>
    let v := tileIn d c slot x r t u
    thenRun v.2 fun w =>
      if dmaIsB x.dfmt then
        match (ctxJob w slot).bind fun j => (tensorOn j d x.tid).map fun y => (j, y) with
        | some (j, y) => tileQuant d c slot queue x j y r t v.1 w
        | none => (w, some 5)
      else tileBin d c slot queue x r t v.1 w) s

/-- The QUANT causes that hold before a conversion begins (R240). -/
def quantBars (s : State) (d c slot : Nat) (x : Xfer) : Bool :=
  x.sfmt != x.dfmt && (match (ctxJob s slot).bind (tensorOn · d x.tid) with
    | none => true
    | some t => t.format != dmaFmt x.dfmt || (dmaIsB x.dfmt && t.cls == 5) || !blkOn s (baseWAT d c))

/-- Read, convert and write every row of the running transfer. -/
def dmaMove (d c slot queue : Nat) (x : Xfer) (s : State) : State :=
  let one := if x.sfmt = x.dfmt then rowCopy d c slot queue x else rowConvert d c slot queue x
  let r := runAll (List.range x.rows) one s
  match r.2 with
  | some cause => dmaFault d c slot queue cause r.1
  | none => dmaSetHead d c slot queue { x with moved := true } r.1

/-- The remote ranges that a transfer reads: global addresses and lengths. -/
def dmaRemote (s : State) (x : Xfer) : List (Nat × Nat) :=
  let rows := (List.range x.rows).map fun r => ((srcRow x r).toNat, rowBytes x.sfmt x.elems)
  let words := if dmaIsB x.sfmt then [(x.sscale.toNat, 4 * rowTiles x.elems * x.rows)] else []
  (rows ++ words).filter fun a => !isOwn s (gChip a.1)

/-- Ask other chips for the bytes of a source. -/
def dmaAsk (d c slot queue : Nat) (x : Xfer) (s : State) : Run :=
  runAll (dmaRemote s x) (fun a t => runAll (pieces (gOff a.1) a.2) (fun p u =>
    match issueTxn (dmaWho d c slot queue) { newPacket u 3 (gChip a.1) p.1 with len := p.2 } (slotRealm u slot) false
        (some (a.1 + (p.1 - gOff a.1))) u with
    | some v => (v, none)
    | none => (u, some 4)) t) s

/-- DMA_TRANSFER_START (R234, R237): the first transfer of a queue begins. A transfer within this module moves at once,
one with a remote source when its data have come. -/
def execDmaTransferStart (d c slot queue : Nat) (errs : List (Nat × Nat)) (s : State) : Res :=
  let q := dma s d c slot
  match (if queue = 0 then q.q0 else q.q1) with
  | [] => .next s
  | x :: _ =>
    if x.running || !clocksRun s || !domOn s (quadDom d c) || !blkWorks s (baseCLU d c) then .next s
    else
      let y := { x with running := true, moved := false, got := [] }
      let s1 := dmaSetHead d c slot queue y (txnsDrop (dmaWho d c slot queue) (applyErrs errs s))
      if quantBars s1 d c slot y then .next (dmaFault d c slot queue 5 s1)
      else
        let r := dmaAsk d c slot queue y s1
        match r.2 with
        | some cause => .next (dmaFault d c slot queue cause r.1)
        | none =>
          if (txnsOf r.1 (dmaWho d c slot queue)).isEmpty then .next (dmaMove d c slot queue y r.1) else .next r.1

/-- Data of another chip for a transfer; the last of them moves it. Poison is an ECC fault. -/
def dmaData (d c slot queue at_ : Nat) (b : List Byte) (poison : Bool) (s : State) : State :=
  match dmaHead s d c slot queue with
  | none => s
  | some x =>
    if poison then dmaFault d c slot queue 3 s
    else
      let y := { x with got := tsetRun 0 x.got at_ b }
      let s1 := dmaSetHead d c slot queue y s
      if x.moved || !(txnsOf s1 (dmaWho d c slot queue)).isEmpty then s1 else dmaMove d c slot queue y s1

/-- DMA_TRANSFER_DONE (R237): every row is moved and every write acknowledged. -/
def execDmaTransferDone (d c slot queue : Nat) (s : State) : Res :=
  match dmaHead s d c slot queue with
  | none => .next s
  | some x =>
    if !x.moved || !clocksRun s || !(txnsOf s (dmaWho d c slot queue)).isEmpty then .next s
    else
      let q := dma s d c slot
      .next (setDma s d c slot (if queue = 0 then { q with q0 := q.q0.drop 1 } else { q with q1 := q.q1.drop 1 }))

end Sys2Proof.Machine
end

