-- ==== Sys2Proof/Machine/Sched.lean ====
section
/-! DEFINITION. The die schedulers (R255 to R265): instances and their dispatch, tokens and signals, timeouts, stalls,
and the beginning and the abort of a step. -/

namespace Sys2Proof.Machine

open Sys2Proof

/-! ### Instances (R255, R278) -/

/-- Descriptors of a table of an image: 1 deep, otherwise TASKS. -/
def tableOf (g : Image) (tbl : Nat) : List Task := if tbl = 1 then g.deep else g.tasks

/-- The table from which micro-batch `m` of a phase is taken. -/
def tableFor (st : Step) (phase m : Nat) : Nat :=
  if (phase = 1 ∨ phase = 2) ∧ st.deep.contains m then 1 else 0

/-- Instances of a descriptor in a step. -/
def instCount (j : Job) (t : Task) : Nat := if t.perMb then j.adm.microBatches else 1

/-- The instances of a step whose descriptors `p` selects: table, index, micro-batch. -/
def stepInsts (j : Job) (st : Step) (p : Task → Bool) : List (Nat × Nat × Nat) :=
  match j.main with
  | none => []
  | some g => [0, 1].flatMap fun tbl =>
      (List.range (tableOf g tbl).length).flatMap fun i =>
        match (tableOf g tbl)[i]? with
        | some t => if p t then
            ((List.range (instCount j t)).filter fun m => tableFor st t.phase m == tbl).map fun m => (tbl, i, m)
          else []
        | none => []

def allDone (st : Step) (l : List (Nat × Nat × Nat)) : Bool := l.all fun x => instOf st x.1 x.2.1 x.2.2 == .done

/-- Every instance of a phase has completed on die `d`. -/
def phaseDone (j : Job) (st : Step) (d ph : Nat) : Bool :=
  allDone st (stepInsts j st fun t => t.die == d && t.phase == ph)

/-- The job of an instance: fill work of a slot belongs to the job of the other slot. -/
def instJob (s : State) (slot tbl : Nat) : Option Job := if tbl = 2 then jobAt s (1 - slot) else jobAt s slot

/-- State of an instance; none if it does not exist. -/
def instState (s : State) (slot tbl i m : Nat) : Option InstSt :=
  match instJob s slot tbl, ctxDesc s slot tbl i with
  | some j, some t =>
    if tbl = 2 then if m = 0 then some (tget .waiting j.fillInsts i) else none
    else match j.step with
      | some st => if m < instCount j t && tableFor st t.phase m == tbl then some (instOf st tbl i m) else none
      | none => none
  | _, _ => none

/-! ### Tokens (R260, R261) -/

/-- Scoreboard key of a token reference of slot `slot` on die `d`. -/
def tokenKey (d slot : Nat) (r : TokRef) (m : Nat) : Nat := 4096 * d + 2048 * slot + r.entry + m % 2 ^ r.ring

def scbCount (s : State) (k : Nat) : Nat := tget 0 s.scb k

/-- Every wait can be satisfied: amounts at one entry add up. -/
def waitsOk (s : State) (d slot m : Nat) (ws : List TokRef) : Bool :=
  ws.all fun w =>
    let k := tokenKey d slot w m
    ((ws.filter fun v => tokenKey d slot v m == k).foldl (fun n v => n + v.amount) 0) ≤ scbCount s k

/-- Take all waits of an instance. -/
def takeWaits (d slot m : Nat) (ws : List TokRef) (s : State) : State :=
  s.setScb (ws.foldl (fun t w => tmod 0 t (tokenKey d slot w m) (· - w.amount)) s.scb)

/-- A signal as it leaves an instance or a collective: the die is that of the reference or the sender's own. -/
def sigOf (d slot : Nat) (r : TokRef) (m : Nat) (step : Byte) (fill : Bool) (src : Nat × Nat × Nat) : Sig :=
  { slot, die := if r.other then r.die else d, entry := r.entry + m % 2 ^ r.ring, amount := r.amount, step, fill, src }

def addSigs (l : List Sig) (s : State) : State := s.setFab { s.fab with sigs := s.fab.sigs ++ l }

/-- TOKEN_FAULT (R263) with the abort of the step it brings. -/
def tokenFault (g : Sig) (s : State) : State :=
  match jobAt s (if g.fill then 1 - g.slot else g.slot) with
  | none => s
  | some j =>
    let s1 := logJob 0x3009 j (resDie g.die) [dw (2048 * g.slot + g.entry)] s
    if g.fill then fillFault (1 - g.slot) s1 else abortStep g.slot s1

/-- Add a signal to its entry; one that would exceed 65,535 is dropped with TOKEN_FAULT. -/
def tokenAdd (g : Sig) (s : State) : State :=
  let k := 4096 * g.die + 2048 * g.slot + g.entry
  if 65535 < scbCount s k + g.amount then tokenFault g s
  else s.setScb (tmod 0 s.scb k (· + g.amount))

/-- The scoreboard takes signals of a die. -/
def scbServes (s : State) (d : Nat) : Bool := domOn s (8 * d + 6) && blkOn s (baseSCB d) && clocksRun s

/-- The slot runs only fill work: that of the job in the other slot. -/
def fillOnly (s : State) (slot : Nat) : Bool := (jobAt s slot).isNone && (jobAt s (1 - slot)).any fun j => j.adm.idle == 1

/-- A signal reaches its scoreboard (R263, R276, R335): the new state, or none while it is held back. -/
def sigTake (g : Sig) (s : State) : Option State :=
  if !scbServes s g.die then none
  else if g.fill then some (tokenAdd g s)
  else if fillOnly s g.slot then some (tokenAdd { g with fill := true } s)
  else match jobAt s g.slot with
    | none => some s
    | some j =>
      let cur := curStep s g.slot
      if j.sigDrop then some s
      else if g.step = BitVec.ofNat 8 cur.toNat then some (tokenAdd g s)
      else if g.step = BitVec.ofNat 8 (cur.toNat + 1) then
        if 256 ≤ pendCount s g.die g.slot then none
        else some (s.setDsc (tmod {} s.dsc g.die fun x =>
          { x with pend := x.pend ++ [(g.slot, g.entry, g.amount, g.step)] }))
      else some (tokenFault g s)

/-- SIGNAL_APPLY (R263): the signal at place `i` of those on their way. -/
def execSignalApply (i : Nat) (s : State) : Res :=
  match s.fab.sigs[i]? with
  | none => .next s
  | some g => match sigTake g s with
    | none => .next s
    | some t => .next (t.setFab { t.fab with sigs := t.fab.sigs.eraseIdx i })

/-- INSTANCE_SIGNAL_RELEASE (R261, R262): every write of the instance is visible by then. -/
def execInstanceSignalRelease (slot tbl i m : Nat) (s : State) : Res :=
  let p (g : Sig) : Bool := g.src == (tbl, i, m) && g.slot == slot
  .next (s.setFab { s.fab with
    sigs := s.fab.sigs ++ s.fab.owed.filter p
    owed := s.fab.owed.filter fun g => !p g })

/-! ### SOLSTICE_HELD (R277) -/

/-- Log SOLSTICE_HELD with a micro-batch. -/
def solsticeHeld (slot m : Nat) (s : State) : State :=
  match jobAt s slot with
  | none => s
  | some j => logJob 0x3001 j 0 [dw m] s

/-- Raised once for a step whose reduce instances are all done while a forward or backward instance is not. -/
def heldCheck (slot : Nat) (s : State) : State :=
  match jobAt s slot with
  | none => s
  | some j => match j.step with
    | none => s
    | some st =>
      let red := stepInsts j st fun t => t.phase == 3
      let rest := (stepInsts j st fun t => t.phase == 1 || t.phase == 2).filter fun x => instOf st x.1 x.2.1 x.2.2 != .done
      if st.heldRaised || red.isEmpty || !allDone st red || rest.isEmpty then s
      else
        let low := rest.foldl (fun a x => min a x.2.2) 1024
        solsticeHeld slot low (setJobAt s slot (some { j with step := some { st with heldRaised := true } }))

/-! ### Dispatch (R255 to R257, R267, R311) -/

/-- Logical cores of a role under a RATIO (R266). -/
def fwdCores (ratio : Nat) : Nat := match ratio with | 1 => 12 | 2 => 8 | _ => 6
def roleMask (ratio : Nat) (fwd : Bool) : Nat :=
  maskOf 24 fun l => if fwd then l < fwdCores ratio else fwdCores ratio ≤ l

/-- S8 of an instance with IDLE_ARG (R255): the idle role set of a lone job on the die. -/
def idleArgOf (s : State) (j : Job) (d : Nat) : Nat :=
  if j.pair.isSome then 0
  else match halfOf s d j.slot with
    | 1 => roleMask j.adm.ratio false
    | 2 => roleMask j.adm.ratio true
    | _ => 0

/-- The half in which a step stands on die `d`: none while the die owes a turn that is not later than the step's beginning,
or has missed one (R271 to R273). -/
def stepHalf (s : State) (d slot : Nat) (st : Step) : Nat :=
  let x := tget {} s.dsc d
  let owed (o : Option W64) : Bool := o.any fun l => l.toNat ≤ st.startRt.toNat
  if owed x.late || owed x.eqx || (x.late.isSome && x.missed) then 0 else halfOf s d slot

/-- Fill work may run on the idle set of die `d` (R275, R276): from the moment a phase completes, none is given to the set
that takes the job's next phase. Once the die has turned back, the backward set is idle to the step's end. -/
def fillMay (s : State) (d : Nat) (j : Job) : Bool :=
  let half := halfOf s d j.slot
  match j.step with
  | none => half == 1
  | some st =>
    if half = 1 then j.aborting || st.turned.contains d || !phaseDone j st d 1
    else !j.aborting && !phaseDone j st d 2

/-- The phase of an instance may run (R267, R276, R277). -/
def phaseRuns (s : State) (slot tbl : Nat) (t : Task) (j : Job) : Bool :=
  if tbl = 2 then halfOf s t.die slot == 3 && !j.fillEnded && fillMay s t.die j
  else match j.step with
    | none => false
    | some st => !j.aborting && (match t.phase with
      | 1 => stepHalf s t.die slot st == 1 && j.sol == .none
      | 2 => stepHalf s t.die slot st == 2 && j.sol == .none
      | 3 => j.sol == .none
      | 4 => j.sol == .run
      | _ => false)

/-- R256, for an instance. -/
def instReady (s : State) (slot tbl i m : Nat) : Bool :=
  match instJob s slot tbl, ctxDesc s slot tbl i with
  | some j, some t =>
    match physOf j t.die t.lcluster with
    | none => false
    | some c =>
      instState s slot tbl i m == some .waiting
        && (m == 0 || instState s slot tbl i (m - 1) != some .waiting)
        && (ccc s t.die c slot).task.isNone && clusterUsable s t.die c
        && domOn s (8 * t.die + 6) && blkOn s (baseDSC t.die) && scbServes s t.die
        && phaseRuns s slot tbl t j && waitsOk s t.die slot m t.waits
  | _, _ => false

/-- An instance that R257 places before (tbl, i, m) is ready for the same context. -/
def instBefore (s : State) (slot tbl i m : Nat) (t : Task) (j : Job) : Bool :=
  (if tbl = 2 then [2] else [0, 1]).any fun tbl' => (List.range (i + 1)).any fun i' =>
    match ctxDesc s slot tbl' i' with
    | none => false
    | some t' => t'.die == t.die && t'.lcluster == t.lcluster && (List.range (instCount j t')).any fun m' =>
        (i' < i || (i' == i && (m' < m || (m' == m && tbl' < tbl)))) && instReady s slot tbl' i' m'

/-- Stash pages still free on die `d` (R311). -/
def stashRoom (s : State) (d slot : Nat) : Nat :=
  let used := (stashUsed s d slot).length
  min (131072 - used) (128 + (spillShare s d slot).2 - used)

/-- F of R311: the most pages that an earlier micro-batch holds or has held. -/
def stashNeed (s : State) (d slot m : Nat) : Nat :=
  ((tget {} s.srm d).peak.filter fun e => e.1 == slot && e.2.1 < m).foldl (fun a e => max a e.2.2) 0

/-- R311 applies before this instance: it is the first forward instance of micro-batch m > 0 on its die, and the die has
not raised STASH_FULL for m yet. A micro-batch that has begun on another die then keeps its descriptors (R278). -/
def stashChecked (j : Job) (st : Step) (t : Task) (m : Nat) : Bool :=
  t.phase == 1 && 0 < m && !st.deep.contains m && !st.stashFull.contains (t.die, m)
    && (stepInsts j st fun u => u.die == t.die && u.phase == 1).all fun x => x.2.2 != m || instOf st x.1 x.2.1 x.2.2 == .waiting

/-- R278: micro-batches with no forward instance dispatched switch to DEEP_TASKS, or the step is aborted. -/
def deepSwitch (slot : Nat) (s : State) : State :=
  match jobAt s slot with
  | none => s
  | some j => match j.step with
    | none => s
    | some st =>
      if !j.adm.deepOk || ((j.main.map (·.deep)).getD []).isEmpty then abortStep slot s
      else
        let fwd := stepInsts j st fun t => t.phase == 1
        let free := (List.range j.adm.microBatches).filter fun m =>
          !st.deep.contains m && (fwd.all fun x => x.2.2 != m || instOf st x.1 x.2.1 x.2.2 == .waiting)
        setJobAt s slot (some { j with step := some { st with deep := st.deep ++ free } })

/-- Argument k + 1 of an instance (R255). -/
def argAt (t : Task) (m k : Nat) : W64 :=
  t.args.getD k 0 + (if t.argMb.getLsbD k then BitVec.ofInt 64 (m * t.argStep.toInt) else 0)

/-- Start an instance in its context (R227, R256). -/
def instStart (slot tbl i m : Nat) (t : Task) (j : Job) (c : Nat) (s : State) : State :=
  let regs := (List.range 8).foldl (fun a k => tset 0 a (k + 1)
    (if t.idleArg && k == 7 then dw (idleArgOf s j t.die) else argAt t m k)) []
  let s1 := takeWaits t.die slot m t.waits s
  let s2 := setCcc s1 t.die c slot { task := some (tbl, i, m, t.tag), pc := t.entry, s := regs, stall := none, faulted := false }
  if tbl = 2 then setJobAt s2 (1 - slot) (some { j with fillInsts := tset .waiting j.fillInsts i .running })
  else match j.step with
    | none => s2
    | some st => setJobAt s2 slot (some { j with
        progress := rtNow s
        step := some { st with
          insts := tset .waiting st.insts (instKey tbl i m) .running
          dispatched := tset 0 st.dispatched (instKey tbl i m) (rtNow s) } })

/-- INSTANCE_DISPATCH (R256): `slot` is that of the context. A stash that is too full switches or aborts the step
instead (R311). -/
def execInstanceDispatch (slot tbl i m : Nat) (s : State) : Res :=
  match instJob s slot tbl, ctxDesc s slot tbl i with
  | some j, some t =>
    if !instReady s slot tbl i m || instBefore s slot tbl i m t j then .next s
    else
      let full := tbl != 2 && (match j.step with
        | some st => stashChecked j st t m && decide (stashRoom s t.die slot < stashNeed s t.die slot m)
        | none => false)
      if full then
        .next (deepSwitch slot (logJob 0x2004 j (resDie t.die) [dw m] (setJobAt s slot (some { j with
          step := j.step.map fun st => { st with stashFull := st.stashFull ++ [(t.die, m)] } }))))
      else match physOf j t.die t.lcluster with
        | none => .next s
        | some c => .next (heldCheck slot (instStart slot tbl i m t j c s))
  | _, _ => .next s

/-! ### The end of an instance (R197, R232, R258, R312) -/

/-- DSC_DONE of a slot advances. -/
def countDone (d slot : Nat) (s : State) : State :=
  s.setDsc (tmod {} s.dsc d fun x =>
    if slot = 0 then { x with doneA := inc32 x.doneA 1 } else { x with doneB := inc32 x.doneB 1 })

/-- The phases of the tasks that posted a loss in the step. -/
def lossPhases (j : Job) (st : Step) : List Nat :=
  st.losses.filterMap fun p => (j.main.bind fun g => (tableOf g p.task.1)[p.task.2]?).map (·.phase)

/-- The detector compares once, when the last micro-batch of the step has posted (R204 to R206). DEDUCED, log entry 91: a
micro-batch has posted when it has posted a value and its instances of every phase that posts are done. A step loss that is
not finite though every post is counts as non-finite where the last value was posted. -/
def lossCompare (slot : Nat) (s : State) : State :=
  match jobAt s slot with
  | none => s
  | some j => match j.step with
    | none => s
    | some st =>
      let ph := lossPhases j st
      if st.lossSeen || !((List.range j.adm.microBatches).all fun m => st.losses.any fun q => q.m == m)
          || !allDone st (stepInsts j st fun t => ph.contains t.phase) then s
      else
        let sp := spikes j st.loss
        let s1 := setJobAt s slot (some { j with step := some { st with
          lossSeen := true, spike := st.spike || sp, localFlag := st.localFlag || (sp && j.adm.lossSkip) } })
        let s2 := if sp then logJob 0x1004 j 0 [j.stepNo + 1, dw st.loss.toNat, dw j.ema.toNat] s1 else s1
        match j.adm.lossTid, st.losses.getLast? with
        | some tid, some p =>
          if isNonFinite st.loss && st.losses.all (fun q => !isNonFinite q.value) then
            watCount p.die p.cluster slot tid { nf := 1 } 0 s2
          else s2
        | _, _ => s2

/-- What follows a done main instance: stash pages of a completed backward micro-batch are released, and the watchers
are gathered after the last backward instance. -/
def afterDone (slot : Nat) (t : Task) (m : Nat) (s00 : State) : State :=
  let s := lossCompare slot s00
  match jobAt s slot with
  | none => s
  | some j => match j.step with
    | none => s
    | some st =>
      let s0 := setJobAt s slot (some { j with progress := rtNow s })
      let bwd := stepInsts j st fun u => u.phase == 2
      let here := (stepInsts j st fun u => u.phase == 2 && u.die == t.die).filter fun x => x.2.2 == m
      let s1 := if t.phase = 2 && allDone st here then stashDrop t.die (fun sl k => sl == slot && k == m) s0 else s0
      if t.phase = 2 && allDone st bwd && st.gathered.isNone then
        match jobAt s1 slot with
        | some j1 => match j1.step with
          | some st1 => setJobAt s1 slot (some { j1 with step := some { st1 with gathered := some (gatherWat s1 j1) } })
          | none => s1
        | none => s1
      else s1

/-- CLUSTER_TASK_DONE (R232, R233): END's wait is over and the instance is reported done, or a fault is reported. -/
def execClusterTaskDone (d c slot : Nat) (s : State) : Res :=
  let x := ccc s d c slot
  match x.task with
  | none => .next s
  | some (tbl, i, m, _) =>
    if x.faulted then .next (cccReport d c slot .faulted s)
    else if x.stall != some .ending || !agentsDone s d c slot || !clocksRun s || !blkWorks s (baseCCC d c) then .next s
    else match ctxDesc s slot tbl i with
      | none => .next (cccReport d c slot .done s)
      | some t =>
        let step : Byte := if tbl = 2 then 0 else BitVec.ofNat 8 (curStep s slot).toNat
        let owed := t.sigs.map fun r => sigOf d slot r m step (tbl == 2) (tbl, i, m)
        let s1 := countDone d slot (cccReport d c slot .done s)
        let s2 := s1.setFab { s1.fab with owed := s1.fab.owed ++ owed }
        .next (if tbl = 2 then s2 else heldCheck slot (afterDone slot t m s2))

/-- One context and its core tasks stop (R258). -/
def stopCtx (d c slot : Nat) (s : State) : State :=
  let s1 := cccStop d c slot s
  checksDrop (fun x => x.die == d && x.cluster == c && x.slot == slot) ((List.range 25).foldl (fun t k =>
    let x := core t d c k
    if x.slot = slot ∧ x.task.isSome then setCore t d c k { coreIdle x with pendTask := none } else t) s1)

/-- TASK_TIMEOUT (R258): an instance has reached its bound. -/
def execTaskTimeout (d c slot : Nat) (s : State) : Res :=
  let x := ccc s d c slot
  match x.task with
  | none => .next s
  | some (_, _, m, tag) =>
    if x.faulted || !blkOn s (baseDSC d) || !clocksRun s then .next s
    else
      let s1 := logCtx 0x3008 slot (resCluster d c) [dw tag.toNat, dw m] (stopCtx d c slot s)
      .next (cccReport d c slot .faulted (ctxAbort slot s1))

/-! ### Aborted and stalled steps (R259, R265, R335) -/

/-- STEP_ABORT_REPORTED (R259): the last running instance has ended. Commands that waited for the report take effect. -/
def execStepAbortReported (slot : Nat) (s : State) : Res :=
  match jobAt s slot with
  | none => .next s
  | some j => match j.step with
    | none => .next s
    | some st =>
      if !j.aborting || anyRunning st then .next s
      else
        let s1 := setJobAt s slot (some { j with step := none, aborting := false, quietFrom := some (rtNow s) })
        let s2 := finishDeferred slot false (stashRelease slot s1)
        .next (if j.withdraw then withdrawJob slot s2 else s2)

/-- ABORT_QUIET_END (R335): a paired job then waits for a forward Equinox. -/
def execAbortQuietEnd (slot : Nat) (s : State) : Res :=
  match jobAt s slot with
  | none => .next s
  | some j =>
    if j.quietFrom.isNone then .next s
    else .next (setJobAt s slot (some { j with
      quietFrom := none, startAt := if j.pair.isSome then some (rtNow s) else j.startAt }))

/-- A collective program of the slot is moving data: a request of it is on its way. One that has begun and waits for its
peers moves none (R265). -/
def colMoves (s : State) (slot : Nat) : Bool :=
  s.fab.txns.any fun t => match t.who with | .col _ sl _ _ => sl == slot | _ => false

/-- STEP_STALL_LIMIT (R265): nothing of the step has moved for STALL_MS. A closing round that never completes ends the
step too (R328). -/
def execStepStallLimit (slot : Nat) (s : State) : Res :=
  match jobAt s slot with
  | none => .next s
  | some j => match j.step with
    | none => .next s
    | some st =>
      if j.aborting || j.adm.stallMs == 0 || anyRunning st || colMoves s slot
          || (j.sol != .none && j.sol != .closing) then .next s
      else
        .next (abortPlain slot (logJob 0x300A j 0 [] s))

end Sys2Proof.Machine
end

