-- ==== Sys2Proof/Machine/Turns.lean ====
section
/-! DEFINITION. Steps and turns (R264 to R274, R319 to R334, R435): the beginning of a step, the Equinox and the
self-timed turn, the closing round, and Solstice. -/

namespace Sys2Proof.Machine

open Sys2Proof

/-! ### Halves and roles (R266, R267, R269, R275) -/

/-- Equinox instant E(k) of a pair (R269). -/
def equinoxAt (p : W64 × Nat × Nat) (k : Nat) : Nat :=
  p.1.toNat + k / 2 * (p.2.1 + p.2.2) + (if k % 2 = 1 then p.2.1 else 0)

/-- The schedule in force. -/
def pairOf (s : State) : Option (W64 × Nat × Nat) :=
  match s.jobA.bind (·.pair) with
  | some p => some p
  | none => s.jobB.bind (·.pair)

/-- The number of the last Equinox at or before `rt`; none before E0. -/
def lastEquinox (p : W64 × Nat × Nat) (rt : Nat) : Option Nat :=
  if rt < p.1.toNat then none
  else
    let x := rt - p.1.toNat
    let full := p.2.1 + p.2.2
    some (2 * (x / full) + if p.2.1 ≤ x % full then 1 else 0)

/-- The forward Equinox of a slot at or before `rt` (R438). -/
def fwdEquinox (p : W64 × Nat × Nat) (slot rt : Nat) : Option Nat :=
  match lastEquinox p rt with
  | none => none
  | some k => if k % 2 = slot then some (equinoxAt p k)
    else if k = 0 then none else some (equinoxAt p (k - 1))

def setHalf (d slot v : Nat) (s : State) : State :=
  s.setDsc (tmod {} s.dsc d fun x => if slot = 0 then { x with phA := v } else { x with phB := v })

/-- Change every core of die `d`. -/
def dieCores (d : Nat) (f : Nat → Nat → Core → Core) (s : State) : State :=
  let a := coreKey d 0 0
  let n := 1200
  let mid := (List.range n).filterMap fun i =>
    let x := f (i / 25) (i % 25) (tget {} s.cmp.core (a + i))
    if x = {} then none else some (a + i, x)
  s.setCmp { s.cmp with core :=
    (s.cmp.core.filter fun e => e.1 < a) ++ mid ++ s.cmp.core.filter fun e => a + n ≤ e.1 }

/-- Role of a physical core under a RATIO (R266): an unused core 24 holds 0b11. -/
def roleOf (s : State) (ratio d c k : Nat) : Nat :=
  let l := logCore s d c k
  if 24 ≤ l then 3 else if l < fwdCores ratio then 1 else 2

/-- A core under an assignment of the slots to the roles: a switch is ordered unless it holds the slot already. -/
def assign (role fwdSlot bwdSlot : Nat) (x : Core) : Core :=
  if x.retired then x
  else if role = 3 then { x with role }
  else
    let slot := if role = 1 then fwdSlot else bwdSlot
    { x with role, switchTo := if x.slot = slot then none else some slot }

/-- The RATIO of the jobs in force: those paired or started (R266). -/
def ratioOf (s : State) : Nat :=
  (([s.jobA, s.jobB].filterMap fun o => o.filter fun j => j.pair.isSome || j.started).head?.map (·.adm.ratio)).getD 1

/-- No core of die `d` runs a task or a check (R271, R484). -/
def coresIdle (s : State) (d : Nat) : Bool :=
  s.cmp.core.all fun e => e.1 / 1200 != d || (e.2.task.isNone && !e.2.checking)

/-- The die scheduler of `d` acts (R279). -/
def dscServes (s : State) (d : Nat) : Bool := domOn s (8 * d + 6) && blkOn s (baseDSC d) && clocksRun s

/-! ### The turn of a pair (R269 to R273) -/

/-- The turn to the half that Equinox `k` begins; a slot whose job has been withdrawn has none. -/
def takeTurn (d k : Nat) (s : State) : State :=
  let fwd := k % 2
  let half (slot v : Nat) : Nat := if (jobAt s slot).any (·.pair.isSome) then v else 0
  let s1 := setHalf d fwd (half fwd 1) (setHalf d (1 - fwd) (half (1 - fwd) 2) s)
  let r := ratioOf s1
  let s2 := dieCores d (fun c i x => assign (roleOf s1 r d c i) fwd (1 - fwd) x) s1
  s2.setDsc (tmod {} s2.dsc d fun x =>
    { x with eqxCount := inc32 x.eqxCount 1, late := none, lateMask := 0, missed := false })

/-- The phase of a slot that ends at Equinox `k`, at instant `t`, has not completed on die `d`; a step that began then or
later has no ending phase. -/
def slotLate (s : State) (d slot k t : Nat) : Bool :=
  k != 0 && (match jobAt s slot with
    | none => false
    | some j => match j.step with
      | none => false
      | some st => decide (st.startRt.toNat < t) && !j.aborting && j.sol == .none && !phaseDone j st d (if (k - 1) % 2 = slot then 1 else 2))

def lateSlots (s : State) (d k t : Nat) : Nat := b2n (slotLate s d 0 k t) + 2 * b2n (slotLate s d 1 k t)

/-- EQUINOX_LATE with the lateness and the outcome: 0 taken late, 1 step aborted. -/
def logLate (d mask ticks outcome : Nat) (s : State) : State :=
  logMod 0x3002 (resDie d) [dw mask, dw ticks, dw outcome]
    (s.setDsc (tmod {} s.dsc d fun x => { x with lateCount := inc32 x.lateCount 1 }))

/-- R273: the step of a late slot is aborted, its running instances going on to their end (R259); EQUINOX_LATE is the event
that ended it. -/
def lateAbort (slot : Nat) (s : State) : State :=
  let s1 := abortStep slot s
  match jobAt s1 slot with
  | some j => setJobAt s1 slot (some { j with lastEvent := 0x3002 })
  | none => s1

/-- What the scheduler of die `d` does when its next Equinox has come (R271 to R273). -/
def dieEquinox (d : Nat) (p : W64 × Nat × Nat) (s : State) : State :=
  let x := tget {} s.dsc d
  let now := (rtNow s).toNat
  match x.eqx with
  | none =>
    match lastEquinox p now with
    | none => s.setDsc (tset {} s.dsc d { x with eqx := some p.1, eqxNo := 0 })
    | some k => s.setDsc (tset {} s.dsc d { x with
        eqx := some (dw (equinoxAt p (k + 1))), eqxNo := k + 1
        late := some (dw (equinoxAt p k)), missed := true })
  | some t =>
    if now < t.toNat then s
    else
      let k := x.eqxNo
      let y := { x with eqx := some (dw (equinoxAt p (k + 1))), eqxNo := k + 1 }
      match x.late with
      | some l =>
        let s1 := s.setDsc (tset {} s.dsc d { y with missed := true })
        if x.missed then s1
        else
          let s2 := logLate d x.lateMask (t.toNat - l.toNat) 1 s1
          let s3 := if x.lateMask.testBit 0 then lateAbort 0 s2 else s2
          if x.lateMask.testBit 1 then lateAbort 1 s3 else s3
      | none =>
        let m := lateSlots s d k t.toNat
        if m = 0 && coresIdle s d then takeTurn d k (s.setDsc (tset {} s.dsc d y))
        else s.setDsc (tset {} s.dsc d { y with late := some t, lateMask := m })

/-- The armed entry of E0 is used up. -/
def dropE0 (s : State) : State :=
  setRtb s { s.rtb with armed := s.rtb.armed.filter fun a => a.2 != .equinox0 || (rtNow s).toNat < a.1.toNat }

/-- Dies of the jobs in force. -/
def pairDies (s : State) : List Nat :=
  (List.range (dies s)).filter fun d => [s.jobA, s.jobB].any fun j => j.any fun j => (jobDies j).contains d

/-- EQUINOX_TURN (R269, R271 to R273): every die scheduler of the pair, each by itself. A scheduler that has lost its
schedule takes it up again (log entry 21). -/
def execEquinoxTurn (s : State) : Res :=
  match pairOf s with
  | none => .next s
  | some p => .next (dropE0 ((pairDies s).foldl (fun t d => if dscServes t d then dieEquinox d p t else t) s))

/-- LATE_TURN (R272, R273): the turn that die `d` owes. -/
def execLateTurn (d : Nat) (s : State) : Res :=
  let x := tget {} s.dsc d
  match x.late with
  | none => .next s
  | some l =>
    let k := x.eqxNo - 1
    if !dscServes s d || !coresIdle s d then .next s
    else if x.missed then .next (takeTurn d k s)
    else if lateSlots s d k l.toNat ≠ 0 then .next s
    else .next (takeTurn d k (logLate d x.lateMask ((rtNow s).toNat - l.toNat) 0 s))

/-! ### The self-timed turn of a lone job (R39, R274 to R276) -/

/-- The arrangement of a lone job's half on die `d`: the idle set goes to the fill slot, or its arrays are gated. -/
def loneHalf (d slot half : Nat) (j : Job) (s : State) : State :=
  let idle := if j.adm.idle = 1 then 1 - slot else slot
  let (f, b) := if half = 1 then (slot, idle) else (idle, slot)
  let s1 := setHalf d slot half s
  let s2 := if j.adm.idle = 1 then setHalf d (1 - slot) 3 s1 else s1
  let gates (r : Nat) : Bool := j.adm.idle == 2 && r == 3 - half
  let s3 := dieCores d (fun c i x =>
    let r := roleOf s2 j.adm.ratio d c i
    let y := assign r f b x
    if gates r && !x.retired then
      { y with gated := true, bank0 := {}, bank1 := {}, fifo := [], cols := [], acc := [], latch := none }
    else y) s2
  if j.adm.idle = 2 then
    (List.range 4).foldl (fun t q =>
      if domOn t (8 * d + q) then setDom t (8 * d + q) { dom t (8 * d + q) with gated := true } else t) s3
  else s3

/-- A fill instance runs on die `d`. -/
def fillRuns (s : State) (d slot : Nat) : Bool :=
  (List.range 48).any fun c => (ccc s d c (1 - slot)).task.isSome

/-- The started job that runs alone. -/
def loneSlot (s : State) : Option Nat :=
  [0, 1].find? fun k => (jobAt s k).any fun j => j.started && j.pair.isNone

/-- LONE_TURN (R274): the ending phase has completed on die `d` and no core runs a task. A die turns to the backward half
once in a step, and back when the backward phase has completed or the step is aborted. With IDLE gate the supplies have been
restored by then. -/
def execLoneTurn (d : Nat) (s : State) : Res :=
  match loneSlot s with
  | none => .next s
  | some slot => match jobAt s slot with
    | none => .next s
    | some j =>
      let half := halfOf s d slot
      let due := match j.step with
        | some st => if half = 1 then !j.aborting && !st.turned.contains d && phaseDone j st d 1
            else half == 2 && (j.aborting || phaseDone j st d 2)
        | none => half == 2
      let gatedYet := (List.range 4).any fun q => (dom s (8 * d + q)).gated
      if !due || !(jobDies j).contains d || !dscServes s d || !coresIdle s d || gatedYet
          || (j.adm.idle == 1 && fillRuns s d slot) then .next s
      else
        let j1 : Job := { j with step := j.step.map fun st => { st with turned := if half = 1 then st.turned ++ [d] else st.turned } }
        let s1 := loneHalf d slot (3 - half) j (setJobAt s slot (some j1))
        .next (s1.setDsc (tmod {} s1.dsc d fun x => { x with eqxCount := inc32 x.eqxCount 1 }))

/-! ### The beginning of a step (R175, R196, R248, R264, R327, R335) -/

/-- Entries of a slot on die `d` at their initial counts; those marked PERSIST stay if `keep` holds. -/
def tokensReset (d slot : Nat) (toks : List (Nat × Bool)) (keep : Bool) (s : State) : State :=
  let base := 4096 * d + 2048 * slot
  let stays (k : Nat) : Bool := keep && (toks.getD k (0, false)).2
  let t := s.scb.filter fun e => !(base ≤ e.1 && e.1 < base + 2048) || stays (e.1 - base)
  s.setScb (((List.range toks.length).filter fun i => !stays i).foldl
    (fun u i => tset 0 u (base + i) (toks.getD i (0, false)).1) t)

/-- The TOKENS section of a die. -/
def tokensOf (g : Option Image) (d : Nat) : List (Nat × Bool) :=
  ((g.bind fun g => g.tokens.find? fun x => x.1 == d).map (·.2)).getD []

/-- A logical cluster whose cluster is no longer usable moves to the lowest usable one that is not mapped (R248); none
when there is none. -/
def remapOne (slot d l : Nat) (s : State) : Option State :=
  match jobAt s slot with
  | none => some s
  | some j => match physOf j d l with
    | none => some s
    | some c =>
      if clusterUsable s d c then some s
      else match (usableClusters s d).find? fun c' => !jobUsesCluster j d c' with
        | none => none
        | some c' =>
          some (logJob 0x300C j (resDie d) [dw c, dw c']
            (setJobAt s slot (some { j with cmap := tset none j.cmap (48 * d + l) (some c') })))

def remapAll (slot : Nat) (l : List (Nat × Nat)) (s : State) : Option State :=
  l.foldl (fun t x => t.bind (remapOne slot x.1 x.2)) (some s)

/-- The watcher tables of a slot on the job's dies are cleared (R196). -/
def watchClear (slots : List Nat) (ds : List Nat) (s : State) : State :=
  let mine (ctx : Nat) : Bool := slots.contains (ctx % 2) && ds.contains (ctx / 96)
  s.setCmp { s.cmp with
    wat := s.cmp.wat.filter fun e => !mine (e.1 / 256)
    watTot := s.cmp.watTot.filter fun e => !mine (e.1 / 3) }

/-- The signals held for a slot are added (R264). -/
def pendApply (slot : Nat) (s : State) : State :=
  (List.range 8).foldl (fun t d =>
    let x := tget {} t.dsc d
    let t1 := t.setDsc (tset {} t.dsc d { x with pend := x.pend.filter fun e => e.1 != slot })
    (x.pend.filter fun e => e.1 == slot).foldl (fun u e =>
      tokenAdd { slot, die := d, entry := e.2.1, amount := e.2.2.1, step := e.2.2.2, fill := false, src := (0, 0, 0) } u) t1) s

/-- Every tensor's scale for the step (R175). -/
def stepScales (j : Job) : Tbl F32 :=
  j.tensors.foldl (fun t x => tset 0 t x.tid (predict x (tget [] j.hist x.tid))) []

/-- The half in force by the schedule is a forward half of the slot, and its Equinox is not before the job's earliest
instant (R269, R270). A die that owes a turn delays the step on itself alone (R271). -/
def pairMayBegin (s : State) (slot : Nat) (j : Job) (p : W64 × Nat × Nat) : Bool :=
  match lastEquinox p (rtNow s).toNat with
  | none => false
  | some k => k % 2 == slot && (match j.startAt with | some t => decide (t.toNat ≤ equinoxAt p k) | none => true)

/-- The slot of the job that an argument names, within the ring's realm. -/
def jobOf (ring : Nat) (a : W64) (s : State) : Option Nat :=
  if 2 ^ 16 ≤ a.toNat then none else findJob s (ringRealm ring) (BitVec.ofNat 16 a.toNat)

/-- CHECKPOINT_RESTORE commands under way for the job of a slot. -/
def restores (s : State) (slot : Nat) : Nat :=
  ([0, 1].flatMap fun p => [0, 1, 2].map fun r => ((ring s p r).inflight.filter fun e =>
    e.started && e.result.isNone && e.desc.opcode == 0x0304 && jobOf r e.desc.a0 s == some slot).length).foldl (· + ·) 0

/-- The step may begin (R267, R274, R332, R335); not from the partial state of a restore under way (R23). -/
def mayBegin (s : State) (slot : Nat) (j : Job) : Bool :=
  j.state == .started && j.started && restores s slot == 0 && j.step.isNone && j.sol == .none && !j.aborting && j.quietFrom.isNone
    && j.budget != some 0 && (jobDies j).all (fun d => dscServes s d && scbServes s d)
    && (match j.pair with
      | some p => pairMayBegin s slot j p
      | none => j.startAt.isNone && (jobDies j).all fun d => halfOf s d slot == 1 || halfOf s d slot == 0)

/-- NF bits of reduction frames that arrived for the step before it began (R327). -/
def earlyNf (s : State) (slot realm : Nat) (num : W64) : Bool :=
  s.fab.early.any fun p => p.red && p.nf && p.realm == realm && p.pkt.slot == slot && p.pkt.step == BitVec.ofNat 8 num.toNat

/-- STEP_BEGIN (R264): the next step of a slot begins. With a cluster lost and none to take its place the job is held
(R248). -/
def execStepBegin (slot : Nat) (s : State) : Res :=
  match jobAt s slot with
  | none => .next s
  | some j =>
    if !mayBegin s slot j then .next s
    else
      let ds := jobDies j
      let ls := ds.flatMap fun d => (List.range (j.adm.need.getD d 0)).map fun l => (d, l)
      match remapAll slot ls s with
      | none => .next (setJobAt s slot (some { j with state := .held }))
      | some s1 =>
        let j1 := (jobAt s1 slot).getD j
        let num := j1.stepNo + 1
        let st : Step := { num, startRt := rtNow s, scales := stepScales j1, rxFlag := earlyNf s slot j1.realm num }
        let s2 := setJobAt s1 slot (some { j1 with
          step := some st, state := .inStep, budget := j1.budget.map (· - 1), startAt := none, sigDrop := false
          progress := rtNow s })
        let s3 := ds.foldl (fun t d => tokensReset d slot (tokensOf j1.main d) true t) s2
        let s4 := watchClear (watSlots j) ds (s3.setFab { s3.fab with colDone := s3.fab.colDone.filter fun r => r.2.1 != slot })
        let s5 := if j1.pair.isSome then s4
          else ds.foldl (fun t d => if halfOf t d slot = 0 then loneHalf d slot 1 j1 t else t) s4
        .next (pendApply slot s5)

/-! ### Collective faults and the closing round (R327, R328, R435, R437, R439) -/

/-- Count on a collective engine: 0 TX_A, 1 TX_B, 2 RX_A, 3 RX_B, 4 LATE, 5 FAULTS (R442). -/
def colCount (d k n : Nat) (s : State) : State :=
  s.setFab { s.fab with cnt := tmod {} s.fab.cnt d fun x => { x with counts := tmod 0 x.counts k (inc32 · n) } }

/-- COL_FAULT with its cause, and the abort of the step (R439). -/
def colFault (d slot op m cause : Nat) (s : State) : State :=
  match jobAt s slot with
  | none => s
  | some j =>
    let s1 := logJob 0x300D j (resDie d) [dw slot, dw op, dw m, dw cause] (colCount d 5 1 s)
    abortStep slot s1

/-- A collective engine works (R441). -/
def colServes (s : State) (d : Nat) : Bool := domOn s (8 * d + 6) && blkOn s (baseCOL d) && clocksRun s

/-- A collective engine works at what it has accepted: On, or Disabling, which completes it (R84). -/
def colWorks (s : State) (d : Nat) : Bool := domOn s (8 * d + 6) && blkWorks s (baseCOL d) && clocksRun s

/-- Rank of this module's member of a group on a die and slot. -/
def rankOf (s : State) (g : List Member) (d slot : Nat) : Option Nat :=
  g.findIdx? fun m => isOwn s m.chip && m.die == d && m.slot == slot

/-- Lowest die of a job. -/
def lowDie (j : Job) : Nat := (jobDies j).headD 0

/-- The consensus group of a job; empty for a job that closes alone (R435). -/
def consensusOf (j : Job) : List Member :=
  match colProg j (lowDie j) with
  | none => []
  | some c => match c.consensus with
    | none => []
    | some k => c.groups.getD k []

/-- Rounds of a group of `n` members: ceil(log2 n). -/
def rounds (n : Nat) : Nat := if n ≤ 1 then 0 else Nat.log2 (n - 1) + 1

/-- The later of two stamps: of equal ones the lower chip, then the lower die (R436). -/
def laterStamp (a b : W64 × Nat × Nat) : W64 × Nat × Nat :=
  if a.1.toNat < b.1.toNat then b
  else if b.1.toNat < a.1.toNat then a
  else if b.2.1 < a.2.1 ∨ (b.2.1 = a.2.1 ∧ b.2.2 < a.2.2) then b else a

/-- A BARRIER packet of a round (R425). -/
def barrierPacket (s : State) (m : Member) (op round : Nat) (step : W64) (l : W64 × Nat × Nat) : Packet :=
  { newPacket s 8 m.chip 0 with
    tag := BitVec.ofNat 32 (l.2.1 * 2 ^ 16 + l.2.2 * 256 + round), step := BitVec.ofNat 8 step.toNat
    slot := m.slot, die := m.die, aux := op, aux2 := l.1 }

/-- Send the packet of the closing round in progress; an unreachable member is a REMOTE fault (R427). -/
def closeSend (slot : Nat) (s : State) : State :=
  match jobAt s slot with
  | none => s
  | some j => match j.step with
    | none => s
    | some st =>
      let g := consensusOf j
      match rankOf s g (lowDie j) slot with
      | none => s
      | some r =>
        if rounds g.length ≤ st.closeRound then s
        else match g[(r + 2 ^ st.closeRound) % g.length]? with
          | none => s
          | some m =>
            match sendPacket (barrierPacket s m 0xFFFF st.closeRound st.num st.closeLatest) j.realm true
                (st.localFlag || st.rxFlag) s with
            | some x => x.2
            | none => colFault (lowDie j) slot 0xFFFF 0 3 s

/-- Rounds whose packet has come are done, and the next one is sent. -/
def closeAdvance : Nat → Nat → State → State
  | 0, _, s => s
  | n + 1, slot, s =>
    match jobAt s slot with
    | none => s
    | some j => match j.step with
      | none => s
      | some st =>
        if j.sol == .closing && (tget none st.closeRx st.closeRound).isSome then
          closeAdvance n slot (closeSend slot (setJobAt s slot (some { j with
            step := some { st with closeRound := st.closeRound + 1 } })))
        else s

/-- A closing-round packet joins the round of its job's step (R435). -/
def closePacket (q : RxPkt) (s : State) : State :=
  match jobAt s q.pkt.slot with
  | none => s
  | some j => match j.step with
    | none => s
    | some st =>
      let tag := q.pkt.tag.toNat
      let l := (q.pkt.aux2, tag / 65536, tag / 256 % 8)
      setJobAt s q.pkt.slot (some { j with step := some { st with
        closeRx := tset none st.closeRx (tag % 256) (some q.nf), closeLatest := laterStamp st.closeLatest l
        rxFlag := st.rxFlag || q.nf } })

/-- The closing-round packets that came before the round began. -/
def closeTake (slot : Nat) (num : W64) (s : State) : State :=
  let mine (q : RxPkt) : Bool :=
    q.pkt.kind == 8 && q.pkt.aux == 0xFFFF && q.pkt.slot == slot && q.pkt.step == BitVec.ofNat 8 num.toNat
  (s.fab.early.filter mine).foldl (fun t q => closePacket q t)
    (s.setFab { s.fab with early := s.fab.early.filter fun q => !mine q })

/-- CLOSING_ROUND_START (R277, R328): every instance of the step has completed on every die. -/
def execClosingRoundStart (slot : Nat) (s : State) : Res :=
  match jobAt s slot with
  | none => .next s
  | some j => match j.step with
    | none => .next s
    | some st =>
      if j.sol != .none || j.aborting || !colServes s (lowDie j)
          || !allDone st (stepInsts j st fun t => t.phase == 1 || t.phase == 2 || t.phase == 3) then .next s
      else
        let g := consensusOf j
        let own : W64 × Nat × Nat := (rtNow s, ownChip s, lowDie j)
        let s1 := setJobAt s slot (some { j with
          sol := .closing, step := some { st with closeOwn := rtNow s, closeLatest := laterStamp st.closeLatest own } })
        if !g.isEmpty && (rankOf s g (lowDie j) slot).isNone then .next (colFault (lowDie j) slot 0xFFFF 0 1 s1)
        else .next (closeAdvance 16 slot (closeTake slot st.num (closeSend slot s1)))

/-- Write an entry of the last-arriver log (R437). -/
def barrierLog (j : Job) (kind op size : Nat) (num own : W64) (l : W64 × Nat × Nat) (s : State) : State :=
  s.setFab { s.fab with
    barSeq := s.fab.barSeq + 1
    barLog := ({ seqNo := s.fab.barSeq + 1, job := j.id, realm := j.realm, kind, step := num, ownRt := own
                 lastRt := l.1, doneRt := rtNow s, lastChip := l.2.1, groupSize := size, op, lastDie := l.2.2 }
      :: s.fab.barLog).take 1024 }

/-! ### Solstice (R329 to R334) -/

/-- The gate of R329: no capture of the job runs and the CP runs. -/
def gateHolds (s : State) (j : Job) : Bool :=
  j.captures == 0 && !s.rel.restarting && !s.rel.held && clocksRun s && domOn s 72

/-- SOLSTICE_HELD for a Solstice that waits at its gate (R333, R341). -/
def gateHeld (slot : Nat) (s : State) : State :=
  match jobAt s slot with
  | none => s
  | some j => logJob 0x3001 j 0 [] s

/-- The summary has been gathered at the latest here (R197). -/
def gatheredStep (s : State) (j : Job) (st : Step) : Step :=
  if st.gathered.isSome then st else { st with gathered := some (gatherWat s j) }

/-- The largest magnitude counted for a tensor in the step: the gathered one and what the watchers hold now, which takes
in the counts after the gather (R176). -/
def stepAmax (s : State) (j : Job) (st : Step) (tid : Nat) : F32 :=
  let a := (tget {} (st.gathered.getD []) tid).amax
  let b := (tget {} (gatherWat s j) tid).amax
  if a.toNat < b.toNat then b else a

/-- Every PREDICT history takes the step amax (R176). -/
def histAppend (s : State) (j : Job) (st : Step) : Tbl (List F32) :=
  (j.tensors.filter fun t => t.scaleMode == 0).foldl (fun h t =>
    tset [] h t.tid ((stepAmax s j st t.tid :: tget [] h t.tid).take t.history)) j.hist

/-- The EMA after a commit (R207). -/
def emaNext (j : Job) (st : Step) : F32 :=
  if j.stepNo = 0 then st.loss
  else
    let cap := fMul j.adm.k j.ema
    let m := if fLt cap st.loss then cap else st.loss
    fAdd (fMul j.adm.alpha j.ema) (fMul (fSub fOne j.adm.alpha) m)

/-- Buddy pushes of a step that a Solstice has kept waiting: every op instance whose wait can be taken and which has not begun
(R333). -/
def pushesDue (s : State) (slot : Nat) (j : Job) : List (Nat × Nat × Nat × List TokRef) :=
  (jobDies j).flatMap fun d => match colProg j d with
    | none => []
    | some p => ((List.range p.ops.length).zip p.ops).flatMap fun k =>
      if k.2.op ≠ 7 then []
      else ((List.range (if k.2.perMb then j.adm.microBatches else 1)).filter fun m =>
        !(s.fab.colDone.contains (d, slot, k.1, m)) && waitsOk s d slot m k.2.wait.toList
          && !(s.fab.runs.any fun r => r.die == d && r.slot == slot && r.op == k.1 && r.m == m)).map fun m =>
            (d, k.1, m, k.2.wait.toList)

/-- They run once the Solstice has ended: their waits are taken now. -/
def pushesKept (slot : Nat) (s : State) : State :=
  match jobAt s slot with
  | none => s
  | some j => (pushesDue s slot j).foldl (fun t x =>
      if waitsOk t x.1 slot x.2.2.1 x.2.2.2 then
        let u := takeWaits x.1 slot x.2.2.1 x.2.2.2 t
        setJobAt u slot ((jobAt u slot).map fun k => { k with pushes := k.pushes ++ [(x.1, x.2.1, x.2.2.1)] })
      else t) s

/-- A step has ended by commit (1) or skip (2): its summary is kept, its stash released (R312), and the commands that
waited for it take effect (R127). -/
def stepEnded (slot outcome : Nat) (s0 : State) : State :=
  let s := pushesKept slot s0
  match jobAt s slot with
  | none => s
  | some j => match j.step with
    | none => s
    | some st =>
      let held := j.holdNext || j.budget == some 0
      let j' : Job := { j with
        step := none, sol := .none, summary := some (mkSummary s j st outcome)
        state := if held then .held else .started, holdNext := false, budget := if held then none else j.budget
        startAt := if j.pair.isSome then some (st.startRt + 1) else none }
      let s1 := noteStepEnd (stashRelease slot (setJobAt s slot (some j')))
      let s2 := finishDeferred slot true (s1.setFab { s1.fab with colDone := s1.fab.colDone.filter fun r => r.2.1 != slot })
      if j.withdraw then withdrawJob slot s2 else s2

/-- R330: the skip, once its gate has passed. -/
def skipStep (slot : Nat) (s : State) : State :=
  match jobAt s slot with
  | none => s
  | some j => match j.step with
    | none => s
    | some st0 =>
      let st := gatheredStep s j st0
      let j1 : Job := { j with step := some st, hist := histAppend s j st }
      let s1 := logJob 0x1005 j1 0 [st.num, dw (b2n st.localFlag), dw (b2n st.aggFlag)] (setJobAt s slot (some j1))
      stepEnded slot 2 s1

/-- CLOSING_ROUND_DONE (R328, R330, R437): the aggregate flag is known and Solstice begins. -/
def execClosingRoundDone (slot : Nat) (s : State) : Res :=
  match jobAt s slot with
  | none => .next s
  | some j => match j.step with
    | none => .next s
    | some st =>
      let g := consensusOf j
      if j.sol != .closing || st.closeRound < rounds g.length then .next s
      else
        let agg := st.localFlag || st.rxFlag
        let j1 : Job := { j with state := .solstice, sol := .gate agg, step := some { st with aggFlag := agg } }
        let s1 := barrierLog j 2 0xFFFF (max 1 g.length) st.num st.closeOwn st.closeLatest (setJobAt s slot (some j1))
        if !gateHolds s1 j1 then .next (gateHeld slot s1)
        else if agg then .next (skipStep slot s1) else .next s1

/-- SOLSTICE_GATE_PASS (R329 orders 1 and 2): the BEGIN record is being written, or the skip is carried out. -/
def execSolsticeGatePass (slot : Nat) (s : State) : Res :=
  match jobAt s slot with
  | none => .next s
  | some j => match j.step, j.sol with
    | some st, .gate skip =>
      if !gateHolds s j then .next s
      else if skip then .next (skipStep slot s)
      else
        .next (setJobAt s slot (some { j with sol := .begun (rtNow s), step := some (gatheredStep s j st) }))
    | _, _ => .next s

/-- BEGIN_RECORD_PROGRAMMED (R329 orders 2 and 3): the CP has programmed the record, and the solstice-phase instances may be
dispatched. -/
def execBeginRecordProgrammed (slot : Nat) (s : State) : Res :=
  match jobAt s slot with
  | none => .next s
  | some j => match j.step, j.sol with
    | some st, .begun at_ =>
      if !cpRuns s then .next s
      else .next (journalAdd (Journal.begin j.realm j.id st.num at_) (setJobAt s slot (some { j with sol := .run })))
    | _, _ => .next s

/-- The END record is written once the CP runs (R329 order 7, R333). -/
def endRecord (slot : Nat) (s : State) : State :=
  match jobAt s slot with
  | none => s
  | some j => match j.step with
    | none => s
    | some st =>
      if openBegin s.flash.journal j.realm j.id st.num && !s.rel.restarting && !s.rel.held && domOn s 72 then
        journalAdd (Journal.done false j.realm j.id st.num (rtNow s)) s
      else s

/-- SOLSTICE_PHASE_DONE (R329 orders 5 to 7): histories, EMA and step number are updated. -/
def execSolsticePhaseDone (slot : Nat) (s : State) : Res :=
  match jobAt s slot with
  | none => .next s
  | some j => match j.step with
    | none => .next s
    | some st =>
      if j.sol != .run || !clocksRun s || !allDone st (stepInsts j st fun t => t.phase == 4) then .next s
      else .next (endRecord slot (setJobAt s slot (some { j with
        sol := .ending, hist := histAppend s j st, ema := emaNext j st, stepNo := j.stepNo + 1 })))

/-- END_RECORD_PROGRAMMED (R329 orders 7 and 8, R332): the Solstice ends. -/
def execEndRecordProgrammed (slot : Nat) (s : State) : Res :=
  match jobAt s slot with
  | none => .next s
  | some j => match j.step with
    | none => .next s
    | some st =>
      if j.sol != .ending then .next s
      else
        let s1 := endRecord slot s
        if openBegin s1.flash.journal j.realm j.id st.num then .next s1 else .next (stepEnded slot 1 s1)

end Sys2Proof.Machine
end

