-- ==== Sys2Proof/Machine/Images.lean ====
section
/-! DEFINITION. Kafort images (R172, R173, R249 to R254, R260, R429, R430): the checks of IMAGE_LOAD and what an image
holds. -/

namespace Sys2Proof.Machine

open Sys2Proof

/-! ### Tensors (R172, R173, R251) -/

def tensorAt (b : List Byte) : Tensor :=
  let f := leAt b 3 1
  { tid := leAt b 0 1, cls := leAt b 1 1, format := leAt b 2 1
    stoch := f.testBit 0, watch := f.testBit 1, consensus := f.testBit 2, scaleMode := f / 8 % 4
    initScale := BitVec.ofNat 32 (leAt b 4 4), history := leAt b 8 1, headroom := leAt b 9 1, pairTid := leAt b 0xA 1
    seed := BitVec.ofNat 32 (leAt b 0xC 4), rank := leAt b 0x20 1, axis := leAt b 0x21 1
    dims := (List.range 4).map fun i => leAt b (0x24 + 4 * i) 4 }

/-- A positive normal binary32. -/
def posNormal (x : F32) : Bool := 0x00800000 ≤ x.toNat && x.toNat < 0x7F800000

/-- The fields of one tensor entry. -/
def tensorOk (b : List Byte) : Bool :=
  let t := tensorAt b
  let grad := t.cls == 2 || t.cls == 3
  t.cls ≤ 6 && [0, 1, 2, 0x10, 0x11, 0x12].contains t.format && t.scaleMode ≠ 3 && leAt b 3 1 < 32
    && posNormal t.initScale && 1 ≤ t.history && t.history ≤ 16 && t.headroom ≤ 3
    && (grad || t.pairTid == 0xFF) && zeroAt b 0xB 1 && zeroAt b 0x10 16
    && (!t.stoch || isB t.format) && !(t.scaleMode == 0 && !t.watch)
    && (t.cls != 5 || t.format == 0x10) && (!(t.cls == 3 || t.cls == 4) || (t.consensus && t.watch))
    && 1 ≤ t.rank && t.rank ≤ 4 && t.axis < t.rank && zeroAt b 0x22 2 && zeroAt b 0x34 12
    && (List.range 4).all fun i => if i < t.rank then t.dims.getD i 0 != 0 else t.dims.getD i 0 == 1

/-- The rules of R173 that name two records. -/
def tensorsOk (ts : List Tensor) : Bool :=
  (ts.map (·.tid)).eraseDups.length == ts.length
    && ts.all fun t => !(t.cls == 2 || t.cls == 3) || ts.any fun u => u.tid == t.pairTid && u.format == t.format

/-! ### Token references (R260) -/

def tokRef (w : Nat) : TokRef :=
  { other := w.testBit 31, die := w / 2 ^ 28 % 8, amount := w / 2 ^ 24 % 16 + 1, ring := w / 2 ^ 22 % 4, entry := w % 2048 }

def tokOk (adm : Adm) (wait : Bool) (w : Nat) : Bool :=
  let r := tokRef w
  w / 2 ^ 11 % 2 ^ 11 == 0 && r.entry + 2 ^ r.ring ≤ adm.tokens
    && (if wait then !r.other && r.die == 0
        else if r.other then adm.dieMask.getLsbD r.die else r.die == 0)

/-! ### Task descriptors (R254) -/

def taskAt (b : List Byte) : Task :=
  let n := leAt b 0x11 1
  let refs (o k : Nat) : List TokRef := (List.range k).map fun i => tokRef (leAt b (o + 4 * i) 4)
  { tag := BitVec.ofNat 16 (leAt b 0 2), phase := leAt b 2 1, perMb := (leAt b 3 1).testBit 0
    idleArg := (leAt b 3 1).testBit 1, die := leAt b 4 1, lcluster := leAt b 5 1, entry := leAt b 6 2
    bound := leAt b 8 4, argStep := BitVec.ofNat 32 (leAt b 0xC 4), argMb := BitVec.ofNat 8 (leAt b 0x10 1)
    waits := refs 0x14 (n % 16), sigs := refs 0x24 (n / 16)
    args := (List.range 8).map fun i => BitVec.ofNat 64 (leAt b (0x40 + 8 * i) 8) }

/-- R254, for a section with this TARGET. -/
def taskOk (adm : Adm) (target : Nat) (b : List Byte) : Bool :=
  let t := taskAt b
  let n := leAt b 0x11 1
  let refs (o k : Nat) (wait : Bool) : Bool := (List.range 4).all fun i =>
    if i < k then tokOk adm wait (leAt b (o + 4 * i) 4) else leAt b (o + 4 * i) 4 == 0
  1 ≤ t.phase && t.phase ≤ 5 && leAt b 3 1 < 4 && t.die < 8 && adm.dieMask.getLsbD t.die
    && (target == 0xFF || t.die == target) && t.lcluster < adm.need.getD t.die 0 && t.entry < 2048
    && t.bound ≤ (if t.phase = 5 then 1000 else 1000000) && n % 16 ≤ 4 && n / 16 ≤ 4
    && zeroAt b 0x12 2 && zeroAt b 0x34 12 && refs 0x14 (n % 16) true && refs 0x24 (n / 16) false

/-! ### Collective programs (R429, R430) -/

def memberAt (w : Nat) : Member := { chip := w % 65536, die := w / 65536 % 8, slot := w / 2 ^ 19 % 2 }

/-- The member array of group `i`. -/
def groupAt (b : List Byte) (i : Nat) : List Member :=
  let e := leAt b 12 4 + 8 * i
  (List.range (leAt b (e + 4) 4)).map fun k => memberAt (leAt b (leAt b e 4 + 4 * k) 4)

def groupOk (b : List Byte) (i : Nat) : Bool :=
  let e := leAt b 12 4 + 8 * i
  let o := leAt b e 4
  let n := leAt b (e + 4) 4
  1 ≤ n && n ≤ 4096 && o % 32 == 0 && o + 4 * n ≤ b.length
    && ((List.range n).all fun k => leAt b (o + 4 * k) 4 < 2 ^ 20)
    && (groupAt b i).eraseDups.length == n

/-- Entries of a counts table of an op in a group of `g` members (R434); a RING takes one entry per rank (log
entry 22). -/
def countLen (op g : Nat) : Nat := if op = 3 then 2 * g else g

def tokOpt (w : Nat) : Option TokRef := if w = 0 then none else some (tokRef w)

def opAt (b : List Byte) (o g : Nat) : ColOp :=
  let f := leAt b (o + 4) 1
  let c := leAt b (o + 0x2C) 4
  let op := leAt b o 1
  let p := leAt b (o + 6) 2
  { op, dtype := leAt b (o + 1) 1, group := leAt b (o + 2) 2, perMb := f.testBit 0, shard := f.testBit 1
    acc := f.testBit 2, tid := leAt b (o + 5) 1
    peer := if op = 5 ∧ 32768 ≤ p then (p : Int) - 65536 else (p : Int)
    src := leAt b (o + 8) 8, dst := leAt b (o + 0x10) 8, stage := leAt b (o + 0x18) 8
    mbStride := leAt b (o + 0x20) 8, len := leAt b (o + 0x28) 4
    counts := if c = 0 then [] else (List.range (countLen op g)).map fun i => leAt b (c + 4 * i) 4
    wait := tokOpt (leAt b (o + 0x30) 4), sig := tokOpt (leAt b (o + 0x34) 4), rsig := tokOpt (leAt b (o + 0x38) 4)
    wstart := leAt b (o + 0x3C) 4, wlen := leAt b (o + 0x40) 4 }

/-- Fields (offset, length) that an op does not use, which are 0 (R430). -/
def opUnused (op : Nat) (shard : Bool) : List (Nat × Nat) :=
  [(0x44, 28)] ++ (match op with
    | 1 => [(5, 1), (6, 2), (0x38, 4)]
    | 2 => [(6, 2), (0x18, 8), (0x38, 4)] ++ if shard then [] else [(5, 1)]
    | 3 => [(5, 1), (6, 2), (0x18, 8), (0x38, 4)]
    | 4 => [(5, 1), (0x18, 8), (0x2C, 4)]
    | 5 => [(5, 1), (0x18, 8)]
    | 6 => [(1, 1), (5, 3), (8, 40), (0x38, 4)]
    | _ => [(1, 3), (5, 3), (8, 8), (0x18, 8), (0x28, 8), (0x38, 12)])

def opOk (adm : Adm) (b : List Byte) (o ngroups : Nat) : Bool :=
  let op := leAt b o 1
  let f := leAt b (o + 4) 1
  let g := leAt b (o + 2) 2
  let n := (groupAt b g).length
  let c := leAt b (o + 0x2C) 4
  let tok (k : Nat) (wait : Bool) : Bool := leAt b (o + k) 4 == 0 || tokOk adm wait (leAt b (o + k) 4)
  1 ≤ op && op ≤ 7 && [0, 2, 0x10].contains (leAt b (o + 1) 1) && g < ngroups
    && f < 8 && (!f.testBit 1 || op == 2) && (!f.testBit 2 || op == 1)
    && (opUnused op (f.testBit 1)).all (fun x => zeroAt b (o + x.1) x.2)
    && (c == 0 || (c % 32 == 0 && c + 4 * countLen op n ≤ b.length))
    && tok 0x30 true && tok 0x34 false

def colAt (b : List Byte) : ColProg :=
  let groups := (List.range (leAt b 4 2)).map (groupAt b)
  let c := leAt b 6 2
  { groups
    ops := (List.range (leAt b 2 2)).map fun i =>
      let o := leAt b 8 4 + 96 * i
      opAt b o (groups.getD (leAt b (o + 2) 2) []).length
    consensus := if c = 0xFFFF then none else some c }

def colOk (adm : Adm) (b : List Byte) : Bool :=
  let nops := leAt b 2 2
  let ng := leAt b 4 2
  let c := leAt b 6 2
  let ops := leAt b 8 4
  let gs := leAt b 12 4
  32 ≤ b.length && leAt b 0 2 == 1 && 1 ≤ nops && nops ≤ 256 && 1 ≤ ng && ng ≤ 64 && (c == 0xFFFF || c < ng)
    && ops % 32 == 0 && gs % 32 == 0 && ops + 96 * nops ≤ b.length && gs + 8 * ng ≤ b.length && zeroAt b 16 16
    && (List.range ng).all (groupOk b) && (List.range nops).all fun i => opOk adm b (ops + 96 * i) ng

/-! ### Sections (R249, R250, R252) -/

/-- A section: type, target, base, offset, size. -/
structure Section where
  typ : Nat
  target : Nat
  base : Nat
  off : Nat
  size : Nat
  deriving DecidableEq, Repr

def sectionAt (b : List Byte) (i : Nat) : Section :=
  let o := 0x80 + 32 * i
  { typ := leAt b o 1, target := leAt b (o + 1) 1, base := leAt b (o + 2) 2, off := leAt b (o + 8) 8, size := leAt b (o + 16) 8 }

def sectionsOf (b : List Byte) : List Section := (List.range (leAt b 0x10 2)).map (sectionAt b)

def secBytes (b : List Byte) (x : Section) : List Byte := slice b x.off x.size

/-- Records of `n` bytes of a section. -/
def records (n : Nat) (b : List Byte) (x : Section) : List (List Byte) :=
  (List.range (x.size / n)).map fun i => slice b (x.off + n * i) n

/-- Dies of a section: its target, or every die of the job. -/
def secDies (adm : Adm) (x : Section) : List Nat :=
  if x.target = 0xFF then (List.range 8).filter fun d => adm.dieMask.getLsbD d else [x.target]

/-- Instructions in a store half. -/
def storeLen (typ : Nat) : Nat := if typ = 1 then 1024 else 2048

/-- Program ranges: type, die, first instruction, count. -/
def rangesOf (adm : Adm) (l : List Section) : List (Nat × Nat × Nat × Nat) :=
  (l.filter fun x => x.typ ≤ 3).flatMap fun x => (secDies adm x).map fun d => (x.typ, d, x.base, x.size / 4)

def rangesMeet (a b : Nat × Nat × Nat × Nat) : Bool :=
  a.1 == b.1 && a.2.1 == b.2.1 && a.2.2.1 < b.2.2.1 + b.2.2.2 && b.2.2.1 < a.2.2.1 + a.2.2.2

/-- No two of a list are related. -/
def pairwise {α : Type} (p : α → α → Bool) : List α → Bool
  | [] => true
  | x :: l => l.all (fun y => !p x y) && pairwise p l

def sectionOk (adm : Adm) (b : List Byte) (fill : Bool) (i : Nat) : Bool :=
  let x := sectionAt b i
  let o := 0x80 + 32 * i
  let tasks (p : Nat → Bool) : Bool := x.size % 128 == 0
    && (records 128 b x).all fun r => taskOk adm x.target r && p (taskAt r).phase
  1 ≤ x.typ && x.typ ≤ 8 && (x.target == 0xFF || (x.target < 8 && adm.dieMask.getLsbD x.target))
    && (x.typ ≤ 3 || x.base == 0) && zeroAt b (o + 4) 4 && zeroAt b (o + 24) 8
    && x.off % 64 == 0 && 0x80 + 32 * leAt b 0x10 2 ≤ x.off && x.off + x.size ≤ b.length
    && (match x.typ with
      | 1 | 2 | 3 => x.size % 4 == 0 && x.base + x.size / 4 ≤ storeLen x.typ
      | 4 => colOk adm (secBytes b x)
      | 5 => tasks fun p => if fill then p == 5 else p != 5
      | 6 => !fill && tasks fun p => p == 1 || p == 2
      | 7 => x.target != 0xFF && x.size % 4 == 0 && x.size / 4 ≤ adm.tokens
          && (records 4 b x).all fun r => leNat r < 2 ^ 17
      | _ => x.size % 64 == 0 && (records 64 b x).all tensorOk)

/-- Tensor entries of an image. -/
def tensorsOf (b : List Byte) : List Tensor :=
  ((sectionsOf b).filter fun x => x.typ == 8).flatMap fun x =>
    (records 64 b x).map fun r => { tensorAt r with target := x.target }

/-- R252: the image verifies for a job; `others` are the records of its other image, since a TID is unique within the job
(R172). -/
def imageOk (adm : Adm) (others : List Tensor) (len : Nat) (b : List Byte) : Bool :=
  let n := leAt b 0x10 2
  let l := sectionsOf b
  let kind := leAt b 6 1
  let one (typ : Nat) : Bool := pairwise (fun x y => x == y) ((l.filter fun x => x.typ == typ).flatMap (secDies adm))
  b.length == len && 0x80 ≤ b.length && leAt b 0 4 == 0x5446414B && leAt b 4 2 == 1 && (kind == 1 || kind == 2)
    && leAt b 7 1 == adm.ratio && leAt b 8 8 == len && 1 ≤ n && n ≤ 64 && zeroAt b 0x12 14 && zeroAt b 0x60 32
    && 0x80 + 32 * n ≤ b.length
    && slice b 0x20 64 == sha512 (b.take 0x20 ++ zeros 64 ++ b.drop 0x60)
    && (List.range n).all (sectionOk adm b (kind == 2))
    && pairwise (fun x y => x.size != 0 && y.size != 0 && x.off < y.off + y.size && y.off < x.off + x.size) l
    && pairwise rangesMeet (rangesOf adm l)
    && (kind == 2 || l.any fun x => x.typ == 5) && one 4 && one 7 && tensorsOk (others ++ tensorsOf b)

/-- What a verified image holds. -/
def imageOf (adm : Adm) (b : List Byte) : Image :=
  let l := sectionsOf b
  let tasks (typ : Nat) : List Task := (l.filter fun x => x.typ == typ).flatMap fun x => (records 128 b x).map taskAt
  { digest := slice b 0x20 64, tasks := tasks 5, deep := tasks 6
    tokens := (l.filter fun x => x.typ == 7).map fun x =>
      (x.target, (records 4 b x).map fun r => (leNat r % 65536, (leNat r).testBit 16))
    col := (l.filter fun x => x.typ == 4).flatMap fun x => (secDies adm x).map fun d => (d, colAt (secBytes b x))
    ranges := rangesOf adm l, tensors := tensorsOf b }

/-! ### Loading (R208, R250) -/

/-- The words of a program section. -/
def secWords (b : List Byte) (x : Section) : List W32 := (records 4 b x).map fun r => BitVec.ofNat 32 (leNat r)

/-- One program section into a slot's store halves of one die. -/
def loadDie (slot d : Nat) (x : Section) (ws : List W32) (s : State) : State :=
  let put (t : Tbl W32) (n : Nat) : Tbl W32 := (List.range 4).foldl (fun u q =>
    tsetRun 0 u ((2 * (4 * d + q) + slot) * n + x.base) ws) t
  let p := s.prg
  let fill (k : Nat) : Tbl (Option (List (Nat × Nat))) := tmap none (fun key e =>
    if key / 192 = d ∧ key % 4 = 2 * slot + k then e.map ((x.base, ws.length) :: ·) else e) p.gone
  match x.typ with
  | 1 => s.setPrg { p with tile := put p.tile 1024 }
  | 2 => s.setPrg { p with ve := put p.ve 2048, gone := fill 0 }
  | _ => s.setPrg { p with ccc := put p.ccc 2048, gone := fill 1 }

/-- The words of a program range (type, die, first instruction, count) are no longer in a slot's store halves. -/
def unloadRange (slot : Nat) (r : Nat × Nat × Nat × Nat) (s : State) : State :=
  let cut (t : Tbl W32) (n : Nat) : Tbl W32 := (List.range 4).foldl (fun u q =>
    tclear u ((2 * (4 * r.2.1 + q) + slot) * n + r.2.2.1) r.2.2.2) t
  let p := s.prg
  match r.1 with
  | 1 => s.setPrg { p with tile := cut p.tile 1024 }
  | 2 => s.setPrg { p with ve := cut p.ve 2048 }
  | _ => s.setPrg { p with ccc := cut p.ccc 2048 }

/-- Every program section of an image. -/
def loadPrograms (slot : Nat) (adm : Adm) (b : List Byte) (s : State) : State :=
  ((sectionsOf b).filter fun x => x.typ ≤ 3).foldl (fun t x =>
    (secDies adm x).foldl (fun u d => loadDie slot d x (secWords b x) u) t) s

end Sys2Proof.Machine
end

