-- ==== Sys2Proof/Machine/Jobs.lean ====
section
/-! DEFINITION. The realm's job commands (R129, R131, R245 to R253, R268 to R274, R308) and the two reads of step
records (R198, R437). -/

namespace Sys2Proof.Machine

open Sys2Proof

/-! ### Slots and bindings (R208, R289, R450) -/

/-- Tag-clear of a slot on every die (R289). -/
def slotTags (slot : Nat) (s : State) : State :=
  (List.range (dies s)).foldl (fun t d => if domOn t (8 * d + 4) then tagClear d slot t else t) s

/-- The contexts of a slot with their store halves, its watchers and its counters are cleared (R208). -/
def slotContexts (slot : Nat) (s : State) : State :=
  let m := s.cmp
  let s2 := s.setCmp { m with
    ccc := m.ccc.filter fun e => e.1 % 2 != slot
    ve := m.ve.filter fun e => e.1 % 2 != slot
    dma := m.dma.filter fun e => e.1 % 2 != slot
    wat := m.wat.filter fun e => e.1 / 256 % 2 != slot
    watTot := m.watTot.filter fun e => e.1 / 3 % 2 != slot
    core := tmap {} (fun _ (x : Core) => { x with counts := x.counts.filter fun e => e.1 % 2 != slot }) m.core }
  let p := s2.prg
  let s3 := s2.setPrg { p with
    ve := p.ve.filter fun e => e.1 / 2048 % 2 != slot
    ccc := p.ccc.filter fun e => e.1 / 2048 % 2 != slot
    gone := p.gone.filter fun e => e.1 / 2 % 2 != slot }
  s3.setDsc (tmap {} (fun _ (x : Dsc) => if slot = 0 then { x with doneA := 0 } else { x with doneB := 0 }) s3.dsc)

/-- Everything of a slot that a change of its realm clears. -/
def slotWipe (slot : Nat) (s : State) : State := slotContexts slot (slotTags slot s)

/-- Bind a slot to a realm; a change of realm wipes it first. -/
def rebind (slot : Nat) (r : Option Nat) (s : State) : State :=
  if bindOf s slot = r then s else setBind (slotWipe slot s) slot r

/-- The slot is bound to another realm that is not closed. -/
def slotTaken (s : State) (slot r : Nat) : Bool :=
  match bindOf s slot with
  | none => false
  | some 0 => false
  | some q => q != r && (realmOf s q).st != .closed

/-! ### Admission (R203, R245 to R248, R307) -/

def admOf (b : List Byte) : Adm :=
  let f := leAt b 3 1
  { ratio := leAt b 2 1, idle := f % 4, deepOk := f.testBit 2, microBatches := leAt b 4 2, tokens := leAt b 6 2
    dieMask := BitVec.ofNat 8 (leAt b 8 1), stallMs := leAt b 0xA 2, taskBound := leAt b 0xC 4
    need := (List.range 8).map fun d => leAt b (0x10 + d) 1
    persist := leAt b 0x18 8, staging := leAt b 0x20 8, spill := leAt b 0x28 8
    satLimit := leAt b 0x40 2, lossTid := if leAt b 0x42 1 = 0xFF then none else some (leAt b 0x42 1)
    lossEnable := (leAt b 0x43 1).testBit 0, lossSkip := (leAt b 0x43 1).testBit 1
    k := BitVec.ofNat 32 (leAt b 0x44 4), alpha := BitVec.ofNat 32 (leAt b 0x48 4), warmup := leAt b 0x4C 2 }

/-- Every field of the record lies within its values (R203, R246, R247). -/
def admOk (s : State) (b : List Byte) : Bool :=
  let a := admOf b
  leAt b 0 2 == 1 && 1 ≤ a.ratio && a.ratio ≤ 3 && leAt b 3 1 < 8 && a.idle ≠ 3 && !(a.idle == 1 && twoRealm s)
    && 1 ≤ a.microBatches && a.microBatches ≤ 1024 && a.tokens ≤ 2048 && a.dieMask != 0
    && a.dieMask.toNat < 2 ^ dies s && zeroAt b 9 1 && a.stallMs ≤ 60000 && 1 ≤ a.taskBound && a.taskBound ≤ 1000000
    && ((List.range 8).all fun d =>
      if a.dieMask.getLsbD d then 1 ≤ a.need.getD d 0 && a.need.getD d 0 ≤ 48 else a.need.getD d 0 == 0)
    && zeroAt b 0x30 16 && zeroAt b 0x60 32 && a.satLimit ≤ 1024 && leAt b 0x43 1 < 4
    && fLt fOne a.k && !isNonFinite a.k && fLt 0 a.alpha && fLt a.alpha fOne && zeroAt b 0x4E 18

/-- The slots that an admission takes. -/
def admSlots (a : Adm) (slot : Nat) : List Nat := if a.idle = 1 then [slot, 1 - slot] else [slot]

/-- The next job identifier of a realm (R129). -/
def nextJobId (s : State) (r : Nat) : Nat :=
  let c := tget 0 s.jobIds r
  let cand := (List.range 3).map fun i => (c + i) % 0xFFFE + 1
  (cand.find? fun id => (findJob s r (BitVec.ofNat 16 id)).isNone).getD (c % 0xFFFE + 1)

/-- The dies and clusters that an admission needs are there (R247). -/
def admFits (s : State) (a : Adm) : Bool :=
  ((List.range 8).filter fun d => a.dieMask.getLsbD d).all fun d =>
    dieState s d == 0 && a.need.getD d 0 ≤ (usableClusters s d).length

/-- Place the three regions (R307). -/
def placeJob (s : State) (a : Adm) (slot owner epoch : Nat) : Option ((Region × Region × Region) × State) :=
  let ds := (List.range 8).filter fun d => a.dieMask.getLsbD d
  let hs := [if twoRealm s then some slot else none]
  (placeRegion s ds hs owner epoch a.persist).bind fun p =>
    (placeRegion p.2 ds hs owner epoch a.staging).bind fun g =>
      (placeRegion g.2 ds hs owner epoch a.spill).map fun l => ((p.1, g.1, l.1), l.2)

/-- Newest epoch of a realm's memory key; the operator's is 0 (R302). -/
def epochOf (s : State) (r : Nat) : Nat := if r = 0 then 0 else (realmOf s r).epoch

/-- JOB_ADMIT (R131, R247). -/
def execJobAdmit (c : Cmd) (s : State) : Res :=
  let b := bufAt c 0 128
  runCmd { op := 0x0203, s := true, m := true, args := 7, sec := true } c
    (fun e t => firstOf [badRec e.desc 0 128, ifRead e (badWhen (!admOk t b) 0),
      badWhen (2 ≤ e.desc.a2.toNat || (twoRealm t && c.ring != 0 && e.desc.a2.toNat != c.ring - 1)) 2])
    noFlag noFlag
    (fun e t =>
      let a := admOf b
      let slot := e.desc.a2.toNat % 2
      let r := ringRealm c.ring
      let ss := admSlots a slot
      if ss.any (fun x => slotTaken t x r || slotHeld t x) || !admFits t a then (t, some (failWith stNoResource 0))
      else match placeJob t a slot r (epochOf t r) with
        | none => (t, some (failWith stNoResource 0))
        | some (g, t1) =>
          let id := nextJobId t r
          let cmap := ((List.range 8).filter fun d => a.dieMask.getLsbD d).foldl (fun m d =>
            (List.range (a.need.getD d 0)).foldl (fun m l => tset none m (48 * d + l) ((usableClusters t d)[l]?)) m) []
          let j : Job := { id := BitVec.ofNat 16 id, realm := r, slot, adm := a, cmap
                           persist := g.1, staging := g.2.1, spill := g.2.2 }
          let t2 := ss.foldl (fun u x => rebind x (some r) u) t1
          let t3 := (setJobAt t2 slot (some j)).setJobIds (tset 0 t2.jobIds r id)
          (t3, some (okRv (dw id) (dw ((a.spill + 0x1FFFFF) / 0x200000 * 0x200000)) 0))) s

/-! ### Job arguments (R129) -/

/-- The slot of a job argument that carries its realm on ring S. -/
def jobAny (ring : Nat) (a : W64) (s : State) : Option Nat :=
  if ring ≠ 0 then jobOf ring a s
  else if 3 * 2 ^ 16 ≤ a.toNat then none
  else findJob s (a.toNat / 2 ^ 16) (BitVec.ofNat 16 a.toNat)

/-- A job argument of ring S names a realm in Winter (R125). -/
def namesWinter (ring : Nat) (a : W64) (s : State) : Bool :=
  let r := a.toNat / 2 ^ 16
  ring == 0 && (r == 1 || r == 2) && (realmOf s r).st == .winter

/-- A property of the job that an argument names. -/
def jobIs (o : Option Nat) (s : State) (p : Job → Bool) : Bool := ((o.bind (jobAt s)).map p).getD false

/-! ### IMAGE_LOAD (R252, R253) -/

/-- Records of an image that may be loaded. -/
def imageTensors (g : Option Image) : List Tensor := (g.map (·.tensors)).getD []

/-- Load a verified image. A FILL image takes the place of the one before it whole: programs, entries and records
(R253). -/
def imageInto (slot : Nat) (j : Job) (b : List Byte) (s : State) : State × W64 :=
  let g := imageOf j.adm b
  if leAt b 6 1 = 1 then
    (loadPrograms slot j.adm b (setJobAt s slot (some { j with main := some g, tensors := g.tensors ++ imageTensors j.fill })), 0)
  else
    let old := imageTensors j.fill
    let s1 := setJobAt s slot (some { j with
      fill := some g, fillInsts := [], fillEnded := false, tensors := imageTensors j.main ++ g.tensors
      hist := j.hist.filter fun e => old.all fun t => t.tid != e.1 })
    let s2 := (jobDies j).foldl (fun t d => tokensReset d (1 - slot) (tokensOf (some g) d) false t) s1
    let s3 := ((j.fill.map (·.ranges)).getD []).foldl (fun t r => unloadRange (1 - slot) r t) s2
    (fillCheck slot (loadPrograms (1 - slot) j.adm b s3), 1)

/-- R253: the kind of image cannot be loaded now. -/
def imageWrong (j : Job) (kind : Nat) : Bool :=
  (kind == 1 && (j.started || j.main.isSome)) || (kind == 2 && (j.adm.idle != 1 || fillBusy j))

/-- R253: the programs of a FILL image overlap those of one still loaded, whose tasks have not all ended, in a store half. -/
def fillOverlaps (s : State) (slot : Nat) (j : Job) (b : List Byte) : Bool :=
  leAt b 6 1 == 2 && (jobAt s slot).any fun k => fillBusy k && (match k.fill with
    | some g => g.ranges.any fun r => (rangesOf j.adm (sectionsOf b)).any (rangesMeet r)
    | none => false)

/-- The end of an IMAGE_LOAD: the whole image has come in. What R253 asks is asked again, since another IMAGE_LOAD may have
ended meanwhile. -/
def imageEnd (d : Desc) (ring : Nat) (buf : List Byte) (s : State) : State × Result :=
  match jobOf ring d.a2 s with
  | none => (s, failWith stWrongState 0)
  | some slot => match jobAt s slot with
    | none => (s, failWith stWrongState 0)
    | some j =>
      let others := imageTensors (if leAt buf 6 1 = 1 then j.fill else j.main)
      if imageWrong j (leAt buf 6 1) then (s, failWith stWrongState 0)
      else if fillOverlaps s slot j buf then (s, failWith stNoResource 0)
      else if !imageOk j.adm others d.a1.toNat buf then (s, failWith stVerifyFail 0)
      else
        let r := imageInto slot j buf s
        (r.1, okRv r.2 0 0)

/-- IMAGE_LOAD (R131), from a ring of the realm to which the job's slot is bound (R468): with `part` the image is still coming in, and COMMAND_COMPLETE ends the command. -/
def execImageLoad (c : Cmd) (part : Bool) (s : State) : Res :=
  runCmd { op := 0x0204, s := true, m := true, args := 7, sec := true
           secOk := fun e t => (jobOf c.ring e.desc.a2 t).all fun k => bindOf t k == some (ringRealm c.ring) } c
    (fun e t => firstOf [badBuf e.desc 0 0, badWhen (jobOf c.ring e.desc.a2 t).isNone 2]) noFlag
    (fun e t => jobIs (jobOf c.ring e.desc.a2 t) t fun j => imageWrong j (leAt c.buf 6 1))
    (fun e t => if part then (t, none) else
      let r := imageEnd e.desc c.ring c.buf t
      (r.1, some r.2)) s

/-! ### JOB_START (R264, R266, R270, R274, R308) -/

/-- The job region record of a die (R308). -/
def regionRecord (s : State) (j : Job) : List Byte :=
  let part (r : Region) (d : Nat) : List Byte := match r.runs.find? fun x => x.1 == d with
    | some x => leBytes 8 x.2.1 ++ leBytes 8 (x.2.2 * 0x200000)
    | none => zeros 16
  leBytes 2 1 ++ leBytes 2 (ownChip s) ++ leBytes 1 j.adm.dieMask.toNat ++ zeros 11
    ++ (List.range 8).flatMap fun d => part j.persist d ++ part j.staging d

/-- Offset of the program window of a slot on a die (R283). -/
def windowBase (d slot : Nat) : Nat := sramBase d + 0x5E000000 + slot * 0x1000000

/-- Cores take their roles (R266). -/
def takeRoles (j : Job) (s : State) : State :=
  (jobDies j).foldl (fun t d => dieCores d (fun c i x =>
    if x.retired then x else { x with role := roleOf t j.adm.ratio d c i }) t) s

/-- A job that starts: entries at their initial counts, region records written, roles taken by a lone job. -/
def jobBegin (slot : Nat) (j : Job) (at_ : W64) (s : State) : State :=
  let j1 : Job := { j with
    state := .started, started := true
    startAt := if j.pair.isSome then some (rtNow s) else if at_ = 0 then none else some at_ }
  let s1 := setJobAt s slot (some j1)
  let s2 := (jobDies j).foldl (fun t d =>
    let u := tokensReset d slot (tokensOf j.main d) false t
    let v := if j.adm.idle = 1 then tokensReset d (1 - slot) (tokensOf j.fill d) false u else u
    sramWrite j.realm (windowBase d slot) (regionRecord t j) v) s1
  let s3 := if j.pair.isNone then takeRoles j1 s2 else s2
  if j.pair.isNone && at_ != 0 then arm at_ (.jobStart slot) s3 else s3

/-- JOB_START (R131); not while a restore of the job is under way (R23). -/
def execJobStart (c : Cmd) (s : State) : Res :=
  runCmd { op := 0x0205, s := true, m := true, args := 1, rt := true, early := false } c
    (fun e t => firstOf [badWhen (jobOf c.ring e.desc.a0 t).isNone 0,
      badWhen (jobIs (jobOf c.ring e.desc.a0 t) t (fun j => j.pair.isSome) && e.desc.rtAt != 0) 0x10]) noFlag
    (fun e t =>
      let other (j : Job) : Bool := (jobAt t (1 - j.slot)).any fun k => k.started && !(j.pair.isSome && k.pair.isSome)
      shortfall t || jobIs (jobOf c.ring e.desc.a0 t) t fun j =>
        restores t j.slot != 0 || j.main.isNone || j.state != .admitted || other j)
    (fun e t => match jobOf c.ring e.desc.a0 t with
      | none => (t, some (failWith stWrongState 0))
      | some slot => match jobAt t slot with
        | none => (t, some (failWith stWrongState 0))
        | some j =>
          if j.pair.isNone && e.desc.rtAt != 0 && armFull t then (t, some (failWith stNoResource 0))
          else (jobBegin slot j e.desc.rtAt t, some ok)) s

/-! ### JOB_PAIR (R268, R269) -/

/-- The Equinox schedule record. -/
def schedOk (b : List Byte) : Bool :=
  let inRange (n : Nat) : Bool := 12500 ≤ n && n ≤ 2 ^ 40
  leAt b 0 2 == 1 && zeroAt b 2 6 && inRange (leAt b 8 8) && inRange (leAt b 0x10 8) && zeroAt b 0x18 40

/-- JOB_PAIR (R268). An RT_AT of 0 names no instant that is 2 ms away. -/
def execJobPair (c : Cmd) (s : State) : Res :=
  let b := bufAt c 0 64
  let ratio (t : State) (k : Nat) : Option Nat := (jobAt t k).map (·.adm.ratio)
  runCmd { op := 0x0206, s := true, args := 15, rt := true } c
    (fun e t => firstOf [badWhen (e.desc.rtAt == 0) 0x10,
      badWhen (jobAny 0 e.desc.a0 t != some 0) 0, badWhen (jobAny 0 e.desc.a1 t != some 1) 1,
      badWhen (ratio t 0 != ratio t 1) 1, badRec e.desc 2 64, ifRead e (badWhen (!schedOk b) 2)])
    (fun e t => namesWinter c.ring e.desc.a0 t || namesWinter c.ring e.desc.a1 t)
    (fun _ t => [0, 1].any fun k => jobIs (some k) t fun j =>
      j.adm.idle == 1 || j.pair.isSome || j.started || j.state != .admitted)
    (fun e t =>
      if armFull t then (t, some (failWith stNoResource 0))
      else
        let p := (e.desc.rtAt, leAt b 8 8, leAt b 0x10 8)
        let mark (j : Option Job) : Option Job := j.map fun j => { j with pair := some p }
        let t1 := (t.setJobA (mark t.jobA)).setJobB (mark t.jobB)
        let t2 := (pairDies t1).foldl (fun u d => u.setDsc (tmod {} u.dsc d fun x =>
          { x with eqx := some e.desc.rtAt, eqxNo := 0, late := none, lateMask := 0, missed := false })) t1
        (arm e.desc.rtAt .equinox0 t2, some ok)) s

/-! ### STEP_CONTROL, JOB_ABORT, JOB_STATUS (R127, R131, R270, R335) -/

/-- Solstice runs: its closing round has completed (R328). -/
def inSolstice (j : Job) : Bool := j.sol != .none && j.sol != .closing

def lastStep (j : Job) : W64 := dw (j.stepNo.toNat % 2 ^ 32)

def addDeferred (slot : Nat) (d : Deferred) (s : State) : State :=
  match jobAt s slot with
  | some j => setJobAt s slot (some { j with deferred := j.deferred ++ [d] })
  | none => s

/-- STEP_CONTROL (R131). It acts on a job that has been started (log entry 10), and runs or resumes none whose restore is under way
(R23). -/
def execStepControl (c : Cmd) (s : State) : Res :=
  runCmd { op := 0x0207, s := true, m := true, args := 7, rt := true, early := false } c
    (fun e t => firstOf [badWhen (jobOf c.ring e.desc.a0 t).isNone 0,
      badWhen (e.desc.a1.toNat < 1 || 3 < e.desc.a1.toNat) 1,
      badWhen (e.desc.a1 != 1 && e.desc.a2 != 0) 2]) noFlag
    (fun e t => jobIs (jobOf c.ring e.desc.a0 t) t fun j =>
      !j.started || j.state == .aborted || (e.desc.a1 != 2 && restores t j.slot != 0))
    (fun e t => match jobOf c.ring e.desc.a0 t with
      | none => (t, some (failWith stWrongState 0))
      | some slot => match jobAt t slot with
        | none => (t, some (failWith stWrongState 0))
        | some j =>
          let action := e.desc.a1.toNat
          let n := e.desc.a2.toNat
          if e.desc.rtAt ≠ 0 then
            if armFull t then (t, some (failWith stNoResource 0))
            else
              let u := arm e.desc.rtAt (.stepControl slot action n) t
              if inSolstice j then (addDeferred slot (.ack c.port c.ring e.no) u, none)
              else (u, some (okRv (lastStep j) 0 0))
          else if inSolstice j then (addDeferred slot (.control c.port c.ring e.no action n) t, none)
          else (setJobAt t slot (some (applyControl (rtNow t) action n j)), some (okRv (lastStep j) 0 0))) s

/-- Abort the step of a job as JOB_ABORT does: its running instances stop as under R258. -/
def commandAbort (slot : Nat) (s : State) : State := stopSlot slot (abortPlain slot s)

/-- JOB_ABORT (R131): a step in progress completes the command when its abort is reported. -/
def execJobAbort (c : Cmd) (s : State) : Res :=
  runCmd { op := 0x0208, s := true, m := true, args := 1 } c
    (fun e t => badWhen (jobAny c.ring e.desc.a0 t).isNone 0) (fun e t => namesWinter c.ring e.desc.a0 t) noFlag
    (fun e t => match jobAny c.ring e.desc.a0 t with
      | none => (t, some (failWith stWrongState 0))
      | some slot => match jobAt t slot with
        | none => (t, some (failWith stWrongState 0))
        | some j =>
          let wait := addDeferred slot (.abort c.port c.ring e.no (forced e.desc)) t
          if inSolstice j then (wait, none)
          else if j.step.isSome then (commandAbort slot wait, none)
          else
            let t1 := commandAbort slot t
            let t2 := match jobAt t1 slot with
              | some k => if k.state == .started then setJobAt t1 slot (some { k with state := .held }) else t1
              | none => t1
            (if forced e.desc then withdrawJob slot t2 else t2, some (okRv (lastStep j) 0 0))) s

/-- State code of JOB_STATUS (R131). -/
def stateCode : JobSt → Nat
  | .admitted => 1 | .started => 2 | .inStep => 3 | .solstice => 4 | .held => 5 | .aborted => 6

/-- JOB_STATUS (R131, R320). -/
def execJobStatus (c : Cmd) (s : State) : Res :=
  runCmd { op := 0x0209, s := true, m := true, args := 1 } c
    (fun e t => badWhen (jobOf c.ring e.desc.a0 t).isNone 0) noFlag noFlag
    (fun e t => match (jobOf c.ring e.desc.a0 t).bind (jobAt t) with
      | none => (t, some (failWith stWrongState 0))
      | some j => (t, some (okRv (dw (j.stepNo.toNat % 2 ^ 32 + stateCode j.state * 2 ^ 32)) (dw j.lastEvent.toNat) 0))) s

/-! ### WATCH_READ and BARRIER_LOG_READ (R197, R198, R437) -/

/-- The entry of TID `t` in a step summary. -/
def summaryEntry (j : Job) (x : Summary) (tid : Nat) : List Byte :=
  match tensorOf j tid with
  | none => [0xFF] ++ zeros 31
  | some t =>
    let e := tget {} x.entries tid
    bytesOf [tid, t.cls] ++ leBytes 2 (min 65535 e.retries) ++ leBytes 8 e.zeros ++ leBytes 4 e.sats
      ++ leBytes 4 e.nonfin ++ leBytes 4 e.amax.toNat ++ leBytes 4 (tget t.initScale x.scales tid).toNat
      ++ leBytes 4 (predict t (tget [] j.hist tid)).toNat

/-- The step summary (R198). -/
def summaryBytes (j : Job) (x : Summary) : List Byte :=
  leBytes 4 1 ++ leBytes 2 x.job.toNat
    ++ bytesOf [x.outcome, b2n x.localFlag + 2 * b2n x.aggFlag + 4 * b2n x.spike + 8 * b2n x.recompute]
    ++ leBytes 8 x.step.toNat ++ leBytes 4 x.loss.toNat ++ leBytes 4 x.ema.toNat ++ zeros 40
    ++ (List.range 256).flatMap (summaryEntry j x)

/-- WATCH_READ (R136, R197): WRONG_STATE before any step of the job has ended. -/
def execWatchRead (c : Cmd) (s : State) : Res :=
  runCmd { op := 0x0702, m := true, args := 7 } c
    (fun e t => firstOf [badWhen (jobOf c.ring e.desc.a0 t).isNone 0, badBuf e.desc 1 8256]) noFlag
    (fun e t => jobIs (jobOf c.ring e.desc.a0 t) t fun j => j.summary.isNone)
    (fun e t => match (jobOf c.ring e.desc.a0 t).bind (jobAt t) with
      | none => (t, some (failWith stWrongState 0))
      | some j => match j.summary with
        | none => (t, some (failWith stWrongState 0))
        | some x => (intoBuf c 1 (summaryBytes j x) t, some (okRv x.step 0 0))) s

/-- An entry of the last-arriver log. -/
def barBytes (e : BarEntry) : List Byte :=
  leBytes 4 e.seqNo ++ leBytes 2 e.job.toNat ++ bytesOf [e.realm, e.kind] ++ leBytes 8 e.step.toNat
    ++ leBytes 8 e.ownRt.toNat ++ leBytes 8 e.lastRt.toNat ++ leBytes 8 e.doneRt.toNat ++ leBytes 2 e.lastChip
    ++ leBytes 2 e.groupSize ++ leBytes 2 e.op ++ bytesOf [e.lastDie] ++ zeros 17

/-- Entries of the log from ring index `a` up to the newest. -/
def barFrom (s : State) (a : Nat) : List BarEntry :=
  let old := s.fab.barLog.reverse
  match old.findIdx? fun e => (e.seqNo - 1) % 1024 == a with
  | some i => old.drop i
  | none => []

/-- BARRIER_LOG_READ (R136, R437). -/
def execBarrierLogRead (c : Cmd) (s : State) : Res :=
  runCmd { op := 0x0703, s := true, t := true, args := 7 } c
    (fun e _ => firstOf [badWhen (1024 ≤ e.desc.a0.toNat) 0, badBuf e.desc 1 0]) noFlag noFlag
    (fun e t =>
      let l := (barFrom t e.desc.a0.toNat).take (e.desc.a2.toNat / 64)
      (intoBuf c 1 (l.flatMap barBytes) t, some (okRv (dw ((e.desc.a0.toNat + l.length) % 1024)) 0 0))) s

end Sys2Proof.Machine
end

