-- ==== Sys2Proof/Machine/HostMem.lean ====
section
/-! DEFINITION. The memory and checkpoint commands (R109, R132, R337 to R347, R454 to R457, R465): mappings, copies
clear and sealed, weight digests, buddy regions, and the checkpoint format. -/

namespace Sys2Proof.Machine

open Sys2Proof

/-! ### Sealed records (R447, R455) -/

def mib : Nat := 0x100000

/-- A key of a realm derived from its checkpoint secret (R447). -/
def realmKey (x : Realm) (info : String) : List Byte := hkdf x.realmId x.ckpt (ascii info) 32

/-- One record: header, ciphertext, tag, zeros (R455). -/
def sealRecord (key ctx : List Byte) (index : Nat) (plain iv : List Byte) : List Byte :=
  let head := leBytes 4 plain.length ++ leBytes 4 index ++ iv ++ zeros 12
  let ct := gcmXor key iv plain
  let r := head ++ ct ++ gcmTag key iv (ctx ++ head) ct
  fit ((r.length + 63) / 64 * 64) r

/-- Open the record at the front of `b`: its plaintext, or none. -/
def openRecord (key ctx : List Byte) (index len : Nat) (b : List Byte) : Option (List Byte) :=
  let head := slice b 0 32
  let iv := slice b 8 12
  let ct := slice b 32 len
  if leAt b 0 4 = len ∧ leAt b 4 4 = index ∧ zeroAt b 0x14 12 ∧ ct.length = len
      ∧ slice b (32 + len) 16 = gcmTag key iv (ctx ++ head) ct then
    some (gcmXor key iv ct)
  else none

/-- Bytes of the record of a chunk. -/
def recordLen (len : Nat) : Nat := (len + 48 + 63) / 64 * 64

/-- Chunks of 1 MiB: index and length. -/
def chunksOf (len : Nat) : List (Nat × Nat) :=
  (List.range ((len + mib - 1) / mib)).map fun i => (i, min mib (len - mib * i))

/-! ### What a host may reach (R109, R454) -/

/-- The VISIBLE bit that covers an offset of a realm's ring; none for a page of no region. -/
def visBit (s : State) (r off : Nat) : Option Nat :=
  match placeOf s off with
  | .lpx _ =>
    let pg := off / 0x200000
    [s.jobA, s.jobB].findSome? fun j => j.bind fun j =>
      if j.realm ≠ r then none
      else if inRegion j.staging pg then some 0
      else if inRegion j.spill pg then some 1
      else if inRegion j.persist pg then some 2
      else none
  | .sliver _ _ _ _ => some 3
  | .shared _ _ => some 3
  | _ => none

/-- R454 for one offset. -/
def visible (s : State) (r off : Nat) : Bool :=
  r == 0 || (match visBit s r off with | some k => (realmOf s r).visible.getLsbD k | none => false)

/-! ### REGION_MAP (R109, R132) -/

/-- The outcome of the checks on one 2 MiB page of the device range. -/
def mapCheck (s : State) (r off : Nat) : Option Result :=
  let sram (d : Nat) : Option Result :=
    if !domOn s (8 * d + 4) then some (failWith stBadArg 0)
    else if visible s r off then none else some (failWith stDenied 3)
  match placeOf s off with
  | .lpx d =>
    if !backed s d (off % 0x4000000000) || !domOn s (8 * d + 7) then some (failWith stBadArg 0)
    else match pageAttr s (off / 0x200000) with
      | none => some (failWith stDenied 3)
      | some (o, _) => if o = r ∧ visible s r off then none else some (failWith stDenied 3)
  | .sliver d _ _ _ => sram d
  | .shared d _ => sram d
  | _ => some (failWith stBadArg 0)

/-- The fields of an aperture address (R475): die, cluster (63 for the die), core (31 for the cluster). -/
def apDie (a : W64) : Nat := fld a 56 3
def apCluster (a : W64) : Nat := fld a 48 6
def apCore (a : W64) : Nat := fld a 40 5

/-- An aperture address of a part of this module. -/
def apertureOk (s : State) (a : W64) : Bool :=
  bit a 63 && a.toNat % 2 ^ 40 == 0 && fld a 45 3 == 0 && fld a 54 2 == 0 && fld a 59 4 == 0 && apDie a < dies s
    && (apCluster a < 48 || apCluster a == 63) && (apCore a < 25 || apCore a == 31)

/-- DATA_READ is granted, and the command takes an aperture address (R475). -/
def aperture (ring : Nat) (d : Desc) (s : State) : Bool :=
  ring == 0 && !bit d.a3 2 && bit d.a0 63 && s.sec.dbgOpen && bit s.sec.grant 5

/-- REGION_MAP (R132); with DATA_READ granted, of the debug aperture (R475). A function's BAR2 is one window: a mapping or an unmap
takes its pages over from whatever ring mapped them before (DESIGN CHOICE, log entry 87). -/
def execRegionMap (c : Cmd) (s : State) : Res :=
  let pages (d : Desc) : List Nat := List.range (d.a1.toNat / 0x200000)
  let unmap (d : Desc) : Bool := bit d.a3 2
  let outs (d : Desc) (t : State) : List (Option Result) :=
    if unmap d then []
    else if aperture c.ring d t then [badWhen (!apertureOk t d.a0) 0]
    else (pages d).map fun i => mapCheck t (ringRealm c.ring) (d.a0.toNat + i * 0x200000)
  runCmd { op := 0x0301, s := true, m := true, args := 15, sec := true
           deny := fun e t => if (outs e.desc t).contains (some (failWith stDenied 3)) then some 3 else none } c
    (fun e t =>
      let d := e.desc
      let ap := aperture c.ring d t
      firstOf [badWhen (!unmap d && d.a0.toNat % 0x200000 != 0) 0, firstOf (outs d t),
        badWhen (d.a1.toNat % 0x200000 != 0 || d.a1 == 0
          || (ap && (if apCluster d.a0 = 63 then 0x400000 else 0x200000) < d.a1.toNat)) 1,
        badWhen (d.a2.toNat % 0x200000 != 0 || 0x1000000000 < d.a2.toNat + d.a1.toNat) 2,
        badWhen (8 ≤ d.a3.toNat || (ap && bit d.a3 1) || (unmap d && fld d.a3 0 2 != 0) || (!unmap d && fld d.a3 0 2 == 0)) 3])
    noFlag noFlag
    (fun e t =>
      let d := e.desc
      let f := fn t c.port
      let m := (pages d).foldl (fun m i => tset none m (d.a2.toNat / 0x200000 + i)
        (if unmap d then none else some ({ target := d.a0.toNat + i * 0x200000, read := bit d.a3 0, write := bit d.a3 1
                                           realm := ringRealm c.ring } : BarMap))) f.maps
      (setFn t c.port { f with maps := m }, some ok)) s

/-! ### Weight digests (R465) -/

/-- Chunks of a job's PERSIST region: number, offset, length, die by die. -/
def persistChunks (j : Job) : List (Nat × Nat × Nat) :=
  let flat := j.persist.runs.flatMap fun r => (chunksOf (r.2.2 * 0x200000)).map fun x => (r.2.1 + mib * x.1, x.2)
  (List.range flat.length).zip flat

def unmeasuredDigest : List Byte := List.replicate 64 0xFF

/-- A load of the job of a slot has written [off, off + len): chunks written whole take their digest. -/
def loadNote (slot off len : Nat) (whole : Bool) (s : State) : State :=
  match jobAt s slot with
  | none => s
  | some j =>
    let hit := (persistChunks j).filter fun x => x.2.1 < off + len && off < x.2.1 + x.2.2
    if hit.isEmpty then s
    else
      let ch := hit.foldl (fun t x =>
        tset [] t x.1 (if whole && off ≤ x.2.1 && x.2.1 + x.2.2 ≤ off + len then
          sha512 (lpxBytes s x.2.1 x.2.2) else unmeasuredDigest)) j.chunks
      setJobAt s slot (some { j with
        chunks := ch, unmeasured := (ch.filter fun e => e.2 == unmeasuredDigest).length
        weightSrc := if j.weightSrc = 0 then 1 else if j.weightSrc = 2 then 3 else j.weightSrc })

def loadNotes (off len : Nat) (whole : Bool) (s : State) : State :=
  loadNote 1 off len whole (loadNote 0 off len whole s)

/-! ### DMA_COPY (R114, R132, R457) -/

/-- BAD_ARG and DENIED for the device side of a copy. -/
def copySide (s : State) (r k : Nat) (write sld : Bool) (off len : Nat) : Option Result :=
  let points := checkPoints off len
  if len = 0 then none
  else if (checkRange r .host write off len s).any fun x => x == 3 || x == 4 then some (failWith stDenied 3)
  else match placeOf s off with
    | .window o =>
      if r = 0 && !write && aliasOk s o len then none else some (failWith stBadArg k)
    | _ =>
      if (checkRange r .host write off len s) == some 2 then some (failWith stBadArg k)
      else if !sld && points.any (fun p => !visible s r p) then some (failWith stDenied 3)
      else none

/-- Device sides of a copy: argument, whether it is written. -/
def copySides (d : Desc) : List (Nat × Bool) :=
  match d.a3.toNat with | 0 => [(1, true)] | 1 => [(0, false)] | 2 => [(0, false), (1, true)] | _ => []

/-- The persist fence refuses the destination of a copy (R322). -/
def copyFenced (s : State) (r : Nat) (d : Desc) : Bool :=
  (copySides d).any fun x => x.2 && checkRange r .host true (argOf d x.1).toNat d.a2.toNat s == some 5

/-- Read the device side for a host; poison ends the copy. -/
def hostSideRead (r off len : Nat) (s : State) : List Byte × Bool × State :=
  match placeOf s off with
  | .window o => let x := aliasRead o len s; (x.1, false, x.2)
  | _ => memRead r off len s

/-- Context of a sealed transfer record (R457). -/
def xferContext (x : Realm) (seqNo : W64) (off dir : Nat) : List Byte :=
  x.realmId ++ leBytes 8 seqNo.toNat ++ leBytes 8 off ++ bytesOf [dir] ++ zeros 7

/-- The end of a copy: bytes moved, and a failure. -/
structure Copied where
  st : State
  moved : Nat
  fail : Option Result := none

/-- Move the clear bytes [lo, hi) of a copy; `buf` holds the host's bytes from `lo` on. -/
def copyClear (c : Cmd) (r lo hi : Nat) (buf : List Byte) (s : State) : Copied :=
  let d := c.desc
  let len := hi - lo
  match d.a3.toNat with
  | 0 => { st := memWrite r (d.a1.toNat + lo) (fit len buf) s, moved := hi }
  | 1 =>
    let x := hostSideRead r (d.a0.toNat + lo) len s
    if x.2.1 then { st := x.2.2, moved := lo, fail := some (failWith stAborted 0) }
    else { st := emit (.hostWrite c.port (d.a1 + dw lo) x.1) x.2.2, moved := hi }
  | _ =>
    let x := hostSideRead r (d.a0.toNat + lo) len s
    if x.2.1 then { st := x.2.2, moved := lo, fail := some (failWith stAborted 0) }
    else { st := memWrite r (d.a1.toNat + lo) x.1 x.2.2, moved := hi }

/-- SEAL_FAIL (R457). -/
def sealFail (r : Nat) (seqNo : W64) (index : Nat) (s : State) : State :=
  logFold 0 0x6008 (BitVec.ofNat 8 r) 0xFFFF 0 [seqNo, dw index] s

/-- Move one sealed chunk. -/
def copyChunk (c : Cmd) (r : Nat) (seqNo : W64) (buf : List Byte) (base : Nat) (a : Copied) (x : Nat × Nat) : Copied :=
  if a.fail.isSome then a
  else
    let d := c.desc
    let realm := realmOf a.st r
    let key := realmKey realm "XNX880 XFER"
    let at_ := mib * x.1
    let rec_ := (mib + 64) * x.1
    if d.a3.toNat = 0 then
      let off := d.a1.toNat + at_
      match openRecord key (xferContext realm seqNo off 0) x.1 x.2 (buf.drop (rec_ - base)) with
      | none => { a with st := sealFail r seqNo x.1 a.st, fail := some (failWith stVerifyFail 0) }
      | some b => { a with st := memWrite r off b a.st, moved := at_ + x.2 }
    else
      let off := d.a0.toNat + at_
      let m := memRead r off x.2 a.st
      if m.2.1 then { a with st := m.2.2, fail := some (failWith stAborted 0) }
      else
        let (n, t) := fresh m.2.2
        let out := sealRecord key (xferContext realm seqNo off 1) x.1 m.1 (drawBytes n 12)
        { a with st := emit (.hostWrite c.port (d.a1 + dw rec_) out) t, moved := at_ + x.2 }

/-- Move [lo, hi) of a copy, sealed or clear. -/
def copyMove (c : Cmd) (r : Nat) (seqNo : W64) (lo hi : Nat) (buf : List Byte) (s : State) : Copied :=
  if sealed c.desc && c.desc.a3.toNat ≠ 2 then
    (((chunksOf c.desc.a2.toNat).filter fun x => lo / mib ≤ x.1 && mib * x.1 + x.2 ≤ hi)).foldl
      (copyChunk c r seqNo buf ((mib + 64) * (lo / mib))) { st := s, moved := lo }
  else if lo = hi then { st := s, moved := lo }
  else copyClear c r lo hi buf s

/-- What a copy has loaded is digested when it ends (R465). -/
def copyLoaded (d : Desc) (moved : Nat) (s : State) : State :=
  if d.a3.toNat ≠ 1 ∧ moved ≠ 0 then loadNotes d.a1.toNat moved true s else s

/-- The rest of a copy from `lo` on, with its result. -/
def copyEnd (c : Cmd) (r : Nat) (seqNo : W64) (lo : Nat) (buf : List Byte) (s : State) : State × Result :=
  let x := copyMove c r seqNo lo c.desc.a2.toNat buf s
  (copyLoaded c.desc x.moved x.st, x.fail.getD (okRv (dw x.moved) 0 0))

/-- DMA_COPY (R132): with `stop` its first bytes move now, up to a 4 KiB boundary or a whole sealed chunk, and
COMMAND_COMPLETE moves the rest. -/
def execDmaCopy (c : Cmd) (stop : Option Nat) (errs : List (Nat × Nat)) (s : State) : Res :=
  let r := ringRealm c.ring
  let sides (d : Desc) (t : State) : List (Option Result) :=
    (copySides d).map fun x => copySide t r x.1 x.2 (sealed d && d.a3 != 2) (argOf d x.1).toNat d.a2.toNat
  runCmd { op := 0x0302, s := true, m := true, args := 15
           deny := fun e t => if (sides e.desc t).contains (some (failWith stDenied 3)) then some 3 else none } c
    (fun e t =>
      let d := e.desc
      firstOf [badWhen (sealed d && r == 0) 0x21, firstOf (sides d t), badWhen (d.a2.toNat % 64 != 0) 2, badWhen (3 ≤ d.a3.toNat) 3]) noFlag
    (fun e t => copyFenced t r e.desc)
    (fun e t0 =>
      let t1 := applyErrs errs t0
      let x := realmOf t1 r
      let seqNo := e.xfer.getD x.xferSeq
      let t := if sealed e.desc && e.desc.a3 != 2 && e.xfer.isNone then setRealm t1 r { x with xferSeq := seqNo + 1 } else t1
      match stop with
      | none =>
        let o := copyEnd c r seqNo 0 c.buf t
        (o.1, some o.2)
      | some n =>
        let unit := if sealed e.desc then mib else 4096
        let o := copyMove c r seqNo 0 (min (n / unit * unit) e.desc.a2.toNat) c.buf t
        match o.fail with
        | some f => (copyLoaded e.desc o.moved o.st, some f)
        | none => (putEntry c.port c.ring e { e with moved := o.moved, xfer := some seqNo } o.st, none)) s

/-! ### Buddy regions and SCRUB_STATUS (R132, R304, R342) -/

/-- BUDDY_RESERVE (R342). -/
def execBuddyReserve (c : Cmd) (s : State) : Res :=
  runCmd { op := 0x0305, s := true, args := 3, sec := true } c
    (fun e _ => badWhen (2 ^ 16 ≤ e.desc.a0.toNat) 0) noFlag
    (fun e t => (tget none t.buddies e.desc.a0.toNat).isSome != (e.desc.a1 == 0))
    (fun e t =>
      let chip := e.desc.a0.toNat
      if e.desc.a1 = 0 then
        match tget none t.buddies chip with
        | none => (t, some (failWith stWrongState 0))
        | some b => (freeRegion b.region (t.setBuddies (tset none t.buddies chip none)), some ok)
      else
        let bytes := (e.desc.a1.toNat + 0x3FFFFF) / 0x400000 * 0x400000
        let halfs := if twoRealm t then [some 0, some 1] else [none]
        match placeRegion t (List.range (dies t)) halfs 0 0 bytes with
        | none => (t, some (failWith stNoResource 0))
        | some (g, u) =>
          let base := (g.runs.head?.map (·.2.1)).getD 0
          (u.setBuddies (tset none u.buddies chip (some { partner := chip, region := g, bytes := bytes / 2 })),
            some (okRv (dw base) 0 0))) s

/-- Pages of a realm still under an older epoch. -/
def oldPages (s : State) (r : Nat) : Nat :=
  if r = 0 then 0
  else (s.mem.page.filter fun e => e.2.any fun a => a.1 == r && a.2 != (realmOf s r).epoch).length

/-- SCRUB_STATUS (R132): Winter counts a sixth for each of its steps. -/
def execScrubStatus (c : Cmd) (s : State) : Res :=
  runCmd { op := 0x0306, o := true, m := true, t := true } c noBad noFlag noFlag
    (fun _ t =>
      let w := [t.sec.r1, t.sec.r2].findSome? (·.winterStep)
      (t, some (okRv (dw (match w with | some k => (k - 1) * 100 / 6 | none => 0xFF))
        (dw (oldPages t (ringRealm c.ring))) 0))) s

/-! ### The checkpoint (R337 to R341) -/

/-- PERSIST shares in die order: offset and bytes. -/
def shares (j : Job) : List (Nat × Nat) :=
  (jobDies j).map fun d => match j.persist.runs.find? fun r => r.1 == d with
    | some r => (r.2.1, r.2.2 * 0x200000)
    | none => (0, 0)

/-- The numerics segment (R338). -/
def numericsSeg (j : Job) : List Byte :=
  leBytes 4 j.ema.toNat ++ zeros 4092
    ++ ((List.range 256).flatMap fun t =>
      let h := (tget [] j.hist t).reverse
      bytesOf [h.length] ++ zeros 3 ++ fit 64 (h.flatMap fun x => leBytes 4 x.toNat) ++ zeros 60)
    ++ zeros (65536 - 4096 - 256 * 128)

/-- Bytes of the body before sealing. -/
def bodyLen (j : Job) : Nat := 65536 + ((shares j).foldl (fun n x => n + x.2) 0)

/-- The body, and whether a read of it was poisoned. -/
def ckptBody (j : Job) (s : State) : List Byte × Bool × State :=
  (shares j).foldl (fun a x =>
    if x.2 = 0 then a
    else
      let m := memRead j.realm x.1 x.2 a.2.2
      (a.1 ++ m.1, a.2.1 || m.2.1, m.2.2)) (numericsSeg j, false, s)

def splitChunks (b : List Byte) : List (List Byte) := (chunksOf b.length).map fun x => slice b (mib * x.1) x.2

/-- ROOT (R339). -/
def ckptRootOf (head : List Byte) (chunks : List (List Byte)) : List Byte :=
  sha512 (head.take 0x40 ++ chunks.flatMap sha512)

/-- The header (R337). -/
def ckptHead (s : State) (j : Job) (body : List Byte) : List Byte :=
  let h := leBytes 4 0x54504B43 ++ leBytes 2 1 ++ bytesOf [b2n (j.realm != 0), j.adm.dieMask.toNat]
    ++ leBytes 8 j.stepNo.toNat ++ leBytes 2 (ownChip s) ++ leBytes 2 j.id.toNat ++ bytesOf [j.realm] ++ zeros 11
    ++ leBytes 8 body.length ++ zeros 24
  fit 256 (h ++ ckptRootOf h (splitChunks body) ++ fit 64 ((shares j).flatMap fun x => leBytes 8 x.2))

/-- The body as it travels: sealed records for a tenant realm (R340, R456). -/
def ckptSealed (j : Job) (head body : List Byte) (s : State) : List Byte × State :=
  if j.realm = 0 then (body, s)
  else
    let key := realmKey (realmOf s j.realm) "XNX880 CKPT"
    let cs := splitChunks body
    ((List.range cs.length).zip cs).foldl (fun a x =>
      let (n, t) := fresh a.2
      (a.1 ++ sealRecord key (head.take 0x40) x.1 x.2 (drawBytes n 12), t)) ([], s)

/-- Bytes of the whole checkpoint. -/
def ckptLen (j : Job) : Nat :=
  256 + if j.realm = 0 then bodyLen j else ((chunksOf (bodyLen j)).foldl (fun n x => n + recordLen x.2) 0)

/-! ### CHECKPOINT_PUSH (R132, R333, R341) -/

/-- Write the checkpoint of a job into the host buffer of its command. -/
def pushEnd (p : Nat) (d : Desc) (j : Job) (s : State) : State × Result :=
  let b := ckptBody j s
  if b.2.1 then (b.2.2, failWith stAborted 0)
  else
    let head := ckptHead b.2.2 j b.1
    let x := ckptSealed j head b.1 b.2.2
    (emit (.hostWrite p d.a1 (head ++ x.1)) x.2, okRv j.stepNo (dw (ckptLen j)) 0)

/-- CHECKPOINT_PUSH (R341): with `part` the capture goes on until COMMAND_COMPLETE; one accepted in a Solstice waits for
its end (R333). -/
def execCheckpointPush (c : Cmd) (part : Bool) (errs : List (Nat × Nat)) (s : State) : Res :=
  runCmd { op := 0x0303, s := true, m := true, args := 7 } c
    (fun e t => firstOf [badWhen (jobOf c.ring e.desc.a0 t).isNone 0,
      (match (jobOf c.ring e.desc.a0 t).bind (jobAt t) with
        | some j => badBuf e.desc 1 (ckptLen j)
        | none => none)]) noFlag
    (fun e t => jobIs (jobOf c.ring e.desc.a0 t) t fun j => j.state == .aborted)
    (fun e t => match jobOf c.ring e.desc.a0 t with
      | none => (t, some (failWith stWrongState 0))
      | some slot => match jobAt t slot with
        | none => (t, some (failWith stWrongState 0))
        | some j =>
          if inSolstice j then (t, none)
          else if part then (addCapture slot true (putEntry c.port c.ring e { e with moved := 1 } t), none)
          else
            let o := pushEnd c.port e.desc j (applyErrs errs t)
            (o.1, some o.2)) s

/-! ### CHECKPOINT_RESTORE (R344 to R347) -/

/-- A region whose contents are undefined: its bytes are free values. -/
def regionUndef (g : Region) (s : State) : State :=
  g.runs.foldl (fun t r => (List.range r.2.2).foldl (fun u i =>
    let pg := r.2.1 / 0x200000 + i
    let (n, u1) := fresh u
    u1.setMem { u1.mem with
      lpx := tclear u1.mem.lpx (pg * 32768) 32768
      pageGen := tmod {} u1.mem.pageGen pg fun x => { x with base := some n, layers := [] } }) t) s

/-- R346: the job is unrestored. -/
def restoreFailed (slot : Nat) (s : State) : State :=
  match jobAt s slot with
  | none => s
  | some j => regionUndef j.persist (setJobAt s slot (some { j with state := .aborted }))

/-- The chunks of a body that arrives for a job: none when a seal does not open or bytes are missing. -/
def openBody (s : State) (j : Job) (head data : List Byte) (len : Nat) : Option (List (List Byte)) :=
  if j.realm = 0 then if data.length < len then none else some (splitChunks (data.take len))
  else
    let key := realmKey (realmOf s j.realm) "XNX880 CKPT"
    (chunksOf len).foldl (fun a x => a.bind fun l =>
      (openRecord key (head.take 0x40) x.1 x.2 (data.drop (recordLen mib * x.1))).map fun b => l ++ [b]) (some [])

/-- The header checks of R345, made before any byte is written. -/
def headOk (s : State) (j : Job) (head : List Byte) : Bool :=
  let mask := leAt head 7 1
  leAt head 0 4 == 0x54504B43 && leAt head 4 2 == 1 && leAt head 6 1 == b2n (j.realm != 0)
    && (j.realm == 0 || !(realmOf s j.realm).ckpt.isEmpty)
    && (bitsOf 8 mask).length == (jobDies j).length
    && ((List.range 8).all fun i => leAt head (0x80 + 8 * i) 8 == ((shares j).getD i (0, 0)).2)
    && leAt head 0x20 8 == bodyLen j

/-- Histories of a numerics segment, newest first. -/
def histsOf (seg : List Byte) : Tbl (List F32) :=
  (List.range 256).foldl (fun t i =>
    let o := 0x1000 + 128 * i
    tset [] t i (((List.range (min 16 (leAt seg o 1))).map fun k =>
      (BitVec.ofNat 32 (leAt seg (o + 4 + 4 * k) 4) : F32)).reverse)) []

/-- Write the shares of a body into the job's PERSIST region. -/
def writeShares (j : Job) (body : List Byte) (s : State) : State :=
  ((shares j).foldl (fun (a : List Byte × State) x =>
    (a.1.drop x.2, if x.2 = 0 then a.2 else memWrite j.realm x.1 (a.1.take x.2) a.2)) (body.drop 65536, s)).2

/-- A checkpoint that has come in whole: the job takes it, or is left unrestored. -/
def restoreFrom (slot : Nat) (data : List Byte) (s : State) : State × Result :=
  match jobAt s slot with
  | none => (s, failWith stWrongState 0)
  | some j =>
    let head := fit 256 data
    let bad := (restoreFailed slot s, failWith stVerifyFail 0)
    if !headOk s j head then bad
    else match openBody s j head (data.drop 256) (leAt head 0x20 8) with
      | none => bad
      | some cs =>
        if ckptRootOf head cs ≠ slice head 0x40 64 then bad
        else
          let body := cs.flatten
          let step : W64 := BitVec.ofNat 64 (leAt head 8 8)
          let s1 := writeShares j body s
          (setJobAt s1 slot (some { j with
            stepNo := step, hist := histsOf (body.take 65536), ema := BitVec.ofNat 32 (leAt body 0 4)
            state := if j.started then .held else .admitted
            ckptRoot := slice head 0x40 64, chunks := [], unmeasured := 0, weightSrc := 2 }), okRv step 0 0)

/-- The slot of a buddy region with the newer complete checkpoint, from the two headers (R343, R344). -/
def newerSlot (a b : List Byte) : Option Nat :=
  let full (x : List Byte) : Bool := leAt x 0 4 == 0x54504B43
  match full a, full b with
  | true, true => some (if leAt a 8 8 < leAt b 8 8 then 1 else 0)
  | true, false => some 0
  | false, true => some 1
  | false, false => none

/-- Bytes of the checkpoint that a header begins (R337, R340). -/
def wireLen (head : List Byte) : Nat :=
  let n := leAt head 0x20 8
  256 + if leAt head 6 1 % 2 = 0 then n else ((chunksOf n).foldl (fun k x => k + recordLen x.2) 0)

/-! #### From a buddy (R344) -/

def pullWho (q : Pull) : TxnWho := .pull q.port q.ring q.no

def pullOf (s : State) (p r no : Nat) : Option Pull := s.fab.pulls.find? fun q => q.port == p && q.ring == r && q.no == no

/-- Replace a restore under way. -/
def pullPut (q : Pull) (s : State) : State :=
  s.setFab { s.fab with pulls := s.fab.pulls.map fun x => if x.port = q.port ∧ x.ring = q.ring ∧ x.no = q.no then q else x }

/-- A restore under way is forgotten, with its reads. -/
def pullDrop (p r no : Nat) (s : State) : State :=
  let t := txnsDrop (.pull p r no) s
  t.setFab { t.fab with pulls := t.fab.pulls.filter fun x => !(x.port == p && x.ring == r && x.no == no) }

/-- A restore from a buddy has its result: a failure is logged with the completion status as its cause (R346; log entry 61). -/
def pullEnd (q : Pull) (o : State × Result) : State :=
  let s1 := pullDrop q.port q.ring q.no o.1
  let s2 := if o.2.status = stOk then s1
    else match jobAt s1 q.slot with
      | some j => logJob 0x7003 j 0 [dw q.chip, dw o.2.status.toNat] s1
      | none => s1
  finishCmd q.port q.ring q.no o.2 false s2

def pullFail (q : Pull) (status : Byte) (s : State) : State := pullEnd q (restoreFailed q.slot s, failWith status 0)

/-- Read a range of the buddy's region, as operator-realm traffic; a read that finds no way out gets no answer. -/
def pullRead (q : Pull) (off len : Nat) (into : Nat → Nat) (s : State) : Option State :=
  (pieces off len).foldl (fun a x => a.bind fun t =>
    issueTxn (pullWho q) { newPacket t 3 q.chip (q.base + x.1) with len := x.2 } 0 false (some (into x.1)) t) (some s)

/-- The two headers are read first. The length of a slot, which the command does not carry, is that of `Config.buddySlot` (log
entry 24). -/
def pullStart (q : Pull) (s : State) : State :=
  let size := Config.buddySlot (q.chip * 2 ^ 48 + q.base)
  let t := s.setFab { s.fab with pulls := s.fab.pulls ++ [q] }
  match (pullRead q 0 256 (fun _ => 0) t).bind (pullRead q size 256 (fun _ => 1)) with
  | some u => u
  | none => pullFail q stTimeout t

/-- Both headers are in: the newer complete checkpoint is read. -/
def pullChoose (q : Pull) (s : State) : State :=
  let head (k : Nat) : List Byte := ((q.heads.find? fun x => x.1 == k).map (·.2)).getD []
  let size := Config.buddySlot (q.chip * 2 ^ 48 + q.base)
  match newerSlot (head 0) (head 1) with
  | none => pullFail q stVerifyFail s
  | some k =>
    let n := wireLen (head k)
    let z := { q with body := some (k * size, n) }
    if size < n then pullFail q stVerifyFail s
    else match pullRead z (k * size) n (fun o => o) (pullPut z s) with
      | some u => u
      | none => pullFail z stTimeout s

/-- Data of a read of a restore; the last piece ends it. -/
def pullData (p r no into : Nat) (b : List Byte) (poison : Bool) (s : State) : State :=
  match pullOf s p r no with
  | none => s
  | some q =>
    if poison then pullFail q stVerifyFail s
    else
      let left := !(txnsOf s (pullWho q)).isEmpty
      match q.body with
      | none =>
        let z := { q with heads := q.heads ++ [(into, b)] }
        if left then pullPut z s else pullChoose z (pullPut z s)
      | some w =>
        let z := { q with got := q.got ++ [(into, b)] }
        if left then pullPut z s
        else
          let data := (pieces w.1 w.2).flatMap fun x => ((z.got.find? fun y => y.1 == x.1).map (·.2)).getD []
          pullEnd z (restoreFrom q.slot data s)

/-- The end of a restore from the host. -/
def restoreEnd (d : Desc) (ring : Nat) (data : List Byte) (s : State) : State × Result :=
  match jobOf ring d.a0 s with
  | none => (s, failWith stAborted 0)
  | some slot => restoreFrom slot data s

/-- CHECKPOINT_RESTORE (R344, R345): from the host, with `part` the data are still coming in; from a buddy, its region is read.
BUSY while another restore of the job is under way. `errs` are the ECC conditions that a write of part of a word may meet (R288). -/
def execCheckpointRestore (c : Cmd) (part : Bool) (errs : List (Nat × Nat)) (s : State) : Res :=
  runCmd { op := 0x0304, s := true, m := true, args := 15 } c
    (fun e t => firstOf [badWhen (jobOf c.ring e.desc.a0 t).isNone 0, badWhen (2 ≤ e.desc.a1.toNat) 1,
      (if e.desc.a1 = 1 then badBuf e.desc 2 0 else badWhen (2 ^ 16 ≤ e.desc.a2.toNat) 2)]) noFlag
    (fun e t => jobIs (jobOf c.ring e.desc.a0 t) t jobRuns)
    (fun e t =>
      if (jobOf c.ring e.desc.a0 t).any fun k => 1 < restores t k then (t, some (failWith stBusy 0))
      else if e.desc.a1 = 0 then match jobOf c.ring e.desc.a0 t with
        | none => (t, some (failWith stWrongState 0))
        | some slot => (pullStart { port := c.port, ring := c.ring, no := e.no, slot, chip := e.desc.a2.toNat
                                    base := e.desc.a3.toNat } t, none)
      else if part then (t, none)
      else
        let o := restoreEnd e.desc c.ring c.buf (applyErrs errs t)
        (o.1, some o.2)) s

end Sys2Proof.Machine
end

