-- ==== Sys2Proof/Machine/Col.lean ====
section
/-! DEFINITION. The collective engines (R343, R429 to R440): dispatch of op instances, their sends, what they do with the
packets that reach them, and their end. -/

namespace Sys2Proof.Machine

open Sys2Proof

/-! ### Ops and members (R429 to R434) -/

/-- Op `op` of the program of a die, with its group. -/
def opOn (j : Job) (d op : Nat) : Option (ColOp × List Member) :=
  (colProg j d).bind fun p => p.ops[op]?.map fun o => (o, p.groups.getD o.group [])

/-- An engine at work for an op: the job and its step, the op, its group and the own rank. A buddy push may outlast its step
(R333): it names the next one then. -/
structure ColCtx where
  j : Job
  st : Step
  o : ColOp
  g : List Member
  r : Nat

def colCtx (s : State) (d slot op : Nat) : Option ColCtx :=
  (jobAt s slot).bind fun j => (opOn j d op).bind fun x =>
    (if x.1.op = 7 then some (j.step.getD { num := j.stepNo + 1 }) else j.step).map fun st =>
      { j, st, o := x.1, g := x.2, r := (rankOf s x.2 d slot).getD x.2.length }

/-- Bytes of `n` elements of a DTYPE: raw bytes, tile records of B16, binary32 (R430, R433). -/
def colBytes (dtype n : Nat) : Nat :=
  match dtype with
  | 0 => n
  | 2 => (n + 1023) / 1024 * 32 + (if n = 0 then 0 else
      n / 1024 * (32 + 32 * 64) + (if n % 1024 = 0 then 0 else 32 + (n % 1024 + 31) / 32 * 64))
  | _ => 4 * n

/-- Elements added for `n` of a descriptor: raw bytes are taken as binary32 (log entry 26). -/
def colElems (dtype n : Nat) : Nat := if dtype = 0 then n / 4 else n

/-- Count `k` of a counts table, or of an even split. -/
def countAt (o : ColOp) (k : Nat) : Nat := if o.counts.isEmpty then o.len else o.counts.getD k 0

/-- Elements to come from member `k` in an all-to-all. -/
def countFrom (o : ColOp) (g k : Nat) : Nat := if o.counts.isEmpty then o.len else o.counts.getD (g + k) 0

def sumTo (f : Nat → Nat) (k : Nat) : Nat := (List.range k).foldl (fun n i => n + f i) 0

/-- Offset of chunk `k` among chunks laid out in rank order. -/
def chunkOff (o : ColOp) (k : Nat) : Nat := sumTo (fun i => colBytes o.dtype (countAt o i)) k

/-- A local address of an op for micro-batch `m`. -/
def mbAddr (o : ColOp) (base m : Nat) : Nat := (base + m * o.mbStride) % 2 ^ 64

/-- DST of an op instance on a member: its own descriptor where the member is of this module. -/
def dstOn (s : State) (x : Member) (op m : Nat) : Nat :=
  if isOwn s x.chip then
    match (jobAt s x.slot).bind fun j => opOn j x.die op with
    | some y => mbAddr y.1 y.1.dst m
    | none => Config.memberDst x.chip x.die x.slot op m
  else Config.memberDst x.chip x.die x.slot op m

/-- Offset in a member's DST of the elements that rank `r` sends it in an all-to-all. -/
def a2aOff (s : State) (x : Member) (op m r dtype : Nat) : Nat :=
  if isOwn s x.chip then
    match (jobAt s x.slot).bind fun j => opOn j x.die op with
    | some y => sumTo (fun i => colBytes y.1.dtype (countFrom y.1 y.2.length i)) r
    | none => colBytes dtype (Config.memberAt x.chip x.die x.slot op m r)
  else colBytes dtype (Config.memberAt x.chip x.die x.slot op m r)

/-- Every chunk of B16 but the last is a multiple of 1,024 elements (R434). -/
def chunksGood (o : ColOp) (g : Nat) : Bool :=
  o.dtype != 2 || o.counts.isEmpty || (List.range (o.counts.length - 1)).all fun k =>
    o.counts.getD k 0 % 1024 == 0 || (o.counts.length == 2 * g && k == g - 1)

/-! ### Running instances -/

def runIs (d slot op m : Nat) (r : ColRun) : Bool := r.die == d && r.slot == slot && r.op == op && r.m == m

def runAt (s : State) (d slot op m : Nat) : Option ColRun := s.fab.runs.find? (runIs d slot op m)

def setRun (x : ColRun) (s : State) : State :=
  s.setFab { s.fab with runs := s.fab.runs.map fun r => if runIs x.die x.slot x.op x.m r then x else r }

def dropRun (x : ColRun) (s : State) : State :=
  s.setFab { s.fab with runs := s.fab.runs.filter fun r => !runIs x.die x.slot x.op x.m r }

def colWho (x : ColRun) : TxnWho := .col x.die x.slot x.op x.m

/-- The instance runs or has completed in this step. -/
def colBegun (s : State) (d slot op m : Nat) : Bool :=
  (runAt s d slot op m).isSome || s.fab.colDone.contains (d, slot, op, m)

/-! ### Local accesses -/

/-- A cause of R439 for a cause of R240. -/
def colCause (k : Nat) : Nat := match k with | 2 => 2 | 3 => 4 | _ => 3

def colSrc (x : ColCtx) : Src := .agent x.j.slot (x.j.sol == .run)

def colRead (x : ColCtx) (d off len : Nat) (s : State) : List Byte × Run :=
  if len = 0 then ([], s, none) else
  let r := ownRead (colSrc x) x.j.realm d x.j.slot off len false s
  (r.1, r.2.1, r.2.2.map colCause)

def colWrite (x : ColCtx) (d off : Nat) (b : List Byte) (s : State) : Run :=
  if b.isEmpty then (s, none) else
  let r := ownWrite (colSrc x) x.j.realm d x.j.slot off b false s
  (r.1, r.2.map colCause)

/-- Bytes in the units of COL_TX and COL_RX. -/
def units32 (n : Nat) : Nat := (n + 31) / 32

/-- Send the pieces of some bytes to a member as WRITE packets, each a transaction; `off` is their place there. -/
def colSendWrites (y : ColRun) (realm chip off : Nat) (b : List Byte) (into : Option Nat) (s : State) : Run :=
  runAll (pieces off b.length) (fun p t =>
    let k := { newPacket t 1 chip p.1 with
      slot := if isOwn t chip then y.slot else 0, len := p.2, payload := slice b (p.1 - off) p.2 }
    match issueTxn (colWho y) k realm false into t with
    | some u => (colCount y.die y.slot (units32 p.2) u, none)
    | none => (t, some 3)) s

/-- Send a chunk to a member as REDUCE packets; OFFSET is the place in the chunk (log entry 26). -/
def colSendReduce (x : ColCtx) (y : ColRun) (k : Member) (b : List Byte) (s : State) : Run :=
  runAll (pieces 0 b.length) (fun p t =>
    let q := { newPacket t 6 k.chip p.1 with
      step := BitVec.ofNat 8 x.st.num.toNat, slot := k.slot, die := k.die, aux := y.op
      aux2 := dw (x.r + y.m * 2 ^ 32), len := p.2, payload := slice b p.1 p.2 }
    match issueTxn (colWho y) q x.j.realm true none t with
    | some u => (colCount y.die y.slot (units32 p.2) u, none)
    | none => (t, some 3)) s

/-- Send a packet that no acknowledgement answers. -/
def colSendOne (x : ColCtx) (q : Packet) (s : State) : Run :=
  match sendPacket q x.j.realm false false s with
  | some r => (r.2, none)
  | none => (s, some 3)

/-! ### Reduce-scatter (R433) -/

/-- The binary32 values of a chunk as sent. -/
def colDecode (dtype n : Nat) (b : List Byte) : List F32 :=
  match dtype with
  | 2 => (List.range n).map fun i =>
      let rec_ := b.drop (i / 1024 * 2112)
      let S : F32 := BitVec.ofNat 32 (leAt rec_ 0 4)
      let k := i % 1024 / 32
      decodeElem (magBits 2) (unpackElem 0 (slice rec_ 32 32) k) S (unpackElem 2 (slice rec_ (64 + 64 * k) 64) (i % 32))
  | _ => (List.range (colElems dtype n)).map fun i => BitVec.ofNat 32 (leAt b (4 * i) 4)

/-- Where a contribution of a rank waits in STAGE. -/
def stageOff (x : ColCtx) (m rank pos : Nat) : Nat :=
  mbAddr x.o x.o.stage m + (if rank < x.r then rank else rank - 1) * colBytes x.o.dtype (countAt x.o x.r) + pos

/-- The bytes of the contribution of a rank, once they are all there. -/
def gatherRank (x : ColCtx) (y : ColRun) (rank : Nat) (s : State) : Option (List Byte × Run) :=
  let n := colBytes x.o.dtype (countAt x.o x.r)
  if rank = x.r then some (colRead x y.die (mbAddr x.o x.o.src y.m + chunkOff x.o x.r) n s)
  else
    let ps := y.staged.filter fun p => p.1 == rank
    if ps.foldl (fun a p => a + p.2.2.1) 0 < n then none
    else some (ps.foldl (fun a p =>
      if a.2.2.isSome then a
      else match p.2.2.2 with
        | some b => (a.1.take p.2.1 ++ b ++ a.1.drop (p.2.1 + b.length), a.2)
        | none =>
          let r := colRead x y.die (stageOff x y.m rank p.2.1) p.2.2.1 a.2.1
          (a.1.take p.2.1 ++ r.1 ++ a.1.drop (p.2.1 + r.1.length), r.2)) (zeros n, s, none))

/-- Add every contribution whose turn has come, in rank order. -/
def rsAdvance (x : ColCtx) : Nat → ColRun → State → Run
  | 0, y, s => (setRun y s, none)
  | fuel + 1, y, s =>
    if x.g.length ≤ y.nextRank then (setRun y s, none)
    else match gatherRank x y y.nextRank s with
      | none => (setRun y s, none)
      | some c =>
        thenRun c.2 fun t =>
          let n := countAt x.o x.r
          let v := colDecode x.o.dtype n c.1
          let at_ := mbAddr x.o x.o.dst y.m
          let old := if y.nextRank = 0 && !x.o.acc then ([], t, none) else colRead x y.die at_ (4 * v.length) t
          thenRun old.2 fun u =>
            let w := if y.nextRank = 0 && !x.o.acc then v
              else (v.zip (List.range v.length)).map fun e => fAdd (BitVec.ofNat 32 (leAt old.1 (4 * e.2) 4)) e.1
            thenRun (colWrite x y.die at_ (w.flatMap fun e => leBytes 4 e.toNat) u) fun z =>
              rsAdvance x fuel { y with
                nextRank := y.nextRank + 1, got := y.got ++ [y.nextRank], staged := y.staged.filter fun p => p.1 != y.nextRank } z

/-- A contribution reaches its instance: one ahead of its turn is kept in STAGE. -/
def rsTake (x : ColCtx) (y : ColRun) (rank pos : Nat) (b : List Byte) (s : State) : Run :=
  if x.g.length ≤ rank || rank == x.r || colBytes x.o.dtype (countAt x.o x.r) < pos + b.length then (s, some 1)
  else if y.got.contains rank || y.staged.any (fun p => p.1 == rank && p.2.1 == pos) then (s, none)
  else if rank = y.nextRank then
    rsAdvance x (x.g.length + 1) { y with staged := y.staged ++ [(rank, pos, b.length, some b)] } s
  else
    thenRun (colWrite x y.die (stageOff x y.m rank pos) b s) fun t =>
      (setRun { y with staged := y.staged ++ [(rank, pos, b.length, none)] } t, none)

/-! ### Barriers (R436) -/

/-- Send the packet of a barrier's next round. -/
def barSend (x : ColCtx) (y : ColRun) (s : State) : Run :=
  if rounds x.g.length ≤ y.round then (s, none)
  else match x.g[(x.r + 2 ^ y.round) % x.g.length]? with
    | some k => colSendOne x (barrierPacket s k y.op y.round x.st.num y.latest) s
    | none => (s, none)

/-- Rounds whose packet has come are done. -/
def barAdvance (x : ColCtx) : Nat → ColRun → State → Run
  | 0, y, s => (setRun y s, none)
  | fuel + 1, y, s =>
    if (tget none y.early y.round).isNone then (setRun y s, none)
    else
      let z := { y with round := y.round + 1 }
      thenRun (barSend x z s) (barAdvance x fuel z)

/-- A packet of a barrier reaches an instance. -/
def barTake (x : ColCtx) (y : ColRun) (p : Packet) (s : State) : Run :=
  let tag := p.tag.toNat
  let l := (p.aux2, tag / 65536, tag / 256 % 8)
  barAdvance x 17 { y with early := tset none y.early (tag % 256) (some l), latest := laterStamp y.latest l } s

/-- The instance still waits for the packet of a round. -/
def barLacks (y : ColRun) (round : Nat) : Bool := y.round ≤ round && (tget none y.early round).isNone

/-! ### Buddy pushes (R343) -/

/-- The region at DST: chip, and offset of a slot. -/
def buddyOff (x : ColCtx) (half : Nat) : Nat := gOff x.o.dst + half * Config.buddySlot x.o.dst

/-- BUDDY_PUSH and the end of the capture: 0 complete, 1 failed with a cause, 2 no room. -/
def buddyEnd (y : ColRun) (outcome : Nat) (cause : List W64) (s : State) : State :=
  match colCtx s y.die y.slot y.op with
  | none => s
  | some x =>
    let s1 := logJob 0x7006 x.j (resDie y.die) ([x.j.stepNo, dw (gChip x.o.dst), dw y.half, dw outcome] ++ cause) s
    let s2 := addCapture y.slot false (dropRun y (txnsDrop (colWho y) s1))
    if y.held then s2 else s2.setFab { s2.fab with colDone := s2.fab.colDone ++ [(y.die, y.slot, y.op, y.m)] }

/-- The header and the sealed body of the checkpoint; none when a read of it was poisoned. -/
def buddyBytes (x : ColCtx) (s : State) : Option (List Byte × List Byte × State) :=
  let b := ckptBody x.j s
  if b.2.1 then none
  else
    let head := ckptHead b.2.2 x.j b.1
    let z := ckptSealed x.j head b.1 b.2.2
    some (head, z.1, z.2)

/-- Begin an item of a push, as operator-realm traffic (R342): 1 clears MAGIC, 2 writes the body, 3 the header, 4 its MAGIC; 5 is the end. -/
def buddyItem (x : ColCtx) (y : ColRun) (s : State) : Run :=
  let chip := gChip x.o.dst
  let at_ := buddyOff x y.half
  let put (off : Nat) (b : List Byte) (t : State) : Run := colSendWrites y 0 chip (at_ + off) b none t
  let s1 := setRun y s
  match y.round with
  | 1 => put 0 (zeros 4) s1
  | 2 => match buddyBytes x s1 with | some z => put 256 z.2.1 z.2.2 | none => (s1, some 4)
  | 3 => match buddyBytes x s1 with | some z => put 4 (z.1.drop 4) z.2.2 | none => (s1, some 4)
  | 4 => put 0 (leBytes 4 0x54504B43) s1
  | _ => (s1, none)

/-- The slot that does not hold the newer complete checkpoint. -/
def buddyHalf (found : List (Nat × W64)) : Nat :=
  match found with
  | [x] => 1 - x.1
  | [x, y] => if x.2.toNat < y.2.toNat then x.1 else y.1
  | _ => 0

/-- Both headers of the region have been read. -/
def buddyChoose (x : ColCtx) (y : ColRun) (s : State) : Run :=
  let z := { y with half := buddyHalf y.found, round := 1 }
  if Config.buddySlot x.o.dst < ckptLen x.j then (buddyEnd z 2 [] (setRun z s), none) else buddyItem x z s

/-- Ask for the two headers. -/
def buddyBegin (x : ColCtx) (y : ColRun) (s : State) : Run :=
  runAll [0, 1] (fun h t =>
    match issueTxn (colWho y) { newPacket t 3 (gChip x.o.dst) (buddyOff x h) with len := 32 } 0 false (some h) t with
    | some u => (u, none)
    | none => (t, some 3)) s

/-! ### Faults -/

/-- An instance ends in fault: a buddy push leaves its step alone, any other aborts it (R439). -/
def colFail (y : ColRun) (cause : Nat) (s : State) : State :=
  match colCtx s y.die y.slot y.op with
  | none => s
  | some x => if x.o.op = 7 then buddyEnd y 1 [dw cause] s else colFault y.die y.slot y.op y.m cause s

def colDoneOr (y : ColRun) (r : Run) : State :=
  match r.2 with
  | some cause => colFail y cause r.1
  | none => r.1

/-! ### Packets that reach a running instance -/

/-- A REDUCE, COUNT or BARRIER packet for a running instance (R433, R434, R436). -/
def colPacket (y : ColRun) (q : RxPkt) (s : State) : State :=
  match colCtx s y.die y.slot y.op with
  | none => s
  | some x =>
    let p := q.pkt
    let rank := p.aux2.toNat % 2 ^ 32
    match p.kind, x.o.op with
    | 6, 1 =>
      let late := y.window.any fun w => w.2.toNat ≤ q.stamp.toNat
      colDoneOr y (rsTake x (if late then { y with after := y.after + p.payload.length } else y) rank p.offset p.payload s)
    | 9, 3 =>
      if x.g.length ≤ rank then colFail y 1 s
      else if countFrom x.o x.g.length rank ≠ p.aux2.toNat / 2 ^ 32 then colFail y 6 s
      else setRun { y with got := if y.got.contains rank then y.got else y.got ++ [rank] } s
    | 8, 6 => colDoneOr y (barTake x y p s)
    | _, _ => colFail y 1 s

/-- An early packet is for this instance. -/
def earlyFor (y : ColRun) (num : W64) (q : RxPkt) : Bool :=
  q.pkt.slot == y.slot && q.pkt.die == y.die && q.pkt.aux == y.op && q.pkt.step == BitVec.ofNat 8 num.toNat
    && (match q.pkt.kind with
      | 6 => q.pkt.aux2.toNat / 2 ^ 32 == y.m
      | 9 => true
      | 8 => barLacks y (q.pkt.tag.toNat % 256)
      | _ => false)

/-- The early packets of an instance are taken, oldest first. -/
def takeEarly (d slot op m : Nat) (num : W64) : List RxPkt → State → State
  | [], s => s
  | q :: qs, s =>
    match runAt s d slot op m with
    | none => s
    | some y =>
      if earlyFor y num q then
        takeEarly d slot op m num qs (colPacket y q (s.setFab { s.fab with early := s.fab.early.erase q }))
      else takeEarly d slot op m num qs s

/-! ### Dispatch (R432, R438) -/

def colInsts (j : Job) (o : ColOp) : Nat := if o.perMb then j.adm.microBatches else 1

/-- The window base of a step (R438); none for a lone job. -/
def colBase (j : Job) (st : Step) : Option Nat :=
  j.pair.map fun p => (fwdEquinox p j.slot st.startRt.toNat).getD st.startRt.toNat

/-- The window of an op in a step. -/
def colWindow (j : Job) (st : Step) (o : ColOp) : Option (W64 × W64) :=
  match colBase j st with
  | some b => if o.wstart = 0xFFFFFFFF ∨ o.wlen = 0 then none else some (dw (b + o.wstart), dw (b + o.wstart + o.wlen))
  | none => none

def windowOpen (s : State) (j : Job) (st : Step) (o : ColOp) : Bool :=
  match colBase j st with
  | some b => o.wstart == 0xFFFFFFFF || decide (b + o.wstart ≤ (rtNow s).toNat)
  | none => true

/-- R432, for an instance. -/
def colReady (s : State) (d slot op m : Nat) : Bool :=
  match colCtx s d slot op with
  | none => false
  | some x =>
    colServes s d && scbServes s d && x.j.step.isSome && !x.j.aborting && (x.j.sol == .none || (x.j.sol == .run && x.o.op != 7))
      && m < colInsts x.j x.o && !colBegun s d slot op m && (m == 0 || colBegun s d slot op (m - 1))
      && waitsOk s d slot m x.o.wait.toList && windowOpen s x.j x.st x.o
      && decide ((s.fab.runs.filter fun r => r.die == d && r.slot == slot).length < 16)

/-- No instance that R257 places before it is ready. -/
def colFirst (s : State) (d slot op : Nat) : Bool :=
  match jobAt s slot with
  | none => false
  | some j => (List.range op).all fun k => match opOn j d k with
    | none => true
    | some y => (List.range (colInsts j y.1)).all fun m => !colReady s d slot k m

/-- Begin an instance of the op `code`: its waits are taken, its early packets joined to it after `start`. -/
def colBegin (code d slot op m : Nat) (errs : List (Nat × Nat)) (start : ColCtx → ColRun → State → Run) (s : State) :
    Res :=
  match colCtx s d slot op with
  | none => .next s
  | some x =>
    if x.o.op ≠ code || !colReady s d slot op m || !colFirst s d slot op then .next s
    else
      let s0 := takeWaits d slot m x.o.wait.toList (applyErrs errs s)
      let y : ColRun := { die := d, slot, op, m, window := colWindow x.j x.st x.o }
      let s1 := s0.setFab { s0.fab with runs := s0.fab.runs ++ [y] }
      let s2 := setJobAt s1 slot ((jobAt s1 slot).map fun j => { j with progress := rtNow s1 })
      if x.g.length ≤ x.r || !chunksGood x.o x.g.length then .next (colFail y 1 s2)
      else
        let r := start x y s2
        match r.2 with
        | some cause => .next (colFail y cause r.1)
        | none => .next (takeEarly d slot op m x.st.num r.1.fab.early r.1)

/-- The sends of an instance are issued. -/
def markSent (y : ColRun) (s : State) : State :=
  match runAt s y.die y.slot y.op y.m with
  | some z => setRun { z with sent := true } s
  | none => s

/-- The other members with their ranks. -/
def others (x : ColCtx) : List (Nat × Member) :=
  ((List.range x.g.length).zip x.g).filter fun k => k.1 != x.r

/-- COL_RS (R431, R433). -/
def execColRs (d slot op m : Nat) (errs : List (Nat × Nat)) (s : State) : Res :=
  colBegin 1 d slot op m errs (fun x y t =>
    thenRun (runAll (others x) (fun k u =>
      let b := colRead x d (mbAddr x.o x.o.src m + chunkOff x.o k.1) (colBytes x.o.dtype (countAt x.o k.1)) u
      thenRun b.2 (colSendReduce x y k.2 b.1)) t) fun u =>
    rsAdvance x (x.g.length + 1) { y with sent := true } u) s

/-- COL_AG (R431). -/
def execColAg (d slot op m : Nat) (errs : List (Nat × Nat)) (s : State) : Res :=
  colBegin 2 d slot op m errs (fun x y t =>
    let b := colRead x d (mbAddr x.o x.o.src m) (colBytes x.o.dtype (countAt x.o x.r)) t
    thenRun b.2 fun u =>
    thenRun (runAll (others x) (fun k v =>
      colSendWrites y x.j.realm k.2.chip (dstOn v k.2 op m + chunkOff x.o x.r) b.1 none v) u) fun v =>
    thenRun (colWrite x d (mbAddr x.o x.o.dst m + chunkOff x.o x.r) b.1 v) fun w => (markSent y w, none)) s

/-- COL_A2A (R431, R434): every member is told its count before its elements. -/
def execColA2a (d slot op m : Nat) (errs : List (Nat × Nat)) (s : State) : Res :=
  colBegin 3 d slot op m errs (fun x y t =>
    let n := x.g.length
    if countAt x.o x.r ≠ countFrom x.o n x.r then (t, some 6)
    else
    thenRun (runAll (others x) (fun k u => colSendOne x { newPacket u 9 k.2.chip 0 with
      step := BitVec.ofNat 8 x.st.num.toNat, slot := k.2.slot, die := k.2.die, aux := op
      aux2 := dw (x.r + countAt x.o k.1 * 2 ^ 32) } u) t) fun t1 =>
    thenRun (runAll ((List.range n).zip x.g) (fun k u =>
      let b := colRead x d (mbAddr x.o x.o.src m + chunkOff x.o k.1) (colBytes x.o.dtype (countAt x.o k.1)) u
      thenRun b.2 fun v =>
        if k.1 = x.r then
          colWrite x d (mbAddr x.o x.o.dst m + sumTo (fun i => colBytes x.o.dtype (countFrom x.o n i)) x.r) b.1 v
        else colSendWrites y x.j.realm k.2.chip (dstOn v k.2 op m + a2aOff v k.2 op m x.r x.o.dtype) b.1 none v) t1) fun w =>
    (markSent y w, none)) s

/-- Send SRC to DST of the member with rank `k`. -/
def sendTo (x : ColCtx) (y : ColRun) (k n : Nat) (s : State) : Run :=
  match x.g[k]? with
  | none => (s, some 1)
  | some w =>
    let b := colRead x y.die (mbAddr x.o x.o.src y.m) (colBytes x.o.dtype n) s
    thenRun b.2 fun u =>
      let r := if k = x.r then colWrite x y.die (mbAddr x.o x.o.dst y.m) b.1 u
        else colSendWrites y x.j.realm w.chip (dstOn u w y.op y.m) b.1 none u
      thenRun r fun v => (markSent y v, none)

/-- The rank that SEND and RING send to. -/
def peerRank (x : ColCtx) : Nat :=
  if x.o.op = 4 then (x.o.peer % 65536).toNat else (((x.r : Int) + x.o.peer) % (x.g.length : Int)).toNat

/-- The rank that RING receives from. -/
def fromRank (x : ColCtx) : Nat := (((x.r : Int) - x.o.peer) % (x.g.length : Int)).toNat

/-- The token reference as RSIG carries it: the entry of micro-batch `m` itself (log entry 26). -/
def rsigWord (t : TokRef) (m : Nat) : Nat :=
  b2n t.other * 2 ^ 31 + t.die * 2 ^ 28 + (t.amount - 1) * 2 ^ 24 + (t.entry + m % 2 ^ t.ring) % 2048

/-- RSIG goes to the receiving member once the data have been acknowledged (R432). -/
def rsigSend (x : ColCtx) (y : ColRun) (s : State) : Run :=
  match x.o.rsig, x.g[peerRank x]? with
  | some t, some k =>
    if y.signalled then (s, none)
    else thenRun (colSendOne x { newPacket s 5 k.chip 0 with
        step := BitVec.ofNat 8 x.st.num.toNat, slot := k.slot, die := k.die, aux2 := dw (rsigWord t y.m) } s) fun u =>
      (setRun { y with signalled := true } u, none)
  | _, _ => (s, none)

/-- What follows once no send of an instance is outstanding. -/
def colQuiet (d slot op m : Nat) (s : State) : State :=
  match runAt s d slot op m, colCtx s d slot op with
  | some y, some x =>
    if !(txnsOf s (colWho y)).isEmpty then s
    else match x.o.op with
      | 4 | 5 => if y.sent then colDoneOr y (rsigSend x y s) else s
      | 7 =>
        if y.round = 0 then colDoneOr y (buddyChoose x y s)
        else if y.round < 5 then colDoneOr y (buddyItem x { y with round := y.round + 1 } s) else s
      | _ => s
  | _, _ => s

/-- Begin, then send RSIG at once when nothing had to be acknowledged. -/
def thenQuiet (d slot op m : Nat) (r : Res) : Res :=
  match r with
  | .next t => match runAt t d slot op m with
    | some y => if y.sent && !y.signalled then .next (colQuiet d slot op m t) else .next t
    | none => .next t
  | x => x

/-- COL_SEND (R431). -/
def execColSend (d slot op m : Nat) (errs : List (Nat × Nat)) (s : State) : Res :=
  thenQuiet d slot op m (colBegin 4 d slot op m errs (fun x y t => sendTo x y (peerRank x) x.o.len t) s)

/-- COL_RING (R431). -/
def execColRing (d slot op m : Nat) (errs : List (Nat × Nat)) (s : State) : Res :=
  thenQuiet d slot op m (colBegin 5 d slot op m errs (fun x y t => sendTo x y (peerRank x) (countAt x.o x.r) t) s)

/-- COL_BARRIER (R436). -/
def execColBarrier (d slot op m : Nat) (s : State) : Res :=
  colBegin 6 d slot op m [] (fun x y t =>
    let z := { y with own := rtNow t, latest := (rtNow t, ownChip t, d), sent := true }
    thenRun (barSend x z t) fun u => (setRun z u, none)) s

/-- A push starts, and its capture with it (R341). -/
def pushStart (x : ColCtx) (y : ColRun) (s : State) : Run :=
  buddyBegin x { y with sent := true } (setRun { y with sent := true } (addCapture y.slot true s))

/-- A push that has waited for the end of a Solstice starts (R333). -/
def pushGo (x : ColCtx) (d slot op m : Nat) (s : State) : State :=
  let y : ColRun := { die := d, slot, op, m, held := true }
  let s1 := setJobAt s slot (some { x.j with pushes := x.j.pushes.erase (d, op, m) })
  colDoneOr y (pushStart x y (s1.setFab { s1.fab with runs := s1.fab.runs ++ [y] }))

/-- COL_BUDDY (R343): the push captures the last committed state (R341). -/
def execColBuddy (d slot op m : Nat) (errs : List (Nat × Nat)) (s : State) : Res :=
  match colCtx s d slot op with
  | none => .next s
  | some x =>
    if x.j.pushes.contains (d, op, m) then
      if x.o.op == 7 && x.j.sol == .none && !x.j.aborting && colServes s d && (runAt s d slot op m).isNone then
        .next (pushGo x d slot op m (applyErrs errs s))
      else .next s
    else colBegin 7 d slot op m errs pushStart s

/-! ### The end of an instance (R325, R326, R431, R432, R437) -/

/-- Ranges (offset, length) without the part that lies in another range. -/
def minusRange (l : List (Nat × Nat)) (p : Nat × Nat) : List (Nat × Nat) :=
  l.flatMap fun g =>
    let hi := max g.1 (p.1 + p.2)
    [(g.1, min g.2 (p.1 - g.1)), (hi, g.1 + g.2 - hi)].filter fun x => x.2 != 0

/-- Bytes of a range that no piece covers. -/
def gapBytes (ps : List (Nat × Nat)) (off len : Nat) : Nat :=
  (ps.foldl minusRange [(off, len)]).foldl (fun n x => n + x.2) 0

/-- Pieces written for a slot. -/
def landedOf (s : State) (slot : Nat) : List (Nat × Nat) :=
  (s.fab.landed.filter fun x => x.1 == slot).map fun x => (x.2.1, x.2.2.1)

/-- The range has been received. -/
def landedAll (s : State) (slot off len : Nat) : Bool := gapBytes (landedOf s slot) off len == 0

/-- Ranges of DST that other members write: rank, offset and bytes. -/
def expected (x : ColCtx) (m : Nat) : List (Nat × Nat × Nat) :=
  let at_ := mbAddr x.o x.o.dst m
  let n := x.g.length
  match x.o.op with
  | 2 => (others x).map fun k => (k.1, at_ + chunkOff x.o k.1, colBytes x.o.dtype (countAt x.o k.1))
  | 3 => (others x).map fun k =>
      (k.1, at_ + sumTo (fun i => colBytes x.o.dtype (countFrom x.o n i)) k.1, colBytes x.o.dtype (countFrom x.o n k.1))
  | 5 => if fromRank x = x.r then [] else [(fromRank x, at_, colBytes x.o.dtype (countAt x.o (fromRank x)))]
  | _ => []

/-- Everything the op waits for has come. -/
def colComplete (s : State) (x : ColCtx) (y : ColRun) : Bool :=
  let here := (expected x y.m).all fun e => e.2.2 == 0 || landedAll s y.slot e.2.1 e.2.2
  y.sent && (txnsOf s (colWho y)).isEmpty && (match x.o.op with
    | 1 => x.g.length ≤ y.nextRank
    | 3 => here && (others x).all fun k => y.got.contains k.1
    | 6 => rounds x.g.length ≤ y.round
    | 7 => y.round == 5
    | _ => here)

/-- Drop one received piece of each kind that lies in a range. -/
def claimPieces (slot off len : Nat) (l : List (Nat × Nat × Nat × W64)) : List (Nat × Nat × Nat × W64) :=
  (l.foldl (fun (a : List (Nat × Nat × Nat × W64) × List (Nat × Nat)) x =>
    if x.1 = slot && off ≤ x.2.1 && x.2.1 < off + len && !a.2.contains (x.2.1, x.2.2.1)
      then (a.1, a.2 ++ [(x.2.1, x.2.2.1)]) else (a.1 ++ [x], a.2))
    ([], [])).1

/-- The version that a header shows, when the fetch fails R325. -/
def shardBad (x : ColCtx) (h : List Byte) : Option W64 :=
  if leAt h 3 1 % 2 = 0 then some (0 - 1)
  else if leAt h 2 1 ≠ x.o.tid ∨ leAt h 8 8 ≠ (x.st.num - 1).toNat then some (dw (leAt h 8 8))
  else none

/-- The shard header of every chunk is checked, in rank order. -/
def shardCheck (x : ColCtx) (y : ColRun) (s : State) : Run :=
  if !x.o.shard then (s, none)
  else runAll ((List.range x.g.length).zip x.g) (fun k t =>
    let h := colRead x y.die (mbAddr x.o x.o.dst y.m + chunkOff x.o k.1) (min 64 (colBytes x.o.dtype (countAt x.o k.1))) t
    thenRun h.2 fun u => match shardBad x h.1 with
      | some v => (logJob 0x2005 x.j (resDie y.die) [dw x.o.tid, dw k.2.chip, x.st.num - 1, v] u, some 5)
      | none => (u, none)) s

/-- The module's member with the lowest die in a group is that of die `d`. -/
def lowestMember (s : State) (g : List Member) (d : Nat) : Bool := g.all fun k => !isOwn s k.chip || d ≤ k.die

/-- COL_OP_DONE (R431, R432): an instance completes. -/
def execColOpDone (d slot op m : Nat) (errs : List (Nat × Nat)) (s : State) : Res :=
  match runAt s d slot op m, colCtx s d slot op with
  | some y, some x =>
    if !colWorks s d || !colComplete s x y then .next s
    else
      let r := shardCheck x y (applyErrs errs s)
      match r.2 with
      | some 5 =>
        let t := colFault d slot op m 5 r.1
        .next (setJobAt t slot ((jobAt t slot).map fun j => { j with lastEvent := 0x2005 }))
      | some cause => .next (colFail y cause r.1)
      | none =>
        let s1 := if x.o.op = 7 then buddyEnd y 0 [] r.1
          else
            let t := dropRun y r.1
            t.setFab { t.fab with
              colDone := t.fab.colDone ++ [(d, slot, op, m)]
              landed := (expected x m).foldl (fun l e => claimPieces slot e.2.1 e.2.2 l) t.fab.landed }
        let s2 := if x.o.op = 6 && lowestMember s1 x.g d then barrierLog x.j 1 op x.g.length x.st.num y.own y.latest s1 else s1
        let s3 := setJobAt s2 slot ((jobAt s2 slot).map fun j => { j with progress := rtNow s2 })
        if y.held then .next s3
        else .next (addSigs (x.o.sig.toList.map fun g => sigOf d slot g m (BitVec.ofNat 8 x.st.num.toNat) false (3, op, m)) s3)
  | _, _ => .next s

/-! ### Windows (R399, R438) -/

/-- Packets for this module whose stamp lies before an instant, delivered and not yet taken: the stamp alone decides (R398). -/
def inBefore (s : State) (e : W64) (kind : Nat) : List Packet :=
  (s.fab.inbox.filter fun q => q.stamp.toNat < e.toNat && q.pkt.kind == kind && q.opened && isOwn s q.pkt.dst).map (·.pkt)

/-- Bytes written before an instant that other members still owe an op. -/
def writesOwed (s : State) (x : ColCtx) (slot m : Nat) (e : W64) : Nat :=
  let ps := ((s.fab.landed.filter fun p => p.1 == slot && p.2.2.2.toNat < e.toNat).map fun p => (p.2.1, p.2.2.1))
    ++ (inBefore s e 1).map fun p => (p.offset, p.payload.length)
  (expected x m).foldl (fun n r => n + gapBytes ps r.2.1 r.2.2) 0

/-- Bytes of contributions that other members still owe an RS instance: `had` have been taken or kept in time. -/
def sumsOwed (s : State) (x : ColCtx) (d slot op m had : Nat) (e : W64) : Nat :=
  if x.o.op ≠ 1 then 0
  else
    let mine := (inBefore s e 6).filter fun p => p.die == d && p.slot == slot && p.aux == op && p.aux2.toNat / 2 ^ 32 == m
    (x.g.length - 1) * colBytes x.o.dtype (countAt x.o x.r) - had - mine.foldl (fun n p => n + p.payload.length) 0

/-- Bytes of contributions that a running instance has taken in time. -/
def sumsHad (x : ColCtx) (y : ColRun) : Nat :=
  let whole := if y.nextRank ≤ x.r then y.nextRank else y.nextRank - 1
  whole * colBytes x.o.dtype (countAt x.o x.r) + y.staged.foldl (fun n p => n + p.2.2.1) 0 - y.after

/-- Bytes that an instance sends. -/
def colSends (x : ColCtx) : Nat :=
  let give (k : Nat) : Nat := colBytes x.o.dtype (countAt x.o k)
  match x.o.op with
  | 1 | 3 => sumTo (fun k => if k = x.r then 0 else give k) x.g.length
  | 2 => (x.g.length - 1) * give x.r
  | 4 => colBytes x.o.dtype x.o.len
  | 5 => give x.r
  | 7 => ckptLen x.j + 4
  | _ => 0

/-- Bytes that a buddy push has still to write after its item in progress. -/
def pushLeft (x : ColCtx) (y : ColRun) : Nat :=
  if x.o.op ≠ 7 then 0
  else (if y.round < 2 then ckptLen x.j - 256 else 0) + (if y.round < 3 then 252 else 0) + (if y.round < 4 then 4 else 0)

/-- Bytes of a running instance that had not been received or acknowledged before its window's end. -/
def colOutstanding (s : State) (x : ColCtx) (y : ColRun) (e : W64) : Nat :=
  let acked := (inBefore s e 2).map (·.tag)
  writesOwed s x y.slot y.m e + sumsOwed s x y.die y.slot y.op y.m (sumsHad x y) e + pushLeft x y
    + ((txnsOf s (colWho y)).filter fun t => !acked.contains t.tag).foldl (fun n t => n + t.bytes) 0

/-- The same for an instance that was never dispatched: contributions that came early are kept (R433). -/
def colUnbegun (s : State) (x : ColCtx) (d slot op m : Nat) (e : W64) : Nat :=
  let had := (s.fab.early.filter fun q => q.stamp.toNat < e.toNat && q.pkt.kind == 6 && q.pkt.die == d && q.pkt.slot == slot
    && q.pkt.aux == op && q.pkt.aux2.toNat / 2 ^ 32 == m).foldl (fun n q => n + q.pkt.payload.length) 0
  writesOwed s x slot m e + sumsOwed s x d slot op m had e + colSends x

/-- The instances of a die and slot whose window has ended: with all their bytes if they were never dispatched. -/
def lateOf (s : State) (slot d op m : Nat) : Option (W64 × W64 × Nat) :=
  match colCtx s d slot op with
  | none => none
  | some x => match colWindow x.j x.st x.o with
    | none => none
    | some w =>
      if (rtNow s).toNat < w.2.toNat || s.fab.colDone.contains (d, slot, op, m) || x.st.lateWindows.contains (d, op, m) then none
      else match runAt s d slot op m with
        | some y => some (w.1, w.2, colOutstanding s x y w.2)
        | none => some (w.1, w.2, colUnbegun s x d slot op m w.2)

/-- WINDOW_END_REACHED (R399): the window of an instance has ended with work outstanding. -/
def execWindowEndReached (d slot op m : Nat) (s : State) : Res :=
  match jobAt s slot with
  | none => .next s
  | some j => match j.step, opOn j d op with
    | some st, some o =>
      if j.aborting || colInsts j o.1 ≤ m then .next s
      else match lateOf s slot d op m with
        | none => .next s
        | some w =>
          let s1 := setJobAt s slot (some { j with step := some { st with lateWindows := st.lateWindows ++ [(d, op, m)] } })
          .next (logJob 0x5001 j (resDie d) [w.1, w.2.1, dw w.2.2] (colCount d 4 1 s1))
    | _, _ => .next s

end Sys2Proof.Machine
end

