-- ==== Sys2Proof/Machine/PktIn.lean ====
section
/-! DEFINITION. Packets that have been delivered (R313, R425 to R428, R432 to R436, R460, R461): requests and their
answers, signals, collective packets, transit, and transactions that time out. -/

namespace Sys2Proof.Machine

open Sys2Proof

/-! ### The head of a link's queue -/

/-- The oldest packet delivered by link `l` (96 is the die fabric). -/
def inFirst (s : State) (l : Nat) : Option RxPkt := s.fab.inbox.find? fun q => q.link == l

/-- The state without it. -/
def inPop (q : RxPkt) (s : State) : State := s.setFab { s.fab with inbox := s.fab.inbox.erase q }

/-- A packet of a tenant realm whose frame was not opened, or whose slot another realm holds: the realm check of R313 that
applies to its OFFSET (R460). -/
def realmCheck (p : Packet) : Nat := if p.offset < 0x20000000000 then 3 else 4

/-- Kinds that are answered. -/
def isRequest (p : Packet) : Bool := p.kind == 1 || p.kind == 3 || p.kind == 6

/-- Refuse a packet at its target: REMOTE_DENIED, and a NACK for a request. The NACK of a frame that this module cannot
open travels under the operator realm (log entry 27). -/
def refuse (q : RxPkt) (check : Nat) (s : State) : State :=
  let s1 := remoteDenied q.pkt.src q.pkt.offset check s
  if isRequest q.pkt then
    sendAnswer (answerPacket s1 q.pkt.src q.pkt.tag (.nack check)) (if q.opened then q.realm else 0) s1
  else s1

/-- The packet at the head of link `l`, if it is of this kind, for this module: an unopened one is refused. -/
def packetRow (l kind : Nat) (act : RxPkt → State → State) (s : State) : Res :=
  match inFirst s l with
  | none => .next s
  | some q =>
    if q.pkt.kind ≠ kind || !isOwn s q.pkt.dst then .next s
    else if !q.opened then .next (refuse q (realmCheck q.pkt) (inPop q s))
    else .next (act q s)

/-- An answer whose frame was not opened is dropped. -/
def answerRow (l kind : Nat) (act : RxPkt → State → State) (s : State) : Res :=
  match inFirst s l with
  | none => .next s
  | some q =>
    if q.pkt.kind ≠ kind || !isOwn s q.pkt.dst then .next s
    else .next (if q.opened then act q (inPop q s) else inPop q s)

/-! ### Requests (R313, R314, R425) -/

def packetSrc (s : State) (q : RxPkt) : Src :=
  if q.link = 96 then .agent q.pkt.slot (((jobAt s q.pkt.slot).map fun j => j.sol == .run).getD false)
  else .remote q.pkt.src

/-- Die and range of the DST areas of a job's collective ops that hold an offset. -/
def dstHolds (j : Job) (off : Nat) : Option Nat :=
  match j.main with
  | none => none
  | some g => g.col.findSome? fun c => if c.2.ops.any (fun o =>
      (o.op == 2 || o.op == 3 || o.op == 5) && (List.range (colInsts j o)).any fun m =>
        let n := (c.2.groups.getD o.group []).length
        let len := if o.op = 3 then sumTo (fun i => colBytes o.dtype (countFrom o n i)) n
          else if o.op = 5 then ((c.2.groups.getD o.group []).foldl (fun (a : Nat × Nat) _ =>
            (a.1 + 1, max a.2 (colBytes o.dtype (countAt o a.1)))) (0, 0)).2
          else chunkOff o n
        let a := mbAddr o o.dst m
        a ≤ off && off < a + len) then some c.1 else none

/-- A write that has come for a collective of a job: COL_RX counts it, and it waits for its instance. -/
def landWrite (slot realm off len : Nat) (stamp : W64) (s : State) : State :=
  match jobAt s slot with
  | none => s
  | some j =>
    if j.realm ≠ realm then s
    else match dstHolds j off with
      | none => s
      | some d => (colCount d (2 + slot) (units32 len) s).setFab
          { (colCount d (2 + slot) (units32 len) s).fab with landed := s.fab.landed ++ [(slot, off, len, stamp)] }

/-- WRITE (R425): the payload is written after the checks, and acknowledged. -/
def execWrite (l : Nat) (s : State) : Res :=
  packetRow l 1 (fun q t =>
    if !dfbGrants t q.pkt.offset then t
    else
      let p := q.pkt
      let r := serve (packetSrc t q) p.src q.realm p.offset true p.payload.length p.payload (inPop q t)
      let u := if r.1 == .ack then
          landWrite 1 q.realm p.offset p.payload.length q.stamp
            (landWrite 0 q.realm p.offset p.payload.length q.stamp r.2)
        else r.2
      sendAnswer (answerPacket u p.src p.tag r.1) q.realm u) s

/-- READ (R425). -/
def execRead (l : Nat) (errs : List (Nat × Nat)) (s : State) : Res :=
  packetRow l 3 (fun q t =>
    if !dfbGrants t q.pkt.offset then t
    else
      let p := q.pkt
      let r := serve (packetSrc t q) p.src q.realm p.offset false p.len [] (applyErrs errs (inPop q t))
      sendAnswer (answerPacket r.2 p.src p.tag r.1) q.realm r.2) s

/-! ### Answers (R428) -/

/-- The transaction that an answer ends. -/
def txnOf (s : State) (tag : W32) : Option Txn := s.fab.txns.find? fun t => t.tag == tag

def txnEnd (x : Txn) (s : State) : State := s.setFab { s.fab with txns := s.fab.txns.erase x }

/-- A transaction ends in a REMOTE fault: what waits for it faults. -/
def txnFault (x : Txn) (s : State) : State :=
  let s1 := txnEnd x s
  match x.who with
  | .dma d c slot queue => if (dmaHead s1 d c slot queue).isSome then dmaFault d c slot queue 4 s1 else s1
  | .col d slot op m => match runAt s1 d slot op m with
    | some y => colFail y 3 s1
    | none => s1
  | .pull p r no => match pullOf s1 p r no with
    | some q => pullFail q stTimeout s1
    | none => s1

/-- WRITE_ACK (R425): a write, or a contribution, is acknowledged. -/
def execWriteAck (l : Nat) (s : State) : Res :=
  answerRow l 2 (fun q t => match txnOf t q.pkt.tag with
    | none => t
    | some x => match x.who with
      | .dma _ _ _ _ | .pull _ _ _ => txnEnd x t
      | .col d slot op m => colQuiet d slot op m (txnEnd x t)) s

/-- A header of a buddy region has been read: a complete checkpoint is noted. -/
def buddyHeader (y : ColRun) (half : Nat) (b : List Byte) (s : State) : State :=
  if leAt b 0 4 = 0x54504B43 then
    setRun { y with found := (y.found.filter fun x => x.1 < half) ++ [(half, dw (leAt b 8 8))]
      ++ y.found.filter fun x => half < x.1 } s
  else s

/-- READ_DATA (R425): data, or poison in AUX bit 0. -/
def execReadData (l : Nat) (errs : List (Nat × Nat)) (s : State) : Res :=
  answerRow l 4 (fun q t => match txnOf t q.pkt.tag with
    | none => t
    | some x =>
      let poison := q.pkt.aux % 2 == 1
      let u := applyErrs errs (txnEnd x t)
      match x.who with
      | .dma d c slot queue => dmaData d c slot queue (x.into.getD 0) q.pkt.payload poison u
      | .pull p r no => pullData p r no (x.into.getD 0) q.pkt.payload poison u
      | .col d slot op m => match runAt u d slot op m with
        | none => u
        | some y =>
          if poison then colFail y 4 u
          else colQuiet d slot op m (buddyHeader y (x.into.getD 0) q.pkt.payload u)) s

/-- NACK (R425, R428). -/
def execNack (l : Nat) (s : State) : Res :=
  answerRow l 7 (fun q t => match txnOf t q.pkt.tag with
    | none => t
    | some x => txnFault x t) s

/-- The frame of a transaction is still with link `l`. -/
def carries (s : State) (l : Nat) (x : Txn) : Bool :=
  let mine (p : Packet) : Bool := p.tag == x.tag && isRequest p && p.src == ownChip s
  ((lnk s l).unacked.any fun e => e.1.packets.any mine) || ((lnk s l).held.any fun f => f.packets.any mine)

/-- REMOTE_TRANSACTION_TIMEOUT (R428): 2 ms without an acknowledgement. The port that carries the frame goes down, its
replay buffer and receive state are discarded, and its sequence numbers begin anew (log entry 27). -/
def execRemoteTransactionTimeout (tag : W32) (s : State) : Res :=
  match txnOf s tag with
  | none => .next s
  | some x =>
    let s1 := match x.port with
      | some l =>
        if carries s l x then
          let t := portDown l 4 s
          let y := lnk t l
          setLnk t l { y with
            unacked := [], txSeq := 0, rxSeq := 0, rxAny := false, discarding := false, replay := false
            held := y.held.filter fun f => !f.packets.any fun p => p.tag == tag && isRequest p && p.src == ownChip t }
        else s
      | none => s
    .next (txnFault x s1)

/-! ### Signals and collective packets (R432 to R436, R439) -/

/-- The realm bound to a packet's target slot is not that of the packet. -/
def slotForeign (s : State) (q : RxPkt) : Bool := bindOf s q.pkt.slot != some q.realm

/-- SIGNAL (R432): it follows R262 and R263 at the target. -/
def execSignal (l : Nat) (s : State) : Res :=
  packetRow l 5 (fun q t =>
    let p := q.pkt
    if slotForeign t q then refuse q 4 (inPop q t)
    else
      let w := p.aux2.toNat % 2 ^ 32
      let g : Sig := { slot := p.slot, die := if w.testBit 31 then w / 2 ^ 28 % 8 else p.die, entry := w % 2048
                       amount := w / 2 ^ 24 % 16 + 1, step := p.step, fill := false, src := (3, 0, 0) }
      match sigTake g t with
      | none => t
      | some u => inPop q u) s

/-- What becomes of a collective packet by its step (R439): 0 dropped, 1 for the current step, 2 kept for the next one, 3 a
STEP fault. -/
def stepFate (s : State) (j : Job) (slot : Nat) (step : Byte) : Nat :=
  let cur := curStep s slot
  if j.sigDrop || j.aborting then 0
  else if step = BitVec.ofNat 8 cur.toNat then (if j.step.isSome then 1 else 0)
  else if step = BitVec.ofNat 8 (cur.toNat + 1) then 2
  else 3

/-- The running instance that a packet is for. -/
def runFor (s : State) (p : Packet) : Option ColRun :=
  match p.kind with
  | 6 => runAt s p.die p.slot p.aux (p.aux2.toNat / 2 ^ 32)
  | 9 => s.fab.runs.find? fun r => r.die == p.die && r.slot == p.slot && r.op == p.aux
      && !r.got.contains (p.aux2.toNat % 2 ^ 32)
  | _ => s.fab.runs.find? fun r => r.die == p.die && r.slot == p.slot && r.op == p.aux && barLacks r (p.tag.toNat % 256)

/-- Micro-batch that a fault of a packet names. -/
def faultM (p : Packet) : Nat := if p.kind = 6 then p.aux2.toNat / 2 ^ 32 else 0

/-- A REDUCE, COUNT or BARRIER packet for the slot's job: it joins its instance, waits for it, or is dropped. -/
def colTake (q : RxPkt) (s : State) : State :=
  let p := q.pkt
  match jobAt s p.slot with
  | none => s
  | some j =>
    let keep := s.setFab { s.fab with early := s.fab.early ++ [q] }
    match stepFate s j p.slot p.step with
    | 0 => s
    | 2 => keep
    | 3 => colFault p.die p.slot p.aux (faultM p) 7 s
    | _ =>
      if p.kind = 8 ∧ p.aux = 0xFFFF then
        match j.sol with
        | .none => keep
        | .closing => closeAdvance 16 p.slot (closePacket q s)
        | _ => s
      else if (opOn j p.die p.aux).isNone then colFault p.die p.slot p.aux (faultM p) 1 s
      else match runFor s p with
        | some y => colPacket y q (colCount p.die (2 + p.slot) (units32 p.payload.length) s)
        | none =>
          if p.kind = 6 ∧ s.fab.colDone.contains (p.die, p.slot, p.aux, faultM p) then s else keep

/-- A packet for a collective engine. -/
def engineRow (l kind : Nat) (errs : List (Nat × Nat)) (s : State) : Res :=
  packetRow l kind (fun q t =>
    if !colWorks t q.pkt.die then t
    else if slotForeign t q then refuse q 4 (inPop q t)
    else
      let u := colTake q (applyErrs errs (inPop q t))
      if kind = 6 then sendAnswer (answerPacket u q.pkt.src q.pkt.tag .ack) q.realm u else u) s

/-- REDUCE (R433): acknowledged when it is taken. -/
def execReduce (l : Nat) (errs : List (Nat × Nat)) (s : State) : Res := engineRow l 6 errs s

/-- BARRIER (R435, R436). -/
def execBarrier (l : Nat) (s : State) : Res := engineRow l 8 [] s

/-- COUNT (R434). -/
def execCount (l : Nat) (s : State) : Res := engineRow l 9 [] s

/-! ### Transit (R427, R461) -/

/-- Die on which a link's receive group lies. -/
def linkDie (s : State) (l : Nat) : Nat :=
  if 32 ≤ l then (l - 32) / 8
  else match tget none s.fab.plans s.fab.planNo with
    | some pl => ((pl.portSrc.getD l none).map (·.1)).getD 0
    | none => 0

def dfbCount (d k : Nat) (s : State) : State :=
  s.setFab { s.fab with cnt := tmod {} s.fab.cnt d fun x => { x with dfb := tmod 0 x.dfb k (inc32 · 1) } }

/-- A packet is dropped in transit: ROUTE_DROP, and a NACK unless it is itself an answer. -/
def routeDrop (q : RxPkt) (cause : Nat) (s : State) : State :=
  let p := q.pkt
  let s1 := dfbCount (linkDie s q.link) 1
    (logFold ticksMs 0x400C 0xFF 0xFFFF (linkUnit q.link) [dw p.src, dw p.dst, dw cause] s)
  if p.kind = 2 ∨ p.kind = 4 ∨ p.kind = 7 then s1
  else sendAnswer (answerPacket s1 p.src p.tag (.nack cause)) q.realm s1

/-- PACKET_FORWARD (R427, R461). -/
def execPacketForward (l : Nat) (s : State) : Res :=
  match inFirst s l with
  | none => .next s
  | some q =>
    if isOwn s q.pkt.dst then .next s
    else
      let s1 := inPop q s
      if !q.opened then .next (refuse q (realmCheck q.pkt) s1)
      else
        let p := { q.pkt with hops := q.pkt.hops - 1 }
        if p.hops = 0 then .next (routeDrop q 0x11 s1)
        else match sendPacket p q.realm q.red q.nf s1 with
          | some r => .next (dfbCount (linkDie s l) 0 r.2)
          | none => .next (routeDrop q 0x10 s1)

end Sys2Proof.Machine
end

