-- ==== Sys2Proof/Machine/Maint.lean ====
section
/-! DEFINITION. Maintenance (R482 to R513): the arbiter and its locks, spares, the Sentinel's checks, Autumn passes and
the margin plan, patrol scrubbing, and contained restarts of the control processor. -/

namespace Sys2Proof.Machine

open Sys2Proof

/-! ### Resources (R502, R503) -/

/-- The identifier lies within the values of R503, names nothing reserved, and its resource is present. -/
def resOk (s : State) (r : W64) : Bool :=
  let die := fld r 48 8
  let unit := fld r 40 8
  let sub := fld r 32 8
  let dir := fld r 24 8
  fld r 0 24 == 0 && match fld r 56 8 with
    | 1 => r == resId 1 0xFF 0 0 0
    | 2 => die < dies s && r == resDie die
    | 3 => unit < 80 && domPresent s unit && r == resDom unit
    | 4 => die < dies s && unit < 48 && r == resCluster die unit
    | 5 => die < dies s && unit < 48 && sub < 25 && r == resCore die unit sub
    | 6 => unit < 40 && unit / 5 < dies s && r == resStack unit
    | 7 => unit < 40 && unit / 5 < dies s && sub < 16 && r == resChan unit sub
    | 8 => unit < ports s && r == resPort unit
    | 9 => unit < ports s && sub < 8 && dir < 3 && r == resLane unit sub dir
    | 10 => unit < 10 && r == resLaser unit
    | 11 => r == resStore
    | _ => false

/-- Resource kinds of a maintenance class (R502). -/
def classKinds (cls : Nat) : List Nat :=
  match cls with
  | 0 => [1, 2, 3, 4, 8, 10]
  | 1 => [2, 6]
  | 2 => [11]
  | 3 => [8, 9]
  | 4 => [10]
  | 5 => [4, 5]
  | _ => []

/-- Containment by routing and feeding that a lock fixes at its grant (R504). -/
def lockScope (s : State) (r : W64) : List W64 :=
  let feeds (n : Nat) : List Nat := match (laser s n).bus with | some b => [b] | none => []
  match fld r 56 8 with
  | 2 => (portsOfDie s (fld r 48 8)).map resPort
      ++ ((List.range 10).filter fun n => (feeds n).contains (fld r 48 8)).map resLaser
  | 8 => ((List.range 8).filter fun d => (portsOfDie s d).contains (fld r 40 8)).map resDie
  | 9 => ((List.range 8).filter fun d => (portsOfDie s d).contains (fld r 40 8)).map resDie
  | 10 => (feeds (fld r 40 8)).map resDie
  | _ => []

/-- Two resources overlap, one of them that of a held lock (R504). -/
def overlaps (l : Lock) (r : W64) : Bool :=
  lockCovers l r || resInside r l.res || (fld r 56 8 == 2 && l.covers.contains r)
    || (fld r 56 8 == 10 && fld l.res 56 8 == 10)

/-- The table of R505: the two classes exclude each other. -/
def classesClash (a b : Nat) : Bool :=
  let lo := min a b
  let hi := max a b
  match lo with
  | 0 => hi != 2
  | 1 => hi == 1
  | 2 => hi == 2
  | 3 => hi == 3 || hi == 4
  | 4 => hi == 4
  | _ => hi == 5

/-! ### Locks (R502 to R508) -/

def lockAt (s : State) (k : Nat) : Option Lock := tget none s.rel.locks k

/-- Held locks with their handles. -/
def heldLocks (s : State) : List (Nat × Lock) := (List.range 16).filterMap fun k => (lockAt s k).map fun l => (k, l)

/-- The held lock that a request conflicts with: the one whose expected release is earliest. -/
def lockClash (cls : Nat) (r : W64) (s : State) : Option Lock :=
  (heldLocks s).foldl (fun a e =>
    if classesClash cls e.2.cls && overlaps e.2 r then
      match a with
      | some l => if e.2.expect.toNat < l.expect.toNat then some e.2 else a
      | none => some e.2
    else a) none

def logConflict (cls : Nat) (r : W64) (l : Lock) (s : State) : State :=
  logMod 0x7005 r [dw cls, dw l.cls, l.res] s

/-- Hold a lock on the lowest free handle. -/
def lockAdd (cls : Nat) (host request : Bool) (r expect : W64) (s : State) : State × Nat :=
  let k := ((List.range 16).find? fun k => (lockAt s k).isNone).getD 0
  (s.setRel { s.rel with locks := tset none s.rel.locks k (some {
    cls, host, request, res := r, grantRt := rtNow s, expect, covers := lockScope s r }) }, k)

/-- The expected release of a lock whose activity estimates it. -/
def estimate (s : State) : W64 × State :=
  let (i, t) := fresh s
  (Config.lockEstimate i, t)

/-- R506: why a command's request is not granted. -/
def lockRefusal (cls : Nat) (r : W64) (s : State) : Option (State × Result) :=
  match lockClash cls r s with
  | some l => some (logConflict cls r l s,
      { status := stConflict, detail := BitVec.ofNat 16 l.cls, rv0 := l.expect })
  | none => if 16 ≤ (heldLocks s).length then some (s, failWith stNoResource 0) else none

/-- A command's request for a lock of its own activity: the lock is held, or the result that refuses it. -/
def lockTake (cls : Nat) (r : W64) (s : State) : State × Except Result Nat :=
  match lockRefusal cls r s with
  | some x => (x.1, .error x.2)
  | none =>
    let e := estimate s
    let g := lockAdd cls true false r e.1 e.2
    (g.1, .ok g.2)

/-- Stacks of a die or of a stack resource. -/
def stacksOf (r : W64) : List Nat :=
  if fld r 56 8 = 2 then (List.range 5).map (5 * fld r 48 8 + ·) else [fld r 40 8]

def setScrub (r : W64) (v : Bool) (s : State) : State :=
  (stacksOf r).foldl (fun t n => setStack t n { stack t n with scrub := v }) s

/-- Acquisition and training of every dropped position that a LANE_RETRAIN lock covers (R358, R379). A lane's own
position is that of its number, or the spare that it has been moved to. -/
def retrainStart (r : W64) (s : State) : State :=
  let l := fld r 40 8
  let x := lnk s l
  let lane := fld r 56 8 == 9
  let named (sp : List (Nat × Nat)) (p : Nat) : Bool := !lane || laneOfPos sp p == some (fld r 32 8)
  let rx := (List.range 10).filter fun p =>
    (!lane || fld r 24 8 != 0) && (x.dropped.any fun e => e.1 == p) && !x.rxSet.getLsbD p && named x.sparesRx p
  let tx := (List.range 8).filterMap fun n =>
    let p := ((x.sparesTx.find? fun e => e.1 == n).map (·.2)).getD n
    if (!lane || fld r 24 8 != 1) && !x.txSet.getLsbD p && named x.sparesTx p then some p else none
  if !linkLit s l then s
  else tx.foldl (fun t p => retrainPos l p false t) (rx.foldl (fun t p => retrainPos l p true t) s)

/-- A grant starts the activity of its class (R502). -/
def lockBegins (cls : Nat) (r : W64) (s : State) : State :=
  match cls with
  | 1 => setScrub r true s
  | 3 => retrainStart r s
  | _ => s

/-- A lock is released: its activity has ended, and moves that waited for it are made (R491, R508). -/
def lockDrop (k : Nat) (s : State) : State :=
  match lockAt s k with
  | none => s
  | some l =>
    let s1 := s.setRel { s.rel with locks := tset none s.rel.locks k none }
    let s2 := if l.cls = 1 then setScrub l.res false s1 else s1
    if l.cls = 0 ∨ l.cls = 3 then
      (List.range 32).foldl (fun t p => if lockCovers l (resPort p) || (fld l.res 56 8 == 9 && fld l.res 40 8 == p)
        then moveStuck p t else t) s2
    else s2

/-- MNT grants locks (R514). -/
def mntGrants (s : State) : Bool := blkOn s baseMNT

/-- An internal request (R506): granted, or queued behind the lock it conflicts with, which is logged once. During a contained restart
it is queued (R508). -/
def askLock (cls : Nat) (r : W64) (s : State) : State :=
  let q : LockReq := { cls, res := r }
  if s.rel.queue.contains q then s
  else
    let wait (t : State) : State := t.setRel { t.rel with queue := t.rel.queue ++ [q] }
    if !mntGrants s || !cpRuns s then wait s
    else match lockClash cls r s with
      | some l => wait (logConflict cls r l s)
      | none =>
        if 16 ≤ (heldLocks s).length then wait s
        else
          let e := estimate s
          lockBegins cls r (lockAdd cls false false r e.1 e.2).1

/-- MAINT_REQUEST (R135, R502 to R507). -/
def execMaintRequest (c : Cmd) (s : State) : Res :=
  runCmd { op := 0x0601, s := true, args := 7 } c
    (fun e t =>
      let d := e.desc
      firstOf [badWhen (5 < d.a0.toNat) 0,
        badWhen (!resOk t d.a1 || !(classKinds d.a0.toNat).contains (fld d.a1 56 8)) 1,
        badWhen (d.a2.toNat < 1 || maxHours t * 3600 * 1000000 < d.a2.toNat) 2])
    noFlag (fun _ t => !mntGrants t)
    (fun e t =>
      let d := e.desc
      match lockRefusal d.a0.toNat d.a1 t with
      | some x => (x.1, some x.2)
      | none =>
        let g := lockAdd d.a0.toNat true true d.a1 (rtNow t + d.a2 * 1250) t
        (lockBegins d.a0.toNat d.a1 g.1, some (okRv (dw g.2) 0 0))) s

/-- MAINT_RELEASE (R507). -/
def execMaintRelease (c : Cmd) (s : State) : Res :=
  runCmd { op := 0x0602, s := true, args := 1 } c
    (fun e t => badWhen (16 ≤ e.desc.a0.toNat || !((lockAt t e.desc.a0.toNat).any fun l => l.request)) 0) noFlag noFlag
    (fun e t => (lockDrop e.desc.a0.toNat t, some ok)) s

/-- MAINT_LOCK_EXPIRY (R507): not during a contained restart, which keeps every lock held (R20). -/
def execMaintLockExpiry (k : Nat) (s : State) : Res :=
  match lockAt s k with
  | none => .next s
  | some l =>
    if !l.request || !cpRuns s || (rtNow s).toNat < l.grantRt.toNat + maxHours s * 3600 * ticksSec then .next s
    else .next (logMod 0x7008 l.res [dw k, dw l.cls] (lockDrop k s))

/-! ### Spares (R298, R354, R380, R487, R488, R491) -/

/-- A job that uses die `d` is started. -/
def dieStarted (s : State) (d : Nat) (p : Job → Bool) : Bool :=
  [s.jobA, s.jobB].any fun j => j.any fun j => j.started && (jobDies j).contains d && p j

/-- The handle of the CORE_SPARE lock, not one of MAINT_REQUEST, that covers a core. -/
def spareLock (s : State) (d c k : Nat) : Option Nat :=
  ((heldLocks s).find? fun e => e.2.cls == 5 && !e.2.request && lockCovers e.2 (resCore d c k)).map (·.1)

/-- The cause for which a core is marked. -/
def markCause (s : State) (key : Nat) : Nat := ((s.flash.marks.find? fun m => m.1 == key).map (·.2)).getD 0

/-- R488: the takeover runs under its lock, which it releases; during a contained restart it runs to its end and the lock stays held
(R20, R508). -/
def takeover (d c k : Nat) (s : State) : State :=
  match spareLock s d c k with
  | none => s
  | some h =>
    let t := retireCore d c k (markCause s (coreKey d c k)) s
    if cpRuns s then lockDrop h t else t

/-- A marked core whose lock is held is taken over at once while no job is started on its die. -/
def takeoverNow (d c k : Nat) (s : State) : State :=
  if coreMarked s (coreKey d c k) && !dieStarted s d (fun _ => true) then takeover d c k s else s

/-- Mark a core and ask for its lock (R487, R488). -/
def markAsk (d c k cause : Nat) (s : State) : State :=
  if coreMarked s (coreKey d c k) then s
  else
    let s1 := markCore (coreKey d c k) cause s
    if coreMarked s1 (coreKey d c k) then takeoverNow d c k (askLock 5 (resCluster d c) s1) else s1

/-- Die `d` takes its turn: the slot switch of an Equinox is ordered and not yet over on every core (R162, R269). -/
def dieTurns (s : State) (d : Nat) : Bool := s.cmp.core.any fun e => e.1 / 1200 == d && e.2.switchTo.isSome

/-- CORE_TAKEOVER (R19, R488): at the next Equinox of the die or Solstice of a job that uses it, or at once while none is started. A
request lost with a Spring is made afresh (R508). -/
def execCoreTakeover (d c k : Nat) (s : State) : Res :=
  let x := core s d c k
  if !coreMarked s (coreKey d c k) || 8 ≤ d || 48 ≤ c || 25 ≤ k then .next s
  else if (spareLock s d c k).isNone then .next (takeoverNow d c k (askLock 5 (resCluster d c) s))
  else if x.task.isSome || x.pendTask.isSome then .next s
  else if dieStarted s d (fun _ => true) && !dieTurns s d && !dieStarted s d inSolstice then .next s
  else .next (takeover d c k s)

/-- The first queued request that no longer conflicts. -/
def queueReady (s : State) : Option LockReq :=
  if !mntGrants s || !cpRuns s || 16 ≤ (heldLocks s).length then none
  else s.rel.queue.find? fun q => (lockClash q.cls q.res s).isNone

/-- MAINT_QUEUED_GRANT (R506): a CORE_SPARE request goes on to its takeover when no job is started on the die. -/
def execMaintQueuedGrant (s : State) : Res :=
  match queueReady s with
  | none => .next s
  | some q =>
    let s1 := askLock q.cls q.res (s.setRel { s.rel with queue := s.rel.queue.erase q })
    if q.cls = 5 then
      let d := fld q.res 48 8
      let c := fld q.res 40 8
      match (List.range 25).find? fun k => coreMarked s1 (coreKey d c k) with
      | some k => .next (takeoverNow d c k s1)
      | none => .next s1
    else .next s1

/-- Marked cores of the cluster of a resource. -/
def markedIn (s : State) (r : W64) : Bool :=
  (List.range 25).any fun k => coreMarked s (coreKey (fld r 48 8) (fld r 40 8) k)

/-- MAINT_ACTIVITY_END (R502): the activity of a command other than MAINT_REQUEST has ended. A takeover ends its own
lock, and a staging that runs keeps its lock. -/
def execMaintActivityEnd (k : Nat) (s : State) : Res :=
  match lockAt s k with
  | none => .next s
  | some l =>
    if !cpRuns s || !l.host || l.request || (l.cls == 5 && markedIn s l.res) || s.mgt.upd.lock == some k then .next s
    else .next (lockDrop k s)

/-- SPARE_SWAP of a core (R488). -/
def swapCore (r : W64) (s : State) : State × Option Result :=
  let d := fld r 48 8
  let c := fld r 40 8
  let k := fld r 32 8
  let key := coreKey d c k
  match lockRefusal 5 (resCluster d c) s with
  | some x => (x.1, some x.2)
  | none =>
    if coreMarked s key || (core s d c k).retired then (s, some (failWith stNoResource 0))
    else
      let g := lockTake 5 (resCluster d c) (markCore key 3 s)
      (takeoverNow d c k g.1, some (okRv 0 0 0))

/-- SPARE_SWAP of a channel (R298): retirement is armed for the next formation of the map. -/
def swapChan (r : W64) (s : State) : State × Option Result :=
  let n := fld r 40 8
  let q := fld r 32 8
  let x := stack s n
  if tget .present x.chans q = .retired then (s, some (failWith stNoResource 0))
  else
    let s1 := setStack s n { x with
      chans := tset .present x.chans q .armed
      alsoFailing := if tget .present x.chans q == .failing then q :: x.alsoFailing else x.alsoFailing }
    (s1.setFlash { s1.flash with chans := tset .present s1.flash.chans (80 * (n / 5) + 16 * (n % 5) + q) .armed },
      some (okRv 0 0 0))

/-- The receive half of a lane's swap: the remote engine is asked to move the lane. -/
def swapRx (l n : Nat) (s : State) : Option State :=
  if (freeSpare (lnk s l) (lnk s l).sparesRx l).isNone then none else some (sendControl l 6 (leBytes 1 n) s)

/-- SPARE_SWAP of a lane (R380). -/
def swapLane (r : W64) (s : State) : State × Option Result :=
  let l := fld r 40 8
  let n := fld r 32 8
  let done := match fld r 24 8 with
    | 0 => spareTx l n s
    | 1 => swapRx l n s
    | _ => (spareTx l n s).bind (swapRx l n)
  match done with
  | some t => (t, some (okRv 1 0 0))
  | none => (s, some (failWith stNoResource 0))

/-- SPARE_SWAP of a laser (R354): the laser is switched off and reported as retired. -/
def swapLaser (r : W64) (power low : Nat) (s : State) : State × Option Result :=
  let n := fld r 40 8
  match lockTake 4 r s with
  | (t, .error x) => (t, some x)
  | (t, .ok _) =>
    match (hotSpare s n), (laser s n).bus with
    | some _, some b =>
      let t1 := setLaser t n { laser t n with bus := none, hot := false, retired := true, bias := 0, mean := 0, min := 0 }
      (laserReplace n b power low t1, some (okRv 1 0 0))
    | _, _ => (s, some (failWith stNoResource 0))

/-- Kind of resource for each kind of swap (R503). -/
def swapKind (k : Nat) : Nat :=
  match k with | 1 => 5 | 2 => 7 | 3 => 9 | 4 => 10 | _ => 0

/-- SPARE_SWAP (R135, R298, R354, R380, R488): `power` and `low` are the mean and lowest line power that a spare laser
brings. -/
def execSpareSwap (c : Cmd) (power low : Nat) (s : State) : Res :=
  runCmd { op := 0x0604, s := true, args := 3 } c
    (fun e t => firstOf [badWhen (e.desc.a0.toNat < 1 || 4 < e.desc.a0.toNat) 0,
      badWhen (!resOk t e.desc.a1 || fld e.desc.a1 56 8 != swapKind e.desc.a0.toNat) 1])
    noFlag
    (fun e t =>
      ((e.desc.a0 == 1 || e.desc.a0 == 4) && !mntGrants t)
        || (e.desc.a0 == 4 && (laser t (fld e.desc.a1 40 8)).bus.isNone))
    (fun e t => match e.desc.a0.toNat with
      | 1 => swapCore e.desc.a1 t
      | 2 => swapChan e.desc.a1 t
      | 3 => swapLane e.desc.a1 t
      | _ => swapLaser e.desc.a1 power low t) s

/-! ### The Sentinel (R484 to R487) -/

/-- Strikes in force are kept; the rest have expired. -/
def strikesKept (s : State) : List (Nat × W64) :=
  s.flash.strikes.filter fun e => (rtNow s).toNat - e.2.toNat < ticksDay

/-- A core takes a strike; the third marks it. -/
def strike (d c k : Nat) (s : State) : State :=
  let key := coreKey d c k
  let s1 := s.setFlash { s.flash with strikes := strikesKept s ++ [(key, rtNow s)] }
  if 3 ≤ strikesOf s1 key then markAsk d c k 1 s1 else s1

/-- Data of SENTINEL_MISMATCH (R486). -/
def diffData (s : State) (d slot tag checker : Nat) (rt : W64) (x : DiffIn) : List W64 :=
  [dw slot, dw tag, dw checker, packW [x.pc % 256, x.pc / 256, x.index % 256, x.index / 256], x.end1, x.end2, dw x.temp,
    dw (dieMhz s d), rt, packW ((tget {} s.dsc d).forecast), packW [x.wf, x.af, b2n x.skip, b2n x.ns]]

/-- The conditions of a core's last mismatch are kept for the replay (R496). -/
def noteCond (key : Nat) (data : List W64) (s : State) : State :=
  s.setFlash { s.flash with strikeCond := tset [] s.flash.strikeCond key data }

/-- SENTINEL_CHECK_DONE (R484, R486): both cores of a check have ended; `diff` is what the comparison found. -/
def execSentinelCheckDone (d c k : Nat) (diff : Option DiffIn) (s : State) : Res :=
  match s.rel.checks.find? fun x => x.die == d && x.cluster == c && x.core == k && x.ended with
  | none => .next s
  | some x =>
    let s2 := checksDrop (· == x) s
    let s3 := s2.setRel { s2.rel with sampled := inc32 s2.rel.sampled 1 }
    match diff with
    | none => .next s3
    | some y =>
      let data := diffData s d x.slot x.tag.toNat x.checker x.rt y
      let s4 := s3.setRel { s3.rel with mismatch := inc32 s3.rel.mismatch 1 }
      let s5 := ctxAbort x.slot (logCtx 0x7001 x.slot (resCore d c k) data s4)
      .next (strike d c x.checker (strike d c k (noteCond (coreKey d c k) data s5)))

/-- STRIKE_EXPIRY (R487). -/
def execStrikeExpiry (s : State) : Res := .next (s.setFlash { s.flash with strikes := strikesKept s })

/-! ### Patrol scrubbing and channels (R298, R300) -/

/-- LPX_SCRUB_SCHEDULE (R300): the firmware asks for the lock of a die. -/
def execLpxScrubSchedule (d : Nat) (s : State) : Res :=
  if dies s ≤ d || !domOn s (8 * d + 7) || !cpRuns s then .next s else .next (askLock 1 (resDie d) s)

/-- Granules of die `d` that do not read clean. -/
def badGranules (s : State) (d : Nat) : List Nat :=
  (s.mem.lpxEcc.filter fun e => 64 * e.1 / 0x4000000000 == d).map (·.1)

/-- The patrol reads one granule and rewrites it when its read was corrected. -/
def patrolGranule (s : State) (g : Nat) : State :=
  let s1 := (granuleCheck (false, s) g).2
  if granuleEcc (tget 0 s.mem.lpxEcc g) = .correctable then s1.setMem { s1.mem with lpxEcc := tdrop s1.mem.lpxEcc g } else s1

/-- PATROL_DONE (R300): the patrol has read every granule of the stacks that it scrubs on die `d`. A lock of
MAINT_REQUEST stays held. The patrol pauses during a contained restart (R20). -/
def execPatrolDone (d : Nat) (errs : List (Nat × Nat)) (s : State) : Res :=
  let on := (List.range 5).filter fun i => (stack s (5 * d + i)).scrub
  if on.isEmpty || !cpRuns s then .next s
  else
    let s1 := applyErrs errs s
    let gs := (badGranules s1 d).filter fun g => on.contains ((rawPlace s1 d (64 * g % 0x4000000000)).1 % 5)
    let s2 := gs.foldl patrolGranule s1
    let s3 := setScrub (resDie d) false s2
    .next ((heldLocks s3).foldl (fun t e =>
      if e.2.cls == 1 && !e.2.host && e.2.res == resDie d then lockDrop e.1 t else t) s3)

/-- WCK_TRACKING_LOST (R298). -/
def execWckTrackingLost (n q : Nat) (s : State) : Res :=
  if !domOn s (8 * (n / 5) + 7) then .next s else .next (chanFailing n q 2 s)

/-! ### Autumn passes (R493 to R499) -/

/-- A pass starts (R495). -/
def passStart (s : State) : State :=
  let n := s.flash.passStarted + 1
  (s.setRel { s.rel with autumn := { running := true, number := n, stepMhz := s.rel.autumn.stepMhz } }).setFlash
    { s.flash with passStarted := n, passAbandoned := some n }

/-- AUTUMN_PASS (R135, R495). AGE in Fault runs no pass. -/
def execAutumnPass (c : Cmd) (s : State) : Res :=
  runCmd { op := 0x0603, s := true } c noBad noFlag (fun _ t => !blkOn t baseAGE)
    (fun _ t =>
      if t.rel.autumn.running then (t, some (failWith stBusy 0))
      else
        let u := passStart t
        (u, some (okRv (dw u.rel.autumn.number) 0 0))) s

/-- AUTUMN_SCHEDULE (R495). -/
def execAutumnSchedule (s : State) : Res :=
  if agePeriod s = 0 || s.rel.autumn.running || !blkOn s baseAGE || s.phase != .running || !cpRuns s then .next s
  else .next (passStart s)

/-- The die of a slice's resource, if it has one. -/
def sliceDie (s : State) (r : W64) : Option Nat :=
  match fld r 56 8 with
  | 3 => some (fld r 40 8 / 8)
  | 2 => some (fld r 48 8)
  | 4 => some (fld r 48 8)
  | 8 => (List.range 8).find? fun d => (portsOfDie s d).contains (fld r 40 8)
  | 10 => (laser s (fld r 40 8)).bus
  | _ => none

/-- The resource suits the order (R496). -/
def sliceFits (s : State) (order : Nat) (r : W64) : Bool :=
  resOk s r && match order with
    | 1 => fld r 56 8 == 3 && fld r 40 8 < 64 && fld r 40 8 % 8 < 4
    | 2 => fld r 56 8 == 2
    | 3 => fld r 56 8 == 10
    | 4 => fld r 56 8 == 2
    | 5 => fld r 56 8 == 2
    | 6 => fld r 56 8 == 8
    | 7 => fld r 56 8 == 4
    | 8 => fld r 56 8 == 1
    | _ => false

/-- A core that holds a strike and no task is replayed; a difference is a mismatch with no step aborted (R496). -/
def replay (d c : Nat) (s : State) (e : Nat × DiffIn) : State :=
  let key := coreKey d c e.1
  let x := core s d c e.1
  if 25 ≤ e.1 || strikesOf s key = 0 || x.task.isSome || x.retired then s
  else
    let data := diffData s d x.slot 0 0x1E (rtNow s) e.2
    let s1 := s.setRel { s.rel with mismatch := inc32 s.rel.mismatch 1 }
    strike d c e.1 (logMod 0x7001 (resCore d c e.1) data s1)

/-- What a slice of orders 1 to 7 does (R493, R494, R496). -/
def sliceWork (order : Nat) (r : W64) (i : SliceIn) (s : State) : State :=
  let a := s.rel.autumn
  let n := fld r 40 8
  let keep (b : Autumn) : State := s.setRel { s.rel with autumn := b }
  match order with
  | 1 => keep { a with
      fmax := tset 0 a.fmax n (i.mhz * 97 / 100 / 25 * 25), vguard := tset 0 a.vguard n i.mv
      misses := tset 0 a.misses n i.misses }
  | 2 => keep { a with vmin := i.vmin.foldl (fun t e => tset 0 t e.1 e.2) a.vmin }
  | 3 => keep { a with bias := tset (0, 0) a.bias n (i.bias, i.slope) }
  | 4 =>
    let d := fld r 48 8
    let put (t : Tbl OptRing) (e : Nat × Nat × W32) : Tbl OptRing :=
      if e.1 < 224 ∧ e.2.1 < 4 then
        tmod {} t (224 * d + e.1) fun (x : OptRing) => { x with ff := tset 0 x.ff e.2.1 e.2.2 }
      else t
    s.setOpt { s.opt with ring := i.ff.foldl put s.opt.ring }
  | 5 =>
    if 100 * i.width < 60 * Config.eyeWidth i.stack i.chan && i.stack / 5 == fld r 48 8 && i.chan < 16 then
      chanFailing i.stack i.chan 3 s
    else s
  | 6 => keep { a with eyes := i.eyes.foldl (fun t e => tset 0 t (10 * n + e.1 % 10) e.2) a.eyes }
  | 7 => i.diffs.foldl (replay (fld r 48 8) n) s
  | _ => s

/-! The commit (R497, R498). -/

/-- Present quadrant domains. -/
def quads (s : State) : List Nat := (List.range 64).filter fun n => n % 8 < 4 && n / 8 < dies s

/-- FMAX of a quadrant: as measured in the pass, or that of the plan in force; the factory plan's is its clock. -/
def fmaxOf (s : State) (n : Nat) : Nat :=
  match s.rel.autumn.fmax.find? fun e => e.1 == n with
  | some e => e.2
  | none =>
    let p := planInForce s
    match p.domains.find? fun e => e.1 == n with
    | some e => e.2.2.1
    | none => p.clockKhz / 1000

/-- Insertion into an ascending list. -/
def insertNat (x : Nat) : List Nat → List Nat
  | [] => [x]
  | y :: l => if x ≤ y then x :: y :: l else y :: insertNat x l

/-- Twice the median: the middle value, or the mean of the two middle values (log entry 30). -/
def quadMedian2 (l : List Nat) : Nat :=
  let m := l.foldl (fun a x => insertNat x a) []
  m.getD ((m.length - 1) / 2) 0 + m.getD (m.length / 2) 0

/-- Quadrants that the commit excludes: more than 100 MHz below the median, slowest first, two in all (log entry 30). -/
def slowQuads (s : State) : List Nat :=
  let qs := quads s
  let out := qs.filter (domExcluded s)
  let m := quadMedian2 (qs.map (fmaxOf s))
  let slow := qs.filter fun n => !out.contains n && 2 * fmaxOf s n + 200 < m
  let order := (slow.map (fmaxOf s)).foldl (fun a x => insertNat x a) []
  (order.flatMap fun f => slow.filter fun n => fmaxOf s n == f).eraseDups.take (2 - out.length)

/-- The new plan (R497). What no rule computes comes with the slice. -/
def newPlan (i : SliceIn) (s : State) : Margin :=
  let a := s.rel.autumn
  let p := planInForce s
  let gone := slowQuads s
  let serve := (quads s).filter fun n => !gone.contains n && !domExcluded s n
  let clk := serve.foldl (fun m n => min m (fmaxOf s n)) (min 1800 (p.clockKhz / 1000))
  let old (n : Nat) := tget (0, 0, 0, 0, false) p.domains n
  let entry (n : Nat) : Nat × Nat × Nat × Nat × Bool :=
    let o := old n
    let quad := (quads s).contains n
    (if quad then
        match a.vguard.find? fun e => e.1 == n with
        | some e => e.2 + 10 * (tget 0 a.misses n / 10000)
        | none => o.1
      else o.1,
     if quad then fmaxOf s n else 0,
     match a.vmin.find? fun e => e.1 == n with | some e => e.2 | none => o.2.2.1,
     match i.age.find? fun e => e.1 == n with | some e => e.2 % 256 | none => o.2.2.2.1,
     o.2.2.2.2 || gone.contains n)
  { factory := false, replan := decide (clk < p.clockKhz / 1000), pass := a.number, clockKhz := 1000 * clk, rt := rtNow s
    domains := (List.range 80).foldl (fun t n => tset (0, 0, 0, 0, false) t n (entry n)) []
    lasers := (List.range 10).foldl (fun t n =>
      let o := tget (0, 0, 0) p.lasers n
      match a.bias.find? fun e => e.1 == n with
      | some e => tset (0, 0, 0) t n (e.2.1, o.2.1, e.2.2)
      | none => tset (0, 0, 0) t n o) []
    bus := p.bus
    gains := i.gains.foldl (fun t e => tset (0, 0, false) t e.1 e.2) p.gains
    lanes := (List.range 320).foldl (fun t k =>
      let o := tget (0, 0, 0, false) p.lanes k
      let q := (i.eq.find? fun e => e.1 == k).map (·.2)
      tset (0, 0, 0, false) t k ((q.map (·.1)).getD o.1, (q.map (·.2)).getD o.2.1,
        ((a.eyes.find? fun e => e.1 == k).map (·.2)).getD o.2.2.1,
        (lnk s (k / 10)).sparesTx.any (fun e => e.2 == k % 10) || (lnk s (k / 10)).sparesRx.any fun e => e.2 == k % 10)) [] }

/-- A quadrant is excluded: its blocks are disabled, steps on its clusters are aborted (R248), and its domain is powered
off. -/
def excludeQuad (n : Nat) (s : State) : State :=
  let d := n / 8
  let cs := (List.range 12).map (12 * (n % 8) + ·)
  let s1 := logMod 0x700A (resDom n) [] s
  let s2 := cs.foldl (fun t c => [baseCLU d c, baseVE d c, baseCCC d c, baseWAT d c].foldl (fun u b =>
    if blkOn u b then setBlk u b { blk u b with st := .disabling, en := false } else u) t) s1
  let s3 := noteAborts 0x700A s (abortWhere (fun j => cs.any (jobUsesCluster j d)) s2)
  let q : PowerSeq := { up := false, todo := [n], why := .exclude }
  if s3.pseq.isSome then s3.setPwait (s3.pwait ++ [q]) else seqRun q [n] s3

/-- The laser targets of the plan in force take effect at once: each active laser and hot spare takes its target (R498). -/
def laserTargets (s : State) : State :=
  (List.range 10).foldl (fun t n =>
    if ((laser t n).bus.isSome || (laser t n).hot) && (laser t n).bias != biasTarget t n then
      biasSet n (BitVec.ofNat 32 (biasTarget t n).toNat) t
    else t) s

/-- The commit slice: the plan is programmed into the slot that the profile names and takes effect. -/
def passCommit (i : SliceIn) (s : State) : State :=
  let slot := (s.prof.map (·.marginSlot)).getD 0
  let old := (planInForce s).clockKhz / 1000
  let from_ := declaredMhz s
  let gone := slowQuads s
  let p := newPlan i s
  let new := p.clockKhz / 1000
  let n := s.rel.autumn.number
  let s1 := gone.foldl (fun t q => excludeQuad q t) s
  let s2 := s1.setFlash { s1.flash with margins := tset {} s1.flash.margins slot p, passNo := n, passAbandoned := none }
  let s2 := laserTargets s2
  let s3 := s2.setRel { s2.rel with autumn := { s2.rel.autumn with stepMhz := if new < from_ then some from_ else none } }
  let s4 := if new < old then logMod 0x7004 0 [dw old, dw new] s3 else s3
  logMod 0x7009 0 [dw n, 0] s4

/-- An internal MARGIN_SWEEP lock on a resource that no slice uses yet. -/
def sweepLock (s : State) (r : W64) : Bool :=
  ((heldLocks s).any fun e => e.2.cls == 0 && !e.2.host && e.2.res == r)
    && !(s.rel.autumn.slices.any fun x => x.2 == r)

/-- AUTUMN_SLICE (R496): in the order of the table, one slice on a die at a time; its lock is granted, or the slice
waits. A pass pauses during a contained restart (R20). -/
def execAutumnSlice (order : Nat) (r : W64) (i : SliceIn) (s : State) : Res :=
  let a := s.rel.autumn
  if !a.running || !cpRuns s || !blkOn s baseAGE || !sliceFits s order r || order < a.order then .next s
  else if a.slices.any fun x => order != x.1 || x.2 == r || ((sliceDie s r).isSome && sliceDie s x.2 == sliceDie s r) then
    .next s
  else
    let s1 := if sweepLock s r then s else askLock 0 r s
    if !sweepLock s1 r then .next s1
    else
      let s2 := s1.setRel { s1.rel with autumn := { s1.rel.autumn with order, slices := s1.rel.autumn.slices ++ [(order, r)] } }
      .next (if order = 8 then passCommit i s2 else sliceWork order r i s2)

/-- AUTUMN_SLICE_DONE (R496): the lock is released; the end of the commit slice ends the pass. -/
def execAutumnSliceDone (r : W64) (s : State) : Res :=
  if !cpRuns s then .next s else match s.rel.autumn.slices.find? fun x => x.2 == r with
  | none => .next s
  | some x =>
    let a := s.rel.autumn
    let s1 := s.setRel { s.rel with autumn := if x.1 = 8 then { stepMhz := a.stepMhz }
      else { a with slices := a.slices.erase x } }
    .next ((heldLocks s1).foldl (fun t e =>
      if e.2.cls == 0 && !e.2.host && e.2.res == r then lockDrop e.1 t else t) s1)

/-- CLOCK_REPLAN_STEP (R498): 25 MHz toward the declared clock. -/
def execClockReplanStep (s : State) : Res :=
  match s.rel.autumn.stepMhz with
  | none => .next s
  | some m =>
    let target := (planInForce s).clockKhz / 1000
    .next (s.setRel { s.rel with autumn := { s.rel.autumn with
      stepMhz := if m ≤ target + 25 then none else some (m - 25) } })

/-- A margin plan (R499). -/
def marginBytes (s : State) (slot : Nat) : List Byte :=
  let p := tget {} s.flash.margins slot
  let head := leBytes 4 1 ++ bytesOf [slot, b2n p.factory + 2 * b2n p.replan, 0, 0] ++ leBytes 4 p.pass ++ leBytes 4 p.clockKhz
    ++ leBytes 8 p.rt.toNat ++ leBytes 8 s.flash.serial.toNat ++ zeros 32
    ++ (List.range 80).flatMap (fun n =>
      let e := tget (0, 0, 0, 0, false) p.domains n
      let quad := n < 64 && n % 8 < 4 && domPresent s n
      leBytes 2 e.1 ++ leBytes 2 (if quad && p.factory then p.clockKhz / 1000 else e.2.1) ++ leBytes 2 e.2.2.1
        ++ bytesOf [e.2.2.2.1, b2n e.2.2.2.2 + 2 * b2n (!domPresent s n)])
    ++ (List.range 10).flatMap (fun n =>
      let e := tget (0, 0, 0) p.lasers n
      leBytes 2 e.1 ++ leBytes 2 e.2.1 ++ leBytes 2 e.2.2 ++ zeros 2)
    ++ (List.range 8).flatMap (fun n => leBytes 2 (tget 0 p.bus n) ++ zeros 2)
    ++ (List.range 8).flatMap (fun n =>
      let e := tget (0, 0, false) p.gains n
      leBytes 2 e.1 ++ leBytes 2 e.2.1 ++ bytesOf [b2n e.2.2] ++ zeros 3)
    ++ (List.range 320).flatMap (fun n =>
      let e := tget (0, 0, 0, false) p.lanes n
      bytesOf [e.1, e.2.1, e.2.2.1, b2n e.2.2.2])
    ++ zeros 1872
  head ++ sha512 head

/-- MARGIN_DIGEST of the plan in force. -/
def marginDigest (s : State) : List Byte := (marginBytes s ((s.prof.map (·.marginSlot)).getD 0)).drop 0xFC0

/-- MARGIN_PLAN_READ (R136, R499). -/
def execMarginPlanRead (c : Cmd) (s : State) : Res :=
  runCmd { op := 0x0705, o := true, t := true, args := 7 } c
    (fun e _ => firstOf [badWhen (4 ≤ e.desc.a0.toNat) 0, badBuf e.desc 1 4096]) noFlag noFlag
    (fun e t =>
      let n := e.desc.a0.toNat
      (intoBuf c 1 (marginBytes t n) t, some (okRv (dw (tget {} t.flash.margins n).clockKhz) 0 0))) s

end Sys2Proof.Machine
end

