-- ==== Sys2Proof/Machine/Events.lean ====
section
/-! DEFINITION. The event log and the journal, telemetry, and the sideband but for firmware update and attestation
(R469 to R471, R515 to R529). -/

namespace Sys2Proof.Machine

open Sys2Proof

/-! ### Records (R331, R524) -/

/-- An event record of 128 bytes. -/
def evBytes (e : Ev) : List Byte :=
  leBytes 2 e.code.toNat ++ bytesOf [sevOfEv e] ++ [e.realm] ++ leBytes 2 e.job.toNat ++ leBytes 2 e.count
    ++ leBytes 8 e.seqNo ++ leBytes 8 e.rt.toNat ++ leBytes 8 e.unit.toNat
    ++ fit 96 (e.data.flatMap fun x => leBytes 8 x.toNat)

/-- A Solstice journal record, with its CRC, in an entry of 128 bytes. -/
def solsticeBytes (kind outcome realm : Nat) (job : W16) (step rt seqNo : W64) : List Byte :=
  let b := leBytes 2 kind ++ bytesOf [outcome, realm] ++ leBytes 2 job.toNat ++ zeros 2 ++ leBytes 8 step.toNat
    ++ leBytes 8 rt.toNat ++ leBytes 8 seqNo.toNat ++ zeros 28
  fit 128 (b ++ leBytes 4 (crc32 b).toNat)

def journalBytes : Journal → List Byte
  | .begin r j st rt n => solsticeBytes 1 0 r j st rt n
  | .done inc r j st rt n => solsticeBytes 2 (b2n inc) r j st rt n
  | .event e => evBytes e

/-! ### Visibility (R526) -/

/-- How a reader sees records of a realm: 0 not at all, 1 with RT, UNIT and DATA masked, 2 in full. `who` is the realm of
a realm ring, or 0 for the operator's rings and the sideband. -/
def visLevel (who realm code : Nat) : Nat :=
  if realm = 0xFF then 2
  else if realm = who then 2
  else if who = 0 ∧ (realm = 1 ∨ realm = 2) then (if code / 0x1000 = 1 then 0 else 1)
  else 0

def visEv (who : Nat) (e : Ev) : Nat := visLevel who e.realm.toNat e.code.toNat

/-- A record as a reader sees it. -/
def evAs (who : Nat) (e : Ev) : Option Ev :=
  match visEv who e with
  | 0 => none
  | 1 => some { e with rt := 0, unit := 0, data := [] }
  | _ => some e

/-- A journal entry's bytes as a reader sees them; a masked Solstice entry reads 0 from its RT on (log entry 31). -/
def journalAs (who : Nat) (x : Journal) : Option (List Byte) :=
  match x with
  | .event e => (evAs who e).map evBytes
  | .begin r _ _ _ _ => mask r (journalBytes x)
  | .done _ r _ _ _ _ => mask r (journalBytes x)
where
  /-- Apply the visibility of a realm. -/
  mask (r : Nat) (b : List Byte) : Option (List Byte) :=
    match visLevel who r 0 with
    | 0 => none
    | 1 => some (fit 128 (b.take 16))
    | _ => some b

/-! ### The transfer of events (R522, R525, R529) -/

/-- Records that the journal takes besides Errors and Criticals. -/
def journalled (e : Ev) : Bool :=
  2 ≤ sevOfEv e || [0x6009, 0x600A, 0x7002, 0x7004, 0x7009].contains e.code.toNat

/-- Place a record in the PLDM event queue of 256. -/
def pldmQueue (e : Ev) (m : Mgt) : Mgt :=
  if m.evq.length < 256 then { m with evq := m.evq ++ [e] }
  else { m with evq := m.evq.drop 1 ++ [e], dropped := satAdd 65535 m.dropped 1 }

/-- Vector 4 of a function (R123): the host may read the record on one of its rings. -/
def vector4 (e : Ev) (p : Nat) (s : State) : State :=
  let own (r : Nat) : Bool := e.realm.toNat == r && (realmOf s r).owner == some p
  if (fn s p).linkUp && (visEv 0 e != 0 || own 1 || own 2) then msix p 4 s else s

/-- One event becomes a log record. -/
def logRecord (s : State) (e0 : Ev) : State :=
  let e := { e0 with seqNo := s.flash.evSeq }
  let s1 := s.setFlash { s.flash with evSeq := s.flash.evSeq + 1 }
  let s2 := s1.setMgt { s1.mgt with log := (e :: s1.mgt.log).take 8192 }
  let s3 := if journalled e then journalAdd (fun _ => .event e) s2 else s2
  let s4 := match evAs 0 e with
    | some v => if 1 ≤ sevOfEv e then s3.setMgt (pldmQueue v s3.mgt) else s3
    | none => s3
  vector4 e 1 (vector4 e 0 s4)

/-- The queued events become log records; those that the full queue lost are then counted in one event (R522). -/
def moveEvents (s : State) : State :=
  let q := s.mgt.hwq
  let s1 := q.foldl logRecord (s.setMgt { s.mgt with hwq := [] })
  if s1.mgt.lost = 0 then s1 else logMod 0x900A 0 [dw s1.mgt.lost] (s1.setMgt { s1.mgt with lost := 0 })

/-- EVENT_LOG_TRANSFER (R522, R525, R529). -/
def execEventLogTransfer (s : State) : Res :=
  if !cpRuns s || !domOn s 76 then .next s else .next (moveEvents s)

/-! ### Reading the log (R517, R527) -/

/-- Entries from an index on as a reader sees them: at most `n` of them, with the index of each. -/
def logFrom (s : State) (who start n : Nat) : List (Nat × List Byte) :=
  ((s.mgt.log.reverse.filter fun e => start ≤ e.seqNo).filterMap fun e =>
    (evAs who e).map fun v => (e.seqNo, evBytes v)).take n

def journalOldest (s : State) : Nat := s.flash.journalNo - s.flash.journal.length

def journalFrom (s : State) (who start n : Nat) : List (Nat × List Byte) :=
  let l := s.flash.journal.reverse
  (((List.range l.length).zip l).filterMap fun x =>
    let i := journalOldest s + x.1
    if i < start then none else (journalAs who x.2).map fun b => (i, b)).take n

def logOldest (s : State) : Nat := (s.mgt.log.getLast?.map (·.seqNo)).getD s.flash.evSeq

/-- The journal index that a low half names (R527). -/
def journalIndex (s : State) (a : Nat) : Nat :=
  let o := journalOldest s
  let d := (a + 2 ^ 32 - o % 2 ^ 32) % 2 ^ 32
  if d < 2 ^ 31 then o + d else o

/-- The index after the last entry returned; where none is, the index at which reading started. -/
def nextIndex (start : Nat) (l : List (Nat × List Byte)) : Nat := (l.getLast?.map fun x => x.1 + 1).getD start

/-- EVENT_LOG_READ (R136, R527). -/
def execEventLogRead (c : Cmd) (s : State) : Res :=
  runCmd { op := 0x0704, o := true, m := true, t := true, args := 7 } c
    (fun e _ => firstOf [badWhen (bit e.desc.a0 63 && fld e.desc.a0 32 31 != 0) 0, badBuf e.desc 1 192]) noFlag noFlag
    (fun e t =>
      let j := bit e.desc.a0 63
      let who := ringRealm c.ring
      let n := (e.desc.a2.toNat - 64) / 128
      let oldest := if j then journalOldest t else logOldest t
      let newest := if j then t.flash.journalNo else t.flash.evSeq
      let start := if j then journalIndex t (fld e.desc.a0 0 32) else max e.desc.a0.toNat oldest
      let l := if j then journalFrom t who start n else logFrom t who start n
      let head := leBytes 4 1 ++ leBytes 4 l.length ++ leBytes 8 oldest ++ leBytes 8 newest ++ zeros 40
      let nx := nextIndex start l
      (intoBuf c 1 (head ++ l.flatMap (·.2)) t,
        some (okRv (if j then dw (nx % 2 ^ 32 + 2 ^ 63) else dw nx) 0 0))) s

/-! ### Telemetry (R469 to R471, R519, R520) -/

/-- Both tenant realms are open, so power is coarsened (R471). -/
def powerCoarse (s : State) : Bool := s.sec.r1.st != .closed && s.sec.r2.st != .closed

/-- A power or current figure as it may be shown. -/
def powerFig (s : State) (k raw : Nat) : Nat := if powerCoarse s then tget 0 s.mgt.coarse k else raw

/-- The figures of a sample, under the keys of `Mgt.coarse`. -/
def powerRaw (i : TelIn) : List (Nat × Nat) :=
  (0, i.pin) :: (1, i.iin) :: i.rails.flatMap fun e => [(2 + 2 * e.1, e.2.2.2), (3 + 2 * e.1, e.2.2.1)]

def le16 (x : Int) : List Byte := leBytes 2 (BitVec.ofInt 16 x).toNat

/-- STATE of set 0x00. -/
def stateTel (s : State) : Nat :=
  match s.phase with | .spring => 1 | .running => 2 | .stopped => 3 | .shutting => 4 | _ => 0

/-- Positions in transmit sets over all ports. -/
def lanesTx (s : State) : Nat := ((List.range 32).map fun p => popcount 10 (lnk s p).txSet.toNat).foldl (· + ·) 0

def effMhz (s : State) : Nat := (List.range (dies s)).foldl (fun m d => min m (dieMhz s d)) 65535

/-- Set 0x00 (R520). -/
def telModule (s : State) (i : TelIn) : List Byte :=
  fit 256 (leBytes 4 1 ++ bytesOf [0, stateTel s]
    ++ leBytes 2 (b2n (faultN s) + 2 * b2n (tripLine s) + 4 * b2n s.cap.coolantCap + 8 * b2n s.cap.active
        + 16 * b2n s.cap.currentLimit + 32 * b2n (powerCoarse s) + 64 * b2n (tenantOpen s))
    ++ leBytes 8 (rtNow s).toNat ++ leBytes 4 i.vin ++ leBytes 4 (powerFig s 1 i.iin) ++ leBytes 4 (powerFig s 0 i.pin)
    ++ leBytes 4 (capW s) ++ leBytes 4 (planInForce s).clockKhz ++ leBytes 2 (effMhz s) ++ le16 i.tj
    ++ leBytes 2 i.flow0 ++ leBytes 2 i.flow1 ++ le16 i.tin0 ++ le16 i.tout0 ++ le16 i.tin1 ++ le16 i.tout1
    ++ le16 (((i.temps.drop 66).take (5 * dies s)).foldl max (-32768))
    ++ leBytes 2 (lanesTx s) ++ leBytes 4 (maskOf 32 fun p => (lnk s p).pst == .up) ++ leBytes 4 s.flash.unavail.toNat)

/-- Set 0x01. -/
def telDomains (s : State) (i : TelIn) : List Byte :=
  (List.range 80).flatMap fun n =>
    let r := tget (0, 0, 0) i.rails n
    bytesOf [domCode s n] ++ zeros 3 ++ leBytes 4 r.1 ++ leBytes 4 (powerFig s (3 + 2 * n) r.2.1)
      ++ leBytes 4 (powerFig s (2 + 2 * n) r.2.2)

/-- The sensor at place `k` of set 0x02 is fitted. -/
def sensorFitted (s : State) (k : Nat) : Bool :=
  if k < 32 then k / 4 < dies s
  else if k < 48 then (k - 32) / 2 < dies s
  else if k < 56 then k - 48 < dies s
  else if k < 66 then true
  else (k - 66) / 5 < dies s

/-- Set 0x02. -/
def telThermal (s : State) (i : TelIn) : List Byte :=
  fit 256 (((List.range 106).flatMap fun k => if sensorFitted s k then le16 (i.temps.getD k 0) else le16 0x7FFF)
    ++ le16 i.tin0 ++ le16 i.tout0 ++ le16 i.tin1 ++ le16 i.tout1)

/-- A counter as the operator may see it: while a tenant realm is open, the total over the package of the last interval
delivered (R469, R470; log entry 32). -/
def counterFig (s : State) (k raw : Nat) : Nat := if tenantOpen s then s.mgt.cntOut.getD k 0 else raw

/-- Mean occupancy of the last interval delivered. -/
def occFig (s : State) (raw : Nat) : Nat :=
  if tenantOpen s then s.mgt.cntOut.getD 1 0 / max 1 (s.mgt.cntOut.getD 0 0) else raw

/-- Register bytes of a resource that the variant lacks: all ones, as its registers read (DESIGN CHOICE, log entry 86). -/
def ones (n : Nat) : List Byte := List.replicate n 0xFF

/-- Set 0x03. -/
def telDies (s : State) (i : TelIn) : List Byte :=
  (List.range 8).flatMap fun d =>
    if dies s ≤ d then ones 25 ++ zeros 7 ++ ones 16 ++ zeros 16
    else
      let x := tget {} s.dsc d
      ((List.range 4).flatMap fun q => leBytes 2 (if domOn s (8 * d + q) then dieMhz s d else 0))
        ++ ((List.range 4).flatMap fun q => leBytes 4 (tget 0 s.thm.droopCount (4 * d + q)).toNat)
        ++ bytesOf [b2n (dieThm s d).throttled] ++ zeros 7
        ++ bytesOf ((List.range 8).map fun k => occFig s (i.occ.getD (8 * d + k) 0))
        ++ leBytes 4 x.eqxCount.toNat ++ leBytes 4 x.lateCount.toNat ++ zeros 16

/-- Set 0x04. -/
def telMemory (s : State) (i : TelIn) : List Byte :=
  (List.range 40).flatMap fun n =>
    if dies s ≤ n / 5 then le16 0x7FFF ++ ones 22 ++ zeros 8
    else
      let x := stack s n
      let b := tget (0, 0) i.stackMb n
      le16 (i.temps.getD (66 + n) 0) ++ leBytes 2 (b2n x.derate + 2 * b2n x.throttle)
        ++ leBytes 4 (counterFig s 2 b.1) ++ leBytes 4 (counterFig s 3 b.2) ++ leBytes 4 x.corr.toNat
        ++ leBytes 4 x.unc.toNat ++ leBytes 4 (regLpx s n 0x20).toNat ++ zeros 8

/-- Set 0x05. -/
def telLinks (s : State) (i : TelIn) : List Byte :=
  (List.range 32).flatMap fun p =>
    if ports s ≤ p then bytesOf [0xFF, 0] ++ ones 30
    else
      let x := lnk s p
      let b := tget (0, 0) i.linkMb p
      bytesOf [pstCode x.pst, 0] ++ leBytes 2 x.txSet.toNat ++ leBytes 2 x.rxSet.toNat ++ leBytes 2 x.rtt.toNat
        ++ leBytes 4 x.replays.toNat ++ leBytes 4 x.drops.toNat ++ leBytes 4 x.cwCorr.toNat ++ leBytes 4 x.cwUnc.toNat
        ++ leBytes 4 (counterFig s 4 b.1) ++ leBytes 4 (counterFig s 5 b.2)

/-- Set 0x06: fields in the order of R519, each as wide as its register (log entry 33). -/
def telOptics (s : State) : List Byte :=
  ((List.range 10).flatMap fun n =>
    let x := laser s n
    fit 16 (bytesOf [x.bus.getD 15 + 16 * b2n x.hot + 32 * b2n x.worn] ++ leBytes 2 x.bias.toNat ++ leBytes 2 (biasLimit s n)
      ++ leBytes 2 x.mean.toNat ++ leBytes 2 x.min.toNat))
    ++ (List.range 8).flatMap fun d => if dies s ≤ d then ones 7 ++ zeros 9 else
      fit 16 (bytesOf [ringCount s d .locked, ringCount s d .sweep, ringCount s d .hold, ringCount s d .lost]
        ++ leBytes 2 (seqr s d).temp.toNat ++ bytesOf [b2n (seqr s d).ff])

/-- Set 0x07. -/
def telServices (s : State) : List Byte :=
  fit 128 (leBytes 8 (rtNow s).toNat ++ leBytes 8 s.rtb.corr.toNat ++ leBytes 4 s.rtb.theta.toNat
    ++ bytesOf [s.rtb.tsrc.toNat] ++ zeros 3 ++ leBytes 4 s.rtb.armed.length ++ leBytes 4 (heldLocks s).length
    ++ leBytes 4 s.rel.sampled.toNat ++ leBytes 4 s.rel.skipped.toNat ++ leBytes 4 s.rel.mismatch.toNat
    ++ leBytes 4 s.flash.passNo ++ leBytes 4 s.flash.unavail.toNat)

/-- The sets of a sample. -/
def telSets (s : State) (i : TelIn) : Tbl (List Byte) :=
  [(0, telModule s i), (1, telDomains s i), (2, telThermal s i), (3, telDies s i), (4, telMemory s i), (5, telLinks s i),
    (6, telOptics s), (7, telServices s)].foldl (fun t e => tset [] t e.1 e.2) []

/-- Sum of a projection over a table. -/
def sumOf {α : Type} (f : α → Nat) (l : List α) : Nat := l.foldl (fun n x => n + f x) 0

/-- Counters of one sample, in the order of `Mgt.cntAcc`; occupancy as its mean over the package. -/
def cntRaw (i : TelIn) : List Nat :=
  [1, sumOf id i.occ / max 1 i.occ.length, sumOf (·.2.1) i.stackMb, sumOf (·.2.2) i.stackMb, sumOf (·.2.1) i.linkMb,
    sumOf (·.2.2) i.linkMb]

def addLists (a b : List Nat) : List Nat := (List.range 6).map fun k => a.getD k 0 + b.getD k 0

/-- R470: counters are gathered from one step end to the next while a tenant realm is open. -/
def gatherCnt (i : TelIn) (s : State) : State :=
  let m := s.mgt
  if !tenantOpen s then s.setMgt { m with cntAcc := [], stepEnds := 0 }
  else
    let a := addLists m.cntAcc (cntRaw i)
    if m.stepEnds = 0 then s.setMgt { m with cntAcc := a }
    else s.setMgt { m with cntAcc := [], cntOut := a, stepEnds := 0 }

/-- R471: power figures are summed over the window. -/
def gatherPower (i : TelIn) (s : State) : State :=
  let m := s.mgt
  s.setMgt { m with
    window := (powerRaw i).foldl (fun t e => tset 0 t e.1 (tget 0 t e.1 + e.2)) m.window, windowCnt := m.windowCnt + 1 }

/-- TELEMETRY_SAMPLE (R519): at each RT that is a multiple of 1 ms. -/
def execTelemetrySample (i : TelIn) (s : State) : Res :=
  if !domOn s 78 then .next s
  else
    let s0 := setCoolant s i.flow0 i.flow1 i.tin0 i.tin1
    let s1 := setPins s0 { s0.sup.pins with vin := i.vin, tout0 := i.tout0, tout1 := i.tout1 }
    let s2 := gatherPower i (gatherCnt i s1)
    .next (noteHottest i.tj (s2.setMgt { s2.mgt with samples := telSets s2 i, sampleRt := rtNow s2 }))

/-- A figure of a window: its mean, power rounded down to a multiple of 25 W. -/
def windowMean (m : Mgt) (k : Nat) : Nat :=
  let v := tget 0 m.window k / max 1 m.windowCnt
  if k = 0 ∨ (k ≠ 1 ∧ k % 2 = 0) then v / 25 * 25 else v

/-- POWER_WINDOW_DELIVERY (R471): a window of 100 ms has ended. -/
def execPowerWindowDelivery (s : State) : Res :=
  let m := s.mgt
  if !domOn s 78 || m.windowCnt = 0 then .next s
  else if !powerCoarse s then .next (s.setMgt { m with window := [], windowCnt := 0 })
  else .next (s.setMgt { m with
    coarse := (List.range 162).foldl (fun t k => tset 0 t k (windowMean m k)) [], window := [], windowCnt := 0 })

/-- TELEMETRY_READ (R136, R519). -/
def execTelemetryRead (c : Cmd) (s : State) : Res :=
  let size (d : Desc) : Nat := [256, 1280, 256, 512, 1280, 1024, 288, 128].getD d.a0.toNat 0
  runCmd { op := 0x0701, s := true, t := true, args := 7 } c
    (fun e _ => firstOf [badWhen (8 ≤ e.desc.a0.toNat) 0, badBuf e.desc 1 (size e.desc)]) noFlag noFlag
    (fun e t => (intoBuf c 1 (fit (size e.desc) (tget [] t.mgt.samples e.desc.a0.toNat)) t, some (okRv t.mgt.sampleRt 0 0))) s

/-! ### Profiling (R137, R469, R470) -/

/-- The session of a ring. -/
def sessOf (s : State) (p r : Nat) : Option ProfSess := s.mgt.sess.find? fun x => x.port == p && x.ring == r

/-- PROFILE_START. -/
def execProfileStart (c : Cmd) (s : State) : Res :=
  runCmd { op := 0x0801, s := true, m := true, args := 15
           deny := fun e _ => if c.ring ≠ 0 && fld e.desc.a0 5 3 != 0 then some 3 else none } c
    (fun e _ =>
      let d := e.desc
      firstOf [badWhen (d.a0 == 0 || 256 ≤ d.a0.toNat) 0, badWhen (d.a1.toNat < 1250) 1, badBuf d 2 0]) noFlag noFlag
    (fun e t =>
      if (sessOf t c.port c.ring).isSome then (t, some (failWith stBusy 0))
      else
        let x : ProfSess := { port := c.port, ring := c.ring, mask := BitVec.ofNat 8 e.desc.a0.toNat, period := e.desc.a1
                              addr := e.desc.a2, len := e.desc.a3, written := 0, stepEnds := 0 }
        (t.setMgt { t.mgt with sess := t.mgt.sess ++ [x] }, some ok)) s

/-- PROFILE_STOP: with no session of the ring, WRONG_STATE (log entry 34). -/
def execProfileStop (c : Cmd) (s : State) : Res :=
  runCmd { op := 0x0802, s := true, m := true } c noBad noFlag (fun _ t => (sessOf t c.port c.ring).isNone)
    (fun _ t => match sessOf t c.port c.ring with
      | none => (t, some (failWith stWrongState 0))
      | some x => (t.setMgt { t.mgt with sess := t.mgt.sess.erase x }, some (okRv x.written 0 0))) s

/-- PROFILE_SAMPLE (R470): a sample period of a session ends with the counters `data`, whose layout no rule gives. While a
tenant realm is open, the operator's samples of bits 0 to 4 are delivered at step ends. A sample that the buffer has no
room for is not written. -/
def execProfileSample (p r : Nat) (data : List Byte) (s : State) : Res :=
  match sessOf s p r with
  | none => .next s
  | some x =>
    if r = 0 && tenantOpen s && fld x.mask 0 5 != 0 && x.stepEnds == 0 then .next s
    else
      let fits := x.written.toNat + data.length ≤ x.len.toNat
      let y := { x with stepEnds := 0, written := if fits then x.written + dw data.length else x.written }
      let s1 := s.setMgt { s.mgt with sess := s.mgt.sess.map fun z => if z = x then y else z }
      .next (if fits then emit (.hostWrite p (x.addr + x.written) data) s1 else s1)

/-! ### The sideband: MCTP (R515, R518, R534) -/

/-- The binding acknowledges packets: 0 SMBus, 1 PCIE0, 2 PCIE1. While Spring is stopped the sideband serves whatever the step of the
stop, unless PD77 is in Fault (R77; DEDUCED, log entry 85). -/
def mctpServes (s : State) (b : Nat) : Bool :=
  (if s.phase == .stopped then b == 0 && (dom s 77).st != .fault else domOn s 77 && blkOn s baseMGT)
    && b < 3 && (b == 0 || (fn s (b - 1)).linkUp)
    && (s.phase == .spring || s.phase == .stopped || s.phase == .running || s.phase == .shutting)

/-- Packets are received. -/
def rxCounts (n : Nat) (s : State) : State := s.setMgt { s.mgt with rx := inc32 s.mgt.rx n }

/-- A request is received. Requests are short: each fits one packet of 64 bytes (R515; log entry 35). -/
def rxCount (s : State) : State := rxCounts 1 s

/-- The CP is away: only MCTP control is served (R518). -/
def cpAway (s : State) : Bool := s.rel.restarting || s.rel.held

/-- An MCTP control request, which every state that acknowledges serves. Commands and completion codes are those of
DSP0236 (log entry 35). -/
def mctpControl (b cmd : Nat) (body : State → State × List Byte) (s : State) : Res :=
  if !mctpServes s b then .next s
  else
    let r := body (rxCount s)
    .next (emit (.mctp cmd r.2) r.1)

def eidOf (s : State) (b : Nat) : Byte := if b = 0 then s.mgt.eidSmbus else if b = 1 then s.mgt.eidPcie0 else s.mgt.eidPcie1

/-- SET_ENDPOINT_ID: the bus owner assigns the binding's endpoint ID. -/
def execSetEndpointId (b : Nat) (eid : Byte) (s : State) : Res :=
  mctpControl b 1 (fun t =>
    if eid = 0 || eid = 0xFF then (t, [2])
    else
      let m := t.mgt
      (t.setMgt (if b = 0 then { m with eidSmbus := eid } else if b = 1 then { m with eidPcie0 := eid }
        else { m with eidPcie1 := eid }), [0, 0, eid, 0])) s

def execGetEndpointId (b : Nat) (s : State) : Res := mctpControl b 2 (fun t => (t, [0, eidOf t b, 0, 0])) s

def execGetEndpointUuid (b : Nat) (s : State) : Res :=
  mctpControl b 3 (fun t => (t, 0 :: (List.range 16).map Config.uuidByte)) s

/-- Message types served. -/
def mctpTypes : List Byte := [0x00, 0x01, 0x05, 0x7E]

/-- GET_MCTP_VERSION_SUPPORT: 0xFF asks for the base specification, 1.3. -/
def execGetMctpVersionSupport (b : Nat) (typ : Byte) (s : State) : Res :=
  mctpControl b 4 (fun t => (t,
    if typ = 0xFF ∨ typ = 0 then [0, 1, 0xF1, 0xF3, 0xF0, 0] else if mctpTypes.contains typ then [0, 0] else [0x80])) s

def execGetMessageTypeSupport (b : Nat) (s : State) : Res :=
  mctpControl b 5 (fun t => (t, [0, 4] ++ mctpTypes)) s

def execGetVendorDefinedMessageSupport (b : Nat) (s : State) : Res :=
  mctpControl b 6 (fun t => (t, [0, 0xFF, 0] ++ leBytes 2 Config.vendorId.toNat)) s

/-- BAD_PEC_PACKET (R515): dropped and counted. -/
def execBadPecPacket (s : State) : Res :=
  if !mctpServes s 0 then .next s else .next (s.setMgt { s.mgt with err := inc32 s.mgt.err 1 })

/-! ### The sideband: vendor-defined messages (R517) -/

/-- EVENT_READ is served while running; JOURNAL_READ from PD77 on (R518). -/
def vendorRead (b cmd : Nat) (served : Bool) (l : List (Nat × List Byte)) (start : Nat) (s : State) : Res :=
  if !mctpServes s b then .next s
  else
    let t := rxCount s
    if cpAway t then .next (emit (.vendor cmd (leBytes 4 4)) t)
    else if !served then .next t
    else .next (emit (.vendor cmd (leBytes 4 0 ++ leBytes 8 (nextIndex start l) ++ l.flatMap (·.2))) t)

def execEventRead (b : Nat) (start : W64) (s : State) : Res :=
  let a := max start.toNat (logOldest s)
  vendorRead b 1 (s.phase == .running || s.phase == .shutting) (logFrom s 0 a 16) a s

def execJournalRead (b : Nat) (start : W64) (s : State) : Res :=
  let a := max start.toNat (journalOldest s)
  vendorRead b 2 true (journalFrom s 0 a 16) a s

/-! ### The sideband: PLDM Base, Platform and FRU (R516, R518, R521, R529) -/

/-- How a PLDM type is answered in the state of R518: none not at all, some 0 served, some code that error. -/
def pldmGate (s : State) (typ : Nat) : Option Nat :=
  if cpAway s then some 4
  else match s.phase with
    | .spring => if typ = 2 then some 4 else some 0
    | .stopped => if typ = 5 then (if s.spring.noVerify then some 4 else some 0) else none
    | .running => some 0
    | .shutting => some 0
    | _ => none

/-- A PLDM request; the body answers a completion code and data. Command numbers are those of the PLDM
specifications (log entry 35). -/
def pldm (b typ cmd : Nat) (body : State → State × Nat × List Byte) (s : State) : Res :=
  if !mctpServes s b then .next s
  else
    let t := rxCount s
    match pldmGate t typ with
    | none => .next t
    | some 0 =>
      let r := body t
      .next (emit (.pldm typ cmd r.2.1 r.2.2) r.1)
    | some code => .next (emit (.pldm typ cmd code []) t)

def execSetTid (b : Nat) (tid : Byte) (s : State) : Res :=
  pldm b 0 1 (fun t => if tid = 0 ∨ tid = 0xFF then (t, 2, []) else (t.setMgt { t.mgt with tid := tid }, 0, [])) s

def execGetTid (b : Nat) (s : State) : Res := pldm b 0 2 (fun t => (t, 0, [t.mgt.tid])) s

/-- Minor version of a PLDM type served: 1.1, 1.2, 1.0 and 1.1. -/
def pldmMinor (typ : Nat) : Option Nat :=
  match typ with | 0 => some 1 | 2 => some 2 | 4 => some 0 | 5 => some 1 | _ => none

def execGetPldmVersion (b : Nat) (typ : Nat) (s : State) : Res :=
  pldm b 0 3 (fun t => match pldmMinor typ with
    | some m => (t, 0, bytesOf [0, 0xF0, 0xF0 + m, 0xF1])
    | none => (t, 0x83, [])) s

def execGetPldmTypes (b : Nat) (s : State) : Res := pldm b 0 4 (fun t => (t, 0, leBytes 8 0x35)) s

/-- Commands of a type. -/
def pldmCommands (typ : Nat) : Option (List Nat) :=
  match typ with
  | 0 => some [1, 2, 3, 4, 5]
  | 2 => some [0x04, 0x0B, 0x0C, 0x0D, 0x11, 0x21, 0x50, 0x51]
  | 4 => some [1, 2]
  | 5 => some [0x01, 0x02, 0x10, 0x13, 0x14, 0x15, 0x16, 0x17, 0x18, 0x1A, 0x1B, 0x1C, 0x1D]
  | _ => none

def execGetPldmCommands (b : Nat) (typ : Nat) (s : State) : Res :=
  pldm b 0 5 (fun t => match pldmCommands typ with
    | some l => (t, 0, leBytes 32 (maskOf 256 l.contains))
    | none => (t, 0x83, [])) s

/-- PLDM_UNSUPPORTED_COMMAND (R516): any other command, or any other type. -/
def execPldmUnsupportedCommand (b typ cmd : Nat) (s : State) : Res :=
  match pldmCommands typ with
  | some l => if l.contains cmd then .next s else pldm b typ cmd (fun t => (t, 5, [])) s
  | none => pldm b typ cmd (fun t => (t, 0x20, [])) s

/-- Sensors of R521: identifier, offset and size of the field in set 0x00. -/
def sensors : List (Nat × Nat × Nat) :=
  [(1, 0x10, 4), (2, 0x14, 4), (3, 0x18, 4), (4, 0x1C, 4), (5, 0x20, 4), (6, 0x24, 2), (7, 0x26, 2), (8, 0x28, 2),
    (9, 0x2A, 2), (10, 0x2C, 2), (11, 0x2E, 2), (12, 0x30, 2), (13, 0x32, 2), (14, 0x34, 2)]

def execGetPdrRepositoryInfo (b : Nat) (s : State) : Res := pldm b 2 0x50 (fun t => (t, 0, leBytes 4 16)) s

/-- GET_PDR: records 1 to 14 are the numeric sensors, 15 and 16 the state sensors 20 and 21; the answer gives the next
record and the sensor. -/
def execGetPdr (b handle : Nat) (s : State) : Res :=
  pldm b 2 0x51 (fun t =>
    let h := if handle = 0 then 1 else handle
    if 16 < h then (t, 0x82, [])
    else (t, 0, leBytes 4 (if h = 16 then 0 else h + 1) ++ leBytes 2 (if h ≤ 14 then h else h + 5))) s

/-- GET_SENSOR_READING: the field of the latest sample. -/
def execGetSensorReading (b id : Nat) (s : State) : Res :=
  pldm b 2 0x11 (fun t => match sensors.find? fun x => x.1 == id with
    | none => (t, 0x80, [])
    | some x => (t, 0, slice (fit 256 (tget [] t.mgt.samples 0)) x.2.1 x.2.2)) s

/-- GET_STATE_SENSOR_READINGS: sensor 20 is STATE, sensor 21 FLAGS[1:0] as two states. -/
def execGetStateSensorReadings (b id : Nat) (s : State) : Res :=
  pldm b 2 0x21 (fun t =>
    let x := fit 256 (tget [] t.mgt.samples 0)
    if id = 20 then (t, 0, 1 :: slice x 5 1)
    else if id = 21 then (t, 0, bytesOf [2, leAt x 6 1 % 2, leAt x 6 1 / 2 % 2])
    else (t, 0x80, [])) s

def execSetEventReceiver (b : Nat) (eid : Option Byte) (s : State) : Res :=
  pldm b 2 4 (fun t => (t.setMgt { t.mgt with evReceiver := eid }, 0, [])) s

/-- EVENT_MESSAGE_SUPPORTED: events are polled, and their class is the OEM class of DSP0248. -/
def execEventMessageSupported (b : Nat) (s : State) : Res := pldm b 2 0x0C (fun t => (t, 0, bytesOf [2, 4, 1, 0xF0])) s

def execEventMessageBufferSize (b : Nat) (n : W16) (s : State) : Res :=
  pldm b 2 0x0D (fun t => (t.setMgt { t.mgt with evBuf := n }, 0, leBytes 2 4096)) s

/-- POLL_FOR_PLATFORM_EVENT_MESSAGE (R529): with `ack` the oldest record is acknowledged and leaves the queue; the answer
carries the record that is then the oldest. -/
def execPollForPlatformEventMessage (b : Nat) (ack : Bool) (s : State) : Res :=
  pldm b 2 0x0B (fun t =>
    let q := if ack then t.mgt.evq.drop 1 else t.mgt.evq
    let u := t.setMgt { t.mgt with evq := q }
    match q with
    | [] => (u, 0, zeros 3)
    | e :: _ => (u, 0, [u.mgt.tid] ++ leBytes 2 1 ++ evBytes e)) s

/-- GET_FRU_RECORD_TABLE_METADATA: one record set of three fields. -/
def execGetFruRecordTableMetadata (b : Nat) (s : State) : Res := pldm b 4 1 (fun t => (t, 0, bytesOf [1, 0, 3, 0])) s

def partNumber (s : State) : String :=
  match s.variant with | .d8 => "XNX880-D8" | .d4 => "XNX880-D4" | .d2 => "XNX880-D2"

/-- GET_FRU_RECORD_TABLE (R516): part number, VARIANT and SERIAL. -/
def execGetFruRecordTable (b : Nat) (s : State) : Res :=
  pldm b 4 2 (fun t => (t, 0, ascii (partNumber t) ++ bytesOf [variantCode t] ++ leBytes 8 t.flash.serial.toNat)) s

end Sys2Proof.Machine
end

