-- ==== Sys2Proof/Machine/Secure.lean ====
section
/-! DEFINITION. Realms, keys, attestation, SPDM and debug sessions (chapter 15), and the orderly shutdown (R78 to R80),
which runs Winter too. -/

namespace Sys2Proof.Machine

open Sys2Proof

/-! ### The attestation report (R462 to R466) -/

def realmCode : RealmSt → Nat
  | .closed => 0 | .opened => 1 | .keyed => 2 | .winter => 3

/-- A realm entry (R463) as a requester sees it: `who` is 0 for the operator, 1 and 2 for the realm rings, 3 for SPDM
and 4 for Winter (R466). -/
def realmEntry (s : State) (who r : Nat) : List Byte :=
  let bound := b2n (s.sec.bindA == some r) + 2 * b2n (s.sec.bindB == some r)
  if r = 0 then fit 32 (bytesOf [0, 2, bound] ++ [Config.operatorVisible])
  else
    let x := realmOf s r
    let own := who == r
    bytesOf [r, realmCode x.st, bound, if own then x.visible.toNat else 0, if own then x.epoch + 4 * b2n x.two else 0]
      ++ zeros 11 ++ (if own then fit 16 x.realmId else zeros 16)

/-- WEIGHT_ROOT (R465). -/
def weightRoot (j : Job) : List Byte := sha512 ((persistChunks j).flatMap fun x => fit 64 (tget [] j.chunks x.1))

/-- A slot entry (R464) as a requester sees it (R466). A fill slot holds no weights (log entry 36). -/
def slotEntry (s : State) (who slot : Nat) : List Byte :=
  let owner := bindOf s slot
  let full := owner == some 0 || owner == some who && (who == 1 || who == 2)
  let kind := if (jobAt s slot).isSome then 1 else if slotHeld s slot then 2 else 0
  let j := if kind = 1 then jobAt s slot else if kind = 2 then jobAt s (1 - slot) else none
  let main := if kind = 1 then jobAt s slot else none
  let see (b : List Byte) : List Byte := if full then b else zeros b.length
  let dig : List Byte := match (if kind = 2 then j.bind (·.fill) else j.bind (·.main)) with
    | some g => fit 64 g.digest
    | none => zeros 64
  leBytes 2 ((j.map (·.id.toNat)).getD 0xFFFF) ++ bytesOf [owner.getD 0xFF, (j.map fun x => stateCode x.state).getD 0, kind,
      (main.map (·.weightSrc)).getD 0] ++ zeros 2
    ++ see (leBytes 8 ((j.map (·.stepNo.toNat)).getD 0) ++ leBytes 4 ((main.map (·.unmeasured)).getD 0)) ++ zeros 12
    ++ see (dig ++ ((main.map weightRoot).getD (zeros 64)) ++ ((main.map fun x => fit 64 x.ckptRoot).getD (zeros 64)))
    ++ zeros 32

/-- FLAGS of the report. -/
def reportFlags (s : State) (clean : Bool) : Nat :=
  b2n s.sec.dbgUsed + 2 * b2n clean + 4 * b2n (twoRealm s) + 8 * b2n ((s.prof.map (·.compat)).getD false)
    + 16 * b2n s.spring.fwFallback + 32 * b2n s.spring.profFallback + 64 * b2n s.rtb.valid

/-- DEBUG_STATE of the report. -/
def debugState (s : State) : Nat := if s.sec.dbgOpen then 3 else if s.sec.dbgUsed then 2 else if s.sec.dbgEver then 1 else 0

/-- The 1,024 bytes of the report that are signed (R462). -/
def reportBody (s : State) (who : Nat) (clean : Bool) (nonce : List Byte) : List Byte :=
  let fw := bootedSlot s
  leBytes 4 0x54414E58 ++ leBytes 2 1 ++ leBytes 2 (reportFlags s clean) ++ leBytes 4 0x600
    ++ bytesOf [who, variantCode s, dies s, (s.prof.map (·.number)).getD 0xFF]
    ++ leBytes 8 (rtNow s).toNat ++ leBytes 8 s.flash.serial.toNat ++ fit 32 nonce
    ++ leBytes 4 Config.romVersion.toNat ++ leBytes 4 fw.version.toNat ++ leBytes 4 fw.svn ++ leBytes 4 s.flash.fuseSvn
    ++ leBytes 4 (planInForce s).clockKhz ++ bytesOf [(s.prof.map (·.marginSlot)).getD 0, debugState s]
    ++ leBytes 2 s.fab.partition ++ leBytes 2 (ownChip s) ++ zeros 6
    ++ fit 64 fw.cpDigest ++ fit 64 fw.lseqDigest ++ fit 64 fw.ucodeDigest ++ fit 64 (marginDigest s)
    ++ fit 64 ((s.fab.plan.map (·.digest)).getD []) ++ [0, 1, 2].flatMap (realmEntry s who)
    ++ slotEntry s who 0 ++ slotEntry s who 1

/-- A signature of 512 bytes under the attestation key, with a fresh salt. -/
def signWith (msg : List Byte) (s : State) : List Byte × State :=
  let (n, t) := fresh s
  ((List.range 512).map (Config.pssSig s.flash.akNo n msg), t)

/-- The signed report; ATT_REPORTS counts it (R481). -/
def signReport (who : Nat) (clean : Bool) (nonce : List Byte) (s : State) : List Byte × State :=
  let b := reportBody s who clean nonce
  let x := signWith b s
  (b ++ x.1, x.2.setSec { x.2.sec with reports := inc32 x.2.sec.reports 1 })

/-- The nonce of ATTEST_REPORT: A0 to A3, A0 first. -/
def nonceOf (d : Desc) : List Byte := [d.a0, d.a1, d.a2, d.a3].flatMap fun a => leBytes 8 a.toNat

/-- ATTEST_REPORT (R462). -/
def execAttestReport (c : Cmd) (s : State) : Res :=
  runCmd { op := 0x0501, o := true, m := true, args := 63, inOpen := true } c (fun e _ => badBuf e.desc 4 1536) noFlag
    (fun _ t => !blkOn t baseATT)
    (fun e t =>
      let r := ringRealm c.ring
      let n := nonceOf e.desc
      let x := signReport r false n t
      let u := if r = 0 then x.2 else setRealm x.2 r { realmOf x.2 r with anchor := some (n, false) }
      (intoBuf c 4 x.1 u, some (okRv 1536 0 0))) s

/-- The certificate chain (R446). -/
def certChain (s : State) : List Byte :=
  let n := Config.certLen s.flash.akNo
  leBytes 2 (68 + n) ++ zeros 2 ++ (List.range 64).map Config.rootDigest ++ (List.range n).map (Config.certByte s.flash.akNo)

/-- CERT_CHAIN_GET. -/
def execCertChainGet (c : Cmd) (s : State) : Res :=
  runCmd { op := 0x0504, o := true, m := true, t := true, args := 3 } c (fun e t => badBuf e.desc 0 (certChain t).length)
    noFlag noFlag
    (fun _ t => (intoBuf c 0 (certChain t) t, some (okRv (dw (certChain t).length) 0 0))) s

/-! ### Opening a realm and its keys (R448 to R453) -/

/-- The realm request. -/
def requestOk (r : Nat) (b : List Byte) : Bool :=
  leAt b 0 2 == 1 && leAt b 2 1 == r && leAt b 3 1 < 16 && zeroAt b 4 60

/-- REALM_OPEN (R449). -/
def execRealmOpen (c : Cmd) (s : State) : Res :=
  let b := bufAt c 0 64
  runCmd { op := 0x0201, m := true, args := 3, inClosed := true } c
    (fun e _ => firstOf [badWhen (e.desc.a0.toNat % 64 != 0 || e.desc.a1 != 64) 0, ifRead e (badWhen (!requestOk c.ring b) 0)]) noFlag
    (fun _ t => (realmOf t c.ring).st != .closed || t.sec.dbgOpen)
    (fun _ t =>
      if c.ring = 2 ∧ !twoRealm t then (t, some (failWith stNoResource 0))
      else (setRealm t c.ring { st := .opened, owner := some c.port, visible := BitVec.ofNat 4 (leAt b 3 1) },
        some (okRv (dw c.ring) 0 0))) s

/-- The blob of a command, unwrapped (R451). -/
def blobOf (s : State) (c : Cmd) : Option (List Byte) :=
  (Config.unwrap s.flash.akNo (bufAt c 0 512)).bind fun b => if b.length = 192 then some b else none

/-- The fields of a key blob and its anchor (R451, R452); kind 1 deliver, 2 rotate. -/
def blobOk (s : State) (r kind : Nat) (b : List Byte) : Bool :=
  let x := realmOf s r
  leAt b 0 2 == 1 && leAt b 2 1 == r && leAt b 3 1 == kind && zeroAt b 4 4 && !zeroAt b 0x10 16
    && (if kind = 1 then zeroAt b 8 8 else zeroAt b 0x60 64 && slice b 0x10 16 == x.realmId)
    && x.anchor == some (slice b 0xA0 32, false)

def linkAtOf (b : List Byte) : W64 := BitVec.ofNat 64 (leAt b 8 8)

/-- Each anchor serves one delivery. -/
def spent (x : Realm) : Option (List Byte × Bool) := x.anchor.map fun a => (a.1, true)

/-- KEY_DELIVER (R452): the realm is Keyed at epoch 0. -/
def execKeyDeliver (c : Cmd) (s : State) : Res :=
  runCmd { op := 0x0502, m := true, args := 3, sec := true, inOpen := true } c (fun e _ => badRec e.desc 0 512) noFlag
    (fun _ t => (realmOf t c.ring).st != .opened)
    (fun _ t => match blobOf t c with
      | none => (t, some (failWith stVerifyFail 0))
      | some b =>
        if !blobOk t c.ring 1 b then (t, some (failWith stVerifyFail 0))
        else
          let x := realmOf t c.ring
          (setRealm t c.ring { x with
            st := .keyed, realmId := slice b 0x10 16, secrets := [(0, slice b 0x20 64)], ckpt := slice b 0x60 64
            epoch := 0, two := false, linkNew := false, sweeping := false, xferSeq := 0, anchor := spent x }, some ok)) s

/-- KEY_ROTATE (R453). -/
def execKeyRotate (c : Cmd) (s : State) : Res :=
  runCmd { op := 0x0503, m := true, args := 3, sec := true } c
    (fun e t => firstOf [badRec e.desc 0 512, ifRead e (match blobOf t c with
      | some b => badWhen ((linkAtOf b).toNat < e.rt.toNat + tick2ms) 0
      | none => none)]) noFlag
    (fun _ t => (realmOf t c.ring).st != .keyed || rtRefused t)
    (fun _ t =>
      let x := realmOf t c.ring
      if x.two then (t, some (failWith stBusy 0))
      else if armFull t then (t, some (failWith stNoResource 0))
      else match blobOf t c with
        | none => (t, some (failWith stVerifyFail 0))
        | some b =>
          if !blobOk t c.ring 2 b then (t, some (failWith stVerifyFail 0))
          else
            let n := (x.epoch + 1) % 4
            let u := setRealm t c.ring { x with
              secrets := tset [] x.secrets n (slice b 0x20 64), epoch := n, two := true, linkNew := false
              linkAt := linkAtOf b, anchor := spent x }
            (arm (linkAtOf b) (.linkEpoch c.ring) u, some (okRv (dw n) 0 0))) s

/-- KEY_SWEEP_START (R304, R453). -/
def execKeySweepStart (r : Nat) (s : State) : Res :=
  let x := realmOf s r
  if !(r == 1 || r == 2) || x.st != .keyed || !x.two || !x.linkNew || x.sweeping || !blkOn s baseSEC
      || (rtNow s).toNat < x.linkAt.toNat + 2500000 then .next s
  else .next (setRealm s r { x with sweeping := true })

/-- The counters of R459 whose keys `p` selects by realm and epoch are destroyed. -/
def dropCounters (p : Nat → Nat → Bool) (s : State) : State :=
  let keep (e : Nat × Nat) : Bool :=
    let k := e.1 / 2 ^ 64 / 256 / 32
    !p (k / 4) (k % 4)
  s.setSec { s.sec with txCtr := s.sec.txCtr.filter keep, rxCtr := s.sec.rxCtr.filter keep }

/-- KEY_SWEEP_DONE (R304): every page of the realm has moved, and the old epoch is retired. -/
def execKeySweepDone (r : Nat) (s : State) : Res :=
  let x := realmOf s r
  if !(r == 1 || r == 2) || !x.sweeping || !blkOn s baseSEC then .next s
  else
    let old := (x.epoch + 3) % 4
    let pages := (s.mem.page.filter fun e => e.2 == some (r, old)).map (·.1)
    let s1 := pages.foldl (fun t pg => movePage pg t) s
    let s2 := setRealm s1 r { x with
      secrets := tset [] x.secrets old [], two := false, linkNew := false, sweeping := false }
    let s3 := dropCounters (fun a e => a == r && e == old) s2
    .next (logFold 0 0x6001 (BitVec.ofNat 8 r) 0xFFFF 0 [dw r, dw old] s3)

/-! ### The orderly shutdown (R78, R79) -/

/-- A job is forced out (R78, R477): it is withdrawn at once, when its abort has been reported, or at the end of the
Solstice in progress. -/
def forceOut (slot : Nat) (s : State) : State :=
  match jobAt s slot with
  | none => s
  | some j =>
    let later (t : State) : State := match jobAt t slot with
      | some k => if k.step.isSome then setJobAt t slot (some { k with withdraw := true }) else withdrawJob slot t
      | none => t
    if inSolstice j then later s else later (commandAbort slot s)

/-- Maintenance stops at its next safe point and its locks are released (R79 item 2, R508). A pass in progress is
abandoned (R498), staging ends and its command with it. -/
def stopMaintenance (s : State) : State :=
  let s1 := (heldLocks s).foldl (fun t x => lockDrop x.1 t) (s.setRel { s.rel with queue := [] })
  let s2 := s1.setRel { s1.rel with autumn := { s1.rel.autumn with running := false, slices := [] } }
  let s3 := s2.setMgt { s2.mgt with upd := {} }
  [0, 1].foldl (fun t p => ((ring t p 0).inflight.filter fun e => e.started && e.desc.opcode == 0x0505 && e.result.isNone).foldl
    (fun u e => endCmd p 0 e (failWith stAborted 0) u) t) s3

/-- The command of a shutdown. -/
def shutEntry (s : State) (h : Shutdown) : Option (Nat × InFlight) :=
  h.port.bind fun p => ((ring s p 0).inflight.find? fun e =>
    e.started && e.no == h.no).map fun e => (p, e)

/-- Ports that are lit. -/
def litPorts (s : State) : List Nat := (List.range 32).filter fun p => p < ports s && (lnk s p).pst != .dark

/-- The event log and the journal go to module flash (R79 item 4), with the count of events lost. -/
def flushEvents (s : State) : State := moveEvents (moveEvents s)

/-- Carry the shutdown on as far as it comes: at most `n` items of R79. -/
def shutGo : Nat → State → State
  | 0, s => s
  | n + 1, s =>
    match s.shut with
    | none => s
    | some h =>
      let goto (k : Nat) (t : State) : State := t.setShut (some { h with item := k })
      match h.item with
      | 1 => if anyJob s then s else shutGo n (goto 2 s)
      | 2 => shutGo n (goto 3 (stopMaintenance s))
      | 3 =>
        let enter (t : State) (r : Nat) : State :=
          if (realmOf t r).st == .opened || (realmOf t r).st == .keyed then startWinter r t else t
        let t := enter (enter s 1) 2
        if tenantOpen t then t else shutGo n (goto 4 t)
      | 4 => if cpRuns s then shutGo n (goto 5 (flushEvents s)) else s
      | 5 =>
        let t := match shutEntry s h with
          | some (p, e) => endCmd p 0 e ok s
          | none => s
        let u := goto 6 t
        (litPorts u).foldl (fun v p => sendPlain p { typ := 0 } v) (emit .departure u)
      | _ => s

def shutAdvance (s : State) : State := shutGo 6 s

/-- A shutdown is accepted. -/
def shutStart (target : ShutTarget) (force : Bool) (port : Option Nat) (no : Nat) (s : State) : State :=
  let t := if force then forceOut 1 (forceOut 0 s) else s
  shutAdvance ((t.setPhase .shutting).setShut (some { target, force, port, no, item := 1 }))

/-- R78 without FORCE. -/
def shutBlocked (s : State) : Bool := anyJob s || !(heldLocks s).isEmpty

/-- SHUTDOWN (R78, R79). -/
def execShutdown (c : Cmd) (s : State) : Res :=
  runCmd { op := 0x0107, s := true, args := 1 } c (fun e _ => badWhen (2 ≤ e.desc.a0.toNat) 0) noFlag
    (fun e t => !forced e.desc && shutBlocked t)
    (fun e t => (shutStart (if e.desc.a0 = 0 then .dormant else .respring) (forced e.desc) (some c.port) e.no t, none)) s

/-- DEPARTURE_PHASE_END (R79 item 7): every domain is powered off. -/
def execDeparturePhaseEnd (s : State) : Res :=
  match s.shut with
  | none => .next s
  | some h =>
    if h.item ≠ 6 then .next s
    else
      let t := (((s.setShut (some { h with item := 7 })).setPwait []).setPseq none)
      .next (seqRun { up := false, todo := [], why := .shutdown } (powerOrder t).reverse t)

/-! ### Winter (R477 to R479) -/

/-- REALM_CLOSE of the steward's ring 0 names a realm by there being one: the open realm, or, with both open, one that the
spec does not name (log entry 1). -/
def closeTarget (ring : Nat) (s : State) : Option Nat :=
  if ring ≠ 0 then some ring
  else
    let isOpen (r : Nat) : Bool := (realmOf s r).st == .opened || (realmOf s r).st == .keyed
    match isOpen 1, isOpen 2 with
    | true, true => some (if Config.closePick s.freeCtr then 2 else 1)
    | true, false => some 1
    | false, true => some 2
    | _, _ => none

/-- Jobs of a realm, by slot. -/
def realmJobs (s : State) (r : Nat) : List Nat := [0, 1].filter fun k => jobIs (some k) s fun j => j.realm == r

/-- REALM_CLOSE (R448, R477). -/
def execRealmClose (c : Cmd) (s : State) : Res :=
  runCmd { op := 0x0202, m := true, s := true, sForce := true, args := 3, inOpen := true } c
    (fun e _ => badBuf e.desc 0 1536) (fun _ t => (closeTarget c.ring t).isNone && winterRuns t)
    (fun e t => match closeTarget c.ring t with
      | none => true
      | some r => !forced e.desc && !(realmJobs t r).isEmpty)
    (fun e t0 => match closeTarget c.ring t0 with
      | none => (t0, some (failWith stWrongState 0))
      | some r =>
        let t := if c.ring = 0 then (fresh t0).2 else t0
        let late := (realmJobs t r).any fun k => jobIs (some k) t inSolstice
        let u := (realmJobs t r).foldl (fun v k => forceOut k v) (startWinter r t)
        (setRealm u r { realmOf u r with
          closeCmd := some (c.port, c.ring, e.no, e.desc.a0, e.desc.a1), closeDeferred := late }, none)) s

/-- Slots bound to a realm. -/
def boundSlots (s : State) (r : Nat) : List Nat := [0, 1].filter fun k => bindOf s k == some r

/-- Step 1: the realm's BAR2 mappings go. -/
def unmapRealm (r : Nat) (s : State) : State :=
  let drop (f : Fn) : Fn := { f with maps := f.maps.filter fun e => !(e.2.any fun m => m.realm == r && m.target < 2 ^ 63) }
  (s.setFn0 (drop s.fn0)).setFn1 (drop s.fn1)

/-- Step 2: cores that hold a bound slot's state, and the slot's contexts. -/
def flushSlot (slot : Nat) (s : State) : State :=
  let t := slotContexts slot s
  t.setCmp { t.cmp with core := tmap {} (fun _ (x : Core) => if x.slot = slot then flushCore x else x) t.cmp.core }

/-- Step 4: the realm's pages are overwritten with the pattern and unassigned (R306). -/
def scrubPages (r : Nat) (s : State) : State :=
  let mine := (s.mem.page.filter fun e => e.2.any fun a => a.1 == r).map (·.1)
  let m := s.mem
  s.setMem { m with
    page := m.page.filter fun e => !(e.2.any fun a => a.1 == r)
    pageGen := m.pageGen.filter fun e => !mine.contains e.1
    lpx := m.lpx.filter fun e => !mine.contains (e.1 / 32768)
    lpxEcc := m.lpxEcc.filter fun e => !mine.contains (e.1 / 0x8000) }

/-- Step 5: everything the realm's keys derive from is zeroised. -/
def destroyKeys (r : Nat) (s : State) : State :=
  let x := realmOf s r
  let s1 := setRealm s r { x with
    winterId := x.realmId, realmId := [], secrets := [], ckpt := [], two := false, linkNew := false, sweeping := false
    anchor := none }
  let s2 := dropCounters (fun a _ => a == r) s1
  s2.setRtb { s2.rtb with armed := s2.rtb.armed.filter fun a => a.2 != .linkEpoch r }

/-- The REALM_CLOSE of a realm still has its ring. -/
def closeHeard (s : State) (p r no : Nat) : Bool :=
  (ring s p r).inflight.any fun e => e.no == no && e.started && !e.dropped

/-- Step 6: the clean report, and the realm is Closed. Profiling sessions of its ring end with it (log entry 37). -/
def winterEnd (r : Nat) (s : State) : State :=
  let x := realmOf s r
  let rep := signReport 4 true (fit 32 (fit 16 x.winterId)) s
  let s1 := match x.closeCmd with
    | some (p, q, no, addr, _) =>
      let t := if closeHeard rep.2 p q no then emit (.hostWrite p addr rep.1) rep.2 else rep.2
      finishCmd p q no (okRv 1536 0 0) x.closeDeferred t
    | none => rep.2
  let s2 := logFold 0 0x6006 (BitVec.ofNat 8 r) 0xFFFF 0 [dw r, rtNow s1 - x.winterFrom] s1
  let s3 := (setRealm s2 r {}).setJobIds (tset 0 s2.jobIds r 0)
  shutAdvance (s3.setMgt { s3.mgt with sess := s3.mgt.sess.filter fun z => z.ring != r })

/-- WINTER_STEP_DONE (R477): step `k` of the Winter of realm `r` completes on every die. With SEC or ATT in Fault, Winter
waits (R479). -/
def execWinterStepDone (r k : Nat) (s : State) : Res :=
  let x := realmOf s r
  if !(r == 1 || r == 2) || x.st != .winter || x.winterStep != some k || !blkOn s baseSEC || !blkOn s baseATT then .next s
  else
    let next (t : State) : Res := .next (setRealm t r { realmOf t r with winterStep := some (k + 1) })
    match k with
    | 1 => if (realmJobs s r).isEmpty then next (unmapRealm r s) else .next s
    | 2 => next ((boundSlots s r).foldl (fun t sl => flushSlot sl t) s)
    | 3 => next ((boundSlots s r).foldl (fun t sl => setBind (slotTags sl t) sl none) s)
    | 4 => next (scrubPages r s)
    | 5 => next (destroyKeys r s)
    | 6 => .next (winterEnd r s)
    | _ => .next s

/-! ### Debug sessions (R473 to R476) -/

/-- DEBUG_ENTER. -/
def execDebugEnter (c : Cmd) (s : State) : Res :=
  runCmd { op := 0x0803, s := true, args := 1, sec := true } c
    (fun e _ => badWhen (e.desc.a0 == 0 || 64 ≤ e.desc.a0.toNat) 0) noFlag (fun _ t => tenantOpen t)
    (fun e t =>
      if t.sec.dbgOpen then (t, some (failWith stBusy 0))
      else
        let g := BitVec.ofNat 8 e.desc.a0.toNat
        (logMod 0x6007 0 [dw g.toNat] (t.setSec { t.sec with
          dbgOpen := true, grant := g, dbgUsed := t.sec.dbgUsed || g != 1, dbgEver := true }), some ok)) s

/-- Aperture mappings are removed (R474). -/
def dropApertures (s : State) : State :=
  let drop (f : Fn) : Fn := { f with maps := f.maps.filter fun e => !(e.2.any fun m => 2 ^ 63 ≤ m.target) }
  (s.setFn0 (drop s.fn0)).setFn1 (drop s.fn1)

/-- DEBUG_EXIT. -/
def execDebugExit (c : Cmd) (s : State) : Res :=
  runCmd { op := 0x0804, s := true, sec := true } c noBad noFlag (fun _ t => !t.sec.dbgOpen)
    (fun _ t => (logMod 0x6007 0 [dw t.sec.grant.toNat]
      (dropApertures (t.setSec { t.sec with dbgOpen := false, grant := 0 })), some ok)) s

/-! ### SPDM (R467). Codes are those of DSP0274 1.2 (log entry 35). -/

/-- Send an ERROR response. -/
def spdmError (code data : Nat) (s : State) : State := emit (.spdm 0x7F (bytesOf [code, data])) s

/-- Requests served: GET_DIGESTS, GET_CERTIFICATE, CHALLENGE, GET_VERSION, GET_MEASUREMENTS, GET_CAPABILITIES,
NEGOTIATE_ALGORITHMS, RESPOND_IF_READY. -/
def spdmServed : List Nat := [0x81, 0x82, 0x83, 0x84, 0xE0, 0xE1, 0xE3, 0xFF]

/-- An SPDM request over binding `b`: served while running, Busy while the CP is away (R518), and answered with
UnexpectedRequest before the negotiation has come as far as `stage`. -/
def spdm (b stage : Nat) (body : State → State) (s : State) : Res :=
  if !mctpServes s b then .next s
  else
    let t := rxCount s
    if cpAway t then .next (spdmError 3 0 t)
    else if !(t.phase == .running || t.phase == .shutting) then .next t
    else if t.mgt.spdmStage < stage then .next (spdmError 4 0 t)
    else .next (body t)

def execGetVersion (b : Nat) (s : State) : Res :=
  spdm b 0 (fun t => emit (.spdm 0x04 (bytesOf [0, 1, 0x00, 0x12])) (t.setMgt { t.mgt with spdmStage := 1, spdmWait := none })) s

/-- GET_CAPABILITIES: CERT, CHAL, MEAS with signature and MEAS_FRESH; CTExponent 18; both sizes 4,096 bytes. -/
def execGetCapabilities (b : Nat) (s : State) : Res :=
  spdm b 1 (fun t => emit (.spdm 0x61 (bytesOf [0, 18, 0, 0] ++ leBytes 4 0x36 ++ leBytes 4 4096 ++ leBytes 4 4096))
    (t.setMgt { t.mgt with spdmStage := max 2 t.mgt.spdmStage })) s

/-- NEGOTIATE_ALGORITHMS: of the masks offered, the answer selects DMTF, SHA-512, RSAPSS-4096 and SHA-512. -/
def execNegotiateAlgorithms (b : Nat) (asym hash : W32) (s : State) : Res :=
  spdm b 2 (fun t => emit (.spdm 0x63 (bytesOf [1, 0] ++ leBytes 4 0x08 ++ leBytes 4 (asym &&& 0x40).toNat
      ++ leBytes 4 (hash &&& 0x04).toNat))
    (t.setMgt { t.mgt with spdmStage := 3 })) s

def execGetDigests (b : Nat) (s : State) : Res :=
  spdm b 3 (fun t => emit (.spdm 0x01 (1 :: sha512 (certChain t))) t) s

/-- GET_CERTIFICATE: a portion of the chain of slot 0. -/
def execGetCertificate (b slot off len : Nat) (s : State) : Res :=
  spdm b 3 (fun t =>
    let chain := certChain t
    if slot ≠ 0 ∨ chain.length ≤ off then spdmError 1 0 t
    else
      let part := slice chain off (min len 4088)
      emit (.spdm 0x02 (bytesOf [0, 0] ++ leBytes 2 part.length ++ leBytes 2 (chain.length - off - part.length) ++ part)) t) s

/-- A measurement block: index, DMTF value type and value. -/
def measBlock (i typ : Nat) (v : List Byte) : List Byte :=
  bytesOf [i, 1] ++ leBytes 2 (v.length + 3) ++ bytesOf [typ] ++ leBytes 2 v.length ++ v

/-- The measurement blocks of R467 over a report; digests carry their type, other values the raw bit with it. -/
def measBlocks (rep : List Byte) (flags prof : List Byte) : List (List Byte) :=
  [measBlock 1 0x80 (slice rep 0x40 4), measBlock 2 0x01 (slice rep 0x60 64), measBlock 3 0x01 (slice rep 0xA0 64),
    measBlock 4 0x01 (slice rep 0xE0 64), measBlock 5 0x03 (slice rep 0x120 64),
    measBlock 6 0x82 (slice rep 0x40 32 ++ flags ++ prof), measBlock 7 0x84 (slice rep 0x1A0 0x260), measBlock 8 0x84 rep]

/-- The blocks of the report made for a nonce. -/
def measure (nonce : List Byte) (s : State) : List (List Byte) × State :=
  let x := signReport 3 false nonce s
  (measBlocks x.1 (slice x.1 6 2) (slice x.1 15 1), x.2)

/-- The answer to a CHALLENGE or a GET_MEASUREMENTS. A request that asks for no signature brings no nonce. -/
def spdmAnswer (q : SpdmReq) (s : State) : State :=
  let (n, t) := fresh s
  let own := drawBytes n 32
  let (k, t1) := fresh t
  let m := measure (if q.sign then q.nonce else drawBytes k 32) t1
  if q.code = 0x83 then
    let all := m.1.flatten
    let sum := if q.summary = 0 then [] else if q.summary = 1 then (List.range 64).map (Config.tcbDigest all) else sha512 all
    let body := bytesOf [0, 1] ++ sha512 (certChain s) ++ own ++ sum ++ zeros 2
    let sig := signWith (q.nonce ++ body) (if q.summary = 0 then t else m.2)
    emit (.spdm 0x03 (body ++ sig.1)) sig.2
  else
    let l := if q.param = 0 then [] else if q.param = 0xFF then m.1 else (m.1[q.param - 1]?).toList
    let rec_ := l.flatten
    let body := bytesOf [if q.param = 0 then 8 else 0, 0, l.length] ++ leBytes 3 rec_.length ++ rec_ ++ own ++ zeros 2
    let after := if q.param = 8 ∨ q.param = 0xFF then m.2 else t1
    if q.sign then
      let sig := signWith (q.nonce ++ body) after
      emit (.spdm 0x60 (body ++ sig.1)) sig.2
    else emit (.spdm 0x60 body) after

/-- ERROR ResponseNotReady, with its times, the request and the token. -/
def notReady (q : SpdmReq) (s : State) : State :=
  let (n, t) := fresh s
  let x := Config.readyTime n
  emit (.spdm 0x7F (bytesOf [0x42, 0] ++ [x.1] ++ bytesOf [q.code, q.token] ++ [x.2])) (t.setMgt { t.mgt with spdmWait := some q })

/-- A request for a signature: at once, or later under RESPOND_IF_READY. -/
def spdmSigned (q : SpdmReq) (later : Bool) (s : State) : State :=
  if !blkOn s baseATT then spdmError 3 0 s
  else if later then
    let (n, t) := fresh s
    notReady { q with token := n % 256 } t
  else spdmAnswer q s

/-- CHALLENGE of slot 0, with the kind of measurement summary asked for (0 none, 1 TCB, 0xFF all). -/
def execChallenge (b slot summary : Nat) (nonce : List Byte) (later : Bool) (s : State) : Res :=
  spdm b 3 (fun t =>
    if slot ≠ 0 ∨ !(summary = 0 ∨ summary = 1 ∨ summary = 0xFF) then spdmError 1 0 t
    else spdmSigned { code := 0x83, param := slot, summary, sign := true, nonce } later t) s

/-- GET_MEASUREMENTS: index 0 asks for their number, 0xFF for all. -/
def execGetMeasurements (b index : Nat) (sign : Bool) (nonce : List Byte) (later : Bool) (s : State) : Res :=
  spdm b 3 (fun t =>
    if 8 < index ∧ index ≠ 0xFF then spdmError 1 0 t
    else spdmSigned { code := 0xE0, param := index, summary := 0, sign, nonce } later t) s

/-- RESPOND_IF_READY: with `later` the answer is still not ready. -/
def execRespondIfReady (b code token : Nat) (later : Bool) (s : State) : Res :=
  spdm b 3 (fun t => match t.mgt.spdmWait with
    | none => spdmError 4 0 t
    | some q =>
      if q.code ≠ code ∨ q.token ≠ token then spdmError 1 0 t
      else if later then notReady q t
      else if !blkOn t baseATT then spdmError 3 0 t
      else spdmAnswer q (t.setMgt { t.mgt with spdmWait := none })) s

/-- SPDM_UNSUPPORTED_REQUEST. -/
def execSpdmUnsupportedRequest (b code : Nat) (s : State) : Res :=
  if spdmServed.contains code then .next s else spdm b 0 (spdmError 7 code) s

end Sys2Proof.Machine
end

