-- ==== Sys2Proof/Machine/Update.lean ====
section
/-! DEFINITION. Firmware update (R516, R530 to R533): staging and activation from the mailbox and over the sideband. -/

namespace Sys2Proof.Machine

open Sys2Proof

/-! ### Staging (R531) -/

/-- The firmware slot that an image is written into: the one that does not run; before a slot has booted, the one that is
not active. -/
def stageSlot (s : State) : Bool := if s.spring.done.contains 3 then !s.spring.fwSlot else !s.flash.activeB

/-- Earlier staged content is discarded. -/
def stageDiscard (s : State) : State :=
  match s.flash.staged with
  | none => s
  | some x =>
    let t := s.setFlash { s.flash with staged := none }
    if x.image then setFwSlot t x.slotB {} else t

/-- The first check that an image fails: those of `slotFault`, or 6 for its length (R530). -/
def imageFault (s : State) (x : FwSlot) (len : Nat) : Option Nat :=
  if 28 * mib < len then some 6 else slotFault s { x with unbootable := false }

/-- The first record of a profile set that is not valid, as the failed check. -/
def setFault (s : State) (ps : List (List Byte)) : Option Nat :=
  if ps.length ≠ 4 then some 6
  else (List.range 4).find? fun n => (profileFault s n (ps.getD n [])).isSome

/-- FW_REJECTED: nothing is staged. -/
def fwRejected (comp check : Nat) (s : State) : State := logMod 0x600B 0 [dw comp, dw check] s

/-- Every component has verified: the staged mark is programmed; `path` is 0 for the mailbox and 1 for the sideband. -/
def fwStaged (image : Option FwSlot) (profiles : Option (List (List Byte))) (path : Nat) (s : State) : State × Nat :=
  let b := stageSlot s
  let svn := (image.map (·.svn)).getD 0
  let t := s.setFlash { s.flash with staged := some { image := image.isSome, slotB := b, svn, profiles } }
  (logMod 0x6009 0 [dw svn, dw path] t, svn)

/-- The lock of a staging that a command or the sideband runs, is released (R502). -/
def stageUnlock (s : State) : State :=
  match (heldLocks s).find? fun x => x.2.cls == 2 && !x.2.request with
  | some x => lockDrop x.1 s
  | none => s

/-- Write and verify a whole package: its security version number, or the component and check that failed. -/
def stagePackage (g : PkgIn) (s : State) : State × Except (Nat × Nat) Nat :=
  if !g.parsed || (g.image.isNone && g.profiles.isNone) then (s, .error (0, 1))
  else
    let t := match g.image with
      | some x => setFwSlot s (stageSlot s) { x with unbootable := false }
      | none => s
    match g.image.bind fun x => imageFault t x g.imageLen with
    | some k => (t, .error (1, k))
    | none => match g.profiles.bind (setFault t) with
      | some k => (t, .error (2, k))
      | none =>
        let r := fwStaged g.image g.profiles 0 t
        (r.1, .ok r.2)

/-- The end of FW_VERIFY_STAGE. -/
def stageEnd (g : PkgIn) (s : State) : State × Result :=
  let r := stagePackage g s
  match r.2 with
  | .ok svn => (stageUnlock r.1, okRv (dw svn) 0 0)
  | .error x => (stageUnlock (fwRejected x.1 x.2 r.1), failWith stVerifyFail 0)

/-- FW_VERIFY_STAGE (R531): with `part` the package is still coming in, and COMMAND_COMPLETE ends the command. With MNT in
Fault no lock is granted (log entry 38). -/
def execFwVerifyStage (c : Cmd) (g : PkgIn) (part : Bool) (s : State) : Res :=
  runCmd { op := 0x0505, s := true, args := 3 } c (fun e _ => badBuf e.desc 0 0) noFlag (fun _ t => !mntGrants t)
    (fun _ t =>
      let l := lockTake 2 resStore t
      match l.2 with
      | .error x => (l.1, some x)
      | .ok _ =>
        let u := stageDiscard l.1
        if part then (u, none)
        else
          let r := stageEnd g u
          (r.1, some r.2)) s

/-! ### Activation (R532) -/

/-- Items 1 and 2 of R532: the slot record, the profile set, and FW_ACTIVATED. -/
def activateStaged (x : Staged) (s : State) : State :=
  let old := (bootedSlot s).svn
  let f := s.flash
  let t := s.setFlash { f with
    activeB := if x.image then x.slotB else f.activeB
    freshSlot := x.image || f.freshSlot
    profiles := match x.profiles with
      | some ps => (List.range 4).foldl (fun u n => tset [] u n (ps.getD n [])) f.profiles
      | none => f.profiles
    staged := none }
  logMod 0x600A 0 [dw old, dw (if x.image then x.svn else old)] t

/-- FW_ACTIVATE. -/
def execFwActivate (c : Cmd) (s : State) : Res :=
  runCmd { op := 0x0605, s := true } c noBad noFlag
    (fun e t => t.flash.staged.isNone || (!forced e.desc && shutBlocked t))
    (fun e t => match t.flash.staged with
      | none => (t, some (failWith stWrongState 0))
      | some x => (shutStart .respring (forced e.desc) (some c.port) e.no (activateStaged x t), none)) s

/-! ### The sideband flow. Command and completion codes are those of DSP0267 1.1 (log entry 35). -/

def setUpd (s : State) (u : Upd) : State := s.setMgt { s.mgt with upd := u }

/-- Move the flow to another state. -/
def updTo (st : UpdSt) (s : State) : State := setUpd s { s.mgt.upd with st, prev := s.mgt.upd.st }

/-- The flow ends: its lock is released, and what it had received is discarded. -/
def updEnd (reason : Nat) (s : State) : State :=
  let t := if s.mgt.upd.lock.isSome then stageUnlock s else s
  setUpd t { prev := s.mgt.upd.st, reason }

/-- QUERY_DEVICE_IDENTIFIERS: the PCI vendor and device identifiers (R530). -/
def execQueryDeviceIdentifiers (b : Nat) (s : State) : Res :=
  pldm b 5 0x01 (fun t => (t, 0, leBytes 4 12 ++ bytesOf [2] ++ leBytes 2 0 ++ leBytes 2 2 ++ leBytes 2 Config.vendorId.toNat
    ++ leBytes 2 0x0100 ++ leBytes 2 2 ++ leBytes 2 0x0880)) s

/-- GET_FIRMWARE_PARAMETERS: per component its identifier, the running comparison stamp and version, and the staged stamp. -/
def execGetFirmwareParameters (b : Nat) (s : State) : Res :=
  pldm b 5 0x02 (fun t =>
    let f := bootedSlot t
    (t, 0, leBytes 4 0 ++ leBytes 2 2
      ++ leBytes 2 1 ++ leBytes 4 f.svn ++ leBytes 4 f.version.toNat ++ leBytes 4 ((t.flash.staged.map (·.svn)).getD 0)
      ++ leBytes 2 2 ++ leBytes 4 0 ++ leBytes 4 0 ++ leBytes 4 0)) s

/-- A request of the update flow, in the states that admit it: outside a flow NOT_IN_UPDATE_MODE, in another state
INVALID_STATE_FOR_COMMAND. -/
def updIn (sts : List UpdSt) (body : State → State × Nat × List Byte) (t : State) : State × Nat × List Byte :=
  if t.mgt.upd.st == .idle then (t, 0x80, [])
  else if sts.contains t.mgt.upd.st then body t else (t, 0x84, [])

/-- FW_STAGE is held. -/
def stageHeld (s : State) : Bool := (heldLocks s).any fun x => x.2.cls == 2

/-- REQUEST_UPDATE: the flow opens under the FW_STAGE lock, and earlier staged content is discarded. -/
def execRequestUpdate (b maxLen : Nat) (s : State) : Res :=
  pldm b 5 0x10 (fun t =>
    if t.mgt.upd.st != .idle || stageHeld t then (t, 0x81, [])
    else if maxLen < 32 then (t, 2, [])
    else if t.phase == .shutting || (t.phase == .running && !mntGrants t) || 16 ≤ (heldLocks t).length then (t, 4, [])
    else
      let e := estimate t
      let l := lockAdd 2 true false resStore e.1 e.2
      (setUpd (stageDiscard l.1) { st := .learn, chunk := maxLen, lock := some l.2 }, 0, zeros 3)) s

/-- PASS_COMPONENT_TABLE: the components that the agent will pass. -/
def execPassComponentTable (b : Nat) (comps : List Nat) (s : State) : Res :=
  pldm b 5 0x13 (updIn [.learn] fun t =>
    let l := (comps.filter fun k => k == 1 || k == 2).eraseDups
    if l.length ≠ comps.length ∨ l.isEmpty then (t, 0, bytesOf [1, 6])
    else (updTo .ready (setUpd t { t.mgt.upd with expect := l }), 0, bytesOf [0, 0])) s

/-- The module asks for the next part of a component. -/
def askData (s : State) : State :=
  let u := s.mgt.upd
  emit (.pldm 5 0x15 0 (leBytes 4 u.data.length ++ leBytes 4 (min u.chunk (u.size - u.data.length)))) s

/-- UPDATE_COMPONENT: staging of a component begins; an image is written over the inactive slot. -/
def execUpdateComponent (b comp size : Nat) (s : State) : Res :=
  pldm b 5 0x14 (updIn [.ready] fun t =>
    let u := t.mgt.upd
    let fits := u.expect.contains comp && !u.done.contains comp
      && (if comp = 1 then 0 < size && size ≤ 28 * mib else size == 1024)
    if !fits then (t, 0, bytesOf [1, 6] ++ zeros 6)
    else
      let t1 := if comp = 1 then setFwSlot t (stageSlot t) {} else t
      let t2 := setUpd t1 { u with st := .download, prev := u.st, comp, size, data := [] }
      (askData t2, 0, zeros 6 ++ leBytes 2 (Config.updateTime 0).toNat)) s

/-- The module may go on with the flow on its own. -/
def updRuns (s : State) (st : UpdSt) : Bool := s.mgt.upd.st == st && (domOn s 77 || s.phase == .stopped) && !cpAway s

/-- REQUEST_FIRMWARE_DATA: the part asked for arrives, in packets of 64 bytes that hold a message header of 5 bytes and the part. -/
def execRequestFirmwareData (data : List Byte) (s : State) : Res :=
  let u := s.mgt.upd
  if !updRuns s .download || u.size ≤ u.data.length || data.length ≠ min u.chunk (u.size - u.data.length) then .next s
  else
    let t := setUpd (rxCounts ((data.length + 5 + 63) / 64) s) { u with data := u.data ++ data }
    .next (if (u.data ++ data).length < u.size then askData t else t)

/-- TRANSFER_COMPLETE: the module reports that the whole component has come in. -/
def execTransferComplete (s : State) : Res :=
  let u := s.mgt.upd
  if !updRuns s .download || u.data.length < u.size then .next s
  else .next (emit (.pldm 5 0x16 0 [0]) (updTo .verify s))

/-- The four records of a profile set. -/
def setRecords (b : List Byte) : List (List Byte) := (List.range 4).map fun n => slice b (256 * n) 256

/-- VERIFY_COMPLETE: the module reports the outcome for the component; `x` is the image as the checks of R70 find it. When
every component has verified, the update is staged. -/
def execVerifyComplete (x : FwSlot) (s : State) : Res :=
  let u := s.mgt.upd
  if !updRuns s .verify then .next s
  else
    let t := if u.comp = 1 then setFwSlot s (stageSlot s) { x with unbootable := false } else s
    let fault := if u.comp = 1 then imageFault t x u.size else setFault t (setRecords u.data)
    match fault with
    | some k =>
      .next (emit (.pldm 5 0x17 0 (bytesOf [1])) (fwRejected u.comp k
        (setUpd t { u with st := .ready, prev := .verify, comp := 0, data := [], done := [], image := none, profiles := none })))
    | none =>
      let v : Upd := { u with
        st := .apply, prev := .verify, data := [], done := u.done ++ [u.comp]
        image := if u.comp = 1 then some x else u.image
        profiles := if u.comp = 2 then some (setRecords u.data) else u.profiles }
      let t1 := setUpd t v
      let t2 := if u.expect.all v.done.contains then
          setUpd (stageUnlock (fwStaged v.image v.profiles 1 t1).1) { v with lock := none }
        else t1
      .next (emit (.pldm 5 0x17 0 (bytesOf [0])) t2)

/-- APPLY_COMPLETE: the module reports that the component is applied. -/
def execApplyComplete (s : State) : Res :=
  if !updRuns s .apply then .next s
  else .next (emit (.pldm 5 0x18 0 (bytesOf [0]) ) (updTo .ready (setUpd s { s.mgt.upd with comp := 0 })))

/-- ACTIVATE_FIRMWARE (R532): as FW_ACTIVATE without FORCE. While Spring is stopped it starts Spring again (R77);
PWR_GOOD has stayed high, so PROFSEL is latched at once (log entry 39). -/
def execActivateFirmware (b : Nat) (s : State) : Res :=
  pldm b 5 0x1A (fun t => match t.flash.staged with
    | none => (t, 4, [])
    | some x =>
      let time := leBytes 2 (Config.updateTime 1).toNat
      if t.phase == .stopped then (startSpring true (activateStaged x (updEnd 1 t)), 0, time)
      else if t.phase != .running || shutBlocked t then (t, 4, [])
      else (shutStart .respring false none 0 (activateStaged x (updEnd 1 t)), 0, time)) s

def updCode : UpdSt → Nat
  | .idle => 0 | .learn => 1 | .ready => 2 | .download => 3 | .verify => 4 | .apply => 5

/-- GET_STATUS: states, auxiliary state, progress in percent (0x65 where none is kept) and reason. -/
def execGetStatus (b : Nat) (s : State) : Res :=
  pldm b 5 0x1B (fun t =>
    let u := t.mgt.upd
    let busy := u.st == .download || u.st == .verify || u.st == .apply
    (t, 0, bytesOf [updCode u.st, updCode u.prev, if busy then 0 else 3, 0,
      if u.st == .download && u.size != 0 then 100 * u.data.length / u.size else 0x65, u.reason] ++ zeros 4)) s

/-- CANCEL_UPDATE_COMPONENT. -/
def execCancelUpdateComponent (b : Nat) (s : State) : Res :=
  pldm b 5 0x1C (updIn [.download, .verify, .apply] fun t =>
    let u := t.mgt.upd
    (updTo .ready (setUpd t { u with
      comp := 0, data := [], done := u.done.erase u.comp
      image := if u.comp = 1 then none else u.image, profiles := if u.comp = 2 then none else u.profiles }), 0, [])) s

/-- CANCEL_UPDATE: the flow ends. What has been marked as staged stays. -/
def execCancelUpdate (b : Nat) (s : State) : Res :=
  pldm b 5 0x1D (updIn [.learn, .ready, .download, .verify, .apply] fun t => (updEnd 2 t, 0, zeros 9)) s

end Sys2Proof.Machine
end

