-- ==== Sys2Proof/Machine/Late.lean ====
section
/-! DEFINITION. Register reads and parity (R88, R89, R97, R99, R110), BAR2 and the debug aperture (R109, R475), commands
that end, fail or are cut off (R107, R114, R124), contained restarts (R510 to R513), and armed instants (R395, R396). -/

namespace Sys2Proof.Machine

open Sys2Proof

/-! ### Contained restarts (R20, R510 to R513) -/

/-- The CP is running firmware that can be restarted. -/
def cpUp (s : State) : Bool :=
  domOn s 72 && !s.rel.restarting && !s.rel.held && (s.phase == .spring || s.phase == .running || s.phase == .shutting)

/-- An entry's transfer is under way. -/
def inTransfer (e : InFlight) : Bool := e.started && e.result.isNone && transferOp e.desc.opcode.toNat

/-- What a transfer that stops leaves behind (R114, R333, R346, R531). -/
def transferStops (p r : Nat) (e : InFlight) (s0 : State) : State :=
  let s := pullDrop p r e.no s0
  match e.desc.opcode.toNat with
  | 0x0302 => copyLoaded e.desc e.moved s
  | 0x0303 => match jobOf r e.desc.a0 s with
    | some slot => if e.moved = 1 then addCapture slot false s else s
    | none => s
  | 0x0304 => match jobOf r e.desc.a0 s with
    | some slot => restoreFailed slot s
    | none => s
  | 0x0505 => stageUnlock s
  | _ => s

/-- R512: an uncommitted transfer of a ring stops and is served again from its start. FW_VERIFY_STAGE begins its package again under the
lock that it keeps (R20). -/
def ringAgain (p r : Nat) (s : State) : State :=
  ((ring s p r).inflight.filter fun e => inTransfer e && e.desc.opcode != 0x0505).foldl (fun t e =>
    putEntry p r e { e with started := false, moved := 0 } (transferStops p r e t)) s

/-- A sideband update flow is discarded (R531). -/
def updDiscard (s : State) : State := if s.mgt.upd.st == .idle then s else updEnd 0 s

/-- Restarts in the last 24 hours. -/
def restartsKept (s : State) : List W64 := s.rel.restarts.filter fun t => (rtNow s).toNat - t.toNat < ticksDay

/-- A contained restart starts (R511 items 1 to 3). Commands that wait on hardware go on waiting (log entry 41). -/
def cpRestart (cause : Nat) (pc : W64) (s : State) : State :=
  if !cpUp s then s
  else
    let s1 := s.setRel { s.rel with restarting := true, cause, pc, restarts := rtNow s :: restartsKept s }
    let s2 := [0, 1].foldl (fun t p => [0, 1, 2, 3].foldl (fun u r => ringAgain p r u) t) s1
    [0, 1].foldl (fun t slot => match jobAt t slot with
      | some j => match j.sol with
        | .gate _ => gateHeld slot t
        | .begun _ => gateHeld slot (setJobAt t slot (some { j with sol := .gate false }))
        | _ => t
      | none => t) s2

/-- CP_WATCHDOG_EXPIRY (R510): cause 1. -/
def execCpWatchdogExpiry (pc : W64) (s : State) : Res := .next (cpRestart 1 pc s)

/-- CONTAINED_RESTART_TRIGGER (R510): causes 2 to 5; with cause 0, a memory error of the CP that was corrected, which is
logged and starts nothing (R509). The CP has no resource identifier of its own: its domain stands for it. -/
def execContainedRestartTrigger (cause : Nat) (pc : W64) (s : State) : Res :=
  if cause = 0 then .next (if cpUp s then logMod 0x2001 (resDom 72) [] s else s) else .next (cpRestart cause pc s)

/-- The DATA words of CP_RESTART. -/
def restartData (s : State) (outcome : Nat) : List W64 := [dw s.rel.cause, s.rel.pc, dw s.rel.restarts.length, dw outcome]

/-- A ring serves its latched doorbell. -/
def ringWake (p r : Nat) (s : State) : State :=
  let x := ring s p r
  if x.latched then setRing s p r { x with latched := false, fetching := x.st == .on } else s

/-- Locks of takeovers that ended during the restart. -/
def spareLocksEnd (s : State) : State :=
  (heldLocks s).foldl (fun t e => if e.2.cls == 5 && !e.2.request && !markedIn t e.2.res then lockDrop e.1 t else t) s

/-- CP_RESTART_DONE (R511 item 4): the fourth restart within 24 h does not end (R513). The sideband's update flow is discarded
(R531). -/
def execCpRestartDone (s : State) : Res :=
  if !s.rel.restarting || s.rel.held || 4 ≤ s.rel.restarts.length then .next s
  else
    let s0 := spareLocksEnd (updDiscard (s.setRel { s.rel with restarting := false }))
    let s1 := logMod 0x7007 0 (restartData s 0) s0
    let s2 := if s1.spring.mbxReady then
        [0, 1].foldl (fun t p => [0, 1, 2, 3].foldl (fun u r => ringWake p r u) t) s1
      else s1
    .next (shutAdvance s2)

/-- CP_RESTART_TIMEOUT (R513): the CP is held in reset, and the security engine journals it. -/
def execCpRestartTimeout (s : State) : Res :=
  if !s.rel.restarting || s.rel.held then .next s
  else
    let e : Ev := { code := 0x7007, realm := 0xFF, job := 0xFFFF, count := 1, seqNo := s.flash.evSeq, rt := rtNow s, unit := 0,
                    data := restartData s 1 }
    let s1 := journalAdd (fun _ => .event e) s
    .next ((s1.setFlash { s1.flash with evSeq := s1.flash.evSeq + 1 }).setRel { s1.rel with held := true })

/-! ### Configuration parity (R99) -/

/-- R353 for a laser whose block stays in Fault (R492): the line power that the spare brings is not known here, so it is a free
value. -/
def laserDead (n : Nat) (s : State) : State :=
  let x := laser s n
  let off (t : State) : State :=
    setLaser t n { x with bus := none, hot := false, failed := true, worn := false, bias := 0, mean := 0, min := 0 }
  match x.bus with
  | none => if x.hot then (startSpare n none (off s)).getD (off s) else s
  | some b =>
    let (i, t) := fresh s
    let w (k : Nat) : Nat := (Config.free32 (2 * i + k)).toNat % 65536
    laserReplace n b (w 0) (w 1) (off t)

/-- A mismatch in a configuration register at `off`: in the CP block it starts a contained restart in place of R100. -/
def parityHit (off : Nat) (s : State) : State :=
  match frameAt off with
  | none => s
  | some f =>
    if frameAbsent s f || !domOn s f.dom || !parityReg f off then s
    else if f.code = 0x1B then cpRestart 5 0 (logMod 0x9001 0 [dw (blkId f).toNat, dw off] s)
    else
      let t := parityFault f off s
      if f.code = 0x15 && blkDead t f.base then laserDead f.inst t else t

/-- Offsets of the configuration registers of a ring's page. -/
def ringConfig : List Nat := [0x04, 0x10, 0x14, 0x18, 0x1C]

/-- R99 for a ring's configuration register: the ring takes the block's place (R117) and enters Fault. CFG_PARITY names MBX and the
BAR4 offset; RING_FAULT carries no cause, for R117 codes none for parity (DEDUCED, log entry 84). -/
def ringParity (p o : Nat) (s : State) : State :=
  let r := o / 0x1000
  if 2 ≤ p || 4 ≤ r || !ringConfig.contains (o % 0x1000) || !domOn s (74 + p) then s
  else
    let t := logMod 0x9001 (resFn p) [0x01FF00FF, dw o] s
    if (ring t p r).st == .fault then t else ringFault p r [] t

/-- CONFIG_PARITY_SWEEP: a visit of the background sweep to the block at `off`, or to a ring in a block's place, with the register
whose parity fails. -/
def execConfigParitySweep (off : Nat) (bad : Option Nat) (s : State) : Res :=
  match bad with
  | none => .next s
  | some k =>
    match ringNamed off with
    | some (p, r) => .next (if off ≤ k ∧ k < off + 0x1000 then ringParity p (0x1000 * r + (k - off)) s else s)
    | none => match frameAt off with
      | some f => .next (if off = f.base ∧ f.base ≤ k ∧ k < f.base + f.size then parityHit k s else s)
      | none => .next s

/-! ### Register reads (R88 to R90, R110, R116) -/

def ringStat (x : Ring) : W32 :=
  regOf [(x.fetched.toNat, 16), (inflight x, 8), rb x.latched 6, rb x.wrig 5, rb x.enPend 4, (lifeCode x.st, 0)]

/-- RING_OWNER.FOREIGN: another host owns the ring's realm. -/
def foreign (s : State) (p r : Nat) : Bool :=
  (r == 1 || r == 2) && ((realmOf s r).owner.any fun q => q != p)

/-- A dword of BAR4. -/
def bar4Read (s : State) (p off : Nat) : W32 :=
  if off < 0x4000 then
    let r := off / 0x1000
    let x := ring s p r
    match off % 0x1000 with
    | 0x04 => regOf [(x.entries.toNat, 12), (x.vector.toNat, 8), rb x.irqEn 1, rb x.en 0]
    | 0x08 => ringStat x
    | 0x0C => regOf [(x.wrigCount.toNat, 28), (x.wrigSrc.toNat, 26), (x.wrigAddr.toNat, 0)]
    | 0x10 => BitVec.ofNat 32 (x.descBase.toNat % 2 ^ 20 * 4096)
    | 0x14 => BitVec.ofNat 32 (x.descBase.toNat / 2 ^ 20)
    | 0x18 => BitVec.ofNat 32 (x.cplBase.toNat % 2 ^ 20 * 4096)
    | 0x1C => BitVec.ofNat 32 (x.cplBase.toNat / 2 ^ 20)
    | 0x20 => regOf [rb (foreign s p r) 8, (r, 0)]
    | _ => 0
  else if off = 0x4000 then
    regOf [rb (s.rel.restarting || s.rel.held) 3, rb s.spring.mbxReady 2, rb (fn s (1 - p)).linkUp 1, rb (isSteward s p) 0]
  else if 0x80000 ≤ off ∧ off < 0x80080 then
    let e := tget (0, 0, true) (fn s p).msix ((off - 0x80000) / 16)
    match off % 16 / 4 with
    | 0 => half false e.1
    | 1 => half true e.1
    | 2 => e.2.1
    | _ => regOf [rb e.2.2 0]
  else if off = 0x81000 then BitVec.ofNat 32 (fn s p).pba.toNat
  else 0

/-- One dword of BAR0 as a requester reads it: denied, off-domain, or the register, whose parity is checked. -/
def bar0Read (who off : Nat) (bad : Bool) (s : State) : W32 × State :=
  match regAt off with
  | none => (0, s)
  | some f =>
    if !mayRead s who f off then (0, barDenied who off s)
    else regRead off (if bad then parityHit off s else s)

/-- What a read returns to a requester; the CP's own reads leave the block nowhere. -/
def answer (who bar off : Nat) (v : W32) (s : State) : State :=
  if who = 0 then s else emit (.readData (who - 1) bar off v false) s

/-- CROSSING_TIMEOUT (R95): an access that R89 permits is abandoned at 4 µs, and a read returns all ones. OFFDOM_ACCESS carries the
number 1 for the cause "crossing timeout", which the spec does not number (DEDUCED, log entry 82). -/
def execCrossingTimeout (who off : Nat) (isRead : Bool) (s : State) : Res :=
  match regAt off with
  | none => .next s
  | some f =>
    if !whoUp s who || frameAbsent s f then .next s
    else if !(if isRead then mayRead s who f off else mayWrite s who f off) then
      .next (if isRead then answer who 0 off 0 (barDenied who off s) else barDenied who off s)
    else
      let s1 := logFold ticksMs 0x9003 0xFF 0xFFFF (resDom f.dom) [dw off, 1] s
      .next (if isRead then answer who 0 off 0xFFFFFFFF s1 else s1)

/-- REGISTER_READ: `n` dwords from `off` on, in ascending order, under a mask of byte enables; `bad` lists the dwords
whose parity fails. -/
def execRegisterRead (who bar off n mask : Nat) (bad : List Nat) (s : State) : Res :=
  if !whoUp s who then .next s
  else .next ((List.range n).foldl (fun t i =>
    let a := off + 4 * i
    let x :=
      if bar = 4 then
        if who = 0 then (0, t)
        else
          let u := if bad.contains a then ringParity (who - 1) a t else t
          (bar4Read u (who - 1) a, u)
      else bar0Read who a (bad.contains a) t
    answer who bar a (byEnable mask x.1) x.2) s)

/-! ### The debug aperture (R475) -/

def le32 (w : W32) : List Byte := leBytes 4 w.toNat

/-- A weight bank: 16 headers of 32 bytes, then planes in the order of R156. -/
def bankBytes (b : Bank) : List Byte :=
  let n := match b.fmt with | .b4 => 4 | .b8 => 8 | .b16 => 16
  let head (t : WTile) : List Byte :=
    (List.range 16).map (fun i => BitVec.ofNat 8 (t.shifts.getD (2 * i) 0 + 16 * t.shifts.getD (2 * i + 1) 0))
      ++ leBytes 2 t.mask.toNat ++ bytesOf [b2n t.nonfinite] ++ zeros 13
  let plane (t : WTile) (p : Nat) : List Byte := (List.range 32).flatMap fun i =>
    leBytes 4 (maskOf 32 fun j => (t.elems.getD (32 * i + j) 0).testBit (n - 1 - p))
  fit 512 (b.tiles.flatMap head) ++ fit 8192 (b.tiles.flatMap fun t => (List.range n).flatMap (plane t))

/-- Four arrays of 32 values. -/
def arrayBytes (l : List (Nat × List F32)) : List Byte :=
  (List.range 4).flatMap fun a =>
    fit 128 (((l.find? fun e => e.1 == a).map (·.2)).getD [] |>.flatMap le32)

/-- Column-bottom units: 4 × 32 × 8 bytes, sign-extended. -/
def unitBytes (l : List (Nat × List Int)) : List Byte :=
  (List.range 4).flatMap fun a =>
    fit 256 (((l.find? fun e => e.1 == a).map (·.2)).getD [] |>.flatMap fun v => leBytes 8 (BitVec.ofInt 64 v).toNat)

/-- Words of a program store half. -/
def storeBytes (t : Tbl W32) (base n : Nat) (gone : Nat → Bool) : List Byte :=
  (List.range n).flatMap fun i => le32 (if gone i then 0 else tget 0 t (base + i))

/-- Segments of a page that the table lays out: offset and bytes. -/
def apertureSegs (s : State) (a : W64) (off : Nat) : List (Nat × List Byte) :=
  let d := apDie a
  let c := apCluster a
  let at_ (lo n : Nat) (b : Unit → List Byte) : List (Nat × List Byte) := if lo ≤ off ∧ off < lo + n then [(lo, b ())] else []
  if apCore a = 31 then
    [0, 1].flatMap fun x =>
      let v := ve s d c x
      let q := 2 * (4 * d + c / 12) + x
      let k := ctxKey d c x
      at_ (0x8000 * x) 0x4000 (fun _ => (List.range 4096).flatMap fun i => le32 (tget 0 v.v i))
        ++ at_ (0x8000 * x + 0x4000) 0x100 (fun _ => (List.range 8).flatMap fun i =>
          leBytes 32 (if i = 0 then 2 ^ 256 - 1 else (tget 0 v.m i).toNat))
        ++ at_ (0x10000 + 0x100 * x) 0x100 (fun _ => (List.range 32).flatMap fun i =>
          leBytes 8 (if i = 0 then 0 else (tget 0 (ccc s d c x).s i).toNat))
        ++ at_ (0x20000 + 0x2000 * x) 0x2000 (fun _ => storeBytes s.prg.ve (2048 * q) 2048 (storeGone s (2 * k)))
        ++ at_ (0x30000 + 0x2000 * x) 0x2000 (fun _ => storeBytes s.prg.ccc (2048 * q) 2048 (storeGone s (2 * k + 1)))
  else
    let x := core s d c (apCore a)
    at_ 0 0x2200 (fun _ => bankBytes x.bank0) ++ at_ 0x4000 0x2200 (fun _ => bankBytes x.bank1)
      ++ at_ 0x8000 0x400 (fun _ => unitBytes x.cols)
      ++ at_ 0x8400 0x200 (fun _ => arrayBytes x.acc) ++ at_ 0x8600 0x200 (fun _ => arrayBytes (x.latch.getD []))
      ++ at_ 0x8800 0x1C (fun _ => (List.range 8).flatMap (fun i => leBytes 2 (tget 0 x.ar i).toNat)
        ++ (List.range 4).flatMap (fun i => leBytes 2 (tget 0 x.lc i)) ++ le32 x.sc)
      ++ [0, 1].flatMap fun h => at_ (0x10000 + 0x1000 * h) 0x1000 fun _ =>
        storeBytes s.prg.tile (1024 * (2 * (4 * d + c / 12) + h)) 1024 fun _ => false

/-- Contents that the table names without laying them out: the hardware region, watcher tables and VE control registers. -/
def apertureOpen (a : W64) (off : Nat) : Bool :=
  if apCluster a = 63 then off < 0x400000
  else apCore a == 31 &&
    ((0x40000 ≤ off && off < 0x44000) || (off < 0x10000 && 0x4100 ≤ off % 0x8000 && off % 0x8000 < 0x4200))

/-- A byte of the aperture at a page's target, for read `n`. -/
def apertureByte (s : State) (n target : Nat) : Byte :=
  let a : W64 := BitVec.ofNat 64 (target / 2 ^ 40 * 2 ^ 40)
  let off := target % 2 ^ 40
  let up := if apCluster a = 63 then domOn s (8 * apDie a + 5) else domOn s (quadDom (apDie a) (apCluster a))
  if !up || apertureOpen a off then Config.apertureByte target n
  else match apertureSegs s a off with
    | (lo, b) :: _ => b.getD (off - lo) 0
    | [] => 0

/-! ### BAR2 (R64, R109) -/

/-- BAR_DENIED of a BAR2 access: every access of the function within 1 ms folds into one record. -/
def bar2Denied (p off : Nat) (s : State) : State := barDenied (p + 1) off s

/-- A BAR2 read that reaches nothing returns zeros. -/
def bar2Zero (p off len : Nat) (write : Bool) (s : State) : State :=
  if write then s else emit (.bar2Data p off (zeros len) false) s

/-- BAR2_ACCESS: a write of the bytes given, or a read of `len` bytes. -/
def execBar2Access (p off len : Nat) (data : Option (List Byte)) (errs : List (Nat × Nat)) (s : State) : Res :=
  if 2 ≤ p || !(fn s p).linkUp then .next s
  else
    let w := data.isSome
    let n := (data.map (·.length)).getD len
    if winterRuns s then .next (bar2Zero p off n w s)
    else match tget none (fn s p).maps (off / 0x200000) with
      | none => .next (bar2Zero p off n w (bar2Denied p off s))
      | some m =>
        let t := m.target + off % 0x200000
        if !(if w then m.write else m.read) then .next (bar2Zero p off n w (bar2Denied p off s))
        else if 2 ^ 63 ≤ m.target then
          let (i, u) := fresh s
          .next (emit (.bar2Data p off ((List.range n).map fun k => apertureByte s i (t + k)) false) u)
        else if (checkRange m.realm .host w t n s).isSome then .next (bar2Zero p off n w (bar2Denied p off s))
        else
          let u := applyErrs errs s
          match data with
          | some b => .next (loadNotes t n false (memWrite m.realm t b u))
          | none =>
            let x := memRead m.realm t n u
            .next (emit (.bar2Data p off x.1 x.2.1) x.2.2)

/-! ### Commands that end (R124) -/

/-- The command that COMMAND_COMPLETE ends: the `nth` of the started ones of its TAG, those that have their result first. -/
def startedCmd (s : State) (p r : Nat) (tag : W16) (nth : Nat) : Option InFlight :=
  let mine := (ring s p r).inflight.filter fun e => e.started && e.desc.tag == tag
  (mine.filter (fun e => e.result.isSome) ++ mine.filter fun e => e.result.isNone)[nth]?

/-- The rest of a transfer that is under way; none while it still waits for a Solstice. -/
def transferEnd (p r : Nat) (e : InFlight) (data : List Byte) (pkg : PkgIn) (s : State) :
    Option (State × Result) :=
  match e.desc.opcode.toNat with
  | 0x0204 => some (imageEnd e.desc r data s)
  | 0x0302 => some (copyEnd { port := p, ring := r, desc := e.desc, buf := data } r (e.xfer.getD 0) e.moved data s)
  | 0x0303 => match jobOf r e.desc.a0 s with
    | none => some (s, failWith stWrongState 0)
    | some slot =>
      let t := if e.moved = 1 then addCapture slot false s else s
      match jobAt t slot with
      | none => some (t, failWith stWrongState 0)
      | some j =>
        if e.moved = 0 ∧ inSolstice j then none
        else if j.state == .aborted then some (t, failWith stWrongState 0)
        else some (pushEnd p e.desc j t)
  | 0x0304 => if e.desc.a1 = 0 then none else some (restoreEnd e.desc r data s)
  | 0x0505 => some (stageEnd pkg s)
  | _ => none

/-- COMMAND_COMPLETE: `data` are the bytes that a transfer still reads from the host, `pkg` an update package. -/
def execCommandComplete (p r : Nat) (tag : W16) (nth : Nat) (data : List Byte) (errs : List (Nat × Nat))
    (pkg : PkgIn) (s : State) : Res :=
  if !cpRuns s || !s.spring.mbxReady then .next s
  else match startedCmd s p r tag nth with
    | none => .next s
    | some e => match e.result with
      | some x => .next (endCmd p r e x s)
      | none =>
        if e.desc.opcode = 0x0107 ∨ e.desc.opcode = 0x0605 then .next (shutAdvance s)
        else if e.fails.isSome then .next (endCmd p r e (failsWith e) (transferStops p r e s))
        else match transferEnd p r e data pkg (applyErrs errs s) with
          | some o => .next (endCmd p r e o.2 o.1)
          | none => .next s

/-! ### Links that go down, resets, and failed reads (R107, R114) -/

/-- R114 for a function: what its reset takes, and its transfers that run stop at once (item 3). -/
def fnLost (p : Nat) (s : State) : State :=
  [0, 1, 2, 3].foldl (fun t r => ((ring t p r).inflight.filter fun e => inTransfer e && e.fails.isSome).foldl
    (fun u e => endCmd p r e (failsWith e) (transferStops p r e u)) t) (fnReset p s)

/-- The link is out of DL_Active from now on. -/
def linkGone (p : Nat) (s : State) : State :=
  if (fn s p).linkUp then
    let t := fnLost p s
    setFn t p { fn t p with linkUp := false, d3hot := false, downSince := rtNow t, overdue := false }
  else s

/-- PERST_ASSERT. -/
def execPerstAssert (p : Nat) (s : State) : Res :=
  if 2 ≤ p then .next s
  else
    let t := linkGone p s
    .next (setFn t p { fn t p with perstLow := true, training := false })

/-- LINK_DOWN: training begins again (R63). -/
def execLinkDown (p : Nat) (s : State) : Res :=
  if 2 ≤ p || !(fn s p).linkUp then .next s
  else
    let t := linkGone p s
    .next (setFn t p { fn t p with training := domOn t (74 + p) && !(fn t p).perstLow })

/-- FUNCTION_LEVEL_RESET. -/
def execFunctionLevelReset (p : Nat) (s : State) : Res :=
  if 2 ≤ p || !(fn s p).linkUp then .next s
  else
    let t := fnLost p s
    .next (setFn t p { fn t p with d3hot := false })

/-- HOST_READ_FAIL (R107): without a tag a descriptor fetch fails, with cause 1 to 4; with a tag the read of a command. One whose
transfer runs ends at once; the next one to be served ends with ABORTED when it is served, unless a check turns it away
first (R126). -/
def execHostReadFail (p r : Nat) (tag : Option W16) (cause : Nat) (s : State) : Res :=
  if 2 ≤ p || 4 ≤ r then .next s
  else
    let x := ring s p r
    match tag with
    | none => if x.st == .on && mbxServed s then .next (ringFault p r [4, dw cause] s) else .next s
    | some g =>
      match x.inflight.find? fun e => inTransfer e && e.desc.tag == g && hostReads e.desc with
      | some e => .next (endCmd p r e (failWith stAborted 1) (transferStops p r e s))
      | none => match firstWaiting x.inflight with
        | some e =>
          if mbxServed s && e.desc.tag == g && fenceOpen x.inflight e && hostReads e.desc then
            .next (putEntry p r e { e with fails := some 1 } s)
          else .next s
        | none => .next s

/-! ### Armed instants (R395, R396) -/

/-- What an instant does at its target. -/
def instantActs (s : State) (x : Instant) : State :=
  match x with
  | .lightSwitch n => s.setFab { s.fab with due := s.fab.due ++ [n] }
  | .equinox0 => s
  | .jobStart slot => match jobAt s slot with
    | some j => setJobAt s slot (some { j with startAt := none })
    | none => s
  | .stepControl slot action n => match jobAt s slot with
    | some j =>
      if j.state == .aborted then s
      else if inSolstice j then addDeferred slot (.act action n) s
      else setJobAt s slot (some (applyControl (rtNow s) action n j))
    | none => s
  | .linkEpoch r => setRealm s r { realmOf s r with linkNew := (realmOf s r).two }

/-- INSTANT_FIRES: every entry whose instant RT has reached, in the order of their instants. -/
def execInstantFires (s : State) : Res :=
  if !rtbServes s then .next s
  else
    let now := (rtNow s).toNat
    let due := s.rtb.armed.filter fun a => a.1.toNat ≤ now
    let rest := s.rtb.armed.filter fun a => now < a.1.toNat
    let sorted := due.foldl (fun (l : List (W64 × Instant)) a =>
      l.takeWhile (fun b => b.1.toNat ≤ a.1.toNat) ++ a :: l.dropWhile fun b => b.1.toNat ≤ a.1.toNat) []
    .next (sorted.foldl (fun t a => instantActs t a.2) (setRtb s { s.rtb with armed := rest }))

end Sys2Proof.Machine
end

