-- ==== Sys2Proof/Machine/Dispatch.lean ====
section
/-! DEFINITION. The one dispatch: each command to its meaning. -/

namespace Sys2Proof.Machine

def exec (i : Instr) (s : State) : Host.Outcome State Fault Refusal :=
  match i with
  | .pwrEnRise vin => Sys2Proof.Machine.execPwrEnRise vin s
  | .pwrEnFall => Sys2Proof.Machine.execPwrEnFall s
  | .pwrEnHoldExpiry => Sys2Proof.Machine.execPwrEnHoldExpiry s
  | .inputLockout vin => Sys2Proof.Machine.execInputLockout vin s
  | .inputRelease vin => Sys2Proof.Machine.execInputRelease vin s
  | .wakeNAssert => Sys2Proof.Machine.execWakeNAssert s
  | .perstAssert p => Sys2Proof.Machine.execPerstAssert p s
  | .perstDeassert p => Sys2Proof.Machine.execPerstDeassert p s
  | .linkTrainingDone p => Sys2Proof.Machine.execLinkTrainingDone p s
  | .linkDown p => Sys2Proof.Machine.execLinkDown p s
  | .functionLevelReset p => Sys2Proof.Machine.execFunctionLevelReset p s
  | .d3hotEntry p => Sys2Proof.Machine.execD3hotEntry p s
  | .stewardFailover => Sys2Proof.Machine.execStewardFailover s
  | .thermTripNLow => Sys2Proof.Machine.execThermTripNLow s
  | .thermTripNHigh => Sys2Proof.Machine.execThermTripNHigh s
  | .junctionTrip temp => Sys2Proof.Machine.execJunctionTrip temp s
  | .tripRelease hot => Sys2Proof.Machine.execTripRelease hot s
  | .droopDetect d q => Sys2Proof.Machine.execDroopDetect d q s
  | .droopEnd d q => Sys2Proof.Machine.execDroopEnd d q s
  | .thermalPointReached d q temp => Sys2Proof.Machine.execThermalPointReached d q temp s
  | .throttleStep d temps => Sys2Proof.Machine.execThrottleStep d temps s
  | .throttleReleaseTimer d temps => Sys2Proof.Machine.execThrottleReleaseTimer d temps s
  | .powerSample watts milliamps => Sys2Proof.Machine.execPowerSample watts milliamps s
  | .powerCapLoopStep => Sys2Proof.Machine.execPowerCapLoopStep s
  | .powerCapUnmetTimer => Sys2Proof.Machine.execPowerCapUnmetTimer s
  | .currentLimitRailOff => Sys2Proof.Machine.execCurrentLimitRailOff s
  | .coolantLossTimer f0 f1 t0 t1 => Sys2Proof.Machine.execCoolantLossTimer f0 f1 t0 t1 s
  | .coolantClearTimer f0 f1 t0 t1 => Sys2Proof.Machine.execCoolantClearTimer f0 f1 t0 t1 s
  | .coolantFlowTrip f0 f1 => Sys2Proof.Machine.execCoolantFlowTrip f0 f1 s
  | .springCoolantResume f0 f1 t0 t1 => Sys2Proof.Machine.execSpringCoolantResume f0 f1 t0 t1 s
  | .lpxTempRead n temp => Sys2Proof.Machine.execLpxTempRead n temp s
  | .domainRailFault n cause => Sys2Proof.Machine.execDomainRailFault n cause s
  | .domainTransitionDone n => Sys2Proof.Machine.execDomainTransitionDone n s
  | .lpxInitDone d found => Sys2Proof.Machine.execLpxInitDone d found s
  | .springStepDone k ix => Sys2Proof.Machine.execSpringStepDone k ix s
  | .attestKeyCheckDone generated => Sys2Proof.Machine.execAttestKeyCheckDone generated s
  | .springStepTimeout k => Sys2Proof.Machine.execSpringStepTimeout k s
  | .blkCtlWrite who off v => Sys2Proof.Machine.execBlkCtlWrite who off v s
  | .blockDisableDone off => Sys2Proof.Machine.execBlockDisableDone off s
  | .blockEnableDone off => Sys2Proof.Machine.execBlockEnableDone off s
  | .configParitySweep off bad => Sys2Proof.Machine.execConfigParitySweep off bad s
  | .cfgParityRecovery off => Sys2Proof.Machine.execCfgParityRecovery off s
  | .registerWrite who bar off v whole => Sys2Proof.Machine.execRegisterWrite who bar off v whole s
  | .rwbWrite who off v => Sys2Proof.Machine.execRwbWrite who off v s
  | .glbUpdate who v => Sys2Proof.Machine.execGlbUpdate who v s
  | .crossingTimeout who off isRead => Sys2Proof.Machine.execCrossingTimeout who off isRead s
  | .bar2Access p off len data errs => Sys2Proof.Machine.execBar2Access p off len data errs s
  | .ringCtlWrite p r v => Sys2Proof.Machine.execRingCtlWrite p r v s
  | .ringDoorbell p r descs => Sys2Proof.Machine.execRingDoorbell p r descs s
  | .ringFetchResume p r descs => Sys2Proof.Machine.execRingFetchResume p r descs s
  | .hostReadFail p r tag cause => Sys2Proof.Machine.execHostReadFail p r tag cause s
  | .commandComplete p r tag nth data errs pkg => Sys2Proof.Machine.execCommandComplete p r tag nth data errs pkg s
  | .undefinedOpcodeCommand c => Sys2Proof.Machine.execUndefinedOpcodeCommand c s
  | .deviceInfo c => Sys2Proof.Machine.execDeviceInfo c s
  | .profileSelect c => Sys2Proof.Machine.execProfileSelect c s
  | .stewardTransfer c => Sys2Proof.Machine.execStewardTransfer c s
  | .rtLoad c => Sys2Proof.Machine.execRtLoad c s
  | .powerCapSet c => Sys2Proof.Machine.execPowerCapSet c s
  | .domainControl c => Sys2Proof.Machine.execDomainControl c s
  | .shutdown c => Sys2Proof.Machine.execShutdown c s
  | .departurePhaseEnd => Sys2Proof.Machine.execDeparturePhaseEnd s
  | .realmOpen c => Sys2Proof.Machine.execRealmOpen c s
  | .realmClose c => Sys2Proof.Machine.execRealmClose c s
  | .winterStepDone realm k => Sys2Proof.Machine.execWinterStepDone realm k s
  | .jobAdmit c => Sys2Proof.Machine.execJobAdmit c s
  | .imageLoad c part => Sys2Proof.Machine.execImageLoad c part s
  | .jobStart c => Sys2Proof.Machine.execJobStart c s
  | .jobPair c => Sys2Proof.Machine.execJobPair c s
  | .stepControl c => Sys2Proof.Machine.execStepControl c s
  | .jobAbort c => Sys2Proof.Machine.execJobAbort c s
  | .jobStatus c => Sys2Proof.Machine.execJobStatus c s
  | .regionMap c => Sys2Proof.Machine.execRegionMap c s
  | .dmaCopy c stop errs => Sys2Proof.Machine.execDmaCopy c stop errs s
  | .checkpointPush c part errs => Sys2Proof.Machine.execCheckpointPush c part errs s
  | .checkpointRestore c part errs => Sys2Proof.Machine.execCheckpointRestore c part errs s
  | .buddyReserve c => Sys2Proof.Machine.execBuddyReserve c s
  | .scrubStatus c => Sys2Proof.Machine.execScrubStatus c s
  | .planLoad c => Sys2Proof.Machine.execPlanLoad c s
  | .portDivide c => Sys2Proof.Machine.execPortDivide c s
  | .lightPlanLoad c => Sys2Proof.Machine.execLightPlanLoad c s
  | .portStatus c => Sys2Proof.Machine.execPortStatus c s
  | .partitionSet c => Sys2Proof.Machine.execPartitionSet c s
  | .discoveryReport c => Sys2Proof.Machine.execDiscoveryReport c s
  | .attestReport c => Sys2Proof.Machine.execAttestReport c s
  | .keyDeliver c => Sys2Proof.Machine.execKeyDeliver c s
  | .keyRotate c => Sys2Proof.Machine.execKeyRotate c s
  | .certChainGet c => Sys2Proof.Machine.execCertChainGet c s
  | .fwVerifyStage c pkg part => Sys2Proof.Machine.execFwVerifyStage c pkg part s
  | .maintRequest c => Sys2Proof.Machine.execMaintRequest c s
  | .maintRelease c => Sys2Proof.Machine.execMaintRelease c s
  | .autumnPass c => Sys2Proof.Machine.execAutumnPass c s
  | .spareSwap c power low => Sys2Proof.Machine.execSpareSwap c power low s
  | .fwActivate c => Sys2Proof.Machine.execFwActivate c s
  | .telemetryRead c => Sys2Proof.Machine.execTelemetryRead c s
  | .watchRead c => Sys2Proof.Machine.execWatchRead c s
  | .barrierLogRead c => Sys2Proof.Machine.execBarrierLogRead c s
  | .eventLogRead c => Sys2Proof.Machine.execEventLogRead c s
  | .marginPlanRead c => Sys2Proof.Machine.execMarginPlanRead c s
  | .profileStart c => Sys2Proof.Machine.execProfileStart c s
  | .profileStop c => Sys2Proof.Machine.execProfileStop c s
  | .profileSample p ring data => Sys2Proof.Machine.execProfileSample p ring data s
  | .debugEnter c => Sys2Proof.Machine.execDebugEnter c s
  | .debugExit c => Sys2Proof.Machine.execDebugExit c s
  | .cpWatchdogExpiry pc => Sys2Proof.Machine.execCpWatchdogExpiry pc s
  | .containedRestartTrigger cause pc => Sys2Proof.Machine.execContainedRestartTrigger cause pc s
  | .cpRestartDone => Sys2Proof.Machine.execCpRestartDone s
  | .cpRestartTimeout => Sys2Proof.Machine.execCpRestartTimeout s
  | .tileNop d c k w => Sys2Proof.Machine.execTileNop d c k w s
  | .tileEnd d c k w => Sys2Proof.Machine.execTileEnd d c k w s
  | .seta d c k w => Sys2Proof.Machine.execSeta d c k w s
  | .adda d c k w => Sys2Proof.Machine.execAdda d c k w s
  | .loop d c k w => Sys2Proof.Machine.execLoop d c k w s
  | .endl d c k w => Sys2Proof.Machine.execEndl d c k w s
  | .scl d c k w errs => Sys2Proof.Machine.execScl d c k w errs s
  | .wld d c k w => Sys2Proof.Machine.execWld d c k w s
  | .mma d c k w => Sys2Proof.Machine.execMma d c k w s
  | .drn d c k w => Sys2Proof.Machine.execDrn d c k w s
  | .sync d c k w => Sys2Proof.Machine.execSync d c k w s
  | .wldStart d c k => Sys2Proof.Machine.execWldStart d c k s
  | .wldDone d c k errs => Sys2Proof.Machine.execWldDone d c k errs s
  | .mmaStart d c k errs => Sys2Proof.Machine.execMmaStart d c k errs s
  | .mmaDone d c k => Sys2Proof.Machine.execMmaDone d c k s
  | .drnStart d c k => Sys2Proof.Machine.execDrnStart d c k s
  | .drnDone d c k errs => Sys2Proof.Machine.execDrnDone d c k errs s
  | .tileTaskDone d c k => Sys2Proof.Machine.execTileTaskDone d c k s
  | .coreSlotSwitch d c k => Sys2Proof.Machine.execCoreSlotSwitch d c k s
  | .idleGatingRestore d q => Sys2Proof.Machine.execIdleGatingRestore d q s
  | .cccNop d c slot w => Sys2Proof.Machine.execCccNop d c slot w s
  | .cccEnd d c slot w => Sys2Proof.Machine.execCccEnd d c slot w s
  | .cccAlu d c slot w => Sys2Proof.Machine.execCccAlu d c slot w s
  | .cccAddi d c slot w => Sys2Proof.Machine.execCccAddi d c slot w s
  | .cccLui d c slot w => Sys2Proof.Machine.execCccLui d c slot w s
  | .cccOri d c slot w => Sys2Proof.Machine.execCccOri d c slot w s
  | .cccLd d c slot w errs => Sys2Proof.Machine.execCccLd d c slot w errs s
  | .cccSt d c slot w => Sys2Proof.Machine.execCccSt d c slot w s
  | .cccBeq d c slot w => Sys2Proof.Machine.execCccBeq d c slot w s
  | .cccBne d c slot w => Sys2Proof.Machine.execCccBne d c slot w s
  | .cccBlt d c slot w => Sys2Proof.Machine.execCccBlt d c slot w s
  | .cccBltu d c slot w => Sys2Proof.Machine.execCccBltu d c slot w s
  | .bflt d c slot w => Sys2Proof.Machine.execBflt d c slot w s
  | .jal d c slot w => Sys2Proof.Machine.execJal d c slot w s
  | .jalr d c slot w => Sys2Proof.Machine.execJalr d c slot w s
  | .task d c slot w => Sys2Proof.Machine.execTask d c slot w s
  | .vrun d c slot w => Sys2Proof.Machine.execVrun d c slot w s
  | .cccDma d c slot w => Sys2Proof.Machine.execCccDma d c slot w s
  | .cccWait d c slot w => Sys2Proof.Machine.execCccWait d c slot w s
  | .cccBusy d c slot w => Sys2Proof.Machine.execCccBusy d c slot w s
  | .cccRdrt d c slot w => Sys2Proof.Machine.execCccRdrt d c slot w s
  | .cccStallEnd d c slot => Sys2Proof.Machine.execCccStallEnd d c slot s
  | .clusterTaskDone d c slot => Sys2Proof.Machine.execClusterTaskDone d c slot s
  | .vnop d c slot w => Sys2Proof.Machine.execVnop d c slot w s
  | .vend d c slot w => Sys2Proof.Machine.execVend d c slot w s
  | .vloop d c slot w => Sys2Proof.Machine.execVloop d c slot w s
  | .vendl d c slot w => Sys2Proof.Machine.execVendl d c slot w s
  | .vsetvl d c slot w => Sys2Proof.Machine.execVsetvl d c slot w s
  | .vadda d c slot w => Sys2Proof.Machine.execVadda d c slot w s
  | .vaddr d c slot w => Sys2Proof.Machine.execVaddr d c slot w s
  | .vli d c slot w => Sys2Proof.Machine.execVli d c slot w s
  | .vld d c slot w errs => Sys2Proof.Machine.execVld d c slot w errs s
  | .vst d c slot w => Sys2Proof.Machine.execVst d c slot w s
  | .vldx d c slot w errs => Sys2Proof.Machine.execVldx d c slot w errs s
  | .vstx d c slot w => Sys2Proof.Machine.execVstx d c slot w s
  | .vldb d c slot w errs => Sys2Proof.Machine.execVldb d c slot w errs s
  | .vari d c slot w => Sys2Proof.Machine.execVari d c slot w s
  | .vfma d c slot w => Sys2Proof.Machine.execVfma d c slot w s
  | .vun d c slot w => Sys2Proof.Machine.execVun d c slot w s
  | .vcmp d c slot w => Sys2Proof.Machine.execVcmp d c slot w s
  | .vmsk d c slot w => Sys2Proof.Machine.execVmsk d c slot w s
  | .vsel d c slot w => Sys2Proof.Machine.execVsel d c slot w s
  | .vcvt d c slot w => Sys2Proof.Machine.execVcvt d c slot w s
  | .vred d c slot w => Sys2Proof.Machine.execVred d c slot w s
  | .vsum d c slot w => Sys2Proof.Machine.execVsum d c slot w s
  | .vtid d c slot w => Sys2Proof.Machine.execVtid d c slot w s
  | .vqnt d c slot w errs => Sys2Proof.Machine.execVqnt d c slot w errs s
  | .vdq d c slot w errs => Sys2Proof.Machine.execVdq d c slot w errs s
  | .vloss d c slot w => Sys2Proof.Machine.execVloss d c slot w s
  | .veProgramDone d c slot => Sys2Proof.Machine.execVeProgramDone d c slot s
  | .dmaTransferStart d c slot queue errs => Sys2Proof.Machine.execDmaTransferStart d c slot queue errs s
  | .dmaTransferDone d c slot queue => Sys2Proof.Machine.execDmaTransferDone d c slot queue s
  | .wckTrackingLost n q => Sys2Proof.Machine.execWckTrackingLost n q s
  | .instanceDispatch slot tbl ix m => Sys2Proof.Machine.execInstanceDispatch slot tbl ix m s
  | .instanceSignalRelease slot tbl ix m => Sys2Proof.Machine.execInstanceSignalRelease slot tbl ix m s
  | .signalApply ix => Sys2Proof.Machine.execSignalApply ix s
  | .taskTimeout d c slot => Sys2Proof.Machine.execTaskTimeout d c slot s
  | .stepAbortReported slot => Sys2Proof.Machine.execStepAbortReported slot s
  | .abortQuietEnd slot => Sys2Proof.Machine.execAbortQuietEnd slot s
  | .stepStallLimit slot => Sys2Proof.Machine.execStepStallLimit slot s
  | .stepBegin slot => Sys2Proof.Machine.execStepBegin slot s
  | .equinoxTurn => Sys2Proof.Machine.execEquinoxTurn s
  | .lateTurn d => Sys2Proof.Machine.execLateTurn d s
  | .loneTurn d => Sys2Proof.Machine.execLoneTurn d s
  | .closingRoundStart slot => Sys2Proof.Machine.execClosingRoundStart slot s
  | .closingRoundDone slot => Sys2Proof.Machine.execClosingRoundDone slot s
  | .solsticeGatePass slot => Sys2Proof.Machine.execSolsticeGatePass slot s
  | .beginRecordProgrammed slot => Sys2Proof.Machine.execBeginRecordProgrammed slot s
  | .solsticePhaseDone slot => Sys2Proof.Machine.execSolsticePhaseDone slot s
  | .endRecordProgrammed slot => Sys2Proof.Machine.execEndRecordProgrammed slot s
  | .keySweepStart realm => Sys2Proof.Machine.execKeySweepStart realm s
  | .keySweepDone realm => Sys2Proof.Machine.execKeySweepDone realm s
  | .lpxScrubSchedule d => Sys2Proof.Machine.execLpxScrubSchedule d s
  | .patrolDone d errs => Sys2Proof.Machine.execPatrolDone d errs s
  | .remoteRequest chip slot realm wr off len data errs => Sys2Proof.Machine.execRemoteRequest chip slot realm wr off len data errs s
  | .laserFailure n power low => Sys2Proof.Machine.execLaserFailure n power low s
  | .spareLaserStarted n power low => Sys2Proof.Machine.execSpareLaserStarted n power low s
  | .lockLoopSample d mon => Sys2Proof.Machine.execLockLoopSample d mon s
  | .ringLockLoss d ix => Sys2Proof.Machine.execRingLockLoss d ix s
  | .holdLightReturn d ix near => Sys2Proof.Machine.execHoldLightReturn d ix near s
  | .ringSweepDone d ix found => Sys2Proof.Machine.execRingSweepDone d ix found s
  | .forecastWord d => Sys2Proof.Machine.execForecastWord d s
  | .lseqNop d w => Sys2Proof.Machine.execLseqNop d w s
  | .halt d w => Sys2Proof.Machine.execHalt d w s
  | .lseqAlu d w => Sys2Proof.Machine.execLseqAlu d w s
  | .lseqAddi d w => Sys2Proof.Machine.execLseqAddi d w s
  | .lseqLui d w => Sys2Proof.Machine.execLseqLui d w s
  | .br d w => Sys2Proof.Machine.execBr d w s
  | .lseqWait d w => Sys2Proof.Machine.execLseqWait d w s
  | .lseqWaitEnd d => Sys2Proof.Machine.execLseqWaitEnd d s
  | .rdmon d w v => Sys2Proof.Machine.execRdmon d w v s
  | .rdhtr d w => Sys2Proof.Machine.execRdhtr d w s
  | .wrhtr d w => Sys2Proof.Machine.execWrhtr d w s
  | .setst d w => Sys2Proof.Machine.execSetst d w s
  | .rdst d w => Sys2Proof.Machine.execRdst d w s
  | .rdcal d w => Sys2Proof.Machine.execRdcal d w s
  | .wrcal d w => Sys2Proof.Machine.execWrcal d w s
  | .wrff d w => Sys2Proof.Machine.execWrff d w s
  | .rdlas d w => Sys2Proof.Machine.execRdlas d w s
  | .wrbias d w => Sys2Proof.Machine.execWrbias d w s
  | .rdtmp d w temp => Sys2Proof.Machine.execRdtmp d w temp s
  | .lseqRdrt d w => Sys2Proof.Machine.execLseqRdrt d w s
  | .post d w => Sys2Proof.Machine.execPost d w s
  | .lightPlanSwitch => Sys2Proof.Machine.execLightPlanSwitch s
  | .matrixSettled => Sys2Proof.Machine.execMatrixSettled s
  | .dataFrame l ix => Sys2Proof.Machine.execDataFrame l ix s
  | .reductionFrame l ix => Sys2Proof.Machine.execReductionFrame l ix s
  | .idleFrame l ix => Sys2Proof.Machine.execIdleFrame l ix s
  | .nak l ix n => Sys2Proof.Machine.execNak l ix n s
  | .lanesetRequest l ix m cause => Sys2Proof.Machine.execLanesetRequest l ix m cause s
  | .lanesetCommit l ix m map => Sys2Proof.Machine.execLanesetCommit l ix m map s
  | .resweep l ix p line => Sys2Proof.Machine.execResweep l ix p line s
  | .train l ix m passed => Sys2Proof.Machine.execTrain l ix m passed s
  | .spare l ix n => Sys2Proof.Machine.execSpare l ix n s
  | .replayTimeout l => Sys2Proof.Machine.execReplayTimeout l s
  | .laneDropCondition l p cause found => Sys2Proof.Machine.execLaneDropCondition l p cause found s
  | .lanesetRequestRepeat l => Sys2Proof.Machine.execLanesetRequestRepeat l s
  | .lanePrbsDone l p ok => Sys2Proof.Machine.execLanePrbsDone l p ok s
  | .commonModeOutage l => Sys2Proof.Machine.execCommonModeOutage l s
  | .commonModeHoldExpiry l => Sys2Proof.Machine.execCommonModeHoldExpiry l s
  | .rtbSyncPulse n => Sys2Proof.Machine.execRtbSyncPulse n s
  | .slewAdjust n => Sys2Proof.Machine.execSlewAdjust n s
  | .rtbClkLoss => Sys2Proof.Machine.execRtbClkLoss s
  | .rtbClkRelock => Sys2Proof.Machine.execRtbClkRelock s
  | .rtbSyncLossTimeout => Sys2Proof.Machine.execRtbSyncLossTimeout s
  | .timestampSend port n => Sys2Proof.Machine.execTimestampSend port n s
  | .timestampFrame port n part tx echoTx echoRx corr flags dist => Sys2Proof.Machine.execTimestampFrame port n part tx echoTx echoRx corr flags dist s
  | .instantFires => Sys2Proof.Machine.execInstantFires s
  | .windowEndReached d slot op m => Sys2Proof.Machine.execWindowEndReached d slot op m s
  | .portLightDetected p => Sys2Proof.Machine.execPortLightDetected p s
  | .portTrainingDone p tx rx rtt => Sys2Proof.Machine.execPortTrainingDone p tx rx rtt s
  | .identitySend p => Sys2Proof.Machine.execIdentitySend p s
  | .identityFrame p ix => Sys2Proof.Machine.execIdentityFrame p ix s
  | .quarantineDarkTimer p => Sys2Proof.Machine.execQuarantineDarkTimer p s
  | .discoveryTimeout => Sys2Proof.Machine.execDiscoveryTimeout s
  | .write l => Sys2Proof.Machine.execWrite l s
  | .writeAck l => Sys2Proof.Machine.execWriteAck l s
  | .read l errs => Sys2Proof.Machine.execRead l errs s
  | .readData l errs => Sys2Proof.Machine.execReadData l errs s
  | .signal l => Sys2Proof.Machine.execSignal l s
  | .reduce l errs => Sys2Proof.Machine.execReduce l errs s
  | .nack l => Sys2Proof.Machine.execNack l s
  | .barrier l => Sys2Proof.Machine.execBarrier l s
  | .count l => Sys2Proof.Machine.execCount l s
  | .packetForward l => Sys2Proof.Machine.execPacketForward l s
  | .remoteTransactionTimeout tag => Sys2Proof.Machine.execRemoteTransactionTimeout tag s
  | .colRs d slot op m errs => Sys2Proof.Machine.execColRs d slot op m errs s
  | .colAg d slot op m errs => Sys2Proof.Machine.execColAg d slot op m errs s
  | .colA2a d slot op m errs => Sys2Proof.Machine.execColA2a d slot op m errs s
  | .colSend d slot op m errs => Sys2Proof.Machine.execColSend d slot op m errs s
  | .colRing d slot op m errs => Sys2Proof.Machine.execColRing d slot op m errs s
  | .colBarrier d slot op m => Sys2Proof.Machine.execColBarrier d slot op m s
  | .colBuddy d slot op m errs => Sys2Proof.Machine.execColBuddy d slot op m errs s
  | .colOpDone d slot op m errs => Sys2Proof.Machine.execColOpDone d slot op m errs s
  | .sentinelCheckDone d c k diff => Sys2Proof.Machine.execSentinelCheckDone d c k diff s
  | .strikeExpiry => Sys2Proof.Machine.execStrikeExpiry s
  | .coreTakeover d c k => Sys2Proof.Machine.execCoreTakeover d c k s
  | .autumnSchedule => Sys2Proof.Machine.execAutumnSchedule s
  | .autumnSlice order r ix => Sys2Proof.Machine.execAutumnSlice order r ix s
  | .autumnSliceDone r => Sys2Proof.Machine.execAutumnSliceDone r s
  | .clockReplanStep => Sys2Proof.Machine.execClockReplanStep s
  | .maintLockExpiry k => Sys2Proof.Machine.execMaintLockExpiry k s
  | .maintQueuedGrant => Sys2Proof.Machine.execMaintQueuedGrant s
  | .maintActivityEnd k => Sys2Proof.Machine.execMaintActivityEnd k s
  | .getVersion b => Sys2Proof.Machine.execGetVersion b s
  | .getCapabilities b => Sys2Proof.Machine.execGetCapabilities b s
  | .negotiateAlgorithms b asym hash => Sys2Proof.Machine.execNegotiateAlgorithms b asym hash s
  | .getDigests b => Sys2Proof.Machine.execGetDigests b s
  | .getCertificate b slot off len => Sys2Proof.Machine.execGetCertificate b slot off len s
  | .challenge b slot summary nonce later => Sys2Proof.Machine.execChallenge b slot summary nonce later s
  | .getMeasurements b index sign nonce later => Sys2Proof.Machine.execGetMeasurements b index sign nonce later s
  | .respondIfReady b code token later => Sys2Proof.Machine.execRespondIfReady b code token later s
  | .spdmUnsupportedRequest b code => Sys2Proof.Machine.execSpdmUnsupportedRequest b code s
  | .setEndpointId b eid => Sys2Proof.Machine.execSetEndpointId b eid s
  | .getEndpointId b => Sys2Proof.Machine.execGetEndpointId b s
  | .getEndpointUuid b => Sys2Proof.Machine.execGetEndpointUuid b s
  | .getMctpVersionSupport b typ => Sys2Proof.Machine.execGetMctpVersionSupport b typ s
  | .getMessageTypeSupport b => Sys2Proof.Machine.execGetMessageTypeSupport b s
  | .getVendorDefinedMessageSupport b => Sys2Proof.Machine.execGetVendorDefinedMessageSupport b s
  | .setTid b tid => Sys2Proof.Machine.execSetTid b tid s
  | .getTid b => Sys2Proof.Machine.execGetTid b s
  | .getPldmVersion b typ => Sys2Proof.Machine.execGetPldmVersion b typ s
  | .getPldmTypes b => Sys2Proof.Machine.execGetPldmTypes b s
  | .getPldmCommands b typ => Sys2Proof.Machine.execGetPldmCommands b typ s
  | .getPdrRepositoryInfo b => Sys2Proof.Machine.execGetPdrRepositoryInfo b s
  | .getPdr b handle => Sys2Proof.Machine.execGetPdr b handle s
  | .getSensorReading b sensor => Sys2Proof.Machine.execGetSensorReading b sensor s
  | .getStateSensorReadings b sensor => Sys2Proof.Machine.execGetStateSensorReadings b sensor s
  | .setEventReceiver b eid => Sys2Proof.Machine.execSetEventReceiver b eid s
  | .eventMessageSupported b => Sys2Proof.Machine.execEventMessageSupported b s
  | .eventMessageBufferSize b n => Sys2Proof.Machine.execEventMessageBufferSize b n s
  | .pollForPlatformEventMessage b ack => Sys2Proof.Machine.execPollForPlatformEventMessage b ack s
  | .getFruRecordTableMetadata b => Sys2Proof.Machine.execGetFruRecordTableMetadata b s
  | .getFruRecordTable b => Sys2Proof.Machine.execGetFruRecordTable b s
  | .queryDeviceIdentifiers b => Sys2Proof.Machine.execQueryDeviceIdentifiers b s
  | .getFirmwareParameters b => Sys2Proof.Machine.execGetFirmwareParameters b s
  | .requestUpdate b maxLen => Sys2Proof.Machine.execRequestUpdate b maxLen s
  | .passComponentTable b comps => Sys2Proof.Machine.execPassComponentTable b comps s
  | .updateComponent b comp size => Sys2Proof.Machine.execUpdateComponent b comp size s
  | .requestFirmwareData data => Sys2Proof.Machine.execRequestFirmwareData data s
  | .transferComplete => Sys2Proof.Machine.execTransferComplete s
  | .verifyComplete image => Sys2Proof.Machine.execVerifyComplete image s
  | .applyComplete => Sys2Proof.Machine.execApplyComplete s
  | .activateFirmware b => Sys2Proof.Machine.execActivateFirmware b s
  | .getStatus b => Sys2Proof.Machine.execGetStatus b s
  | .cancelUpdateComponent b => Sys2Proof.Machine.execCancelUpdateComponent b s
  | .cancelUpdate b => Sys2Proof.Machine.execCancelUpdate b s
  | .pldmUnsupportedCommand b typ cmd => Sys2Proof.Machine.execPldmUnsupportedCommand b typ cmd s
  | .eventRead b start => Sys2Proof.Machine.execEventRead b start s
  | .journalRead b start => Sys2Proof.Machine.execJournalRead b start s
  | .telemetrySample ix => Sys2Proof.Machine.execTelemetrySample ix s
  | .powerWindowDelivery => Sys2Proof.Machine.execPowerWindowDelivery s
  | .eventLogTransfer => Sys2Proof.Machine.execEventLogTransfer s
  | .registerRead who bar off n mask bad => Sys2Proof.Machine.execRegisterRead who bar off n mask bad s
  | .badPecPacket => Sys2Proof.Machine.execBadPecPacket s

end Sys2Proof.Machine
end

