-- ==== Sys2Proof/Safety.lean ====
section
/-! DEFINITION. What a safe run is (no step of it stops), and when a mailbox command is the next one to be served and
nothing of R126 that does not depend on the command turns it away. -/

namespace Sys2Proof

open Sys2Proof.Machine

/-- From `s`, `n` steps all answer a next state. -/
def SafeRun : Nat → State → Prop
  | 0, _ => True
  | n + 1, s => ∃ t, Machine.step s = .next t ∧ SafeRun n t

/-- The tables of memory are in canonical form: keys rise, and no entry is what an unlisted key reads as. -/
def Machine.Mem.wf (m : Mem) : Bool :=
  tok 0 m.sram && tok none m.line && tok 0 m.sramEcc && tok none m.lpx && tok none m.page && tok {} m.pageGen
    && tok 0 m.lpxEcc

/-- What every step keeps: memory is in canonical form, and the hardware event queue, the log, the PLDM event queue and the
journal stay within their depths (R522, R525, R529). -/
def Inv (s : State) : Prop :=
  s.mem.wf = true ∧ s.mgt.hwq.length ≤ 1024 ∧ s.mgt.log.length ≤ 8192 ∧ s.mgt.evq.length ≤ 256
    ∧ s.flash.journal.length ≤ 32768

/-- The entry of a command as the CP has begun to serve it. -/
def begun (e : InFlight) : InFlight := { e with started := true }

/-- The state in which the entry `e` of the command `c` has begun. -/
def taken (c : Cmd) (e : InFlight) (s : State) : State := putEntry c.port c.ring e (begun e) s

/-- In service (R79): `e` is the next entry of its ring, it carries opcode `op`, its reserved bits are 0, the arguments
outside the mask `args` are 0 (R118, R122, R126), and no read of its data in host memory has failed (R107). -/
def CallReady (op args : Nat) (c : Cmd) (e : InFlight) (s : State) : Prop :=
  nextCmd c s = some e ∧ e.desc.opcode.toNat = op ∧ e.fails = none ∧ s.phase = .running ∧ fld e.desc.flags 4 3 = 0 ∧ e.desc.rsvd = 0
    ∧ ∀ k < 6, args.testBit k = false → argOf e.desc k = 0

/-- The command stands on a host's operator ring, with REALM 0 and no RT_AT (R115, R118, R128). -/
def FromOperator (op args : Nat) (c : Cmd) (e : InFlight) (s : State) : Prop :=
  CallReady op args c e s ∧ c.ring = 0 ∧ e.desc.realm = 0 ∧ e.desc.rtAt = 0

/-- The command stands on the operator ring of a host that was the steward when it was fetched (R112, R128). -/
def FromSteward (op args : Nat) (c : Cmd) (e : InFlight) (s : State) : Prop :=
  FromOperator op args c e s ∧ e.steward = true

/-- The command stands on a telemetry ring, with REALM 0 and no RT_AT (R115, R118, R128). -/
def FromTelemetry (op args : Nat) (c : Cmd) (e : InFlight) (s : State) : Prop :=
  CallReady op args c e s ∧ c.ring = 3 ∧ e.desc.realm = 0 ∧ e.desc.rtAt = 0

/-- The command stands on ring `r` of the host that owns realm `r`, 1 or 2, which is Keyed, with no RT_AT (R128,
R448). -/
def FromRealm (r op args : Nat) (c : Cmd) (e : InFlight) (s : State) : Prop :=
  CallReady op args c e s ∧ (r = 1 ∨ r = 2) ∧ c.ring = r ∧ e.desc.realm.toNat = r ∧ e.desc.rtAt = 0
    ∧ (realmOf s r).owner = some c.port ∧ (realmOf s r).st = .keyed

/-- The same of a command that an Opened realm may send too (R448). -/
def FromOpen (r op args : Nat) (c : Cmd) (e : InFlight) (s : State) : Prop :=
  CallReady op args c e s ∧ (r = 1 ∨ r = 2) ∧ c.ring = r ∧ e.desc.realm.toNat = r ∧ e.desc.rtAt = 0
    ∧ (realmOf s r).owner = some c.port ∧ ((realmOf s r).st = .opened ∨ (realmOf s r).st = .keyed)

/-- The command stands on a ring that holds the realm `r`'s rights: the steward's operator ring for 0, the ring of the
realm's owner for 1 and 2 (R115, R128). -/
def FromHost (r op args : Nat) (c : Cmd) (e : InFlight) (s : State) : Prop :=
  (r = 0 ∧ FromSteward op args c e s) ∨ FromRealm r op args c e s

/-- Core (d, c, k) issues the tile instruction `w` with opcode `op`, whose bits outside the mask `used` are 0, below the
last instruction of the store (R159, R160). -/
def TileAt (op used d c k : Nat) (w : W32) (x : Core) (s : State) : Prop :=
  coreIssues s d c k = true ∧ Machine.core s d c k = x ∧ tileWord s d c k = w ∧ fld w 26 6 = op
    ∧ w.toNat % 2 ^ 26 &&& (2 ^ 26 - 1 - used) = 0 ∧ x.pc < 1023

/-- The context (d, c, slot) issues the CCC instruction `w` with opcode `op`, whose bits outside the mask `used` are 0,
whose registers `regs` hold no awaited summary, below the last instruction of the store (R227 to R231). -/
def CccAt (op used : Nat) (regs : List Nat) (d c slot : Nat) (w : W32) (x : Ccc) (s : State) : Prop :=
  cccIssues s d c slot = true ∧ ccc s d c slot = x ∧ cccWord s d c slot = w ∧ fld w 26 6 = op
    ∧ w.toNat % 2 ^ 26 &&& (2 ^ 26 - 1 - used) = 0
    ∧ (regs.any (fun r => 24 ≤ r && r < 32) && (ve s d c slot).run) = false ∧ x.pc < 2047

/-- A CCC that goes on at `target`: inside its program store, else a PC_BOUND fault there (R228, R233). -/
def cccJumped (d c slot : Nat) (x : Ccc) (target : Int) (s : State) : State :=
  if 0 ≤ target ∧ target < 2048 then setCcc s d c slot { x with pc := target.toNat }
  else cccFault d c slot 3 0xFF (setCcc s d c slot { x with pc := (target % 2 ^ 64).toNat })

/-- The context's VE program issues the instruction `w` with opcode `op`, whose bits outside the mask `used` are 0, below
the last instruction of the store (R208, R218). -/
def VeAt (op used d c slot : Nat) (w : W32) (v : Ve) (s : State) : Prop :=
  veIssues s d c slot = true ∧ ve s d c slot = v ∧ veWord s d c slot = w ∧ fld w 26 6 = op
    ∧ w.toNat % 2 ^ 26 &&& (2 ^ 26 - 1 - used) = 0 ∧ v.pc < 2047

/-- The VE context after an instruction that leaves it as `v` and goes on (R218, R243). -/
def veNext (v : Ve) : Ve := { v with pc := v.pc + 1, issued := inc32 v.issued 1 }

/-- `u` is `v` gone on to the next instruction, but for register `r`: its element `i` of type `ty` holds `f i`, cut to the
type, and is as before where `f i` is none (R213, R214). -/
def VeElems (ty r : Nat) (f : Nat → Option Nat) (v u : Ve) : Prop :=
  (∀ i < tyLanes ty, elem u ty r i = match f i with
    | some x => x % 2 ^ (8 * tyBytes ty)
    | none => elem v ty r i)
  ∧ (∀ q ≠ r, ∀ l < 128, lane u q l = lane v q l) ∧ u = { veNext v with v := u.v }

/-- Sequencer `d` issues the LSEQ instruction `w` with opcode `op`, whose bits outside the mask `used` are 0, below the last
instruction of the store (R361 to R363). -/
def SeqAt (op used d : Nat) (w : W32) (x : Seq) (s : State) : Prop :=
  seqr s d = x ∧ x.run = true ∧ x.waiting = none ∧ domOn s 71 = true ∧ blkOn s (baseLCK d) = true ∧ seqWord s d = w
    ∧ fld w 26 6 = op ∧ w.toNat % 2 ^ 26 &&& (2 ^ 26 - 1 - used) = 0 ∧ x.pc < 4095

/-- The ring index that an LSEQ instruction takes from register B names a ring of the die (R355, R363). -/
def SeqRing (d : Nat) (w : W32) (x : Seq) (i : Nat) (s : State) : Prop :=
  (gReg x (qB w)).toNat = i ∧ i < 224 ∧ d < dies s

/-- The packet `q` of kind `kind` is the oldest that link `l` has delivered, is for this module, and was opened (R425,
R460). -/
def PktAt (kind l : Nat) (q : RxPkt) (s : State) : Prop :=
  inFirst s l = some q ∧ q.pkt.kind = kind ∧ isOwn s q.pkt.dst = true ∧ q.opened = true

/-- The instance (op, m) of the collective op `code` can begin on die `d` and slot `slot`, with context `x`; `y` is its run
and `t` the state in which it has begun: its waits are taken and it runs (R257, R432). -/
def ColAt (code d slot op m : Nat) (errs : List (Nat × Nat)) (x : ColCtx) (y : ColRun) (t s : State) : Prop :=
  colCtx s d slot op = some x ∧ x.o.op = code ∧ colReady s d slot op m = true ∧ colFirst s d slot op = true
    ∧ y = { die := d, slot, op, m, window := colWindow x.j x.st x.o }
    ∧ ∃ u, u = takeWaits d slot m x.o.wait.toList (applyErrs errs s)
      ∧ t = setJobAt { u with fab := { u.fab with runs := u.fab.runs ++ [y] } } slot
        ((jobAt u slot).map fun j => { j with progress := rtNow u })

/-- A sideband packet has been received (R515). -/
def received (s : State) : State := { s with mgt := { s.mgt with rx := inc32 s.mgt.rx 1 } }

/-- Binding `b` serves an SPDM request that needs the negotiation to have reached `stage` (R515, R518). -/
def SpdmAt (b stage : Nat) (s : State) : Prop :=
  mctpServes s b = true ∧ cpAway s = false ∧ (s.phase = .running ∨ s.phase = .shutting) ∧ stage ≤ s.mgt.spdmStage

/-- Binding `b` serves a PLDM request of a type (R515, R516, R518). -/
def PldmAt (b typ : Nat) (s : State) : Prop := mctpServes s b = true ∧ pldmGate s typ = some 0

end Sys2Proof
end

