-- ==== Sys2Proof/Certificates/Slice0/Obligations.lean ====
section
/-! DEFINITION. The statements for the provers. -/

open Sys2Proof Sys2Proof.Machine

/-- Supply and start pins (R30, R42, R62, R543). A rise of PWR_EN inside the release thresholds of 29.5 V and 41.0 V
starts Spring at step 1 with PD79 enabling, as does the end of the 200 ms after a fall when a rise was held, the return
of the input while PWR_EN is high, and WAKE_N in Dormant; a rise inside the 200 ms is held instead. A fall of PWR_EN and
a lockout turn every domain Off, take PWR_GOOD low, and keep of the machine only its part number, its pins and holds (the
levels of PERSTn_N among them) and module flash (with the model's own counter, output record and queue). A rise outside the
release thresholds waits for the input, and WAKE_N is latched while a shutdown to Dormant turns the domains off. -/
def Obligations.SupplyPinsStartAndStopTheModule : Prop :=
  (∀ (s : State) (vin : Nat), s.sup.pins.pwrEn = false → s.sup.pins.inputOk = true → 29500 < vin → vin < 41000 →
    s.sup.hold = false →
    ∃ t, exec (.pwrEnRise vin) s = .next t ∧ t.phase = .spring ∧ t.spring.started = [1] ∧ t.spring.done = []
      ∧ (dom t 79).st = .enabling ∧ t.sup.pins = { s.sup.pins with pwrEn := true, vin := vin } ∧ t.flash = s.flash)
  ∧ (∀ (s : State) (vin : Nat), s.sup.pins.pwrEn = false → s.sup.pins.inputOk = true → 29500 < vin → vin < 41000 →
    s.sup.hold = true →
    ∃ t, exec (.pwrEnRise vin) s = .next t ∧ t.sup.riseHeld = true ∧ t.sup.pins.pwrEn = true
      ∧ t = { s with sup := t.sup })
  ∧ (∀ s : State, ∃ t, exec .pwrEnFall s = .next t ∧ t.phase = .off ∧ t.sup.good = false ∧ t.sup.hold = true
      ∧ t.sup.pins = { s.sup.pins with pwrEn := false }
      ∧ t = { State.reset with
          variant := s.variant, sup := t.sup, fn0 := { perstLow := s.fn0.perstLow }
          fn1 := { perstLow := s.fn1.perstLow }, flash := s.flash, freeCtr := s.freeCtr, out := s.out
          pending := s.pending })
  ∧ (∀ s : State, s.sup.hold = true → s.sup.riseHeld = true → s.sup.pins.pwrEn = true → s.sup.pins.inputOk = true →
    ∃ t, exec .pwrEnHoldExpiry s = .next t ∧ t.phase = .spring ∧ t.spring.started = [1] ∧ t.sup.hold = false
      ∧ t.flash = s.flash)
  ∧ (∀ s : State, s.sup.hold = true → s.sup.riseHeld = false →
    exec .pwrEnHoldExpiry s = .next { s with sup := { s.sup with hold := false } })
  ∧ (∀ (s : State) (vin : Nat), vin < 28500 ∨ 42000 < vin →
    ∃ t, exec (.inputLockout vin) s = .next t ∧ t.phase = .off ∧ t.sup.good = false
      ∧ t.sup.pins = { s.sup.pins with inputOk := false, vin := vin }
      ∧ t = { State.reset with
          variant := s.variant, sup := t.sup, fn0 := { perstLow := s.fn0.perstLow }
          fn1 := { perstLow := s.fn1.perstLow }, flash := s.flash, freeCtr := s.freeCtr, out := s.out
          pending := s.pending })
  ∧ (∀ (s : State) (vin : Nat), s.sup.pins.inputOk = false → 29500 < vin → vin < 41000 → s.sup.pins.pwrEn = true →
    s.sup.hold = false →
    ∃ t, exec (.inputRelease vin) s = .next t ∧ t.phase = .spring ∧ t.spring.started = [1]
      ∧ t.sup.pins.inputOk = true ∧ t.flash = s.flash)
  ∧ (∀ s : State, s.phase = .dormant → s.sup.pins.pwrEn = true → s.sup.pins.inputOk = true →
    ∃ t, exec .wakeNAssert s = .next t ∧ t.phase = .spring ∧ t.spring.started = [1] ∧ (dom t 79).st = .enabling
      ∧ t.flash = s.flash)
  ∧ (∀ s : State, s.phase = .running → exec .wakeNAssert s = .next s)
  ∧ (∀ (s : State) (vin : Nat), s.sup.pins.pwrEn = false → s.sup.pins.inputOk = true → vin ≤ 29500 ∨ 41000 ≤ vin →
    exec (.pwrEnRise vin) s = .next { s with sup := { s.sup with
      pins := { s.sup.pins with pwrEn := true, vin := vin, inputOk := false } } })
  ∧ (∀ (s : State) (h : Shutdown), s.phase = .shutting → s.shut = some h → h.target = .dormant → 7 ≤ h.item →
    exec .wakeNAssert s = .next { s with sup := { s.sup with wakeLatched := true } })

/-- Thermal trip (R54, R55). In service, the board pulling THERM_TRIP_N low, a junction at 105 °C and a coolant flow
below 25% of its minimum (R59) stop the clocks; the last two make the module drive the line itself, count the trip and
raise THERMAL_TRIP. A job in a step that is not in Solstice, or still in its closing
round, is left held, its step aborted. Outside service the level of the line is only kept. The line going high, and the
module's release of its own drive once every junction is at 90 °C or less with both flows at their minimums, restart the
clocks unless the other side still pulls the line.
Throttling, droop and stack temperature (R51, R53, R299). A quadrant sensor at POINT starts an episode: the clock
of the die goes one step of 100 MHz below the declared clock, never under 600 MHz, and THERMAL_THROTTLE names the die. A
later step lowers it again while some sensor reads above POINT - 2; RELEASE held for 10 ms raises it in the same steps.
Droop only marks and counts the quadrant. A stack that first reads above 95 °C is throttled, above 85 °C derated, and
the reading is kept in whole degrees. -/
def Obligations.ThermalTripThrottlingAndDroop : Prop :=
  ((∀ s : State, s.sup.good = true → domOn s 79 = true →
     ∃ t, exec .thermTripNLow s = .next t ∧ t.thm = { s.thm with stopped := true }
       ∧ t.sup = { s.sup with pins := { s.sup.pins with boardTrip := true } })
   ∧ (∀ s : State, s.thm.tripDrv = false →
     exec .thermTripNHigh s = .next { s with
       sup := { s.sup with pins := { s.sup.pins with boardTrip := false } }, thm := { s.thm with stopped := false } })
   ∧ (∀ s : State, inService s = false →
     exec .thermTripNLow s = .next { s with sup := { s.sup with pins := { s.sup.pins with boardTrip := true } } })
   ∧ (∀ s : State, s.thm.tripDrv = true →
     exec .thermTripNHigh s = .next { s with sup := { s.sup with pins := { s.sup.pins with boardTrip := false } } })
   ∧ (∀ (s u : State) (temp : Int), s.sup.good = true → domOn s 79 = true → 10500 ≤ temp → s.thm.tripDrv = false →
     u = noteHot { s with thm := { s.thm with other := temp } } →
     ∃ t, exec (.junctionTrip temp) s = .next t
       ∧ t.thm = { u.thm with tripDrv := true, stopped := true, trips := s.thm.trips + 1 } ∧ t.sup = s.sup
       ∧ (s.jobA = none → s.jobB = none → t = { s with thm := t.thm, mgt := (logMod 0x8005 0 [] s).mgt }))
   ∧ (∀ (s : State) (temp : Int) (j : Job) (st : Sys2Proof.Machine.Step), s.sup.good = true → domOn s 79 = true → 10500 ≤ temp →
     s.thm.tripDrv = false → s.jobA = some j → j.step = some st → (j.sol = .none ∨ j.sol = .closing) →
     j.aborting = false → ∃ t k, exec (.junctionTrip temp) s = .next t ∧ t.jobA = some k ∧ k.state = .held ∧ k.aborting = true
       ∧ k.sol = .none ∧ k.stepNo = j.stepNo ∧ k.lastEvent = 0x8005)
   ∧ (∀ (s : State) (f0 f1 : Nat), s.phase = .running → f0 * 4 < (minFlow s).1 ∨ f1 * 4 < (minFlow s).2 →
     s.thm.tripDrv = false →
     ∃ t, exec (.coolantFlowTrip f0 f1) s = .next t
       ∧ t.thm = { s.thm with tripDrv := true, stopped := true, trips := s.thm.trips + 1 }
       ∧ t.sup = { s.sup with pins := { s.sup.pins with flow0 := f0, flow1 := f1 } })
   ∧ (∀ (s : State) (hot : Int), s.thm.tripDrv = true → hot ≤ 9000 → (minFlow s).1 ≤ s.sup.pins.flow0 →
     (minFlow s).2 ≤ s.sup.pins.flow1 →
     ∃ t, exec (.tripRelease hot) s = .next t ∧ t.thm.tripDrv = false
       ∧ t.thm.stopped = (s.thm.stopped && s.sup.pins.boardTrip) ∧ t.thm.other = hot ∧ t.thm.trips = s.thm.trips
       ∧ t = { s with thm := t.thm }))
  ∧ ((∀ (s : State) (d q : Nat) (temp : Int), domOn s (8 * d + q) = true → q < 4 → (thmPoint s * 100 : Nat) ≤ temp →
     (dieThm s d).throttled = false →
     ∃ t, exec (.thermalPointReached d q temp) s = .next t
       ∧ dieThm t d = { readQuad q temp (dieThm s d) with
           throttled := true, clock := max 600 (declaredMhz s - 100), rising := false }
       ∧ t.mgt = (logMod 0x8001 (resDie d) [] s).mgt ∧ t = { s with thm := t.thm, mgt := t.mgt })
   ∧ (∀ (s : State) (d : Nat) (temps : List Int), (dieThm s d).throttled = true → (dieThm s d).rising = false →
     d < dies s → (∃ x ∈ temps, ((thmPoint s - 2) * 100 : Nat) < x) →
     ∃ t, exec (.throttleStep d temps) s = .next t
       ∧ dieThm t d = { dieThm s d with temps := temps, clock := max 600 ((dieThm s d).clock - 100) }
       ∧ t = { s with thm := t.thm })
   ∧ (∀ (s : State) (d : Nat) (temps : List Int), (dieThm s d).throttled = true → d < dies s →
     (∀ x ∈ temps, x ≤ (thmRelease s * 100 : Nat)) → (dieThm s d).clock + 100 < declaredMhz s →
     ∃ t, exec (.throttleReleaseTimer d temps) s = .next t
       ∧ dieThm t d = { dieThm s d with temps := temps, rising := true, clock := (dieThm s d).clock + 100 }
       ∧ t = { s with thm := t.thm })
   ∧ (∀ (s : State) (d q : Nat), domOn s (8 * d + q) = true → q < 4 →
     ∃ t, exec (.droopDetect d q) s = .next t ∧ tget false t.thm.droop (4 * d + q) = true
       ∧ tget 0 t.thm.droopCount (4 * d + q) = tget 0 s.thm.droopCount (4 * d + q) + 1 ∧ t.mgt = s.mgt
       ∧ t = { s with thm := t.thm })
   ∧ (∀ (s : State) (d q : Nat), ∃ t, exec (.droopEnd d q) s = .next t ∧ tget false t.thm.droop (4 * d + q) = false
       ∧ t.thm.droopCount = s.thm.droopCount ∧ t = { s with thm := t.thm })
   ∧ (∀ (s : State) (n : Nat) (temp : Int), domOn s (8 * (n / 5) + 7) = true → 9500 < temp → (stack s n).throttle = false →
     ∃ t, exec (.lpxTempRead n temp) s = .next t ∧ (stack t n).throttle = true ∧ (stack t n).derate = true
       ∧ (stack t n).temp = BitVec.ofInt 8 (temp / 100) ∧ t.mgt = (logMod 0x8001 (resStack n) [] s).mgt
       ∧ t = { s with stk := t.stk, mgt := t.mgt }))

/-- Power capping and coolant (R45, R48, R59). A sample is kept with the nine before it. A loop step over the cap, with
the average current within 160 A, lowers the clock by 100 MHz when it is more than 5% over and by 25 MHz otherwise, never
below 600 MHz; at 600 MHz it tightens the issue limit instead. A limit of 4 in 16 that leaves the average over the cap is
reported once as POWER_CAP_UNMET with the cap and the average; a current limit unmet in the same episode still counts. When the limit that cannot be met is that of the input
current, every quadrant domain that is On enters Fault with cause 1 (in service, with no power sequence). Coolant out of limits for 2 s
adds the coolant cap and raises COOLANT_FAULT; within limits for 10 s it is lifted. -/
def Obligations.PowerCapLoopAndCoolantCap : Prop :=
  (∀ (s : State) (w a : Nat), s.sup.good = true →
    exec (.powerSample w a) s = .next { s with cap := { s.cap with
      samples := (w :: s.cap.samples).take 10, amps := (a :: s.cap.amps).take 10 } })
  ∧ (∀ s : State, s.sup.good = true → s.cap.samples ≠ [] → s.cap.active = true → 600 < s.cap.clock →
    s.cap.clock ≤ othersMhz s → capW s < avgOf s.cap.samples → avgOf s.cap.amps ≤ 160000 →
    ∃ t, exec .powerCapLoopStep s = .next t ∧ t.cap.active = decide (t.cap.clock < othersMhz s)
      ∧ t.cap.clock = max 600 (s.cap.clock - if capW s * 105 < avgOf s.cap.samples * 100 then 100 else 25)
      ∧ t.cap.duty = s.cap.duty ∧ t = { s with cap := t.cap, mgt := t.mgt })
  ∧ (∀ s : State, s.sup.good = true → s.cap.samples ≠ [] → s.cap.active = true → s.cap.clock = 600 →
    600 ≤ othersMhz s → capW s < avgOf s.cap.samples → avgOf s.cap.amps ≤ 160000 → s.cap.duty < 3 →
    ∃ t, exec .powerCapLoopStep s = .next t ∧ t.cap.clock = 600 ∧ t.cap.duty = s.cap.duty + 1
      ∧ t = { s with cap := t.cap, mgt := t.mgt })
  ∧ (∀ s : State, s.cap.duty = 3 → s.cap.unmet = false → capW s < avgOf s.cap.samples ∨ 160000 < avgOf s.cap.amps →
    ∃ t, exec .powerCapUnmetTimer s = .next t
      ∧ t.cap = { s.cap with unmet := true, railOffDue := s.cap.railOffDue || decide (160000 < avgOf s.cap.amps) }
      ∧ t.mgt = (logMod 0x8006 0 [dw (capW s), dw (avgOf s.cap.samples)] s).mgt
      ∧ t = { s with cap := t.cap, mgt := t.mgt })
  ∧ (∀ s : State, s.cap.duty = 3 → s.cap.unmet = true → 160000 < avgOf s.cap.amps →
    exec .powerCapUnmetTimer s = .next { s with cap := { s.cap with railOffDue := true } })
  ∧ (∀ s : State, s.cap.railOffDue = true → s.phase = .running → s.spring.discDone = true → s.pseq = none →
    s.pwait = [] →
    ∃ t, exec .currentLimitRailOff s = .next t ∧ t.cap = { s.cap with railOffDue := false }
      ∧ ∀ n < 64, n % 8 < 4 → domOn s n = true → (dom t n).st = .fault ∧ (dom t n).cause = 1)
  ∧ (∀ (s : State) (f0 f1 : Nat) (t0 t1 : Int), s.phase = .running → s.thm.coolantFault = false →
    f0 < (minFlow s).1 ∨ f1 < (minFlow s).2 ∨ 4000 < t0 ∨ 4000 < t1 →
    ∃ t, exec (.coolantLossTimer f0 f1 t0 t1) s = .next t ∧ t.cap = { s.cap with coolantCap := true }
      ∧ t.thm = { s.thm with coolantFault := true } ∧ t.mgt = (logMod 0x8004 0 [] s).mgt
      ∧ t = { s with cap := t.cap, thm := t.thm, sup := t.sup, mgt := t.mgt })
  ∧ (∀ (s : State) (f0 f1 : Nat) (t0 t1 : Int), s.phase = .running → s.thm.coolantFault = true →
    (minFlow s).1 ≤ f0 → (minFlow s).2 ≤ f1 → t0 ≤ 4000 → t1 ≤ 4000 →
    ∃ t, exec (.coolantClearTimer f0 f1 t0 t1) s = .next t ∧ t.cap = { s.cap with coolantCap := false }
      ∧ t.thm = { s.thm with coolantFault := false } ∧ t = { s with cap := t.cap, thm := t.thm, sup := t.sup })

/-- Spring and power domains (R34, R35, R65 to R67, R69, R75, R77, R296, R297). The coolant's return resumes Spring at
step 6. A domain's arrival at On, or at Off, is its transition's end, and a sequence then puts its next domain into
transition. A rail fault in service leaves the domain in Fault with its cause and every domain that requires it, and was
On, Off. The end of step 6 leaves the core microcode in every quad that is On and starts steps 7, 8 and 9; the attestation key is reused when the firmware digest is the
recorded one and made anew otherwise; a step that exceeds its bound stops Spring with cause 2; stack training ends with
the channels that failed, or whose retirement was armed, retired. -/
def Obligations.SpringStepsAndDomainTransitions : Prop :=
  (∀ (s : State) (f0 f1 : Nat) (t0 t1 : Int), s.spring.coolantWait = true → (minFlow s).1 ≤ f0 → (minFlow s).2 ≤ f1 →
    t0 ≤ 4000 → t1 ≤ 4000 →
    ∃ t, exec (.springCoolantResume f0 f1 t0 t1) s = .next t
      ∧ t.spring = { s.spring with coolantWait := false, started := s.spring.started ++ [6] }
      ∧ t = { s with sup := t.sup, spring := t.spring, doms := t.doms, pseq := t.pseq })
  ∧ (∀ (s : State) (n cause : Nat), domOn s n = true → 0 < cause → cause ≤ 3 → s.phase = .running →
    s.spring.discDone = true → s.pseq = none → s.pwait = [] →
    ∃ t, exec (.domainRailFault n cause) s = .next t ∧ (dom t n).st = .fault ∧ (dom t n).cause = BitVec.ofNat 3 cause
      ∧ (∀ m ∈ dependants n, domOn s m = true → (dom t m).st = .off) ∧ t.sup = s.sup)
  ∧ (∀ (s : State) (n : Nat), domPresent s n = true → (dom s n).st = .enabling → s.pseq = none →
    ∃ t, exec (.domainTransitionDone n) s = .next t ∧ dom t n = { st := .on } ∧ t.jobA = s.jobA ∧ t.flash = s.flash)
  ∧ (∀ (s : State) (n : Nat), domPresent s n = true → (dom s n).st = .disabling → s.pseq = none →
    ∃ t, exec (.domainTransitionDone n) s = .next t ∧ (dom t n).st = .off ∧ t.sup = s.sup)
  ∧ (∀ (s : State) (n m : Nat) (rest : List Nat) (w : SeqWhy), domPresent s n = true → (dom s n).st = .enabling →
    s.pseq = some { up := true, todo := n :: m :: rest, why := w } → m ≠ n → (dom s m).st = .off →
    ∃ t, exec (.domainTransitionDone n) s = .next t ∧ dom t n = { st := .on } ∧ (dom t m).st = .enabling
      ∧ t.pseq = some { up := true, todo := m :: rest, why := w })
  ∧ (∀ (s : State) (d : Nat) (i : TrainIn), domOn s (8 * d + 7) = true →
    ((stack s (5 * d)).training = true ∨ (stack s (5 * d)).initializing = true) →
    ∃ t, exec (.lpxInitDone d i) s = .next t
      ∧ (∀ k < 5, (stack t (5 * d + k)).training = false ∧ (stack t (5 * d + k)).initializing = false)
      ∧ (∀ q < 80, q ∈ i.failed ∨ tget .present s.flash.chans (80 * d + q) = .armed →
          tget .present t.flash.chans (80 * d + q) = .retired ∧ tget .present (stack t (5 * d + q / 16)).chans (q % 16) = .retired)
      ∧ t = { s with flash := t.flash, stk := t.stk, mem := t.mem, mgt := t.mgt })
  ∧ (∀ (s : State) (i : SpringIn), s.phase = .spring → s.spring.started.contains 6 = true →
    s.spring.done.contains 6 = false → s.pseq = none →
    ∃ t, exec (.springStepDone 6 i) s = .next t
      ∧ t.spring = { s.spring with done := s.spring.done ++ [6], started := s.spring.started ++ [7] ++ [8] ++ [9] }
      ∧ (∀ q < 32, domOn s (8 * (q / 4) + q % 4) = true → tget [] t.prg.ucode q = i.ucode)
      ∧ t = { s with spring := t.spring, prg := { s.prg with ucode := t.prg.ucode } })
  ∧ (∀ (s : State) (g : Bool), s.phase = .spring → s.spring.started.contains 5 = true → s.spring.keyCheck = .running →
    s.spring.done.contains 7 = false → s.flash.akDigest = some (bootedSlot s).cpDigest →
    exec (.attestKeyCheckDone g) s = .next { s with spring := { s.spring with keyCheck := .reused } })
  ∧ (∀ s : State, s.phase = .spring → s.spring.started.contains 5 = true → s.spring.keyCheck = .running →
    s.spring.done.contains 7 = false → s.flash.akDigest ≠ some (bootedSlot s).cpDigest →
    exec (.attestKeyCheckDone true) s = .next { s with
      spring := { s.spring with keyCheck := .generated, newAk := true }
      flash := { s.flash with akDigest := some (bootedSlot s).cpDigest, akNo := s.flash.akNo + 1 } })
  ∧ (∀ (s : State) (k : Nat), s.phase = .spring → s.spring.started.contains k = true → s.spring.done.contains k = false →
    k ≤ 10 →
    ∃ t, exec (.springStepTimeout k) s = .next t ∧ t.phase = .stopped ∧ t.spring.stop = some (k, 2)
      ∧ t.flash.journalNo = s.flash.journalNo + 1)

/-- PCIe links, function resets and stewardship (R63, R64, R105, R112 to R114). PERSTn_N, a link that leaves DL_Active
and a function-level reset take every ring of the function Off, drop its BAR2 mappings and reset its configuration space, and leave the other function
alone; the first two end DL_Active, and training begins again after a lost link while PERSTn_N is high. D3hot takes the
rings Off. PERSTn_N rising starts training; the link that trains is up. Stewardship passes to the other host when the
steward's link has been out of DL_Active for 2 s and the other link is up. -/
def Obligations.PcieLinksResetsAndStewardship : Prop :=
  (∀ (s : State) (p : Nat), p < 2 → (fn s p).linkUp = true →
    ∃ t, exec (.perstAssert p) s = .next t ∧ (fn t p).perstLow = true ∧ (fn t p).linkUp = false
      ∧ (fn t p).training = false ∧ (fn t p).maps = [] ∧ (fn t p).cfg = {} ∧ (∀ r < 4, (ring t p r).st = .off) ∧ fn t (1 - p) = fn s (1 - p))
  ∧ (∀ (s : State) (p : Nat), p < 2 → domOn s (74 + p) = true → (fn s p).linkUp = false →
    exec (.perstDeassert p) s = .next (setFn s p { fn s p with perstLow := false, training := true }))
  ∧ (∀ (s : State) (p : Nat), p < 2 → (fn s p).training = true → (fn s p).perstLow = false → domOn s (74 + p) = true →
    s.steward = some p →
    exec (.linkTrainingDone p) s = .next (setFn s p { fn s p with
      training := false, linkUp := true, overdue := false, d3hot := false }))
  ∧ (∀ (s : State) (p : Nat), p < 2 → (fn s p).training = true → (fn s p).perstLow = false → domOn s (74 + p) = true →
    s.steward = some (1 - p) → (fn s (1 - p)).overdue = true → s.spring.mbxReady = true →
    ∃ t, exec (.linkTrainingDone p) s = .next t ∧ t.steward = some p ∧ (fn t p).linkUp = true
      ∧ t = { s with fn0 := t.fn0, fn1 := t.fn1, steward := t.steward, mgt := t.mgt })
  ∧ (∀ (s : State) (p : Nat), p < 2 → (fn s p).linkUp = true → domOn s (74 + p) = true → (fn s p).perstLow = false →
    ∃ t, exec (.linkDown p) s = .next t ∧ (fn t p).linkUp = false ∧ (fn t p).training = true ∧ (fn t p).maps = []
      ∧ (∀ r < 4, (ring t p r).st = .off) ∧ fn t (1 - p) = fn s (1 - p))
  ∧ (∀ (s : State) (p : Nat), p < 2 → (fn s p).linkUp = true →
    ∃ t, exec (.functionLevelReset p) s = .next t ∧ (fn t p).linkUp = true ∧ (fn t p).maps = [] ∧ (fn t p).cfg = {} ∧ (fn t p).d3hot = false
      ∧ (∀ r < 4, (ring t p r).st = .off) ∧ fn t (1 - p) = fn s (1 - p))
  ∧ (∀ (s : State) (p : Nat), p < 2 → (fn s p).linkUp = true →
    ∃ t, exec (.d3hotEntry p) s = .next t ∧ (fn t p).d3hot = true ∧ (fn t p).maps = (fn s p).maps
      ∧ (∀ r < 4, (ring t p r).st = .off) ∧ t = { s with fn0 := t.fn0, fn1 := t.fn1 })
  ∧ (∀ (s : State) (p : Nat), p < 2 → s.steward = some p → (fn s p).linkUp = false → (fn s (1 - p)).linkUp = true →
    s.spring.mbxReady = true →
    ∃ t, exec .stewardFailover s = .next t ∧ t.steward = some (1 - p) ∧ t.mgt = (logMod 0x9007 0 [] s).mgt
      ∧ t = { s with steward := t.steward, mgt := t.mgt })

/-- The life of blocks and their configuration parity (R81 to R83, R89, R99, R100). A write of EN to a block that is Off
puts it into Enabling, and clearing EN in On into Disabling; the ends of these bring On, and Off once the work the block
had accepted is done, for rings as well. A requester that may not write a block changes nothing but the event queue; the
control processor's write is refused and counted while the SEC block, which checks it, is not On. A parity mismatch
found by the sweep puts the block, or the ring, in Fault; in the CP block it starts a contained restart instead. The recovery writes the record back and sets EN. -/
def Obligations.BlockLifeCycleAndParity : Prop :=
  (∀ (s : State) (who : Nat) (v : W32) (f : Frame0), frameAt f.base = some f → whoUp s who = true →
    mayWrite s who f f.base = true → frameAbsent s f = false → domOn s f.dom = true → f.code ≠ 0x12 →
    cpBarred s who f = false → (blk s f.base).st = .off → bit v 0 = true →
    exec (.blkCtlWrite who f.base v) s =
      .next (setBlk s f.base { blk s f.base with st := .enabling, en := true }))
  ∧ (∀ (s : State) (who : Nat) (v : W32) (f : Frame0), frameAt f.base = some f → whoUp s who = true →
    mayWrite s who f f.base = true → frameAbsent s f = false → domOn s f.dom = true → f.code ≠ 0x12 →
    cpBarred s who f = false → (blk s f.base).st = .on → bit v 0 = false →
    ∃ t, exec (.blkCtlWrite who f.base v) s = .next t
      ∧ blk t f.base = { blk s f.base with st := .disabling, en := false } ∧ t.rwb = s.rwb ∧ t.sup = s.sup)
  ∧ (∀ (s : State) (who : Nat) (v : W32) (f : Frame0), frameAt f.base = some f → whoUp s who = true →
    mayWrite s who f f.base = true → cpBarred s who f = true →
    ∃ t, exec (.blkCtlWrite who f.base v) s = .next t
      ∧ t = { s with sec := { s.sec with deny := inc32 s.sec.deny 1 }, mgt := t.mgt })
  ∧ (∀ (s : State) (who : Nat) (v : W32) (f : Frame0), frameAt f.base = some f → whoUp s who = true →
    mayWrite s who f f.base = false →
    ∃ t, exec (.blkCtlWrite who f.base v) s = .next t ∧ t = { s with mgt := t.mgt })
  ∧ (∀ (s : State) (f : Frame0), ringNamed f.base = none → frameAt f.base = some f → domOn s f.dom = true →
    (blk s f.base).st = .disabling → (blk s f.base).recovering = false →
    (blk s f.base).enPend = false → drained f s = true →
    ∃ t, exec (.blockDisableDone f.base) s = .next t
      ∧ blk t f.base = { parity := (blk s f.base).parity } ∧ t.mem = s.mem)
  ∧ (∀ (s : State) (f : Frame0), ringNamed f.base = none → frameAt f.base = some f →
    (blk s f.base).st = .disabling → drained f s = false → exec (.blockDisableDone f.base) s = .next s)
  ∧ (∀ (s : State) (p r : Nat), p < 2 → r < 4 → (ring s p r).st = .disabling → (ring s p r).enPend = false →
    ∃ t, exec (.blockDisableDone (ringOffset p r)) s = .next t ∧ (ring t p r).st = .off
      ∧ (ring t p r).descBase = (ring s p r).descBase ∧ t = { s with fn0 := t.fn0, fn1 := t.fn1 })
  ∧ (∀ (s : State) (f : Frame0), ringNamed f.base = none → frameAt f.base = some f → domOn s f.dom = true →
    f.code ≠ 0x16 → (blk s f.base).st = .enabling → (blk s f.base).en = true →
    (blk s f.base).updPend = false →
    exec (.blockEnableDone f.base) s = .next (setBlk s f.base { blk s f.base with st := .on }))
  ∧ (∀ (s : State) (p r : Nat), p < 2 → r < 4 → (ring s p r).st = .enabling → (ring s p r).en = true →
    exec (.blockEnableDone (ringOffset p r)) s = .next (setRing s p r { ring s p r with st := .on }))
  ∧ (∀ (s : State) (f : Frame0), frameAt f.base = some f → frameAbsent s f = false → domOn s f.dom = true →
    0 < f.size → f.code ≠ 0x1B →
    ∃ t, exec (.configParitySweep f.base (some f.base)) s = .next t ∧ (blk t f.base).st = .fault
      ∧ (blk t f.base).updPend = false)
  ∧ (∀ (s : State) (p r : Nat), p < 2 → r < 4 → domOn s (74 + p) = true →
    ∃ t, exec (.configParitySweep (ringOffset p r) (some (ringOffset p r + 0x10))) s = .next t
      ∧ (ring t p r).st = .fault ∧ t = { s with fn0 := t.fn0, fn1 := t.fn1, mgt := t.mgt })
  ∧ (∀ (s : State) (f : Frame0), frameAt f.base = some f → domOn s f.dom = true → 0 < f.size → f.code = 0x1B →
    frameAbsent s f = false → cpUp s = true →
    ∃ t, exec (.configParitySweep f.base (some f.base)) s = .next t ∧ t.rel.restarting = true ∧ t.rel.cause = 5)
  ∧ (∀ (s : State) (f : Frame0), frameAt f.base = some f → domOn s f.dom = true → s.rel.restarting = false →
    s.rel.held = false → (blk s f.base).recovering = true → (blk s f.base).st = .off →
    blkOn s baseSEC = true →
    ∃ t, exec (.cfgParityRecovery f.base) s = .next t
      ∧ blk t f.base = { blk s f.base with st := .enabling, en := true, recovering := false }
      ∧ ((rwbReset f.code).isSome = true → rwbOf t f.base f.code =
          { rwbOf s f.base f.code with live := (rwbOf s f.base f.code).record, shadow := (rwbOf s f.base f.code).record })
      ∧ t = { s with blks := t.blks, rwb := t.rwb, cmp := t.cmp })

/-- Register writes (R88 to R90, R95, R101 to R104, R116). A write of a ring base in BAR4 takes effect while the ring is
Off; one that does not enable every byte only raises WRITE_IGNORED. In compatibility mode a write of an RWB register of a
block that is On goes to its shadow and leaves the live value, and GLB_UPDATE makes the shadows of the named blocks that
are On live; outside that mode the register is written while its block is Off. A permitted access abandoned at 4 µs raises
OFFDOM_ACCESS and gives a host's read all ones; one that the access rules deny raises BAR_DENIED and gives 0. -/
def Obligations.RegisterWritesShadowsAndUpdates : Prop :=
  (∀ (s : State) (p r : Nat) (v : W32), p < 2 → r < 4 → (fn s p).linkUp = true → (ring s p r).st = .off →
    ∃ t, exec (.registerWrite (p + 1) 4 (0x1000 * r + 0x10) v true) s = .next t
      ∧ ring t p r = { ring s p r with descBase := baseWrite false v (ring s p r).descBase }
      ∧ t = { s with fn0 := t.fn0, fn1 := t.fn1 })
  ∧ (∀ (s : State) (p off : Nat) (v : W32), p < 2 → (fn s p).linkUp = true →
    ∃ t, exec (.registerWrite (p + 1) 4 off v false) s = .next t
      ∧ t.mgt = (logMod 0x9002 0 [dw off, dw (p + 1)] s).mgt ∧ t = { s with mgt := t.mgt })
  ∧ (∀ (s : State) (who : Nat) (v : W32) (f : Frame0), frameAt (f.base + 0x20) = some f →
    (rwbReset f.code).isSome = true → whoUp s who = true → mayWrite s who f (f.base + 0x20) = true → cpBarred s who f = false →
    frameAbsent s f = false → domOn s f.dom = true → compat s = true → (blk s f.base).st = .on →
    ∃ t m, exec (.rwbWrite who (f.base + 0x20) v) s = .next t ∧ (rwbReset f.code).map (·.2) = some m
      ∧ rwbOf t f.base f.code = { rwbOf s f.base f.code with shadow := v &&& m } ∧ t = { s with rwb := t.rwb })
  ∧ (∀ (s : State) (who : Nat) (v : W32) (f : Frame0), frameAt (f.base + 0x20) = some f →
    (rwbReset f.code).isSome = true → whoUp s who = true → mayWrite s who f (f.base + 0x20) = true → cpBarred s who f = false →
    frameAbsent s f = false → domOn s f.dom = true → (blk s f.base).st = .off →
    ∃ t m, exec (.rwbWrite who (f.base + 0x20) v) s = .next t ∧ (rwbReset f.code).map (·.2) = some m
      ∧ (rwbOf t f.base f.code).live = v &&& m ∧ (rwbOf t f.base f.code).shadow = v &&& m ∧ t = { s with rwb := t.rwb })
  ∧ (∀ (s : State) (v : W32) (b : Nat) (f : Frame0), whoUp s 0 = true → domOn s 76 = true → compat s = true →
    blkOn s baseSEC = true →
    blkOn s baseGLB = true → b ∈ updFrames s v → frameAt b = some f → (blk s f.base).st = .on →
    ∃ t, exec (.glbUpdate 0 v) s = .next t ∧ ((rwbReset f.code).isSome = true →
        (rwbOf t f.base f.code).live = (rwbOf s f.base f.code).shadow)
      ∧ t = { s with rwb := t.rwb, blks := t.blks })
  ∧ (∀ (s : State) (p off : Nat) (f : Frame0), p < 2 → regAt off = some f → (fn s p).linkUp = true →
    frameAbsent s f = false → mayRead s (p + 1) f off = true →
    ∃ t, exec (.crossingTimeout (p + 1) off true) s = .next t ∧ t.out = .readData p 0 off 0xFFFFFFFF false :: s.out
      ∧ t = { s with mgt := t.mgt, out := t.out })
  ∧ (∀ (s : State) (p off : Nat) (f : Frame0), p < 2 → regAt off = some f → (fn s p).linkUp = true →
    frameAbsent s f = false → mayRead s (p + 1) f off = false →
    ∃ t, exec (.crossingTimeout (p + 1) off true) s = .next t ∧ t.out = .readData p 0 off 0 false :: s.out
      ∧ t = { (barDenied (p + 1) off s) with out := t.out })

/-- Register and BAR2 reads (R64, R88, R89, R109, R110, R475). Reading changes no register: only outputs and the event
queue change. The owner's BAR4 gives its own registers; a BAR0 offset that the requester may not read gives 0, and so does one that names no register (R85). A BAR2
access whose page is not mapped moves nothing, raises BAR_DENIED, and gives a read zeros, as does one that the page's
permissions refuse; a mapped, permitted read gives the bytes of the page's target as its realm reads them, and a write
stores them there, as DMA_COPY and the tile engines would read them. While Winter runs a read gives zeros. -/
def Obligations.RegisterAndBarTwoAccesses : Prop :=
  (∀ (s : State) (p bar off n mask : Nat), p < 2 → (fn s p).linkUp = true →
    ∃ t, exec (.registerRead (p + 1) bar off n mask []) s = .next t ∧ t.out.length = s.out.length + n
      ∧ t = { s with out := t.out, mgt := t.mgt })
  ∧ (∀ (s : State) (p off : Nat), p < 2 → (fn s p).linkUp = true →
    exec (.registerRead (p + 1) 4 off 1 15 []) s = .next { s with
      out := .readData p 4 off (byEnable 15 (bar4Read s p off)) false :: s.out })
  ∧ (∀ (s : State) (p off : Nat) (f : Frame0), p < 2 → (fn s p).linkUp = true → regAt off = some f →
    mayRead s (p + 1) f off = false →
    ∃ t, exec (.registerRead (p + 1) 0 off 1 15 []) s = .next t ∧ t.out = .readData p 0 off 0 false :: s.out
      ∧ t = { s with out := t.out, mgt := t.mgt })
  ∧ (∀ (s : State) (p off : Nat), p < 2 → (fn s p).linkUp = true → regAt off = none →
    exec (.registerRead (p + 1) 0 off 1 15 []) s = .next { s with out := .readData p 0 off 0 false :: s.out })
  ∧ (∀ (s : State) (p off len : Nat), p < 2 → (fn s p).linkUp = true → winterRuns s = true →
    exec (.bar2Access p off len none []) s = .next { s with out := .bar2Data p off (zeros len) false :: s.out })
  ∧ (∀ (s : State) (p off len : Nat), p < 2 → (fn s p).linkUp = true → winterRuns s = false →
    tget none (fn s p).maps (off / 0x200000) = none →
    ∃ t, exec (.bar2Access p off len none []) s = .next t ∧ t.out = .bar2Data p off (zeros len) false :: s.out
      ∧ t = { s with out := t.out, mgt := t.mgt })
  ∧ (∀ (s : State) (p off : Nat) (b : List Byte) (m : BarMap), p < 2 → (fn s p).linkUp = true → winterRuns s = false →
    tget none (fn s p).maps (off / 0x200000) = some m → m.write = false →
    ∃ t, exec (.bar2Access p off 0 (some b) []) s = .next t ∧ t.mem = s.mem ∧ t.out = s.out
      ∧ t = { s with mgt := t.mgt })
  ∧ (∀ (s : State) (p off len : Nat) (m : BarMap), p < 2 → (fn s p).linkUp = true → winterRuns s = false →
    tget none (fn s p).maps (off / 0x200000) = some m → m.read = true → m.target < 2 ^ 63 →
    checkRange m.realm .host false (m.target + off % 0x200000) len s = none →
    ∃ t, exec (.bar2Access p off len none []) s = .next t
      ∧ t.out = .bar2Data p off (memRead m.realm (m.target + off % 0x200000) len s).1
          (memRead m.realm (m.target + off % 0x200000) len s).2.1 :: s.out
      ∧ t.sec = s.sec)
  ∧ (∀ (s : State) (p off : Nat) (b : List Byte) (m : BarMap), p < 2 → (fn s p).linkUp = true → winterRuns s = false →
    tget none (fn s p).maps (off / 0x200000) = some m → m.write = true → m.target < 2 ^ 63 →
    checkRange m.realm .host true (m.target + off % 0x200000) b.length s = none →
    ∃ t, exec (.bar2Access p off 0 (some b) []) s = .next t
      ∧ t.mem = (memWrite m.realm (m.target + off % 0x200000) b s).mem ∧ t.out = s.out)

/-- Command rings (R83, R92, R107, R114, R117, R119, R120, R122, R124). EN takes a ring at Off into Enabling when its
bases and size are valid, with the fields written, and into Fault otherwise; its other fields change only at Off, and
clearing EN takes a ring from On or Fault into Disabling. The write takes the function out of D3hot (log entry 47). A
doorbell on a ring that is On and served fetches the descriptor whose PHASE matches, and puts it behind the others with
the RT of the read and the host's stewardship; a doorbell before mailbox ready is latched. A failed descriptor read puts
the ring in Fault with cause 4; a failed read of a command's data ends its transfer with ABORTED 1, or marks the
waiting command to end so when it is served. A started command whose outcome is known completes: 32 bytes at slot m of the completion
ring, PHASE by the wrap, and its entry leaves the ring. -/
def Obligations.RingsFetchAndComplete : Prop :=
  (∀ (s : State) (p r : Nat) (v : W32), p < 2 → r < 4 → (fn s p).linkUp = true → (ring s p r).st = .off →
    bit v 0 = true → (ring s p r).descBase ≠ 0 → (ring s p r).cplBase ≠ 0 → 4 ≤ fld v 12 4 → fld v 12 4 ≤ 12 →
    ∃ t, exec (.ringCtlWrite p r v) s = .next t ∧ (ring t p r).st = .enabling ∧ (ring t p r).en = true
      ∧ (ring t p r).entries.toNat = fld v 12 4 ∧ (ring t p r).irqEn = bit v 1 ∧ (ring t p r).fetchNo = 0
      ∧ (ring t p r).cplNo = 0 ∧ (fn t p).d3hot = false ∧ t = { s with fn0 := t.fn0, fn1 := t.fn1 })
  ∧ (∀ (s : State) (p r : Nat) (v : W32), p < 2 → r < 4 → (fn s p).linkUp = true → (ring s p r).st = .off →
    bit v 0 = true → (ring s p r).descBase = 0 →
    ∃ t, exec (.ringCtlWrite p r v) s = .next t ∧ (ring t p r).st = .fault
      ∧ t = { s with fn0 := t.fn0, fn1 := t.fn1, mgt := t.mgt })
  ∧ (∀ (s : State) (p r : Nat) (v : W32), p < 2 → r < 4 → (fn s p).linkUp = true → (ring s p r).st = .on →
    bit v 0 = false → ∃ t, exec (.ringCtlWrite p r v) s = .next t ∧ (ring t p r).st = .disabling
      ∧ (ring t p r).entries = (ring s p r).entries ∧ (ring t p r).vector = (ring s p r).vector
      ∧ (ring t p r).irqEn = (ring s p r).irqEn)
  ∧ (∀ (s : State) (p r : Nat) (v : W32), p < 2 → r < 4 → (fn s p).linkUp = true → (ring s p r).st = .fault →
    bit v 0 = false → ∃ t, exec (.ringCtlWrite p r v) s = .next t ∧ (ring t p r).st = .disabling
      ∧ (ring t p r).fetched = (ring s p r).fetched ∧ t = { s with fn0 := t.fn0, fn1 := t.fn1, mgt := t.mgt })
  ∧ (∀ (s : State) (p r : Nat) (d : Desc), p < 2 → r < 4 → (fn s p).linkUp = true → (ring s p r).st = .on →
    mbxServed s = true → (ring s p r).fetching = false → (ring s p r).rekick = false → inflight (ring s p r) < 16 →
    bit d.flags 7 = ((ring s p r).fetchNo / 2 ^ (ring s p r).entries.toNat % 2 == 0) →
    ∃ t, exec (.ringDoorbell p r [d]) s = .next t
      ∧ ring t p r = { ring s p r with
          fetchNo := (ring s p r).fetchNo + 1, fetched := (ring s p r).fetched + 1, total := (ring s p r).total + 1
          inflight := (ring s p r).inflight
            ++ [{ desc := d, no := (ring s p r).total, rt := rtNow s, steward := isSteward s p }] }
      ∧ t = { s with fn0 := t.fn0, fn1 := t.fn1 })
  ∧ (∀ (s : State) (p r : Nat) (ds : List Desc), p < 2 → r < 4 → (fn s p).linkUp = true → (ring s p r).st = .on →
    mbxServed s = false →
    exec (.ringDoorbell p r ds) s = .next (setRing s p r { ring s p r with latched := true }))
  ∧ (∀ (s : State) (p r : Nat) (d : Desc), p < 2 → r < 4 → (ring s p r).st = .on → mbxServed s = true →
    (ring s p r).fetching = true → (ring s p r).rekick = false → inflight (ring s p r) < 16 →
    bit d.flags 7 = ((ring s p r).fetchNo / 2 ^ (ring s p r).entries.toNat % 2 == 0) →
    ∃ t, exec (.ringFetchResume p r [d]) s = .next t ∧ (ring t p r).fetching = false
      ∧ (ring t p r).inflight = (ring s p r).inflight
        ++ [{ desc := d, no := (ring s p r).total, rt := rtNow s, steward := isSteward s p }]
      ∧ t = { s with fn0 := t.fn0, fn1 := t.fn1 })
  ∧ (∀ (s : State) (p r cause : Nat), p < 2 → r < 4 → (ring s p r).st = .on → mbxServed s = true →
    ∃ t, exec (.hostReadFail p r none cause) s = .next t ∧ (ring t p r).st = .fault
      ∧ t.mgt = (logMod 0x9009 (resFn p) [dw r, 4, dw cause] s).mgt
      ∧ t = { s with fn0 := t.fn0, fn1 := t.fn1, mgt := t.mgt })
  ∧ (∀ (s : State) (p r : Nat) (e : InFlight), p < 2 → r < 4 → mbxServed s = true →
    (∀ x ∈ (ring s p r).inflight, inTransfer x = false) → firstWaiting (ring s p r).inflight = some e →
    fenceOpen (ring s p r).inflight e = true → hostReads e.desc = true →
    exec (.hostReadFail p r (some e.desc.tag) 1) s = .next (putEntry p r e { e with fails := some 1 } s))
  ∧ (∀ (s : State) (p r : Nat) (e : InFlight), p < 2 → r < 4 →
    (ring s p r).inflight.find? (fun x => inTransfer x && x.desc.tag == e.desc.tag && hostReads x.desc) = some e →
    exec (.hostReadFail p r (some e.desc.tag) 1) s =
      .next (endCmd p r e (failWith stAborted 1) (transferStops p r e s)))
  ∧ (∀ (s : State) (p r nth : Nat) (e : InFlight) (x : Result), p < 2 → r < 4 → cpRuns s = true →
    s.spring.mbxReady = true → startedCmd s p r e.desc.tag nth = some e → e.result = some x → e.dropped = false →
    (ring s p r).irqEn = false → bit e.desc.flags 2 = false →
    ∃ t, exec (.commandComplete p r e.desc.tag nth [] [] {}) s = .next t
      ∧ t.out = .hostWrite p (BitVec.ofNat 64 ((ring s p r).cplBase.toNat * 4096
            + (ring s p r).cplNo % 2 ^ (ring s p r).entries.toNat * 32))
          (completionBytes e x ((ring s p r).cplNo / 2 ^ (ring s p r).entries.toNat % 2 == 0)) :: s.out
      ∧ ring t p r = { ring s p r with cplNo := (ring s p r).cplNo + 1, inflight := (ring s p r).inflight.erase e }
      ∧ t = { s with fn0 := t.fn0, fn1 := t.fn1, out := t.out })

/-- Information and settings commands (R44, R71, R112, R126, R130, R138, R390). A command that R126 turns away nowhere
completes with OK on its ring, and the entry leaves the ring. DEVICE_INFO writes its record. PROFILE_SELECT stores or
clears the override in module flash. STEWARD_TRANSFER gives the rights to the other host. POWER_CAP_SET replaces the cap
and returns the previous one; while the SEC block that applies privileged changes is not On it is refused with DENIED 4
and counted (R468). RT_LOAD waits for the next sync pulse. An opcode outside the tables completes with
BAD_OPCODE. -/
def Obligations.InformationAndSettingsCommands : Prop :=
  (∀ (s : State) (c : Cmd) (e : InFlight), nextCmd c s = some e → knownOps.contains e.desc.opcode.toNat = false →
    exec (.undefinedOpcodeCommand c) s = .next (endCmd c.port c.ring e (failWith stBadOpcode 0) s))
  ∧ (∀ (s : State) (c : Cmd) (e : InFlight), FromOperator 0x0101 3 c e s ∨ FromTelemetry 0x0101 3 c e s
      ∨ FromOpen c.ring 0x0101 3 c e s → badBuf e.desc 0 4096 = none →
    exec (.deviceInfo c) s = .next (endCmd c.port c.ring (begun e) (okRv (dw (variantCode s + 256 * dies s)) 0 0)
      (intoBuf c 0 (deviceRecord s) (taken c e s))))
  ∧ (∀ (s : State) (c : Cmd) (e : InFlight), FromSteward 0x0102 1 c e s → e.desc.a0.toNat < 4 → blkOn s baseSEC = true →
    profileFault s e.desc.a0.toNat (storedProfile s e.desc.a0.toNat) = none →
    exec (.profileSelect c) s = .next (endCmd c.port c.ring (begun e) ok
      ((taken c e s).setFlash { s.flash with override := some e.desc.a0.toNat })))
  ∧ (∀ (s : State) (c : Cmd) (e : InFlight), FromSteward 0x0102 1 c e s → e.desc.a0 = 7 → blkOn s baseSEC = true →
    exec (.profileSelect c) s = .next (endCmd c.port c.ring (begun e) ok
      ((taken c e s).setFlash { s.flash with override := none })))
  ∧ (∀ (s : State) (c : Cmd) (e : InFlight) (p : Nat), FromSteward 0x0103 0 c e s → s.steward = some p →
    (fn s (1 - p)).linkUp = true → (ring s (1 - p) 0).st = .on →
    exec (.stewardTransfer c) s = .next (endCmd c.port c.ring (begun e) (okRv (dw (1 - p)) 0 0)
      ((taken c e s).setSteward (some (1 - p)))))
  ∧ (∀ (s : State) (c : Cmd) (e : InFlight), FromSteward 0x0104 1 c e s → fld e.desc.a0 0 20 = 0 → anyJob s = false →
    s.rtb.armed = [] → s.rtb.load = none →
    exec (.rtLoad c) s = .next ((taken c e s).setRtb { s.rtb with load := some (e.desc.a0, c.port, e.no) }))
  ∧ (∀ (s : State) (c : Cmd) (e : InFlight), FromSteward 0x0105 1 c e s → (capRange s).1 ≤ e.desc.a0.toNat →
    e.desc.a0.toNat ≤ (capRange s).2 → blkOn s baseSEC = true →
    exec (.powerCapSet c) s = .next (endCmd c.port c.ring (begun e) (okRv (dw s.cap.cap.toNat) 0 0)
      ((taken c e s).setCap { s.cap with cap := BitVec.ofNat 16 e.desc.a0.toNat })))
  ∧ (∀ (s : State) (c : Cmd) (e : InFlight), FromSteward 0x0105 1 c e s → blkOn s baseSEC = false →
    exec (.powerCapSet c) s = .next (endCmd c.port c.ring e (failWith stDenied 4) (secRefuse s)))

/-- Domains and shutdown by command (R36, R37, R78, R79, R80). DOMAIN_CONTROL of domains that are all in the state asked
for completes at once with the masks of domains On; otherwise the first domain in the order of R32, or of R33 turned
round, goes into transition and the command waits for the end of the sequence; a domain in use, in Fault too, is
refused. An accepted SHUTDOWN in a module without
jobs and open realms stops maintenance, flushes its events and waits for the phase end with item 6; an open realm goes
into Winter first. The phase end then powers every domain off. -/
def Obligations.DomainControlAndShutdown : Prop :=
  (∀ (s : State) (c : Cmd) (e : InFlight), FromSteward 0x0106 7 c e s → blkOn s baseSEC = true →
    e.desc.a1.toNat < 2 ^ 16 → e.desc.a2 = 1 → (∀ n ∈ namedDoms e.desc, controllable s n = true ∧ domOn s n = true) →
    exec (.domainControl c) s = .next (endCmd c.port c.ring (begun e) (okRv (onMasks s).1 (onMasks s).2 0) (taken c e s)))
  ∧ (∀ (s : State) (c : Cmd) (e : InFlight) (n : Nat), FromSteward 0x0106 7 c e s → blkOn s baseSEC = true →
    e.desc.a1.toNat < 2 ^ 16 → e.desc.a2 = 1 → namedDoms e.desc = [n] → controllable s n = true →
    (dom s n).st = .off → (∀ m ∈ domReq n, domOn s m = true) → s.pseq = none →
    ∃ t, exec (.domainControl c) s = .next t ∧ dom t n = { st := .enabling } ∧ (∀ m, m ≠ n → dom t m = dom s m)
      ∧ t.pseq = some { up := true, todo := [n], why := .control c.port c.ring e.no }
      ∧ t = { taken c e s with doms := t.doms, pseq := t.pseq })
  ∧ (∀ (s : State) (c : Cmd) (e : InFlight) (n : Nat), FromSteward 0x0106 7 c e s → blkOn s baseSEC = true →
    e.desc.a1.toNat < 2 ^ 16 → e.desc.a2 = 0 → n ∈ namedDoms e.desc → (dom s n).st = .fault → domInUse s n = true →
    (∀ m ∈ namedDoms e.desc, controllable s m = true) →
    exec (.domainControl c) s = .next (endCmd c.port c.ring e (failWith stWrongState 0) s))
  ∧ (∀ (s : State) (c : Cmd) (e : InFlight) (n : Nat), FromSteward 0x0106 7 c e s → blkOn s baseSEC = true →
    e.desc.a1.toNat < 2 ^ 16 → e.desc.a2 = 0 → namedDoms e.desc = [n] → controllable s n = true → n < 68 →
    (dom s n).st = .on → (∀ m < 80, n ∈ domReq m → (dom s m).st = .off) → domInUse s n = false → s.pseq = none →
    ∃ t, exec (.domainControl c) s = .next t ∧ (dom t n).st = .disabling ∧ (∀ m, m ≠ n → dom t m = dom s m)
      ∧ t.pseq = some { up := false, todo := [n], why := .control c.port c.ring e.no }
      ∧ t = { taken c e s with doms := t.doms, pseq := t.pseq })
  ∧ (∀ (s : State) (c : Cmd) (e : InFlight), FromSteward 0x0107 1 c e s → e.desc.a0.toNat < 2 → anyJob s = false →
    heldLocks s = [] → tenantOpen s = false → cpRuns s = true →
    ∃ t h, exec (.shutdown c) s = .next t ∧ t.phase = .shutting ∧ t.shut = some h ∧ h.item = 6
      ∧ h.target = (if e.desc.a0 = 0 then ShutTarget.dormant else ShutTarget.respring) ∧ h.port = some c.port ∧ h.no = e.no
      ∧ t.rel.queue = [] ∧ t.rel.autumn.running = false ∧ t.doms = s.doms ∧ t.jobA = none ∧ t.jobB = none)
  ∧ (∀ (s : State) (c : Cmd) (e : InFlight), FromSteward 0x0107 1 c e s → e.desc.a0.toNat < 2 → anyJob s = false →
    heldLocks s = [] → (realmOf s 1).st = .keyed →
    ∃ t h, exec (.shutdown c) s = .next t ∧ t.phase = .shutting ∧ t.shut = some h ∧ h.item = 3
      ∧ (realmOf t 1).st = .winter ∧ (realmOf t 1).winterStep = some 1)
  ∧ (∀ (s : State) (h : Shutdown) (n : Nat) (ns : List Nat), s.shut = some h → h.item = 6 →
    (powerOrder s).reverse = n :: ns → (dom s n).st = .on →
    ∃ t, exec .departurePhaseEnd s = .next t ∧ t.shut = some { h with item := 7 }
      ∧ (dom t n).st = .disabling ∧ t.pseq = some { up := false, todo := n :: ns, why := .shutdown } ∧ t.pwait = []
      ∧ t = { s with doms := t.doms, pseq := t.pseq, pwait := t.pwait, shut := t.shut })

/-- Opening a realm and its keys (R448, R449, R451, R452, R453). REALM_OPEN on ring 1 or 2 of a Closed realm makes it
Opened, with its owner and VISIBLE; realm 2 needs two-realm mode. KEY_DELIVER makes an Opened realm Keyed at epoch 0 with
the secrets of its blob, and KEY_ROTATE arms LINK_AT and takes the next epoch modulo 4. A blob that does not unwrap, whose
fields are wrong or whose nonce is not the anchor gives VERIFY_FAIL and changes nothing. What a blob unwraps to is not
fixed by the model (log entry 6), so both outcomes are stated. -/
def Obligations.RealmsOpenAndTakeKeys : Prop :=
  (∀ (s : State) (c : Cmd) (e : InFlight), CallReady 0x0201 3 c e s → (c.ring = 1 ∨ c.ring = 2 ∧ twoRealm s = true) →
    e.desc.realm.toNat = c.ring → e.desc.rtAt = 0 → (realmOf s c.ring).st = .closed → (realmOf s c.ring).owner = none →
    s.sec.dbgOpen = false → e.desc.a0.toNat % 64 = 0 → e.desc.a1 = 64 → requestOk c.ring (bufAt c 0 64) = true →
    exec (.realmOpen c) s = .next (endCmd c.port c.ring (begun e) (okRv (dw c.ring) 0 0)
      (setRealm (taken c e s) c.ring
        { st := .opened, owner := some c.port, visible := BitVec.ofNat 4 (leAt (bufAt c 0 64) 3 1) })))
  ∧ (∀ (s : State) (c : Cmd) (e : InFlight), CallReady 0x0201 3 c e s → c.ring = 2 → twoRealm s = false →
    e.desc.realm = 2 → e.desc.rtAt = 0 → (realmOf s 2).st = .closed → (realmOf s 2).owner = none →
    s.sec.dbgOpen = false → e.desc.a0.toNat % 64 = 0 → e.desc.a1 = 64 → requestOk 2 (bufAt c 0 64) = true →
    exec (.realmOpen c) s = .next (endCmd c.port 2 (begun e) (failWith stNoResource 0) (taken c e s)))
  ∧ (∀ (s : State) (c : Cmd) (e : InFlight), CallReady 0x0502 3 c e s → (c.ring = 1 ∨ c.ring = 2) →
    e.desc.realm.toNat = c.ring → e.desc.rtAt = 0 → (realmOf s c.ring).st = .opened →
    (realmOf s c.ring).owner = some c.port → blkOn s baseSEC = true → badRec e.desc 0 512 = none →
    exec (.keyDeliver c) s = .next (match blobOf s c with
      | none => endCmd c.port c.ring (begun e) (failWith stVerifyFail 0) (taken c e s)
      | some b =>
        if blobOk s c.ring 1 b = true then endCmd c.port c.ring (begun e) ok (setRealm (taken c e s) c.ring
          { realmOf s c.ring with
            st := .keyed, realmId := slice b 0x10 16, secrets := [(0, slice b 0x20 64)], ckpt := slice b 0x60 64
            epoch := 0, two := false, linkNew := false, sweeping := false, xferSeq := 0
            anchor := spent (realmOf s c.ring) })
        else endCmd c.port c.ring (begun e) (failWith stVerifyFail 0) (taken c e s)))
  ∧ (∀ (s : State) (c : Cmd) (e : InFlight), FromRealm c.ring 0x0503 3 c e s → blkOn s baseSEC = true →
    badRec e.desc 0 512 = none → rtRefused s = false → (realmOf s c.ring).two = false → armFull s = false →
    exec (.keyRotate c) s = .next (match blobOf s c with
      | none => endCmd c.port c.ring (begun e) (failWith stVerifyFail 0) (taken c e s)
      | some b =>
        if (linkAtOf b).toNat < e.rt.toNat + tick2ms then endCmd c.port c.ring e (failWith stBadArg 0) s
        else if blobOk s c.ring 2 b = true then
          endCmd c.port c.ring (begun e) (okRv (dw (((realmOf s c.ring).epoch + 1) % 4)) 0 0)
            (arm (linkAtOf b) (.linkEpoch c.ring) (setRealm (taken c e s) c.ring { realmOf s c.ring with
              secrets := tset [] (realmOf s c.ring).secrets (((realmOf s c.ring).epoch + 1) % 4) (slice b 0x20 64)
              epoch := ((realmOf s c.ring).epoch + 1) % 4, two := true, linkNew := false, linkAt := linkAtOf b
              anchor := spent (realmOf s c.ring) }))
        else endCmd c.port c.ring (begun e) (failWith stVerifyFail 0) (taken c e s)))

/-- Epoch sweep and attestation (R304, R446, R451, R453, R462, R481). The sweep starts 2 ms after LINK_AT, and its end moves every page
of the old epoch to the newest, destroys the old secret and logs KEY_ROTATED. ATTEST_REPORT writes the signed report of 1,536 bytes, counts it and, on a realm ring, anchors its nonce;
CERT_CHAIN_GET writes the chain into a buffer that is long enough and names the length needed otherwise. -/
def Obligations.EpochSweepAndAttestation : Prop :=
  (∀ (s : State) (r : Nat), (r = 1 ∨ r = 2) → (realmOf s r).st = .keyed → (realmOf s r).two = true →
    (realmOf s r).linkNew = true → (realmOf s r).sweeping = false → blkOn s baseSEC = true →
    (realmOf s r).linkAt.toNat + 2500000 ≤ (rtNow s).toNat →
    exec (.keySweepStart r) s = .next (setRealm s r { realmOf s r with sweeping := true }))
  ∧ (∀ (s : State) (r : Nat), (r = 1 ∨ r = 2) → (realmOf s r).sweeping = true → blkOn s baseSEC = true →
    ∃ t, exec (.keySweepDone r) s = .next t
      ∧ realmOf t r = { realmOf s r with
          secrets := tset [] (realmOf s r).secrets (((realmOf s r).epoch + 3) % 4) []
          two := false, linkNew := false, sweeping := false }
      ∧ (∀ pg, pageAttr s pg = some (r, ((realmOf s r).epoch + 3) % 4) → pageAttr t pg = some (r, (realmOf s r).epoch))
      ∧ t.mgt = (logFold 0 0x6001 (BitVec.ofNat 8 r) 0xFFFF 0 [dw r, dw (((realmOf s r).epoch + 3) % 4)] s).mgt
      ∧ t = { s with sec := t.sec, mem := t.mem, mgt := t.mgt })
  ∧ (∀ (s : State) (c : Cmd) (e : InFlight), FromOperator 0x0501 63 c e s → blkOn s baseATT = true →
    badBuf e.desc 4 1536 = none →
    ∃ u, exec (.attestReport c) s = .next (endCmd c.port c.ring (begun e) (okRv 1536 0 0)
        (intoBuf c 4 (signReport 0 false (nonceOf e.desc) (taken c e s)).1 u))
      ∧ u.sec = { s.sec with reports := inc32 s.sec.reports 1 }
      ∧ u = { taken c e s with sec := u.sec, freeCtr := u.freeCtr })
  ∧ (∀ (s : State) (c : Cmd) (e : InFlight), FromOpen c.ring 0x0501 63 c e s → blkOn s baseATT = true →
    badBuf e.desc 4 1536 = none →
    ∃ u, exec (.attestReport c) s = .next (endCmd c.port c.ring (begun e) (okRv 1536 0 0)
        (intoBuf c 4 (signReport c.ring false (nonceOf e.desc) (taken c e s)).1 u))
      ∧ realmOf u c.ring = { realmOf s c.ring with anchor := some (nonceOf e.desc, false) }
      ∧ u.sec.reports = inc32 s.sec.reports 1 ∧ u = { taken c e s with sec := u.sec, freeCtr := u.freeCtr })
  ∧ (∀ (s : State) (c : Cmd) (e : InFlight), FromOperator 0x0504 3 c e s ∨ FromTelemetry 0x0504 3 c e s
      ∨ FromRealm c.ring 0x0504 3 c e s → e.desc.a0.toNat % 64 = 0 → e.desc.a1.toNat % 64 = 0 →
    exec (.certChainGet c) s = .next (if e.desc.a1.toNat < (certChain s).length then
        endCmd c.port c.ring e { status := stBadArg, detail := 1, rv0 := BitVec.ofNat 64 (certChain s).length } s
      else endCmd c.port c.ring (begun e) (okRv (dw (certChain s).length) 0 0)
        (intoBuf c 0 (certChain s) (taken c e s))))

/-- Closing a realm and Winter (R127, R128, R448, R477). REALM_CLOSE from the realm's own ring, without jobs or with FORCE,
and from the steward's ring 0 with FORCE, takes the realm into Winter with step 1 in progress; a realm that already waits
as its only open one is the one that ring 0 names. A forced job that runs no step is withdrawn. Winter's steps 1 to 5
remove the realm's BAR2 mappings, clear the contexts of its bound slots, unbind them, unassign its pages and destroy its
keys; step 6 counts the clean report, logs the end and leaves the realm Closed with everything at reset. -/
def Obligations.RealmsCloseThroughWinter : Prop :=
  (∀ (s : State) (c : Cmd) (e : InFlight), FromOpen c.ring 0x0202 3 c e s → badBuf e.desc 0 1536 = none →
    realmJobs s c.ring = [] →
    ∃ t, exec (.realmClose c) s = .next t
      ∧ realmOf t c.ring = { realmOf s c.ring with
          st := .winter, winterStep := some 1, winterFrom := rtNow s, sweeping := false
          closeCmd := some (c.port, c.ring, e.no, e.desc.a0, e.desc.a1), closeDeferred := false }
      ∧ t = { taken c e s with sec := t.sec })
  ∧ (∀ (s : State) (c : Cmd) (e : InFlight) (j : Job), FromOpen c.ring 0x0202 3 c e s → badBuf e.desc 0 1536 = none →
    forced e.desc = true → s.jobA = some j → j.realm = c.ring → j.step = none → j.sol = .none → s.jobB = none →
    ∃ t, exec (.realmClose c) s = .next t ∧ t.jobA = none ∧ t.jobB = none ∧ (realmOf t c.ring).st = .winter
      ∧ (realmOf t c.ring).closeDeferred = false)
  ∧ (∀ (s : State) (c : Cmd) (e : InFlight), FromSteward 0x0202 3 c e s → forced e.desc = true →
    badBuf e.desc 0 1536 = none → ((realmOf s 1).st = .opened ∨ (realmOf s 1).st = .keyed) → (realmOf s 2).st = .closed →
    realmJobs s 1 = [] →
    ∃ t, exec (.realmClose c) s = .next t ∧ (realmOf t 1).st = .winter ∧ (realmOf t 1).winterStep = some 1
      ∧ realmOf t 2 = realmOf s 2 ∧ t = { taken c e s with sec := t.sec, freeCtr := t.freeCtr })
  ∧ (∀ (s : State) (r : Nat), (r = 1 ∨ r = 2) → (realmOf s r).st = .winter → (realmOf s r).winterStep = some 1 →
    blkOn s baseSEC = true → blkOn s baseATT = true → realmJobs s r = [] →
    ∃ t, exec (.winterStepDone r 1) s = .next t ∧ realmOf t r = { realmOf s r with winterStep := some 2 }
      ∧ (∀ p < 2, ∀ x ∈ (fn t p).maps, ∀ m, x.2 = some m → m.realm = r → 2 ^ 63 ≤ m.target)
      ∧ t = { s with fn0 := t.fn0, fn1 := t.fn1, sec := t.sec })
  ∧ (∀ (s : State) (r : Nat), (r = 1 ∨ r = 2) → (realmOf s r).st = .winter → (realmOf s r).winterStep = some 2 →
    blkOn s baseSEC = true → blkOn s baseATT = true →
    ∃ t, exec (.winterStepDone r 2) s = .next t ∧ realmOf t r = { realmOf s r with winterStep := some 3 }
      ∧ (∀ sl < 2, bindOf s sl = some r → ∀ d c, ccc t d c sl = {} ∧ ve t d c sl = {} ∧ dma t d c sl = {})
      ∧ t = { s with cmp := t.cmp, prg := t.prg, dsc := t.dsc, sec := t.sec })
  ∧ (∀ (s : State) (r : Nat), (r = 1 ∨ r = 2) → (realmOf s r).st = .winter → (realmOf s r).winterStep = some 3 →
    blkOn s baseSEC = true → blkOn s baseATT = true →
    ∃ t, exec (.winterStepDone r 3) s = .next t ∧ realmOf t r = { realmOf s r with winterStep := some 4 }
      ∧ (∀ sl < 2, bindOf t sl ≠ some r) ∧ (∀ sl < 2, bindOf s sl ≠ some r → bindOf t sl = bindOf s sl))
  ∧ (∀ (s : State) (r : Nat), (r = 1 ∨ r = 2) → (realmOf s r).st = .winter → (realmOf s r).winterStep = some 4 →
    blkOn s baseSEC = true → blkOn s baseATT = true →
    ∃ t, exec (.winterStepDone r 4) s = .next t ∧ realmOf t r = { realmOf s r with winterStep := some 5 }
      ∧ (∀ pg k, pageAttr t pg ≠ some (r, k)) ∧ t.mem.sram = s.mem.sram ∧ t = { s with mem := t.mem, sec := t.sec })
  ∧ (∀ (s : State) (r : Nat), (r = 1 ∨ r = 2) → (realmOf s r).st = .winter → (realmOf s r).winterStep = some 5 →
    blkOn s baseSEC = true → blkOn s baseATT = true →
    ∃ t, exec (.winterStepDone r 5) s = .next t ∧ (realmOf t r).winterStep = some 6 ∧ (realmOf t r).realmId = []
      ∧ (realmOf t r).secrets = [] ∧ (realmOf t r).ckpt = [] ∧ (realmOf t r).anchor = none
      ∧ realmOf t (3 - r) = realmOf s (3 - r) ∧ (∀ a ∈ t.rtb.armed, a.2 ≠ .linkEpoch r))
  ∧ (∀ (s : State) (r : Nat), (r = 1 ∨ r = 2) → (realmOf s r).st = .winter → (realmOf s r).winterStep = some 6 →
    blkOn s baseSEC = true → blkOn s baseATT = true → s.shut = none →
    ∃ t, exec (.winterStepDone r 6) s = .next t ∧ realmOf t r = {} ∧ tget 0 t.jobIds r = 0
      ∧ t.sec.reports = inc32 s.sec.reports 1 ∧ realmOf t (3 - r) = realmOf s (3 - r))

/-- Admitting a job and loading its image (R129, R131, R245, R247, R248, R252, R253, R307, R450). JOB_ADMIT into free
slots, with clusters and pages for every die, returns the next identifier of the realm and the reserved spill, maps the
logical clusters to the usable clusters in rising order, binds the slots and leaves the job Admitted. Without room it
returns NO_RESOURCE and changes nothing. IMAGE_LOAD of an image that is still coming in only begins; a whole image,
MAIN or FILL, is loaded when it verifies, and gives VERIFY_FAIL otherwise; SEC refuses one into a slot that is not bound
to the realm (R468). -/
def Obligations.JobsAreAdmittedAndLoaded : Prop :=
  (∀ (s : State) (c : Cmd) (e : InFlight) (r slot : Nat) (a : Adm) (g : Region × Region × Region) (s1 : State),
    FromHost r 0x0203 7 c e s → blkOn s baseSEC = true → badRec e.desc 0 128 = none → admOk s (bufAt c 0 128) = true →
    a = admOf (bufAt c 0 128) → slot = e.desc.a2.toNat → slot < 2 → (twoRealm s = true → r ≠ 0 → slot = r - 1) →
    (∀ x ∈ admSlots a slot, slotTaken s x r = false ∧ slotHeld s x = false) → admFits s a = true →
    placeJob (taken c e s) a slot r (epochOf s r) = some (g, s1) →
    ∃ u j, exec (.jobAdmit c) s = .next (endCmd c.port c.ring (begun e)
        (okRv (dw (nextJobId s r)) (dw ((a.spill + 0x1FFFFF) / 0x200000 * 0x200000)) 0) u)
      ∧ jobAt u slot = some j ∧ jobAt u (1 - slot) = jobAt s (1 - slot)
      ∧ j.id = BitVec.ofNat 16 (nextJobId s r) ∧ j.realm = r ∧ j.slot = slot ∧ j.adm = a ∧ j.state = .admitted
      ∧ j.stepNo = 0 ∧ j.persist = g.1 ∧ j.staging = g.2.1 ∧ j.spill = g.2.2 ∧ u.mem.page = s1.mem.page
      ∧ (∀ d < 8, a.dieMask.getLsbD d = true → ∀ l < a.need.getD d 0, physOf j d l = (usableClusters s d)[l]?)
      ∧ tget 0 u.jobIds r = nextJobId s r ∧ ∀ x ∈ admSlots a slot, bindOf u x = some r)
  ∧ (∀ (s : State) (c : Cmd) (e : InFlight) (r slot : Nat) (a : Adm),
    FromHost r 0x0203 7 c e s → blkOn s baseSEC = true → badRec e.desc 0 128 = none → admOk s (bufAt c 0 128) = true →
    a = admOf (bufAt c 0 128) → slot = e.desc.a2.toNat → slot < 2 → (twoRealm s = true → r ≠ 0 → slot = r - 1) →
    admFits s a = false →
    exec (.jobAdmit c) s = .next (endCmd c.port c.ring (begun e) (failWith stNoResource 0) (taken c e s)))
  ∧ (∀ (s : State) (c : Cmd) (e : InFlight) (r slot : Nat) (j : Job), FromHost r 0x0204 7 c e s →
    blkOn s baseSEC = true → badBuf e.desc 0 0 = none → jobOf c.ring e.desc.a2 s = some slot → jobAt s slot = some j →
    bindOf s slot = some r → imageWrong j (leAt c.buf 6 1) = false → exec (.imageLoad c true) s = .next (taken c e s))
  ∧ (∀ (s : State) (c : Cmd) (e : InFlight) (r slot : Nat) (j : Job), FromHost r 0x0204 7 c e s →
    blkOn s baseSEC = true → badBuf e.desc 0 0 = none → jobOf c.ring e.desc.a2 s = some slot → jobAt s slot = some j →
    bindOf s slot = some r → imageWrong j 1 = false → leAt c.buf 6 1 = 1 →
    exec (.imageLoad c false) s = .next (if imageOk j.adm (imageTensors j.fill) e.desc.a1.toNat c.buf = true then
        endCmd c.port c.ring (begun e) (okRv 0 0 0) (loadPrograms slot j.adm c.buf (setJobAt (taken c e s) slot
          (some { j with main := some (imageOf j.adm c.buf), tensors := tensorsOf c.buf ++ imageTensors j.fill })))
      else endCmd c.port c.ring (begun e) (failWith stVerifyFail 0) (taken c e s)))
  ∧ (∀ (s : State) (c : Cmd) (e : InFlight) (r slot : Nat) (j : Job), FromHost r 0x0204 7 c e s →
    blkOn s baseSEC = true → badBuf e.desc 0 0 = none → jobOf c.ring e.desc.a2 s = some slot → jobAt s slot = some j →
    bindOf s slot = some r → imageWrong j 2 = false → fillOverlaps s slot j c.buf = false → leAt c.buf 6 1 = 2 →
    imageOk j.adm (imageTensors j.main) e.desc.a1.toNat c.buf = true →
    ∃ u k, exec (.imageLoad c false) s = .next (endCmd c.port c.ring (begun e) (okRv 1 0 0) u) ∧ jobAt u slot = some k
      ∧ k.fill = some (imageOf j.adm c.buf) ∧ k.main = j.main ∧ k.fillInsts = []
      ∧ k.tensors = imageTensors j.main ++ tensorsOf c.buf)
  ∧ (∀ (s : State) (c : Cmd) (e : InFlight) (r slot : Nat) (j : Job), FromHost r 0x0204 7 c e s →
    blkOn s baseSEC = true → jobOf c.ring e.desc.a2 s = some slot → jobAt s slot = some j → bindOf s slot ≠ some r →
    ∀ part, exec (.imageLoad c part) s = .next (endCmd c.port c.ring e (failWith stDenied 4) (secRefuse s)))

/-- Starting and controlling jobs (R127, R131, R266, R268, R269, R270, R320, R335). JOB_START takes an admitted job with a
main image into Started, a paired one to wait from now for its Equinox. JOB_PAIR gives both jobs the schedule, gives it
to the scheduler of each of their dies and arms E0. STEP_CONTROL changes the budget, the hold and the state of a started
job at once, or after a Solstice in progress; with RT_AT it arms the instant, and answers after that Solstice with
DEFERRED. JOB_ABORT of a job without a step holds it, or withdraws it with FORCE; a
step is aborted and held first, in its closing round too. JOB_STATUS returns step number, state and last event. Each returns the count of
committed steps where the table says so. -/
def Obligations.JobsStartPairAndStop : Prop :=
  (∀ (s : State) (c : Cmd) (e : InFlight) (r slot : Nat) (j : Job), FromHost r 0x0205 1 c e s → s.spring.discDone = true →
    jobOf c.ring e.desc.a0 s = some slot → jobAt s slot = some j → j.slot = slot → shortfall s = false →
    j.main.isSome = true → j.state = .admitted → restores s slot = 0 →
    (∀ k, jobAt s (1 - slot) = some k → k.started = true → j.pair.isSome = true ∧ k.pair.isSome = true) →
    ∃ u k, exec (.jobStart c) s = .next (endCmd c.port c.ring (begun e) ok u) ∧ jobAt u slot = some k
      ∧ k = { j with state := .started, started := true, startAt := if j.pair.isSome = true then some (rtNow s) else none }
      ∧ jobAt u (1 - slot) = jobAt s (1 - slot) ∧ u.rtb = s.rtb)
  ∧ (∀ (s : State) (c : Cmd) (e : InFlight) (ja jb : Job), CallReady 0x0206 15 c e s → c.ring = 0 → e.steward = true →
    e.desc.realm = 0 → e.desc.rtAt ≠ 0 → e.rt.toNat + tick2ms ≤ e.desc.rtAt.toNat → rtRefused s = false →
    jobAny 0 e.desc.a0 s = some 0 → jobAny 0 e.desc.a1 s = some 1 → s.jobA = some ja → s.jobB = some jb →
    ja.adm.ratio = jb.adm.ratio → badRec e.desc 2 64 = none → schedOk (bufAt c 0 64) = true →
    namesWinter 0 e.desc.a0 s = false → namesWinter 0 e.desc.a1 s = false →
    (∀ j, j = ja ∨ j = jb → j.adm.idle ≠ 1 ∧ j.pair = none ∧ j.started = false ∧ j.state = .admitted) →
    armFull s = false →
    ∃ u, exec (.jobPair c) s = .next (endCmd c.port c.ring (begun e) ok u)
      ∧ u.jobA = some { ja with pair := some (e.desc.rtAt, leAt (bufAt c 0 64) 8 8, leAt (bufAt c 0 64) 0x10 8) }
      ∧ u.jobB = some { jb with pair := some (e.desc.rtAt, leAt (bufAt c 0 64) 8 8, leAt (bufAt c 0 64) 0x10 8) }
      ∧ (∀ d < dies s, ja.adm.dieMask.getLsbD d = true → (tget {} u.dsc d).eqx = some e.desc.rtAt)
      ∧ u.rtb = { s.rtb with armed := s.rtb.armed ++ [(e.desc.rtAt, .equinox0)] }
      ∧ u = { taken c e s with jobA := u.jobA, jobB := u.jobB, dsc := u.dsc, rtb := u.rtb })
  ∧ (∀ (s : State) (c : Cmd) (e : InFlight) (r slot : Nat) (j : Job), FromHost r 0x0207 7 c e s → s.spring.discDone = true →
    jobOf c.ring e.desc.a0 s = some slot → jobAt s slot = some j → 1 ≤ e.desc.a1.toNat → e.desc.a1.toNat ≤ 3 →
    (e.desc.a1 ≠ 1 → e.desc.a2 = 0) → j.started = true → j.state ≠ .aborted → inSolstice j = false →
    (e.desc.a1 ≠ 2 → restores s j.slot = 0) →
    exec (.stepControl c) s = .next (endCmd c.port c.ring (begun e) (okRv (lastStep j) 0 0)
      (setJobAt (taken c e s) slot (some (applyControl (rtNow s) e.desc.a1.toNat e.desc.a2.toNat j)))))
  ∧ (∀ (s : State) (c : Cmd) (e : InFlight) (r slot : Nat) (j : Job), FromHost r 0x0207 7 c e s → s.spring.discDone = true →
    jobOf c.ring e.desc.a0 s = some slot → jobAt s slot = some j → 1 ≤ e.desc.a1.toNat → e.desc.a1.toNat ≤ 3 →
    (e.desc.a1 ≠ 1 → e.desc.a2 = 0) → j.started = true → j.state ≠ .aborted → inSolstice j = true →
    (e.desc.a1 ≠ 2 → restores s j.slot = 0) →
    exec (.stepControl c) s = .next (setJobAt (taken c e s) slot (some { j with
      deferred := j.deferred ++ [.control c.port c.ring e.no e.desc.a1.toNat e.desc.a2.toNat] })))
  ∧ (∀ (s : State) (c : Cmd) (e : InFlight) (slot : Nat) (j : Job), CallReady 0x0207 7 c e s → c.ring = 0 →
    e.steward = true → e.desc.realm = 0 → e.desc.rtAt ≠ 0 → e.rt.toNat + tick2ms ≤ e.desc.rtAt.toNat →
    rtRefused s = false → armFull s = false → s.spring.discDone = true → jobOf 0 e.desc.a0 s = some slot →
    jobAt s slot = some j → 1 ≤ e.desc.a1.toNat → e.desc.a1.toNat ≤ 3 → (e.desc.a1 ≠ 1 → e.desc.a2 = 0) →
    j.started = true → j.state ≠ .aborted → restores s j.slot = 0 →
    exec (.stepControl c) s = .next (
      if inSolstice j = true then
        setJobAt (arm e.desc.rtAt (.stepControl slot e.desc.a1.toNat e.desc.a2.toNat) (taken c e s)) slot
          (some { j with deferred := j.deferred ++ [.ack c.port 0 e.no] })
      else endCmd c.port 0 (begun e) (okRv (lastStep j) 0 0)
        (arm e.desc.rtAt (.stepControl slot e.desc.a1.toNat e.desc.a2.toNat) (taken c e s))))
  ∧ (∀ (s : State) (c : Cmd) (e : InFlight) (r slot : Nat) (j : Job), FromHost r 0x0208 1 c e s →
    namesWinter c.ring e.desc.a0 s = false → jobAny c.ring e.desc.a0 s = some slot → jobAt s slot = some j →
    j.step = none → j.sol = .none →
    (∀ k, jobAt s (1 - slot) = some k → ¬ (k.realm = j.realm ∧ k.id = j.id)) →
    ∃ u, exec (.jobAbort c) s = .next (endCmd c.port c.ring (begun e) (okRv (lastStep j) 0 0) u)
      ∧ jobAt u slot = (if forced e.desc = true then none
          else some { j with state := if j.state = .started then .held else j.state })
      ∧ jobAt u (1 - slot) = jobAt s (1 - slot))
  ∧ (∀ (s : State) (c : Cmd) (e : InFlight) (r slot : Nat) (j : Job) (st : Sys2Proof.Machine.Step),
    FromHost r 0x0208 1 c e s → namesWinter c.ring e.desc.a0 s = false → jobAny c.ring e.desc.a0 s = some slot →
    jobAt s slot = some j → j.step = some st → (j.sol = .none ∨ j.sol = .closing) → j.aborting = false →
    (∀ k, jobAt s (1 - slot) = some k → ¬ (k.realm = j.realm ∧ k.id = j.id)) →
    ∃ t k, exec (.jobAbort c) s = .next t ∧ jobAt t slot = some k ∧ k.state = .held ∧ k.aborting = true
      ∧ k.stepNo = j.stepNo ∧ k.hist = j.hist ∧ k.ema = j.ema
      ∧ k.deferred = j.deferred ++ [.abort c.port c.ring e.no (forced e.desc)]
      ∧ jobAt t (1 - slot) = jobAt s (1 - slot))
  ∧ (∀ (s : State) (c : Cmd) (e : InFlight) (r slot : Nat) (j : Job), FromHost r 0x0209 1 c e s →
    jobOf c.ring e.desc.a0 s = some slot → jobAt s slot = some j →
    exec (.jobStatus c) s = .next (endCmd c.port c.ring (begun e)
      (okRv (dw (j.stepNo.toNat % 2 ^ 32 + stateCode j.state * 2 ^ 32)) (dw j.lastEvent.toNat) 0) (taken c e s)))

/-- Mappings, copies, buddy regions and SCRUB_STATUS (R109, R132, R304, R342, R457, R465). REGION_MAP maps or unmaps
every 2 MiB page it names and leaves the others. A clear DMA_COPY into the device stores its bytes at A1 and notes the
chunks it loads; out of the device it writes the host's buffer; within the device it does both; a poisoned read ends it
with ABORTED. A sealed one takes the next XFER_SEQ. BUDDY_RESERVE takes pages for a partner or gives them back.
SCRUB_STATUS returns Winter's progress, 0xFF without one, and the pages of older epochs. -/
def Obligations.MappingsCopiesAndBuddies : Prop :=
  (∀ (s : State) (c : Cmd) (e : InFlight) (r n : Nat), FromHost r 0x0301 15 c e s → blkOn s baseSEC = true →
    aperture c.ring e.desc s = false → (e.desc.a3 = 1 ∨ e.desc.a3 = 2 ∨ e.desc.a3 = 3) → e.desc.a0.toNat % 0x200000 = 0 →
    0 < n → e.desc.a1.toNat = n * 0x200000 → e.desc.a2.toNat % 0x200000 = 0 →
    e.desc.a2.toNat + e.desc.a1.toNat ≤ 0x1000000000 →
    (∀ i < n, mapCheck s r (e.desc.a0.toNat + i * 0x200000) = none) →
    ∃ u, exec (.regionMap c) s = .next (endCmd c.port c.ring (begun e) ok u)
      ∧ (∀ i < n, tget none (fn u c.port).maps (e.desc.a2.toNat / 0x200000 + i)
          = some { target := e.desc.a0.toNat + i * 0x200000, read := bit e.desc.a3 0, write := bit e.desc.a3 1, realm := r })
      ∧ (∀ pg, (pg < e.desc.a2.toNat / 0x200000 ∨ e.desc.a2.toNat / 0x200000 + n ≤ pg) →
          tget none (fn u c.port).maps pg = tget none (fn s c.port).maps pg)
      ∧ fn u c.port = { fn (taken c e s) c.port with maps := (fn u c.port).maps }
      ∧ u = { taken c e s with fn0 := u.fn0, fn1 := u.fn1 })
  ∧ (∀ (s : State) (c : Cmd) (e : InFlight) (r n : Nat), FromHost r 0x0301 15 c e s → blkOn s baseSEC = true →
    e.desc.a3 = 4 → 0 < n → e.desc.a1.toNat = n * 0x200000 → e.desc.a2.toNat % 0x200000 = 0 →
    e.desc.a2.toNat + e.desc.a1.toNat ≤ 0x1000000000 →
    ∃ u, exec (.regionMap c) s = .next (endCmd c.port c.ring (begun e) ok u)
      ∧ (∀ i < n, tget none (fn u c.port).maps (e.desc.a2.toNat / 0x200000 + i) = none)
      ∧ (∀ pg, (pg < e.desc.a2.toNat / 0x200000 ∨ e.desc.a2.toNat / 0x200000 + n ≤ pg) →
          tget none (fn u c.port).maps pg = tget none (fn s c.port).maps pg)
      ∧ u = { taken c e s with fn0 := u.fn0, fn1 := u.fn1 })
  ∧ (∀ (s : State) (c : Cmd) (e : InFlight) (r : Nat) (errs : List (Nat × Nat)), FromHost r 0x0302 15 c e s →
    sealed e.desc = false → e.desc.a3 = 0 → e.desc.a2.toNat % 64 = 0 → e.desc.a2 ≠ 0 →
    copySide s r 1 true false e.desc.a1.toNat e.desc.a2.toNat = none → copyFenced s r e.desc = false →
    exec (.dmaCopy c none errs) s = .next (endCmd c.port c.ring (begun e) (okRv e.desc.a2 0 0)
      (loadNotes e.desc.a1.toNat e.desc.a2.toNat true
        (memWrite r e.desc.a1.toNat (fit e.desc.a2.toNat c.buf) (applyErrs errs (taken c e s))))))
  ∧ (∀ (s : State) (c : Cmd) (e : InFlight) (r : Nat) (errs : List (Nat × Nat)) (b : List Byte) (poison : Bool)
      (s1 : State), FromHost r 0x0302 15 c e s → sealed e.desc = false → e.desc.a3 = 1 → e.desc.a2.toNat % 64 = 0 →
    e.desc.a2 ≠ 0 → copySide s r 0 false false e.desc.a0.toNat e.desc.a2.toNat = none →
    hostSideRead r e.desc.a0.toNat e.desc.a2.toNat (applyErrs errs (taken c e s)) = (b, poison, s1) →
    exec (.dmaCopy c none errs) s = .next (if poison = true then
        endCmd c.port c.ring (begun e) (failWith stAborted 0) s1
      else endCmd c.port c.ring (begun e) (okRv e.desc.a2 0 0) (emit (.hostWrite c.port e.desc.a1 b) s1)))
  ∧ (∀ (s : State) (c : Cmd) (e : InFlight) (r : Nat) (errs : List (Nat × Nat)) (b : List Byte) (poison : Bool)
      (s1 : State), FromHost r 0x0302 15 c e s → sealed e.desc = false → e.desc.a3 = 2 → e.desc.a2.toNat % 64 = 0 →
    e.desc.a2 ≠ 0 → copySide s r 0 false false e.desc.a0.toNat e.desc.a2.toNat = none →
    copySide s r 1 true false e.desc.a1.toNat e.desc.a2.toNat = none → copyFenced s r e.desc = false →
    hostSideRead r e.desc.a0.toNat e.desc.a2.toNat (applyErrs errs (taken c e s)) = (b, poison, s1) →
    exec (.dmaCopy c none errs) s = .next (if poison = true then
        endCmd c.port c.ring (begun e) (failWith stAborted 0) s1
      else endCmd c.port c.ring (begun e) (okRv e.desc.a2 0 0)
        (loadNotes e.desc.a1.toNat e.desc.a2.toNat true (memWrite r e.desc.a1.toNat b s1))))
  ∧ (∀ (s : State) (c : Cmd) (e : InFlight) (errs : List (Nat × Nat)), FromRealm c.ring 0x0302 15 c e s →
    sealed e.desc = true → e.xfer = none → e.desc.a3 = 0 → e.desc.a2.toNat % 64 = 0 →
    copySide s c.ring 1 true true e.desc.a1.toNat e.desc.a2.toNat = none → copyFenced s c.ring e.desc = false →
    ∃ t, exec (.dmaCopy c none errs) s = .next t ∧ (realmOf t c.ring).xferSeq = (realmOf s c.ring).xferSeq + 1)
  ∧ (∀ (s : State) (c : Cmd) (e : InFlight) (b : Buddy), FromSteward 0x0305 3 c e s → blkOn s baseSEC = true →
    e.desc.a0.toNat < 2 ^ 16 → e.desc.a1 = 0 → tget none s.buddies e.desc.a0.toNat = some b →
    exec (.buddyReserve c) s = .next (endCmd c.port c.ring (begun e) ok
      (freeRegion b.region ((taken c e s).setBuddies (tset none s.buddies e.desc.a0.toNat none)))))
  ∧ (∀ (s : State) (c : Cmd) (e : InFlight) (g : Region) (s1 : State), FromSteward 0x0305 3 c e s →
    blkOn s baseSEC = true → e.desc.a0.toNat < 2 ^ 16 → e.desc.a1 ≠ 0 → tget none s.buddies e.desc.a0.toNat = none →
    placeRegion (taken c e s) (List.range (dies s)) (if twoRealm s = true then [some 0, some 1] else [none]) 0 0
      ((e.desc.a1.toNat + 0x3FFFFF) / 0x400000 * 0x400000) = some (g, s1) →
    exec (.buddyReserve c) s = .next (endCmd c.port c.ring (begun e)
      (okRv (dw ((g.runs.head?.map (·.2.1)).getD 0)) 0 0)
      (s1.setBuddies (tset none s1.buddies e.desc.a0.toNat (some {
        partner := e.desc.a0.toNat, region := g, bytes := (e.desc.a1.toNat + 0x3FFFFF) / 0x400000 * 0x400000 / 2 })))))
  ∧ (∀ (s : State) (c : Cmd) (e : InFlight), FromOperator 0x0306 0 c e s ∨ FromTelemetry 0x0306 0 c e s
      ∨ FromRealm c.ring 0x0306 0 c e s → s.sec.r1.winterStep = none → s.sec.r2.winterStep = none →
    exec (.scrubStatus c) s = .next (endCmd c.port c.ring (begun e)
      (okRv 0xFF (dw (oldPages s (ringRealm c.ring))) 0) (taken c e s)))
  ∧ (∀ (s : State) (c : Cmd) (e : InFlight) (k : Nat), FromOperator 0x0306 0 c e s ∨ FromTelemetry 0x0306 0 c e s
      ∨ FromRealm c.ring 0x0306 0 c e s → s.sec.r1.winterStep = some k →
    exec (.scrubStatus c) s = .next (endCmd c.port c.ring (begun e)
      (okRv (dw ((k - 1) * 100 / 6)) (dw (oldPages s (ringRealm c.ring))) 0) (taken c e s)))

/-- Checkpoints (R132, R333, R337, R341, R344 to R346): CHECKPOINT_PUSH (checkpointPush) and CHECKPOINT_RESTORE
(checkpointRestore). CHECKPOINT_PUSH of a job that is not aborted captures it: in one go its header and body, sealed for a
tenant, go to the host's buffer and the step number and length are returned, or ABORTED after a poisoned read; one that
goes on counts a capture; one in Solstice only waits. CHECKPOINT_RESTORE of a job that does not run takes step number,
histories, EMA and PERSIST contents from the host's checkpoint, when it verifies, and leaves the job held or admitted; when
it does not verify the job is left Aborted. From a buddy it begins by reading the two headers of the region there; when no
route leads to the buddy, the job is left Aborted. -/
def Obligations.CheckpointsPushAndRestore : Prop :=
  (∀ (s : State) (c : Cmd) (e : InFlight) (r slot : Nat) (j : Job) (errs : List (Nat × Nat)), FromHost r 0x0303 7 c e s →
    jobOf c.ring e.desc.a0 s = some slot → jobAt s slot = some j → badBuf e.desc 1 (ckptLen j) = none →
    j.state ≠ .aborted → inSolstice j = false → (ckptBody j (applyErrs errs (taken c e s))).2.1 = false →
    ∃ t b u, exec (.checkpointPush c false errs) s = .next t ∧ (b, false, u) = ckptBody j (applyErrs errs (taken c e s))
      ∧ t = endCmd c.port c.ring (begun e) (okRv j.stepNo (dw (ckptLen j)) 0)
        (emit (.hostWrite c.port e.desc.a1 (ckptHead u j b ++ (ckptSealed j (ckptHead u j b) b u).1))
          (ckptSealed j (ckptHead u j b) b u).2))
  ∧ (∀ (s : State) (c : Cmd) (e : InFlight) (r slot : Nat) (j : Job) (errs : List (Nat × Nat)), FromHost r 0x0303 7 c e s →
    jobOf c.ring e.desc.a0 s = some slot → jobAt s slot = some j → badBuf e.desc 1 (ckptLen j) = none →
    j.state ≠ .aborted → inSolstice j = false → (ckptBody j (applyErrs errs (taken c e s))).2.1 = true →
    exec (.checkpointPush c false errs) s = .next (endCmd c.port c.ring (begun e) (failWith stAborted 0)
      (ckptBody j (applyErrs errs (taken c e s))).2.2))
  ∧ (∀ (s : State) (c : Cmd) (e : InFlight) (r slot : Nat) (j : Job) (errs : List (Nat × Nat)),
    FromHost r 0x0303 7 c e s → jobOf c.ring e.desc.a0 s = some slot → jobAt s slot = some j →
    badBuf e.desc 1 (ckptLen j) = none → j.state ≠ .aborted → inSolstice j = false →
    ∃ t, exec (.checkpointPush c true errs) s = .next t ∧ jobAt t slot = some { j with captures := j.captures + 1 }
      ∧ jobAt t (1 - slot) = jobAt s (1 - slot)
      ∧ t = { s with fn0 := t.fn0, fn1 := t.fn1, jobA := t.jobA, jobB := t.jobB })
  ∧ (∀ (s : State) (c : Cmd) (e : InFlight) (r slot : Nat) (j : Job) (part : Bool) (errs : List (Nat × Nat)),
    FromHost r 0x0303 7 c e s → jobOf c.ring e.desc.a0 s = some slot → jobAt s slot = some j →
    badBuf e.desc 1 (ckptLen j) = none → j.state ≠ .aborted → inSolstice j = true →
    exec (.checkpointPush c part errs) s = .next (taken c e s))
  ∧ (∀ (s : State) (c : Cmd) (e : InFlight) (r slot : Nat) (j : Job) (errs : List (Nat × Nat))
      (cs : List (List Byte)), FromHost r 0x0304 15 c e s →
    jobOf c.ring e.desc.a0 s = some slot → jobAt s slot = some j → e.desc.a1 = 1 → badBuf e.desc 2 0 = none →
    jobRuns j = false → restores (taken c e s) slot ≤ 1 → headOk s j (fit 256 c.buf) = true →
    openBody s j (fit 256 c.buf) (c.buf.drop 256) (leAt (fit 256 c.buf) 0x20 8) = some cs →
    ckptRootOf (fit 256 c.buf) cs = slice (fit 256 c.buf) 0x40 64 →
    ∃ u k, exec (.checkpointRestore c false errs) s = .next (endCmd c.port c.ring (begun e)
        (okRv (BitVec.ofNat 64 (leAt (fit 256 c.buf) 8 8)) 0 0) u)
      ∧ jobAt u slot = some k ∧ jobAt u (1 - slot) = jobAt s (1 - slot)
      ∧ k.stepNo = BitVec.ofNat 64 (leAt (fit 256 c.buf) 8 8) ∧ k.ema = BitVec.ofNat 32 (leAt cs.flatten 0 4)
      ∧ k.hist = histsOf (cs.flatten.take 65536) ∧ k.state = (if j.started = true then .held else .admitted)
      ∧ k.ckptRoot = slice (fit 256 c.buf) 0x40 64 ∧ k.weightSrc = 2 ∧ k.unmeasured = 0
      ∧ u.mem = (writeShares j cs.flatten (applyErrs errs (taken c e s))).mem)
  ∧ (∀ (s : State) (c : Cmd) (e : InFlight) (r slot : Nat) (j : Job) (errs : List (Nat × Nat)), FromHost r 0x0304 15 c e s →
    jobOf c.ring e.desc.a0 s = some slot → jobAt s slot = some j → e.desc.a1 = 1 → badBuf e.desc 2 0 = none →
    jobRuns j = false → restores (taken c e s) slot ≤ 1 → headOk s j (fit 256 c.buf) = false →
    ∃ u, exec (.checkpointRestore c false errs) s = .next (endCmd c.port c.ring (begun e) (failWith stVerifyFail 0) u)
      ∧ jobAt u slot = some { j with state := .aborted } ∧ jobAt u (1 - slot) = jobAt s (1 - slot))
  ∧ (∀ (s : State) (c : Cmd) (e : InFlight) (r slot : Nat) (j : Job) (errs : List (Nat × Nat)), FromHost r 0x0304 15 c e s →
    jobOf c.ring e.desc.a0 s = some slot → jobAt s slot = some j → e.desc.a1 = 1 → badBuf e.desc 2 0 = none →
    jobRuns j = false → restores (taken c e s) slot ≤ 1 → exec (.checkpointRestore c true errs) s = .next (taken c e s))
  ∧ (∀ (s u : State) (c : Cmd) (e : InFlight) (r slot : Nat) (j : Job) (errs : List (Nat × Nat)) (part : Bool) (q : Pull),
    FromHost r 0x0304 15 c e s → jobOf c.ring e.desc.a0 s = some slot → jobAt s slot = some j → e.desc.a1 = 0 →
    e.desc.a2.toNat < 2 ^ 16 → jobRuns j = false → restores (taken c e s) slot ≤ 1 →
    q = { port := c.port, ring := c.ring, no := e.no, slot, chip := e.desc.a2.toNat, base := e.desc.a3.toNat } →
    (pullRead q 0 256 (fun _ => 0) ((taken c e s).setFab { s.fab with pulls := s.fab.pulls ++ [q] })).bind
      (pullRead q (Config.buddySlot (q.chip * 2 ^ 48 + q.base)) 256 (fun _ => 1)) = some u →
    exec (.checkpointRestore c part errs) s = .next u ∧ u.fab.pulls = s.fab.pulls ++ [q] ∧ jobAt u slot = some j
      ∧ jobAt u (1 - slot) = jobAt s (1 - slot) ∧ u.mem = s.mem)
  ∧ (∀ (s : State) (c : Cmd) (e : InFlight) (r slot : Nat) (j : Job) (errs : List (Nat × Nat)) (part : Bool) (q : Pull),
    FromHost r 0x0304 15 c e s → jobOf c.ring e.desc.a0 s = some slot → jobAt s slot = some j → e.desc.a1 = 0 →
    e.desc.a2.toNat < 2 ^ 16 → jobRuns j = false → restores (taken c e s) slot ≤ 1 →
    q = { port := c.port, ring := c.ring, no := e.no, slot, chip := e.desc.a2.toNat, base := e.desc.a3.toNat } →
    (pullRead q 0 256 (fun _ => 0) ((taken c e s).setFab { s.fab with pulls := s.fab.pulls ++ [q] })).bind
      (pullRead q (Config.buddySlot (q.chip * 2 ^ 48 + q.base)) 256 (fun _ => 1)) = none →
    ∃ t k, exec (.checkpointRestore c part errs) s = .next t ∧ jobAt t slot = some k ∧ k.state = .aborted
      ∧ k.stepNo = j.stepNo ∧ q ∉ t.fab.pulls)

/-- Fabric commands (R133, R395, R403, R406, R408, R417, R419, R423). PLAN_LOAD stores a valid plan, pending until a
covering discovery, while no job runs. PORT_DIVIDE takes the new division and starts a discovery that waits on the ports
it changes; a change that would leave a port in use under four lanes is refused. PARTITION_SET takes effect at once and is stored. LIGHT_PLAN_LOAD stores a plan in a number that is neither in
force nor awaited, or arms the switch to a stored one. PORT_STATUS and DISCOVERY_REPORT write their records and change
nothing else. -/
def Obligations.FabricCommands : Prop :=
  (∀ (s : State) (c : Cmd) (e : InFlight) (b : List Byte), FromSteward 0x0401 3 c e s → e.desc.a0.toNat % 64 = 0 →
    b = bufAt c 0 e.desc.a1.toNat → 128 ≤ e.desc.a1.toNat → e.desc.a1.toNat = planLen b → planOk s b = true →
    anyStarted s = false →
    exec (.planLoad c) s = .next (endCmd c.port c.ring (begun e) (okRv (BitVec.ofNat 64 (leAt (planOf b).digest 0 8)) 0 0)
      ((taken c e s).setFlash { s.flash with plan := some (planOf b), planPending := true })))
  ∧ (∀ (s : State) (c : Cmd) (e : InFlight) (p : Nat) (new : List Byte), FromSteward 0x0402 1 c e s →
    blkOn s baseSEC = true → e.desc.a0.toNat % 64 = 0 → divisionOk s (bufAt c 0 64) = true → anyJob s = false →
    s.fab.disc.running = false → new = slice (bufAt c 0 64) 8 32 → p < 32 → new.getD p 0 ≠ s.fab.division.getD p 0 →
    (new.getD p 0).toNat / 64 ≠ 0 →
    (∀ q < 32, new.getD q 0 ≠ s.fab.division.getD q 0 → portInUse s q = true → 4 ≤ lanesUnder s new q) →
    ∃ t, exec (.portDivide c) s = .next t ∧ t.fab.division = new ∧ t.fab.disc.running = true
      ∧ t.fab.disc.cmd = some (c.port, c.ring, e.no) ∧ (port t p).out = .pending ∧ t.fab.plan = s.fab.plan
      ∧ t.flash = s.flash)
  ∧ (∀ (s : State) (c : Cmd) (e : InFlight) (p : Nat), FromSteward 0x0402 1 c e s → blkOn s baseSEC = true →
    e.desc.a0.toNat % 64 = 0 → divisionOk s (bufAt c 0 64) = true → p < 32 →
    (slice (bufAt c 0 64) 8 32).getD p 0 ≠ s.fab.division.getD p 0 → portInUse s p = true →
    lanesUnder s (slice (bufAt c 0 64) 8 32) p < 4 →
    exec (.portDivide c) s = .next (endCmd c.port c.ring e (failWith stWrongState 0) s))
  ∧ (∀ (s : State) (c : Cmd) (e : InFlight), FromSteward 0x0405 1 c e s → e.desc.a0.toNat < 4096 → anyJob s = false →
    ∃ u, exec (.partitionSet c) s = .next (endCmd c.port c.ring (begun e) ok u) ∧ u.fab.partition = e.desc.a0.toNat
      ∧ u.flash.partition = e.desc.a0.toNat ∧ u.fab.division = s.fab.division
      ∧ (∀ p ∈ divPorts s, u.fab.disc.running = true → (port u p).out = .pending))
  ∧ (∀ (s : State) (c : Cmd) (e : InFlight), FromSteward 0x0403 7 c e s → e.desc.a0.toNat < 8 → blkOn s baseSEC = true →
    (e.desc.a1 ≠ 0 ∨ e.desc.a2 ≠ 0) → badRec e.desc 1 128 = none → lightOk s (bufAt c 0 128) = true →
    e.desc.a0.toNat ≠ s.fab.planNo → (∀ a ∈ armedSwitches s, a.2 ≠ e.desc.a0.toNat) → e.desc.a0.toNat ∉ s.fab.due →
    exec (.lightPlanLoad c) s = .next (endCmd c.port c.ring (begun e) ok ((taken c e s).setFab { s.fab with
      plans := tset none s.fab.plans e.desc.a0.toNat (some (lightOf (bufAt c 0 128))) })))
  ∧ (∀ (s : State) (c : Cmd) (e : InFlight), CallReady 0x0403 7 c e s → c.ring = 0 → e.steward = true → e.desc.realm = 0 →
    e.desc.a0.toNat < 8 → blkOn s baseSEC = true → e.desc.a1 = 0 → e.desc.a2 = 0 → e.desc.rtAt ≠ 0 →
    e.rt.toNat + tick2ms ≤ e.desc.rtAt.toNat → rtRefused s = false → (tget none s.fab.plans e.desc.a0.toNat).isSome = true →
    armedSwitches s = [] → armFull s = false →
    exec (.lightPlanLoad c) s = .next (endCmd c.port c.ring (begun e) ok
      (arm e.desc.rtAt (.lightSwitch e.desc.a0.toNat) (taken c e s))))
  ∧ (∀ (s : State) (c : Cmd) (e : InFlight), FromOperator 0x0404 3 c e s ∨ FromTelemetry 0x0404 3 c e s
      ∨ FromRealm c.ring 0x0404 3 c e s → badBuf e.desc 0 1024 = none →
    exec (.portStatus c) s = .next (endCmd c.port c.ring (begun e) ok (intoBuf c 0 (portEntries s) (taken c e s))))
  ∧ (∀ (s : State) (c : Cmd) (e : InFlight), FromOperator 0x0406 3 c e s ∨ FromTelemetry 0x0406 3 c e s →
    badBuf e.desc 0 1344 = none →
    exec (.discoveryReport c) s = .next (endCmd c.port c.ring (begun e) (okRv (dw (discFlags s % 4)) 0 0)
      (intoBuf c 0 (discRecord s) (taken c e s))))

/-- Maintenance commands (R135, R298, R354, R488, R495, R502, R505, R506, R507). MAINT_REQUEST of a free resource holds
one lock on a free handle, from now to the expected release; one that clashes completes with CONFLICT, naming the class and
the expected release of the held lock. MAINT_RELEASE frees its own handle and no other. AUTUMN_PASS starts the next pass,
or completes with BUSY. SPARE_SWAP marks a core for the next takeover, arms a channel, moves a lane to a free spare or
switches a laser off and its hot spare in. -/
def Obligations.MaintenanceCommands : Prop :=
  (∀ (s : State) (c : Cmd) (e : InFlight), FromSteward 0x0601 7 c e s → e.desc.a0.toNat ≤ 5 → resOk s e.desc.a1 = true →
    (classKinds e.desc.a0.toNat).contains (fld e.desc.a1 56 8) = true → 1 ≤ e.desc.a2.toNat →
    e.desc.a2.toNat ≤ maxHours s * 3600 * 1000000 → mntGrants s = true → lockClash e.desc.a0.toNat e.desc.a1 s = none →
    (heldLocks s).length < 16 →
    ∃ u k l, exec (.maintRequest c) s = .next (endCmd c.port c.ring (begun e) (okRv (dw k) 0 0) u) ∧ k < 16
      ∧ lockAt s k = none ∧ lockAt u k = some l ∧ (∀ m, m ≠ k → lockAt u m = lockAt s m) ∧ l.cls = e.desc.a0.toNat
      ∧ l.res = e.desc.a1 ∧ l.host = true ∧ l.request = true ∧ l.grantRt = rtNow s
      ∧ l.expect = rtNow s + e.desc.a2 * 1250)
  ∧ (∀ (s : State) (c : Cmd) (e : InFlight) (l : Lock), FromSteward 0x0601 7 c e s → e.desc.a0.toNat ≤ 5 →
    resOk s e.desc.a1 = true → (classKinds e.desc.a0.toNat).contains (fld e.desc.a1 56 8) = true →
    1 ≤ e.desc.a2.toNat → e.desc.a2.toNat ≤ maxHours s * 3600 * 1000000 → mntGrants s = true →
    lockClash e.desc.a0.toNat e.desc.a1 s = some l →
    exec (.maintRequest c) s = .next (endCmd c.port c.ring (begun e)
      { status := stConflict, detail := BitVec.ofNat 16 l.cls, rv0 := l.expect }
      (logMod 0x7005 e.desc.a1 [dw e.desc.a0.toNat, dw l.cls, l.res] (taken c e s))))
  ∧ (∀ (s : State) (c : Cmd) (e : InFlight) (l : Lock), FromSteward 0x0602 1 c e s → e.desc.a0.toNat < 16 →
    lockAt s e.desc.a0.toNat = some l → l.request = true →
    ∃ u, exec (.maintRelease c) s = .next (endCmd c.port c.ring (begun e) ok u) ∧ lockAt u e.desc.a0.toNat = none
      ∧ (∀ m, m ≠ e.desc.a0.toNat → lockAt u m = lockAt s m)
      ∧ u = { taken c e s with rel := u.rel, stk := u.stk, out := u.out })
  ∧ (∀ (s : State) (c : Cmd) (e : InFlight), FromSteward 0x0603 0 c e s → blkOn s baseAGE = true →
    s.rel.autumn.running = false →
    ∃ u, exec (.autumnPass c) s = .next (endCmd c.port c.ring (begun e) (okRv (dw (s.flash.passStarted + 1)) 0 0) u)
      ∧ u.rel.autumn = { running := true, number := s.flash.passStarted + 1, stepMhz := s.rel.autumn.stepMhz }
      ∧ u.flash = { s.flash with passStarted := s.flash.passStarted + 1, passAbandoned := some (s.flash.passStarted + 1) }
      ∧ u = { taken c e s with rel := u.rel, flash := u.flash })
  ∧ (∀ (s : State) (c : Cmd) (e : InFlight), FromSteward 0x0603 0 c e s → blkOn s baseAGE = true →
    s.rel.autumn.running = true →
    exec (.autumnPass c) s = .next (endCmd c.port c.ring (begun e) (failWith stBusy 0) (taken c e s)))
  ∧ (∀ (s : State) (c : Cmd) (e : InFlight) (power low d cl k : Nat), FromSteward 0x0604 3 c e s → e.desc.a0 = 1 →
    d < dies s → cl < 48 → k < 25 → e.desc.a1 = resCore d cl k → mntGrants s = true →
    lockClash 5 (resCluster d cl) s = none → (heldLocks s).length < 16 → coreMarked s (coreKey d cl k) = false →
    (core s d cl k).retired = false → (∀ m ∈ s.flash.retired, m.1 ≠ coreKey d cl k) →
    dieStarted s d (fun _ => true) = true →
    ∃ u, exec (.spareSwap c power low) s = .next (endCmd c.port c.ring (begun e) (okRv 0 0 0) u)
      ∧ u.flash = { s.flash with marks := s.flash.marks ++ [(coreKey d cl k, 3)] } ∧ core u d cl k = core s d cl k)
  ∧ (∀ (s : State) (c : Cmd) (e : InFlight) (power low n q : Nat), FromSteward 0x0604 3 c e s → e.desc.a0 = 2 →
    n < 40 → n / 5 < dies s → q < 16 → e.desc.a1 = resChan n q → tget .present (stack s n).chans q ≠ .retired →
    ∃ u, exec (.spareSwap c power low) s = .next (endCmd c.port c.ring (begun e) (okRv 0 0 0) u)
      ∧ tget .present (stack u n).chans q = .armed
      ∧ tget .present u.flash.chans (80 * (n / 5) + 16 * (n % 5) + q) = .armed
      ∧ u = { taken c e s with stk := u.stk, flash := u.flash })
  ∧ (∀ (s : State) (c : Cmd) (e : InFlight) (power low p l : Nat), FromSteward 0x0604 3 c e s → e.desc.a0 = 3 →
    p < ports s → l < 8 → e.desc.a1 = resLane p l 0 →
    exec (.spareSwap c power low) s = .next (match spareTx p l (taken c e s) with
      | some u => endCmd c.port c.ring (begun e) (okRv 1 0 0) u
      | none => endCmd c.port c.ring (begun e) (failWith stNoResource 0) (taken c e s)))
  ∧ (∀ (s : State) (c : Cmd) (e : InFlight) (power low n m b : Nat), FromSteward 0x0604 3 c e s → e.desc.a0 = 4 →
    n < 10 → e.desc.a1 = resLaser n → mntGrants s = true → lockClash 4 (resLaser n) s = none →
    (heldLocks s).length < 16 → (laser s n).bus = some b → hotSpare s n = some m → m ≠ n →
    ∃ u, exec (.spareSwap c power low) s = .next (endCmd c.port c.ring (begun e) (okRv 1 0 0) u)
      ∧ (laser u n).retired = true ∧ (laser u n).bus = none ∧ (laser u m).bus = some b ∧ (laser u m).hot = false
      ∧ tget 0 u.opt.bus b = power)

/-- Staging and activating firmware (R502, R530, R531, R532). FW_VERIFY_STAGE takes the FW_STAGE lock and discards what
was staged. A package that is not well formed or whose image fails a check stages nothing and completes with VERIFY_FAIL;
a good image is programmed into the slot that does not run and marked as staged, and its security version is returned.
FW_ACTIVATE makes the staged slot the active one and starts an orderly shutdown towards Respring. -/
def Obligations.FirmwareStagesAndActivates : Prop :=
  (∀ (s : State) (c : Cmd) (e : InFlight) (g : PkgIn), FromSteward 0x0505 3 c e s → badBuf e.desc 0 0 = none →
    mntGrants s = true → lockClash 2 resStore s = none → (heldLocks s).length < 16 →
    ∃ t k l, exec (.fwVerifyStage c g true) s = .next t ∧ lockAt s k = none ∧ lockAt t k = some l ∧ l.cls = 2
      ∧ l.request = false ∧ t.flash.staged = none ∧ t.flash.activeB = s.flash.activeB)
  ∧ (∀ (s : State) (c : Cmd) (e : InFlight) (g : PkgIn), FromSteward 0x0505 3 c e s → badBuf e.desc 0 0 = none →
    mntGrants s = true → lockClash 2 resStore s = none → (heldLocks s).length < 16 → g.parsed = false →
    ∃ u, exec (.fwVerifyStage c g false) s = .next (endCmd c.port c.ring (begun e) (failWith stVerifyFail 0) u)
      ∧ u.flash.staged = none ∧ u.flash.activeB = s.flash.activeB)
  ∧ (∀ (s : State) (c : Cmd) (e : InFlight) (g : PkgIn) (x : FwSlot) (k : Nat), FromSteward 0x0505 3 c e s →
    badBuf e.desc 0 0 = none → mntGrants s = true → lockClash 2 resStore s = none → (heldLocks s).length < 16 →
    g.parsed = true → g.image = some x → imageFault s x g.imageLen = some k →
    ∃ u, exec (.fwVerifyStage c g false) s = .next (endCmd c.port c.ring (begun e) (failWith stVerifyFail 0) u)
      ∧ u.flash.staged = none ∧ u.flash.activeB = s.flash.activeB)
  ∧ (∀ (s : State) (c : Cmd) (e : InFlight) (g : PkgIn) (x : FwSlot), FromSteward 0x0505 3 c e s →
    badBuf e.desc 0 0 = none → mntGrants s = true → lockClash 2 resStore s = none → (heldLocks s).length < 16 →
    g.parsed = true → g.image = some x → imageFault s x g.imageLen = none → g.profiles = none →
    ∃ u, exec (.fwVerifyStage c g false) s = .next (endCmd c.port c.ring (begun e) (okRv (dw x.svn) 0 0) u)
      ∧ u.flash.staged = some { image := true, slotB := stageSlot s, svn := x.svn, profiles := none }
      ∧ fwSlot u (stageSlot s) = { x with unbootable := false } ∧ u.flash.activeB = s.flash.activeB)
  ∧ (∀ (s : State) (c : Cmd) (e : InFlight) (x : Staged), FromSteward 0x0605 0 c e s → s.flash.staged = some x →
    anyJob s = false → heldLocks s = [] → tenantOpen s = false → cpRuns s = true →
    ∃ t h, exec (.fwActivate c) s = .next t ∧ t.flash.staged = none
      ∧ t.flash.activeB = (if x.image = true then x.slotB else s.flash.activeB) ∧ t.phase = .shutting
      ∧ t.shut = some h ∧ h.target = .respring ∧ h.port = some c.port ∧ h.no = e.no ∧ h.item = 6)

/-- Reads of telemetry, records and logs (R136, R197, R437, R499, R519, R526, R527). Each writes its record into the
host's buffer and returns the value that the table names: the RT of the sample, the step of the summary, the next index,
the clock of the margin plan. None changes anything else.
Profiling and debug sessions (R137, R470, R473, R474). PROFILE_START opens the one session of its ring and a second one
gives BUSY; each sample is written behind the last while the buffer has room; PROFILE_STOP ends the session and returns the
bytes written. DEBUG_ENTER opens a session with its grants while no realm is open, logs it, and marks it used unless it
only reads registers; DEBUG_EXIT closes it with no grant and no mapping of the aperture left. -/
def Obligations.TelemetryLogsProfilingAndDebug : Prop :=
  ((∀ (s : State) (c : Cmd) (e : InFlight) (n : Nat), FromSteward 0x0701 7 c e s ∨ FromTelemetry 0x0701 7 c e s →
     [256, 1280, 256, 512, 1280, 1024, 288, 128][e.desc.a0.toNat]? = some n → badBuf e.desc 1 n = none →
     exec (.telemetryRead c) s = .next (endCmd c.port c.ring (begun e) (okRv s.mgt.sampleRt 0 0)
       (intoBuf c 1 (fit n (tget [] s.mgt.samples e.desc.a0.toNat)) (taken c e s))))
   ∧ (∀ (s : State) (c : Cmd) (e : InFlight) (slot : Nat) (j : Job) (x : Summary), FromRealm c.ring 0x0702 7 c e s →
     jobOf c.ring e.desc.a0 s = some slot → jobAt s slot = some j → badBuf e.desc 1 8256 = none → j.summary = some x →
     exec (.watchRead c) s = .next (endCmd c.port c.ring (begun e) (okRv x.step 0 0)
       (intoBuf c 1 (summaryBytes j x) (taken c e s))))
   ∧ (∀ (s : State) (c : Cmd) (e : InFlight), FromSteward 0x0703 7 c e s ∨ FromTelemetry 0x0703 7 c e s →
     e.desc.a0.toNat < 1024 → badBuf e.desc 1 0 = none →
     exec (.barrierLogRead c) s = .next (endCmd c.port c.ring (begun e)
       (okRv (dw ((e.desc.a0.toNat + ((barFrom s e.desc.a0.toNat).take (e.desc.a2.toNat / 64)).length) % 1024)) 0 0)
       (intoBuf c 1 (((barFrom s e.desc.a0.toNat).take (e.desc.a2.toNat / 64)).flatMap barBytes) (taken c e s))))
   ∧ (∀ (s : State) (c : Cmd) (e : InFlight) (l : List (Nat × List Byte)), FromOperator 0x0704 7 c e s
       ∨ FromTelemetry 0x0704 7 c e s ∨ FromRealm c.ring 0x0704 7 c e s → bit e.desc.a0 63 = false →
     badBuf e.desc 1 192 = none →
     l = logFrom s (ringRealm c.ring) (max e.desc.a0.toNat (logOldest s)) ((e.desc.a2.toNat - 64) / 128) →
     exec (.eventLogRead c) s = .next (endCmd c.port c.ring (begun e)
       (okRv (dw (nextIndex (max e.desc.a0.toNat (logOldest s)) l)) 0 0)
       (intoBuf c 1 (leBytes 4 1 ++ leBytes 4 l.length ++ leBytes 8 (logOldest s) ++ leBytes 8 s.flash.evSeq ++ zeros 40
         ++ l.flatMap (·.2)) (taken c e s))))
   ∧ (∀ (s : State) (c : Cmd) (e : InFlight) (l : List (Nat × List Byte)) (start : Nat), FromOperator 0x0704 7 c e s
       ∨ FromTelemetry 0x0704 7 c e s ∨ FromRealm c.ring 0x0704 7 c e s → bit e.desc.a0 63 = true →
     fld e.desc.a0 32 31 = 0 → badBuf e.desc 1 192 = none → start = journalIndex s (fld e.desc.a0 0 32) →
     l = journalFrom s (ringRealm c.ring) start ((e.desc.a2.toNat - 64) / 128) →
     exec (.eventLogRead c) s = .next (endCmd c.port c.ring (begun e)
       (okRv (dw (nextIndex start l % 2 ^ 32 + 2 ^ 63)) 0 0)
       (intoBuf c 1 (leBytes 4 1 ++ leBytes 4 l.length ++ leBytes 8 (journalOldest s) ++ leBytes 8 s.flash.journalNo
         ++ zeros 40 ++ l.flatMap (·.2)) (taken c e s))))
   ∧ (∀ (s : State) (c : Cmd) (e : InFlight), FromOperator 0x0705 7 c e s ∨ FromTelemetry 0x0705 7 c e s →
     e.desc.a0.toNat < 4 → badBuf e.desc 1 4096 = none →
     exec (.marginPlanRead c) s = .next (endCmd c.port c.ring (begun e)
       (okRv (dw (tget {} s.flash.margins e.desc.a0.toNat).clockKhz) 0 0)
       (intoBuf c 1 (marginBytes s e.desc.a0.toNat) (taken c e s)))))
  ∧ ((∀ (s : State) (c : Cmd) (e : InFlight) (r : Nat), FromHost r 0x0801 15 c e s → e.desc.a0 ≠ 0 → e.desc.a0.toNat < 256 →
     (r ≠ 0 → fld e.desc.a0 5 3 = 0) → 1250 ≤ e.desc.a1.toNat → badBuf e.desc 2 0 = none → sessOf s c.port c.ring = none →
     exec (.profileStart c) s = .next (endCmd c.port c.ring (begun e) ok ((taken c e s).setMgt { s.mgt with
       sess := s.mgt.sess ++ [{ port := c.port, ring := c.ring, mask := BitVec.ofNat 8 e.desc.a0.toNat, period := e.desc.a1
                                addr := e.desc.a2, len := e.desc.a3, written := 0, stepEnds := 0 }] })))
   ∧ (∀ (s : State) (c : Cmd) (e : InFlight) (r : Nat) (x : ProfSess), FromHost r 0x0801 15 c e s → e.desc.a0 ≠ 0 →
     e.desc.a0.toNat < 256 → (r ≠ 0 → fld e.desc.a0 5 3 = 0) → 1250 ≤ e.desc.a1.toNat → badBuf e.desc 2 0 = none →
     sessOf s c.port c.ring = some x →
     exec (.profileStart c) s = .next (endCmd c.port c.ring (begun e) (failWith stBusy 0) (taken c e s)))
   ∧ (∀ (s : State) (c : Cmd) (e : InFlight) (r : Nat) (x : ProfSess), FromHost r 0x0802 0 c e s →
     sessOf s c.port c.ring = some x →
     exec (.profileStop c) s = .next (endCmd c.port c.ring (begun e) (okRv x.written 0 0)
       ((taken c e s).setMgt { s.mgt with sess := s.mgt.sess.erase x })))
   ∧ (∀ (s : State) (p r : Nat) (data : List Byte) (x : ProfSess), sessOf s p r = some x →
     (r = 0 → tenantOpen s = true → fld x.mask 0 5 ≠ 0 → x.stepEnds ≠ 0) →
     x.written.toNat + data.length ≤ x.len.toNat →
     exec (.profileSample p r data) s = .next { s with
       out := .hostWrite p (x.addr + x.written) data :: s.out
       mgt := { s.mgt with sess := s.mgt.sess.map fun z =>
         if z = x then { x with stepEnds := 0, written := x.written + dw data.length } else z } })
   ∧ (∀ (s : State) (p r : Nat) (data : List Byte) (x : ProfSess), sessOf s p r = some x →
     (r = 0 → tenantOpen s = true → fld x.mask 0 5 ≠ 0 → x.stepEnds ≠ 0) →
     x.len.toNat < x.written.toNat + data.length →
     exec (.profileSample p r data) s = .next { s with
       mgt := { s.mgt with sess := s.mgt.sess.map fun z => if z = x then { x with stepEnds := 0 } else z } })
   ∧ (∀ (s : State) (c : Cmd) (e : InFlight), FromSteward 0x0803 1 c e s → blkOn s baseSEC = true → e.desc.a0 ≠ 0 →
     e.desc.a0.toNat < 64 → tenantOpen s = false → s.sec.dbgOpen = false →
     exec (.debugEnter c) s = .next (endCmd c.port c.ring (begun e) ok (logMod 0x6007 0 [e.desc.a0]
       ((taken c e s).setSec { s.sec with
         dbgOpen := true, grant := BitVec.ofNat 8 e.desc.a0.toNat, dbgEver := true
         dbgUsed := s.sec.dbgUsed || decide (e.desc.a0 ≠ 1) }))))
   ∧ (∀ (s : State) (c : Cmd) (e : InFlight), FromSteward 0x0804 0 c e s → blkOn s baseSEC = true → s.sec.dbgOpen = true →
     ∃ u, exec (.debugExit c) s = .next (endCmd c.port c.ring (begun e) ok u)
       ∧ u.sec = { s.sec with dbgOpen := false, grant := 0 }
       ∧ (∀ p < 2, ∀ x ∈ (fn u p).maps, ∀ m, x.2 = some m → m.target < 2 ^ 63)
       ∧ u.mgt = (logMod 0x6007 0 [dw s.sec.grant.toNat] s).mgt
       ∧ u = { taken c e s with fn0 := u.fn0, fn1 := u.fn1, sec := u.sec, mgt := u.mgt }))

/-- Contained restarts (R20, R501, R509, R510, R511, R512, R513). A watchdog expiry and every trigger but a corrected
memory error put the CP into its restart, with cause, PC and RT noted and no transfer of a ring left under way but a staging of firmware; the
clusters, the schedulers, the links and the lasers go on. A corrected error is only logged. The end of the restart lets
the rings serve again and logs the outcome. A restart that outlasts its bound leaves the CP held, with a journal entry.
Armed instants (R269, R274, R395, R396, R423, R453). When Rack Time has reached them, armed instants leave the table
and act: a light plan becomes due, a lone job may begin, a job takes its STEP_CONTROL action, after a Solstice in progress, and new frames of a realm in
rotation take the newest epoch. Instants of the future stay armed. -/
def Obligations.RestartsAndArmedInstants : Prop :=
  ((∀ (s : State) (pc : W64), cpUp s = true →
     ∃ t, exec (.cpWatchdogExpiry pc) s = .next t ∧ t.rel.restarting = true ∧ t.rel.cause = 1 ∧ t.rel.pc = pc
       ∧ t.rel.restarts = rtNow s :: restartsKept s
       ∧ (∀ p < 2, ∀ r < 4, ∀ e ∈ (ring t p r).inflight, inTransfer e = true → e.desc.opcode = 0x0505)
       ∧ t.cmp = s.cmp ∧ t.dsc = s.dsc ∧ t.links = s.links ∧ t.opt = s.opt ∧ t.rtb = s.rtb ∧ t.doms = s.doms)
   ∧ (∀ (s : State) (cause : Nat) (pc : W64), 2 ≤ cause → cause ≤ 5 → cpUp s = true →
     ∃ t, exec (.containedRestartTrigger cause pc) s = .next t ∧ t.rel.restarting = true ∧ t.rel.cause = cause
       ∧ t.rel.pc = pc ∧ t.rel.restarts = rtNow s :: restartsKept s
       ∧ (∀ p < 2, ∀ r < 4, ∀ e ∈ (ring t p r).inflight, inTransfer e = true → e.desc.opcode = 0x0505)
       ∧ t.cmp = s.cmp ∧ t.dsc = s.dsc ∧ t.links = s.links ∧ t.opt = s.opt ∧ t.rtb = s.rtb ∧ t.doms = s.doms)
   ∧ (∀ (s : State) (pc : W64), cpUp s = true →
     exec (.containedRestartTrigger 0 pc) s = .next (logMod 0x2001 (resDom 72) [] s))
   ∧ (∀ s : State, s.rel.restarting = true → s.rel.held = false → s.rel.restarts.length < 4 → s.shut = none →
     s.spring.mbxReady = true →
     ∃ t, exec .cpRestartDone s = .next t ∧ t.rel.restarting = false ∧ t.rel.restarts = s.rel.restarts
       ∧ (∀ p < 2, ∀ r < 4, ring t p r = if (ring s p r).latched = true
           then { ring s p r with latched := false, fetching := (ring s p r).st == .on } else ring s p r)
       ∧ t.cmp = s.cmp ∧ t.links = s.links ∧ t.doms = s.doms
       ∧ (s.mgt.upd.st = .idle → t.mgt = (logMod 0x7007 0 [dw s.rel.cause, s.rel.pc, dw s.rel.restarts.length, 0] s).mgt
         ∧ t = { s with rel := t.rel, mgt := t.mgt, fn0 := t.fn0, fn1 := t.fn1, stk := t.stk, out := t.out })
       ∧ (s.mgt.upd.st = .idle → heldLocks s = [] → t.rel = { s.rel with restarting := false }))
   ∧ (∀ s : State, s.rel.restarting = true → s.rel.held = false → 4 ≤ s.rel.restarts.length →
     exec .cpRestartDone s = .next s)
   ∧ (∀ s : State, s.rel.restarting = true → s.rel.held = false →
     ∃ t, exec .cpRestartTimeout s = .next t ∧ t.rel = { s.rel with held := true }
       ∧ t.flash.journal = (.event { code := 0x7007, realm := 0xFF, job := 0xFFFF, count := 1, seqNo := s.flash.evSeq
                                     rt := rtNow s, unit := 0
                                     data := [dw s.rel.cause, s.rel.pc, dw s.rel.restarts.length, 1] }
           :: s.flash.journal).take 32768
       ∧ t.flash.evSeq = s.flash.evSeq + 1 ∧ t = { s with rel := t.rel, flash := t.flash }))
  ∧ ((∀ s : State, rtbServes s = true →
     ∃ t, exec .instantFires s = .next t
       ∧ t.rtb = { s.rtb with armed := s.rtb.armed.filter fun a => (rtNow s).toNat < a.1.toNat })
   ∧ (∀ (s : State) (x : W64) (n : Nat), rtbServes s = true → s.rtb.armed = [(x, .lightSwitch n)] →
     x.toNat ≤ (rtNow s).toNat →
     exec .instantFires s = .next { s with
       rtb := { s.rtb with armed := [] }, fab := { s.fab with due := s.fab.due ++ [n] } })
   ∧ (∀ (s : State) (x : W64) (slot : Nat) (j : Job), rtbServes s = true → s.rtb.armed = [(x, .jobStart slot)] →
     x.toNat ≤ (rtNow s).toNat → jobAt s slot = some j →
     exec .instantFires s = .next (setJobAt { s with rtb := { s.rtb with armed := [] } } slot
       (some { j with startAt := none })))
   ∧ (∀ (s : State) (x : W64) (slot action n : Nat) (j : Job), rtbServes s = true →
     s.rtb.armed = [(x, .stepControl slot action n)] → x.toNat ≤ (rtNow s).toNat → jobAt s slot = some j →
     j.state ≠ .aborted →
     exec .instantFires s = .next (setJobAt { s with rtb := { s.rtb with armed := [] } } slot
       (some (if inSolstice j = true then { j with deferred := j.deferred ++ [.act action n] }
         else applyControl (rtNow s) action n j))))
   ∧ (∀ (s : State) (x : W64) (r : Nat), rtbServes s = true → s.rtb.armed = [(x, .linkEpoch r)] →
     x.toNat ≤ (rtNow s).toNat →
     exec .instantFires s = .next (setRealm { s with rtb := { s.rtb with armed := [] } } r
       { realmOf s r with linkNew := (realmOf s r).two })))

/-- Tile instructions (R154, R159, R160). NOP only advances the PC. SETA and ADDA set and advance an address register. LOOP
and ENDL open a counting loop, go back while its count lasts and close it. SCL reads the tensor scale. SYNC waits for the
queue. WLD, MMA and DRN take a place in the queue with the values of issue, and advance their address register when PI is
set. END lets the task end once the queue is empty. A core changes nothing but itself by an instruction that does not
fault; an undefined opcode, and END behind an MMA with no DRN, end its task. -/
def Obligations.TileInstructionsIssue : Prop :=
  (∀ (s : State) (d c k : Nat) (w : W32) (x : Core), TileAt 0 0 d c k w x s →
    exec (.tileNop d c k w) s = .next (setCore s d c k { x with pc := x.pc + 1 }))
  ∧ (∀ (s : State) (d c k : Nat) (w : W32), coreIssues s d c k = true → tileWord s d c k = w →
    (fld w 26 6 = 7 ∨ 0xC ≤ fld w 26 6) →
    ∃ t, exec (.tileNop d c k w) s = .next t ∧ (core t d c k).task = none)
  ∧ (∀ (s : State) (d c k : Nat) (w : W32) (x : Core), TileAt 1 0 d c k w x s → x.undrained = false →
    exec (.tileEnd d c k w) s = .next (setCore s d c k { x with ending := true }))
  ∧ (∀ (s : State) (d c k : Nat) (w : W32) (x : Core), TileAt 1 0 d c k w x s → x.undrained = true →
    ∃ t, exec (.tileEnd d c k w) s = .next t ∧ (core t d c k).task = none)
  ∧ (∀ (s : State) (d c k : Nat) (w : W32) (x : Core), TileAt 2 0x380FFFF d c k w x s →
    exec (.seta d c k w) s = .next (setCore s d c k { x with
      pc := x.pc + 1, ar := tset 0 x.ar (fld w 23 3) (BitVec.ofNat 16 (fld w 0 16)) }))
  ∧ (∀ (s : State) (d c k : Nat) (w : W32) (x : Core), TileAt 3 0x380FFFF d c k w x s →
    exec (.adda d c k w) s = .next (setCore s d c k { x with
      pc := x.pc + 1, ar := tset 0 x.ar (fld w 23 3) (tget 0 x.ar (fld w 23 3) + BitVec.ofNat 16 (fld w 0 16)) }))
  ∧ (∀ (s : State) (d c k : Nat) (w : W32) (x : Core), TileAt 4 0x3000FFF d c k w x s → x.loops.length < 4 →
    (∀ e ∈ x.loops, e.1 ≠ fld w 24 2) →
    exec (.loop d c k w) s = .next (setCore s d c k { x with
      pc := x.pc + 1, loops := (fld w 24 2, x.pc + 1) :: x.loops, lc := tset 0 x.lc (fld w 24 2) (fld w 0 12) }))
  ∧ (∀ (s : State) (d c k : Nat) (w : W32) (x : Core) (back : Nat) (rest : List (Nat × Nat)),
    TileAt 5 0x3000000 d c k w x s → x.loops = (fld w 24 2, back) :: rest →
    exec (.endl d c k w) s = .next (setCore s d c k (if tget 0 x.lc (fld w 24 2) = 0
      then { x with pc := x.pc + 1, loops := rest }
      else { x with pc := back, lc := tset 0 x.lc (fld w 24 2) (tget 0 x.lc (fld w 24 2) - 1) })))
  ∧ (∀ (s s1 : State) (d c k : Nat) (w : W32) (x : Core) (errs : List (Nat × Nat)) (b : List Byte),
    TileAt 6 0x3800007 d c k w x s → (∀ l a rows, QEntry.drn .waiting l a rows ∉ x.queue ∧ QEntry.drn .running l a rows ∉ x.queue) →
    (tget 0 x.ar (fld w 23 3)).toNat < 20480 →
    memRead (slotRealm s x.slot) (lineAddr d c k x.slot (tget 0 x.ar (fld w 23 3)).toNat + 4 * fld w 0 3) 4
      (applyErrs errs s) = (b, false, s1) →
    exec (.scl d c k w errs) s = .next (setCore s1 d c k { x with pc := x.pc + 1, sc := BitVec.ofNat 32 (leNat b) }))
  ∧ (∀ (s : State) (d c k : Nat) (w : W32) (x : Core), TileAt 0xB 0 d c k w x s →
    exec (.sync d c k w) s = .next (if x.queue = [] then setCore s d c k { x with pc := x.pc + 1 } else s))
  ∧ (∀ (s : State) (d c k n a : Nat) (f : BFmt) (w : W32) (x : Core), TileAt 8 0x3F8000F d c k w x s → fld w 20 2 < 3 →
    f = fmtOf (fld w 20 2) → n = fld w 0 4 + 1 → a = (tget 0 x.ar (fld w 23 3)).toNat → x.queue.length < 8 →
    a + n * wldLines f ≤ 20480 → n ≤ bankTiles f → blkOn s (baseARR d c k) = true →
    exec (.wld d c k w) s = .next (setCore s d c k { x with
      pc := x.pc + 1, queue := x.queue ++ [.wld .waiting a (fld w 22 1) f n]
      ar := if bit w 19 = true then tset 0 x.ar (fld w 23 3) (tget 0 x.ar (fld w 23 3) + BitVec.ofNat 16 (n * wldLines f))
        else x.ar }))
  ∧ (∀ (s : State) (d c k n a : Nat) (f : BFmt) (w : W32) (x : Core), TileAt 9 0x3FCF0FF d c k w x s → fld w 20 2 < 3 →
    f = fmtOf (fld w 20 2) → n = fld w 0 4 + 1 → a = (tget 0 x.ar (fld w 23 3)).toNat → x.queue.length < 8 →
    (∀ l ∈ mmaReads f n (bitsOf 4 (fld w 12 4)), a + l < 20480) → fld w 4 4 + n ≤ (bankTilesFor x (fld w 22 1)).1 →
    x.undrained = false → blkOn s (baseARR d c k) = true →
    exec (.mma d c k w) s = .next (setCore
      (if x.ownBanks.contains (fld w 22 1) || wldOn x.queue (fld w 22 1) then s else checkAbandon d c k s) d c k { x with
      pc := x.pc + 1, undrained := true
      queue := x.queue ++ [.mma .waiting a (fld w 22 1) f (fld w 4 4) n (BitVec.ofNat 4 (fld w 12 4)) (bit w 18) x.sc]
      ar := if bit w 19 = true then tset 0 x.ar (fld w 23 3) (tget 0 x.ar (fld w 23 3) + BitVec.ofNat 16 (groupLines f n))
        else x.ar }))
  ∧ (∀ (s : State) (d c k a : Nat) (w : W32) (x : Core), TileAt 0xA 0x3E00000 d c k w x s →
    a = (tget 0 x.ar (fld w 23 3)).toNat → x.queue.length < 8 → x.undrained = true →
    (∀ v ∈ drnArrays x, a + 4 * v + 4 ≤ 20480) → blkOn s (baseARR d c k) = true →
    exec (.drn d c k w) s = .next (setCore s d c k { x with
      pc := x.pc + 1, undrained := false, queue := x.queue ++ [.drn .waiting a (bit w 22) []]
      ar := if bit w 21 = true then tset 0 x.ar (fld w 23 3) (tget 0 x.ar (fld w 23 3) + 16) else x.ar }))

/-- The matrix queue and the life of a core's task (R39, R146, R149, R155, R156, R158, R162, R164, R195). A weight load, a
multiplication and a drain start when the operations before them that they depend on are done. A load fills its bank, a
multiplication fills the activation FIFOs and moves its sums to free latches, a drain writes its rows and counts them for the watcher; an uncorrectable
error ends the task. A task that has reached END ends when the queue is empty, and the pending one starts with SC at 1.0.
A slot switch flushes an idle core and starts what waited for it, and the supplies of gated cores come back with both banks invalid. -/
def Obligations.MatrixQueueRuns : Prop :=
  (∀ (s : State) (d c k a b n : Nat) (f : BFmt) (x : Core) (pre post : List QEntry), arrRuns s d c k = true →
    core s d c k = x → x.queue = pre ++ .wld .waiting a b f n :: post → x.queue.any (isWld .running) = false →
    pre.any (isWld .waiting) = false → mmaOn pre b = false → drnMeets pre a (n * wldLines f) = false →
    exec (.wldStart d c k) s = .next (setCore s d c k { setBank x b { fmt := f, tiles := [], loading := true } with
      queue := pre ++ .wld .running a b f n :: post }))
  ∧ (∀ (s s1 : State) (d c k a b n : Nat) (f : BFmt) (x : Core) (pre post : List QEntry) (errs : List (Nat × Nat))
      (bytes : List Byte) (poison : Bool), arrRuns s d c k = true → core s d c k = x →
    x.queue = pre ++ .wld .running a b f n :: post → pre.any (isWld .running) = false →
    readLines d c k x.slot a (n * wldLines f) (applyErrs errs s) = (bytes, poison, s1) →
    exec (.wldDone d c k errs) s = .next (if poison = true then tileFault d c k 9 s1 else setCore s1 d c k
      { setBank x b { fmt := f, tiles := ((List.range n).map fun i =>
          readTile f (slice bytes (32 * wldLines f * i) (32 * wldLines f))) } with
        queue := pre ++ post, ownBanks := if x.ownBanks.contains b then x.ownBanks else x.ownBanks ++ [b] }))
  ∧ (∀ (s s1 : State) (d c k a b first n : Nat) (f : BFmt) (am : BitVec 4) (ns : Bool) (sc : F32) (x : Core)
      (pre post : List QEntry) (errs : List (Nat × Nat)) (bytes : List Byte), arrRuns s d c k = true →
    core s d c k = x → x.queue = pre ++ .mma .waiting a b f first n am ns sc :: post →
    x.queue.any (isMma .running) = false → pre.any (isMma .waiting) = false → wldOn pre b = false →
    drnMeets pre a (groupLines f n) = false →
    readGroup d c k x.slot a (groupLines f n) (mmaReads f n (bitsOf 4 am.toNat)) (applyErrs errs s) = (bytes, false, s1) →
    ∃ t, exec (.mmaStart d c k errs) s = .next t
      ∧ (core t d c k).acc = (bitsOf 4 am.toNat).map (fun v => (v, mmaRow (bankOf x b).fmt
          (((bankOf x b).tiles.drop first).take n) { fmt := f, tiles := n, bytes := bytes } sc (bitsOf 4 am.toNat) v))
      ∧ (core t d c k).fifo = (bitsOf 4 am.toNat).map (fun v => (v, groupFifo { fmt := f, tiles := n, bytes := bytes } v))
      ∧ (core t d c k).queue = pre ++ .mma .running a b f first n am ns sc :: post
      ∧ (core t d c k).latch = x.latch ∧ (core t d c k).bank0 = x.bank0 ∧ (core t d c k).bank1 = x.bank1
      ∧ (core t d c k).pc = x.pc ∧ (core t d c k).task = x.task ∧ t = { s1 with cmp := t.cmp })
  ∧ (∀ (s : State) (d c k : Nat) (x : Core) (e : QEntry) (pre post : List QEntry), arrRuns s d c k = true →
    core s d c k = x → x.latch = none → x.queue = pre ++ e :: post → isMma .running e = true →
    pre.any (isMma .running) = false →
    exec (.mmaDone d c k) s = .next (setCore s d c k
      { x with latch := some x.acc, acc := [], fifo := [], slow := false, queue := pre ++ post }))
  ∧ (∀ (s : State) (d c k a : Nat) (m : Bool) (x : Core) (rows old : List (Nat × List F32)) (pre post : List QEntry),
    arrRuns s d c k = true → core s d c k = x → x.latch = some rows → x.queue = pre ++ .drn .waiting a m old :: post →
    x.queue.any (isDrn .running) = false → pre.any (isDrn .waiting) = false →
    pre.any (fun e => isMma .waiting e || isMma .running e) = false →
    exec (.drnStart d c k) s = .next (setCore s d c k
      { x with latch := none, queue := pre ++ .drn .running a m rows :: post }))
  ∧ (∀ (s s1 : State) (d c k a : Nat) (m : Bool) (x : Core) (rows : List (Nat × List F32)) (pre post : List QEntry)
      (errs : List (Nat × Nat)) (vals : List F32), arrRuns s d c k = true → core s d c k = x →
    x.queue = pre ++ .drn .running a m rows :: post → pre.any (isDrn .running) = false →
    rows.foldl (drnRow d c k x.slot a m) (false, [], applyErrs errs s) = (false, vals, s1) →
    exec (.drnDone d c k errs) s = .next (match x.task.bind (·.outTid) with
      | some tid => watCount d c x.slot tid (drnCounts vals) 0 (setCore s1 d c k { x with queue := pre ++ post })
      | none => setCore s1 d c k { x with queue := pre ++ post }))
  ∧ (∀ (s : State) (d c k : Nat) (x : Core), core s d c k = x → x.task.isSome = true → x.ending = true → x.queue = [] →
    clocksRun s = true → domOn s (quadDom d c) = true → x.pendTask = none →
    ∃ t, exec (.tileTaskDone d c k) s = .next t ∧ (core t d c k).task = none ∧ (core t d c k).ending = false
      ∧ (core t d c k).counts = x.counts ∧ (core t d c k).slot = x.slot ∧ (core t d c k).role = x.role
      ∧ t = { s with cmp := t.cmp, rel := t.rel })
  ∧ (∀ (s : State) (d c k : Nat) (x : Core) (p : CoreTask), core s d c k = x → x.task.isSome = true → x.ending = true →
    x.queue = [] → clocksRun s = true → domOn s (quadDom d c) = true → x.pendTask = some p → x.checking = false →
    ∃ t, exec (.tileTaskDone d c k) s = .next t ∧ (core t d c k).task = some p ∧ (core t d c k).pc = p.entry
      ∧ (core t d c k).pendTask = none ∧ (core t d c k).sc = 0x3F800000 ∧ (core t d c k).queue = []
      ∧ t = { s with cmp := t.cmp, rel := t.rel })
  ∧ (∀ (s : State) (d c k slot : Nat) (x : Core), core s d c k = x → x.switchTo = some slot → x.task = none →
    x.checking = false → x.pendTask = none → clocksRun s = true → domOn s (quadDom d c) = true →
    exec (.coreSlotSwitch d c k) s = .next (setCore s d c k
      { skipEn := x.skipEn, skipRecord := x.skipRecord, role := x.role, retired := x.retired, gated := x.gated, slot
        counts := x.counts }))
  ∧ (∀ (s : State) (d c k slot : Nat) (x : Core) (p : CoreTask), core s d c k = x → x.switchTo = some slot →
    x.task = none → x.checking = false → x.pendTask = some p → clocksRun s = true → domOn s (quadDom d c) = true →
    ∃ t, exec (.coreSlotSwitch d c k) s = .next t ∧ (core t d c k).task = some p ∧ (core t d c k).slot = slot
      ∧ (core t d c k).pc = p.entry ∧ (core t d c k).bank0 = {} ∧ (core t d c k).bank1 = {}
      ∧ (core t d c k).cols = [] ∧ t = { s with cmp := t.cmp })
  ∧ (∀ (s : State) (d q : Nat), domOn s (8 * d + q) = true → q < 4 →
    ∃ t, exec (.idleGatingRestore d q) s = .next t ∧ dom t (8 * d + q) = { dom s (8 * d + q) with gated := false }
      ∧ (∀ i < 12, ∀ k < 25, core t d (12 * q + i) k = if (core s d (12 * q + i) k).gated = true
          then { core s d (12 * q + i) k with gated := false, bank0 := {}, bank1 := {} } else core s d (12 * q + i) k)
      ∧ t = { s with cmp := t.cmp, doms := t.doms })

/-- CCC instructions that compute, load and store (R227, R228, R229, R231, R283). Each writes D and goes on to the next
instruction; S0 takes no write. Loads and stores go to the die-shared window of the context's slot, and an address
outside it, then a misaligned one, faults; so does poison that is read. An undefined opcode, a reserved bit and a
function above 12 fault. An instruction that names S24 to S31 while a VE program of the context runs stalls. -/
def Obligations.ControlCoreComputes : Prop :=
  (∀ (s : State) (d c sl : Nat) (w : W32) (x : Ccc), CccAt 0 0 [] d c sl w x s →
    exec (.cccNop d c sl w) s = .next (setCcc s d c sl { x with pc := x.pc + 1 }))
  ∧ (∀ (s : State) (d c sl : Nat) (w : W32), cccIssues s d c sl = true → cccWord s d c sl = w →
    (fld w 26 6 = 0xF ∨ 0x16 ≤ fld w 26 6) → exec (.cccNop d c sl w) s = .next (cccFault d c sl 1 0xFF s))
  ∧ (∀ (s : State) (d c sl : Nat) (w : W32) (x : Ccc), CccAt 2 0x3FFFFFF [cD w, cA w, cB w] d c sl w x s →
    exec (.cccAlu d c sl w) s = .next (if fld w 0 11 ≤ 12
      then setCcc s d c sl { setS (cD w) (aluOp (fld w 0 11) (sReg x (cA w)) (sReg x (cB w))) x with pc := x.pc + 1 }
      else cccFault d c sl 1 0xFF s))
  ∧ (∀ (s : State) (d c sl : Nat) (w : W32) (x : Ccc), CccAt 3 0x3FFFFFF [cD w, cA w] d c sl w x s →
    exec (.cccAddi d c sl w) s = .next (setCcc s d c sl
      { setS (cD w) (sReg x (cA w) + BitVec.ofInt 64 (sfld w 0 16)) x with pc := x.pc + 1 }))
  ∧ (∀ (s : State) (d c sl : Nat) (w : W32) (x : Ccc), CccAt 4 0x3E0FFFF [cD w] d c sl w x s →
    exec (.cccLui d c sl w) s = .next (setCcc s d c sl { setS (cD w) (dw (fld w 0 16 * 65536)) x with pc := x.pc + 1 }))
  ∧ (∀ (s : State) (d c sl : Nat) (w : W32) (x : Ccc), CccAt 5 0x3FFFFFF [cD w, cA w] d c sl w x s →
    exec (.cccOri d c sl w) s = .next (setCcc s d c sl
      { setS (cD w) (sReg x (cA w) ||| dw (fld w 0 16)) x with pc := x.pc + 1 }))
  ∧ (∀ (s : State) (d c sl a : Nat) (w : W32) (x : Ccc) (errs : List (Nat × Nat)),
    CccAt 6 0x3FFFFFF [cD w, cA w] d c sl w x s → cccAddr w x = a →
    exec (.cccLd d c sl w errs) s = .next (
      if 0x800000 ≤ a then cccFault d c sl 2 0xFF s
      else if a % 8 ≠ 0 then cccFault d c sl 4 0xFF s
      else match memRead (slotRealm s sl) (sharedBase d sl + a) 8 (applyErrs errs s) with
        | (_, true, s1) => cccFault d c sl 9 0xFF s1
        | (b, false, s1) => setCcc s1 d c sl { setS (cD w) (dw (leNat b)) x with pc := x.pc + 1 }))
  ∧ (∀ (s : State) (d c sl a : Nat) (w : W32) (x : Ccc), CccAt 7 0x3FFFFFF [cD w, cA w] d c sl w x s → cccAddr w x = a →
    exec (.cccSt d c sl w) s = .next (
      if 0x800000 ≤ a then cccFault d c sl 2 0xFF s
      else if a % 8 ≠ 0 then cccFault d c sl 4 0xFF s
      else setCcc (memWrite (slotRealm s sl) (sharedBase d sl + a) (leBytes 8 (sReg x (cD w)).toNat) s) d c sl
        { x with pc := x.pc + 1 }))
  ∧ (∀ (s : State) (d c sl : Nat) (w : W32) (x : Ccc), CccAt 0x14 0x3E00000 [cD w] d c sl w x s →
    exec (.cccBusy d c sl w) s = .next (setCcc s d c sl { setS (cD w)
      (dw (maskOf 24 (fun l => coreHolds s d c sl (physCore s d c l)) + (if (ve s d c sl).run = true then 2 ^ 24 else 0)
        + (if (dma s d c sl).q0 = [] then 0 else 2 ^ 25) + (if (dma s d c sl).q1 = [] then 0 else 2 ^ 26))) x with
      pc := x.pc + 1 }))
  ∧ (∀ (s : State) (d c sl : Nat) (w : W32) (x : Ccc), CccAt 0x15 0x3E00000 [cD w] d c sl w x s →
    exec (.cccRdrt d c sl w) s = .next (setCcc s d c sl { setS (cD w) (rtNow s) x with pc := x.pc + 1 }))
  ∧ (∀ (s : State) (d c sl : Nat) (w : W32), cccIssues s d c sl = true → cccWord s d c sl = w → fld w 26 6 = 5 →
    (24 ≤ cD w ∨ 24 ≤ cA w) → (ve s d c sl).run = true →
    exec (.cccOri d c sl w) s = .next (setCcc s d c sl { ccc s d c sl with stall := some .summary }))

/-- CCC control flow (R227, R228, R229, R232). A branch compares A and B and goes to its target or to the next
instruction; JAL and JALR save the next instruction's number and jump; a target outside the store faults with PC_BOUND.
END stops the context until its agents have finished. WAIT goes on when what it names has finished, and stalls
before. -/
def Obligations.ControlCoreBranches : Prop :=
  (∀ (s : State) (d c sl : Nat) (w : W32) (x : Ccc), CccAt 8 0x3FFFFFF [cD w, cA w] d c sl w x s →
    exec (.cccBeq d c sl w) s = .next (if sReg x (cD w) = sReg x (cA w)
      then cccJumped d c sl x (x.pc + sfld w 0 16) s else setCcc s d c sl { x with pc := x.pc + 1 }))
  ∧ (∀ (s : State) (d c sl : Nat) (w : W32) (x : Ccc), CccAt 9 0x3FFFFFF [cD w, cA w] d c sl w x s →
    exec (.cccBne d c sl w) s = .next (if sReg x (cD w) ≠ sReg x (cA w)
      then cccJumped d c sl x (x.pc + sfld w 0 16) s else setCcc s d c sl { x with pc := x.pc + 1 }))
  ∧ (∀ (s : State) (d c sl : Nat) (w : W32) (x : Ccc), CccAt 0xA 0x3FFFFFF [cD w, cA w] d c sl w x s →
    exec (.cccBlt d c sl w) s = .next (if (sReg x (cD w)).toInt < (sReg x (cA w)).toInt
      then cccJumped d c sl x (x.pc + sfld w 0 16) s else setCcc s d c sl { x with pc := x.pc + 1 }))
  ∧ (∀ (s : State) (d c sl : Nat) (w : W32) (x : Ccc), CccAt 0xB 0x3FFFFFF [cD w, cA w] d c sl w x s →
    exec (.cccBltu d c sl w) s = .next (if (sReg x (cD w)).toNat < (sReg x (cA w)).toNat
      then cccJumped d c sl x (x.pc + sfld w 0 16) s else setCcc s d c sl { x with pc := x.pc + 1 }))
  ∧ (∀ (s : State) (d c sl : Nat) (w : W32) (x : Ccc), CccAt 0xC 0x3FFFFFF [cD w, cA w] d c sl w x s →
    exec (.bflt d c sl w) s = .next (if fLt (BitVec.ofNat 32 (sReg x (cD w)).toNat) (BitVec.ofNat 32 (sReg x (cA w)).toNat) = true
      then cccJumped d c sl x (x.pc + sfld w 0 16) s else setCcc s d c sl { x with pc := x.pc + 1 }))
  ∧ (∀ (s : State) (d c sl : Nat) (w : W32) (x : Ccc), CccAt 0xD 0x3FFFFFF [cD w] d c sl w x s →
    exec (.jal d c sl w) s = .next (cccJumped d c sl (setS (cD w) (dw (x.pc + 1)) x) (x.pc + sfld w 0 21) s))
  ∧ (∀ (s : State) (d c sl : Nat) (w : W32) (x : Ccc) (t : W64), CccAt 0xE 0x3FFFFFF [cD w, cA w] d c sl w x s →
    t = sReg x (cA w) + BitVec.ofInt 64 (sfld w 0 16) →
    exec (.jalr d c sl w) s = .next (cccJumped d c sl (setS (cD w) (dw (x.pc + 1)) x) t.toNat s))
  ∧ (∀ (s : State) (d c sl : Nat) (w : W32) (x : Ccc), CccAt 1 0 [] d c sl w x s →
    exec (.cccEnd d c sl w) s = .next (setCcc s d c sl { x with stall := some .ending }))
  ∧ (∀ (s : State) (d c sl : Nat) (w : W32) (x : Ccc) (cores : BitVec 24), CccAt 0x13 0x1F0007 [cA w] d c sl w x s →
    cores = BitVec.ofNat 24 (sReg x (cA w)).toNat →
    ∃ u, exec (.cccWait d c sl w) s = .next u
      ∧ ((∀ l < 24, cores.getLsbD l = true → coreBusy s d c sl (physCore s d c l) = false)
          ∧ (bit w 2 = true → (ve s d c sl).run = false) ∧ (bit w 0 = true → (dma s d c sl).q0 = [])
          ∧ (bit w 1 = true → (dma s d c sl).q1 = []) → u = setCcc s d c sl { x with pc := x.pc + 1 })
      ∧ (∀ l < 24, cores.getLsbD l = true → coreBusy s d c sl (physCore s d c l) = true →
          u = setCcc s d c sl { x with stall := some (.wait cores (bit w 2) (bit w 0) (bit w 1)) })
      ∧ (bit w 2 = true → (ve s d c sl).run = true →
          u = setCcc s d c sl { x with stall := some (.wait cores (bit w 2) (bit w 0) (bit w 1)) }))

/-- Starting work from a CCC (R229, R230, R231, R234, R235, R236, R482). TASK starts a core task, or queues it behind
the one that runs; VRUN starts a VE program with VA0 to VA7 from four registers and VLEN at 128; DMA appends a transfer to its queue. A
core that does not exist, a VE that is not On and a bad descriptor fault; a core that has no room, a VE that runs and a
full queue stall the instruction, and CCC_STALL_END runs it when there is room. -/
def Obligations.ControlCoreStartsWork : Prop :=
  (∀ (s : State) (d c sl k : Nat) (w : W32) (x : Ccc) (t : CoreTask) (y : Core),
    CccAt 0x10 0x3FFFFFF [cA w, cB w, cB w + 1, cD w] d c sl w x s → fld w 0 11 = 0 → cB w ≠ 0 → cB w ≠ 31 →
    t = taskOf x (cA w) (cB w) (cD w) → k = physCore s d c t.logical → y = core s d c k → t.logical < 24 →
    (clu s d c).lost ≠ k → blkOn s (baseCORE d c k) = true →
    exec (.task d c sl w) s = .next (
      if y.pendTask = none ∧ y.slot = sl ∧ y.switchTo = none ∧ y.gated = false ∧ roleBars s d c sl k = false
      then setCcc (setCore (sentinelSample d c sl k t s) d c k
        (if y.task = none ∧ y.checking = false then coreStart y t else { y with pendTask := some t })) d c sl
        { x with pc := x.pc + 1 }
      else setCcc s d c sl { x with stall := some (.task (cA w) (cB w) (cD w)) }))
  ∧ (∀ (s : State) (d c sl : Nat) (w : W32) (x : Ccc),
    CccAt 0x10 0x3FFFFFF [cA w, cB w, cB w + 1, cD w] d c sl w x s → fld w 0 11 = 0 → cB w ≠ 0 → cB w ≠ 31 →
    24 ≤ fld (sReg x (cA w)) 0 5 → exec (.task d c sl w) s = .next (cccFault d c sl 5 0xFF s))
  ∧ (∀ (s : State) (d c sl : Nat) (w : W32) (x : Ccc) (v : Ve),
    CccAt 0x11 0x1F07FF ((List.range 4).map (cA w + ·)) d c sl w x s → v = ve s d c sl → blkOn s (baseVE d c) = true →
    ∃ t, exec (.vrun d c sl w) s = .next t
      ∧ (v.run = true → t = setCcc s d c sl { x with stall := some (.vrun (cA w) (fld w 0 11)) })
      ∧ (v.run = false → (ccc t d c sl) = { x with pc := x.pc + 1 } ∧ (ve t d c sl).run = true
        ∧ (ve t d c sl).pc = fld w 0 11 ∧ (ve t d c sl).ending = false ∧ (ve t d c sl).loops = [] ∧ (ve t d c sl).q = []
        ∧ (ve t d c sl).v = v.v ∧ (ve t d c sl).m = v.m ∧ (ve t d c sl).vlen = 128 ∧ (ve t d c sl).vl = []
        ∧ (ve t d c sl).tid = 0
        ∧ (∀ n < 8, cA w + n / 2 < 32 →
          tget 0 (ve t d c sl).va n = BitVec.ofNat 32 (fld (sReg x (cA w + n / 2)) (32 * (n % 2)) 32))
        ∧ t = { s with cmp := { s.cmp with ccc := t.cmp.ccc, ve := t.cmp.ve } }))
  ∧ (∀ (s : State) (d c sl : Nat) (w : W32) (x : Ccc),
    CccAt 0x11 0x1F07FF ((List.range 4).map (cA w + ·)) d c sl w x s → blkOn s (baseVE d c) = false →
    exec (.vrun d c sl w) s = .next (cccFault d c sl 8 0xFF s))
  ∧ (∀ (s : State) (d c sl : Nat) (w : W32) (x : Ccc) (q : Dma),
    CccAt 0x12 0x3FFFFC0 ((List.range 7).map (cD w + ·)) d c sl w x s → q = dma s d c sl → blkOn s (baseCLU d c) = true →
    exec (.cccDma d c sl w) s = .next (
      if xferGood x w = false then cccFault d c sl 7 0xFF s
      else if bit w 6 = true then
        (if q.q1.length < 4 then setCcc (setDma s d c sl { q with q1 := q.q1 ++ [xferOf x w] }) d c sl
          { x with pc := x.pc + 1 } else setCcc s d c sl { x with stall := some (.dma w) })
      else if q.q0.length < 4 then setCcc (setDma s d c sl { q with q0 := q.q0 ++ [xferOf x w] }) d c sl
          { x with pc := x.pc + 1 } else setCcc s d c sl { x with stall := some (.dma w) }))
  ∧ (∀ (s : State) (d c sl : Nat) (x : Ccc), ccc s d c sl = x → x.task.isSome = true → x.faulted = false →
    clocksRun s = true → domOn s (quadDom d c) = true → blkOn s (baseCCC d c) = true → x.pc < 2047 →
    (x.stall = some .summary → exec (.cccStallEnd d c sl) s = .next (if (ve s d c sl).run = true then s
      else setCcc s d c sl { x with stall := none }))
    ∧ (∀ m v q0 q1, x.stall = some (.wait m v q0 q1) → waitOver s d c sl m v q0 q1 = true →
      exec (.cccStallEnd d c sl) s = .next (setCcc s d c sl { x with stall := none, pc := x.pc + 1 }))
    ∧ (∀ m v q0 q1, x.stall = some (.wait m v q0 q1) → waitOver s d c sl m v q0 q1 = false →
      exec (.cccStallEnd d c sl) s = .next s)
    ∧ (∀ w, x.stall = some (.dma w) → blkOn s (baseCLU d c) = true → xferGood x w = true → bit w 6 = false →
      (dma s d c sl).q0.length < 4 → exec (.cccStallEnd d c sl) s = .next (setCcc (setDma s d c sl { dma s d c sl with
        q0 := (dma s d c sl).q0 ++ [xferOf x w] }) d c sl { x with stall := none, pc := x.pc + 1 })))

/-- VE control, registers and summaries (R212, R214, R215, R218, R219, R221, R222, R226). VNOP goes on; an undefined opcode
faults. VEND waits, and the program's end writes every non-empty Qk to S(24 + k) of its CCC. VLOOP opens a loop with an
immediate or a register count of 1 to 4096, at most four, each counter once; VENDL goes back or closes the innermost.
VSETVL, VADDA, VADDR and VTID set VLEN, VA and TID. VCMP and VMSK write a mask, VRED a register, VSUM a Qk of one kind. -/
def Obligations.VectorControlAndSummaries : Prop :=
  (∀ (s : State) (d c sl : Nat) (w : W32) (v : Ve), VeAt 0 0 d c sl w v s →
    exec (.vnop d c sl w) s = .next (setVe s d c sl (veNext v)))
  ∧ (∀ (s : State) (d c sl : Nat) (w : W32), veIssues s d c sl = true → veWord s d c sl = w →
    (fld w 26 6 ∈ [0xD, 0xE, 0xF, 0x17, 0x1A, 0x1B] ∨ 0x20 ≤ fld w 26 6) →
    exec (.vnop d c sl w) s = .next (veFault d c sl 1 s))
  ∧ (∀ (s : State) (d c sl : Nat) (w : W32) (v : Ve), VeAt 1 0 d c sl w v s →
    exec (.vend d c sl w) s = .next (setVe s d c sl { v with ending := true, issued := inc32 v.issued 1 }))
  ∧ (∀ (s : State) (d c sl n : Nat) (w : W32) (v : Ve), VeAt 2 0x39C0FFF d c sl w v s →
    n = (if bit w 23 = true then (vaOf v (fVA w)).toNat else fld w 0 12 + 1) →
    exec (.vloop d c sl w) s = .next (
      if v.loops.length < 4 ∧ (∀ e ∈ v.loops, e.1 ≠ fld w 24 2) ∧ 1 ≤ n ∧ n ≤ 4096
      then setVe s d c sl { veNext v with
        loops := (fld w 24 2, v.pc + 1) :: v.loops, vl := tset 0 v.vl (fld w 24 2) (n - 1) }
      else veFault d c sl 5 s))
  ∧ (∀ (s : State) (d c sl m back : Nat) (w : W32) (v : Ve) (rest : List (Nat × Nat)), VeAt 3 0x3000000 d c sl w v s →
    v.loops = (m, back) :: rest →
    exec (.vendl d c sl w) s = .next (
      if m ≠ fld w 24 2 then veFault d c sl 5 s
      else if tget 0 v.vl m = 0 then setVe s d c sl { veNext v with loops := rest }
      else setVe s d c sl { v with pc := back, vl := tset 0 v.vl m (tget 0 v.vl m - 1), issued := inc32 v.issued 1 }))
  ∧ (∀ (s : State) (d c sl : Nat) (w : W32) (v : Ve), VeAt 4 0x1C00C0 d c sl w v s → fTY w ≠ 3 →
    exec (.vsetvl d c sl w) s = .next (setVe s d c sl { veNext v with
      vlen := min (vaOf v (fVA w)).toNat (if fTY w = 0 then 128 else 256)
      va := tset 0 v.va (fVA w) (vaOf v (fVA w)
        - BitVec.ofNat 32 (min (vaOf v (fVA w)).toNat (if fTY w = 0 then 128 else 256))) }))
  ∧ (∀ (s : State) (d c sl : Nat) (w : W32) (v : Ve), VeAt 5 0x1CFFFF d c sl w v s →
    exec (.vadda d c sl w) s = .next (setVe s d c sl { veNext v with
      va := tset 0 v.va (fVA w) (vaOf v (fVA w) + BitVec.ofInt 32 (sfld w 0 16)) }))
  ∧ (∀ (s : State) (d c sl : Nat) (w : W32) (v : Ve), VeAt 6 0x1F8000 d c sl w v s →
    exec (.vaddr d c sl w) s = .next (setVe s d c sl { veNext v with
      va := tset 0 v.va (fVA w) (vaOf v (fVA w) + vaOf v (fld w 15 3)) }))
  ∧ (∀ (s : State) (d c sl n : Nat) (w : W32) (v : Ve), VeAt 0x13 0x3FFFFFF d c sl w v s → fTY w ≠ 3 → fFN w ≤ 4 →
    1 ≤ fD w → fD w < 8 → n = min v.vlen (if fTY w = 0 then 128 else 256) →
    ∃ m, exec (.vcmp d c sl w) s = .next (setVe s d c sl { veNext v with m := tset 0 v.m (fD w) m })
      ∧ ∀ i < 256, m.getLsbD i = if i < n
        then (maskReg v (fMK w)).getLsbD i
          && vcmpOp (tyFmt (fTY w)) (fFN w) (elem v (fTY w) (fA w) i) (elem v (fTY w) (fB w) i)
        else (maskReg v (fD w)).getLsbD i)
  ∧ (∀ (s : State) (d c sl : Nat) (w : W32) (v : Ve), VeAt 0x14 0x3FFF83F d c sl w v s → fFN w ≤ 3 →
    1 ≤ fD w → fD w < 8 → fA w < 8 → fB w < 8 →
    exec (.vmsk d c sl w) s = .next (setVe s d c sl { veNext v with m := tset 0 v.m (fD w) (
      if fFN w = 0 then maskReg v (fA w) &&& maskReg v (fB w)
      else if fFN w = 1 then maskReg v (fA w) ||| maskReg v (fB w)
      else if fFN w = 2 then maskReg v (fA w) &&& ~~~maskReg v (fB w) else ~~~maskReg v (fA w)) }))
  ∧ (∀ (s : State) (d c sl : Nat) (w : W32) (v : Ve), VeAt 0x18 0x3FF07FF d c sl w v s → fTY w = 0 → fFN w ≤ 2 →
    ∃ u, exec (.vred d c sl w) s = .next (setVe s d c sl u)
      ∧ VeElems 0 (fD w) (fun _ => some (reduce v (fFN w) (fA w) (fMK w)).toNat) v u)
  ∧ (∀ (s : State) (d c sl : Nat) (w : W32) (v : Ve), VeAt 0x19 0x3FF07FF d c sl w v s → fTY w = 0 → fFN w ≤ 4 →
    fD w < 8 →
    exec (.vsum d c sl w) s = .next (match tget none v.q (fD w) with
      | none => setVe s d c sl { veNext v with
          q := tset none v.q (fD w) (some (qKind (fFN w), vsumVal v (fFN w) (fA w) (fMK w) none)) }
      | some (kind, x) => if kind = qKind (fFN w) then setVe s d c sl { veNext v with
            q := tset none v.q (fD w) (some (kind, vsumVal v (fFN w) (fA w) (fMK w) (some x))) }
          else veFault d c sl 6 s))
  ∧ (∀ (s : State) (d c sl : Nat) (w : W32) (v : Ve), VeAt 0x1C 0xFF d c sl w v s →
    exec (.vtid d c sl w) s = .next (setVe s d c sl { veNext v with tid := fld w 0 8 }))
  ∧ (∀ (s : State) (d c sl : Nat) (v : Ve), ve s d c sl = v → v.run = true → v.ending = true → clocksRun s = true →
    domOn s (quadDom d c) = true →
    ∃ t, exec (.veProgramDone d c sl) s = .next t
      ∧ ve t d c sl = { v with run := false, ending := false, pc := 0, loops := [] }
      ∧ ccc t d c sl = { ccc s d c sl with s := (ccc t d c sl).s }
      ∧ (∀ n < 24, tget 0 (ccc t d c sl).s n = tget 0 (ccc s d c sl).s n)
      ∧ (tok none v.q = true → ∀ k < 8, tget 0 (ccc t d c sl).s (24 + k) = match tget none v.q k with
        | some (_, q) => q
        | none => tget 0 (ccc s d c sl).s (24 + k))
      ∧ t = { s with cmp := { s.cmp with ccc := t.cmp.ccc, ve := t.cmp.ve } })

/-- VE elements (R213, R214, R216, R217, R219, R220, R223, R224). Element instructions write the active elements below VLEN
of one register, by the stated operation, and leave the others; VSEL writes every element below VLEN, VLI all. Loads take
them from memory and stores write them there in ascending order; PI then advances the address. VQNT quantises registers into
blocks, a header and a scale word and has them counted, VDQ decodes such blocks, VLOSS posts lane 0. -/
def Obligations.VectorElements : Prop :=
  (∀ (s : State) (d c sl : Nat) (w : W32) (v : Ve), VeAt 7 0x3E3FFFF d c sl w v s → fld w 16 2 ≠ 3 →
    ∃ u, exec (.vli d c sl w) s = .next (setVe s d c sl u)
      ∧ VeElems 0 (fD w) (fun _ => some (if fld w 16 2 = 0 then fld w 0 16 * 65536 else fld w 0 16 * 65537)) v u)
  ∧ (∀ (s : State) (d c sl ty : Nat) (w : W32) (v : Ve), ty = fTY w → ty ≠ 3 → VeAt 0x10 0x3FFFFFF d c sl w v s →
    fFN w ≤ 5 → ∃ u, exec (.vari d c sl w) s = .next (setVe s d c sl u)
      ∧ VeElems ty (fD w) (fun i => if i ∈ active v ty (fMK w)
          then some (variOp (tyFmt ty) (fFN w) (elem v ty (fA w) i) (elem v ty (fB w) i)) else none) v u)
  ∧ (∀ (s : State) (d c sl ty : Nat) (w : W32) (v : Ve) (f : FFmt), ty = fTY w → ty ≠ 3 → f = tyFmt ty →
    VeAt 0x11 0x3FFFFFF d c sl w v s → fFN w ≤ 1 → ∃ u, exec (.vfma d c sl w) s = .next (setVe s d c sl u)
      ∧ VeElems ty (fD w) (fun i => if i ∈ active v ty (fMK w)
          then some (pack f (vAdd (unpack f (elem v ty (fD w) i)) (if fFN w = 0
            then vMul (unpack f (elem v ty (fA w) i)) (unpack f (elem v ty (fB w) i))
            else vNeg (vMul (unpack f (elem v ty (fA w) i)) (unpack f (elem v ty (fB w) i)))))) else none) v u)
  ∧ (∀ (s : State) (d c sl ty : Nat) (w : W32) (v : Ve), ty = fTY w → ty ≠ 3 → VeAt 0x12 0x3FF07FF d c sl w v s →
    (fFN w < 3 ∨ fFN w ≤ 7 ∧ ty = 0) → ∃ u, exec (.vun d c sl w) s = .next (setVe s d c sl u)
      ∧ VeElems ty (fD w) (fun i => if i ∈ active v ty (fMK w)
          then some (vunOp (tyFmt ty) (fFN w) (elem v ty (fA w) i)) else none) v u)
  ∧ (∀ (s : State) (d c sl ty : Nat) (w : W32) (v : Ve), ty = fTY w → ty ≠ 3 → VeAt 0x15 0x3FFFFC0 d c sl w v s →
    ∃ u, exec (.vsel d c sl w) s = .next (setVe s d c sl u)
      ∧ VeElems ty (fD w) (fun i => if i < v.vlen
          then some (if (maskReg v (fMK w)).getLsbD i = true then elem v ty (fA w) i else elem v ty (fB w) i)
          else none) v u)
  ∧ (∀ (s : State) (d c sl src ty : Nat) (w : W32) (v : Ve), ty = fTY w → ty ≠ 3 → src = fld w 0 2 → src ≠ 3 →
    VeAt 0x16 0x3FF07C7 d c sl w v s → ∃ u, exec (.vcvt d c sl w) s = .next (setVe s d c sl u)
      ∧ VeElems ty (fD w) (fun i =>
        if ty = 0 ∧ src ≠ 0 then (if i ∈ active v 0 (fMK w)
          then some (widen (tyFmt src) (elem v src (fA w) (128 * fld w 2 1 + i))).toNat else none)
        else if src = 0 ∧ ty ≠ 0 then (if 128 * fld w 2 1 ≤ i ∧ i - 128 * fld w 2 1 ∈ active v 0 (fMK w)
          then some (narrow (tyFmt ty) (lane v (fA w) (i - 128 * fld w 2 1))) else none)
        else if i ∈ active v ty (fMK w)
          then some (pack (tyFmt ty) (unpack (tyFmt src) (elem v src (fA w) i))) else none) v u)
  ∧ (∀ (s s1 : State) (d c sl ty : Nat) (w : W32) (v : Ve) (vals : List Nat) (errs : List (Nat × Nat)) (addr : Nat → W32)
      (els : List Nat), ty = fTY w → els = active v ty (fMK w) → veAddrBad s d c sl (tyBytes ty) (els.map addr) = none →
    veReads d c sl (tyBytes ty) (els.map addr) (applyErrs errs s) = (vals, false, s1) →
    (VeAt 8 0x3FE07C0 d c sl w v s → ty ≠ 3 → addr = seqAddr w v →
      ∃ u, exec (.vld d c sl w errs) s = .next (setVe s1 d c sl u)
        ∧ VeElems ty (fD w) (fun i => (els.zip vals).lookup i) (vePi w v) u)
    ∧ (VeAt 0xA 0x3FEFFC0 d c sl w v s → ty = 0 → addr = idxAddr w v →
      ∃ u, exec (.vldx d c sl w errs) s = .next (setVe s1 d c sl u)
        ∧ VeElems 0 (fD w) (fun i => (els.zip vals).lookup i) (vePi w v) u)
    ∧ (VeAt 0xC 0x3FE07C0 d c sl w v s → ty ≠ 3 → (∀ i, addr i = vaOf v (fVA w)) →
      ∃ u, exec (.vldb d c sl w errs) s = .next (setVe s1 d c sl u)
        ∧ VeElems ty (fD w) (fun i => (els.zip vals).lookup i) (vePi w v) u))
  ∧ (∀ (s : State) (d c sl ty : Nat) (w : W32) (v : Ve) (addr : Nat → W32) (els : List Nat), ty = fTY w →
    els = active v ty (fMK w) → veAddrBad s d c sl (tyBytes ty) (els.map addr) = none →
    (VeAt 9 0x3FE07C0 d c sl w v s → ty ≠ 3 → addr = seqAddr w v →
      exec (.vst d c sl w) s = .next (setVe (veWrites d c sl (tyBytes ty) (els.map fun i =>
        (addr i, elem v ty (fD w) i)) s) d c sl (veNext (vePi w v))))
    ∧ (VeAt 0xB 0x3FEFFC0 d c sl w v s → ty = 0 → addr = idxAddr w v →
      exec (.vstx d c sl w) s = .next (setVe (veWrites d c sl (tyBytes ty) (els.map fun i =>
        (addr i, elem v ty (fD w) i)) s) d c sl (veNext (vePi w v)))))
  ∧ (∀ (s s0 : State) (d c sl k b e len n ho bo wo : Nat) (w : W32) (v : Ve) (errs : List (Nat × Nat)) (j : Job) (x : Tensor)
      (hdr : List Byte) (s1 : State), VeAt 0x1D 0x3FFFE00 d c sl w v s → s0 = applyErrs errs s → ctxJob s0 sl = some j →
    tensorOn j d v.tid = some x → isB x.format = true → x.cls ≠ 5 → k = (vaOf v (fld w 15 3)).toNat → n = fld w 9 3 + 1 →
    len = seqLen v n → b = (len + 31) / 32 → e = blockBytes x.format → k + b ≤ 64 → blkOn s0 (baseWAT d c) = true →
    fD w + n ≤ 32 → (vaOf v (fld w 12 3)).toNat % 4 = 0 → (x.format = 2 → (vaOf v (fVA w)).toNat % 2 = 0) →
    veAddr s0 d c sl (vaOf v (fVA w) + BitVec.ofNat 32 (k / 2)) ((k + b + 1) / 2 - k / 2) = some ho →
    veAddr s0 d c sl (vaOf v (fVA w) + BitVec.ofNat 32 (32 + k * e)) (b * e) = some bo →
    veAddr s0 d c sl (vaOf v (fld w 12 3)) 4 = some wo →
    memRead (slotRealm s0 sl) ho ((k + b + 1) / 2 - k / 2) s0 = (hdr, false, s1) →
    exec (.vqnt d c sl w errs) s = .next (
      let blocks := blocksOf b ((List.range len).map fun i =>
        some (lane v (fD w + i / 128) (i % 128), Config.vqntBase (vaOf v (fVA w)).toNat k + i))
      match quantTile (magBits x.format) (opScale x (inForce j x) (magBits x.format) (tileVals blocks)) (stochOf j x)
          (satLimit s0 d c sl) blocks with
      | .failed _ _ => veFault d c sl 7 (recomputeFailed d c sl x.tid s0)
      | .written bs scale cnt retry =>
        setVe (quantCount d c sl x.tid scale cnt retry
          (memWrite (slotRealm s0 sl) wo (leBytes 4 scale.toNat)
            (memWrite (slotRealm s0 sl) bo (bs.flatMap fun y => packElems x.format y.2)
              (memWrite (slotRealm s0 sl) ho (putNibbles hdr k (bs.map (·.1))) s1)))) d c sl (veNext v)))
  ∧ (∀ (s s0 s1 s2 s3 : State) (d c sl k b e len n ho bo wo : Nat) (w : W32) (v : Ve) (errs : List (Nat × Nat)) (j : Job)
      (x : Tensor) (hdr body sc : List Byte), VeAt 0x1E 0x3FFFE00 d c sl w v s → s0 = applyErrs errs s →
    ctxJob s0 sl = some j → tensorOn j d v.tid = some x → isB x.format = true → k = (vaOf v (fld w 15 3)).toNat →
    n = fld w 9 3 + 1 → len = seqLen v n → b = (len + 31) / 32 → e = blockBytes x.format → k + b ≤ 64 → fD w + n ≤ 32 →
    (vaOf v (fld w 12 3)).toNat % 4 = 0 → (x.format = 2 → (vaOf v (fVA w)).toNat % 2 = 0) →
    veAddr s0 d c sl (vaOf v (fVA w) + BitVec.ofNat 32 (k / 2)) ((k + b + 1) / 2 - k / 2) = some ho →
    veAddr s0 d c sl (vaOf v (fVA w) + BitVec.ofNat 32 (32 + k * e)) (b * e) = some bo →
    veAddr s0 d c sl (vaOf v (fld w 12 3)) 4 = some wo →
    memRead (slotRealm s0 sl) ho ((k + b + 1) / 2 - k / 2) s0 = (hdr, false, s1) →
    memRead (slotRealm s0 sl) bo (b * e) s1 = (body, false, s2) → memRead (slotRealm s0 sl) wo 4 s2 = (sc, false, s3) →
    ∃ u, exec (.vdq d c sl w errs) s = .next (setVe s3 d c sl u) ∧ u = { veNext v with v := u.v }
      ∧ ∀ r < 32, ∀ l < 128, lane u r l = if fD w ≤ r ∧ 128 * (r - fD w) + l < len
        then decodeElem (magBits x.format) (unpackElem 0 hdr ((128 * (r - fD w) + l) / 32 + k % 2)) (BitVec.ofNat 32 (leNat sc))
          (unpackElem x.format (slice body ((128 * (r - fD w) + l) / 32 * e) e) (l % 32))
        else lane v r l)
  ∧ (∀ (s : State) (d c sl tid tbl i m : Nat) (tag : W16) (w : W32) (v : Ve) (j : Job), VeAt 0x1F 0x1F0000 d c sl w v s →
    ctxJob s sl = some j → j.adm.lossTid = some tid → (ccc s d c sl).task = some (tbl, i, m, tag) →
    exec (.vloss d c sl w) s = .next (setVe (lossPost sl
      { m, die := d, cluster := c, value := lane v (fA w) 0, task := (tbl, i) }
      (watCount d c sl tid (drnCounts [lane v (fA w) 0]) 0 s)) d c sl (veNext v)))

/-- Cluster DMA transfers (R234, R235, R237, R240). The first transfer of a queue starts when its cluster runs; with a
source in this module its rows are copied, or converted, in order at once; with a source on another chip it first asks
for the bytes. A row that meets a cause ends the context in DMA_FAULT. A moved transfer leaves its queue when no request
of it is outstanding.
Aborted and stalled steps (R258, R259, R265, R335). A task that reaches its bound is logged, its context stops and the
step is aborted; after the last running instance the abort is reported and the step is gone; the quiet time of an
aborted job ends; a step in which nothing moves for STALL_MS is aborted after STEP_STALLED. -/
def Obligations.TransfersRunAndStepsTimeOut : Prop :=
  ((∀ (s s1 : State) (d c sl qn : Nat) (x y : Xfer) (rest : List Xfer) (errs : List (Nat × Nat)),
     (if qn = 0 then (dma s d c sl).q0 else (dma s d c sl).q1) = x :: rest → x.running = false → clocksRun s = true →
     domOn s (quadDom d c) = true → blkOn s (baseCLU d c) = true → y = { x with running := true, moved := false, got := [] } →
     s1 = dmaSetHead d c sl qn y (txnsDrop (dmaWho d c sl qn) (applyErrs errs s)) →
     (quantBars s1 d c sl y = true → exec (.dmaTransferStart d c sl qn errs) s = .next (dmaFault d c sl qn 5 s1))
     ∧ (quantBars s1 d c sl y = false → dmaRemote s1 y = [] → txnsOf s1 (dmaWho d c sl qn) = [] → x.sfmt = x.dfmt →
       exec (.dmaTransferStart d c sl qn errs) s = .next (
         match runAll (List.range x.rows) (rowCopy d c sl qn y) s1 with
         | (s2, none) => dmaSetHead d c sl qn { y with moved := true } s2
         | (s2, some cause) => dmaFault d c sl qn cause s2))
     ∧ (quantBars s1 d c sl y = false → dmaRemote s1 y = [] → txnsOf s1 (dmaWho d c sl qn) = [] → x.sfmt ≠ x.dfmt →
       exec (.dmaTransferStart d c sl qn errs) s = .next (
         match runAll (List.range x.rows) (rowConvert d c sl qn y) s1 with
         | (s2, none) => dmaSetHead d c sl qn { y with moved := true } s2
         | (s2, some cause) => dmaFault d c sl qn cause s2)))
   ∧ (∀ (s : State) (d c sl qn : Nat) (x : Xfer) (rest : List Xfer), qn < 2 →
     (if qn = 0 then (dma s d c sl).q0 else (dma s d c sl).q1) = x :: rest → x.running = true → x.moved = true →
     clocksRun s = true → txnsOf s (dmaWho d c sl qn) = [] →
     exec (.dmaTransferDone d c sl qn) s = .next (setDma s d c sl (
       if qn = 0 then { dma s d c sl with q0 := rest } else { dma s d c sl with q1 := rest }))))
  ∧ ((∀ (s : State) (d c sl tbl i m : Nat) (tag : W16), (ccc s d c sl).task = some (tbl, i, m, tag) →
     (ccc s d c sl).faulted = false → blkOn s (baseDSC d) = true → clocksRun s = true →
     exec (.taskTimeout d c sl) s = .next (cccReport d c sl .faulted (ctxAbort sl
       (logCtx 0x3008 sl (resCluster d c) [dw tag.toNat, dw m] (stopCtx d c sl s)))))
   ∧ (∀ (s : State) (d c sl tbl i m : Nat) (tag : W16) (j : Job) (st : Sys2Proof.Machine.Step),
     (ccc s d c sl).task = some (tbl, i, m, tag) → tbl < 2 → (ccc s d c sl).faulted = false → blkOn s (baseDSC d) = true →
     clocksRun s = true → sl < 2 → jobAt s sl = some j → j.step = some st → j.sol = .none → j.aborting = false →
     ∃ u, exec (.taskTimeout d c sl) s = .next u ∧ (ccc u d c sl).task = none ∧ (ve u d c sl).run = false
       ∧ (∃ j', jobAt u sl = some j' ∧ j'.state = .held ∧ j'.aborting = true ∧ j'.sigDrop = true))
   ∧ (∀ (s : State) (sl : Nat) (j : Job) (st : Sys2Proof.Machine.Step), jobAt s sl = some j → j.step = some st →
     j.aborting = true → anyRunning st = false →
     (j.withdraw = false → j.deferred = [] → ∃ u, exec (.stepAbortReported sl) s = .next u
       ∧ (∃ j', jobAt u sl = some j' ∧ j'.step = none ∧ j'.aborting = false ∧ j'.quietFrom = some (rtNow s)
         ∧ j'.state = j.state ∧ j'.stepNo = j.stepNo)
       ∧ u = { s with jobA := u.jobA, jobB := u.jobB, mem := u.mem, srm := u.srm })
     ∧ exec (.stepAbortReported sl) s = .next (
       let s2 := finishDeferred sl false (stashRelease sl (setJobAt s sl (some { j with
         step := none, aborting := false, quietFrom := some (rtNow s) })))
       if j.withdraw = true then withdrawJob sl s2 else s2))
   ∧ (∀ (s : State) (sl : Nat) (j : Job) (q : W64), jobAt s sl = some j → j.quietFrom = some q →
     exec (.abortQuietEnd sl) s = .next (setJobAt s sl (some { j with
       quietFrom := none, startAt := if j.pair.isSome = true then some (rtNow s) else j.startAt })))
   ∧ (∀ (s : State) (sl : Nat) (j : Job) (st : Sys2Proof.Machine.Step), sl < 2 → jobAt s sl = some j → j.step = some st →
     j.aborting = false → j.adm.stallMs ≠ 0 → anyRunning st = false → colMoves s sl = false →
     (j.sol = .none ∨ j.sol = .closing) →
     ∃ u, exec (.stepStallLimit sl) s = .next u
       ∧ (∃ j', jobAt u sl = some j' ∧ j'.state = .held ∧ j'.aborting = true ∧ j'.sol = .none)
       ∧ u.sec = s.sec ∧ u.out = s.out ∧ u.cmp = s.cmp ∧ u.scb = s.scb))

/-- The die scheduler (R255, R256, R258, R260, R261, R263, R311). An instance that is ready, and that no earlier one
precedes, takes its waits and starts in its context with its entry, tag and arguments. A signal of the running step adds
its amount to its entry, one of the next step is held back, and one that would pass 65,535 or belongs to another step is
a TOKEN_FAULT. Released signals leave for their dies. A finished task is counted and owes its signals. -/
def Obligations.InstancesAndTokens : Prop :=
  (∀ (s : State) (sl tbl i m c : Nat) (j : Job) (st : Sys2Proof.Machine.Step) (t : Task), jobAt s sl = some j → tbl < 2 →
    j.step = some st → ctxDesc s sl tbl i = some t → instReady s sl tbl i m = true → instBefore s sl tbl i m t j = false →
    physOf j t.die t.lcluster = some c →
    (stashChecked j st t m = true → stashNeed s t.die sl m ≤ stashRoom s t.die sl) →
    ∃ u, exec (.instanceDispatch sl tbl i m) s = .next u
      ∧ ccc u t.die c sl = { task := some (tbl, i, m, t.tag), pc := t.entry, s := (ccc u t.die c sl).s }
      ∧ (∀ k < 8, tget 0 (ccc u t.die c sl).s (k + 1) =
          if t.idleArg = true ∧ k = 7 then dw (idleArgOf s j t.die) else argAt t m k)
      ∧ u.scb = t.waits.foldl (fun b w => tmod 0 b (tokenKey t.die sl w m) (· - w.amount)) s.scb
      ∧ (∃ j' st', jobAt u sl = some j' ∧ j'.step = some st' ∧ instOf st' tbl i m = .running ∧ j'.progress = rtNow s)
      ∧ u = { s with cmp := { s.cmp with ccc := u.cmp.ccc }, scb := u.scb, jobA := u.jobA, jobB := u.jobB, mgt := u.mgt })
  ∧ (∀ (s : State) (sl tbl i m : Nat), (instReady s sl tbl i m = false) → exec (.instanceDispatch sl tbl i m) s = .next s)
  ∧ (∀ (s : State) (sl tbl i m : Nat) (j : Job) (st : Sys2Proof.Machine.Step) (t : Task), jobAt s sl = some j → tbl < 2 →
    j.step = some st → ctxDesc s sl tbl i = some t → instReady s sl tbl i m = true → instBefore s sl tbl i m t j = false →
    stashChecked j st t m = true → stashRoom s t.die sl < stashNeed s t.die sl m →
    exec (.instanceDispatch sl tbl i m) s = .next (deepSwitch sl (logJob 0x2004 j (resDie t.die) [dw m]
      (setJobAt s sl (some { j with step := some { st with stashFull := st.stashFull ++ [(t.die, m)] } })))))
  ∧ (∀ (s : State) (i : Nat) (g : Sig) (j : Job), s.fab.sigs[i]? = some g → scbServes s g.die = true → g.fill = false →
    jobAt s g.slot = some j → j.sigDrop = false →
    (g.step = BitVec.ofNat 8 (curStep s g.slot).toNat →
      scbCount s (4096 * g.die + 2048 * g.slot + g.entry) + g.amount ≤ 65535 →
      exec (.signalApply i) s = .next { s with
        scb := tmod 0 s.scb (4096 * g.die + 2048 * g.slot + g.entry) (· + g.amount)
        fab := { s.fab with sigs := s.fab.sigs.eraseIdx i } })
    ∧ (g.step ≠ BitVec.ofNat 8 (curStep s g.slot).toNat → g.step = BitVec.ofNat 8 ((curStep s g.slot).toNat + 1) →
      pendCount s g.die g.slot < 256 →
      exec (.signalApply i) s = .next { s with
        dsc := tmod {} s.dsc g.die (fun x => { x with pend := x.pend ++ [(g.slot, g.entry, g.amount, g.step)] })
        fab := { s.fab with sigs := s.fab.sigs.eraseIdx i } })
    ∧ ((if g.step = BitVec.ofNat 8 (curStep s g.slot).toNat
          then 65535 < scbCount s (4096 * g.die + 2048 * g.slot + g.entry) + g.amount
          else g.step ≠ BitVec.ofNat 8 ((curStep s g.slot).toNat + 1)) →
      ∃ u, exec (.signalApply i) s = .next u ∧ u = { tokenFault g s with
          fab := { (tokenFault g s).fab with sigs := (tokenFault g s).fab.sigs.eraseIdx i } }))
  ∧ (∀ (s : State) (sl tbl i m : Nat), exec (.instanceSignalRelease sl tbl i m) s = .next { s with fab := { s.fab with
      sigs := s.fab.sigs ++ s.fab.owed.filter (fun g => g.src == (tbl, i, m) && g.slot == sl)
      owed := s.fab.owed.filter (fun g => !(g.src == (tbl, i, m) && g.slot == sl)) } })
  ∧ (∀ (s : State) (d c sl tbl i m : Nat) (tag : W16) (x : Ccc) (t : Task) (j : Job) (st : Sys2Proof.Machine.Step),
    ccc s d c sl = x → x.task = some (tbl, i, m, tag) → tbl < 2 → x.faulted = false → x.stall = some .ending →
    agentsDone s d c sl = true → clocksRun s = true → blkOn s (baseCCC d c) = true → ctxDesc s sl tbl i = some t →
    jobAt s sl = some j → j.step = some st →
    ∃ u, exec (.clusterTaskDone d c sl) s = .next u
      ∧ (ccc u d c sl).task = none ∧ (ccc u d c sl).stall = none
      ∧ u.fab = { s.fab with
          owed := s.fab.owed ++ t.sigs.map (fun r =>
            sigOf d sl r m (BitVec.ofNat 8 (curStep s sl).toNat) false (tbl, i, m)) }
      ∧ (tget {} u.dsc d).doneA = (if sl = 0 then inc32 (tget {} s.dsc d).doneA 1 else (tget {} s.dsc d).doneA)
      ∧ (∃ j' st', jobAt u sl = some j' ∧ j'.step = some st' ∧ instOf st' tbl i m = .done)
      ∧ u.scb = s.scb ∧ u.sec = s.sec ∧ u.rtb = s.rtb ∧ u.out = s.out)

/-- Steps begin and halves turn (R175, R196, R264, R266, R269, R271, R272, R273, R274, R335). A step takes the next number
with its scales and start time, its scoreboard entries go to their initial counts but for those that persist, and its
watchers are cleared. At an Equinox every die whose ending phases are complete and whose cores are idle exchanges the
halves of the slots and reassigns the cores; a die that is not ready owes the turn and takes it when it is. A lone job
turns by itself at the end of its phase. -/
def Obligations.StepsBeginAndHalvesTurn : Prop :=
  (∀ (s : State) (sl : Nat) (j : Job), sl < 2 → j.slot = sl → jobAt s sl = some j → mayBegin s sl j = true →
    (∀ d l c, physOf j d l = some c → clusterUsable s d c = true) →
    (∀ d < 8, ∀ e ∈ (tget {} s.dsc d).pend, e.1 ≠ sl) → (∀ d, (tokensOf j.main d).length ≤ 2048) →
    ∃ u, exec (.stepBegin sl) s = .next u
      ∧ jobAt u sl = some { j with
          step := some { num := j.stepNo + 1, startRt := rtNow s, scales := stepScales j,
                         rxFlag := earlyNf s sl j.realm (j.stepNo + 1) }
          state := .inStep, budget := j.budget.map (· - 1), startAt := none, sigDrop := false, progress := rtNow s }
      ∧ (∀ d ∈ jobDies j, ∀ i < 2048, scbCount u (4096 * d + 2048 * sl + i) =
          if ((tokensOf j.main d).getD i (0, false)).2 = true then scbCount s (4096 * d + 2048 * sl + i)
          else ((tokensOf j.main d).getD i (0, false)).1)
      ∧ (∀ d ∈ jobDies j, ∀ c < 48, ∀ tid < 256, tget {} u.cmp.wat (256 * ctxKey d c sl + tid) = {})
      ∧ u = { s with jobA := u.jobA, jobB := u.jobB, scb := u.scb, dsc := u.dsc, cmp := u.cmp, fab := u.fab, doms := u.doms })
  ∧ (∀ (s : State) (sl : Nat) (j : Job), jobAt s sl = some j → mayBegin s sl j = false → exec (.stepBegin sl) s = .next s)
  ∧ (∀ (s : State) (p : W64 × Nat × Nat), pairOf s = some p →
    (∀ sl < 2, ∃ j, jobAt s sl = some j ∧ j.pair.isSome = true) →
    (∀ d ∈ pairDies s, dscServes s d = true ∧ coresIdle s d = true ∧ (tget {} s.dsc d).late = none
      ∧ ∃ t, (tget {} s.dsc d).eqx = some t ∧ t.toNat ≤ (rtNow s).toNat
        ∧ lateSlots s d (tget {} s.dsc d).eqxNo t.toNat = 0) →
    ∃ u, exec .equinoxTurn s = .next u
      ∧ (∀ d ∈ pairDies s, ∀ k, k = (tget {} s.dsc d).eqxNo →
        halfOf u d (k % 2) = 1 ∧ halfOf u d (1 - k % 2) = 2
        ∧ (tget {} u.dsc d).eqx = some (dw (equinoxAt p (k + 1))) ∧ (tget {} u.dsc d).eqxNo = k + 1
        ∧ (tget {} u.dsc d).eqxCount = inc32 (tget {} s.dsc d).eqxCount 1 ∧ (tget {} u.dsc d).late = none
        ∧ (tget {} u.dsc d).missed = false ∧ (tget {} u.dsc d).lateCount = (tget {} s.dsc d).lateCount
        ∧ ∀ c < 48, ∀ i < 25, core u d c i = assign (roleOf s (ratioOf s) d c i) (k % 2) (1 - k % 2) (core s d c i))
      ∧ u = { s with dsc := u.dsc, cmp := { s.cmp with core := u.cmp.core }, rtb := u.rtb })
  ∧ (∀ (s : State) (p : W64 × Nat × Nat) (d : Nat) (x : Dsc) (t : W64), pairOf s = some p → pairDies s = [d] →
    dscServes s d = true → tget {} s.dsc d = x → x.eqx = some t → t.toNat ≤ (rtNow s).toNat → x.late = none →
    (lateSlots s d x.eqxNo t.toNat ≠ 0 ∨ coresIdle s d = false) →
    exec .equinoxTurn s = .next (dropE0 { s with dsc := tset {} s.dsc d { x with
      eqx := some (dw (equinoxAt p (x.eqxNo + 1))), eqxNo := x.eqxNo + 1, late := some t
      lateMask := lateSlots s d x.eqxNo t.toNat } }))
  ∧ (∀ (s : State) (d : Nat) (x : Dsc) (l : W64), tget {} s.dsc d = x → x.late = some l → dscServes s d = true →
    (coresIdle s d = true → x.missed = true → exec (.lateTurn d) s = .next (takeTurn d (x.eqxNo - 1) s))
    ∧ (coresIdle s d = true → x.missed = false → lateSlots s d (x.eqxNo - 1) l.toNat = 0 →
      exec (.lateTurn d) s = .next (takeTurn d (x.eqxNo - 1)
        (logMod 0x3002 (resDie d) [dw x.lateMask, dw ((rtNow s).toNat - l.toNat), 0]
          { s with dsc := tset {} s.dsc d { x with lateCount := inc32 x.lateCount 1 } })))
    ∧ (coresIdle s d = true → x.missed = false → lateSlots s d (x.eqxNo - 1) l.toNat ≠ 0 → exec (.lateTurn d) s = .next s)
    ∧ (coresIdle s d = false → exec (.lateTurn d) s = .next s))
  ∧ (∀ (s : State) (d sl half : Nat) (j : Job) (st : Sys2Proof.Machine.Step), loneSlot s = some sl → jobAt s sl = some j →
    j.step = some st → d ∈ jobDies j → dscServes s d = true → coresIdle s d = true → j.adm.idle = 0 →
    halfOf s d sl = half → (half = 1 ∨ half = 2) → (∀ q < 4, (dom s (8 * d + q)).gated = false) →
    (half = 1 → j.aborting = false ∧ d ∉ st.turned ∧ phaseDone j st d 1 = true) →
    (half = 2 → j.aborting = true ∨ phaseDone j st d 2 = true) →
    ∃ u, exec (.loneTurn d) s = .next u
      ∧ jobAt u sl = some { j with step := some { st with turned := if half = 1 then st.turned ++ [d] else st.turned } }
      ∧ halfOf u d sl = 3 - half ∧ halfOf u d (1 - sl) = halfOf s d (1 - sl)
      ∧ (tget {} u.dsc d).eqxCount = inc32 (tget {} s.dsc d).eqxCount 1
      ∧ (∀ c < 48, ∀ i < 25, core u d c i = assign (roleOf s j.adm.ratio d c i) sl sl (core s d c i))
      ∧ u = { s with jobA := u.jobA, jobB := u.jobB, dsc := u.dsc, cmp := { s.cmp with core := u.cmp.core } })

/-- The closing round and Solstice (R176, R207, R277, R327, R328, R329, R330, R332, R333, R437). When every instance of a
step is done its closing round starts; its end sets the aggregate flag. A step whose flag is set is skipped with its
histories updated; else a BEGIN record is written, the solstice phase runs, the histories, the EMA and the step
number are updated, an END record is written and the step ends as committed. -/
def Obligations.ClosingRoundAndSolstice : Prop :=
  (∀ (s : State) (sl : Nat) (j : Job) (st : Sys2Proof.Machine.Step), jobAt s sl = some j → j.step = some st →
    j.sol = .none → j.aborting = false → colServes s (lowDie j) = true →
    (∀ x ∈ stepInsts j st (fun t => t.phase == 1 || t.phase == 2 || t.phase == 3), instOf st x.1 x.2.1 x.2.2 = .done) →
    (consensusOf j = [] → s.fab.early = [] → tget none st.closeRx st.closeRound = none →
      exec (.closingRoundStart sl) s = .next (setJobAt s sl (some { j with
        sol := .closing
        step := some { st with closeOwn := rtNow s, closeLatest := laterStamp st.closeLatest (rtNow s, ownChip s, lowDie j) } })))
    ∧ (consensusOf j ≠ [] → rankOf s (consensusOf j) (lowDie j) sl = none →
      exec (.closingRoundStart sl) s = .next (colFault (lowDie j) sl 0xFFFF 0 1 (setJobAt s sl (some { j with
        sol := .closing
        step := some { st with
          closeOwn := rtNow s, closeLatest := laterStamp st.closeLatest (rtNow s, ownChip s, lowDie j) } })))))
  ∧ (∀ (s s1 : State) (sl : Nat) (j j1 : Job) (st : Sys2Proof.Machine.Step) (agg : Bool), jobAt s sl = some j →
    j.step = some st → j.sol = .closing → rounds (consensusOf j).length ≤ st.closeRound →
    agg = (st.localFlag || st.rxFlag) →
    j1 = { j with state := .solstice, sol := .gate agg, step := some { st with aggFlag := agg } } →
    s1 = barrierLog j 2 0xFFFF (max 1 (consensusOf j).length) st.num st.closeOwn st.closeLatest (setJobAt s sl (some j1)) →
    (gateHolds s j = true → agg = false → exec (.closingRoundDone sl) s = .next s1)
    ∧ (gateHolds s j = false → exec (.closingRoundDone sl) s = .next (logJob 0x3001 j1 0 [] s1))
    ∧ (gateHolds s j = true → agg = true → j.deferred = [] → j.withdraw = false →
      ∃ u, exec (.closingRoundDone sl) s = .next u ∧ ∃ j', jobAt u sl = some j' ∧ j'.step = none ∧ j'.sol = .none
        ∧ j'.stepNo = j.stepNo ∧ j'.ema = j.ema ∧ j'.hist = histAppend s j (gatheredStep s j st)
        ∧ j'.state = (if j.holdNext = true ∨ j.budget = some 0 then .held else .started)
        ∧ (∃ m, j'.summary = some m ∧ m.outcome = 2 ∧ m.step = st.num ∧ m.aggFlag = true)
        ∧ u.flash = s.flash ∧ u.sec = s.sec ∧ u.out = s.out))
  ∧ (∀ (s : State) (sl : Nat) (j : Job) (st : Sys2Proof.Machine.Step), jobAt s sl = some j → j.step = some st →
    (j.sol = .gate false → gateHolds s j = true → exec (.solsticeGatePass sl) s =
      .next (setJobAt s sl (some { j with sol := .begun (rtNow s), step := some (gatheredStep s j st) })))
    ∧ (∀ skip, j.sol = .gate skip → gateHolds s j = false → exec (.solsticeGatePass sl) s = .next s)
    ∧ (∀ t, j.sol = .begun t → cpRuns s = true → exec (.beginRecordProgrammed sl) s = .next (setJobAt { s with
        flash := { s.flash with
          journal := (Journal.begin j.realm j.id st.num t (dw s.flash.journalNo) :: s.flash.journal).take 32768
          journalNo := s.flash.journalNo + 1 } } sl (some { j with sol := .run })))
    ∧ (∀ t, j.sol = .begun t → cpRuns s = false → exec (.beginRecordProgrammed sl) s = .next s))
  ∧ (∀ (s : State) (sl : Nat) (j : Job) (st : Sys2Proof.Machine.Step), jobAt s sl = some j → j.step = some st → j.sol = .run →
    clocksRun s = true →
    (∀ x ∈ stepInsts j st (fun t => t.phase == 4), instOf st x.1 x.2.1 x.2.2 = .done) →
    ∃ u, exec (.solsticePhaseDone sl) s = .next u
      ∧ jobAt u sl = some { j with
          sol := .ending, hist := histAppend s j st, ema := emaNext j st, stepNo := j.stepNo + 1 }
      ∧ (openBegin s.flash.journal j.realm j.id st.num = true → s.rel.restarting = false → s.rel.held = false →
          domOn s 72 = true → u.flash.journal =
            (Journal.done false j.realm j.id st.num (rtNow s) (dw s.flash.journalNo) :: s.flash.journal).take 32768)
      ∧ u = { s with jobA := u.jobA, jobB := u.jobB, flash := u.flash })
  ∧ (∀ (s : State) (sl : Nat) (j : Job) (st : Sys2Proof.Machine.Step), jobAt s sl = some j → j.step = some st →
    j.sol = .ending → openBegin s.flash.journal j.realm j.id st.num = false → j.deferred = [] → j.withdraw = false →
    ∃ u, exec (.endRecordProgrammed sl) s = .next u ∧ ∃ j', jobAt u sl = some j' ∧ j'.step = none ∧ j'.sol = .none
      ∧ j'.stepNo = j.stepNo ∧ j'.ema = j.ema ∧ j'.hist = j.hist
      ∧ j'.state = (if j.holdNext = true ∨ j.budget = some 0 then .held else .started)
      ∧ (∃ m, j'.summary = some m ∧ m.outcome = 1 ∧ m.step = st.num ∧ m.loss = st.loss)
      ∧ (pushesDue s sl j = [] → j'.pushes = j.pushes ∧ u.scb = s.scb)
      ∧ u.flash = s.flash ∧ u.sec = s.sec ∧ u.out = s.out ∧ u.cmp = s.cmp)
  ∧ (∀ (s : State) (sl : Nat) (j : Job) (st : Sys2Proof.Machine.Step), jobAt s sl = some j → j.step = some st →
    j.sol = .ending → openBegin s.flash.journal j.realm j.id st.num = true → cpRuns s = false →
    exec (.endRecordProgrammed sl) s = .next s)

/-- SRAM writes (R288). A write by a realm sets the tag of every line that it touches to that realm and makes the line
valid; the bytes written hold the data; every other byte of a word or of a valid line is as before, a word written in part whose
error is correctable keeping its corrected bytes, and the rest of a line that was invalid reads zero, given that an
invalid line lists no byte. No word that is written keeps its error. -/
def Obligations.SramWritesTagTheirLines : Prop :=
  ∀ (s t : State) (r off : Nat) (data : List Byte), t = sramWrite r off data s → data ≠ [] →
    (∀ l, off / 32 ≤ l → l ≤ (off + data.length - 1) / 32 → tget none t.mem.line l = some r)
    ∧ (∀ l, (l < off / 32 ∨ (off + data.length - 1) / 32 < l) → tget none t.mem.line l = tget none s.mem.line l)
    ∧ (∀ i < data.length, sramByte t r (off + i) = data.getD i 0)
    ∧ (∀ w, off / 8 ≤ w → w ≤ (off + data.length - 1) / 8 → tget 0 t.mem.sramEcc w = 0)
    ∧ (∀ w a x, a / 8 = w → (a < off ∨ off + data.length ≤ a) → off / 8 ≤ w → w ≤ (off + data.length - 1) / 8 →
        (tget none s.mem.line (w / 4)).isSome = true → sramFound s w = (.correctable, x) →
        sramByte t r a = x.extractLsb' (8 * (a % 8)) 8)
    ∧ (∀ a, off / 32 ≤ a / 32 → a / 32 ≤ (off + data.length - 1) / 32 → (a < off ∨ off + data.length ≤ a) →
        tget none s.mem.line (a / 32) = none → tget 0 s.mem.sram a = 0 → sramByte t r a = 0)
    ∧ (∀ q a, q ≠ r → off / 32 ≤ a / 32 → a / 32 ≤ (off + data.length - 1) / 32 → sramByte t q a = 0)
    ∧ (tget 0 s.mem.sramEcc (off / 8) = 0 → tget 0 s.mem.sramEcc ((off + data.length - 1) / 8) = 0 →
        (∀ a, (a < off ∨ off + data.length ≤ a) → tget 0 t.mem.sram a = tget 0 s.mem.sram a)
        ∧ t = { s with mem := { s.mem with sram := t.mem.sram, line := t.mem.line, sramEcc := t.mem.sramEcc } })

/-- LPDDR5X, patrols and remote requests (R298, R300, R301, R303, R313, R314, R322). What is written reads back, and
nothing else changes. Patrols ask for their lock, rewrite corrected granules and give the lock back; lost tracking makes a
channel Failing. A request that fails a check does nothing but be logged and refused; one that passes them reads or writes
and is answered; a refused write of this chip's own to a closed PERSIST region aborts the step. -/
def Obligations.MemoryIsScrubbedAndServed : Prop :=
  (∀ (s t : State) (off : Nat) (data : List Byte), t = lpxWrite off data s →
    (∀ i < data.length, lpxByte t (off + i) = data.getD i 0)
    ∧ (∀ a, (a < off ∨ off + data.length ≤ a) → lpxByte t a = lpxByte s a)
    ∧ t = { s with mem := { s.mem with lpx := t.mem.lpx, lpxEcc := t.mem.lpxEcc } })
  ∧ (∀ (s : State) (d : Nat), d < dies s → domOn s (8 * d + 7) = true → cpRuns s = true →
    exec (.lpxScrubSchedule d) s = .next (askLock 1 (resDie d) s))
  ∧ (∀ (s : State) (d i : Nat), i < 5 → (stack s (5 * d + i)).scrub = true → cpRuns s = true →
    exec (.patrolDone d []) s = .next (
      let s2 := ((badGranules s d).filter fun g =>
        (List.range 5).any fun k => (stack s (5 * d + k)).scrub && k == (rawPlace s d (64 * g % 0x4000000000)).1 % 5).foldl
          patrolGranule s
      let s3 := setScrub (resDie d) false s2
      (heldLocks s3).foldl (fun t e =>
        if e.2.cls = 1 ∧ e.2.host = false ∧ e.2.res = resDie d then lockDrop e.1 t else t) s3))
  ∧ (∀ (s : State) (g : Nat), granuleEcc (tget 0 s.mem.lpxEcc g) = .correctable →
    tget 0 (patrolGranule s g).mem.lpxEcc g = 0)
  ∧ (∀ (s : State) (n q : Nat), domOn s (8 * (n / 5) + 7) = true →
    exec (.wckTrackingLost n q) s = .next (
      if tget .present (stack s n).chans q = .present
      then logMod 0x2006 (resChan n q) [2] (setStack s n { stack s n with
        chans := tset .present (stack s n).chans q .failing })
      else if tget .present (stack s n).chans q = .armed ∧ q ∉ (stack s n).alsoFailing
      then logMod 0x2006 (resChan n q) [2] (setStack s n { stack s n with alsoFailing := q :: (stack s n).alsoFailing })
      else s))
  ∧ (∀ (s : State) (chip sl realm off len k : Nat) (wr : Bool) (data : List Byte), dfbGrants s off = true →
    isOwn s chip = false → (∀ o, placeOf s off ≠ .window o) →
    refusal (.remote chip) realm wr (behind s (.remote chip) realm off (if wr = true then data.length else len)) s = some k →
    ∃ t, exec (.remoteRequest chip sl realm wr off len data []) s = .next (emit (.packet (answerPacket s chip 0 (.nack k))) t)
      ∧ t = remoteDenied chip off k s ∧ t = { s with mgt := t.mgt })
  ∧ (∀ (s : State) (chip sl realm off len : Nat) (data : List Byte), dfbGrants s off = true → isOwn s chip = false →
    behind s (.remote chip) realm off data.length = [(off, data.length)] →
    checkRange realm (.remote chip) true off data.length s = none →
    exec (.remoteRequest chip sl realm true off len data []) s = .next (emit (.packet (answerPacket s chip 0 .ack))
      (memWrite realm off data s)))
  ∧ (∀ (s t : State) (chip sl realm off len : Nat) (data b : List Byte) (poison : Bool), dfbGrants s off = true →
    isOwn s chip = false → (∀ o, placeOf s off ≠ .window o) →
    behind s (.remote chip) realm off len = [(off, len)] → checkRange realm (.remote chip) false off len s = none →
    memRead realm off len s = (b, poison, t) →
    exec (.remoteRequest chip sl realm false off len data []) s = .next (emit (.packet
      (answerPacket s chip 0 (.data b poison))) t))
  ∧ (∀ (s : State) (chip sl realm off len : Nat) (data : List Byte), dfbGrants s off = true → isOwn s chip = true →
    checkRange realm (.agent sl (((jobAt s sl).map fun j => j.sol == .run).getD false)) true off data.length s = some 5 →
    exec (.remoteRequest chip sl realm true off len data []) s = .next (emit (.packet (answerPacket s chip 0 (.nack 5)))
      (abortStep sl (remoteDenied chip off 5 s))))

/-- Lasers and rings (R353, R356, R357, R358, R359). A failed laser is off; a hot spare takes its bus at once and an off
spare starts in its place, or for the bus itself. A sample corrects the heaters of LOCKED rings; a ring that loses its line
is swept or LOST and its lane dropped, at the receiver for a filter and at the transmitter for a modulator; light back near the held point locks a HOLD ring; a sweep locks on its line or gives
up. A forecast word moves every LOCKED and HOLD heater by its offset. What a heater is set to by the loop, and the four
forecast values, are free values (log entry 1).
Light-plan switches (R366, R423). The oldest switch whose instant has fired makes its plan the one in force and the
links that it changes stop; when the matrix has settled, each of them takes its locked modulator rings as its lanes. -/
def Obligations.LasersRingsAndLightPlans : Prop :=
  ((∀ (s : State) (n b power low k : Nat), (laser s n).bus = some b → domOn s (laserDom n) = true → hotSpare s n = some k →
     k ≠ n → ∃ t, exec (.laserFailure n power low) s = .next t
       ∧ (laser t n).bus = none ∧ (laser t n).failed = true ∧ (blk t (baseLAS n)).st = .fault
       ∧ (laser t k).bus = some b ∧ (laser t k).hot = false ∧ tget 0 t.opt.bus b = power
       ∧ t = { s with opt := t.opt, blks := t.blks, mgt := t.mgt })
   ∧ (∀ (s : State) (n b power low : Nat), (laser s n).bus = some b → domOn s (laserDom n) = true →
     (∀ k, k < 10 → k ≠ n → (laser s k).hot = false) →
     ∃ t, exec (.laserFailure n power low) s = .next t ∧ (laser t n).bus = none ∧ (laser t n).failed = true
       ∧ (blk t (baseLAS n)).st = .fault ∧ tget 0 t.opt.bus b = 0
       ∧ (∀ o, o ≠ n → offSpare s n = some o → (laser t o).starting = some (some (b, n)))
       ∧ t = { s with opt := t.opt, blks := t.blks, mgt := t.mgt })
   ∧ (∀ (s : State) (n power low : Nat), (laser s n).bus = none → (laser s n).hot = true → domOn s (laserDom n) = true →
     ∃ t, exec (.laserFailure n power low) s = .next t ∧ (laser t n).hot = false ∧ (laser t n).failed = true
       ∧ (blk t (baseLAS n)).st = .fault
       ∧ (∀ o, o ≠ n → offSpare s n = some o → (laser t o).starting = some none)
       ∧ t = { s with opt := t.opt, blks := t.blks })
   ∧ (∀ (s : State) (n power low : Nat), (laser s n).starting = some none →
     ∃ t, exec (.spareLaserStarted n power low) s = .next t
       ∧ laser t n = { laser s n with
           starting := none, hot := true, bias := biasTarget s n
           worn := decide (biasLimit s n * 9 < (biasTarget s n).toNat * 10) }
       ∧ (∀ k, k ≠ n → laser t k = laser s k) ∧ t = { s with opt := t.opt, mgt := t.mgt })
   ∧ (∀ (s : State) (n b old power low : Nat), (laser s n).starting = some (some (b, old)) →
     ∃ t, exec (.spareLaserStarted n power low) s = .next t
       ∧ laser t n = { laser s n with
           hot := false, starting := none, bus := some b, bias := biasTarget s n
           mean := BitVec.ofNat 16 power, min := BitVec.ofNat 16 low
           worn := decide (biasLimit s n * 9 < (biasTarget s n).toNat * 10) }
       ∧ tget 0 t.opt.bus b = power ∧ (∀ k, k ≠ n → laser t k = laser s k) ∧ t = { s with opt := t.opt, mgt := t.mgt })
   ∧ (∀ (s : State) (d i : Nat) (v : W16), d < dies s → domOn s 71 = true → i < 224 → (optRing s (224 * d + i)).st = .locked →
     exec (.lockLoopSample d [(i, v)]) s = .next { setOptRing s (224 * d + i) { optRing s (224 * d + i) with
       monitor := v, heater := Config.free32 s.freeCtr } with freeCtr := s.freeCtr + 1 })
   ∧ (∀ (s : State) (d i k : Nat), d < dies s → domOn s 71 = true → i < 224 → k = 224 * d + i → (optRing s k).st = .locked →
     linkOfRing s k = none → ∃ t, exec (.ringLockLoss d i) s = .next t
       ∧ optRing t k = { optRing s k with st := if blkOn s (baseLCK d) = true then .sweep else .lost }
       ∧ (∀ j, j ≠ k → optRing t j = optRing s j) ∧ t = { s with opt := t.opt, mgt := t.mgt })
   ∧ (∀ (s : State) (d i k l p : Nat), d < dies s → domOn s 71 = true → i < 224 → k = 224 * d + i → (optRing s k).st = .locked →
     linkOfRing s k = some (l, p) →
     exec (.ringLockLoss d i) s = .next ((if 112 ≤ i then laneDrop l p 3 else txLost l p)
       (setOptRing (logLockLost k s) k { optRing s k with st := if blkOn s (baseLCK d) = true then .sweep else .lost })))
   ∧ (∀ (s : State) (d i k : Nat), d < dies s → domOn s 71 = true → i < 224 → k = 224 * d + i → (optRing s k).st = .hold →
     exec (.holdLightReturn d i true) s = .next (ringLocked k (setOptRing s k { optRing s k with st := .locked }))
     ∧ exec (.holdLightReturn d i false) s = .next (setOptRing s k { optRing s k with
       st := if blkOn s (baseLCK d) = true then .sweep else .lost }))
   ∧ (∀ (s : State) (d i k : Nat), lckServes s d = true → i < 224 → k = 224 * d + i → (optRing s k).st = .sweep →
     exec (.ringSweepDone d i none) s = .next (setOptRing s k { optRing s k with st := if 112 ≤ i then .hold else .lost })
     ∧ ∀ line heater, line ∈ (List.range 10).map lineOf → (optRing s k).excl.contains line = false →
       exec (.ringSweepDone d i (some (line, heater))) s = .next (ringLocked k
         (setSeqr (setOptRing s k { optRing s k with st := .locked, line, heater }) d { seqr s d with
           cal := tset 0 (seqr s d).cal i heater })))
   ∧ (∀ (s : State) (d : Nat), lckServes s d = true → domOn s (8 * d + 6) = true → blkOn s (baseDSC d) = true →
     tok {} s.opt.ring = true →
     ∃ t, exec (.forecastWord d) s = .next t
       ∧ (∀ q < 4, (tget {} t.dsc d).forecast.getD q 0 = fld (Config.free32 s.freeCtr) (8 * q) 8)
       ∧ (seqr t d).forecast = (tget {} t.dsc d).forecast
       ∧ (∀ k, k / 224 = d → (optRing s k).st = .locked ∨ (optRing s k).st = .hold →
         (optRing t k).heater = (optRing s k).heater + (optRing t k).ffOffset ∧ (optRing t k).st = (optRing s k).st)
       ∧ (∀ k, k / 224 ≠ d → optRing t k = optRing s k)
       ∧ t = { s with opt := t.opt, dsc := t.dsc, freeCtr := s.freeCtr + 1 }))
  ∧ ((∀ (s : State) (n : Nat) (rest : List Nat) (a b : LightPlan), s.fab.due = n :: rest → s.fab.switching = false →
     tget none s.fab.plans s.fab.planNo = some a → tget none s.fab.plans n = some b → domOn s 68 = true →
     blkOn s basePHL = true →
     ∃ t, exec .lightPlanSwitch s = .next t ∧ t.fab = { s.fab with
         due := rest, planNo := n, switching := true, switched := changedLinks a b }
       ∧ (∀ l < 96, l ∉ changedLinks a b → lnk t l = lnk s l)
       ∧ (∀ l ∈ changedLinks a b, (lnk t l).wantRx = none ∧ (lnk t l).trainMask = 0 ∧ (lnk t l).rxSet = (lnk s l).rxSet
         ∧ (lnk t l).pst = if routed b l = false then (if (lnk s l).pst = .quarantined then .quarantined else .dark)
           else if (lnk s l).pst = .up ∨ (lnk s l).pst = .hold ∨ (32 ≤ l ∧ (lnk s l).pst = .dark) then .switching
           else (lnk s l).pst)
       ∧ t = { s with fab := t.fab, links := t.links })
   ∧ (∀ (s : State) (n : Nat) (rest : List Nat), s.fab.due = n :: rest → s.fab.switching = false →
     (domOn s 68 = false ∨ blkOn s basePHL = false ∨ tget none s.fab.plans n = none) →
     exec .lightPlanSwitch s = .next { s with fab := { s.fab with due := rest } })
   ∧ (∀ (s : State), s.fab.switching = true → exec .matrixSettled s = .next (retime (s.fab.switched.foldl
       (fun t l => settleLink l t) { s with fab := { s.fab with switching := false, switched := [] } })))
   ∧ (∀ (s : State) (l : Nat), (lnk s l).pst = .switching → lanesEnough { lnk s l with
       txSet := BitVec.ofNat 10 (lockedTx s l), mapTx := mapOf [] (BitVec.ofNat 10 (lockedTx s l)), sparesTx := [] } = false →
     ∃ u, settleLink l s = portDown l 1 u ∧ (lnk u l).txSet = BitVec.ofNat 10 (lockedTx s l) ∧ (lnk u l).rxSet = (lnk s l).rxSet))

/-- LSEQ instructions of the lock sequencers (R361, R362, R363, R364). Each writes G, a ring, a calibration entry, a
coefficient, a bias or a post and goes on; G0 takes no write. HALT stops, WAIT waits, BR goes to its target when its
condition holds. A shift by 32 or more gives a free value, and a bias's line powers are free values (log entry 1); OFF takes the heater's
power. An Absent ring index, a heater write to a ring not
in SWEEP and an undefined opcode fault. -/
def Obligations.LockSequencerInstructions : Prop :=
  (∀ (s : State) (d : Nat) (w : W32) (x : Seq),
    (SeqAt 0 0 d w x s → exec (.lseqNop d w) s = .next (setSeqr s d { x with pc := x.pc + 1 }))
    ∧ (SeqAt 1 0 d w x s → exec (.halt d w) s = .next (setSeqr s d { x with run := false, pc := 0 }))
    ∧ (SeqAt 2 0x3FFC00F d w x s → fld w 0 4 ≤ 9 → exec (.lseqAlu d w) s = .next { setSeqr s d { setG (qA w)
        (seqAlu (fld w 0 4) (gReg x (qB w)) (gReg x (qC w)) (Config.free32 s.freeCtr)) x with pc := x.pc + 1 } with
          freeCtr := s.freeCtr + 1 })
    ∧ (SeqAt 3 0x3FC3FFF d w x s → exec (.lseqAddi d w) s = .next (setSeqr s d { setG (qA w)
        (gReg x (qB w) + BitVec.ofInt 32 (qImm w)) x with pc := x.pc + 1 }))
    ∧ (SeqAt 4 0x3C3FFFF d w x s → exec (.lseqLui d w) s = .next (setSeqr s d { setG (qA w)
        (BitVec.ofNat 32 (fld w 0 18 * 16384)) x with pc := x.pc + 1 }))
    ∧ (SeqAt 6 0x3FFF d w x s → exec (.lseqWait d w) s = .next (setSeqr s d (
        if fld w 0 14 = 0 then { x with pc := x.pc + 1 } else { x with waiting := some (fld w 0 14) })))
    ∧ (SeqAt 0x11 0x3C00000 d w x s → exec (.lseqRdrt d w) s = .next (setSeqr s d { setG (qA w)
        (BitVec.ofNat 32 (rtNow s).toNat) x with pc := x.pc + 1 }))
    ∧ (SeqAt 0x12 0x3FFFFF d w x s → exec (.post d w) s = .next (setSeqr s d { x with
        pc := x.pc + 1, posts := x.posts ++ [(fld w 0 14, gReg x (qB w), gReg x (qC w))] })))
  ∧ (∀ (s : State) (d : Nat) (w : W32) (x : Seq), seqr s d = x → x.run = true → x.waiting = none → domOn s 71 = true →
    blkOn s (baseLCK d) = true → seqWord s d = w → 0x12 < fld w 26 6 → exec (.lseqNop d w) s = .next (seqFault d s))
  ∧ (∀ (s : State) (d n : Nat) (x : Seq), seqr s d = x → x.run = true → x.waiting = some n → domOn s 71 = true →
    blkOn s (baseLCK d) = true → x.pc < 4095 →
    exec (.lseqWaitEnd d) s = .next (setSeqr s d { x with waiting := none, pc := x.pc + 1 }))
  ∧ (∀ (s : State) (d : Nat) (w : W32) (x : Seq) (a b : W32) (go : Bool) (t : Int), SeqAt 5 0xFFFFFF d w x s →
    a = gReg x (qB w) → b = gReg x (qC w) → t = x.pc + qImm w →
    (go = true ↔ (fld w 22 2 = 0 ∧ a = b) ∨ (fld w 22 2 = 1 ∧ a ≠ b) ∨ (fld w 22 2 = 2 ∧ a.toInt < b.toInt)
      ∨ (fld w 22 2 = 3 ∧ a.toNat < b.toNat)) →
    (go = false → exec (.br d w) s = .next (setSeqr s d { x with pc := x.pc + 1 }))
    ∧ (go = true → 0 ≤ t → t < 4096 → exec (.br d w) s = .next (setSeqr s d { x with pc := t.toNat }))
    ∧ (go = true → (t < 0 ∨ 4096 ≤ t) → ∃ p, 4096 ≤ p ∧ exec (.br d w) s = .next (seqFault d (setSeqr s d { x with pc := p }))))
  ∧ (∀ (s : State) (d i k : Nat) (w : W32) (x : Seq) (v : W16) (y : OptRing), SeqRing d w x i s → k = 224 * d + i →
    y = optRing s k →
    (SeqAt 7 0x3FC0000 d w x s → exec (.rdmon d w v) s = .next (setSeqr (setOptRing s k { y with monitor := v }) d
        { setG (qA w) (BitVec.ofNat 32 v.toNat) x with pc := x.pc + 1 }))
    ∧ (SeqAt 8 0x3FC0000 d w x s → exec (.rdhtr d w) s = .next (setSeqr s d { setG (qA w) y.heater x with pc := x.pc + 1 }))
    ∧ (SeqAt 9 0x3FC000 d w x s → exec (.wrhtr d w) s = .next (if y.st = .sweep
        then setSeqr (setOptRing s k { y with heater := gReg x (qC w) }) d { x with pc := x.pc + 1 } else seqFault d s))
    ∧ (SeqAt 0xA 0x3FC007 d w x s → fld w 0 3 ≤ 3 → exec (.setst d w) s = .next (
        let st : RingSt := if fld w 0 3 = 0 then .off else if fld w 0 3 = 1 then .sweep else if fld w 0 3 = 2 then .locked
          else .hold
        let t1 := setOptRing s k { y with st, target := gReg x (qC w), heater := if st = .off then 0 else y.heater }
        setSeqr (if fld w 0 3 = 2 then ringLocked k t1 else t1) d { x with pc := x.pc + 1 }))
    ∧ (SeqAt 0xB 0x3FC0000 d w x s → exec (.rdst d w) s = .next (setSeqr s d { setG (qA w)
        (BitVec.ofNat 32 (ringCode y.st + 16 * (y.line % 16) + 256 * y.excl.length)) x with pc := x.pc + 1 }))
    ∧ (SeqAt 0xD 0x3FC003 d w x s → exec (.wrff d w) s = .next (setSeqr (setOptRing s k { y with
        ff := tset 0 y.ff (fld w 0 2) (gReg x (qC w)) }) d { x with pc := x.pc + 1 })))
  ∧ (∀ (s : State) (d : Nat) (w : W32) (x : Seq), 224 ≤ (gReg x (qB w)).toNat →
    (SeqAt 8 0x3FC0000 d w x s → exec (.rdhtr d w) s = .next (seqFault d s))
    ∧ (SeqAt 9 0x3FC000 d w x s → exec (.wrhtr d w) s = .next (seqFault d s)))
  ∧ (∀ (s : State) (d : Nat) (w : W32) (x : Seq),
    (SeqAt 0xC 0x3FC0000 d w x s → bit w 0 = false → exec (.rdcal d w) s = .next (setSeqr s d { setG (qA w)
        (tget 0 x.cal (gReg x (qB w)).toNat) x with pc := x.pc + 1 }))
    ∧ (SeqAt 0xC 0x3FC001 d w x s → bit w 0 = true → exec (.wrcal d w) s = .next (setSeqr s d { x with
        pc := x.pc + 1, cal := tset 0 x.cal (gReg x (qB w)).toNat (gReg x (qC w)) }))
    ∧ (SeqAt 0xE 0x3C00001 d w x s → bit w 0 = false → exec (.rdlas d w) s = .next { setSeqr s d { setG (qA w)
        (BitVec.ofNat 32 (tget 0 s.opt.bus d)) x with pc := x.pc + 1 } with freeCtr := s.freeCtr + 1 })
    ∧ (∀ n, SeqAt 0xE 0x3C00001 d w x s → bit w 0 = true → feeding s d = some n →
        exec (.rdlas d w) s = .next { setSeqr s d { setG (qA w) (BitVec.ofNat 32 (laser s n).bias.toNat) x with
          pc := x.pc + 1 } with freeCtr := s.freeCtr + 1 })
    ∧ (∀ n, SeqAt 0xF 0x3C0000 d w x s → feeding s d = some n → ∃ t, exec (.wrbias d w) s = .next t
        ∧ (laser t n).bias = BitVec.ofNat 16 (gReg x (qB w)).toNat
        ∧ (laser t n).worn = decide (biasLimit s n * 9 < (laser t n).bias.toNat * 10)
        ∧ tget 0 t.opt.bus d = (laser t n).mean.toNat ∧ (∀ k, k ≠ n → laser t k = laser s k)
        ∧ seqr t d = { x with pc := x.pc + 1 } ∧ t = { s with opt := t.opt, mgt := t.mgt, freeCtr := s.freeCtr + 1 })
    ∧ (∀ temp, SeqAt 0x10 0x3C00000 d w x s → exec (.rdtmp d w temp) s = .next (setSeqr s d { setG (qA w)
        (BitVec.ofNat 32 temp.toNat) x with temp, pc := x.pc + 1 })))

/-- Frames (R368, R370, R372, R373, R375, R376, R420, R458, R460). A frame that passes the checks brings its header bits; a data or
reduction frame with the expected sequence number is delivered packet by packet and acknowledged by an idle frame, one from
ahead is NAKed once and one from behind dropped; one whose tag fails is logged and NAKed, and one that fails a check is
discarded and NAKed. A NAK, and the timeout, resend the unacknowledged frames in order from the one named. A
frame's bits go out as 10-bit symbols with their check symbols, symbol j on the position of index j mod n, and a position that
carries one symbol fewer ends with one fill symbol (R368). -/
def Obligations.FramesAreCheckedDeliveredAndReplayed : Prop :=
  (∀ (s : State) (l : Nat) (i : FrameIn), rxFail l i = 0 → (i.f.typ = 0 ∨ i.f.typ = 4 ∨ i.f.partition = s.fab.partition) →
    i.f.realm ≠ 3 → i.f.ack = none → ∃ t, rxChecks l i s = (true, t)
      ∧ (lnk t l).winterRx = i.f.winter ∧ (lnk t l).lastDepart = i.f.depart
      ∧ (lnk t l).pst = (if (lnk s l).pst = .hold then .up else (lnk s l).pst)
      ∧ (lnk t l).rxSeq = (lnk s l).rxSeq ∧ (lnk t l).unacked = (lnk s l).unacked
      ∧ (lnk t l).cwCorr = inc32 (lnk s l).cwCorr (wordsFixed (l < 32) i.f.cw (realErrs i.f.cw i.errs))
      ∧ (∀ k, k ≠ l → lnk t k = lnk s k) ∧ t = { s with links := t.links })
  ∧ (∀ (s : State) (l : Nat) (i : FrameIn), rxFail l i ≠ 0 → rxChecks l i s = (false, fecCount l i s))
  ∧ (∀ (s : State) (l : Nat) (i : FrameIn), rxFail l i = 0 → i.f.typ ≠ 0 → i.f.typ ≠ 4 → i.f.partition ≠ s.fab.partition →
    rxChecks l i s = (false, partForeign l (fecCount l i s)))
  ∧ (∀ (s : State) (l : Nat) (i : FrameIn), linkLit s l = true → i.f.typ = 0 →
    exec (.idleFrame l i) s = .next (
      if (rxChecks l i s).1 = true then (rxChecks l i s).2 else sendNak l (rxChecks l i s).2))
  ∧ (∀ (s s1 : State) (l : Nat) (i : FrameIn), linkLit s l = true → rxChecks l i s = (false, s1) →
    (i.f.typ = 1 → exec (.dataFrame l i) s = .next (sendNak l s1))
    ∧ (i.f.typ = 2 → exec (.reductionFrame l i) s = .next (sendNak l s1))
    ∧ (i.f.typ = 3 → ∀ n, exec (.nak l i n) s = .next (sendNak l s1)))
  ∧ (∀ (s s1 s2 : State) (l : Nat) (i : FrameIn) (ps : List Packet) (opened : Bool), linkLit s l = true →
    rxChecks l i s = (true, s1) → (lnk s1 l).pst = .up → i.f.seqNo = (lnk s1 l).rxSeq →
    openFrame l i.f s1 = some (ps, opened, s2) →
    (i.f.typ = 1 → ∃ t, exec (.dataFrame l i) s = .next (sendPlain l { typ := 0 } t)
      ∧ t.fab = { s2.fab with inbox := s2.fab.inbox ++ ps.map fun p =>
        ({ pkt := p, link := l, realm := i.f.realm, opened, red := false, nf := i.f.nf, stamp := rtNow s2 } : RxPkt) }
      ∧ lnk t l = { lnk s2 l with
          rxSeq := (lnk s2 l).rxSeq + 1, rxAny := true, discarding := false
          enc := (lnk s2 l).enc || decide (i.f.realm ≠ 0) }
      ∧ t = { s2 with fab := t.fab, links := t.links })
    ∧ (i.f.typ = 2 → ∃ t, exec (.reductionFrame l i) s = .next (sendPlain l { typ := 0 } t)
      ∧ t.fab = { s2.fab with inbox := s2.fab.inbox ++ ps.map fun p =>
        ({ pkt := p, link := l, realm := i.f.realm, opened, red := true, nf := i.f.nf, stamp := rtNow s2 } : RxPkt) }
      ∧ (lnk t l).rxSeq = (lnk s2 l).rxSeq + 1
      ∧ (i.f.nf = true → opened = true → ∀ p ∈ ps, p.dst = ownChip s2 → p.slot < 2 → ∀ j st, jobAt s2 p.slot = some j →
          j.step = some st → p.step = BitVec.ofNat 8 st.num.toNat → j.realm = i.f.realm →
          ∃ j' st', jobAt t p.slot = some j' ∧ j'.step = some st' ∧ st'.rxFlag = true)
      ∧ (i.f.nf = false → t.jobA = s2.jobA ∧ t.jobB = s2.jobB)))
  ∧ (∀ (s s1 : State) (l : Nat) (i : FrameIn), linkLit s l = true → rxChecks l i s = (true, s1) → (lnk s1 l).pst = .up →
    i.f.typ = 1 →
    (i.f.seqNo = (lnk s1 l).rxSeq → openFrame l i.f s1 = none → exec (.dataFrame l i) s = .next (sendNak l
      (logFold ticksMs 0x6005 (BitVec.ofNat 8 i.f.realm) 0xFFFF (linkUnit l) (linkName l ++ [dw i.f.realm, dw i.f.epoch]) s1)))
    ∧ (i.f.seqNo ≠ (lnk s1 l).rxSeq → exec (.dataFrame l i) s = .next (
      if (i.f.seqNo - (lnk s1 l).rxSeq).toNat < 32768 then sendNak l s1 else s1)))
  ∧ (∀ (s : State) (l : Nat), sendNak l s = if (lnk s l).discarding = true then s
      else sendControl l 1 (leBytes 2 (lnk s l).rxSeq.toNat) (setLnk s l { lnk s l with discarding := true }))
  ∧ (∀ (s s1 : State) (l : Nat) (i : FrameIn) (n : W16), linkLit s l = true → i.f.typ = 3 → rxChecks l i s = (true, s1) →
    exec (.nak l i n) s = .next (replayFrom l n s1))
  ∧ (∀ (s : State) (l n : Nat) (f : Frame) (rest : List (Frame × Nat)), linkOpen s l = true →
    (lnk s l).unacked = (f, n) :: rest → exec (.replayTimeout l) s = .next (replayFrom l f.seqNo s))
  ∧ (∀ (s : State) (l c : Nat) (f : Frame) (pre post : List (Frame × Nat)), linkOpen s l = true →
    (lnk s l).unacked = pre ++ (f, c) :: post → (∀ e ∈ pre, e.1.seqNo ≠ f.seqNo) →
    ((∀ e ∈ (f, c) :: post, e.2 < 8) → ∃ t, replayFrom l f.seqNo s = t
      ∧ lnk t l = { lnk s l with
          unacked := pre ++ ((f, c) :: post).map (fun e => (e.1, e.2 + 1)), replay := true
          replays := inc32 (lnk s l).replays (post.length + 1) }
      ∧ t.out = (((f, c) :: post).map fun e => Out.frame l { e.1 with ack := ackOf (lnk s l) }).reverse ++ s.out
      ∧ t = { s with links := t.links, out := t.out })
    ∧ ((∃ e ∈ (f, c) :: post, 8 ≤ e.2) → replayFrom l f.seqNo s = portDown l 2 s))
  ∧ (∀ (s : State) (l : Nat) (f : Frame) (pos syms : List Nat), pos = bitsOf 10 (lnk s l).txSet.toNat → pos ≠ [] →
    syms = frameSymbols (l < 32) f.cw (frameBytes (lnk s l) f) →
    (∀ j < syms.length, ∃ e ∈ wireOf s l f, e.1 = symbolPos pos j ∧ e.2[j / pos.length]? = some (some (syms.getD j 0)))
    ∧ (∀ e ∈ wireOf s l f, e.2.length = (syms.length + pos.length - 1) / pos.length
      ∧ (e.2.filter (·.isNone)).length ≤ 1))
  ∧ (∀ (ext : Bool) (cw k j : Nat) (data : List Byte), k < cw → j < 256 →
    (frameSymbols ext cw data)[272 * k + j]? = some (leNat data / 2 ^ (2560 * k + 10 * j) % 1024))

/-- Lanes (R366, R378, R379, R380, R381, R382, R384, R491). A drop condition takes a position out of the receive set: while
four remain the new set is asked for, and asked for again until the commit; else the link is down. A request is answered by a
commit of the transmit set, and a commit sets the receive set and map. Training ends restore a position or leave it out; a
lane moves to a free spare; a common-mode outage holds the link, or darkens it after DEPART, and the hold's end takes it
down. -/
def Obligations.LanesDropRestoreAndSpare : Prop :=
  (∀ (s : State) (l p cause : Nat) (x : Link) (m : BitVec 10), linkLit s l = true → lnk s l = x → x.rxSet.getLsbD p = true →
    x.pst = .up → x.wantRx = none → (cause = 1 ∨ cause = 3 ∨ cause = 4 ∨ cause = 5) →
    m = x.rxSet &&& ~~~(BitVec.ofNat 10 (2 ^ p)) →
    exec (.laneDropCondition l p cause 0) s = .next (
      let s0 := if cause = 1 then ringDark l s p else s
      if popcount 10 m.toNat < 4 then portDown l 1 (setLnk s0 l { x with
        dropped := x.dropped ++ [(p, cause)], stuck := if cause = 4 then x.stuck ++ [p] else x.stuck, rxSet := m })
      else sendControl l 2 (leBytes 2 m.toNat ++ leBytes 1 cause) (setLnk s0 l { x with
        dropped := x.dropped ++ [(p, cause)], stuck := if cause = 4 then x.stuck ++ [p] else x.stuck
        wantRx := some (m, cause) })))
  ∧ (∀ (s : State) (l p found : Nat), linkLit s l = true → (lnk s l).rxSet.getLsbD p = true → (lnk s l).pst = .up →
    exec (.laneDropCondition l p 2 found) s = .next (laneDrop l p 2 (tagFailure l p found s)))
  ∧ (∀ (s : State) (l c : Nat) (m : BitVec 10), linkLit s l = true → (lnk s l).wantRx = some (m, c) →
    exec (.lanesetRequestRepeat l) s = .next (sendControl l 2 (leBytes 2 m.toNat ++ leBytes 1 c) s))
  ∧ (∀ (s s1 : State) (l : Nat) (i : FrameIn), linkLit s l = true → i.f.typ = 3 → rxChecks l i s = (true, s1) →
    (∀ m cause, (lnk s1 l).pst = .up → ∃ t, exec (.lanesetRequest l i m cause) s = .next t
      ∧ (lnk t l).txSet = m ∧ (lnk t l).mapTx = mapOf (lnk s1 l).sparesTx m ∧ (lnk t l).rxSet = (lnk s1 l).rxSet
      ∧ t.out = Out.frame l (dress s1 l { typ := 3, body := fit 300 (BitVec.ofNat 8 3 :: (leBytes 2 m.toNat
          ++ leBytes 4 (mapOf (lnk s1 l).sparesTx m).toNat ++ leBytes 2 (lnk s1 l).txSeq.toNat)) }) :: s1.out
      ∧ t = { s1 with links := t.links, mgt := t.mgt, out := t.out, opt := t.opt })
    ∧ (∀ m map, (lnk s1 l).pst = .up → ∃ t, exec (.lanesetCommit l i m map) s = .next t
      ∧ (lnk t l).rxSet = m ∧ (lnk t l).mapRx = map ∧ (lnk t l).wantRx = none ∧ (lnk t l).pst = .up
      ∧ (lnk t l).trainMask = (lnk s1 l).trainMask &&& ~~~m ∧ (lnk t l).txSet = (lnk s1 l).txSet
      ∧ t = { s1 with links := t.links, mgt := t.mgt, out := t.out, opt := t.opt })
    ∧ (∀ p line, exec (.resweep l i p line) s = .next (match ringOf s1 l p false with
      | some key => { s1 with opt := { s1.opt with ring := tmod {} s1.opt.ring key fun x => { x with
          st := .sweep, excl := if x.excl.contains line = true then x.excl else (line :: x.excl).take 2 } } }
      | none => s1))
    ∧ (∀ m passed, exec (.train l i m passed) s = .next (
      if m &&& ~~~(lnk s1 l).trainMask = 0 then s1
      else sendControl l 5 (leBytes 2 ((lnk s1 l).trainMask ||| m).toNat ++ leBytes 2 0)
        (setLnk s1 l { lnk s1 l with trainMask := (lnk s1 l).trainMask ||| m })))
    ∧ (∀ n, n < 8 → exec (.spare l i n) s = .next ((spareTx l n s1).getD s1))
    ∧ (∀ n, 8 ≤ n → exec (.spare l i n) s = .next s1))
  ∧ (∀ (s : State) (l p : Nat) (x : Link), linkLit s l = true → lnk s l = x → x.trainMask.getLsbD p = true →
    p < linkPositions l →
    exec (.lanePrbsDone l p false) s = .next (setLnk s l { x with trainMask := x.trainMask &&& ~~~(BitVec.ofNat 10 (2 ^ p)) })
    ∧ (x.pst = .up → linkLocked s [3] l = false → autoRestores s l p = false →
      exec (.lanePrbsDone l p true) s = .next (moveStuck l (setLnk s l { x with
        trainMask := x.trainMask &&& ~~~(BitVec.ofNat 10 (2 ^ p))
        stuck := if x.stuck.contains p = true then x.stuck else x.stuck ++ [p] })))
    ∧ (∀ m, x.pst = .up → linkLocked s [3] l = false → autoRestores s l p = true →
      m = (x.wantRx.map (·.1)).getD x.rxSet ||| BitVec.ofNat 10 (2 ^ p) → 4 ≤ popcount 10 m.toNat →
      exec (.lanePrbsDone l p true) s = .next (sendControl l 2 (leBytes 2 m.toNat ++ leBytes 1 0) (setLnk s l { x with
        trainMask := x.trainMask &&& ~~~(BitVec.ofNat 10 (2 ^ p))
        restores := tset [] x.restores p (rtNow s :: recentRestores s x p), wantRx := some (m, 0) })))
    ∧ (∀ m, x.pst = .up → linkLocked s [3] l = true → m = (x.wantRx.map (·.1)).getD x.rxSet ||| BitVec.ofNat 10 (2 ^ p) →
      4 ≤ popcount 10 m.toNat →
      exec (.lanePrbsDone l p true) s = .next (sendControl l 2 (leBytes 2 m.toNat ++ leBytes 1 0) (setLnk s l { x with
        trainMask := x.trainMask &&& ~~~(BitVec.ofNat 10 (2 ^ p)), stuck := x.stuck.filter (· != p)
        tagStage := tset 0 x.tagStage p 0, wantRx := some (m, 0) }))))
  ∧ (∀ (s : State) (l : Nat) (x : Link), linkLit s l = true → lnk s l = x → x.pst = .up →
    exec (.commonModeOutage l) s = .next (
      let t := (bitsOf 10 x.rxSet.toNat).foldl (ringDark l) s
      if x.lastDepart = true
      then portForget l (setLnk t l { x with pst := .dark, departRx := true }) else setLnk t l { x with pst := .hold }))
  ∧ (∀ (s : State) (l : Nat), (lnk s l).pst = .hold → exec (.commonModeHoldExpiry l) s = .next (portDown l 3 s))

/-- Rack Time (R387, R388, R389, R390, R391, R400, R501). Ticks pass while the domain is On. A sync pulse takes a loaded value
and completes its command, or starts RAW at its first pulse, or checks RAW: an offset over 1 tick is a slip, and the same
offset found twice is slewed off, or beyond 65,536 ticks makes the sync bad. A slew moves RAW or CORR by one tick. Clock loss
and sync loss are logged, and a relock ends the holdover.
Time ports and windows (R392, R393, R394, R399, R420). A timestamp goes out on a port that is up. One that arrives is kept
as the port's echo with its receive time; the root takes no more of it; at a time port the exchange with a plausible delay is
kept. A foreign partition is logged. A window that ends with work outstanding is COL_WINDOW_LATE, once for each instance. -/
def Obligations.RackTimeAndItsPorts : Prop :=
  ((∀ (s : State) (n : Nat), passTicks n s = { s with
       rtb := if domOn s 77 = true then { s.rtb with raw := s.rtb.raw + BitVec.ofNat 64 n } else s.rtb
       rel := (passTicks n s).rel, flash := (passTicks n s).flash })
   ∧ (∀ (s u : State) (n : Nat), u = passTicks n s → rtbServes u = true → u.rtb.holdover = false →
     (∀ v p tag, u.rtb.load = some (v, p, tag) → exec (.rtbSyncPulse n) s = .next (finishCmd p 0 tag (okRv v 0 0) false
       { u with rtb := { u.rtb with
         syncLost := false, raw := v, corr := 0, valid := true, syncBad := false, firstSync := true, slewRaw := 0
         slewCorr := 0, unconfirmed := none, load := none } }))
     ∧ (u.rtb.load = none → u.rtb.firstSync = false → exec (.rtbSyncPulse n) s = .next { u with rtb := { u.rtb with
         syncLost := false, raw := 0, corr := 0, firstSync := true, slewRaw := 0, slewCorr := 0 } })
     ∧ (u.rtb.load = none → u.rtb.firstSync = true → u.rtb.syncBad = true →
       exec (.rtbSyncPulse n) s = .next { u with rtb := { u.rtb with syncLost := false } })
     ∧ (∀ d, u.rtb.load = none → u.rtb.firstSync = true → u.rtb.syncBad = false → d = syncOffset u →
       (d.natAbs ≤ 1 → exec (.rtbSyncPulse n) s = .next { u with rtb := { u.rtb with
         syncLost := false, unconfirmed := none } })
       ∧ (1 < d.natAbs → (∀ e, u.rtb.unconfirmed = some e → 1 < (d - e).natAbs) →
         exec (.rtbSyncPulse n) s = .next { slip d { u with rtb := { u.rtb with syncLost := false } } with
           rtb := { u.rtb with syncLost := false, slips := inc32 u.rtb.slips 1, unconfirmed := some d } })
       ∧ (∀ e, 1 < d.natAbs → u.rtb.unconfirmed = some e → (d - e).natAbs ≤ 1 →
         exec (.rtbSyncPulse n) s = .next { slip d { u with rtb := { u.rtb with syncLost := false } } with
           rtb := if d.natAbs ≤ 65536
             then { u.rtb with
               syncLost := false, slips := inc32 u.rtb.slips 1, unconfirmed := none, slewRaw := u.rtb.slewRaw - d }
             else { u.rtb with
               syncLost := false, slips := inc32 u.rtb.slips 1, unconfirmed := none, syncBad := true } })))
   ∧ (∀ (s : State) (n : Nat), (passTicks n s).rtb.holdover = true → exec (.rtbSyncPulse n) s = .next (passTicks n s))
   ∧ (∀ (s u : State) (n : Nat), u = passTicks n s → 0 < n →
     (u.rtb.slewRaw ≠ 0 → u.rtb.slewCorr = 0 → exec (.slewAdjust n) s = .next { u with rtb := { u.rtb with
         raw := u.rtb.raw + BitVec.ofInt 64 u.rtb.slewRaw.sign, slewRaw := u.rtb.slewRaw - u.rtb.slewRaw.sign
         turnCorr := true } })
     ∧ (u.rtb.slewRaw = 0 → u.rtb.slewCorr ≠ 0 → exec (.slewAdjust n) s = .next { u with rtb := { u.rtb with
         corr := u.rtb.corr + BitVec.ofInt 64 u.rtb.slewCorr.sign, slewCorr := u.rtb.slewCorr - u.rtb.slewCorr.sign
         turnCorr := false } })
     ∧ (u.rtb.slewRaw ≠ 0 → u.rtb.slewCorr ≠ 0 → exec (.slewAdjust n) s = .next { u with rtb := if u.rtb.turnCorr = true
         then { u.rtb with
           corr := u.rtb.corr + BitVec.ofInt 64 u.rtb.slewCorr.sign, slewCorr := u.rtb.slewCorr - u.rtb.slewCorr.sign
           turnCorr := false }
         else { u.rtb with
           raw := u.rtb.raw + BitVec.ofInt 64 u.rtb.slewRaw.sign, slewRaw := u.rtb.slewRaw - u.rtb.slewRaw.sign
           turnCorr := true } })
     ∧ (u.rtb.slewRaw = 0 → u.rtb.slewCorr = 0 → exec (.slewAdjust n) s = .next u))
   ∧ (∀ (s : State), domOn s 77 = true →
     (s.rtb.holdover = false → exec .rtbClkLoss s = .next (logMod 0x5002 0 [1] { s with rtb := { s.rtb with
         holdover := true, losses := inc32 s.rtb.losses 1 } }))
     ∧ exec .rtbClkRelock s = .next { s with rtb := { s.rtb with holdover := false } }
     ∧ (s.rtb.holdover = false → s.rtb.syncLost = false → exec .rtbSyncLossTimeout s = .next (logMod 0x5002 0 [2]
         { s with rtb := { s.rtb with syncLost := true, losses := inc32 s.rtb.losses 1 } }))))
  ∧ ((∀ (s u : State) (port n : Nat), u = passTicks n s → rtbServes u = true → u.rtb.valid = true → port < 32 →
     linkUpAt u port = true →
     exec (.timestampSend port n) s = .next (emit (.frame port { typ := 5, body := timeBody u port }) u))
   ∧ (∀ (s u u1 : State) (port n part dist flags : Nat) (tx echoTx echoRx corr : W64), u = passTicks n s →
     rtbServes u = true → u.rtb.valid = true → port < 32 → linkUpAt u port = true →
     u1 = { u with rtb := { u.rtb with echo := tset (0, 0) u.rtb.echo port (tx, rtNow u) } } →
     (part ≠ u.fab.partition → exec (.timestampFrame port n part tx echoTx echoRx corr flags dist) s =
       .next (logFold ticksSec 0x400D 0xFF 0xFFFF (linkUnit port) [] u))
     ∧ (part = u.fab.partition → isRoot u = true → exec (.timestampFrame port n part tx echoTx echoRx corr flags dist) s =
       .next u1)
     ∧ (part = u.fab.partition → isRoot u = false → timePortNo u 0 = some port →
       exec (.timestampFrame port n part tx echoTx echoRx corr flags dist) s =
         .next (timeExchange 0 port tx echoTx echoRx corr flags dist (rtNow u) u1))
     ∧ (part = u.fab.partition → isRoot u = false → timePortNo u 0 ≠ some port → timePortNo u 1 = some port →
       exec (.timestampFrame port n part tx echoTx echoRx corr flags dist) s =
         .next (timeExchange 1 port tx echoTx echoRx corr flags dist (rtNow u) u1))
     ∧ (part = u.fab.partition → timePortNo u 0 ≠ some port → timePortNo u 1 ≠ some port →
       exec (.timestampFrame port n part tx echoTx echoRx corr flags dist) s = .next u1))
   ∧ (∀ (s : State) (i port dist flags : Nat) (tx echoTx echoRx corr t4 : W64) (x : TimePort) (theta2 delta : Int), i < 2 →
     x = { timePort s i with dist := dist, peerCorr := corr, usable := flags % 4 == 3 } →
     theta2 = (echoRx - echoTx).toInt + (tx - t4).toInt → delta = (t4 - echoTx).toInt - (tx - echoRx).toInt →
     ∃ t, timeExchange i port tx echoTx echoRx corr flags dist t4 s = t
       ∧ timePort t i = (if flags % 2 = 1 ∧ echoTx ≠ 0 ∧ exchangeKept x (tget {} s.links port).rtt.toNat delta = true
         then { x with kept := ((theta2, delta) :: x.kept).take 8, first := some (x.first.getD delta) } else x)
       ∧ timePort t (1 - i) = timePort s (1 - i) ∧ t = { s with rtb := t.rtb, mgt := t.mgt })
   ∧ (∀ (x : TimePort) (rtt : Nat) (delta : Int), x.first = none →
     (exchangeKept x rtt delta = true ↔ 0 ≤ delta ∧ delta ≤ 2 * (rtt : Int)))
   ∧ (∀ (s : State) (d sl op m bytes : Nat) (a b : W64) (j : Job) (st : Sys2Proof.Machine.Step) (o : ColOp × List Member),
     jobAt s sl = some j → j.step = some st → opOn j d op = some o → j.aborting = false → m < colInsts j o.1 →
     lateOf s sl d op m = some (a, b, bytes) →
     exec (.windowEndReached d sl op m) s = .next (logJob 0x5001 j (resDie d) [a, b, dw bytes] (colCount d 4 1
       (setJobAt s sl (some { j with step := some { st with lateWindows := st.lateWindows ++ [(d, op, m)] } }))))))

/-- Discovery (R403, R409, R410, R411, R413, R414, R415, R416, R417, R418). Light starts the training of a dark port of the
division that has four locked transmit rings; trained lanes are noted; identity frames go out. A peer that has heard this end is judged: its own serial, a
foreign partition, a foreign fabric, no common version and a wrong neighbour quarantine the port, a plan-less module and an
undivided port go dark, the rest are accepted. When no port is pending, and at the timeout, the discovery ends;
PORT_DIVIDE's timeout leaves its pending ports dark. -/
def Obligations.DiscoveryJudgesPorts : Prop :=
  (∀ (s : State) (p : Nat), p < ports s → linkServes s p = true → 4 ≤ ringsLocked s p false →
    (inDivision s p = false → exec (.portLightDetected p) s = .next (setPort s p { port s p with light := true, out := .extra }))
    ∧ (inDivision s p = true → (lnk s p).pst = .dark ∨ (lnk s p).pst = .quarantined →
      exec (.portLightDetected p) s = .next (setPort (setLnk s p { lnk s p with pst := .training }) p { port s p with
        light := true, trained := false, heard := false, judged := none, opened := false, out := .pending, cause := 0
        kind := (s.fab.division.getD p 0).toNat / 64, nbr := (s.fab.division.getD p 0).toNat % 16 }))
    ∧ (inDivision s p = true → (lnk s p).pst ≠ .dark → (lnk s p).pst ≠ .quarantined →
      exec (.portLightDetected p) s = .next (setPort s p { port s p with light := true })))
  ∧ (∀ (s : State) (p : Nat), ringsLocked s p false < 4 → exec (.portLightDetected p) s = .next s)
  ∧ (∀ (s : State) (p : Nat) (tx rx : BitVec 10) (rtt : W16) (z : Link), p < 32 → linkServes s p = true →
    (lnk s p).pst = .training → (port s p).light = true → (port s p).trained = false →
    z = { lnk s p with
      txSet := tx, rxSet := rx, mapTx := mapOf (lnk s p).sparesTx tx, mapRx := mapOf (lnk s p).sparesRx rx, rtt
      trainMask := 0 } →
    exec (.portTrainingDone p tx rx rtt) s = .next (
      if 4 ≤ popcount 10 tx.toNat ∧ 4 ≤ popcount 10 rx.toNat then setPort (setLnk s p z) p { port s p with trained := true }
      else setLnk s p z))
  ∧ (∀ (s : State) (p : Nat), p < 32 → linkServes s p = true → (port s p).trained = true → (lnk s p).pst ≠ .dark →
    exec (.identitySend p) s = .next (sendPlain p { typ := 4, body := identityBody s p } s))
  ∧ (∀ (s s1 : State) (p : Nat) (i : FrameIn), p < 32 → linkServes s p = true → i.f.typ = 4 → (port s p).trained = true →
    (lnk s p).pst ≠ .dark → rxChecks p i s = (true, s1) → leAt i.f.body 0 2 = 1 →
    exec (.identityFrame p i) s = .next (discCheck (identityTake p (peerOf i.f.body) s1)))
  ∧ (∀ (s : State) (p : Nat) (q : Peer) (x : PortRec), port s p = x → x.judged = none → q.refuse = false → q.accept = false →
    (q.heard = false → identityTake p q s = setPort s p { x with
      heard := true, peerChip := q.chip, peerPort := q.port, peerSerial := q.serial, peerFw := q.fw
      peerVariant := q.variant, peerPartition := q.partition })
    ∧ (∀ k, q.heard = true → judge s p q = .quarantine k → ∃ t, identityTake p q s = t
      ∧ (port t p).out = .quarantined ∧ (port t p).cause = k ∧ (port t p).judged = some false ∧ (port t p).opened = false
      ∧ (lnk t p).pst = .quarantined ∧ (port t p).peerSerial = q.serial)
    ∧ (q.heard = true → judge s p q = .accept → ∃ t, identityTake p q s = t
      ∧ (port t p).out = .accepted ∧ (port t p).judged = some true ∧ (port t p).peerSerial = q.serial
      ∧ lnk t p = lnk s p ∧ t = { s with fab := t.fab })
    ∧ (∀ n, q.heard = true → judge s p q = .remap n → ∃ t, identityTake p q s = t
      ∧ (port t p).out = .remapped ∧ (port t p).kind = 1 ∧ (port t p).nbr = n ∧ t = { s with fab := t.fab, mgt := t.mgt })
    ∧ (q.heard = true → judge s p q = .noPlan → ∃ t, identityTake p q s = t
      ∧ (port t p).out = .noPlan ∧ (lnk t p).pst = .dark))
  ∧ (∀ (s : State) (p : Nat) (q : Peer),
    (q.serial = s.flash.serial → judge s p q = .quarantine 5)
    ∧ (q.serial ≠ s.flash.serial → (s.fab.partition = 0xFFF ∨ q.partition ≠ s.fab.partition) → judge s p q = .quarantine 1)
    ∧ (q.serial ≠ s.flash.serial → s.fab.partition ≠ 0xFFF → q.partition = s.fab.partition → s.fab.plan = none →
      judge s p q = .noPlan)
    ∧ (∀ pl, q.serial ≠ s.flash.serial → s.fab.partition ≠ 0xFFF → q.partition = s.fab.partition → s.fab.plan = some pl →
      (q.fabricId ≠ pl.fabricId → judge s p q = .quarantine 4)
      ∧ (q.fabricId = pl.fabricId → q.noPlan = false → agreed s pl q = none → judge s p q = .quarantine 2)
      ∧ (q.fabricId = pl.fabricId → q.noPlan = false → (agreed s pl q).isSome = true →
        (s.fab.division.getD p 0).toNat / 64 = 2 → judge s p q = .accept)))
  ∧ (∀ (s : State) (p : Nat), p < 32 → (port s p).out = .quarantined → (port s p).trained = true →
    exec (.quarantineDarkTimer p) s = .next (setPort s p { port s p with trained := false, light := false }))
  ∧ (∀ (s : State), s.fab.disc.running = true → exec .discoveryTimeout s = .next (discEnd true s))
  ∧ (∀ (s : State) (c : Nat × Nat × Nat), s.fab.disc.cmd = some c → ∃ t, discEnd true s = t
      ∧ ∀ p ∈ s.fab.disc.ports, (port s p).out = .pending → (port t p).out = .noLight ∧ (lnk t p).pst = .dark)
  ∧ (∀ (s : State) (timeout : Bool), s.fab.disc.cmd = none → (s.spring.started.contains 11 = false ∨ s.spring.done.contains 11 = true) →
    ∃ t, discEnd timeout s = t ∧ t.fab.disc.running = false ∧ t.fab.disc.endRt = rtNow s
      ∧ (∀ p ∈ s.fab.disc.ports, (port s p).out = .pending → (port s p).light = false → (port t p).out = .noLight)
      ∧ (∀ p, (port s p).out ≠ .pending → port t p = port s p)
      ∧ (s.flash.planPending = true → (∀ p ∈ divPorts s, p ∈ s.fab.disc.ports) →
        t.fab.plan = s.flash.plan ∧ t.flash.planPending = false)
      ∧ ((∃ p ∈ divPorts s, p ∉ s.fab.disc.ports) → t.fab.plan = s.fab.plan ∧ t.flash = s.flash)
      ∧ t = { s with fab := t.fab, flash := t.flash, rtb := t.rtb, mgt := t.mgt })

/-- Requests and answers (R313, R314, R425, R427, R428, R460, R461). A delivered WRITE or READ is carried out after its
checks and answered; one that a check refuses, or whose frame was not opened, is logged and NACKed. An answer ends its
transaction: data go to the DMA that waits, a NACK and a timeout are a REMOTE fault of it. A packet for another module goes
on with one hop less, or is dropped and logged. -/
def Obligations.PacketsAreServedAnsweredAndForwarded : Prop :=
  (∀ (s u : State) (l : Nat) (q : RxPkt), PktAt 1 l q s → dfbGrants s q.pkt.offset = true →
    (targetWrite (packetSrc s q) q.realm q.pkt.offset q.pkt.payload (inPop q s) = (.ack, u) →
      ∃ t, exec (.write l) s = .next (sendAnswer (answerPacket t q.pkt.src q.pkt.tag .ack) q.realm t)
        ∧ t = landWrite 1 q.realm q.pkt.offset q.pkt.payload.length q.stamp
          (landWrite 0 q.realm q.pkt.offset q.pkt.payload.length q.stamp u))
    ∧ (∀ k, targetWrite (packetSrc s q) q.realm q.pkt.offset q.pkt.payload (inPop q s) = (.nack k, u) →
      ∃ t, exec (.write l) s = .next (sendAnswer (answerPacket t q.pkt.src q.pkt.tag (.nack k)) q.realm t)
        ∧ t = remoteDenied q.pkt.src q.pkt.offset k u))
  ∧ (∀ (s u : State) (l : Nat) (q : RxPkt) (errs : List (Nat × Nat)), PktAt 3 l q s → dfbGrants s q.pkt.offset = true →
    (∀ b p, targetRead (packetSrc s q) q.realm q.pkt.offset q.pkt.len (applyErrs errs (inPop q s)) = (.data b p, u) →
      exec (.read l errs) s = .next (sendAnswer (answerPacket u q.pkt.src q.pkt.tag (.data b p)) q.realm u))
    ∧ (∀ k, targetRead (packetSrc s q) q.realm q.pkt.offset q.pkt.len (applyErrs errs (inPop q s)) = (.nack k, u) →
      ∃ t, exec (.read l errs) s = .next (sendAnswer (answerPacket t q.pkt.src q.pkt.tag (.nack k)) q.realm t)
        ∧ t = remoteDenied q.pkt.src q.pkt.offset k u))
  ∧ (∀ (s : State) (l : Nat) (q : RxPkt), inFirst s l = some q → q.pkt.kind = 1 → isOwn s q.pkt.dst = true →
    q.opened = false → ∃ t, exec (.write l) s = .next (sendAnswer (answerPacket t q.pkt.src q.pkt.tag (.nack (realmCheck q.pkt)))
      0 t) ∧ t = remoteDenied q.pkt.src q.pkt.offset (realmCheck q.pkt) (inPop q s))
  ∧ (∀ (s : State) (l d c sl qn : Nat) (q : RxPkt) (x : Txn), q.opened = true → inFirst s l = some q →
    isOwn s q.pkt.dst = true → txnOf (inPop q s) q.pkt.tag = some x → x.who = .dma d c sl qn →
    (q.pkt.kind = 2 → exec (.writeAck l) s = .next (txnEnd x (inPop q s)))
    ∧ (∀ errs, q.pkt.kind = 4 → exec (.readData l errs) s = .next (dmaData d c sl qn (x.into.getD 0) q.pkt.payload
        (q.pkt.aux % 2 == 1) (applyErrs errs (txnEnd x (inPop q s)))))
    ∧ (q.pkt.kind = 7 → (dmaHead (txnEnd x (inPop q s)) d c sl qn).isSome = true →
      exec (.nack l) s = .next (dmaFault d c sl qn 4 (txnEnd x (inPop q s))))
    ∧ (q.pkt.kind = 7 → dmaHead (txnEnd x (inPop q s)) d c sl qn = none →
      exec (.nack l) s = .next (txnEnd x (inPop q s))))
  ∧ (∀ (s : State) (l p r no : Nat) (q : RxPkt) (x : Txn), q.opened = true → inFirst s l = some q →
    isOwn s q.pkt.dst = true → txnOf (inPop q s) q.pkt.tag = some x → x.who = .pull p r no →
    (q.pkt.kind = 2 → exec (.writeAck l) s = .next (txnEnd x (inPop q s)))
    ∧ (∀ errs, q.pkt.kind = 4 → exec (.readData l errs) s = .next (pullData p r no (x.into.getD 0) q.pkt.payload
        (q.pkt.aux % 2 == 1) (applyErrs errs (txnEnd x (inPop q s)))))
    ∧ (∀ y, q.pkt.kind = 7 → pullOf s p r no = some y →
      exec (.nack l) s = .next (pullFail y stTimeout (txnEnd x (inPop q s)))))
  ∧ (∀ (s : State) (l : Nat) (q : RxPkt), inFirst s l = some q → isOwn s q.pkt.dst = true →
    txnOf (inPop q s) q.pkt.tag = none → q.opened = true →
    (q.pkt.kind = 2 → exec (.writeAck l) s = .next (inPop q s)) ∧ (q.pkt.kind = 7 → exec (.nack l) s = .next (inPop q s)))
  ∧ (∀ (s u : State) (l : Nat) (q : RxPkt) (g : Sig) (w : Nat), PktAt 5 l q s → w = q.pkt.aux2.toNat % 2 ^ 32 →
    g = { slot := q.pkt.slot, die := if w.testBit 31 = true then w / 2 ^ 28 % 8 else q.pkt.die, entry := w % 2048,
          amount := w / 2 ^ 24 % 16 + 1, step := q.pkt.step, fill := false, src := (3, 0, 0) } →
    (bindOf s q.pkt.slot = some q.realm → sigTake g s = some u → exec (.signal l) s = .next (inPop q u))
    ∧ (bindOf s q.pkt.slot = some q.realm → sigTake g s = none → exec (.signal l) s = .next s)
    ∧ (bindOf s q.pkt.slot ≠ some q.realm → exec (.signal l) s = .next (remoteDenied q.pkt.src q.pkt.offset 4 (inPop q s))))
  ∧ (∀ (s u : State) (l : Nat) (q : RxPkt) (port : Option Nat), inFirst s l = some q → isOwn s q.pkt.dst = false →
    q.opened = true →
    (2 ≤ q.pkt.hops → sendPacket { q.pkt with hops := q.pkt.hops - 1 } q.realm q.red q.nf (inPop q s) = some (port, u) →
      exec (.packetForward l) s = .next (dfbCount (linkDie s l) 0 u))
    ∧ (2 ≤ q.pkt.hops → sendPacket { q.pkt with hops := q.pkt.hops - 1 } q.realm q.red q.nf (inPop q s) = none →
      exec (.packetForward l) s = .next (routeDrop q 0x10 (inPop q s)))
    ∧ (q.pkt.hops ≤ 1 → exec (.packetForward l) s = .next (routeDrop q 0x11 (inPop q s))))
  ∧ (∀ (s : State) (tag : W32) (x : Txn), txnOf s tag = some x → x.port = none →
    exec (.remoteTransactionTimeout tag) s = .next (txnFault x s))
  ∧ (∀ (s : State) (tag : W32) (x : Txn) (l : Nat), txnOf s tag = some x → x.port = some l → carries s l x = true →
    (∀ op sl d m, x.who ≠ .col d sl op m) → (∀ p r no, x.who ≠ .pull p r no) → (∀ d c sl qn, x.who = .dma d c sl qn → dmaHead s d c sl qn = none) →
    ∃ t, exec (.remoteTransactionTimeout tag) s = .next t ∧ (lnk t l).unacked = [] ∧ (lnk t l).txSeq = 0
      ∧ (lnk t l).rxSeq = 0 ∧ (lnk t l).rxAny = false ∧ t.fab.txns = s.fab.txns.erase x)

/-- Collective packets (R433, R434, R435, R436, R439, R460). A REDUCE, COUNT or BARRIER packet for a slot of another realm
is refused; for the slot's current step it joins its running instance, or waits for it; for the next step it waits; for any
other it is a STEP fault; one for a step that is being aborted is dropped. A REDUCE is acknowledged. The packet of a closing
round joins that round. -/
def Obligations.CollectivePacketsJoinTheirInstances : Prop :=
  (∀ (s : State) (l : Nat) (q : RxPkt) (errs : List (Nat × Nat)) (u : State), colWorks s q.pkt.die = true →
    bindOf s q.pkt.slot = some q.realm →
    (PktAt 6 l q s → u = colTake q (applyErrs errs (inPop q s)) →
      exec (.reduce l errs) s = .next (sendAnswer (answerPacket u q.pkt.src q.pkt.tag .ack) q.realm u))
    ∧ (PktAt 8 l q s → exec (.barrier l) s = .next (colTake q (inPop q s)))
    ∧ (PktAt 9 l q s → exec (.count l) s = .next (colTake q (inPop q s))))
  ∧ (∀ (s : State) (l : Nat) (q : RxPkt), colWorks s q.pkt.die = true → bindOf s q.pkt.slot ≠ some q.realm →
    (∀ errs, PktAt 6 l q s → ∃ t, exec (.reduce l errs) s = .next (sendAnswer (answerPacket t q.pkt.src q.pkt.tag (.nack 4))
        q.realm t) ∧ t = remoteDenied q.pkt.src q.pkt.offset 4 (inPop q s))
    ∧ (PktAt 8 l q s → exec (.barrier l) s = .next (remoteDenied q.pkt.src q.pkt.offset 4 (inPop q s)))
    ∧ (PktAt 9 l q s → exec (.count l) s = .next (remoteDenied q.pkt.src q.pkt.offset 4 (inPop q s))))
  ∧ (∀ (s : State) (q : RxPkt) (j : Job), jobAt s q.pkt.slot = some j →
    ((j.sigDrop = true ∨ j.aborting = true) → colTake q s = s)
    ∧ (j.sigDrop = false → j.aborting = false → q.pkt.step = BitVec.ofNat 8 ((curStep s q.pkt.slot).toNat + 1) →
      colTake q s = { s with fab := { s.fab with early := s.fab.early ++ [q] } })
    ∧ (j.sigDrop = false → j.aborting = false → q.pkt.step ≠ BitVec.ofNat 8 (curStep s q.pkt.slot).toNat →
      q.pkt.step ≠ BitVec.ofNat 8 ((curStep s q.pkt.slot).toNat + 1) →
      colTake q s = colFault q.pkt.die q.pkt.slot q.pkt.aux (faultM q.pkt) 7 s)
    ∧ (∀ st, j.sigDrop = false → j.aborting = false → j.step = some st → q.pkt.step = BitVec.ofNat 8 st.num.toNat →
      (q.pkt.kind = 8 → q.pkt.aux = 0xFFFF → j.sol = .closing →
        colTake q s = closeAdvance 16 q.pkt.slot (closePacket q s))
      ∧ (q.pkt.kind = 8 → q.pkt.aux = 0xFFFF → j.sol = .none →
        colTake q s = { s with fab := { s.fab with early := s.fab.early ++ [q] } })
      ∧ (q.pkt.kind ≠ 8 → opOn j q.pkt.die q.pkt.aux = none →
        colTake q s = colFault q.pkt.die q.pkt.slot q.pkt.aux (faultM q.pkt) 1 s)
      ∧ (∀ y o, q.pkt.kind ≠ 8 → opOn j q.pkt.die q.pkt.aux = some o → runFor s q.pkt = some y →
        colTake q s = colPacket y q (colCount q.pkt.die (2 + q.pkt.slot) (units32 q.pkt.payload.length) s))
      ∧ (∀ o, q.pkt.kind = 9 → opOn j q.pkt.die q.pkt.aux = some o → runFor s q.pkt = none →
        colTake q s = { s with fab := { s.fab with early := s.fab.early ++ [q] } })))

/-- Collective instances (R257, R341, R343, R431, R432, R433, R434, R436, R439). An instance that is ready takes its waits and runs;
one outside its group faults. Reduce-scatter sends a chunk to every other member and adds what has come; all-gather sends its
own to all and places it; all-to-all tells the counts first; SEND and RING send to their peer, BARRIER starts its rounds, and
BUDDY asks for both headers; a push that a Solstice held back starts without its waits. A complete instance leaves, is marked done, and sends its signal. -/
def Obligations.CollectiveInstancesRun : Prop :=
  (∀ (s t : State) (d sl op m : Nat) (errs : List (Nat × Nat)) (x : ColCtx) (y : ColRun), x.g.length ≤ x.r →
    (ColAt 1 d sl op m errs x y t s → exec (.colRs d sl op m errs) s = .next (colFail y 1 t))
    ∧ (ColAt 2 d sl op m errs x y t s → exec (.colAg d sl op m errs) s = .next (colFail y 1 t))
    ∧ (ColAt 3 d sl op m errs x y t s → exec (.colA2a d sl op m errs) s = .next (colFail y 1 t)))
  ∧ (∀ (s t t1 t2 : State) (d sl op m : Nat) (errs : List (Nat × Nat)) (x : ColCtx) (y : ColRun),
    ColAt 1 d sl op m errs x y t s → x.r < x.g.length → chunksGood x.o x.g.length = true →
    runAll (others x) (fun k u => thenRun
        (colRead x d (mbAddr x.o x.o.src m + chunkOff x.o k.1) (colBytes x.o.dtype (countAt x.o k.1)) u).2
        (colSendReduce x y k.2
          (colRead x d (mbAddr x.o x.o.src m + chunkOff x.o k.1) (colBytes x.o.dtype (countAt x.o k.1)) u).1)) t = (t1, none) →
    rsAdvance x (x.g.length + 1) { y with sent := true } t1 = (t2, none) →
    exec (.colRs d sl op m errs) s = .next (takeEarly d sl op m x.st.num t2.fab.early t2))
  ∧ (∀ (s t t1 t2 t3 : State) (d sl op m : Nat) (errs : List (Nat × Nat)) (x : ColCtx) (y : ColRun) (b : List Byte),
    ColAt 2 d sl op m errs x y t s → x.r < x.g.length → chunksGood x.o x.g.length = true →
    colRead x d (mbAddr x.o x.o.src m) (colBytes x.o.dtype (countAt x.o x.r)) t = (b, t1, none) →
    runAll (others x) (fun k v => colSendWrites y x.j.realm k.2.chip (dstOn v k.2 op m + chunkOff x.o x.r) b none v) t1
      = (t2, none) →
    colWrite x d (mbAddr x.o x.o.dst m + chunkOff x.o x.r) b t2 = (t3, none) →
    exec (.colAg d sl op m errs) s = .next (takeEarly d sl op m x.st.num (markSent y t3).fab.early (markSent y t3)))
  ∧ (∀ (s t : State) (d sl op m : Nat) (errs : List (Nat × Nat)) (x : ColCtx) (y : ColRun),
    ColAt 3 d sl op m errs x y t s → x.r < x.g.length → chunksGood x.o x.g.length = true →
    (countAt x.o x.r ≠ countFrom x.o x.g.length x.r → exec (.colA2a d sl op m errs) s = .next (colFail y 6 t))
    ∧ (∀ t1 b t2, x.g.length = 1 → countAt x.o 0 = countFrom x.o 1 0 → x.r = 0 →
      colRead x d (mbAddr x.o x.o.src m) (colBytes x.o.dtype (countAt x.o 0)) t = (b, t1, none) →
      colWrite x d (mbAddr x.o x.o.dst m) b t1 = (t2, none) →
      exec (.colA2a d sl op m errs) s = .next (takeEarly d sl op m x.st.num (markSent y t2).fab.early (markSent y t2))))
  ∧ (∀ (s t t1 t2 : State) (d sl op m : Nat) (errs : List (Nat × Nat)) (x : ColCtx) (y : ColRun), x.r < x.g.length →
    chunksGood x.o x.g.length = true →
    (ColAt 4 d sl op m errs x y t s → sendTo x y (peerRank x) x.o.len t = (t1, none) →
      t2 = takeEarly d sl op m x.st.num t1.fab.early t1 →
      exec (.colSend d sl op m errs) s = .next (
        if ∃ z, runAt t2 d sl op m = some z ∧ z.sent = true ∧ z.signalled = false then colQuiet d sl op m t2 else t2))
    ∧ (ColAt 5 d sl op m errs x y t s → sendTo x y (peerRank x) (countAt x.o x.r) t = (t1, none) →
      t2 = takeEarly d sl op m x.st.num t1.fab.early t1 →
      exec (.colRing d sl op m errs) s = .next (
        if ∃ z, runAt t2 d sl op m = some z ∧ z.sent = true ∧ z.signalled = false then colQuiet d sl op m t2 else t2)))
  ∧ (∀ (s t t1 : State) (d sl op m : Nat) (x : ColCtx) (y z : ColRun), ColAt 6 d sl op m [] x y t s → x.r < x.g.length →
    chunksGood x.o x.g.length = true → z = { y with own := rtNow t, latest := (rtNow t, ownChip t, d), sent := true } →
    barSend x z t = (t1, none) →
    exec (.colBarrier d sl op m) s = .next (takeEarly d sl op m x.st.num (setRun z t1).fab.early (setRun z t1)))
  ∧ (∀ (s t t1 : State) (d sl op m : Nat) (errs : List (Nat × Nat)) (x : ColCtx) (y : ColRun),
    ColAt 7 d sl op m errs x y t s → (d, op, m) ∉ x.j.pushes → x.r < x.g.length → chunksGood x.o x.g.length = true →
    buddyBegin x { y with sent := true } (setRun { y with sent := true } (addCapture sl true t)) = (t1, none) →
    exec (.colBuddy d sl op m errs) s = .next (takeEarly d sl op m x.st.num t1.fab.early t1))
  ∧ (∀ (s : State) (d sl op m : Nat) (errs : List (Nat × Nat)) (x : ColCtx), colCtx s d sl op = some x → x.o.op = 7 →
    (d, op, m) ∈ x.j.pushes → x.j.sol = .none → x.j.aborting = false → colServes s d = true → runAt s d sl op m = none →
    exec (.colBuddy d sl op m errs) s = .next (pushGo x d sl op m (applyErrs errs s)))
  ∧ (∀ (s : State) (d sl op m : Nat) (x : ColCtx) (y : ColRun), runAt s d sl op m = some y → colCtx s d sl op = some x →
    colWorks s d = true → colComplete s x y = true → y.held = false → x.o.shard = false → (x.o.op = 1 ∨ x.o.op = 2 ∨ x.o.op = 3 ∨ x.o.op = 4
      ∨ x.o.op = 5) →
    ∃ t, exec (.colOpDone d sl op m []) s = .next t ∧ (d, sl, op, m) ∈ t.fab.colDone ∧ runAt t d sl op m = none
      ∧ (∀ r ∈ s.fab.runs, (r.die, r.slot, r.op, r.m) ≠ (d, sl, op, m) → r ∈ t.fab.runs)
      ∧ t.fab.sigs = s.fab.sigs ++ x.o.sig.toList.map (fun g =>
          sigOf d sl g m (BitVec.ofNat 8 x.st.num.toNat) false (3, op, m))
      ∧ t.mem = s.mem ∧ t.scb = s.scb ∧ t.sec = s.sec ∧ t.out = s.out)
  ∧ (∀ (s : State) (d sl op m : Nat) (x : ColCtx) (y : ColRun) (errs : List (Nat × Nat)), runAt s d sl op m = some y →
    colCtx s d sl op = some x → colComplete s x y = false → exec (.colOpDone d sl op m errs) s = .next s)

/-- Sentinel checks, strikes and takeovers (R484, R486, R487, R488, R508): sentinelCheckDone, strikeExpiry and coreTakeover complete.
The end of a check frees its checker and counts it; a mismatch is counted and logged, aborts the step and strikes both cores;
strikes of a day ago expire. A marked core is taken over under its lock while no job is started on its die, while the die
takes its turn, or in a Solstice; the lock is given back unless the control processor restarts. -/
def Obligations.SentinelChecksAndTakeovers : Prop :=
  (∀ (s : State) (d c k : Nat) (x : Check),
    s.rel.checks.find? (fun x => x.die == d && x.cluster == c && x.core == k && x.ended) = some x →
    (∃ t, exec (.sentinelCheckDone d c k none) s = .next t ∧ t.rel.sampled = inc32 s.rel.sampled 1
      ∧ t.rel.mismatch = s.rel.mismatch ∧ t.rel.checks = s.rel.checks.filter (fun y => decide (y ≠ x))
      ∧ (core t d c x.checker).checking = false ∧ t = { s with cmp := t.cmp, rel := t.rel })
    ∧ (∀ y, ∃ t, exec (.sentinelCheckDone d c k (some y)) s = .next t ∧ t.rel.sampled = inc32 s.rel.sampled 1
      ∧ t.rel.mismatch = inc32 s.rel.mismatch 1 ∧ t.sec = s.sec
      ∧ (coreKey d c k, rtNow s) ∈ t.flash.strikes ∧ (coreKey d c x.checker, rtNow s) ∈ t.flash.strikes
      ∧ (∀ j, x.slot < 2 → jobAt s x.slot = some j → j.step.isSome = true → j.sol = .none →
          ∃ j', jobAt t x.slot = some j' ∧ j'.aborting = true)))
  ∧ (∀ (s : State) (d c k : Nat) (diff : Option DiffIn),
    s.rel.checks.find? (fun x => x.die == d && x.cluster == c && x.core == k && x.ended) = none →
    exec (.sentinelCheckDone d c k diff) s = .next s)
  ∧ (∀ (s : State), exec .strikeExpiry s = .next { s with flash := { s.flash with
      strikes := s.flash.strikes.filter fun e => decide ((rtNow s).toNat - e.2.toNat < ticksDay) } })
  ∧ (∀ (s : State) (d c k h : Nat), d < 8 → c < 48 → k < 25 → coreMarked s (coreKey d c k) = true →
    spareLock s d c k = some h → (core s d c k).task = none → (core s d c k).pendTask = none →
    (dieStarted s d (fun _ => true) = false ∨ dieTurns s d = true ∨ dieStarted s d inSolstice = true) →
    (cpRuns s = true →
      exec (.coreTakeover d c k) s = .next (lockDrop h (retireCore d c k (markCause s (coreKey d c k)) s)))
    ∧ (cpRuns s = false → exec (.coreTakeover d c k) s = .next (retireCore d c k (markCause s (coreKey d c k)) s)))
  ∧ (∀ (s : State) (d c k : Nat), d < 8 → c < 48 → k < 25 → coreMarked s (coreKey d c k) = true →
    spareLock s d c k = none → dieStarted s d (fun _ => true) = true →
    exec (.coreTakeover d c k) s = .next (askLock 5 (resCluster d c) s))
  ∧ (∀ (s : State) (d c k h : Nat), coreMarked s (coreKey d c k) = true → spareLock s d c k = some h →
    dieStarted s d (fun _ => true) = true → dieTurns s d = false → dieStarted s d inSolstice = false →
    exec (.coreTakeover d c k) s = .next s)
  ∧ (∀ (s : State) (d c k : Nat), coreMarked s (coreKey d c k) = false → exec (.coreTakeover d c k) s = .next s)

/-- Maintenance locks and Autumn passes (R495, R496, R498, R502, R506, R507, R508): maintLockExpiry, maintActivityEnd,
maintQueuedGrant, autumnSchedule, autumnSlice, autumnSliceDone and clockReplanStep complete while the control processor runs;
while it restarts, locks stay held and passes pause. A lock ends at its bound or with its activity, and a queued request is
granted when nothing conflicts. A pass starts, its slices take their locks and keep their measurements, and the clock steps
toward its declared value. -/
def Obligations.MaintenanceLocksAndAutumnPasses : Prop :=
  (∀ (s : State) (k : Nat) (l : Lock), lockAt s k = some l →
    (l.request = true → cpRuns s = true → l.grantRt.toNat + maxHours s * 3600 * ticksSec ≤ (rtNow s).toNat →
      exec (.maintLockExpiry k) s = .next (logMod 0x7008 l.res [dw k, dw l.cls] (lockDrop k s)))
    ∧ (l.request = true → (rtNow s).toNat < l.grantRt.toNat + maxHours s * 3600 * ticksSec →
      exec (.maintLockExpiry k) s = .next s)
    ∧ (l.host = true → l.request = false → cpRuns s = true → (l.cls ≠ 5 ∨ markedIn s l.res = false) →
      s.mgt.upd.lock ≠ some k → exec (.maintActivityEnd k) s = .next (lockDrop k s))
    ∧ (cpRuns s = false → exec (.maintLockExpiry k) s = .next s ∧ exec (.maintActivityEnd k) s = .next s))
  ∧ (∀ (s : State) (k : Nat) (l : Lock), lockAt s k = some l → l.cls ≠ 0 → l.cls ≠ 1 → l.cls ≠ 3 →
    lockDrop k s = { s with rel := { s.rel with locks := tset none s.rel.locks k none } })
  ∧ (∀ (s : State) (q : LockReq), mntGrants s = true → cpRuns s = true → (heldLocks s).length < 16 → q.cls ≠ 5 →
    s.rel.queue.head? = some q → lockClash q.cls q.res s = none →
    exec .maintQueuedGrant s = .next (askLock q.cls q.res { s with rel := { s.rel with queue := s.rel.queue.erase q } }))
  ∧ (∀ (s t : State) (cls : Nat) (r : W64), mntGrants s = true → cpRuns s = true → (heldLocks s).length < 16 →
    lockClash cls r s = none → ({ cls, res := r } : LockReq) ∉ s.rel.queue → askLock cls r s = t →
    t.rel.queue = s.rel.queue ∧ ∃ k l, k < 16 ∧ lockAt s k = none ∧ lockAt t k = some l ∧ l.cls = cls ∧ l.res = r
      ∧ l.host = false ∧ l.request = false ∧ l.grantRt = rtNow s ∧ ∀ n, n ≠ k → lockAt t n = lockAt s n)
  ∧ (∀ (s : State), cpRuns s = false → exec .maintQueuedGrant s = .next s ∧ exec .autumnSchedule s = .next s
      ∧ (∀ order r i, exec (.autumnSlice order r i) s = .next s) ∧ ∀ r, exec (.autumnSliceDone r) s = .next s)
  ∧ (∀ (s : State), agePeriod s ≠ 0 → s.rel.autumn.running = false → blkOn s baseAGE = true → s.phase = .running →
    cpRuns s = true → exec .autumnSchedule s = .next { s with
      rel := { s.rel with
        autumn := { running := true, number := s.flash.passStarted + 1, stepMhz := s.rel.autumn.stepMhz } }
      flash := { s.flash with passStarted := s.flash.passStarted + 1, passAbandoned := some (s.flash.passStarted + 1) } })
  ∧ (∀ (s : State) (order : Nat) (r : W64) (i : SliceIn), s.rel.autumn.running = true → cpRuns s = true →
    blkOn s baseAGE = true → sliceFits s order r = true → s.rel.autumn.order ≤ order → s.rel.autumn.slices = [] →
    (sweepLock s r = true → exec (.autumnSlice order r i) s = .next (
      let s2 := { s with rel := { s.rel with autumn := { s.rel.autumn with order, slices := [(order, r)] } } }
      if order = 8 then passCommit i s2 else sliceWork order r i s2))
    ∧ (∀ s1, sweepLock s r = false → s1 = askLock 0 r s → sweepLock s1 r = true →
      exec (.autumnSlice order r i) s = .next (
        let s2 := { s1 with rel := { s1.rel with autumn := { s1.rel.autumn with order, slices := [(order, r)] } } }
        if order = 8 then passCommit i s2 else sliceWork order r i s2))
    ∧ (sweepLock s r = false → sweepLock (askLock 0 r s) r = false →
      exec (.autumnSlice order r i) s = .next (askLock 0 r s)))
  ∧ (∀ (s : State) (r : W64) (i : SliceIn), ∃ t, sliceWork 1 r i s = t
      ∧ tget 0 t.rel.autumn.fmax (fld r 40 8) = i.mhz * 97 / 100 / 25 * 25
      ∧ tget 0 t.rel.autumn.vguard (fld r 40 8) = i.mv ∧ tget 0 t.rel.autumn.misses (fld r 40 8) = i.misses
      ∧ t = { s with rel := t.rel })
  ∧ (∀ (s u : State) (r : W64) (order : Nat), cpRuns s = true → s.rel.autumn.slices = [(order, r)] →
    u = { s with rel := { s.rel with autumn :=
      if order = 8 then { stepMhz := s.rel.autumn.stepMhz } else { s.rel.autumn with slices := [] } } } →
    ((∀ e ∈ heldLocks s, e.2.res ≠ r) → exec (.autumnSliceDone r) s = .next u)
    ∧ (∀ k l, heldLocks s = [(k, l)] → l.cls = 0 → l.host = false → l.res = r →
      exec (.autumnSliceDone r) s = .next (lockDrop k u)))
  ∧ (∀ (s : State) (m target : Nat), s.rel.autumn.stepMhz = some m → target = (planInForce s).clockKhz / 1000 →
    exec .clockReplanStep s = .next { s with rel := { s.rel with autumn := { s.rel.autumn with
      stepMhz := if m ≤ target + 25 then none else some (m - 25) } } })

/-- SPDM (R462, R467, R518; message numbers and error codes are those of log entry 35). A served request counts as received and
is answered: the version, the capabilities and the algorithms advance the negotiation, GET_DIGESTS and GET_CERTIFICATE show the
chain of R462, CHALLENGE and GET_MEASUREMENTS are signed at once or later under a token. A request out of order, one of a wrong
slot or index, and one without ATT is answered with an error and changes nothing else; while the CP is away every one is
Busy. -/
def Obligations.SpdmRequestsAreAnswered : Prop :=
  (∀ (s t : State) (b : Nat), t = received s →
    (SpdmAt b 0 s → exec (.getVersion b) s = .next (emit (.spdm 0x04 (bytesOf [0, 1, 0x00, 0x12]))
      { t with mgt := { t.mgt with spdmStage := 1, spdmWait := none } }))
    ∧ (SpdmAt b 1 s → exec (.getCapabilities b) s = .next (emit (.spdm 0x61 (bytesOf [0, 18, 0, 0] ++ leBytes 4 0x36
        ++ leBytes 4 4096 ++ leBytes 4 4096)) { t with mgt := { t.mgt with spdmStage := max 2 t.mgt.spdmStage } }))
    ∧ (∀ asym hash, SpdmAt b 2 s → exec (.negotiateAlgorithms b asym hash) s = .next (emit (.spdm 0x63 (bytesOf [1, 0]
        ++ leBytes 4 0x08 ++ leBytes 4 (asym &&& 0x40).toNat ++ leBytes 4 (hash &&& 0x04).toNat))
        { t with mgt := { t.mgt with spdmStage := 3 } }))
    ∧ (SpdmAt b 3 s → exec (.getDigests b) s = .next (emit (.spdm 0x01 (1 :: sha512 (certChain t))) t))
    ∧ (∀ off len, SpdmAt b 3 s → exec (.getCertificate b 0 off len) s = .next (
        if (certChain t).length ≤ off then spdmError 1 0 t
        else emit (.spdm 0x02 (bytesOf [0, 0] ++ leBytes 2 (slice (certChain t) off (min len 4088)).length
          ++ leBytes 2 ((certChain t).length - off - (slice (certChain t) off (min len 4088)).length)
          ++ slice (certChain t) off (min len 4088))) t))
    ∧ (∀ slot off len, SpdmAt b 3 s → slot ≠ 0 → exec (.getCertificate b slot off len) s = .next (spdmError 1 0 t))
    ∧ (∀ code, SpdmAt b 0 s → code ∉ [0x81, 0x82, 0x83, 0x84, 0xE0, 0xE1, 0xE3, 0xFF] →
        exec (.spdmUnsupportedRequest b code) s = .next (spdmError 7 code t)))
  ∧ (∀ (s t : State) (b : Nat), t = received s → SpdmAt b 0 s →
    (s.mgt.spdmStage = 0 → exec (.getCapabilities b) s = .next (spdmError 4 0 t))
    ∧ (s.mgt.spdmStage < 2 → ∀ asym hash, exec (.negotiateAlgorithms b asym hash) s = .next (spdmError 4 0 t))
    ∧ (s.mgt.spdmStage < 3 → exec (.getDigests b) s = .next (spdmError 4 0 t)))
  ∧ (∀ (s : State) (b : Nat), mctpServes s b = true → cpAway s = true →
    exec (.getVersion b) s = .next (spdmError 3 0 (received s)) ∧ exec (.getDigests b) s = .next (spdmError 3 0 (received s)))
  ∧ (∀ (s t : State) (b slot summary : Nat) (nonce : List Byte) (later : Bool), t = received s → SpdmAt b 3 s →
    (slot = 0 → (summary = 0 ∨ summary = 1 ∨ summary = 0xFF) → blkOn s baseATT = true →
      exec (.challenge b slot summary nonce later) s = .next (
        let q : SpdmReq := { code := 0x83, param := 0, summary, sign := true, nonce }
        if later = true then notReady { q with token := s.freeCtr % 256 } { t with freeCtr := t.freeCtr + 1 }
        else spdmAnswer q t))
    ∧ ((slot ≠ 0 ∨ (summary ≠ 0 ∧ summary ≠ 1 ∧ summary ≠ 0xFF)) →
      exec (.challenge b slot summary nonce later) s = .next (spdmError 1 0 t))
    ∧ (slot = 0 → summary = 0 → blkOn s baseATT = false →
      exec (.challenge b slot summary nonce later) s = .next (spdmError 3 0 t)))
  ∧ (∀ (s t : State) (b index : Nat) (sign later : Bool) (nonce : List Byte), t = received s → SpdmAt b 3 s →
    ((index ≤ 8 ∨ index = 0xFF) → blkOn s baseATT = true →
      exec (.getMeasurements b index sign nonce later) s = .next (
        let q : SpdmReq := { code := 0xE0, param := index, summary := 0, sign, nonce }
        if later = true then notReady { q with token := s.freeCtr % 256 } { t with freeCtr := t.freeCtr + 1 }
        else spdmAnswer q t))
    ∧ (8 < index → index ≠ 0xFF → exec (.getMeasurements b index sign nonce later) s = .next (spdmError 1 0 t)))
  ∧ (∀ (s t : State) (b code token : Nat) (later : Bool), t = received s → SpdmAt b 3 s →
    (s.mgt.spdmWait = none → exec (.respondIfReady b code token later) s = .next (spdmError 4 0 t))
    ∧ (∀ q, s.mgt.spdmWait = some q → (q.code ≠ code ∨ q.token ≠ token) →
      exec (.respondIfReady b code token later) s = .next (spdmError 1 0 t))
    ∧ (∀ q, s.mgt.spdmWait = some q → q.code = code → q.token = token → blkOn s baseATT = true →
      exec (.respondIfReady b code token later) s = .next (if later = true then notReady q t
        else spdmAnswer q { t with mgt := { t.mgt with spdmWait := none } })))
  ∧ (∀ (s : State) (q : SpdmReq), q.code = 0xE0 → q.sign = false → ∃ (t : State) (b : List Byte),
      spdmAnswer q s = emit (.spdm 0x60 b) t ∧ b.take 1 = bytesOf [if q.param = 0 then 8 else 0]
        ∧ t.mem = s.mem ∧ t.cmp = s.cmp ∧ t.mgt = s.mgt)

/-- MCTP control and vendor messages (R515, R517, R518, R527; numbers and codes are those of log entry 35). A packet on a
binding that serves counts as received and is answered; an endpoint identifier that is assignable is kept for its binding, and
nothing else changes. EVENT_READ and JOURNAL_READ return entries as the operator may see them; a packet with a bad PEC is
counted and dropped; a binding that does not serve does nothing. -/
def Obligations.SidebandControlAndVendorMessages : Prop :=
  (∀ (s t : State) (b : Nat), t = received s → mctpServes s b = true →
    (∀ eid, eid ≠ 0 → eid ≠ 0xFF → ∃ u, exec (.setEndpointId b eid) s = .next (emit (.mctp 1 [0, 0, eid, 0]) u)
      ∧ eidOf u b = eid ∧ (∀ a < 3, a ≠ b → eidOf u a = eidOf s a)
      ∧ u = { t with mgt := { t.mgt with
          eidSmbus := u.mgt.eidSmbus, eidPcie0 := u.mgt.eidPcie0, eidPcie1 := u.mgt.eidPcie1 } })
    ∧ (∀ eid, eid = 0 ∨ eid = 0xFF → exec (.setEndpointId b eid) s = .next (emit (.mctp 1 [2]) t))
    ∧ exec (.getEndpointId b) s = .next (emit (.mctp 2 [0, eidOf s b, 0, 0]) t)
    ∧ (∃ l, l.length = 16 ∧ exec (.getEndpointUuid b) s = .next (emit (.mctp 3 (0 :: l)) t))
    ∧ (∀ typ, exec (.getMctpVersionSupport b typ) s = .next (emit (.mctp 4 (
        if typ = 0xFF ∨ typ = 0 then [0, 1, 0xF1, 0xF3, 0xF0, 0] else if typ ∈ [0x01, 0x05, 0x7E] then [0, 0] else [0x80])) t))
    ∧ exec (.getMessageTypeSupport b) s = .next (emit (.mctp 5 [0, 4, 0x00, 0x01, 0x05, 0x7E]) t)
    ∧ exec (.getVendorDefinedMessageSupport b) s = .next (emit (.mctp 6 ([0, 0xFF, 0] ++ leBytes 2 Config.vendorId.toNat)) t)
    ∧ (∀ start a l, cpAway s = false → (s.phase = .running ∨ s.phase = .shutting) → a = max start.toNat (logOldest s) →
        l = logFrom s 0 a 16 → exec (.eventRead b start) s = .next (emit (.vendor 1 (leBytes 4 0
          ++ leBytes 8 (nextIndex a l) ++ l.flatMap (·.2))) t))
    ∧ (∀ start a l, cpAway s = false → a = max start.toNat (journalOldest s) → l = journalFrom s 0 a 16 →
        exec (.journalRead b start) s = .next (emit (.vendor 2 (leBytes 4 0 ++ leBytes 8 (nextIndex a l) ++ l.flatMap (·.2))) t))
    ∧ (∀ start, cpAway s = true → exec (.eventRead b start) s = .next (emit (.vendor 1 (leBytes 4 4)) t)
        ∧ exec (.journalRead b start) s = .next (emit (.vendor 2 (leBytes 4 4)) t)))
  ∧ (∀ (s : State) (b : Nat), mctpServes s b = false →
    exec (.getEndpointId b) s = .next s ∧ exec (.getVersion b) s = .next s ∧ exec (.getTid b) s = .next s
      ∧ (∀ start, exec (.eventRead b start) s = .next s))
  ∧ (∀ (s : State), mctpServes s 0 = true → exec .badPecPacket s = .next { s with mgt := { s.mgt with
      err := inc32 s.mgt.err 1 } })

/-- PLDM Base, Platform and FRU (R516, R518, R521, R529; numbers and codes are those of log entry 35). A request that the
state admits is answered with its data, and changes only the terminus, the event receiver, the buffer size or the event queue
where it sets them. Sensors read the latest sample; a poll acknowledges the oldest record and shows the next. A request of
another type or number is refused, and while the CP is away every type answers NOT_READY. -/
def Obligations.PldmRequestsAreAnswered : Prop :=
  (∀ (s t : State) (b : Nat), t = received s → PldmAt b 0 s →
    (∀ tid, tid ≠ 0 → tid ≠ 0xFF → exec (.setTid b tid) s = .next (emit (.pldm 0 1 0 []) { t with mgt := { t.mgt with
      tid := tid } }))
    ∧ (∀ tid, tid = 0 ∨ tid = 0xFF → exec (.setTid b tid) s = .next (emit (.pldm 0 1 2 []) t))
    ∧ exec (.getTid b) s = .next (emit (.pldm 0 2 0 [s.mgt.tid]) t)
    ∧ (∀ typ, typ ∈ [0, 2, 4, 5] → ∃ m, pldmMinor typ = some m
        ∧ exec (.getPldmVersion b typ) s = .next (emit (.pldm 0 3 0 (bytesOf [0, 0xF0, 0xF0 + m, 0xF1])) t))
    ∧ (∀ typ, typ ∉ [0, 2, 4, 5] → exec (.getPldmVersion b typ) s = .next (emit (.pldm 0 3 0x83 []) t)
        ∧ exec (.getPldmCommands b typ) s = .next (emit (.pldm 0 5 0x83 []) t))
    ∧ exec (.getPldmTypes b) s = .next (emit (.pldm 0 4 0 (leBytes 8 0x35)) t)
    ∧ (∀ typ l, pldmCommands typ = some l →
        exec (.getPldmCommands b typ) s = .next (emit (.pldm 0 5 0 (leBytes 32 (maskOf 256 l.contains))) t)))
  ∧ (∀ (s t : State) (b typ cmd : Nat), t = received s → PldmAt b typ s →
    (∀ l, pldmCommands typ = some l → cmd ∉ l → exec (.pldmUnsupportedCommand b typ cmd) s = .next (emit (.pldm typ cmd 5 []) t))
    ∧ (pldmCommands typ = none → exec (.pldmUnsupportedCommand b typ cmd) s = .next (emit (.pldm typ cmd 0x20 []) t)))
  ∧ (∀ (s t : State) (b : Nat), t = received s → PldmAt b 2 s →
    exec (.getPdrRepositoryInfo b) s = .next (emit (.pldm 2 0x50 0 (leBytes 4 16)) t)
    ∧ (∀ h, 1 ≤ h → h ≤ 16 → exec (.getPdr b h) s = .next (emit (.pldm 2 0x51 0 (leBytes 4 (if h = 16 then 0 else h + 1)
        ++ leBytes 2 (if h ≤ 14 then h else h + 5))) t))
    ∧ (∀ h, 16 < h → exec (.getPdr b h) s = .next (emit (.pldm 2 0x51 0x82 []) t))
    ∧ (∀ id, 1 ≤ id → id ≤ 5 → exec (.getSensorReading b id) s = .next (emit (.pldm 2 0x11 0
        (slice (fit 256 (tget [] s.mgt.samples 0)) (0x0C + 4 * id) 4)) t))
    ∧ (∀ id, 6 ≤ id → id ≤ 14 → exec (.getSensorReading b id) s = .next (emit (.pldm 2 0x11 0
        (slice (fit 256 (tget [] s.mgt.samples 0)) (0x18 + 2 * id) 2)) t))
    ∧ (∀ id, (id = 0 ∨ 14 < id) → exec (.getSensorReading b id) s = .next (emit (.pldm 2 0x11 0x80 []) t))
    ∧ exec (.getStateSensorReadings b 20) s = .next (emit (.pldm 2 0x21 0 (1 :: slice (fit 256 (tget [] s.mgt.samples 0)) 5 1)) t)
    ∧ exec (.getStateSensorReadings b 21) s = .next (emit (.pldm 2 0x21 0 (bytesOf [2,
        leAt (fit 256 (tget [] s.mgt.samples 0)) 6 1 % 2, leAt (fit 256 (tget [] s.mgt.samples 0)) 6 1 / 2 % 2])) t)
    ∧ (∀ id, id ≠ 20 → id ≠ 21 → exec (.getStateSensorReadings b id) s = .next (emit (.pldm 2 0x21 0x80 []) t))
    ∧ (∀ eid, exec (.setEventReceiver b eid) s = .next (emit (.pldm 2 4 0 []) { t with mgt := { t.mgt with evReceiver := eid } }))
    ∧ exec (.eventMessageSupported b) s = .next (emit (.pldm 2 0x0C 0 (bytesOf [2, 4, 1, 0xF0])) t)
    ∧ (∀ n, exec (.eventMessageBufferSize b n) s = .next (emit (.pldm 2 0x0D 0 (leBytes 2 4096)) { t with mgt := { t.mgt with
        evBuf := n } }))
    ∧ (s.mgt.evq = [] → ∀ ack, exec (.pollForPlatformEventMessage b ack) s = .next (emit (.pldm 2 0x0B 0 (zeros 3)) t))
    ∧ (∀ e l, s.mgt.evq = e :: l → exec (.pollForPlatformEventMessage b false) s = .next (emit (.pldm 2 0x0B 0
        ([s.mgt.tid] ++ leBytes 2 1 ++ evBytes e)) t))
    ∧ (∀ e e' l, s.mgt.evq = e :: e' :: l → exec (.pollForPlatformEventMessage b true) s = .next (emit (.pldm 2 0x0B 0
        ([s.mgt.tid] ++ leBytes 2 1 ++ evBytes e')) { t with mgt := { t.mgt with evq := e' :: l } })))
  ∧ (∀ (s t : State) (b : Nat), t = received s → PldmAt b 4 s →
    exec (.getFruRecordTableMetadata b) s = .next (emit (.pldm 4 1 0 (bytesOf [1, 0, 3, 0])) t)
    ∧ exec (.getFruRecordTable b) s = .next (emit (.pldm 4 2 0 (ascii (partNumber s) ++ bytesOf [variantCode s]
        ++ leBytes 8 s.flash.serial.toNat)) t))
  ∧ (∀ (s : State) (b : Nat), mctpServes s b = true → cpAway s = true →
    exec (.getTid b) s = .next (emit (.pldm 0 2 4 []) (received s))
    ∧ exec (.getPdrRepositoryInfo b) s = .next (emit (.pldm 2 0x50 4 []) (received s)))

/-- The sideband update flow (R502, R516, R530, R531, R532; numbers and codes are those of log entry 35). RequestUpdate opens it
under the FW_STAGE lock, the component table and a component prepare it, the parts asked for come in until the component is
whole, and it is verified and applied; when every component has verified the update is staged and the lock released. A request
out of its state is refused and changes nothing; a cancel gives the component or the flow up. -/
def Obligations.SidebandUpdateFlow : Prop :=
  (∀ (s t : State) (b : Nat), t = received s → PldmAt b 5 s →
    exec (.queryDeviceIdentifiers b) s = .next (emit (.pldm 5 1 0 (leBytes 4 12 ++ bytesOf [2] ++ leBytes 2 0 ++ leBytes 2 2
        ++ leBytes 2 Config.vendorId.toNat ++ leBytes 2 0x0100 ++ leBytes 2 2 ++ leBytes 2 0x0880)) t)
    ∧ (∃ l, exec (.getFirmwareParameters b) s = .next (emit (.pldm 5 2 0 l) t) ∧ slice l 8 8 =
        leBytes 4 (bootedSlot s).svn ++ leBytes 4 (bootedSlot s).version.toNat)
    ∧ (∃ l, l.length = 10 ∧ exec (.getStatus b) s = .next (emit (.pldm 5 0x1B 0 l) t) ∧ l.head? = some (BitVec.ofNat 8 (updCode s.mgt.upd.st)))
    ∧ (s.mgt.upd.st = .idle → stageHeld s = false →
        (∀ n, n < 32 → exec (.requestUpdate b n) s = .next (emit (.pldm 5 0x10 2 []) t))
        ∧ (∀ n, 32 ≤ n → s.phase = .running → mntGrants s = true → (heldLocks s).length < 16 → s.flash.staged = none →
          ∃ u, exec (.requestUpdate b n) s = .next (emit (.pldm 5 0x10 0 (zeros 3)) u)
            ∧ u.mgt.upd.st = .learn ∧ u.mgt.upd.chunk = n ∧ stageHeld u = true
            ∧ u = { t with mgt := u.mgt, rel := u.rel, freeCtr := u.freeCtr }))
    ∧ ((s.mgt.upd.st ≠ .idle ∨ stageHeld s = true) → ∀ n, exec (.requestUpdate b n) s = .next (emit (.pldm 5 0x10 0x81 []) t))
    ∧ (s.mgt.upd.st = .idle → (∀ l, exec (.passComponentTable b l) s = .next (emit (.pldm 5 0x13 0x80 []) t))
        ∧ exec (.cancelUpdate b) s = .next (emit (.pldm 5 0x1D 0x80 []) t))
    ∧ (s.mgt.upd.st = .learn → ∀ l, l ≠ [] → (∀ k ∈ l, k = 1 ∨ k = 2) → l.Nodup →
        exec (.passComponentTable b l) s = .next (emit (.pldm 5 0x13 0 (bytesOf [0, 0])) { t with mgt := { t.mgt with
          upd := { s.mgt.upd with expect := l, st := .ready, prev := .learn } } }))
    ∧ (s.mgt.upd.st = .ready → 2 ∈ s.mgt.upd.expect → 2 ∉ s.mgt.upd.done → ∃ l,
        exec (.updateComponent b 2 1024) s = .next (emit (.pldm 5 0x14 0 l) (askData { t with mgt := { t.mgt with
          upd := { s.mgt.upd with st := .download, prev := .ready, comp := 2, size := 1024, data := [] } } })))
    ∧ (s.mgt.upd.st = .ready → 1 ∈ s.mgt.upd.expect → 1 ∉ s.mgt.upd.done → ∀ n, 0 < n → n ≤ 28 * mib → ∃ l,
        exec (.updateComponent b 1 n) s = .next (emit (.pldm 5 0x14 0 l) (askData (setUpd (setFwSlot t (stageSlot s) {})
          { s.mgt.upd with st := .download, prev := .ready, comp := 1, size := n, data := [] }))))
    ∧ ((s.mgt.upd.st = .download ∨ s.mgt.upd.st = .verify ∨ s.mgt.upd.st = .apply) →
        exec (.cancelUpdateComponent b) s = .next (emit (.pldm 5 0x1C 0 []) { t with mgt := { t.mgt with upd := { s.mgt.upd with
          st := .ready, prev := s.mgt.upd.st, comp := 0, data := [], done := s.mgt.upd.done.erase s.mgt.upd.comp
          image := if s.mgt.upd.comp = 1 then none else s.mgt.upd.image
          profiles := if s.mgt.upd.comp = 2 then none else s.mgt.upd.profiles } } }))
    ∧ (s.mgt.upd.st ≠ .idle → s.mgt.upd.lock = none → exec (.cancelUpdate b) s = .next (emit (.pldm 5 0x1D 0 (zeros 9))
        { t with mgt := { t.mgt with upd := { prev := s.mgt.upd.st, reason := 2 } } }))
    ∧ (s.flash.staged = none → exec (.activateFirmware b) s = .next (emit (.pldm 5 0x1A 4 []) t))
    ∧ (∀ x, s.flash.staged = some x → s.phase = .running → shutBlocked s = false → ∃ l, exec (.activateFirmware b) s = .next
        (emit (.pldm 5 0x1A 0 l) (shutStart .respring false none 0 (activateStaged x (updEnd 1 t)))))
    ∧ (∀ x, s.flash.staged = some x → s.phase = .stopped → ∃ l, exec (.activateFirmware b) s = .next
        (emit (.pldm 5 0x1A 0 l) (startSpring true (activateStaged x (updEnd 1 t))))))
  ∧ (∀ (s : State) (u : Upd), s.mgt.upd = u → domOn s 77 = true → cpAway s = false →
    (∀ data, u.st = .download → u.data.length < u.size → data.length = min u.chunk (u.size - u.data.length) →
      exec (.requestFirmwareData data) s = .next (
        let t := { s with mgt := { s.mgt with
          rx := inc32 s.mgt.rx ((data.length + 68) / 64), upd := { u with data := u.data ++ data } } }
        if u.data.length + data.length < u.size then askData t else t))
    ∧ (u.st = .download → u.size ≤ u.data.length → exec .transferComplete s = .next (emit (.pldm 5 0x16 0 [0])
        { s with mgt := { s.mgt with upd := { u with st := .verify, prev := .download } } }))
    ∧ (∀ x k, u.st = .verify → u.comp = 2 → setFault s (setRecords u.data) = some k →
      exec (.verifyComplete x) s = .next (emit (.pldm 5 0x17 0 (bytesOf [1])) (logMod 0x600B 0 [2, dw k] { s with mgt := { s.mgt with
        upd := { u with
          st := .ready, prev := .verify, comp := 0, data := [], done := [], image := none, profiles := none } } })))
    ∧ (∀ x k, u.st = .verify → u.comp = 1 →
      imageFault (setFwSlot s (stageSlot s) { x with unbootable := false }) x u.size = some k → ∃ t,
      exec (.verifyComplete x) s = .next (emit (.pldm 5 0x17 0 (bytesOf [1])) t) ∧ t.mgt.upd.st = .ready ∧ t.mgt.upd.done = []
        ∧ t.flash.staged = s.flash.staged)
    ∧ (∀ x, u.st = .verify → u.comp = 2 → setFault s (setRecords u.data) = none → 1 ∈ u.expect → 1 ∉ u.done →
      exec (.verifyComplete x) s = .next (emit (.pldm 5 0x17 0 (bytesOf [0])) { s with mgt := { s.mgt with upd := { u with
        st := .apply, prev := .verify, data := [], done := u.done ++ [2], profiles := some (setRecords u.data) } } }))
    ∧ (∀ x, u.st = .verify → u.comp = 2 → setFault s (setRecords u.data) = none → u.expect = [2] → ∃ t,
      exec (.verifyComplete x) s = .next (emit (.pldm 5 0x17 0 (bytesOf [0])) t) ∧ t.mgt.upd.st = .apply ∧ t.mgt.upd.lock = none
        ∧ t.flash.staged = some { image := u.image.isSome, slotB := stageSlot s, svn := (u.image.map (·.svn)).getD 0,
                                  profiles := some (setRecords u.data) })
    ∧ (u.st = .apply → exec .applyComplete s = .next (emit (.pldm 5 0x18 0 (bytesOf [0])) { s with mgt := { s.mgt with
        upd := { u with st := .ready, prev := .apply, comp := 0 } } })))

/-- Telemetry and the event log (R469, R470, R471, R519, R522, R523, R525, R529). A sample sets the eight sets, notes the hottest junction and adds to the
power window; the end of a window delivers its means while both tenant realms are open. The transfer gives every queued event the next
sequence number and puts it at the head of the log, the journal taking Errors and Criticals, and logs what was lost. Raising an
event puts a record into the hardware queue, or counts it as lost when that is full. -/
def Obligations.TelemetryAndTheEventLog : Prop :=
  (∀ (s : State) (i : TelIn), domOn s 78 = true → exec (.telemetrySample i) s = .next (
    let u := gatherPower i (gatherCnt i { s with sup := { s.sup with pins := { s.sup.pins with
      flow0 := i.flow0, flow1 := i.flow1, tin0 := i.tin0, tin1 := i.tin1, vin := i.vin, tout0 := i.tout0, tout1 := i.tout1 } } })
    noteHottest i.tj { u with mgt := { u.mgt with samples := telSets u i, sampleRt := rtNow s } }))
  ∧ (∀ (s : State) (i : TelIn), gatherPower i (gatherCnt i s) = { s with mgt := (gatherPower i (gatherCnt i s)).mgt }
    ∧ (gatherPower i (gatherCnt i s)).mgt.windowCnt = s.mgt.windowCnt + 1
    ∧ (tenantOpen s = false → (gatherPower i (gatherCnt i s)).mgt.cntAcc = []))
  ∧ (∀ (s : State), domOn s 78 = true → s.mgt.windowCnt ≠ 0 →
    (powerCoarse s = false → exec .powerWindowDelivery s = .next { s with mgt := { s.mgt with window := [], windowCnt := 0 } })
    ∧ (powerCoarse s = true → ∃ t, exec .powerWindowDelivery s = .next t
      ∧ (∀ k < 162, tget 0 t.mgt.coarse k = windowMean s.mgt k) ∧ t.mgt.window = [] ∧ t.mgt.windowCnt = 0
      ∧ t = { s with mgt := { s.mgt with coarse := t.mgt.coarse, window := [], windowCnt := 0 } }))
  ∧ (∀ (s : State), domOn s 78 = true → s.mgt.windowCnt = 0 → exec .powerWindowDelivery s = .next s)
  ∧ (∀ (s : State), cpRuns s = true → domOn s 76 = true → s.mgt.lost = 0 → s.mgt.log.length + s.mgt.hwq.length ≤ 8192 →
    ∃ t, exec .eventLogTransfer s = .next t ∧ t.mgt.hwq = [] ∧ t.flash.evSeq = s.flash.evSeq + s.mgt.hwq.length
      ∧ t.mgt.log = ((s.mgt.hwq.zip (List.range s.mgt.hwq.length)).map fun e =>
          ({ e.1 with seqNo := s.flash.evSeq + e.2 } : Ev)).reverse ++ s.mgt.log)
  ∧ (∀ (s : State) (e : Ev), s.mgt.hwq = [e] → s.mgt.lost = 0 → cpRuns s = true → domOn s 76 = true →
    ∃ t, exec .eventLogTransfer s = .next t
      ∧ t.mgt.log = ({ e with seqNo := s.flash.evSeq } :: s.mgt.log).take 8192
      ∧ t.flash.journal = (if journalled e = true then (Journal.event { e with seqNo := s.flash.evSeq } :: s.flash.journal).take 32768
          else s.flash.journal)
      ∧ t.mem = s.mem ∧ t.cmp = s.cmp ∧ t.sec = s.sec)
  ∧ (∀ (s : State) (code : Nat) (unit : W64) (data : List W64), ∃ t, logMod code unit data s = t
      ∧ t = { s with mgt := { s.mgt with hwq := t.mgt.hwq, lost := t.mgt.lost } }
      ∧ (s.mgt.hwq.length < 1024 → t.mgt.lost = s.mgt.lost ∧ t.mgt.hwq = s.mgt.hwq ++ [{
          code := BitVec.ofNat 16 code, realm := 0xFF, job := 0xFFFF, count := 1, seqNo := 0, rt := rtNow s, unit
          data := data.take 12 }])
      ∧ (1024 ≤ s.mgt.hwq.length → t.mgt.lost = s.mgt.lost + 1 ∧ t.mgt.hwq = s.mgt.hwq))

/-- R33: the orderly shutdown powers the domains off in the exact reverse of the order of R32, which is written out here. At item 6
of the shutdown the whole reversed order is put to work and its first domain begins Disabling; whenever the domain at its front is
Off, the next one begins Disabling, so that the order is that of the list. -/
def Obligations.ShutdownPowersOffInTheReverseOrder : Prop :=
  (∀ s : State, powerOrder s = (([79, 72, 73, 76, 77, 74, 75, 78, 71, 68, 69, 70] : List Nat)
      ++ (List.range 8).flatMap (fun d => [8 * d + 5, 8 * d + 4, 8 * d + 6, 8 * d + 7, 8 * d, 8 * d + 1, 8 * d + 2, 8 * d + 3])
      ++ [64, 65, 66, 67]).filter fun n => domPresent s n)
  ∧ (∀ (s : State) (h : Shutdown) (n : Nat) (ns : List Nat), s.shut = some h → h.item = 6 →
    (powerOrder s).reverse = n :: ns → (dom s n).st = .on → ∃ t, exec .departurePhaseEnd s = .next t
      ∧ (dom t n).st = .disabling ∧ (∀ m, m ≠ n → dom t m = dom s m)
      ∧ t.pseq = some { up := false, todo := (powerOrder s).reverse, why := .shutdown })
  ∧ (∀ (s : State) (n m : Nat) (ns : List Nat), s.pseq = some { up := false, todo := n :: m :: ns, why := .shutdown } →
    domPresent s n = true → (dom s n).st = .disabling → (dom s m).st = .on → n ≠ m → ∃ t,
      exec (.domainTransitionDone n) s = .next t ∧ dom t n = {} ∧ (dom t m).st = .disabling
        ∧ (∀ k, k ≠ n → k ≠ m → dom t k = dom s k) ∧ t.pseq = some { up := false, todo := m :: ns, why := .shutdown })

/-- R36: DOMAIN_CONTROL acts only on PD0 to PD63, PD64 to PD67, PD69 and PD70. A request that names any other domain completes with
BAD_ARG, and no DOMAIN_CONTROL, whatever it names and however it ends, changes another domain. (With nothing waiting behind it:
the sequences that wait may be of the shutdown.) -/
def Obligations.DomainControlActsOnlyOnItsDomains : Prop :=
  (∀ (s : State) (c : Cmd) (e : InFlight) (n : Nat), FromSteward 0x0106 7 c e s → blkOn s baseSEC = true →
    e.desc.a1.toNat < 2 ^ 16 → e.desc.a2.toNat < 2 → n ∈ namedDoms e.desc → 68 ≤ n → n ≠ 69 → n ≠ 70 →
    ∃ k, (k = 0 ∨ k = 1) ∧ exec (.domainControl c) s = .next (endCmd c.port c.ring e (failWith stBadArg k) s))
  ∧ (∀ (s t : State) (c : Cmd) (n : Nat), s.pwait = [] → exec (.domainControl c) s = .next t → 68 ≤ n → n ≠ 69 → n ≠ 70 →
    dom t n = dom s n)

/-- R523: an event that a rule folds within an interval advances COUNT of the first record with its CODE, UNIT and JOB within that
interval, in the hardware queue or else in the log; RT and DATA of that record stay, and COUNT saturates at 65,535. Where there is no
such record, the event takes a place in the queue with COUNT 1. -/
def Obligations.EventsFoldIntoTheFirstRecord : Prop :=
  ∀ (s t : State) (fold code : Nat) (realm : Byte) (job : W16) (unit : W64) (data : List W64) (hit : Ev → Prop), 0 < fold →
    t = logFold fold code realm job unit data s →
    (∀ x, hit x ↔ x.code = BitVec.ofNat 16 code ∧ x.unit = unit ∧ x.job = job ∧ (rtNow s).toNat - fold ≤ x.rt.toNat) →
    t = { s with mgt := t.mgt, jobA := t.jobA, jobB := t.jobB }
    ∧ (∀ e pre post, s.mgt.hwq = pre ++ e :: post → (∀ x ∈ pre, ¬hit x) → hit e →
      t.mgt = { s.mgt with hwq := pre ++ { e with count := min 65535 (e.count + 1) } :: post })
    ∧ (∀ e pre post, s.mgt.log = pre ++ e :: post → (∀ x ∈ s.mgt.hwq ++ pre, ¬hit x) → hit e →
      t.mgt = { s.mgt with log := pre ++ { e with count := min 65535 (e.count + 1) } :: post })
    ∧ ((∀ x ∈ s.mgt.hwq ++ s.mgt.log, ¬hit x) → s.mgt.hwq.length < 1024 → t.mgt = { s.mgt with hwq := s.mgt.hwq ++ [{
        code := BitVec.ofNat 16 code, realm, job, count := 1, seqNo := 0, rt := rtNow s, unit, data := data.take 12 }] })

/-- The LPDDR5X map of a die (R292 to R295): on a die with no retired channel exactly the first 224,999,961,600 bytes are backed, or
that share of each half in two-realm mode; two offsets of different granules never share a place; and every place lies in the data
bursts of its group, below the unused end of the channel. -/
def Obligations.MemoryMapKeepsGranulesApart : Prop :=
  (∀ (s : State) (d o : Nat), o < 2 ^ 38 → (∀ q < 80, chanRetired s d q = false) →
    (backed s d o = true ↔ if twoRealm s = true then o % 2 ^ 37 < 112499980800 else o < 224999961600))
  ∧ (∀ (s : State) (d a b : Nat), a < 2 ^ 38 → b < 2 ^ 38 → backed s d a = true → backed s d b = true →
    rawPlace s d a = rawPlace s d b → a / 64 = b / 64)
  ∧ (∀ (s : State) (d o stk ch raw : Nat), o < 2 ^ 38 → backed s d o = true → rawPlace s d o = (stk, ch, raw) →
    stk / 5 = d ∧ ch < 16 ∧ raw % 1024 + 64 ≤ 960 ∧ raw / 1024 < 2929687 ∧ tget .present (stack s stk).chans ch ≠ .retired)

/-- One step: the command at the front of the queue runs on the state with the queue's rest; on an empty queue one tick of Rack
Time passes, and a stack in training and a key sweep go on (the idle step is the model's choice, log entry 7). -/
def Obligations.StepRunsTheFrontCommand : Prop :=
  (∀ (c : Instr) (rest : List Instr) (s : State), s.pending = c :: rest → step s = exec c { s with pending := rest })
  ∧ (∀ (c : Instr) (s : State), step { s with pending := c :: s.pending } = exec c s)
  ∧ (∀ s : State, s.pending = [] → step s = .next (idle s))
  ∧ (∀ s : State, (∀ r, (realmOf s r).sweeping = false) → (∀ e ∈ s.stk, e.2.training = false) → tok {} s.stk = true →
    idle s = passTicks 1 s)

/-- The state after reset meets the invariant, and is a module without power: dormant, every domain Off, no job, no realm, an
empty log and journal, nothing waiting. (That the journal starts empty is the model's choice, log entry 4.) -/
def Obligations.ResetMeetsTheInvariant : Prop :=
  Inv State.reset ∧ State.reset.phase = .off ∧ (∀ n, dom State.reset n = {}) ∧ State.reset.jobA = none ∧ State.reset.jobB = none
    ∧ (∀ r, (realmOf State.reset r).st = .closed) ∧ State.reset.mgt.log = [] ∧ State.reset.flash.journal = []
    ∧ State.reset.mem = {} ∧ State.reset.pending = []

/-- Every step keeps the invariant: from any state whose memory tables are canonical and whose event queue, log, PLDM event queue
and journal are within their depths, each of the commands, and the idle step, leads to such a state. -/
def Obligations.EveryStepKeepsTheInvariant : Prop :=
  ∀ s t : State, Inv s → step s = .next t → Inv t

/-- Nothing stops the block: every step of every state answers a next state, so every run is safe; each step takes one command from
the queue, the part stays what it is, and event sequence numbers and journal indexes never go back (R522, R525). -/
def Obligations.EveryRunGoesOn : Prop :=
  (∀ s : State, ∃ t, step s = .next t ∧ t.pending = s.pending.tail ∧ t.variant = s.variant
    ∧ s.flash.evSeq ≤ t.flash.evSeq ∧ s.flash.journalNo ≤ t.flash.journalNo)
  ∧ (∀ (n : Nat) (s : State), SafeRun n s)
end

