-- ==== Sys2Proof/Laws/State.lean ====
section
/-! SUPPORT. One lemma per field and update: a setter writes its own field and leaves every other one. -/

namespace Sys2Proof.Machine.State

variable (s : State)

@[simp] theorem setVariant_variant (v : Variant) : (s.setVariant v).variant = v := rfl
@[simp] theorem setVariant_phase (v : Variant) : (s.setVariant v).phase = s.phase := rfl
@[simp] theorem setVariant_sup (v : Variant) : (s.setVariant v).sup = s.sup := rfl
@[simp] theorem setVariant_doms (v : Variant) : (s.setVariant v).doms = s.doms := rfl
@[simp] theorem setVariant_pseq (v : Variant) : (s.setVariant v).pseq = s.pseq := rfl
@[simp] theorem setVariant_pwait (v : Variant) : (s.setVariant v).pwait = s.pwait := rfl
@[simp] theorem setVariant_spring (v : Variant) : (s.setVariant v).spring = s.spring := rfl
@[simp] theorem setVariant_prof (v : Variant) : (s.setVariant v).prof = s.prof := rfl
@[simp] theorem setVariant_shut (v : Variant) : (s.setVariant v).shut = s.shut := rfl
@[simp] theorem setVariant_cap (v : Variant) : (s.setVariant v).cap = s.cap := rfl
@[simp] theorem setVariant_thm (v : Variant) : (s.setVariant v).thm = s.thm := rfl
@[simp] theorem setVariant_blks (v : Variant) : (s.setVariant v).blks = s.blks := rfl
@[simp] theorem setVariant_rwb (v : Variant) : (s.setVariant v).rwb = s.rwb := rfl
@[simp] theorem setVariant_fn0 (v : Variant) : (s.setVariant v).fn0 = s.fn0 := rfl
@[simp] theorem setVariant_fn1 (v : Variant) : (s.setVariant v).fn1 = s.fn1 := rfl
@[simp] theorem setVariant_steward (v : Variant) : (s.setVariant v).steward = s.steward := rfl
@[simp] theorem setVariant_jobA (v : Variant) : (s.setVariant v).jobA = s.jobA := rfl
@[simp] theorem setVariant_jobB (v : Variant) : (s.setVariant v).jobB = s.jobB := rfl
@[simp] theorem setVariant_jobIds (v : Variant) : (s.setVariant v).jobIds = s.jobIds := rfl
@[simp] theorem setVariant_dsc (v : Variant) : (s.setVariant v).dsc = s.dsc := rfl
@[simp] theorem setVariant_scb (v : Variant) : (s.setVariant v).scb = s.scb := rfl
@[simp] theorem setVariant_prg (v : Variant) : (s.setVariant v).prg = s.prg := rfl
@[simp] theorem setVariant_cmp (v : Variant) : (s.setVariant v).cmp = s.cmp := rfl
@[simp] theorem setVariant_mem (v : Variant) : (s.setVariant v).mem = s.mem := rfl
@[simp] theorem setVariant_srm (v : Variant) : (s.setVariant v).srm = s.srm := rfl
@[simp] theorem setVariant_stk (v : Variant) : (s.setVariant v).stk = s.stk := rfl
@[simp] theorem setVariant_opt (v : Variant) : (s.setVariant v).opt = s.opt := rfl
@[simp] theorem setVariant_links (v : Variant) : (s.setVariant v).links = s.links := rfl
@[simp] theorem setVariant_rtb (v : Variant) : (s.setVariant v).rtb = s.rtb := rfl
@[simp] theorem setVariant_fab (v : Variant) : (s.setVariant v).fab = s.fab := rfl
@[simp] theorem setVariant_sec (v : Variant) : (s.setVariant v).sec = s.sec := rfl
@[simp] theorem setVariant_rel (v : Variant) : (s.setVariant v).rel = s.rel := rfl
@[simp] theorem setVariant_mgt (v : Variant) : (s.setVariant v).mgt = s.mgt := rfl
@[simp] theorem setVariant_flash (v : Variant) : (s.setVariant v).flash = s.flash := rfl
@[simp] theorem setVariant_buddies (v : Variant) : (s.setVariant v).buddies = s.buddies := rfl
@[simp] theorem setVariant_freeCtr (v : Variant) : (s.setVariant v).freeCtr = s.freeCtr := rfl
@[simp] theorem setVariant_out (v : Variant) : (s.setVariant v).out = s.out := rfl
@[simp] theorem setVariant_pending (v : Variant) : (s.setVariant v).pending = s.pending := rfl
@[simp] theorem setPhase_variant (v : Phase) : (s.setPhase v).variant = s.variant := rfl
@[simp] theorem setPhase_phase (v : Phase) : (s.setPhase v).phase = v := rfl
@[simp] theorem setPhase_sup (v : Phase) : (s.setPhase v).sup = s.sup := rfl
@[simp] theorem setPhase_doms (v : Phase) : (s.setPhase v).doms = s.doms := rfl
@[simp] theorem setPhase_pseq (v : Phase) : (s.setPhase v).pseq = s.pseq := rfl
@[simp] theorem setPhase_pwait (v : Phase) : (s.setPhase v).pwait = s.pwait := rfl
@[simp] theorem setPhase_spring (v : Phase) : (s.setPhase v).spring = s.spring := rfl
@[simp] theorem setPhase_prof (v : Phase) : (s.setPhase v).prof = s.prof := rfl
@[simp] theorem setPhase_shut (v : Phase) : (s.setPhase v).shut = s.shut := rfl
@[simp] theorem setPhase_cap (v : Phase) : (s.setPhase v).cap = s.cap := rfl
@[simp] theorem setPhase_thm (v : Phase) : (s.setPhase v).thm = s.thm := rfl
@[simp] theorem setPhase_blks (v : Phase) : (s.setPhase v).blks = s.blks := rfl
@[simp] theorem setPhase_rwb (v : Phase) : (s.setPhase v).rwb = s.rwb := rfl
@[simp] theorem setPhase_fn0 (v : Phase) : (s.setPhase v).fn0 = s.fn0 := rfl
@[simp] theorem setPhase_fn1 (v : Phase) : (s.setPhase v).fn1 = s.fn1 := rfl
@[simp] theorem setPhase_steward (v : Phase) : (s.setPhase v).steward = s.steward := rfl
@[simp] theorem setPhase_jobA (v : Phase) : (s.setPhase v).jobA = s.jobA := rfl
@[simp] theorem setPhase_jobB (v : Phase) : (s.setPhase v).jobB = s.jobB := rfl
@[simp] theorem setPhase_jobIds (v : Phase) : (s.setPhase v).jobIds = s.jobIds := rfl
@[simp] theorem setPhase_dsc (v : Phase) : (s.setPhase v).dsc = s.dsc := rfl
@[simp] theorem setPhase_scb (v : Phase) : (s.setPhase v).scb = s.scb := rfl
@[simp] theorem setPhase_prg (v : Phase) : (s.setPhase v).prg = s.prg := rfl
@[simp] theorem setPhase_cmp (v : Phase) : (s.setPhase v).cmp = s.cmp := rfl
@[simp] theorem setPhase_mem (v : Phase) : (s.setPhase v).mem = s.mem := rfl
@[simp] theorem setPhase_srm (v : Phase) : (s.setPhase v).srm = s.srm := rfl
@[simp] theorem setPhase_stk (v : Phase) : (s.setPhase v).stk = s.stk := rfl
@[simp] theorem setPhase_opt (v : Phase) : (s.setPhase v).opt = s.opt := rfl
@[simp] theorem setPhase_links (v : Phase) : (s.setPhase v).links = s.links := rfl
@[simp] theorem setPhase_rtb (v : Phase) : (s.setPhase v).rtb = s.rtb := rfl
@[simp] theorem setPhase_fab (v : Phase) : (s.setPhase v).fab = s.fab := rfl
@[simp] theorem setPhase_sec (v : Phase) : (s.setPhase v).sec = s.sec := rfl
@[simp] theorem setPhase_rel (v : Phase) : (s.setPhase v).rel = s.rel := rfl
@[simp] theorem setPhase_mgt (v : Phase) : (s.setPhase v).mgt = s.mgt := rfl
@[simp] theorem setPhase_flash (v : Phase) : (s.setPhase v).flash = s.flash := rfl
@[simp] theorem setPhase_buddies (v : Phase) : (s.setPhase v).buddies = s.buddies := rfl
@[simp] theorem setPhase_freeCtr (v : Phase) : (s.setPhase v).freeCtr = s.freeCtr := rfl
@[simp] theorem setPhase_out (v : Phase) : (s.setPhase v).out = s.out := rfl
@[simp] theorem setPhase_pending (v : Phase) : (s.setPhase v).pending = s.pending := rfl
@[simp] theorem setSup_variant (v : Supply) : (s.setSup v).variant = s.variant := rfl
@[simp] theorem setSup_phase (v : Supply) : (s.setSup v).phase = s.phase := rfl
@[simp] theorem setSup_sup (v : Supply) : (s.setSup v).sup = v := rfl
@[simp] theorem setSup_doms (v : Supply) : (s.setSup v).doms = s.doms := rfl
@[simp] theorem setSup_pseq (v : Supply) : (s.setSup v).pseq = s.pseq := rfl
@[simp] theorem setSup_pwait (v : Supply) : (s.setSup v).pwait = s.pwait := rfl
@[simp] theorem setSup_spring (v : Supply) : (s.setSup v).spring = s.spring := rfl
@[simp] theorem setSup_prof (v : Supply) : (s.setSup v).prof = s.prof := rfl
@[simp] theorem setSup_shut (v : Supply) : (s.setSup v).shut = s.shut := rfl
@[simp] theorem setSup_cap (v : Supply) : (s.setSup v).cap = s.cap := rfl
@[simp] theorem setSup_thm (v : Supply) : (s.setSup v).thm = s.thm := rfl
@[simp] theorem setSup_blks (v : Supply) : (s.setSup v).blks = s.blks := rfl
@[simp] theorem setSup_rwb (v : Supply) : (s.setSup v).rwb = s.rwb := rfl
@[simp] theorem setSup_fn0 (v : Supply) : (s.setSup v).fn0 = s.fn0 := rfl
@[simp] theorem setSup_fn1 (v : Supply) : (s.setSup v).fn1 = s.fn1 := rfl
@[simp] theorem setSup_steward (v : Supply) : (s.setSup v).steward = s.steward := rfl
@[simp] theorem setSup_jobA (v : Supply) : (s.setSup v).jobA = s.jobA := rfl
@[simp] theorem setSup_jobB (v : Supply) : (s.setSup v).jobB = s.jobB := rfl
@[simp] theorem setSup_jobIds (v : Supply) : (s.setSup v).jobIds = s.jobIds := rfl
@[simp] theorem setSup_dsc (v : Supply) : (s.setSup v).dsc = s.dsc := rfl
@[simp] theorem setSup_scb (v : Supply) : (s.setSup v).scb = s.scb := rfl
@[simp] theorem setSup_prg (v : Supply) : (s.setSup v).prg = s.prg := rfl
@[simp] theorem setSup_cmp (v : Supply) : (s.setSup v).cmp = s.cmp := rfl
@[simp] theorem setSup_mem (v : Supply) : (s.setSup v).mem = s.mem := rfl
@[simp] theorem setSup_srm (v : Supply) : (s.setSup v).srm = s.srm := rfl
@[simp] theorem setSup_stk (v : Supply) : (s.setSup v).stk = s.stk := rfl
@[simp] theorem setSup_opt (v : Supply) : (s.setSup v).opt = s.opt := rfl
@[simp] theorem setSup_links (v : Supply) : (s.setSup v).links = s.links := rfl
@[simp] theorem setSup_rtb (v : Supply) : (s.setSup v).rtb = s.rtb := rfl
@[simp] theorem setSup_fab (v : Supply) : (s.setSup v).fab = s.fab := rfl
@[simp] theorem setSup_sec (v : Supply) : (s.setSup v).sec = s.sec := rfl
@[simp] theorem setSup_rel (v : Supply) : (s.setSup v).rel = s.rel := rfl
@[simp] theorem setSup_mgt (v : Supply) : (s.setSup v).mgt = s.mgt := rfl
@[simp] theorem setSup_flash (v : Supply) : (s.setSup v).flash = s.flash := rfl
@[simp] theorem setSup_buddies (v : Supply) : (s.setSup v).buddies = s.buddies := rfl
@[simp] theorem setSup_freeCtr (v : Supply) : (s.setSup v).freeCtr = s.freeCtr := rfl
@[simp] theorem setSup_out (v : Supply) : (s.setSup v).out = s.out := rfl
@[simp] theorem setSup_pending (v : Supply) : (s.setSup v).pending = s.pending := rfl
@[simp] theorem setDoms_variant (v : Tbl Dom) : (s.setDoms v).variant = s.variant := rfl
@[simp] theorem setDoms_phase (v : Tbl Dom) : (s.setDoms v).phase = s.phase := rfl
@[simp] theorem setDoms_sup (v : Tbl Dom) : (s.setDoms v).sup = s.sup := rfl
@[simp] theorem setDoms_doms (v : Tbl Dom) : (s.setDoms v).doms = v := rfl
@[simp] theorem setDoms_pseq (v : Tbl Dom) : (s.setDoms v).pseq = s.pseq := rfl
@[simp] theorem setDoms_pwait (v : Tbl Dom) : (s.setDoms v).pwait = s.pwait := rfl
@[simp] theorem setDoms_spring (v : Tbl Dom) : (s.setDoms v).spring = s.spring := rfl
@[simp] theorem setDoms_prof (v : Tbl Dom) : (s.setDoms v).prof = s.prof := rfl
@[simp] theorem setDoms_shut (v : Tbl Dom) : (s.setDoms v).shut = s.shut := rfl
@[simp] theorem setDoms_cap (v : Tbl Dom) : (s.setDoms v).cap = s.cap := rfl
@[simp] theorem setDoms_thm (v : Tbl Dom) : (s.setDoms v).thm = s.thm := rfl
@[simp] theorem setDoms_blks (v : Tbl Dom) : (s.setDoms v).blks = s.blks := rfl
@[simp] theorem setDoms_rwb (v : Tbl Dom) : (s.setDoms v).rwb = s.rwb := rfl
@[simp] theorem setDoms_fn0 (v : Tbl Dom) : (s.setDoms v).fn0 = s.fn0 := rfl
@[simp] theorem setDoms_fn1 (v : Tbl Dom) : (s.setDoms v).fn1 = s.fn1 := rfl
@[simp] theorem setDoms_steward (v : Tbl Dom) : (s.setDoms v).steward = s.steward := rfl
@[simp] theorem setDoms_jobA (v : Tbl Dom) : (s.setDoms v).jobA = s.jobA := rfl
@[simp] theorem setDoms_jobB (v : Tbl Dom) : (s.setDoms v).jobB = s.jobB := rfl
@[simp] theorem setDoms_jobIds (v : Tbl Dom) : (s.setDoms v).jobIds = s.jobIds := rfl
@[simp] theorem setDoms_dsc (v : Tbl Dom) : (s.setDoms v).dsc = s.dsc := rfl
@[simp] theorem setDoms_scb (v : Tbl Dom) : (s.setDoms v).scb = s.scb := rfl
@[simp] theorem setDoms_prg (v : Tbl Dom) : (s.setDoms v).prg = s.prg := rfl
@[simp] theorem setDoms_cmp (v : Tbl Dom) : (s.setDoms v).cmp = s.cmp := rfl
@[simp] theorem setDoms_mem (v : Tbl Dom) : (s.setDoms v).mem = s.mem := rfl
@[simp] theorem setDoms_srm (v : Tbl Dom) : (s.setDoms v).srm = s.srm := rfl
@[simp] theorem setDoms_stk (v : Tbl Dom) : (s.setDoms v).stk = s.stk := rfl
@[simp] theorem setDoms_opt (v : Tbl Dom) : (s.setDoms v).opt = s.opt := rfl
@[simp] theorem setDoms_links (v : Tbl Dom) : (s.setDoms v).links = s.links := rfl
@[simp] theorem setDoms_rtb (v : Tbl Dom) : (s.setDoms v).rtb = s.rtb := rfl
@[simp] theorem setDoms_fab (v : Tbl Dom) : (s.setDoms v).fab = s.fab := rfl
@[simp] theorem setDoms_sec (v : Tbl Dom) : (s.setDoms v).sec = s.sec := rfl
@[simp] theorem setDoms_rel (v : Tbl Dom) : (s.setDoms v).rel = s.rel := rfl
@[simp] theorem setDoms_mgt (v : Tbl Dom) : (s.setDoms v).mgt = s.mgt := rfl
@[simp] theorem setDoms_flash (v : Tbl Dom) : (s.setDoms v).flash = s.flash := rfl
@[simp] theorem setDoms_buddies (v : Tbl Dom) : (s.setDoms v).buddies = s.buddies := rfl
@[simp] theorem setDoms_freeCtr (v : Tbl Dom) : (s.setDoms v).freeCtr = s.freeCtr := rfl
@[simp] theorem setDoms_out (v : Tbl Dom) : (s.setDoms v).out = s.out := rfl
@[simp] theorem setDoms_pending (v : Tbl Dom) : (s.setDoms v).pending = s.pending := rfl
@[simp] theorem setPseq_variant (v : Option PowerSeq) : (s.setPseq v).variant = s.variant := rfl
@[simp] theorem setPseq_phase (v : Option PowerSeq) : (s.setPseq v).phase = s.phase := rfl
@[simp] theorem setPseq_sup (v : Option PowerSeq) : (s.setPseq v).sup = s.sup := rfl
@[simp] theorem setPseq_doms (v : Option PowerSeq) : (s.setPseq v).doms = s.doms := rfl
@[simp] theorem setPseq_pseq (v : Option PowerSeq) : (s.setPseq v).pseq = v := rfl
@[simp] theorem setPseq_pwait (v : Option PowerSeq) : (s.setPseq v).pwait = s.pwait := rfl
@[simp] theorem setPseq_spring (v : Option PowerSeq) : (s.setPseq v).spring = s.spring := rfl
@[simp] theorem setPseq_prof (v : Option PowerSeq) : (s.setPseq v).prof = s.prof := rfl
@[simp] theorem setPseq_shut (v : Option PowerSeq) : (s.setPseq v).shut = s.shut := rfl
@[simp] theorem setPseq_cap (v : Option PowerSeq) : (s.setPseq v).cap = s.cap := rfl
@[simp] theorem setPseq_thm (v : Option PowerSeq) : (s.setPseq v).thm = s.thm := rfl
@[simp] theorem setPseq_blks (v : Option PowerSeq) : (s.setPseq v).blks = s.blks := rfl
@[simp] theorem setPseq_rwb (v : Option PowerSeq) : (s.setPseq v).rwb = s.rwb := rfl
@[simp] theorem setPseq_fn0 (v : Option PowerSeq) : (s.setPseq v).fn0 = s.fn0 := rfl
@[simp] theorem setPseq_fn1 (v : Option PowerSeq) : (s.setPseq v).fn1 = s.fn1 := rfl
@[simp] theorem setPseq_steward (v : Option PowerSeq) : (s.setPseq v).steward = s.steward := rfl
@[simp] theorem setPseq_jobA (v : Option PowerSeq) : (s.setPseq v).jobA = s.jobA := rfl
@[simp] theorem setPseq_jobB (v : Option PowerSeq) : (s.setPseq v).jobB = s.jobB := rfl
@[simp] theorem setPseq_jobIds (v : Option PowerSeq) : (s.setPseq v).jobIds = s.jobIds := rfl
@[simp] theorem setPseq_dsc (v : Option PowerSeq) : (s.setPseq v).dsc = s.dsc := rfl
@[simp] theorem setPseq_scb (v : Option PowerSeq) : (s.setPseq v).scb = s.scb := rfl
@[simp] theorem setPseq_prg (v : Option PowerSeq) : (s.setPseq v).prg = s.prg := rfl
@[simp] theorem setPseq_cmp (v : Option PowerSeq) : (s.setPseq v).cmp = s.cmp := rfl
@[simp] theorem setPseq_mem (v : Option PowerSeq) : (s.setPseq v).mem = s.mem := rfl
@[simp] theorem setPseq_srm (v : Option PowerSeq) : (s.setPseq v).srm = s.srm := rfl
@[simp] theorem setPseq_stk (v : Option PowerSeq) : (s.setPseq v).stk = s.stk := rfl
@[simp] theorem setPseq_opt (v : Option PowerSeq) : (s.setPseq v).opt = s.opt := rfl
@[simp] theorem setPseq_links (v : Option PowerSeq) : (s.setPseq v).links = s.links := rfl
@[simp] theorem setPseq_rtb (v : Option PowerSeq) : (s.setPseq v).rtb = s.rtb := rfl
@[simp] theorem setPseq_fab (v : Option PowerSeq) : (s.setPseq v).fab = s.fab := rfl
@[simp] theorem setPseq_sec (v : Option PowerSeq) : (s.setPseq v).sec = s.sec := rfl
@[simp] theorem setPseq_rel (v : Option PowerSeq) : (s.setPseq v).rel = s.rel := rfl
@[simp] theorem setPseq_mgt (v : Option PowerSeq) : (s.setPseq v).mgt = s.mgt := rfl
@[simp] theorem setPseq_flash (v : Option PowerSeq) : (s.setPseq v).flash = s.flash := rfl
@[simp] theorem setPseq_buddies (v : Option PowerSeq) : (s.setPseq v).buddies = s.buddies := rfl
@[simp] theorem setPseq_freeCtr (v : Option PowerSeq) : (s.setPseq v).freeCtr = s.freeCtr := rfl
@[simp] theorem setPseq_out (v : Option PowerSeq) : (s.setPseq v).out = s.out := rfl
@[simp] theorem setPseq_pending (v : Option PowerSeq) : (s.setPseq v).pending = s.pending := rfl
@[simp] theorem setPwait_variant (v : List PowerSeq) : (s.setPwait v).variant = s.variant := rfl
@[simp] theorem setPwait_phase (v : List PowerSeq) : (s.setPwait v).phase = s.phase := rfl
@[simp] theorem setPwait_sup (v : List PowerSeq) : (s.setPwait v).sup = s.sup := rfl
@[simp] theorem setPwait_doms (v : List PowerSeq) : (s.setPwait v).doms = s.doms := rfl
@[simp] theorem setPwait_pseq (v : List PowerSeq) : (s.setPwait v).pseq = s.pseq := rfl
@[simp] theorem setPwait_pwait (v : List PowerSeq) : (s.setPwait v).pwait = v := rfl
@[simp] theorem setPwait_spring (v : List PowerSeq) : (s.setPwait v).spring = s.spring := rfl
@[simp] theorem setPwait_prof (v : List PowerSeq) : (s.setPwait v).prof = s.prof := rfl
@[simp] theorem setPwait_shut (v : List PowerSeq) : (s.setPwait v).shut = s.shut := rfl
@[simp] theorem setPwait_cap (v : List PowerSeq) : (s.setPwait v).cap = s.cap := rfl
@[simp] theorem setPwait_thm (v : List PowerSeq) : (s.setPwait v).thm = s.thm := rfl
@[simp] theorem setPwait_blks (v : List PowerSeq) : (s.setPwait v).blks = s.blks := rfl
@[simp] theorem setPwait_rwb (v : List PowerSeq) : (s.setPwait v).rwb = s.rwb := rfl
@[simp] theorem setPwait_fn0 (v : List PowerSeq) : (s.setPwait v).fn0 = s.fn0 := rfl
@[simp] theorem setPwait_fn1 (v : List PowerSeq) : (s.setPwait v).fn1 = s.fn1 := rfl
@[simp] theorem setPwait_steward (v : List PowerSeq) : (s.setPwait v).steward = s.steward := rfl
@[simp] theorem setPwait_jobA (v : List PowerSeq) : (s.setPwait v).jobA = s.jobA := rfl
@[simp] theorem setPwait_jobB (v : List PowerSeq) : (s.setPwait v).jobB = s.jobB := rfl
@[simp] theorem setPwait_jobIds (v : List PowerSeq) : (s.setPwait v).jobIds = s.jobIds := rfl
@[simp] theorem setPwait_dsc (v : List PowerSeq) : (s.setPwait v).dsc = s.dsc := rfl
@[simp] theorem setPwait_scb (v : List PowerSeq) : (s.setPwait v).scb = s.scb := rfl
@[simp] theorem setPwait_prg (v : List PowerSeq) : (s.setPwait v).prg = s.prg := rfl
@[simp] theorem setPwait_cmp (v : List PowerSeq) : (s.setPwait v).cmp = s.cmp := rfl
@[simp] theorem setPwait_mem (v : List PowerSeq) : (s.setPwait v).mem = s.mem := rfl
@[simp] theorem setPwait_srm (v : List PowerSeq) : (s.setPwait v).srm = s.srm := rfl
@[simp] theorem setPwait_stk (v : List PowerSeq) : (s.setPwait v).stk = s.stk := rfl
@[simp] theorem setPwait_opt (v : List PowerSeq) : (s.setPwait v).opt = s.opt := rfl
@[simp] theorem setPwait_links (v : List PowerSeq) : (s.setPwait v).links = s.links := rfl
@[simp] theorem setPwait_rtb (v : List PowerSeq) : (s.setPwait v).rtb = s.rtb := rfl
@[simp] theorem setPwait_fab (v : List PowerSeq) : (s.setPwait v).fab = s.fab := rfl
@[simp] theorem setPwait_sec (v : List PowerSeq) : (s.setPwait v).sec = s.sec := rfl
@[simp] theorem setPwait_rel (v : List PowerSeq) : (s.setPwait v).rel = s.rel := rfl
@[simp] theorem setPwait_mgt (v : List PowerSeq) : (s.setPwait v).mgt = s.mgt := rfl
@[simp] theorem setPwait_flash (v : List PowerSeq) : (s.setPwait v).flash = s.flash := rfl
@[simp] theorem setPwait_buddies (v : List PowerSeq) : (s.setPwait v).buddies = s.buddies := rfl
@[simp] theorem setPwait_freeCtr (v : List PowerSeq) : (s.setPwait v).freeCtr = s.freeCtr := rfl
@[simp] theorem setPwait_out (v : List PowerSeq) : (s.setPwait v).out = s.out := rfl
@[simp] theorem setPwait_pending (v : List PowerSeq) : (s.setPwait v).pending = s.pending := rfl
@[simp] theorem setSpring_variant (v : Spring) : (s.setSpring v).variant = s.variant := rfl
@[simp] theorem setSpring_phase (v : Spring) : (s.setSpring v).phase = s.phase := rfl
@[simp] theorem setSpring_sup (v : Spring) : (s.setSpring v).sup = s.sup := rfl
@[simp] theorem setSpring_doms (v : Spring) : (s.setSpring v).doms = s.doms := rfl
@[simp] theorem setSpring_pseq (v : Spring) : (s.setSpring v).pseq = s.pseq := rfl
@[simp] theorem setSpring_pwait (v : Spring) : (s.setSpring v).pwait = s.pwait := rfl
@[simp] theorem setSpring_spring (v : Spring) : (s.setSpring v).spring = v := rfl
@[simp] theorem setSpring_prof (v : Spring) : (s.setSpring v).prof = s.prof := rfl
@[simp] theorem setSpring_shut (v : Spring) : (s.setSpring v).shut = s.shut := rfl
@[simp] theorem setSpring_cap (v : Spring) : (s.setSpring v).cap = s.cap := rfl
@[simp] theorem setSpring_thm (v : Spring) : (s.setSpring v).thm = s.thm := rfl
@[simp] theorem setSpring_blks (v : Spring) : (s.setSpring v).blks = s.blks := rfl
@[simp] theorem setSpring_rwb (v : Spring) : (s.setSpring v).rwb = s.rwb := rfl
@[simp] theorem setSpring_fn0 (v : Spring) : (s.setSpring v).fn0 = s.fn0 := rfl
@[simp] theorem setSpring_fn1 (v : Spring) : (s.setSpring v).fn1 = s.fn1 := rfl
@[simp] theorem setSpring_steward (v : Spring) : (s.setSpring v).steward = s.steward := rfl
@[simp] theorem setSpring_jobA (v : Spring) : (s.setSpring v).jobA = s.jobA := rfl
@[simp] theorem setSpring_jobB (v : Spring) : (s.setSpring v).jobB = s.jobB := rfl
@[simp] theorem setSpring_jobIds (v : Spring) : (s.setSpring v).jobIds = s.jobIds := rfl
@[simp] theorem setSpring_dsc (v : Spring) : (s.setSpring v).dsc = s.dsc := rfl
@[simp] theorem setSpring_scb (v : Spring) : (s.setSpring v).scb = s.scb := rfl
@[simp] theorem setSpring_prg (v : Spring) : (s.setSpring v).prg = s.prg := rfl
@[simp] theorem setSpring_cmp (v : Spring) : (s.setSpring v).cmp = s.cmp := rfl
@[simp] theorem setSpring_mem (v : Spring) : (s.setSpring v).mem = s.mem := rfl
@[simp] theorem setSpring_srm (v : Spring) : (s.setSpring v).srm = s.srm := rfl
@[simp] theorem setSpring_stk (v : Spring) : (s.setSpring v).stk = s.stk := rfl
@[simp] theorem setSpring_opt (v : Spring) : (s.setSpring v).opt = s.opt := rfl
@[simp] theorem setSpring_links (v : Spring) : (s.setSpring v).links = s.links := rfl
@[simp] theorem setSpring_rtb (v : Spring) : (s.setSpring v).rtb = s.rtb := rfl
@[simp] theorem setSpring_fab (v : Spring) : (s.setSpring v).fab = s.fab := rfl
@[simp] theorem setSpring_sec (v : Spring) : (s.setSpring v).sec = s.sec := rfl
@[simp] theorem setSpring_rel (v : Spring) : (s.setSpring v).rel = s.rel := rfl
@[simp] theorem setSpring_mgt (v : Spring) : (s.setSpring v).mgt = s.mgt := rfl
@[simp] theorem setSpring_flash (v : Spring) : (s.setSpring v).flash = s.flash := rfl
@[simp] theorem setSpring_buddies (v : Spring) : (s.setSpring v).buddies = s.buddies := rfl
@[simp] theorem setSpring_freeCtr (v : Spring) : (s.setSpring v).freeCtr = s.freeCtr := rfl
@[simp] theorem setSpring_out (v : Spring) : (s.setSpring v).out = s.out := rfl
@[simp] theorem setSpring_pending (v : Spring) : (s.setSpring v).pending = s.pending := rfl
@[simp] theorem setProf_variant (v : Option Profile) : (s.setProf v).variant = s.variant := rfl
@[simp] theorem setProf_phase (v : Option Profile) : (s.setProf v).phase = s.phase := rfl
@[simp] theorem setProf_sup (v : Option Profile) : (s.setProf v).sup = s.sup := rfl
@[simp] theorem setProf_doms (v : Option Profile) : (s.setProf v).doms = s.doms := rfl
@[simp] theorem setProf_pseq (v : Option Profile) : (s.setProf v).pseq = s.pseq := rfl
@[simp] theorem setProf_pwait (v : Option Profile) : (s.setProf v).pwait = s.pwait := rfl
@[simp] theorem setProf_spring (v : Option Profile) : (s.setProf v).spring = s.spring := rfl
@[simp] theorem setProf_prof (v : Option Profile) : (s.setProf v).prof = v := rfl
@[simp] theorem setProf_shut (v : Option Profile) : (s.setProf v).shut = s.shut := rfl
@[simp] theorem setProf_cap (v : Option Profile) : (s.setProf v).cap = s.cap := rfl
@[simp] theorem setProf_thm (v : Option Profile) : (s.setProf v).thm = s.thm := rfl
@[simp] theorem setProf_blks (v : Option Profile) : (s.setProf v).blks = s.blks := rfl
@[simp] theorem setProf_rwb (v : Option Profile) : (s.setProf v).rwb = s.rwb := rfl
@[simp] theorem setProf_fn0 (v : Option Profile) : (s.setProf v).fn0 = s.fn0 := rfl
@[simp] theorem setProf_fn1 (v : Option Profile) : (s.setProf v).fn1 = s.fn1 := rfl
@[simp] theorem setProf_steward (v : Option Profile) : (s.setProf v).steward = s.steward := rfl
@[simp] theorem setProf_jobA (v : Option Profile) : (s.setProf v).jobA = s.jobA := rfl
@[simp] theorem setProf_jobB (v : Option Profile) : (s.setProf v).jobB = s.jobB := rfl
@[simp] theorem setProf_jobIds (v : Option Profile) : (s.setProf v).jobIds = s.jobIds := rfl
@[simp] theorem setProf_dsc (v : Option Profile) : (s.setProf v).dsc = s.dsc := rfl
@[simp] theorem setProf_scb (v : Option Profile) : (s.setProf v).scb = s.scb := rfl
@[simp] theorem setProf_prg (v : Option Profile) : (s.setProf v).prg = s.prg := rfl
@[simp] theorem setProf_cmp (v : Option Profile) : (s.setProf v).cmp = s.cmp := rfl
@[simp] theorem setProf_mem (v : Option Profile) : (s.setProf v).mem = s.mem := rfl
@[simp] theorem setProf_srm (v : Option Profile) : (s.setProf v).srm = s.srm := rfl
@[simp] theorem setProf_stk (v : Option Profile) : (s.setProf v).stk = s.stk := rfl
@[simp] theorem setProf_opt (v : Option Profile) : (s.setProf v).opt = s.opt := rfl
@[simp] theorem setProf_links (v : Option Profile) : (s.setProf v).links = s.links := rfl
@[simp] theorem setProf_rtb (v : Option Profile) : (s.setProf v).rtb = s.rtb := rfl
@[simp] theorem setProf_fab (v : Option Profile) : (s.setProf v).fab = s.fab := rfl
@[simp] theorem setProf_sec (v : Option Profile) : (s.setProf v).sec = s.sec := rfl
@[simp] theorem setProf_rel (v : Option Profile) : (s.setProf v).rel = s.rel := rfl
@[simp] theorem setProf_mgt (v : Option Profile) : (s.setProf v).mgt = s.mgt := rfl
@[simp] theorem setProf_flash (v : Option Profile) : (s.setProf v).flash = s.flash := rfl
@[simp] theorem setProf_buddies (v : Option Profile) : (s.setProf v).buddies = s.buddies := rfl
@[simp] theorem setProf_freeCtr (v : Option Profile) : (s.setProf v).freeCtr = s.freeCtr := rfl
@[simp] theorem setProf_out (v : Option Profile) : (s.setProf v).out = s.out := rfl
@[simp] theorem setProf_pending (v : Option Profile) : (s.setProf v).pending = s.pending := rfl
@[simp] theorem setShut_variant (v : Option Shutdown) : (s.setShut v).variant = s.variant := rfl
@[simp] theorem setShut_phase (v : Option Shutdown) : (s.setShut v).phase = s.phase := rfl
@[simp] theorem setShut_sup (v : Option Shutdown) : (s.setShut v).sup = s.sup := rfl
@[simp] theorem setShut_doms (v : Option Shutdown) : (s.setShut v).doms = s.doms := rfl
@[simp] theorem setShut_pseq (v : Option Shutdown) : (s.setShut v).pseq = s.pseq := rfl
@[simp] theorem setShut_pwait (v : Option Shutdown) : (s.setShut v).pwait = s.pwait := rfl
@[simp] theorem setShut_spring (v : Option Shutdown) : (s.setShut v).spring = s.spring := rfl
@[simp] theorem setShut_prof (v : Option Shutdown) : (s.setShut v).prof = s.prof := rfl
@[simp] theorem setShut_shut (v : Option Shutdown) : (s.setShut v).shut = v := rfl
@[simp] theorem setShut_cap (v : Option Shutdown) : (s.setShut v).cap = s.cap := rfl
@[simp] theorem setShut_thm (v : Option Shutdown) : (s.setShut v).thm = s.thm := rfl
@[simp] theorem setShut_blks (v : Option Shutdown) : (s.setShut v).blks = s.blks := rfl
@[simp] theorem setShut_rwb (v : Option Shutdown) : (s.setShut v).rwb = s.rwb := rfl
@[simp] theorem setShut_fn0 (v : Option Shutdown) : (s.setShut v).fn0 = s.fn0 := rfl
@[simp] theorem setShut_fn1 (v : Option Shutdown) : (s.setShut v).fn1 = s.fn1 := rfl
@[simp] theorem setShut_steward (v : Option Shutdown) : (s.setShut v).steward = s.steward := rfl
@[simp] theorem setShut_jobA (v : Option Shutdown) : (s.setShut v).jobA = s.jobA := rfl
@[simp] theorem setShut_jobB (v : Option Shutdown) : (s.setShut v).jobB = s.jobB := rfl
@[simp] theorem setShut_jobIds (v : Option Shutdown) : (s.setShut v).jobIds = s.jobIds := rfl
@[simp] theorem setShut_dsc (v : Option Shutdown) : (s.setShut v).dsc = s.dsc := rfl
@[simp] theorem setShut_scb (v : Option Shutdown) : (s.setShut v).scb = s.scb := rfl
@[simp] theorem setShut_prg (v : Option Shutdown) : (s.setShut v).prg = s.prg := rfl
@[simp] theorem setShut_cmp (v : Option Shutdown) : (s.setShut v).cmp = s.cmp := rfl
@[simp] theorem setShut_mem (v : Option Shutdown) : (s.setShut v).mem = s.mem := rfl
@[simp] theorem setShut_srm (v : Option Shutdown) : (s.setShut v).srm = s.srm := rfl
@[simp] theorem setShut_stk (v : Option Shutdown) : (s.setShut v).stk = s.stk := rfl
@[simp] theorem setShut_opt (v : Option Shutdown) : (s.setShut v).opt = s.opt := rfl
@[simp] theorem setShut_links (v : Option Shutdown) : (s.setShut v).links = s.links := rfl
@[simp] theorem setShut_rtb (v : Option Shutdown) : (s.setShut v).rtb = s.rtb := rfl
@[simp] theorem setShut_fab (v : Option Shutdown) : (s.setShut v).fab = s.fab := rfl
@[simp] theorem setShut_sec (v : Option Shutdown) : (s.setShut v).sec = s.sec := rfl
@[simp] theorem setShut_rel (v : Option Shutdown) : (s.setShut v).rel = s.rel := rfl
@[simp] theorem setShut_mgt (v : Option Shutdown) : (s.setShut v).mgt = s.mgt := rfl
@[simp] theorem setShut_flash (v : Option Shutdown) : (s.setShut v).flash = s.flash := rfl
@[simp] theorem setShut_buddies (v : Option Shutdown) : (s.setShut v).buddies = s.buddies := rfl
@[simp] theorem setShut_freeCtr (v : Option Shutdown) : (s.setShut v).freeCtr = s.freeCtr := rfl
@[simp] theorem setShut_out (v : Option Shutdown) : (s.setShut v).out = s.out := rfl
@[simp] theorem setShut_pending (v : Option Shutdown) : (s.setShut v).pending = s.pending := rfl
@[simp] theorem setCap_variant (v : PowerCap) : (s.setCap v).variant = s.variant := rfl
@[simp] theorem setCap_phase (v : PowerCap) : (s.setCap v).phase = s.phase := rfl
@[simp] theorem setCap_sup (v : PowerCap) : (s.setCap v).sup = s.sup := rfl
@[simp] theorem setCap_doms (v : PowerCap) : (s.setCap v).doms = s.doms := rfl
@[simp] theorem setCap_pseq (v : PowerCap) : (s.setCap v).pseq = s.pseq := rfl
@[simp] theorem setCap_pwait (v : PowerCap) : (s.setCap v).pwait = s.pwait := rfl
@[simp] theorem setCap_spring (v : PowerCap) : (s.setCap v).spring = s.spring := rfl
@[simp] theorem setCap_prof (v : PowerCap) : (s.setCap v).prof = s.prof := rfl
@[simp] theorem setCap_shut (v : PowerCap) : (s.setCap v).shut = s.shut := rfl
@[simp] theorem setCap_cap (v : PowerCap) : (s.setCap v).cap = v := rfl
@[simp] theorem setCap_thm (v : PowerCap) : (s.setCap v).thm = s.thm := rfl
@[simp] theorem setCap_blks (v : PowerCap) : (s.setCap v).blks = s.blks := rfl
@[simp] theorem setCap_rwb (v : PowerCap) : (s.setCap v).rwb = s.rwb := rfl
@[simp] theorem setCap_fn0 (v : PowerCap) : (s.setCap v).fn0 = s.fn0 := rfl
@[simp] theorem setCap_fn1 (v : PowerCap) : (s.setCap v).fn1 = s.fn1 := rfl
@[simp] theorem setCap_steward (v : PowerCap) : (s.setCap v).steward = s.steward := rfl
@[simp] theorem setCap_jobA (v : PowerCap) : (s.setCap v).jobA = s.jobA := rfl
@[simp] theorem setCap_jobB (v : PowerCap) : (s.setCap v).jobB = s.jobB := rfl
@[simp] theorem setCap_jobIds (v : PowerCap) : (s.setCap v).jobIds = s.jobIds := rfl
@[simp] theorem setCap_dsc (v : PowerCap) : (s.setCap v).dsc = s.dsc := rfl
@[simp] theorem setCap_scb (v : PowerCap) : (s.setCap v).scb = s.scb := rfl
@[simp] theorem setCap_prg (v : PowerCap) : (s.setCap v).prg = s.prg := rfl
@[simp] theorem setCap_cmp (v : PowerCap) : (s.setCap v).cmp = s.cmp := rfl
@[simp] theorem setCap_mem (v : PowerCap) : (s.setCap v).mem = s.mem := rfl
@[simp] theorem setCap_srm (v : PowerCap) : (s.setCap v).srm = s.srm := rfl
@[simp] theorem setCap_stk (v : PowerCap) : (s.setCap v).stk = s.stk := rfl
@[simp] theorem setCap_opt (v : PowerCap) : (s.setCap v).opt = s.opt := rfl
@[simp] theorem setCap_links (v : PowerCap) : (s.setCap v).links = s.links := rfl
@[simp] theorem setCap_rtb (v : PowerCap) : (s.setCap v).rtb = s.rtb := rfl
@[simp] theorem setCap_fab (v : PowerCap) : (s.setCap v).fab = s.fab := rfl
@[simp] theorem setCap_sec (v : PowerCap) : (s.setCap v).sec = s.sec := rfl
@[simp] theorem setCap_rel (v : PowerCap) : (s.setCap v).rel = s.rel := rfl
@[simp] theorem setCap_mgt (v : PowerCap) : (s.setCap v).mgt = s.mgt := rfl
@[simp] theorem setCap_flash (v : PowerCap) : (s.setCap v).flash = s.flash := rfl
@[simp] theorem setCap_buddies (v : PowerCap) : (s.setCap v).buddies = s.buddies := rfl
@[simp] theorem setCap_freeCtr (v : PowerCap) : (s.setCap v).freeCtr = s.freeCtr := rfl
@[simp] theorem setCap_out (v : PowerCap) : (s.setCap v).out = s.out := rfl
@[simp] theorem setCap_pending (v : PowerCap) : (s.setCap v).pending = s.pending := rfl
@[simp] theorem setThm_variant (v : Thermal) : (s.setThm v).variant = s.variant := rfl
@[simp] theorem setThm_phase (v : Thermal) : (s.setThm v).phase = s.phase := rfl
@[simp] theorem setThm_sup (v : Thermal) : (s.setThm v).sup = s.sup := rfl
@[simp] theorem setThm_doms (v : Thermal) : (s.setThm v).doms = s.doms := rfl
@[simp] theorem setThm_pseq (v : Thermal) : (s.setThm v).pseq = s.pseq := rfl
@[simp] theorem setThm_pwait (v : Thermal) : (s.setThm v).pwait = s.pwait := rfl
@[simp] theorem setThm_spring (v : Thermal) : (s.setThm v).spring = s.spring := rfl
@[simp] theorem setThm_prof (v : Thermal) : (s.setThm v).prof = s.prof := rfl
@[simp] theorem setThm_shut (v : Thermal) : (s.setThm v).shut = s.shut := rfl
@[simp] theorem setThm_cap (v : Thermal) : (s.setThm v).cap = s.cap := rfl
@[simp] theorem setThm_thm (v : Thermal) : (s.setThm v).thm = v := rfl
@[simp] theorem setThm_blks (v : Thermal) : (s.setThm v).blks = s.blks := rfl
@[simp] theorem setThm_rwb (v : Thermal) : (s.setThm v).rwb = s.rwb := rfl
@[simp] theorem setThm_fn0 (v : Thermal) : (s.setThm v).fn0 = s.fn0 := rfl
@[simp] theorem setThm_fn1 (v : Thermal) : (s.setThm v).fn1 = s.fn1 := rfl
@[simp] theorem setThm_steward (v : Thermal) : (s.setThm v).steward = s.steward := rfl
@[simp] theorem setThm_jobA (v : Thermal) : (s.setThm v).jobA = s.jobA := rfl
@[simp] theorem setThm_jobB (v : Thermal) : (s.setThm v).jobB = s.jobB := rfl
@[simp] theorem setThm_jobIds (v : Thermal) : (s.setThm v).jobIds = s.jobIds := rfl
@[simp] theorem setThm_dsc (v : Thermal) : (s.setThm v).dsc = s.dsc := rfl
@[simp] theorem setThm_scb (v : Thermal) : (s.setThm v).scb = s.scb := rfl
@[simp] theorem setThm_prg (v : Thermal) : (s.setThm v).prg = s.prg := rfl
@[simp] theorem setThm_cmp (v : Thermal) : (s.setThm v).cmp = s.cmp := rfl
@[simp] theorem setThm_mem (v : Thermal) : (s.setThm v).mem = s.mem := rfl
@[simp] theorem setThm_srm (v : Thermal) : (s.setThm v).srm = s.srm := rfl
@[simp] theorem setThm_stk (v : Thermal) : (s.setThm v).stk = s.stk := rfl
@[simp] theorem setThm_opt (v : Thermal) : (s.setThm v).opt = s.opt := rfl
@[simp] theorem setThm_links (v : Thermal) : (s.setThm v).links = s.links := rfl
@[simp] theorem setThm_rtb (v : Thermal) : (s.setThm v).rtb = s.rtb := rfl
@[simp] theorem setThm_fab (v : Thermal) : (s.setThm v).fab = s.fab := rfl
@[simp] theorem setThm_sec (v : Thermal) : (s.setThm v).sec = s.sec := rfl
@[simp] theorem setThm_rel (v : Thermal) : (s.setThm v).rel = s.rel := rfl
@[simp] theorem setThm_mgt (v : Thermal) : (s.setThm v).mgt = s.mgt := rfl
@[simp] theorem setThm_flash (v : Thermal) : (s.setThm v).flash = s.flash := rfl
@[simp] theorem setThm_buddies (v : Thermal) : (s.setThm v).buddies = s.buddies := rfl
@[simp] theorem setThm_freeCtr (v : Thermal) : (s.setThm v).freeCtr = s.freeCtr := rfl
@[simp] theorem setThm_out (v : Thermal) : (s.setThm v).out = s.out := rfl
@[simp] theorem setThm_pending (v : Thermal) : (s.setThm v).pending = s.pending := rfl
@[simp] theorem setBlks_variant (v : Tbl Blk) : (s.setBlks v).variant = s.variant := rfl
@[simp] theorem setBlks_phase (v : Tbl Blk) : (s.setBlks v).phase = s.phase := rfl
@[simp] theorem setBlks_sup (v : Tbl Blk) : (s.setBlks v).sup = s.sup := rfl
@[simp] theorem setBlks_doms (v : Tbl Blk) : (s.setBlks v).doms = s.doms := rfl
@[simp] theorem setBlks_pseq (v : Tbl Blk) : (s.setBlks v).pseq = s.pseq := rfl
@[simp] theorem setBlks_pwait (v : Tbl Blk) : (s.setBlks v).pwait = s.pwait := rfl
@[simp] theorem setBlks_spring (v : Tbl Blk) : (s.setBlks v).spring = s.spring := rfl
@[simp] theorem setBlks_prof (v : Tbl Blk) : (s.setBlks v).prof = s.prof := rfl
@[simp] theorem setBlks_shut (v : Tbl Blk) : (s.setBlks v).shut = s.shut := rfl
@[simp] theorem setBlks_cap (v : Tbl Blk) : (s.setBlks v).cap = s.cap := rfl
@[simp] theorem setBlks_thm (v : Tbl Blk) : (s.setBlks v).thm = s.thm := rfl
@[simp] theorem setBlks_blks (v : Tbl Blk) : (s.setBlks v).blks = v := rfl
@[simp] theorem setBlks_rwb (v : Tbl Blk) : (s.setBlks v).rwb = s.rwb := rfl
@[simp] theorem setBlks_fn0 (v : Tbl Blk) : (s.setBlks v).fn0 = s.fn0 := rfl
@[simp] theorem setBlks_fn1 (v : Tbl Blk) : (s.setBlks v).fn1 = s.fn1 := rfl
@[simp] theorem setBlks_steward (v : Tbl Blk) : (s.setBlks v).steward = s.steward := rfl
@[simp] theorem setBlks_jobA (v : Tbl Blk) : (s.setBlks v).jobA = s.jobA := rfl
@[simp] theorem setBlks_jobB (v : Tbl Blk) : (s.setBlks v).jobB = s.jobB := rfl
@[simp] theorem setBlks_jobIds (v : Tbl Blk) : (s.setBlks v).jobIds = s.jobIds := rfl
@[simp] theorem setBlks_dsc (v : Tbl Blk) : (s.setBlks v).dsc = s.dsc := rfl
@[simp] theorem setBlks_scb (v : Tbl Blk) : (s.setBlks v).scb = s.scb := rfl
@[simp] theorem setBlks_prg (v : Tbl Blk) : (s.setBlks v).prg = s.prg := rfl
@[simp] theorem setBlks_cmp (v : Tbl Blk) : (s.setBlks v).cmp = s.cmp := rfl
@[simp] theorem setBlks_mem (v : Tbl Blk) : (s.setBlks v).mem = s.mem := rfl
@[simp] theorem setBlks_srm (v : Tbl Blk) : (s.setBlks v).srm = s.srm := rfl
@[simp] theorem setBlks_stk (v : Tbl Blk) : (s.setBlks v).stk = s.stk := rfl
@[simp] theorem setBlks_opt (v : Tbl Blk) : (s.setBlks v).opt = s.opt := rfl
@[simp] theorem setBlks_links (v : Tbl Blk) : (s.setBlks v).links = s.links := rfl
@[simp] theorem setBlks_rtb (v : Tbl Blk) : (s.setBlks v).rtb = s.rtb := rfl
@[simp] theorem setBlks_fab (v : Tbl Blk) : (s.setBlks v).fab = s.fab := rfl
@[simp] theorem setBlks_sec (v : Tbl Blk) : (s.setBlks v).sec = s.sec := rfl
@[simp] theorem setBlks_rel (v : Tbl Blk) : (s.setBlks v).rel = s.rel := rfl
@[simp] theorem setBlks_mgt (v : Tbl Blk) : (s.setBlks v).mgt = s.mgt := rfl
@[simp] theorem setBlks_flash (v : Tbl Blk) : (s.setBlks v).flash = s.flash := rfl
@[simp] theorem setBlks_buddies (v : Tbl Blk) : (s.setBlks v).buddies = s.buddies := rfl
@[simp] theorem setBlks_freeCtr (v : Tbl Blk) : (s.setBlks v).freeCtr = s.freeCtr := rfl
@[simp] theorem setBlks_out (v : Tbl Blk) : (s.setBlks v).out = s.out := rfl
@[simp] theorem setBlks_pending (v : Tbl Blk) : (s.setBlks v).pending = s.pending := rfl
@[simp] theorem setRwb_variant (v : Tbl Rwb) : (s.setRwb v).variant = s.variant := rfl
@[simp] theorem setRwb_phase (v : Tbl Rwb) : (s.setRwb v).phase = s.phase := rfl
@[simp] theorem setRwb_sup (v : Tbl Rwb) : (s.setRwb v).sup = s.sup := rfl
@[simp] theorem setRwb_doms (v : Tbl Rwb) : (s.setRwb v).doms = s.doms := rfl
@[simp] theorem setRwb_pseq (v : Tbl Rwb) : (s.setRwb v).pseq = s.pseq := rfl
@[simp] theorem setRwb_pwait (v : Tbl Rwb) : (s.setRwb v).pwait = s.pwait := rfl
@[simp] theorem setRwb_spring (v : Tbl Rwb) : (s.setRwb v).spring = s.spring := rfl
@[simp] theorem setRwb_prof (v : Tbl Rwb) : (s.setRwb v).prof = s.prof := rfl
@[simp] theorem setRwb_shut (v : Tbl Rwb) : (s.setRwb v).shut = s.shut := rfl
@[simp] theorem setRwb_cap (v : Tbl Rwb) : (s.setRwb v).cap = s.cap := rfl
@[simp] theorem setRwb_thm (v : Tbl Rwb) : (s.setRwb v).thm = s.thm := rfl
@[simp] theorem setRwb_blks (v : Tbl Rwb) : (s.setRwb v).blks = s.blks := rfl
@[simp] theorem setRwb_rwb (v : Tbl Rwb) : (s.setRwb v).rwb = v := rfl
@[simp] theorem setRwb_fn0 (v : Tbl Rwb) : (s.setRwb v).fn0 = s.fn0 := rfl
@[simp] theorem setRwb_fn1 (v : Tbl Rwb) : (s.setRwb v).fn1 = s.fn1 := rfl
@[simp] theorem setRwb_steward (v : Tbl Rwb) : (s.setRwb v).steward = s.steward := rfl
@[simp] theorem setRwb_jobA (v : Tbl Rwb) : (s.setRwb v).jobA = s.jobA := rfl
@[simp] theorem setRwb_jobB (v : Tbl Rwb) : (s.setRwb v).jobB = s.jobB := rfl
@[simp] theorem setRwb_jobIds (v : Tbl Rwb) : (s.setRwb v).jobIds = s.jobIds := rfl
@[simp] theorem setRwb_dsc (v : Tbl Rwb) : (s.setRwb v).dsc = s.dsc := rfl
@[simp] theorem setRwb_scb (v : Tbl Rwb) : (s.setRwb v).scb = s.scb := rfl
@[simp] theorem setRwb_prg (v : Tbl Rwb) : (s.setRwb v).prg = s.prg := rfl
@[simp] theorem setRwb_cmp (v : Tbl Rwb) : (s.setRwb v).cmp = s.cmp := rfl
@[simp] theorem setRwb_mem (v : Tbl Rwb) : (s.setRwb v).mem = s.mem := rfl
@[simp] theorem setRwb_srm (v : Tbl Rwb) : (s.setRwb v).srm = s.srm := rfl
@[simp] theorem setRwb_stk (v : Tbl Rwb) : (s.setRwb v).stk = s.stk := rfl
@[simp] theorem setRwb_opt (v : Tbl Rwb) : (s.setRwb v).opt = s.opt := rfl
@[simp] theorem setRwb_links (v : Tbl Rwb) : (s.setRwb v).links = s.links := rfl
@[simp] theorem setRwb_rtb (v : Tbl Rwb) : (s.setRwb v).rtb = s.rtb := rfl
@[simp] theorem setRwb_fab (v : Tbl Rwb) : (s.setRwb v).fab = s.fab := rfl
@[simp] theorem setRwb_sec (v : Tbl Rwb) : (s.setRwb v).sec = s.sec := rfl
@[simp] theorem setRwb_rel (v : Tbl Rwb) : (s.setRwb v).rel = s.rel := rfl
@[simp] theorem setRwb_mgt (v : Tbl Rwb) : (s.setRwb v).mgt = s.mgt := rfl
@[simp] theorem setRwb_flash (v : Tbl Rwb) : (s.setRwb v).flash = s.flash := rfl
@[simp] theorem setRwb_buddies (v : Tbl Rwb) : (s.setRwb v).buddies = s.buddies := rfl
@[simp] theorem setRwb_freeCtr (v : Tbl Rwb) : (s.setRwb v).freeCtr = s.freeCtr := rfl
@[simp] theorem setRwb_out (v : Tbl Rwb) : (s.setRwb v).out = s.out := rfl
@[simp] theorem setRwb_pending (v : Tbl Rwb) : (s.setRwb v).pending = s.pending := rfl
@[simp] theorem setFn0_variant (v : Fn) : (s.setFn0 v).variant = s.variant := rfl
@[simp] theorem setFn0_phase (v : Fn) : (s.setFn0 v).phase = s.phase := rfl
@[simp] theorem setFn0_sup (v : Fn) : (s.setFn0 v).sup = s.sup := rfl
@[simp] theorem setFn0_doms (v : Fn) : (s.setFn0 v).doms = s.doms := rfl
@[simp] theorem setFn0_pseq (v : Fn) : (s.setFn0 v).pseq = s.pseq := rfl
@[simp] theorem setFn0_pwait (v : Fn) : (s.setFn0 v).pwait = s.pwait := rfl
@[simp] theorem setFn0_spring (v : Fn) : (s.setFn0 v).spring = s.spring := rfl
@[simp] theorem setFn0_prof (v : Fn) : (s.setFn0 v).prof = s.prof := rfl
@[simp] theorem setFn0_shut (v : Fn) : (s.setFn0 v).shut = s.shut := rfl
@[simp] theorem setFn0_cap (v : Fn) : (s.setFn0 v).cap = s.cap := rfl
@[simp] theorem setFn0_thm (v : Fn) : (s.setFn0 v).thm = s.thm := rfl
@[simp] theorem setFn0_blks (v : Fn) : (s.setFn0 v).blks = s.blks := rfl
@[simp] theorem setFn0_rwb (v : Fn) : (s.setFn0 v).rwb = s.rwb := rfl
@[simp] theorem setFn0_fn0 (v : Fn) : (s.setFn0 v).fn0 = v := rfl
@[simp] theorem setFn0_fn1 (v : Fn) : (s.setFn0 v).fn1 = s.fn1 := rfl
@[simp] theorem setFn0_steward (v : Fn) : (s.setFn0 v).steward = s.steward := rfl
@[simp] theorem setFn0_jobA (v : Fn) : (s.setFn0 v).jobA = s.jobA := rfl
@[simp] theorem setFn0_jobB (v : Fn) : (s.setFn0 v).jobB = s.jobB := rfl
@[simp] theorem setFn0_jobIds (v : Fn) : (s.setFn0 v).jobIds = s.jobIds := rfl
@[simp] theorem setFn0_dsc (v : Fn) : (s.setFn0 v).dsc = s.dsc := rfl
@[simp] theorem setFn0_scb (v : Fn) : (s.setFn0 v).scb = s.scb := rfl
@[simp] theorem setFn0_prg (v : Fn) : (s.setFn0 v).prg = s.prg := rfl
@[simp] theorem setFn0_cmp (v : Fn) : (s.setFn0 v).cmp = s.cmp := rfl
@[simp] theorem setFn0_mem (v : Fn) : (s.setFn0 v).mem = s.mem := rfl
@[simp] theorem setFn0_srm (v : Fn) : (s.setFn0 v).srm = s.srm := rfl
@[simp] theorem setFn0_stk (v : Fn) : (s.setFn0 v).stk = s.stk := rfl
@[simp] theorem setFn0_opt (v : Fn) : (s.setFn0 v).opt = s.opt := rfl
@[simp] theorem setFn0_links (v : Fn) : (s.setFn0 v).links = s.links := rfl
@[simp] theorem setFn0_rtb (v : Fn) : (s.setFn0 v).rtb = s.rtb := rfl
@[simp] theorem setFn0_fab (v : Fn) : (s.setFn0 v).fab = s.fab := rfl
@[simp] theorem setFn0_sec (v : Fn) : (s.setFn0 v).sec = s.sec := rfl
@[simp] theorem setFn0_rel (v : Fn) : (s.setFn0 v).rel = s.rel := rfl
@[simp] theorem setFn0_mgt (v : Fn) : (s.setFn0 v).mgt = s.mgt := rfl
@[simp] theorem setFn0_flash (v : Fn) : (s.setFn0 v).flash = s.flash := rfl
@[simp] theorem setFn0_buddies (v : Fn) : (s.setFn0 v).buddies = s.buddies := rfl
@[simp] theorem setFn0_freeCtr (v : Fn) : (s.setFn0 v).freeCtr = s.freeCtr := rfl
@[simp] theorem setFn0_out (v : Fn) : (s.setFn0 v).out = s.out := rfl
@[simp] theorem setFn0_pending (v : Fn) : (s.setFn0 v).pending = s.pending := rfl
@[simp] theorem setFn1_variant (v : Fn) : (s.setFn1 v).variant = s.variant := rfl
@[simp] theorem setFn1_phase (v : Fn) : (s.setFn1 v).phase = s.phase := rfl
@[simp] theorem setFn1_sup (v : Fn) : (s.setFn1 v).sup = s.sup := rfl
@[simp] theorem setFn1_doms (v : Fn) : (s.setFn1 v).doms = s.doms := rfl
@[simp] theorem setFn1_pseq (v : Fn) : (s.setFn1 v).pseq = s.pseq := rfl
@[simp] theorem setFn1_pwait (v : Fn) : (s.setFn1 v).pwait = s.pwait := rfl
@[simp] theorem setFn1_spring (v : Fn) : (s.setFn1 v).spring = s.spring := rfl
@[simp] theorem setFn1_prof (v : Fn) : (s.setFn1 v).prof = s.prof := rfl
@[simp] theorem setFn1_shut (v : Fn) : (s.setFn1 v).shut = s.shut := rfl
@[simp] theorem setFn1_cap (v : Fn) : (s.setFn1 v).cap = s.cap := rfl
@[simp] theorem setFn1_thm (v : Fn) : (s.setFn1 v).thm = s.thm := rfl
@[simp] theorem setFn1_blks (v : Fn) : (s.setFn1 v).blks = s.blks := rfl
@[simp] theorem setFn1_rwb (v : Fn) : (s.setFn1 v).rwb = s.rwb := rfl
@[simp] theorem setFn1_fn0 (v : Fn) : (s.setFn1 v).fn0 = s.fn0 := rfl
@[simp] theorem setFn1_fn1 (v : Fn) : (s.setFn1 v).fn1 = v := rfl
@[simp] theorem setFn1_steward (v : Fn) : (s.setFn1 v).steward = s.steward := rfl
@[simp] theorem setFn1_jobA (v : Fn) : (s.setFn1 v).jobA = s.jobA := rfl
@[simp] theorem setFn1_jobB (v : Fn) : (s.setFn1 v).jobB = s.jobB := rfl
@[simp] theorem setFn1_jobIds (v : Fn) : (s.setFn1 v).jobIds = s.jobIds := rfl
@[simp] theorem setFn1_dsc (v : Fn) : (s.setFn1 v).dsc = s.dsc := rfl
@[simp] theorem setFn1_scb (v : Fn) : (s.setFn1 v).scb = s.scb := rfl
@[simp] theorem setFn1_prg (v : Fn) : (s.setFn1 v).prg = s.prg := rfl
@[simp] theorem setFn1_cmp (v : Fn) : (s.setFn1 v).cmp = s.cmp := rfl
@[simp] theorem setFn1_mem (v : Fn) : (s.setFn1 v).mem = s.mem := rfl
@[simp] theorem setFn1_srm (v : Fn) : (s.setFn1 v).srm = s.srm := rfl
@[simp] theorem setFn1_stk (v : Fn) : (s.setFn1 v).stk = s.stk := rfl
@[simp] theorem setFn1_opt (v : Fn) : (s.setFn1 v).opt = s.opt := rfl
@[simp] theorem setFn1_links (v : Fn) : (s.setFn1 v).links = s.links := rfl
@[simp] theorem setFn1_rtb (v : Fn) : (s.setFn1 v).rtb = s.rtb := rfl
@[simp] theorem setFn1_fab (v : Fn) : (s.setFn1 v).fab = s.fab := rfl
@[simp] theorem setFn1_sec (v : Fn) : (s.setFn1 v).sec = s.sec := rfl
@[simp] theorem setFn1_rel (v : Fn) : (s.setFn1 v).rel = s.rel := rfl
@[simp] theorem setFn1_mgt (v : Fn) : (s.setFn1 v).mgt = s.mgt := rfl
@[simp] theorem setFn1_flash (v : Fn) : (s.setFn1 v).flash = s.flash := rfl
@[simp] theorem setFn1_buddies (v : Fn) : (s.setFn1 v).buddies = s.buddies := rfl
@[simp] theorem setFn1_freeCtr (v : Fn) : (s.setFn1 v).freeCtr = s.freeCtr := rfl
@[simp] theorem setFn1_out (v : Fn) : (s.setFn1 v).out = s.out := rfl
@[simp] theorem setFn1_pending (v : Fn) : (s.setFn1 v).pending = s.pending := rfl
@[simp] theorem setSteward_variant (v : Option Nat) : (s.setSteward v).variant = s.variant := rfl
@[simp] theorem setSteward_phase (v : Option Nat) : (s.setSteward v).phase = s.phase := rfl
@[simp] theorem setSteward_sup (v : Option Nat) : (s.setSteward v).sup = s.sup := rfl
@[simp] theorem setSteward_doms (v : Option Nat) : (s.setSteward v).doms = s.doms := rfl
@[simp] theorem setSteward_pseq (v : Option Nat) : (s.setSteward v).pseq = s.pseq := rfl
@[simp] theorem setSteward_pwait (v : Option Nat) : (s.setSteward v).pwait = s.pwait := rfl
@[simp] theorem setSteward_spring (v : Option Nat) : (s.setSteward v).spring = s.spring := rfl
@[simp] theorem setSteward_prof (v : Option Nat) : (s.setSteward v).prof = s.prof := rfl
@[simp] theorem setSteward_shut (v : Option Nat) : (s.setSteward v).shut = s.shut := rfl
@[simp] theorem setSteward_cap (v : Option Nat) : (s.setSteward v).cap = s.cap := rfl
@[simp] theorem setSteward_thm (v : Option Nat) : (s.setSteward v).thm = s.thm := rfl
@[simp] theorem setSteward_blks (v : Option Nat) : (s.setSteward v).blks = s.blks := rfl
@[simp] theorem setSteward_rwb (v : Option Nat) : (s.setSteward v).rwb = s.rwb := rfl
@[simp] theorem setSteward_fn0 (v : Option Nat) : (s.setSteward v).fn0 = s.fn0 := rfl
@[simp] theorem setSteward_fn1 (v : Option Nat) : (s.setSteward v).fn1 = s.fn1 := rfl
@[simp] theorem setSteward_steward (v : Option Nat) : (s.setSteward v).steward = v := rfl
@[simp] theorem setSteward_jobA (v : Option Nat) : (s.setSteward v).jobA = s.jobA := rfl
@[simp] theorem setSteward_jobB (v : Option Nat) : (s.setSteward v).jobB = s.jobB := rfl
@[simp] theorem setSteward_jobIds (v : Option Nat) : (s.setSteward v).jobIds = s.jobIds := rfl
@[simp] theorem setSteward_dsc (v : Option Nat) : (s.setSteward v).dsc = s.dsc := rfl
@[simp] theorem setSteward_scb (v : Option Nat) : (s.setSteward v).scb = s.scb := rfl
@[simp] theorem setSteward_prg (v : Option Nat) : (s.setSteward v).prg = s.prg := rfl
@[simp] theorem setSteward_cmp (v : Option Nat) : (s.setSteward v).cmp = s.cmp := rfl
@[simp] theorem setSteward_mem (v : Option Nat) : (s.setSteward v).mem = s.mem := rfl
@[simp] theorem setSteward_srm (v : Option Nat) : (s.setSteward v).srm = s.srm := rfl
@[simp] theorem setSteward_stk (v : Option Nat) : (s.setSteward v).stk = s.stk := rfl
@[simp] theorem setSteward_opt (v : Option Nat) : (s.setSteward v).opt = s.opt := rfl
@[simp] theorem setSteward_links (v : Option Nat) : (s.setSteward v).links = s.links := rfl
@[simp] theorem setSteward_rtb (v : Option Nat) : (s.setSteward v).rtb = s.rtb := rfl
@[simp] theorem setSteward_fab (v : Option Nat) : (s.setSteward v).fab = s.fab := rfl
@[simp] theorem setSteward_sec (v : Option Nat) : (s.setSteward v).sec = s.sec := rfl
@[simp] theorem setSteward_rel (v : Option Nat) : (s.setSteward v).rel = s.rel := rfl
@[simp] theorem setSteward_mgt (v : Option Nat) : (s.setSteward v).mgt = s.mgt := rfl
@[simp] theorem setSteward_flash (v : Option Nat) : (s.setSteward v).flash = s.flash := rfl
@[simp] theorem setSteward_buddies (v : Option Nat) : (s.setSteward v).buddies = s.buddies := rfl
@[simp] theorem setSteward_freeCtr (v : Option Nat) : (s.setSteward v).freeCtr = s.freeCtr := rfl
@[simp] theorem setSteward_out (v : Option Nat) : (s.setSteward v).out = s.out := rfl
@[simp] theorem setSteward_pending (v : Option Nat) : (s.setSteward v).pending = s.pending := rfl
@[simp] theorem setJobA_variant (v : Option Job) : (s.setJobA v).variant = s.variant := rfl
@[simp] theorem setJobA_phase (v : Option Job) : (s.setJobA v).phase = s.phase := rfl
@[simp] theorem setJobA_sup (v : Option Job) : (s.setJobA v).sup = s.sup := rfl
@[simp] theorem setJobA_doms (v : Option Job) : (s.setJobA v).doms = s.doms := rfl
@[simp] theorem setJobA_pseq (v : Option Job) : (s.setJobA v).pseq = s.pseq := rfl
@[simp] theorem setJobA_pwait (v : Option Job) : (s.setJobA v).pwait = s.pwait := rfl
@[simp] theorem setJobA_spring (v : Option Job) : (s.setJobA v).spring = s.spring := rfl
@[simp] theorem setJobA_prof (v : Option Job) : (s.setJobA v).prof = s.prof := rfl
@[simp] theorem setJobA_shut (v : Option Job) : (s.setJobA v).shut = s.shut := rfl
@[simp] theorem setJobA_cap (v : Option Job) : (s.setJobA v).cap = s.cap := rfl
@[simp] theorem setJobA_thm (v : Option Job) : (s.setJobA v).thm = s.thm := rfl
@[simp] theorem setJobA_blks (v : Option Job) : (s.setJobA v).blks = s.blks := rfl
@[simp] theorem setJobA_rwb (v : Option Job) : (s.setJobA v).rwb = s.rwb := rfl
@[simp] theorem setJobA_fn0 (v : Option Job) : (s.setJobA v).fn0 = s.fn0 := rfl
@[simp] theorem setJobA_fn1 (v : Option Job) : (s.setJobA v).fn1 = s.fn1 := rfl
@[simp] theorem setJobA_steward (v : Option Job) : (s.setJobA v).steward = s.steward := rfl
@[simp] theorem setJobA_jobA (v : Option Job) : (s.setJobA v).jobA = v := rfl
@[simp] theorem setJobA_jobB (v : Option Job) : (s.setJobA v).jobB = s.jobB := rfl
@[simp] theorem setJobA_jobIds (v : Option Job) : (s.setJobA v).jobIds = s.jobIds := rfl
@[simp] theorem setJobA_dsc (v : Option Job) : (s.setJobA v).dsc = s.dsc := rfl
@[simp] theorem setJobA_scb (v : Option Job) : (s.setJobA v).scb = s.scb := rfl
@[simp] theorem setJobA_prg (v : Option Job) : (s.setJobA v).prg = s.prg := rfl
@[simp] theorem setJobA_cmp (v : Option Job) : (s.setJobA v).cmp = s.cmp := rfl
@[simp] theorem setJobA_mem (v : Option Job) : (s.setJobA v).mem = s.mem := rfl
@[simp] theorem setJobA_srm (v : Option Job) : (s.setJobA v).srm = s.srm := rfl
@[simp] theorem setJobA_stk (v : Option Job) : (s.setJobA v).stk = s.stk := rfl
@[simp] theorem setJobA_opt (v : Option Job) : (s.setJobA v).opt = s.opt := rfl
@[simp] theorem setJobA_links (v : Option Job) : (s.setJobA v).links = s.links := rfl
@[simp] theorem setJobA_rtb (v : Option Job) : (s.setJobA v).rtb = s.rtb := rfl
@[simp] theorem setJobA_fab (v : Option Job) : (s.setJobA v).fab = s.fab := rfl
@[simp] theorem setJobA_sec (v : Option Job) : (s.setJobA v).sec = s.sec := rfl
@[simp] theorem setJobA_rel (v : Option Job) : (s.setJobA v).rel = s.rel := rfl
@[simp] theorem setJobA_mgt (v : Option Job) : (s.setJobA v).mgt = s.mgt := rfl
@[simp] theorem setJobA_flash (v : Option Job) : (s.setJobA v).flash = s.flash := rfl
@[simp] theorem setJobA_buddies (v : Option Job) : (s.setJobA v).buddies = s.buddies := rfl
@[simp] theorem setJobA_freeCtr (v : Option Job) : (s.setJobA v).freeCtr = s.freeCtr := rfl
@[simp] theorem setJobA_out (v : Option Job) : (s.setJobA v).out = s.out := rfl
@[simp] theorem setJobA_pending (v : Option Job) : (s.setJobA v).pending = s.pending := rfl
@[simp] theorem setJobB_variant (v : Option Job) : (s.setJobB v).variant = s.variant := rfl
@[simp] theorem setJobB_phase (v : Option Job) : (s.setJobB v).phase = s.phase := rfl
@[simp] theorem setJobB_sup (v : Option Job) : (s.setJobB v).sup = s.sup := rfl
@[simp] theorem setJobB_doms (v : Option Job) : (s.setJobB v).doms = s.doms := rfl
@[simp] theorem setJobB_pseq (v : Option Job) : (s.setJobB v).pseq = s.pseq := rfl
@[simp] theorem setJobB_pwait (v : Option Job) : (s.setJobB v).pwait = s.pwait := rfl
@[simp] theorem setJobB_spring (v : Option Job) : (s.setJobB v).spring = s.spring := rfl
@[simp] theorem setJobB_prof (v : Option Job) : (s.setJobB v).prof = s.prof := rfl
@[simp] theorem setJobB_shut (v : Option Job) : (s.setJobB v).shut = s.shut := rfl
@[simp] theorem setJobB_cap (v : Option Job) : (s.setJobB v).cap = s.cap := rfl
@[simp] theorem setJobB_thm (v : Option Job) : (s.setJobB v).thm = s.thm := rfl
@[simp] theorem setJobB_blks (v : Option Job) : (s.setJobB v).blks = s.blks := rfl
@[simp] theorem setJobB_rwb (v : Option Job) : (s.setJobB v).rwb = s.rwb := rfl
@[simp] theorem setJobB_fn0 (v : Option Job) : (s.setJobB v).fn0 = s.fn0 := rfl
@[simp] theorem setJobB_fn1 (v : Option Job) : (s.setJobB v).fn1 = s.fn1 := rfl
@[simp] theorem setJobB_steward (v : Option Job) : (s.setJobB v).steward = s.steward := rfl
@[simp] theorem setJobB_jobA (v : Option Job) : (s.setJobB v).jobA = s.jobA := rfl
@[simp] theorem setJobB_jobB (v : Option Job) : (s.setJobB v).jobB = v := rfl
@[simp] theorem setJobB_jobIds (v : Option Job) : (s.setJobB v).jobIds = s.jobIds := rfl
@[simp] theorem setJobB_dsc (v : Option Job) : (s.setJobB v).dsc = s.dsc := rfl
@[simp] theorem setJobB_scb (v : Option Job) : (s.setJobB v).scb = s.scb := rfl
@[simp] theorem setJobB_prg (v : Option Job) : (s.setJobB v).prg = s.prg := rfl
@[simp] theorem setJobB_cmp (v : Option Job) : (s.setJobB v).cmp = s.cmp := rfl
@[simp] theorem setJobB_mem (v : Option Job) : (s.setJobB v).mem = s.mem := rfl
@[simp] theorem setJobB_srm (v : Option Job) : (s.setJobB v).srm = s.srm := rfl
@[simp] theorem setJobB_stk (v : Option Job) : (s.setJobB v).stk = s.stk := rfl
@[simp] theorem setJobB_opt (v : Option Job) : (s.setJobB v).opt = s.opt := rfl
@[simp] theorem setJobB_links (v : Option Job) : (s.setJobB v).links = s.links := rfl
@[simp] theorem setJobB_rtb (v : Option Job) : (s.setJobB v).rtb = s.rtb := rfl
@[simp] theorem setJobB_fab (v : Option Job) : (s.setJobB v).fab = s.fab := rfl
@[simp] theorem setJobB_sec (v : Option Job) : (s.setJobB v).sec = s.sec := rfl
@[simp] theorem setJobB_rel (v : Option Job) : (s.setJobB v).rel = s.rel := rfl
@[simp] theorem setJobB_mgt (v : Option Job) : (s.setJobB v).mgt = s.mgt := rfl
@[simp] theorem setJobB_flash (v : Option Job) : (s.setJobB v).flash = s.flash := rfl
@[simp] theorem setJobB_buddies (v : Option Job) : (s.setJobB v).buddies = s.buddies := rfl
@[simp] theorem setJobB_freeCtr (v : Option Job) : (s.setJobB v).freeCtr = s.freeCtr := rfl
@[simp] theorem setJobB_out (v : Option Job) : (s.setJobB v).out = s.out := rfl
@[simp] theorem setJobB_pending (v : Option Job) : (s.setJobB v).pending = s.pending := rfl
@[simp] theorem setJobIds_variant (v : Tbl Nat) : (s.setJobIds v).variant = s.variant := rfl
@[simp] theorem setJobIds_phase (v : Tbl Nat) : (s.setJobIds v).phase = s.phase := rfl
@[simp] theorem setJobIds_sup (v : Tbl Nat) : (s.setJobIds v).sup = s.sup := rfl
@[simp] theorem setJobIds_doms (v : Tbl Nat) : (s.setJobIds v).doms = s.doms := rfl
@[simp] theorem setJobIds_pseq (v : Tbl Nat) : (s.setJobIds v).pseq = s.pseq := rfl
@[simp] theorem setJobIds_pwait (v : Tbl Nat) : (s.setJobIds v).pwait = s.pwait := rfl
@[simp] theorem setJobIds_spring (v : Tbl Nat) : (s.setJobIds v).spring = s.spring := rfl
@[simp] theorem setJobIds_prof (v : Tbl Nat) : (s.setJobIds v).prof = s.prof := rfl
@[simp] theorem setJobIds_shut (v : Tbl Nat) : (s.setJobIds v).shut = s.shut := rfl
@[simp] theorem setJobIds_cap (v : Tbl Nat) : (s.setJobIds v).cap = s.cap := rfl
@[simp] theorem setJobIds_thm (v : Tbl Nat) : (s.setJobIds v).thm = s.thm := rfl
@[simp] theorem setJobIds_blks (v : Tbl Nat) : (s.setJobIds v).blks = s.blks := rfl
@[simp] theorem setJobIds_rwb (v : Tbl Nat) : (s.setJobIds v).rwb = s.rwb := rfl
@[simp] theorem setJobIds_fn0 (v : Tbl Nat) : (s.setJobIds v).fn0 = s.fn0 := rfl
@[simp] theorem setJobIds_fn1 (v : Tbl Nat) : (s.setJobIds v).fn1 = s.fn1 := rfl
@[simp] theorem setJobIds_steward (v : Tbl Nat) : (s.setJobIds v).steward = s.steward := rfl
@[simp] theorem setJobIds_jobA (v : Tbl Nat) : (s.setJobIds v).jobA = s.jobA := rfl
@[simp] theorem setJobIds_jobB (v : Tbl Nat) : (s.setJobIds v).jobB = s.jobB := rfl
@[simp] theorem setJobIds_jobIds (v : Tbl Nat) : (s.setJobIds v).jobIds = v := rfl
@[simp] theorem setJobIds_dsc (v : Tbl Nat) : (s.setJobIds v).dsc = s.dsc := rfl
@[simp] theorem setJobIds_scb (v : Tbl Nat) : (s.setJobIds v).scb = s.scb := rfl
@[simp] theorem setJobIds_prg (v : Tbl Nat) : (s.setJobIds v).prg = s.prg := rfl
@[simp] theorem setJobIds_cmp (v : Tbl Nat) : (s.setJobIds v).cmp = s.cmp := rfl
@[simp] theorem setJobIds_mem (v : Tbl Nat) : (s.setJobIds v).mem = s.mem := rfl
@[simp] theorem setJobIds_srm (v : Tbl Nat) : (s.setJobIds v).srm = s.srm := rfl
@[simp] theorem setJobIds_stk (v : Tbl Nat) : (s.setJobIds v).stk = s.stk := rfl
@[simp] theorem setJobIds_opt (v : Tbl Nat) : (s.setJobIds v).opt = s.opt := rfl
@[simp] theorem setJobIds_links (v : Tbl Nat) : (s.setJobIds v).links = s.links := rfl
@[simp] theorem setJobIds_rtb (v : Tbl Nat) : (s.setJobIds v).rtb = s.rtb := rfl
@[simp] theorem setJobIds_fab (v : Tbl Nat) : (s.setJobIds v).fab = s.fab := rfl
@[simp] theorem setJobIds_sec (v : Tbl Nat) : (s.setJobIds v).sec = s.sec := rfl
@[simp] theorem setJobIds_rel (v : Tbl Nat) : (s.setJobIds v).rel = s.rel := rfl
@[simp] theorem setJobIds_mgt (v : Tbl Nat) : (s.setJobIds v).mgt = s.mgt := rfl
@[simp] theorem setJobIds_flash (v : Tbl Nat) : (s.setJobIds v).flash = s.flash := rfl
@[simp] theorem setJobIds_buddies (v : Tbl Nat) : (s.setJobIds v).buddies = s.buddies := rfl
@[simp] theorem setJobIds_freeCtr (v : Tbl Nat) : (s.setJobIds v).freeCtr = s.freeCtr := rfl
@[simp] theorem setJobIds_out (v : Tbl Nat) : (s.setJobIds v).out = s.out := rfl
@[simp] theorem setJobIds_pending (v : Tbl Nat) : (s.setJobIds v).pending = s.pending := rfl
@[simp] theorem setDsc_variant (v : Tbl Dsc) : (s.setDsc v).variant = s.variant := rfl
@[simp] theorem setDsc_phase (v : Tbl Dsc) : (s.setDsc v).phase = s.phase := rfl
@[simp] theorem setDsc_sup (v : Tbl Dsc) : (s.setDsc v).sup = s.sup := rfl
@[simp] theorem setDsc_doms (v : Tbl Dsc) : (s.setDsc v).doms = s.doms := rfl
@[simp] theorem setDsc_pseq (v : Tbl Dsc) : (s.setDsc v).pseq = s.pseq := rfl
@[simp] theorem setDsc_pwait (v : Tbl Dsc) : (s.setDsc v).pwait = s.pwait := rfl
@[simp] theorem setDsc_spring (v : Tbl Dsc) : (s.setDsc v).spring = s.spring := rfl
@[simp] theorem setDsc_prof (v : Tbl Dsc) : (s.setDsc v).prof = s.prof := rfl
@[simp] theorem setDsc_shut (v : Tbl Dsc) : (s.setDsc v).shut = s.shut := rfl
@[simp] theorem setDsc_cap (v : Tbl Dsc) : (s.setDsc v).cap = s.cap := rfl
@[simp] theorem setDsc_thm (v : Tbl Dsc) : (s.setDsc v).thm = s.thm := rfl
@[simp] theorem setDsc_blks (v : Tbl Dsc) : (s.setDsc v).blks = s.blks := rfl
@[simp] theorem setDsc_rwb (v : Tbl Dsc) : (s.setDsc v).rwb = s.rwb := rfl
@[simp] theorem setDsc_fn0 (v : Tbl Dsc) : (s.setDsc v).fn0 = s.fn0 := rfl
@[simp] theorem setDsc_fn1 (v : Tbl Dsc) : (s.setDsc v).fn1 = s.fn1 := rfl
@[simp] theorem setDsc_steward (v : Tbl Dsc) : (s.setDsc v).steward = s.steward := rfl
@[simp] theorem setDsc_jobA (v : Tbl Dsc) : (s.setDsc v).jobA = s.jobA := rfl
@[simp] theorem setDsc_jobB (v : Tbl Dsc) : (s.setDsc v).jobB = s.jobB := rfl
@[simp] theorem setDsc_jobIds (v : Tbl Dsc) : (s.setDsc v).jobIds = s.jobIds := rfl
@[simp] theorem setDsc_dsc (v : Tbl Dsc) : (s.setDsc v).dsc = v := rfl
@[simp] theorem setDsc_scb (v : Tbl Dsc) : (s.setDsc v).scb = s.scb := rfl
@[simp] theorem setDsc_prg (v : Tbl Dsc) : (s.setDsc v).prg = s.prg := rfl
@[simp] theorem setDsc_cmp (v : Tbl Dsc) : (s.setDsc v).cmp = s.cmp := rfl
@[simp] theorem setDsc_mem (v : Tbl Dsc) : (s.setDsc v).mem = s.mem := rfl
@[simp] theorem setDsc_srm (v : Tbl Dsc) : (s.setDsc v).srm = s.srm := rfl
@[simp] theorem setDsc_stk (v : Tbl Dsc) : (s.setDsc v).stk = s.stk := rfl
@[simp] theorem setDsc_opt (v : Tbl Dsc) : (s.setDsc v).opt = s.opt := rfl
@[simp] theorem setDsc_links (v : Tbl Dsc) : (s.setDsc v).links = s.links := rfl
@[simp] theorem setDsc_rtb (v : Tbl Dsc) : (s.setDsc v).rtb = s.rtb := rfl
@[simp] theorem setDsc_fab (v : Tbl Dsc) : (s.setDsc v).fab = s.fab := rfl
@[simp] theorem setDsc_sec (v : Tbl Dsc) : (s.setDsc v).sec = s.sec := rfl
@[simp] theorem setDsc_rel (v : Tbl Dsc) : (s.setDsc v).rel = s.rel := rfl
@[simp] theorem setDsc_mgt (v : Tbl Dsc) : (s.setDsc v).mgt = s.mgt := rfl
@[simp] theorem setDsc_flash (v : Tbl Dsc) : (s.setDsc v).flash = s.flash := rfl
@[simp] theorem setDsc_buddies (v : Tbl Dsc) : (s.setDsc v).buddies = s.buddies := rfl
@[simp] theorem setDsc_freeCtr (v : Tbl Dsc) : (s.setDsc v).freeCtr = s.freeCtr := rfl
@[simp] theorem setDsc_out (v : Tbl Dsc) : (s.setDsc v).out = s.out := rfl
@[simp] theorem setDsc_pending (v : Tbl Dsc) : (s.setDsc v).pending = s.pending := rfl
@[simp] theorem setScb_variant (v : Tbl Nat) : (s.setScb v).variant = s.variant := rfl
@[simp] theorem setScb_phase (v : Tbl Nat) : (s.setScb v).phase = s.phase := rfl
@[simp] theorem setScb_sup (v : Tbl Nat) : (s.setScb v).sup = s.sup := rfl
@[simp] theorem setScb_doms (v : Tbl Nat) : (s.setScb v).doms = s.doms := rfl
@[simp] theorem setScb_pseq (v : Tbl Nat) : (s.setScb v).pseq = s.pseq := rfl
@[simp] theorem setScb_pwait (v : Tbl Nat) : (s.setScb v).pwait = s.pwait := rfl
@[simp] theorem setScb_spring (v : Tbl Nat) : (s.setScb v).spring = s.spring := rfl
@[simp] theorem setScb_prof (v : Tbl Nat) : (s.setScb v).prof = s.prof := rfl
@[simp] theorem setScb_shut (v : Tbl Nat) : (s.setScb v).shut = s.shut := rfl
@[simp] theorem setScb_cap (v : Tbl Nat) : (s.setScb v).cap = s.cap := rfl
@[simp] theorem setScb_thm (v : Tbl Nat) : (s.setScb v).thm = s.thm := rfl
@[simp] theorem setScb_blks (v : Tbl Nat) : (s.setScb v).blks = s.blks := rfl
@[simp] theorem setScb_rwb (v : Tbl Nat) : (s.setScb v).rwb = s.rwb := rfl
@[simp] theorem setScb_fn0 (v : Tbl Nat) : (s.setScb v).fn0 = s.fn0 := rfl
@[simp] theorem setScb_fn1 (v : Tbl Nat) : (s.setScb v).fn1 = s.fn1 := rfl
@[simp] theorem setScb_steward (v : Tbl Nat) : (s.setScb v).steward = s.steward := rfl
@[simp] theorem setScb_jobA (v : Tbl Nat) : (s.setScb v).jobA = s.jobA := rfl
@[simp] theorem setScb_jobB (v : Tbl Nat) : (s.setScb v).jobB = s.jobB := rfl
@[simp] theorem setScb_jobIds (v : Tbl Nat) : (s.setScb v).jobIds = s.jobIds := rfl
@[simp] theorem setScb_dsc (v : Tbl Nat) : (s.setScb v).dsc = s.dsc := rfl
@[simp] theorem setScb_scb (v : Tbl Nat) : (s.setScb v).scb = v := rfl
@[simp] theorem setScb_prg (v : Tbl Nat) : (s.setScb v).prg = s.prg := rfl
@[simp] theorem setScb_cmp (v : Tbl Nat) : (s.setScb v).cmp = s.cmp := rfl
@[simp] theorem setScb_mem (v : Tbl Nat) : (s.setScb v).mem = s.mem := rfl
@[simp] theorem setScb_srm (v : Tbl Nat) : (s.setScb v).srm = s.srm := rfl
@[simp] theorem setScb_stk (v : Tbl Nat) : (s.setScb v).stk = s.stk := rfl
@[simp] theorem setScb_opt (v : Tbl Nat) : (s.setScb v).opt = s.opt := rfl
@[simp] theorem setScb_links (v : Tbl Nat) : (s.setScb v).links = s.links := rfl
@[simp] theorem setScb_rtb (v : Tbl Nat) : (s.setScb v).rtb = s.rtb := rfl
@[simp] theorem setScb_fab (v : Tbl Nat) : (s.setScb v).fab = s.fab := rfl
@[simp] theorem setScb_sec (v : Tbl Nat) : (s.setScb v).sec = s.sec := rfl
@[simp] theorem setScb_rel (v : Tbl Nat) : (s.setScb v).rel = s.rel := rfl
@[simp] theorem setScb_mgt (v : Tbl Nat) : (s.setScb v).mgt = s.mgt := rfl
@[simp] theorem setScb_flash (v : Tbl Nat) : (s.setScb v).flash = s.flash := rfl
@[simp] theorem setScb_buddies (v : Tbl Nat) : (s.setScb v).buddies = s.buddies := rfl
@[simp] theorem setScb_freeCtr (v : Tbl Nat) : (s.setScb v).freeCtr = s.freeCtr := rfl
@[simp] theorem setScb_out (v : Tbl Nat) : (s.setScb v).out = s.out := rfl
@[simp] theorem setScb_pending (v : Tbl Nat) : (s.setScb v).pending = s.pending := rfl
@[simp] theorem setPrg_variant (v : Progs) : (s.setPrg v).variant = s.variant := rfl
@[simp] theorem setPrg_phase (v : Progs) : (s.setPrg v).phase = s.phase := rfl
@[simp] theorem setPrg_sup (v : Progs) : (s.setPrg v).sup = s.sup := rfl
@[simp] theorem setPrg_doms (v : Progs) : (s.setPrg v).doms = s.doms := rfl
@[simp] theorem setPrg_pseq (v : Progs) : (s.setPrg v).pseq = s.pseq := rfl
@[simp] theorem setPrg_pwait (v : Progs) : (s.setPrg v).pwait = s.pwait := rfl
@[simp] theorem setPrg_spring (v : Progs) : (s.setPrg v).spring = s.spring := rfl
@[simp] theorem setPrg_prof (v : Progs) : (s.setPrg v).prof = s.prof := rfl
@[simp] theorem setPrg_shut (v : Progs) : (s.setPrg v).shut = s.shut := rfl
@[simp] theorem setPrg_cap (v : Progs) : (s.setPrg v).cap = s.cap := rfl
@[simp] theorem setPrg_thm (v : Progs) : (s.setPrg v).thm = s.thm := rfl
@[simp] theorem setPrg_blks (v : Progs) : (s.setPrg v).blks = s.blks := rfl
@[simp] theorem setPrg_rwb (v : Progs) : (s.setPrg v).rwb = s.rwb := rfl
@[simp] theorem setPrg_fn0 (v : Progs) : (s.setPrg v).fn0 = s.fn0 := rfl
@[simp] theorem setPrg_fn1 (v : Progs) : (s.setPrg v).fn1 = s.fn1 := rfl
@[simp] theorem setPrg_steward (v : Progs) : (s.setPrg v).steward = s.steward := rfl
@[simp] theorem setPrg_jobA (v : Progs) : (s.setPrg v).jobA = s.jobA := rfl
@[simp] theorem setPrg_jobB (v : Progs) : (s.setPrg v).jobB = s.jobB := rfl
@[simp] theorem setPrg_jobIds (v : Progs) : (s.setPrg v).jobIds = s.jobIds := rfl
@[simp] theorem setPrg_dsc (v : Progs) : (s.setPrg v).dsc = s.dsc := rfl
@[simp] theorem setPrg_scb (v : Progs) : (s.setPrg v).scb = s.scb := rfl
@[simp] theorem setPrg_prg (v : Progs) : (s.setPrg v).prg = v := rfl
@[simp] theorem setPrg_cmp (v : Progs) : (s.setPrg v).cmp = s.cmp := rfl
@[simp] theorem setPrg_mem (v : Progs) : (s.setPrg v).mem = s.mem := rfl
@[simp] theorem setPrg_srm (v : Progs) : (s.setPrg v).srm = s.srm := rfl
@[simp] theorem setPrg_stk (v : Progs) : (s.setPrg v).stk = s.stk := rfl
@[simp] theorem setPrg_opt (v : Progs) : (s.setPrg v).opt = s.opt := rfl
@[simp] theorem setPrg_links (v : Progs) : (s.setPrg v).links = s.links := rfl
@[simp] theorem setPrg_rtb (v : Progs) : (s.setPrg v).rtb = s.rtb := rfl
@[simp] theorem setPrg_fab (v : Progs) : (s.setPrg v).fab = s.fab := rfl
@[simp] theorem setPrg_sec (v : Progs) : (s.setPrg v).sec = s.sec := rfl
@[simp] theorem setPrg_rel (v : Progs) : (s.setPrg v).rel = s.rel := rfl
@[simp] theorem setPrg_mgt (v : Progs) : (s.setPrg v).mgt = s.mgt := rfl
@[simp] theorem setPrg_flash (v : Progs) : (s.setPrg v).flash = s.flash := rfl
@[simp] theorem setPrg_buddies (v : Progs) : (s.setPrg v).buddies = s.buddies := rfl
@[simp] theorem setPrg_freeCtr (v : Progs) : (s.setPrg v).freeCtr = s.freeCtr := rfl
@[simp] theorem setPrg_out (v : Progs) : (s.setPrg v).out = s.out := rfl
@[simp] theorem setPrg_pending (v : Progs) : (s.setPrg v).pending = s.pending := rfl
@[simp] theorem setCmp_variant (v : Compute) : (s.setCmp v).variant = s.variant := rfl
@[simp] theorem setCmp_phase (v : Compute) : (s.setCmp v).phase = s.phase := rfl
@[simp] theorem setCmp_sup (v : Compute) : (s.setCmp v).sup = s.sup := rfl
@[simp] theorem setCmp_doms (v : Compute) : (s.setCmp v).doms = s.doms := rfl
@[simp] theorem setCmp_pseq (v : Compute) : (s.setCmp v).pseq = s.pseq := rfl
@[simp] theorem setCmp_pwait (v : Compute) : (s.setCmp v).pwait = s.pwait := rfl
@[simp] theorem setCmp_spring (v : Compute) : (s.setCmp v).spring = s.spring := rfl
@[simp] theorem setCmp_prof (v : Compute) : (s.setCmp v).prof = s.prof := rfl
@[simp] theorem setCmp_shut (v : Compute) : (s.setCmp v).shut = s.shut := rfl
@[simp] theorem setCmp_cap (v : Compute) : (s.setCmp v).cap = s.cap := rfl
@[simp] theorem setCmp_thm (v : Compute) : (s.setCmp v).thm = s.thm := rfl
@[simp] theorem setCmp_blks (v : Compute) : (s.setCmp v).blks = s.blks := rfl
@[simp] theorem setCmp_rwb (v : Compute) : (s.setCmp v).rwb = s.rwb := rfl
@[simp] theorem setCmp_fn0 (v : Compute) : (s.setCmp v).fn0 = s.fn0 := rfl
@[simp] theorem setCmp_fn1 (v : Compute) : (s.setCmp v).fn1 = s.fn1 := rfl
@[simp] theorem setCmp_steward (v : Compute) : (s.setCmp v).steward = s.steward := rfl
@[simp] theorem setCmp_jobA (v : Compute) : (s.setCmp v).jobA = s.jobA := rfl
@[simp] theorem setCmp_jobB (v : Compute) : (s.setCmp v).jobB = s.jobB := rfl
@[simp] theorem setCmp_jobIds (v : Compute) : (s.setCmp v).jobIds = s.jobIds := rfl
@[simp] theorem setCmp_dsc (v : Compute) : (s.setCmp v).dsc = s.dsc := rfl
@[simp] theorem setCmp_scb (v : Compute) : (s.setCmp v).scb = s.scb := rfl
@[simp] theorem setCmp_prg (v : Compute) : (s.setCmp v).prg = s.prg := rfl
@[simp] theorem setCmp_cmp (v : Compute) : (s.setCmp v).cmp = v := rfl
@[simp] theorem setCmp_mem (v : Compute) : (s.setCmp v).mem = s.mem := rfl
@[simp] theorem setCmp_srm (v : Compute) : (s.setCmp v).srm = s.srm := rfl
@[simp] theorem setCmp_stk (v : Compute) : (s.setCmp v).stk = s.stk := rfl
@[simp] theorem setCmp_opt (v : Compute) : (s.setCmp v).opt = s.opt := rfl
@[simp] theorem setCmp_links (v : Compute) : (s.setCmp v).links = s.links := rfl
@[simp] theorem setCmp_rtb (v : Compute) : (s.setCmp v).rtb = s.rtb := rfl
@[simp] theorem setCmp_fab (v : Compute) : (s.setCmp v).fab = s.fab := rfl
@[simp] theorem setCmp_sec (v : Compute) : (s.setCmp v).sec = s.sec := rfl
@[simp] theorem setCmp_rel (v : Compute) : (s.setCmp v).rel = s.rel := rfl
@[simp] theorem setCmp_mgt (v : Compute) : (s.setCmp v).mgt = s.mgt := rfl
@[simp] theorem setCmp_flash (v : Compute) : (s.setCmp v).flash = s.flash := rfl
@[simp] theorem setCmp_buddies (v : Compute) : (s.setCmp v).buddies = s.buddies := rfl
@[simp] theorem setCmp_freeCtr (v : Compute) : (s.setCmp v).freeCtr = s.freeCtr := rfl
@[simp] theorem setCmp_out (v : Compute) : (s.setCmp v).out = s.out := rfl
@[simp] theorem setCmp_pending (v : Compute) : (s.setCmp v).pending = s.pending := rfl
@[simp] theorem setMem_variant (v : Mem) : (s.setMem v).variant = s.variant := rfl
@[simp] theorem setMem_phase (v : Mem) : (s.setMem v).phase = s.phase := rfl
@[simp] theorem setMem_sup (v : Mem) : (s.setMem v).sup = s.sup := rfl
@[simp] theorem setMem_doms (v : Mem) : (s.setMem v).doms = s.doms := rfl
@[simp] theorem setMem_pseq (v : Mem) : (s.setMem v).pseq = s.pseq := rfl
@[simp] theorem setMem_pwait (v : Mem) : (s.setMem v).pwait = s.pwait := rfl
@[simp] theorem setMem_spring (v : Mem) : (s.setMem v).spring = s.spring := rfl
@[simp] theorem setMem_prof (v : Mem) : (s.setMem v).prof = s.prof := rfl
@[simp] theorem setMem_shut (v : Mem) : (s.setMem v).shut = s.shut := rfl
@[simp] theorem setMem_cap (v : Mem) : (s.setMem v).cap = s.cap := rfl
@[simp] theorem setMem_thm (v : Mem) : (s.setMem v).thm = s.thm := rfl
@[simp] theorem setMem_blks (v : Mem) : (s.setMem v).blks = s.blks := rfl
@[simp] theorem setMem_rwb (v : Mem) : (s.setMem v).rwb = s.rwb := rfl
@[simp] theorem setMem_fn0 (v : Mem) : (s.setMem v).fn0 = s.fn0 := rfl
@[simp] theorem setMem_fn1 (v : Mem) : (s.setMem v).fn1 = s.fn1 := rfl
@[simp] theorem setMem_steward (v : Mem) : (s.setMem v).steward = s.steward := rfl
@[simp] theorem setMem_jobA (v : Mem) : (s.setMem v).jobA = s.jobA := rfl
@[simp] theorem setMem_jobB (v : Mem) : (s.setMem v).jobB = s.jobB := rfl
@[simp] theorem setMem_jobIds (v : Mem) : (s.setMem v).jobIds = s.jobIds := rfl
@[simp] theorem setMem_dsc (v : Mem) : (s.setMem v).dsc = s.dsc := rfl
@[simp] theorem setMem_scb (v : Mem) : (s.setMem v).scb = s.scb := rfl
@[simp] theorem setMem_prg (v : Mem) : (s.setMem v).prg = s.prg := rfl
@[simp] theorem setMem_cmp (v : Mem) : (s.setMem v).cmp = s.cmp := rfl
@[simp] theorem setMem_mem (v : Mem) : (s.setMem v).mem = v := rfl
@[simp] theorem setMem_srm (v : Mem) : (s.setMem v).srm = s.srm := rfl
@[simp] theorem setMem_stk (v : Mem) : (s.setMem v).stk = s.stk := rfl
@[simp] theorem setMem_opt (v : Mem) : (s.setMem v).opt = s.opt := rfl
@[simp] theorem setMem_links (v : Mem) : (s.setMem v).links = s.links := rfl
@[simp] theorem setMem_rtb (v : Mem) : (s.setMem v).rtb = s.rtb := rfl
@[simp] theorem setMem_fab (v : Mem) : (s.setMem v).fab = s.fab := rfl
@[simp] theorem setMem_sec (v : Mem) : (s.setMem v).sec = s.sec := rfl
@[simp] theorem setMem_rel (v : Mem) : (s.setMem v).rel = s.rel := rfl
@[simp] theorem setMem_mgt (v : Mem) : (s.setMem v).mgt = s.mgt := rfl
@[simp] theorem setMem_flash (v : Mem) : (s.setMem v).flash = s.flash := rfl
@[simp] theorem setMem_buddies (v : Mem) : (s.setMem v).buddies = s.buddies := rfl
@[simp] theorem setMem_freeCtr (v : Mem) : (s.setMem v).freeCtr = s.freeCtr := rfl
@[simp] theorem setMem_out (v : Mem) : (s.setMem v).out = s.out := rfl
@[simp] theorem setMem_pending (v : Mem) : (s.setMem v).pending = s.pending := rfl
@[simp] theorem setSrm_variant (v : Tbl Srm) : (s.setSrm v).variant = s.variant := rfl
@[simp] theorem setSrm_phase (v : Tbl Srm) : (s.setSrm v).phase = s.phase := rfl
@[simp] theorem setSrm_sup (v : Tbl Srm) : (s.setSrm v).sup = s.sup := rfl
@[simp] theorem setSrm_doms (v : Tbl Srm) : (s.setSrm v).doms = s.doms := rfl
@[simp] theorem setSrm_pseq (v : Tbl Srm) : (s.setSrm v).pseq = s.pseq := rfl
@[simp] theorem setSrm_pwait (v : Tbl Srm) : (s.setSrm v).pwait = s.pwait := rfl
@[simp] theorem setSrm_spring (v : Tbl Srm) : (s.setSrm v).spring = s.spring := rfl
@[simp] theorem setSrm_prof (v : Tbl Srm) : (s.setSrm v).prof = s.prof := rfl
@[simp] theorem setSrm_shut (v : Tbl Srm) : (s.setSrm v).shut = s.shut := rfl
@[simp] theorem setSrm_cap (v : Tbl Srm) : (s.setSrm v).cap = s.cap := rfl
@[simp] theorem setSrm_thm (v : Tbl Srm) : (s.setSrm v).thm = s.thm := rfl
@[simp] theorem setSrm_blks (v : Tbl Srm) : (s.setSrm v).blks = s.blks := rfl
@[simp] theorem setSrm_rwb (v : Tbl Srm) : (s.setSrm v).rwb = s.rwb := rfl
@[simp] theorem setSrm_fn0 (v : Tbl Srm) : (s.setSrm v).fn0 = s.fn0 := rfl
@[simp] theorem setSrm_fn1 (v : Tbl Srm) : (s.setSrm v).fn1 = s.fn1 := rfl
@[simp] theorem setSrm_steward (v : Tbl Srm) : (s.setSrm v).steward = s.steward := rfl
@[simp] theorem setSrm_jobA (v : Tbl Srm) : (s.setSrm v).jobA = s.jobA := rfl
@[simp] theorem setSrm_jobB (v : Tbl Srm) : (s.setSrm v).jobB = s.jobB := rfl
@[simp] theorem setSrm_jobIds (v : Tbl Srm) : (s.setSrm v).jobIds = s.jobIds := rfl
@[simp] theorem setSrm_dsc (v : Tbl Srm) : (s.setSrm v).dsc = s.dsc := rfl
@[simp] theorem setSrm_scb (v : Tbl Srm) : (s.setSrm v).scb = s.scb := rfl
@[simp] theorem setSrm_prg (v : Tbl Srm) : (s.setSrm v).prg = s.prg := rfl
@[simp] theorem setSrm_cmp (v : Tbl Srm) : (s.setSrm v).cmp = s.cmp := rfl
@[simp] theorem setSrm_mem (v : Tbl Srm) : (s.setSrm v).mem = s.mem := rfl
@[simp] theorem setSrm_srm (v : Tbl Srm) : (s.setSrm v).srm = v := rfl
@[simp] theorem setSrm_stk (v : Tbl Srm) : (s.setSrm v).stk = s.stk := rfl
@[simp] theorem setSrm_opt (v : Tbl Srm) : (s.setSrm v).opt = s.opt := rfl
@[simp] theorem setSrm_links (v : Tbl Srm) : (s.setSrm v).links = s.links := rfl
@[simp] theorem setSrm_rtb (v : Tbl Srm) : (s.setSrm v).rtb = s.rtb := rfl
@[simp] theorem setSrm_fab (v : Tbl Srm) : (s.setSrm v).fab = s.fab := rfl
@[simp] theorem setSrm_sec (v : Tbl Srm) : (s.setSrm v).sec = s.sec := rfl
@[simp] theorem setSrm_rel (v : Tbl Srm) : (s.setSrm v).rel = s.rel := rfl
@[simp] theorem setSrm_mgt (v : Tbl Srm) : (s.setSrm v).mgt = s.mgt := rfl
@[simp] theorem setSrm_flash (v : Tbl Srm) : (s.setSrm v).flash = s.flash := rfl
@[simp] theorem setSrm_buddies (v : Tbl Srm) : (s.setSrm v).buddies = s.buddies := rfl
@[simp] theorem setSrm_freeCtr (v : Tbl Srm) : (s.setSrm v).freeCtr = s.freeCtr := rfl
@[simp] theorem setSrm_out (v : Tbl Srm) : (s.setSrm v).out = s.out := rfl
@[simp] theorem setSrm_pending (v : Tbl Srm) : (s.setSrm v).pending = s.pending := rfl
@[simp] theorem setStk_variant (v : Tbl Stack) : (s.setStk v).variant = s.variant := rfl
@[simp] theorem setStk_phase (v : Tbl Stack) : (s.setStk v).phase = s.phase := rfl
@[simp] theorem setStk_sup (v : Tbl Stack) : (s.setStk v).sup = s.sup := rfl
@[simp] theorem setStk_doms (v : Tbl Stack) : (s.setStk v).doms = s.doms := rfl
@[simp] theorem setStk_pseq (v : Tbl Stack) : (s.setStk v).pseq = s.pseq := rfl
@[simp] theorem setStk_pwait (v : Tbl Stack) : (s.setStk v).pwait = s.pwait := rfl
@[simp] theorem setStk_spring (v : Tbl Stack) : (s.setStk v).spring = s.spring := rfl
@[simp] theorem setStk_prof (v : Tbl Stack) : (s.setStk v).prof = s.prof := rfl
@[simp] theorem setStk_shut (v : Tbl Stack) : (s.setStk v).shut = s.shut := rfl
@[simp] theorem setStk_cap (v : Tbl Stack) : (s.setStk v).cap = s.cap := rfl
@[simp] theorem setStk_thm (v : Tbl Stack) : (s.setStk v).thm = s.thm := rfl
@[simp] theorem setStk_blks (v : Tbl Stack) : (s.setStk v).blks = s.blks := rfl
@[simp] theorem setStk_rwb (v : Tbl Stack) : (s.setStk v).rwb = s.rwb := rfl
@[simp] theorem setStk_fn0 (v : Tbl Stack) : (s.setStk v).fn0 = s.fn0 := rfl
@[simp] theorem setStk_fn1 (v : Tbl Stack) : (s.setStk v).fn1 = s.fn1 := rfl
@[simp] theorem setStk_steward (v : Tbl Stack) : (s.setStk v).steward = s.steward := rfl
@[simp] theorem setStk_jobA (v : Tbl Stack) : (s.setStk v).jobA = s.jobA := rfl
@[simp] theorem setStk_jobB (v : Tbl Stack) : (s.setStk v).jobB = s.jobB := rfl
@[simp] theorem setStk_jobIds (v : Tbl Stack) : (s.setStk v).jobIds = s.jobIds := rfl
@[simp] theorem setStk_dsc (v : Tbl Stack) : (s.setStk v).dsc = s.dsc := rfl
@[simp] theorem setStk_scb (v : Tbl Stack) : (s.setStk v).scb = s.scb := rfl
@[simp] theorem setStk_prg (v : Tbl Stack) : (s.setStk v).prg = s.prg := rfl
@[simp] theorem setStk_cmp (v : Tbl Stack) : (s.setStk v).cmp = s.cmp := rfl
@[simp] theorem setStk_mem (v : Tbl Stack) : (s.setStk v).mem = s.mem := rfl
@[simp] theorem setStk_srm (v : Tbl Stack) : (s.setStk v).srm = s.srm := rfl
@[simp] theorem setStk_stk (v : Tbl Stack) : (s.setStk v).stk = v := rfl
@[simp] theorem setStk_opt (v : Tbl Stack) : (s.setStk v).opt = s.opt := rfl
@[simp] theorem setStk_links (v : Tbl Stack) : (s.setStk v).links = s.links := rfl
@[simp] theorem setStk_rtb (v : Tbl Stack) : (s.setStk v).rtb = s.rtb := rfl
@[simp] theorem setStk_fab (v : Tbl Stack) : (s.setStk v).fab = s.fab := rfl
@[simp] theorem setStk_sec (v : Tbl Stack) : (s.setStk v).sec = s.sec := rfl
@[simp] theorem setStk_rel (v : Tbl Stack) : (s.setStk v).rel = s.rel := rfl
@[simp] theorem setStk_mgt (v : Tbl Stack) : (s.setStk v).mgt = s.mgt := rfl
@[simp] theorem setStk_flash (v : Tbl Stack) : (s.setStk v).flash = s.flash := rfl
@[simp] theorem setStk_buddies (v : Tbl Stack) : (s.setStk v).buddies = s.buddies := rfl
@[simp] theorem setStk_freeCtr (v : Tbl Stack) : (s.setStk v).freeCtr = s.freeCtr := rfl
@[simp] theorem setStk_out (v : Tbl Stack) : (s.setStk v).out = s.out := rfl
@[simp] theorem setStk_pending (v : Tbl Stack) : (s.setStk v).pending = s.pending := rfl
@[simp] theorem setOpt_variant (v : Optics) : (s.setOpt v).variant = s.variant := rfl
@[simp] theorem setOpt_phase (v : Optics) : (s.setOpt v).phase = s.phase := rfl
@[simp] theorem setOpt_sup (v : Optics) : (s.setOpt v).sup = s.sup := rfl
@[simp] theorem setOpt_doms (v : Optics) : (s.setOpt v).doms = s.doms := rfl
@[simp] theorem setOpt_pseq (v : Optics) : (s.setOpt v).pseq = s.pseq := rfl
@[simp] theorem setOpt_pwait (v : Optics) : (s.setOpt v).pwait = s.pwait := rfl
@[simp] theorem setOpt_spring (v : Optics) : (s.setOpt v).spring = s.spring := rfl
@[simp] theorem setOpt_prof (v : Optics) : (s.setOpt v).prof = s.prof := rfl
@[simp] theorem setOpt_shut (v : Optics) : (s.setOpt v).shut = s.shut := rfl
@[simp] theorem setOpt_cap (v : Optics) : (s.setOpt v).cap = s.cap := rfl
@[simp] theorem setOpt_thm (v : Optics) : (s.setOpt v).thm = s.thm := rfl
@[simp] theorem setOpt_blks (v : Optics) : (s.setOpt v).blks = s.blks := rfl
@[simp] theorem setOpt_rwb (v : Optics) : (s.setOpt v).rwb = s.rwb := rfl
@[simp] theorem setOpt_fn0 (v : Optics) : (s.setOpt v).fn0 = s.fn0 := rfl
@[simp] theorem setOpt_fn1 (v : Optics) : (s.setOpt v).fn1 = s.fn1 := rfl
@[simp] theorem setOpt_steward (v : Optics) : (s.setOpt v).steward = s.steward := rfl
@[simp] theorem setOpt_jobA (v : Optics) : (s.setOpt v).jobA = s.jobA := rfl
@[simp] theorem setOpt_jobB (v : Optics) : (s.setOpt v).jobB = s.jobB := rfl
@[simp] theorem setOpt_jobIds (v : Optics) : (s.setOpt v).jobIds = s.jobIds := rfl
@[simp] theorem setOpt_dsc (v : Optics) : (s.setOpt v).dsc = s.dsc := rfl
@[simp] theorem setOpt_scb (v : Optics) : (s.setOpt v).scb = s.scb := rfl
@[simp] theorem setOpt_prg (v : Optics) : (s.setOpt v).prg = s.prg := rfl
@[simp] theorem setOpt_cmp (v : Optics) : (s.setOpt v).cmp = s.cmp := rfl
@[simp] theorem setOpt_mem (v : Optics) : (s.setOpt v).mem = s.mem := rfl
@[simp] theorem setOpt_srm (v : Optics) : (s.setOpt v).srm = s.srm := rfl
@[simp] theorem setOpt_stk (v : Optics) : (s.setOpt v).stk = s.stk := rfl
@[simp] theorem setOpt_opt (v : Optics) : (s.setOpt v).opt = v := rfl
@[simp] theorem setOpt_links (v : Optics) : (s.setOpt v).links = s.links := rfl
@[simp] theorem setOpt_rtb (v : Optics) : (s.setOpt v).rtb = s.rtb := rfl
@[simp] theorem setOpt_fab (v : Optics) : (s.setOpt v).fab = s.fab := rfl
@[simp] theorem setOpt_sec (v : Optics) : (s.setOpt v).sec = s.sec := rfl
@[simp] theorem setOpt_rel (v : Optics) : (s.setOpt v).rel = s.rel := rfl
@[simp] theorem setOpt_mgt (v : Optics) : (s.setOpt v).mgt = s.mgt := rfl
@[simp] theorem setOpt_flash (v : Optics) : (s.setOpt v).flash = s.flash := rfl
@[simp] theorem setOpt_buddies (v : Optics) : (s.setOpt v).buddies = s.buddies := rfl
@[simp] theorem setOpt_freeCtr (v : Optics) : (s.setOpt v).freeCtr = s.freeCtr := rfl
@[simp] theorem setOpt_out (v : Optics) : (s.setOpt v).out = s.out := rfl
@[simp] theorem setOpt_pending (v : Optics) : (s.setOpt v).pending = s.pending := rfl
@[simp] theorem setLinks_variant (v : Tbl Link) : (s.setLinks v).variant = s.variant := rfl
@[simp] theorem setLinks_phase (v : Tbl Link) : (s.setLinks v).phase = s.phase := rfl
@[simp] theorem setLinks_sup (v : Tbl Link) : (s.setLinks v).sup = s.sup := rfl
@[simp] theorem setLinks_doms (v : Tbl Link) : (s.setLinks v).doms = s.doms := rfl
@[simp] theorem setLinks_pseq (v : Tbl Link) : (s.setLinks v).pseq = s.pseq := rfl
@[simp] theorem setLinks_pwait (v : Tbl Link) : (s.setLinks v).pwait = s.pwait := rfl
@[simp] theorem setLinks_spring (v : Tbl Link) : (s.setLinks v).spring = s.spring := rfl
@[simp] theorem setLinks_prof (v : Tbl Link) : (s.setLinks v).prof = s.prof := rfl
@[simp] theorem setLinks_shut (v : Tbl Link) : (s.setLinks v).shut = s.shut := rfl
@[simp] theorem setLinks_cap (v : Tbl Link) : (s.setLinks v).cap = s.cap := rfl
@[simp] theorem setLinks_thm (v : Tbl Link) : (s.setLinks v).thm = s.thm := rfl
@[simp] theorem setLinks_blks (v : Tbl Link) : (s.setLinks v).blks = s.blks := rfl
@[simp] theorem setLinks_rwb (v : Tbl Link) : (s.setLinks v).rwb = s.rwb := rfl
@[simp] theorem setLinks_fn0 (v : Tbl Link) : (s.setLinks v).fn0 = s.fn0 := rfl
@[simp] theorem setLinks_fn1 (v : Tbl Link) : (s.setLinks v).fn1 = s.fn1 := rfl
@[simp] theorem setLinks_steward (v : Tbl Link) : (s.setLinks v).steward = s.steward := rfl
@[simp] theorem setLinks_jobA (v : Tbl Link) : (s.setLinks v).jobA = s.jobA := rfl
@[simp] theorem setLinks_jobB (v : Tbl Link) : (s.setLinks v).jobB = s.jobB := rfl
@[simp] theorem setLinks_jobIds (v : Tbl Link) : (s.setLinks v).jobIds = s.jobIds := rfl
@[simp] theorem setLinks_dsc (v : Tbl Link) : (s.setLinks v).dsc = s.dsc := rfl
@[simp] theorem setLinks_scb (v : Tbl Link) : (s.setLinks v).scb = s.scb := rfl
@[simp] theorem setLinks_prg (v : Tbl Link) : (s.setLinks v).prg = s.prg := rfl
@[simp] theorem setLinks_cmp (v : Tbl Link) : (s.setLinks v).cmp = s.cmp := rfl
@[simp] theorem setLinks_mem (v : Tbl Link) : (s.setLinks v).mem = s.mem := rfl
@[simp] theorem setLinks_srm (v : Tbl Link) : (s.setLinks v).srm = s.srm := rfl
@[simp] theorem setLinks_stk (v : Tbl Link) : (s.setLinks v).stk = s.stk := rfl
@[simp] theorem setLinks_opt (v : Tbl Link) : (s.setLinks v).opt = s.opt := rfl
@[simp] theorem setLinks_links (v : Tbl Link) : (s.setLinks v).links = v := rfl
@[simp] theorem setLinks_rtb (v : Tbl Link) : (s.setLinks v).rtb = s.rtb := rfl
@[simp] theorem setLinks_fab (v : Tbl Link) : (s.setLinks v).fab = s.fab := rfl
@[simp] theorem setLinks_sec (v : Tbl Link) : (s.setLinks v).sec = s.sec := rfl
@[simp] theorem setLinks_rel (v : Tbl Link) : (s.setLinks v).rel = s.rel := rfl
@[simp] theorem setLinks_mgt (v : Tbl Link) : (s.setLinks v).mgt = s.mgt := rfl
@[simp] theorem setLinks_flash (v : Tbl Link) : (s.setLinks v).flash = s.flash := rfl
@[simp] theorem setLinks_buddies (v : Tbl Link) : (s.setLinks v).buddies = s.buddies := rfl
@[simp] theorem setLinks_freeCtr (v : Tbl Link) : (s.setLinks v).freeCtr = s.freeCtr := rfl
@[simp] theorem setLinks_out (v : Tbl Link) : (s.setLinks v).out = s.out := rfl
@[simp] theorem setLinks_pending (v : Tbl Link) : (s.setLinks v).pending = s.pending := rfl
@[simp] theorem setRtb_variant (v : Rtb) : (s.setRtb v).variant = s.variant := rfl
@[simp] theorem setRtb_phase (v : Rtb) : (s.setRtb v).phase = s.phase := rfl
@[simp] theorem setRtb_sup (v : Rtb) : (s.setRtb v).sup = s.sup := rfl
@[simp] theorem setRtb_doms (v : Rtb) : (s.setRtb v).doms = s.doms := rfl
@[simp] theorem setRtb_pseq (v : Rtb) : (s.setRtb v).pseq = s.pseq := rfl
@[simp] theorem setRtb_pwait (v : Rtb) : (s.setRtb v).pwait = s.pwait := rfl
@[simp] theorem setRtb_spring (v : Rtb) : (s.setRtb v).spring = s.spring := rfl
@[simp] theorem setRtb_prof (v : Rtb) : (s.setRtb v).prof = s.prof := rfl
@[simp] theorem setRtb_shut (v : Rtb) : (s.setRtb v).shut = s.shut := rfl
@[simp] theorem setRtb_cap (v : Rtb) : (s.setRtb v).cap = s.cap := rfl
@[simp] theorem setRtb_thm (v : Rtb) : (s.setRtb v).thm = s.thm := rfl
@[simp] theorem setRtb_blks (v : Rtb) : (s.setRtb v).blks = s.blks := rfl
@[simp] theorem setRtb_rwb (v : Rtb) : (s.setRtb v).rwb = s.rwb := rfl
@[simp] theorem setRtb_fn0 (v : Rtb) : (s.setRtb v).fn0 = s.fn0 := rfl
@[simp] theorem setRtb_fn1 (v : Rtb) : (s.setRtb v).fn1 = s.fn1 := rfl
@[simp] theorem setRtb_steward (v : Rtb) : (s.setRtb v).steward = s.steward := rfl
@[simp] theorem setRtb_jobA (v : Rtb) : (s.setRtb v).jobA = s.jobA := rfl
@[simp] theorem setRtb_jobB (v : Rtb) : (s.setRtb v).jobB = s.jobB := rfl
@[simp] theorem setRtb_jobIds (v : Rtb) : (s.setRtb v).jobIds = s.jobIds := rfl
@[simp] theorem setRtb_dsc (v : Rtb) : (s.setRtb v).dsc = s.dsc := rfl
@[simp] theorem setRtb_scb (v : Rtb) : (s.setRtb v).scb = s.scb := rfl
@[simp] theorem setRtb_prg (v : Rtb) : (s.setRtb v).prg = s.prg := rfl
@[simp] theorem setRtb_cmp (v : Rtb) : (s.setRtb v).cmp = s.cmp := rfl
@[simp] theorem setRtb_mem (v : Rtb) : (s.setRtb v).mem = s.mem := rfl
@[simp] theorem setRtb_srm (v : Rtb) : (s.setRtb v).srm = s.srm := rfl
@[simp] theorem setRtb_stk (v : Rtb) : (s.setRtb v).stk = s.stk := rfl
@[simp] theorem setRtb_opt (v : Rtb) : (s.setRtb v).opt = s.opt := rfl
@[simp] theorem setRtb_links (v : Rtb) : (s.setRtb v).links = s.links := rfl
@[simp] theorem setRtb_rtb (v : Rtb) : (s.setRtb v).rtb = v := rfl
@[simp] theorem setRtb_fab (v : Rtb) : (s.setRtb v).fab = s.fab := rfl
@[simp] theorem setRtb_sec (v : Rtb) : (s.setRtb v).sec = s.sec := rfl
@[simp] theorem setRtb_rel (v : Rtb) : (s.setRtb v).rel = s.rel := rfl
@[simp] theorem setRtb_mgt (v : Rtb) : (s.setRtb v).mgt = s.mgt := rfl
@[simp] theorem setRtb_flash (v : Rtb) : (s.setRtb v).flash = s.flash := rfl
@[simp] theorem setRtb_buddies (v : Rtb) : (s.setRtb v).buddies = s.buddies := rfl
@[simp] theorem setRtb_freeCtr (v : Rtb) : (s.setRtb v).freeCtr = s.freeCtr := rfl
@[simp] theorem setRtb_out (v : Rtb) : (s.setRtb v).out = s.out := rfl
@[simp] theorem setRtb_pending (v : Rtb) : (s.setRtb v).pending = s.pending := rfl
@[simp] theorem setFab_variant (v : Fabric) : (s.setFab v).variant = s.variant := rfl
@[simp] theorem setFab_phase (v : Fabric) : (s.setFab v).phase = s.phase := rfl
@[simp] theorem setFab_sup (v : Fabric) : (s.setFab v).sup = s.sup := rfl
@[simp] theorem setFab_doms (v : Fabric) : (s.setFab v).doms = s.doms := rfl
@[simp] theorem setFab_pseq (v : Fabric) : (s.setFab v).pseq = s.pseq := rfl
@[simp] theorem setFab_pwait (v : Fabric) : (s.setFab v).pwait = s.pwait := rfl
@[simp] theorem setFab_spring (v : Fabric) : (s.setFab v).spring = s.spring := rfl
@[simp] theorem setFab_prof (v : Fabric) : (s.setFab v).prof = s.prof := rfl
@[simp] theorem setFab_shut (v : Fabric) : (s.setFab v).shut = s.shut := rfl
@[simp] theorem setFab_cap (v : Fabric) : (s.setFab v).cap = s.cap := rfl
@[simp] theorem setFab_thm (v : Fabric) : (s.setFab v).thm = s.thm := rfl
@[simp] theorem setFab_blks (v : Fabric) : (s.setFab v).blks = s.blks := rfl
@[simp] theorem setFab_rwb (v : Fabric) : (s.setFab v).rwb = s.rwb := rfl
@[simp] theorem setFab_fn0 (v : Fabric) : (s.setFab v).fn0 = s.fn0 := rfl
@[simp] theorem setFab_fn1 (v : Fabric) : (s.setFab v).fn1 = s.fn1 := rfl
@[simp] theorem setFab_steward (v : Fabric) : (s.setFab v).steward = s.steward := rfl
@[simp] theorem setFab_jobA (v : Fabric) : (s.setFab v).jobA = s.jobA := rfl
@[simp] theorem setFab_jobB (v : Fabric) : (s.setFab v).jobB = s.jobB := rfl
@[simp] theorem setFab_jobIds (v : Fabric) : (s.setFab v).jobIds = s.jobIds := rfl
@[simp] theorem setFab_dsc (v : Fabric) : (s.setFab v).dsc = s.dsc := rfl
@[simp] theorem setFab_scb (v : Fabric) : (s.setFab v).scb = s.scb := rfl
@[simp] theorem setFab_prg (v : Fabric) : (s.setFab v).prg = s.prg := rfl
@[simp] theorem setFab_cmp (v : Fabric) : (s.setFab v).cmp = s.cmp := rfl
@[simp] theorem setFab_mem (v : Fabric) : (s.setFab v).mem = s.mem := rfl
@[simp] theorem setFab_srm (v : Fabric) : (s.setFab v).srm = s.srm := rfl
@[simp] theorem setFab_stk (v : Fabric) : (s.setFab v).stk = s.stk := rfl
@[simp] theorem setFab_opt (v : Fabric) : (s.setFab v).opt = s.opt := rfl
@[simp] theorem setFab_links (v : Fabric) : (s.setFab v).links = s.links := rfl
@[simp] theorem setFab_rtb (v : Fabric) : (s.setFab v).rtb = s.rtb := rfl
@[simp] theorem setFab_fab (v : Fabric) : (s.setFab v).fab = v := rfl
@[simp] theorem setFab_sec (v : Fabric) : (s.setFab v).sec = s.sec := rfl
@[simp] theorem setFab_rel (v : Fabric) : (s.setFab v).rel = s.rel := rfl
@[simp] theorem setFab_mgt (v : Fabric) : (s.setFab v).mgt = s.mgt := rfl
@[simp] theorem setFab_flash (v : Fabric) : (s.setFab v).flash = s.flash := rfl
@[simp] theorem setFab_buddies (v : Fabric) : (s.setFab v).buddies = s.buddies := rfl
@[simp] theorem setFab_freeCtr (v : Fabric) : (s.setFab v).freeCtr = s.freeCtr := rfl
@[simp] theorem setFab_out (v : Fabric) : (s.setFab v).out = s.out := rfl
@[simp] theorem setFab_pending (v : Fabric) : (s.setFab v).pending = s.pending := rfl
@[simp] theorem setSec_variant (v : Sec) : (s.setSec v).variant = s.variant := rfl
@[simp] theorem setSec_phase (v : Sec) : (s.setSec v).phase = s.phase := rfl
@[simp] theorem setSec_sup (v : Sec) : (s.setSec v).sup = s.sup := rfl
@[simp] theorem setSec_doms (v : Sec) : (s.setSec v).doms = s.doms := rfl
@[simp] theorem setSec_pseq (v : Sec) : (s.setSec v).pseq = s.pseq := rfl
@[simp] theorem setSec_pwait (v : Sec) : (s.setSec v).pwait = s.pwait := rfl
@[simp] theorem setSec_spring (v : Sec) : (s.setSec v).spring = s.spring := rfl
@[simp] theorem setSec_prof (v : Sec) : (s.setSec v).prof = s.prof := rfl
@[simp] theorem setSec_shut (v : Sec) : (s.setSec v).shut = s.shut := rfl
@[simp] theorem setSec_cap (v : Sec) : (s.setSec v).cap = s.cap := rfl
@[simp] theorem setSec_thm (v : Sec) : (s.setSec v).thm = s.thm := rfl
@[simp] theorem setSec_blks (v : Sec) : (s.setSec v).blks = s.blks := rfl
@[simp] theorem setSec_rwb (v : Sec) : (s.setSec v).rwb = s.rwb := rfl
@[simp] theorem setSec_fn0 (v : Sec) : (s.setSec v).fn0 = s.fn0 := rfl
@[simp] theorem setSec_fn1 (v : Sec) : (s.setSec v).fn1 = s.fn1 := rfl
@[simp] theorem setSec_steward (v : Sec) : (s.setSec v).steward = s.steward := rfl
@[simp] theorem setSec_jobA (v : Sec) : (s.setSec v).jobA = s.jobA := rfl
@[simp] theorem setSec_jobB (v : Sec) : (s.setSec v).jobB = s.jobB := rfl
@[simp] theorem setSec_jobIds (v : Sec) : (s.setSec v).jobIds = s.jobIds := rfl
@[simp] theorem setSec_dsc (v : Sec) : (s.setSec v).dsc = s.dsc := rfl
@[simp] theorem setSec_scb (v : Sec) : (s.setSec v).scb = s.scb := rfl
@[simp] theorem setSec_prg (v : Sec) : (s.setSec v).prg = s.prg := rfl
@[simp] theorem setSec_cmp (v : Sec) : (s.setSec v).cmp = s.cmp := rfl
@[simp] theorem setSec_mem (v : Sec) : (s.setSec v).mem = s.mem := rfl
@[simp] theorem setSec_srm (v : Sec) : (s.setSec v).srm = s.srm := rfl
@[simp] theorem setSec_stk (v : Sec) : (s.setSec v).stk = s.stk := rfl
@[simp] theorem setSec_opt (v : Sec) : (s.setSec v).opt = s.opt := rfl
@[simp] theorem setSec_links (v : Sec) : (s.setSec v).links = s.links := rfl
@[simp] theorem setSec_rtb (v : Sec) : (s.setSec v).rtb = s.rtb := rfl
@[simp] theorem setSec_fab (v : Sec) : (s.setSec v).fab = s.fab := rfl
@[simp] theorem setSec_sec (v : Sec) : (s.setSec v).sec = v := rfl
@[simp] theorem setSec_rel (v : Sec) : (s.setSec v).rel = s.rel := rfl
@[simp] theorem setSec_mgt (v : Sec) : (s.setSec v).mgt = s.mgt := rfl
@[simp] theorem setSec_flash (v : Sec) : (s.setSec v).flash = s.flash := rfl
@[simp] theorem setSec_buddies (v : Sec) : (s.setSec v).buddies = s.buddies := rfl
@[simp] theorem setSec_freeCtr (v : Sec) : (s.setSec v).freeCtr = s.freeCtr := rfl
@[simp] theorem setSec_out (v : Sec) : (s.setSec v).out = s.out := rfl
@[simp] theorem setSec_pending (v : Sec) : (s.setSec v).pending = s.pending := rfl
@[simp] theorem setRel_variant (v : Rel) : (s.setRel v).variant = s.variant := rfl
@[simp] theorem setRel_phase (v : Rel) : (s.setRel v).phase = s.phase := rfl
@[simp] theorem setRel_sup (v : Rel) : (s.setRel v).sup = s.sup := rfl
@[simp] theorem setRel_doms (v : Rel) : (s.setRel v).doms = s.doms := rfl
@[simp] theorem setRel_pseq (v : Rel) : (s.setRel v).pseq = s.pseq := rfl
@[simp] theorem setRel_pwait (v : Rel) : (s.setRel v).pwait = s.pwait := rfl
@[simp] theorem setRel_spring (v : Rel) : (s.setRel v).spring = s.spring := rfl
@[simp] theorem setRel_prof (v : Rel) : (s.setRel v).prof = s.prof := rfl
@[simp] theorem setRel_shut (v : Rel) : (s.setRel v).shut = s.shut := rfl
@[simp] theorem setRel_cap (v : Rel) : (s.setRel v).cap = s.cap := rfl
@[simp] theorem setRel_thm (v : Rel) : (s.setRel v).thm = s.thm := rfl
@[simp] theorem setRel_blks (v : Rel) : (s.setRel v).blks = s.blks := rfl
@[simp] theorem setRel_rwb (v : Rel) : (s.setRel v).rwb = s.rwb := rfl
@[simp] theorem setRel_fn0 (v : Rel) : (s.setRel v).fn0 = s.fn0 := rfl
@[simp] theorem setRel_fn1 (v : Rel) : (s.setRel v).fn1 = s.fn1 := rfl
@[simp] theorem setRel_steward (v : Rel) : (s.setRel v).steward = s.steward := rfl
@[simp] theorem setRel_jobA (v : Rel) : (s.setRel v).jobA = s.jobA := rfl
@[simp] theorem setRel_jobB (v : Rel) : (s.setRel v).jobB = s.jobB := rfl
@[simp] theorem setRel_jobIds (v : Rel) : (s.setRel v).jobIds = s.jobIds := rfl
@[simp] theorem setRel_dsc (v : Rel) : (s.setRel v).dsc = s.dsc := rfl
@[simp] theorem setRel_scb (v : Rel) : (s.setRel v).scb = s.scb := rfl
@[simp] theorem setRel_prg (v : Rel) : (s.setRel v).prg = s.prg := rfl
@[simp] theorem setRel_cmp (v : Rel) : (s.setRel v).cmp = s.cmp := rfl
@[simp] theorem setRel_mem (v : Rel) : (s.setRel v).mem = s.mem := rfl
@[simp] theorem setRel_srm (v : Rel) : (s.setRel v).srm = s.srm := rfl
@[simp] theorem setRel_stk (v : Rel) : (s.setRel v).stk = s.stk := rfl
@[simp] theorem setRel_opt (v : Rel) : (s.setRel v).opt = s.opt := rfl
@[simp] theorem setRel_links (v : Rel) : (s.setRel v).links = s.links := rfl
@[simp] theorem setRel_rtb (v : Rel) : (s.setRel v).rtb = s.rtb := rfl
@[simp] theorem setRel_fab (v : Rel) : (s.setRel v).fab = s.fab := rfl
@[simp] theorem setRel_sec (v : Rel) : (s.setRel v).sec = s.sec := rfl
@[simp] theorem setRel_rel (v : Rel) : (s.setRel v).rel = v := rfl
@[simp] theorem setRel_mgt (v : Rel) : (s.setRel v).mgt = s.mgt := rfl
@[simp] theorem setRel_flash (v : Rel) : (s.setRel v).flash = s.flash := rfl
@[simp] theorem setRel_buddies (v : Rel) : (s.setRel v).buddies = s.buddies := rfl
@[simp] theorem setRel_freeCtr (v : Rel) : (s.setRel v).freeCtr = s.freeCtr := rfl
@[simp] theorem setRel_out (v : Rel) : (s.setRel v).out = s.out := rfl
@[simp] theorem setRel_pending (v : Rel) : (s.setRel v).pending = s.pending := rfl
@[simp] theorem setMgt_variant (v : Mgt) : (s.setMgt v).variant = s.variant := rfl
@[simp] theorem setMgt_phase (v : Mgt) : (s.setMgt v).phase = s.phase := rfl
@[simp] theorem setMgt_sup (v : Mgt) : (s.setMgt v).sup = s.sup := rfl
@[simp] theorem setMgt_doms (v : Mgt) : (s.setMgt v).doms = s.doms := rfl
@[simp] theorem setMgt_pseq (v : Mgt) : (s.setMgt v).pseq = s.pseq := rfl
@[simp] theorem setMgt_pwait (v : Mgt) : (s.setMgt v).pwait = s.pwait := rfl
@[simp] theorem setMgt_spring (v : Mgt) : (s.setMgt v).spring = s.spring := rfl
@[simp] theorem setMgt_prof (v : Mgt) : (s.setMgt v).prof = s.prof := rfl
@[simp] theorem setMgt_shut (v : Mgt) : (s.setMgt v).shut = s.shut := rfl
@[simp] theorem setMgt_cap (v : Mgt) : (s.setMgt v).cap = s.cap := rfl
@[simp] theorem setMgt_thm (v : Mgt) : (s.setMgt v).thm = s.thm := rfl
@[simp] theorem setMgt_blks (v : Mgt) : (s.setMgt v).blks = s.blks := rfl
@[simp] theorem setMgt_rwb (v : Mgt) : (s.setMgt v).rwb = s.rwb := rfl
@[simp] theorem setMgt_fn0 (v : Mgt) : (s.setMgt v).fn0 = s.fn0 := rfl
@[simp] theorem setMgt_fn1 (v : Mgt) : (s.setMgt v).fn1 = s.fn1 := rfl
@[simp] theorem setMgt_steward (v : Mgt) : (s.setMgt v).steward = s.steward := rfl
@[simp] theorem setMgt_jobA (v : Mgt) : (s.setMgt v).jobA = s.jobA := rfl
@[simp] theorem setMgt_jobB (v : Mgt) : (s.setMgt v).jobB = s.jobB := rfl
@[simp] theorem setMgt_jobIds (v : Mgt) : (s.setMgt v).jobIds = s.jobIds := rfl
@[simp] theorem setMgt_dsc (v : Mgt) : (s.setMgt v).dsc = s.dsc := rfl
@[simp] theorem setMgt_scb (v : Mgt) : (s.setMgt v).scb = s.scb := rfl
@[simp] theorem setMgt_prg (v : Mgt) : (s.setMgt v).prg = s.prg := rfl
@[simp] theorem setMgt_cmp (v : Mgt) : (s.setMgt v).cmp = s.cmp := rfl
@[simp] theorem setMgt_mem (v : Mgt) : (s.setMgt v).mem = s.mem := rfl
@[simp] theorem setMgt_srm (v : Mgt) : (s.setMgt v).srm = s.srm := rfl
@[simp] theorem setMgt_stk (v : Mgt) : (s.setMgt v).stk = s.stk := rfl
@[simp] theorem setMgt_opt (v : Mgt) : (s.setMgt v).opt = s.opt := rfl
@[simp] theorem setMgt_links (v : Mgt) : (s.setMgt v).links = s.links := rfl
@[simp] theorem setMgt_rtb (v : Mgt) : (s.setMgt v).rtb = s.rtb := rfl
@[simp] theorem setMgt_fab (v : Mgt) : (s.setMgt v).fab = s.fab := rfl
@[simp] theorem setMgt_sec (v : Mgt) : (s.setMgt v).sec = s.sec := rfl
@[simp] theorem setMgt_rel (v : Mgt) : (s.setMgt v).rel = s.rel := rfl
@[simp] theorem setMgt_mgt (v : Mgt) : (s.setMgt v).mgt = v := rfl
@[simp] theorem setMgt_flash (v : Mgt) : (s.setMgt v).flash = s.flash := rfl
@[simp] theorem setMgt_buddies (v : Mgt) : (s.setMgt v).buddies = s.buddies := rfl
@[simp] theorem setMgt_freeCtr (v : Mgt) : (s.setMgt v).freeCtr = s.freeCtr := rfl
@[simp] theorem setMgt_out (v : Mgt) : (s.setMgt v).out = s.out := rfl
@[simp] theorem setMgt_pending (v : Mgt) : (s.setMgt v).pending = s.pending := rfl
@[simp] theorem setFlash_variant (v : Flash) : (s.setFlash v).variant = s.variant := rfl
@[simp] theorem setFlash_phase (v : Flash) : (s.setFlash v).phase = s.phase := rfl
@[simp] theorem setFlash_sup (v : Flash) : (s.setFlash v).sup = s.sup := rfl
@[simp] theorem setFlash_doms (v : Flash) : (s.setFlash v).doms = s.doms := rfl
@[simp] theorem setFlash_pseq (v : Flash) : (s.setFlash v).pseq = s.pseq := rfl
@[simp] theorem setFlash_pwait (v : Flash) : (s.setFlash v).pwait = s.pwait := rfl
@[simp] theorem setFlash_spring (v : Flash) : (s.setFlash v).spring = s.spring := rfl
@[simp] theorem setFlash_prof (v : Flash) : (s.setFlash v).prof = s.prof := rfl
@[simp] theorem setFlash_shut (v : Flash) : (s.setFlash v).shut = s.shut := rfl
@[simp] theorem setFlash_cap (v : Flash) : (s.setFlash v).cap = s.cap := rfl
@[simp] theorem setFlash_thm (v : Flash) : (s.setFlash v).thm = s.thm := rfl
@[simp] theorem setFlash_blks (v : Flash) : (s.setFlash v).blks = s.blks := rfl
@[simp] theorem setFlash_rwb (v : Flash) : (s.setFlash v).rwb = s.rwb := rfl
@[simp] theorem setFlash_fn0 (v : Flash) : (s.setFlash v).fn0 = s.fn0 := rfl
@[simp] theorem setFlash_fn1 (v : Flash) : (s.setFlash v).fn1 = s.fn1 := rfl
@[simp] theorem setFlash_steward (v : Flash) : (s.setFlash v).steward = s.steward := rfl
@[simp] theorem setFlash_jobA (v : Flash) : (s.setFlash v).jobA = s.jobA := rfl
@[simp] theorem setFlash_jobB (v : Flash) : (s.setFlash v).jobB = s.jobB := rfl
@[simp] theorem setFlash_jobIds (v : Flash) : (s.setFlash v).jobIds = s.jobIds := rfl
@[simp] theorem setFlash_dsc (v : Flash) : (s.setFlash v).dsc = s.dsc := rfl
@[simp] theorem setFlash_scb (v : Flash) : (s.setFlash v).scb = s.scb := rfl
@[simp] theorem setFlash_prg (v : Flash) : (s.setFlash v).prg = s.prg := rfl
@[simp] theorem setFlash_cmp (v : Flash) : (s.setFlash v).cmp = s.cmp := rfl
@[simp] theorem setFlash_mem (v : Flash) : (s.setFlash v).mem = s.mem := rfl
@[simp] theorem setFlash_srm (v : Flash) : (s.setFlash v).srm = s.srm := rfl
@[simp] theorem setFlash_stk (v : Flash) : (s.setFlash v).stk = s.stk := rfl
@[simp] theorem setFlash_opt (v : Flash) : (s.setFlash v).opt = s.opt := rfl
@[simp] theorem setFlash_links (v : Flash) : (s.setFlash v).links = s.links := rfl
@[simp] theorem setFlash_rtb (v : Flash) : (s.setFlash v).rtb = s.rtb := rfl
@[simp] theorem setFlash_fab (v : Flash) : (s.setFlash v).fab = s.fab := rfl
@[simp] theorem setFlash_sec (v : Flash) : (s.setFlash v).sec = s.sec := rfl
@[simp] theorem setFlash_rel (v : Flash) : (s.setFlash v).rel = s.rel := rfl
@[simp] theorem setFlash_mgt (v : Flash) : (s.setFlash v).mgt = s.mgt := rfl
@[simp] theorem setFlash_flash (v : Flash) : (s.setFlash v).flash = v := rfl
@[simp] theorem setFlash_buddies (v : Flash) : (s.setFlash v).buddies = s.buddies := rfl
@[simp] theorem setFlash_freeCtr (v : Flash) : (s.setFlash v).freeCtr = s.freeCtr := rfl
@[simp] theorem setFlash_out (v : Flash) : (s.setFlash v).out = s.out := rfl
@[simp] theorem setFlash_pending (v : Flash) : (s.setFlash v).pending = s.pending := rfl
@[simp] theorem setBuddies_variant (v : Tbl (Option Buddy)) : (s.setBuddies v).variant = s.variant := rfl
@[simp] theorem setBuddies_phase (v : Tbl (Option Buddy)) : (s.setBuddies v).phase = s.phase := rfl
@[simp] theorem setBuddies_sup (v : Tbl (Option Buddy)) : (s.setBuddies v).sup = s.sup := rfl
@[simp] theorem setBuddies_doms (v : Tbl (Option Buddy)) : (s.setBuddies v).doms = s.doms := rfl
@[simp] theorem setBuddies_pseq (v : Tbl (Option Buddy)) : (s.setBuddies v).pseq = s.pseq := rfl
@[simp] theorem setBuddies_pwait (v : Tbl (Option Buddy)) : (s.setBuddies v).pwait = s.pwait := rfl
@[simp] theorem setBuddies_spring (v : Tbl (Option Buddy)) : (s.setBuddies v).spring = s.spring := rfl
@[simp] theorem setBuddies_prof (v : Tbl (Option Buddy)) : (s.setBuddies v).prof = s.prof := rfl
@[simp] theorem setBuddies_shut (v : Tbl (Option Buddy)) : (s.setBuddies v).shut = s.shut := rfl
@[simp] theorem setBuddies_cap (v : Tbl (Option Buddy)) : (s.setBuddies v).cap = s.cap := rfl
@[simp] theorem setBuddies_thm (v : Tbl (Option Buddy)) : (s.setBuddies v).thm = s.thm := rfl
@[simp] theorem setBuddies_blks (v : Tbl (Option Buddy)) : (s.setBuddies v).blks = s.blks := rfl
@[simp] theorem setBuddies_rwb (v : Tbl (Option Buddy)) : (s.setBuddies v).rwb = s.rwb := rfl
@[simp] theorem setBuddies_fn0 (v : Tbl (Option Buddy)) : (s.setBuddies v).fn0 = s.fn0 := rfl
@[simp] theorem setBuddies_fn1 (v : Tbl (Option Buddy)) : (s.setBuddies v).fn1 = s.fn1 := rfl
@[simp] theorem setBuddies_steward (v : Tbl (Option Buddy)) : (s.setBuddies v).steward = s.steward := rfl
@[simp] theorem setBuddies_jobA (v : Tbl (Option Buddy)) : (s.setBuddies v).jobA = s.jobA := rfl
@[simp] theorem setBuddies_jobB (v : Tbl (Option Buddy)) : (s.setBuddies v).jobB = s.jobB := rfl
@[simp] theorem setBuddies_jobIds (v : Tbl (Option Buddy)) : (s.setBuddies v).jobIds = s.jobIds := rfl
@[simp] theorem setBuddies_dsc (v : Tbl (Option Buddy)) : (s.setBuddies v).dsc = s.dsc := rfl
@[simp] theorem setBuddies_scb (v : Tbl (Option Buddy)) : (s.setBuddies v).scb = s.scb := rfl
@[simp] theorem setBuddies_prg (v : Tbl (Option Buddy)) : (s.setBuddies v).prg = s.prg := rfl
@[simp] theorem setBuddies_cmp (v : Tbl (Option Buddy)) : (s.setBuddies v).cmp = s.cmp := rfl
@[simp] theorem setBuddies_mem (v : Tbl (Option Buddy)) : (s.setBuddies v).mem = s.mem := rfl
@[simp] theorem setBuddies_srm (v : Tbl (Option Buddy)) : (s.setBuddies v).srm = s.srm := rfl
@[simp] theorem setBuddies_stk (v : Tbl (Option Buddy)) : (s.setBuddies v).stk = s.stk := rfl
@[simp] theorem setBuddies_opt (v : Tbl (Option Buddy)) : (s.setBuddies v).opt = s.opt := rfl
@[simp] theorem setBuddies_links (v : Tbl (Option Buddy)) : (s.setBuddies v).links = s.links := rfl
@[simp] theorem setBuddies_rtb (v : Tbl (Option Buddy)) : (s.setBuddies v).rtb = s.rtb := rfl
@[simp] theorem setBuddies_fab (v : Tbl (Option Buddy)) : (s.setBuddies v).fab = s.fab := rfl
@[simp] theorem setBuddies_sec (v : Tbl (Option Buddy)) : (s.setBuddies v).sec = s.sec := rfl
@[simp] theorem setBuddies_rel (v : Tbl (Option Buddy)) : (s.setBuddies v).rel = s.rel := rfl
@[simp] theorem setBuddies_mgt (v : Tbl (Option Buddy)) : (s.setBuddies v).mgt = s.mgt := rfl
@[simp] theorem setBuddies_flash (v : Tbl (Option Buddy)) : (s.setBuddies v).flash = s.flash := rfl
@[simp] theorem setBuddies_buddies (v : Tbl (Option Buddy)) : (s.setBuddies v).buddies = v := rfl
@[simp] theorem setBuddies_freeCtr (v : Tbl (Option Buddy)) : (s.setBuddies v).freeCtr = s.freeCtr := rfl
@[simp] theorem setBuddies_out (v : Tbl (Option Buddy)) : (s.setBuddies v).out = s.out := rfl
@[simp] theorem setBuddies_pending (v : Tbl (Option Buddy)) : (s.setBuddies v).pending = s.pending := rfl
@[simp] theorem setFreeCtr_variant (v : Nat) : (s.setFreeCtr v).variant = s.variant := rfl
@[simp] theorem setFreeCtr_phase (v : Nat) : (s.setFreeCtr v).phase = s.phase := rfl
@[simp] theorem setFreeCtr_sup (v : Nat) : (s.setFreeCtr v).sup = s.sup := rfl
@[simp] theorem setFreeCtr_doms (v : Nat) : (s.setFreeCtr v).doms = s.doms := rfl
@[simp] theorem setFreeCtr_pseq (v : Nat) : (s.setFreeCtr v).pseq = s.pseq := rfl
@[simp] theorem setFreeCtr_pwait (v : Nat) : (s.setFreeCtr v).pwait = s.pwait := rfl
@[simp] theorem setFreeCtr_spring (v : Nat) : (s.setFreeCtr v).spring = s.spring := rfl
@[simp] theorem setFreeCtr_prof (v : Nat) : (s.setFreeCtr v).prof = s.prof := rfl
@[simp] theorem setFreeCtr_shut (v : Nat) : (s.setFreeCtr v).shut = s.shut := rfl
@[simp] theorem setFreeCtr_cap (v : Nat) : (s.setFreeCtr v).cap = s.cap := rfl
@[simp] theorem setFreeCtr_thm (v : Nat) : (s.setFreeCtr v).thm = s.thm := rfl
@[simp] theorem setFreeCtr_blks (v : Nat) : (s.setFreeCtr v).blks = s.blks := rfl
@[simp] theorem setFreeCtr_rwb (v : Nat) : (s.setFreeCtr v).rwb = s.rwb := rfl
@[simp] theorem setFreeCtr_fn0 (v : Nat) : (s.setFreeCtr v).fn0 = s.fn0 := rfl
@[simp] theorem setFreeCtr_fn1 (v : Nat) : (s.setFreeCtr v).fn1 = s.fn1 := rfl
@[simp] theorem setFreeCtr_steward (v : Nat) : (s.setFreeCtr v).steward = s.steward := rfl
@[simp] theorem setFreeCtr_jobA (v : Nat) : (s.setFreeCtr v).jobA = s.jobA := rfl
@[simp] theorem setFreeCtr_jobB (v : Nat) : (s.setFreeCtr v).jobB = s.jobB := rfl
@[simp] theorem setFreeCtr_jobIds (v : Nat) : (s.setFreeCtr v).jobIds = s.jobIds := rfl
@[simp] theorem setFreeCtr_dsc (v : Nat) : (s.setFreeCtr v).dsc = s.dsc := rfl
@[simp] theorem setFreeCtr_scb (v : Nat) : (s.setFreeCtr v).scb = s.scb := rfl
@[simp] theorem setFreeCtr_prg (v : Nat) : (s.setFreeCtr v).prg = s.prg := rfl
@[simp] theorem setFreeCtr_cmp (v : Nat) : (s.setFreeCtr v).cmp = s.cmp := rfl
@[simp] theorem setFreeCtr_mem (v : Nat) : (s.setFreeCtr v).mem = s.mem := rfl
@[simp] theorem setFreeCtr_srm (v : Nat) : (s.setFreeCtr v).srm = s.srm := rfl
@[simp] theorem setFreeCtr_stk (v : Nat) : (s.setFreeCtr v).stk = s.stk := rfl
@[simp] theorem setFreeCtr_opt (v : Nat) : (s.setFreeCtr v).opt = s.opt := rfl
@[simp] theorem setFreeCtr_links (v : Nat) : (s.setFreeCtr v).links = s.links := rfl
@[simp] theorem setFreeCtr_rtb (v : Nat) : (s.setFreeCtr v).rtb = s.rtb := rfl
@[simp] theorem setFreeCtr_fab (v : Nat) : (s.setFreeCtr v).fab = s.fab := rfl
@[simp] theorem setFreeCtr_sec (v : Nat) : (s.setFreeCtr v).sec = s.sec := rfl
@[simp] theorem setFreeCtr_rel (v : Nat) : (s.setFreeCtr v).rel = s.rel := rfl
@[simp] theorem setFreeCtr_mgt (v : Nat) : (s.setFreeCtr v).mgt = s.mgt := rfl
@[simp] theorem setFreeCtr_flash (v : Nat) : (s.setFreeCtr v).flash = s.flash := rfl
@[simp] theorem setFreeCtr_buddies (v : Nat) : (s.setFreeCtr v).buddies = s.buddies := rfl
@[simp] theorem setFreeCtr_freeCtr (v : Nat) : (s.setFreeCtr v).freeCtr = v := rfl
@[simp] theorem setFreeCtr_out (v : Nat) : (s.setFreeCtr v).out = s.out := rfl
@[simp] theorem setFreeCtr_pending (v : Nat) : (s.setFreeCtr v).pending = s.pending := rfl
@[simp] theorem setOut_variant (v : List Out) : (s.setOut v).variant = s.variant := rfl
@[simp] theorem setOut_phase (v : List Out) : (s.setOut v).phase = s.phase := rfl
@[simp] theorem setOut_sup (v : List Out) : (s.setOut v).sup = s.sup := rfl
@[simp] theorem setOut_doms (v : List Out) : (s.setOut v).doms = s.doms := rfl
@[simp] theorem setOut_pseq (v : List Out) : (s.setOut v).pseq = s.pseq := rfl
@[simp] theorem setOut_pwait (v : List Out) : (s.setOut v).pwait = s.pwait := rfl
@[simp] theorem setOut_spring (v : List Out) : (s.setOut v).spring = s.spring := rfl
@[simp] theorem setOut_prof (v : List Out) : (s.setOut v).prof = s.prof := rfl
@[simp] theorem setOut_shut (v : List Out) : (s.setOut v).shut = s.shut := rfl
@[simp] theorem setOut_cap (v : List Out) : (s.setOut v).cap = s.cap := rfl
@[simp] theorem setOut_thm (v : List Out) : (s.setOut v).thm = s.thm := rfl
@[simp] theorem setOut_blks (v : List Out) : (s.setOut v).blks = s.blks := rfl
@[simp] theorem setOut_rwb (v : List Out) : (s.setOut v).rwb = s.rwb := rfl
@[simp] theorem setOut_fn0 (v : List Out) : (s.setOut v).fn0 = s.fn0 := rfl
@[simp] theorem setOut_fn1 (v : List Out) : (s.setOut v).fn1 = s.fn1 := rfl
@[simp] theorem setOut_steward (v : List Out) : (s.setOut v).steward = s.steward := rfl
@[simp] theorem setOut_jobA (v : List Out) : (s.setOut v).jobA = s.jobA := rfl
@[simp] theorem setOut_jobB (v : List Out) : (s.setOut v).jobB = s.jobB := rfl
@[simp] theorem setOut_jobIds (v : List Out) : (s.setOut v).jobIds = s.jobIds := rfl
@[simp] theorem setOut_dsc (v : List Out) : (s.setOut v).dsc = s.dsc := rfl
@[simp] theorem setOut_scb (v : List Out) : (s.setOut v).scb = s.scb := rfl
@[simp] theorem setOut_prg (v : List Out) : (s.setOut v).prg = s.prg := rfl
@[simp] theorem setOut_cmp (v : List Out) : (s.setOut v).cmp = s.cmp := rfl
@[simp] theorem setOut_mem (v : List Out) : (s.setOut v).mem = s.mem := rfl
@[simp] theorem setOut_srm (v : List Out) : (s.setOut v).srm = s.srm := rfl
@[simp] theorem setOut_stk (v : List Out) : (s.setOut v).stk = s.stk := rfl
@[simp] theorem setOut_opt (v : List Out) : (s.setOut v).opt = s.opt := rfl
@[simp] theorem setOut_links (v : List Out) : (s.setOut v).links = s.links := rfl
@[simp] theorem setOut_rtb (v : List Out) : (s.setOut v).rtb = s.rtb := rfl
@[simp] theorem setOut_fab (v : List Out) : (s.setOut v).fab = s.fab := rfl
@[simp] theorem setOut_sec (v : List Out) : (s.setOut v).sec = s.sec := rfl
@[simp] theorem setOut_rel (v : List Out) : (s.setOut v).rel = s.rel := rfl
@[simp] theorem setOut_mgt (v : List Out) : (s.setOut v).mgt = s.mgt := rfl
@[simp] theorem setOut_flash (v : List Out) : (s.setOut v).flash = s.flash := rfl
@[simp] theorem setOut_buddies (v : List Out) : (s.setOut v).buddies = s.buddies := rfl
@[simp] theorem setOut_freeCtr (v : List Out) : (s.setOut v).freeCtr = s.freeCtr := rfl
@[simp] theorem setOut_out (v : List Out) : (s.setOut v).out = v := rfl
@[simp] theorem setOut_pending (v : List Out) : (s.setOut v).pending = s.pending := rfl
@[simp] theorem setPending_variant (v : List Instr) : (s.setPending v).variant = s.variant := rfl
@[simp] theorem setPending_phase (v : List Instr) : (s.setPending v).phase = s.phase := rfl
@[simp] theorem setPending_sup (v : List Instr) : (s.setPending v).sup = s.sup := rfl
@[simp] theorem setPending_doms (v : List Instr) : (s.setPending v).doms = s.doms := rfl
@[simp] theorem setPending_pseq (v : List Instr) : (s.setPending v).pseq = s.pseq := rfl
@[simp] theorem setPending_pwait (v : List Instr) : (s.setPending v).pwait = s.pwait := rfl
@[simp] theorem setPending_spring (v : List Instr) : (s.setPending v).spring = s.spring := rfl
@[simp] theorem setPending_prof (v : List Instr) : (s.setPending v).prof = s.prof := rfl
@[simp] theorem setPending_shut (v : List Instr) : (s.setPending v).shut = s.shut := rfl
@[simp] theorem setPending_cap (v : List Instr) : (s.setPending v).cap = s.cap := rfl
@[simp] theorem setPending_thm (v : List Instr) : (s.setPending v).thm = s.thm := rfl
@[simp] theorem setPending_blks (v : List Instr) : (s.setPending v).blks = s.blks := rfl
@[simp] theorem setPending_rwb (v : List Instr) : (s.setPending v).rwb = s.rwb := rfl
@[simp] theorem setPending_fn0 (v : List Instr) : (s.setPending v).fn0 = s.fn0 := rfl
@[simp] theorem setPending_fn1 (v : List Instr) : (s.setPending v).fn1 = s.fn1 := rfl
@[simp] theorem setPending_steward (v : List Instr) : (s.setPending v).steward = s.steward := rfl
@[simp] theorem setPending_jobA (v : List Instr) : (s.setPending v).jobA = s.jobA := rfl
@[simp] theorem setPending_jobB (v : List Instr) : (s.setPending v).jobB = s.jobB := rfl
@[simp] theorem setPending_jobIds (v : List Instr) : (s.setPending v).jobIds = s.jobIds := rfl
@[simp] theorem setPending_dsc (v : List Instr) : (s.setPending v).dsc = s.dsc := rfl
@[simp] theorem setPending_scb (v : List Instr) : (s.setPending v).scb = s.scb := rfl
@[simp] theorem setPending_prg (v : List Instr) : (s.setPending v).prg = s.prg := rfl
@[simp] theorem setPending_cmp (v : List Instr) : (s.setPending v).cmp = s.cmp := rfl
@[simp] theorem setPending_mem (v : List Instr) : (s.setPending v).mem = s.mem := rfl
@[simp] theorem setPending_srm (v : List Instr) : (s.setPending v).srm = s.srm := rfl
@[simp] theorem setPending_stk (v : List Instr) : (s.setPending v).stk = s.stk := rfl
@[simp] theorem setPending_opt (v : List Instr) : (s.setPending v).opt = s.opt := rfl
@[simp] theorem setPending_links (v : List Instr) : (s.setPending v).links = s.links := rfl
@[simp] theorem setPending_rtb (v : List Instr) : (s.setPending v).rtb = s.rtb := rfl
@[simp] theorem setPending_fab (v : List Instr) : (s.setPending v).fab = s.fab := rfl
@[simp] theorem setPending_sec (v : List Instr) : (s.setPending v).sec = s.sec := rfl
@[simp] theorem setPending_rel (v : List Instr) : (s.setPending v).rel = s.rel := rfl
@[simp] theorem setPending_mgt (v : List Instr) : (s.setPending v).mgt = s.mgt := rfl
@[simp] theorem setPending_flash (v : List Instr) : (s.setPending v).flash = s.flash := rfl
@[simp] theorem setPending_buddies (v : List Instr) : (s.setPending v).buddies = s.buddies := rfl
@[simp] theorem setPending_freeCtr (v : List Instr) : (s.setPending v).freeCtr = s.freeCtr := rfl
@[simp] theorem setPending_out (v : List Instr) : (s.setPending v).out = s.out := rfl
@[simp] theorem setPending_pending (v : List Instr) : (s.setPending v).pending = v := rfl

end Sys2Proof.Machine.State
end

