-- ==== Sys2Proof/Laws/Table.lean ====
section
/-! SUPPORT. The laws of sparse tables: reading after writing, and what keeps their canonical form. -/

namespace Sys2Proof.Machine

open Sys2Proof

/-! ### Reading after writing -/

@[simp] theorem tget_nil {α : Type} (d : α) (k : Nat) : tget d [] k = d := rfl

theorem tget_tdrop_ne {α : Type} (d : α) (t : Tbl α) (k j : Nat) (h : k ≠ j) : tget d (tdrop t j) k = tget d t k := by
  induction t with
  | nil => rfl
  | cons e t ih =>
    obtain ⟨a, v⟩ := e
    simp only [tdrop, tget]
    split
    · rename_i h'; subst h'; rw [if_neg (Ne.symm h)]; exact ih
    · simp only [tget]; rw [ih]

theorem tget_tdrop_same {α : Type} (d : α) (t : Tbl α) (k : Nat) : tget d (tdrop t k) k = d := by
  induction t with
  | nil => rfl
  | cons e t ih =>
    obtain ⟨a, v⟩ := e
    simp only [tdrop]
    split
    · exact ih
    · rename_i h'; simp only [tget, if_neg h']; exact ih

theorem tget_tins_ne {α : Type} (d : α) (t : Tbl α) (k j : Nat) (v : α) (h : k ≠ j) : tget d (tins t j v) k = tget d t k := by
  induction t with
  | nil => simp [tins, tget, Ne.symm h]
  | cons e t ih =>
    obtain ⟨a, w⟩ := e
    simp only [tins]
    split
    · simp [tget, Ne.symm h]
    · simp only [tget]; rw [ih]

theorem tget_tins_same {α : Type} (d : α) (t : Tbl α) (k : Nat) (v : α) (h : ∀ e ∈ t, e.1 ≠ k) : tget d (tins t k v) k = v := by
  induction t with
  | nil => simp [tins, tget]
  | cons e t ih =>
    obtain ⟨a, w⟩ := e
    simp only [tins]
    split
    · simp [tget]
    · have h1 : a ≠ k := h (a, w) (by simp)
      simp only [tget, if_neg h1]
      exact ih fun e he => h e (by simp [he])

theorem tdrop_no {α : Type} (t : Tbl α) (k : Nat) : ∀ e ∈ tdrop t k, e.1 ≠ k := by
  induction t with
  | nil => simp [tdrop]
  | cons e t ih =>
    obtain ⟨a, w⟩ := e
    simp only [tdrop]
    split
    · exact ih
    · intro e he
      simp at he
      rcases he with rfl | he
      · assumption
      · exact ih e he

@[simp] theorem tget_tset_same {α : Type} [DecidableEq α] (d : α) (t : Tbl α) (k : Nat) (v : α) : tget d (tset d t k v) k = v := by
  unfold tset
  split
  · rename_i h; rw [tget_tdrop_same, h]
  · exact tget_tins_same _ _ _ _ (tdrop_no t k)

theorem tget_tset_ne {α : Type} [DecidableEq α] (d : α) (t : Tbl α) (k j : Nat) (v : α) (h : k ≠ j) :
    tget d (tset d t j v) k = tget d t k := by
  unfold tset
  split
  · exact tget_tdrop_ne _ _ _ _ h
  · rw [tget_tins_ne _ _ _ _ _ h, tget_tdrop_ne _ _ _ _ h]

@[simp] theorem tget_tmod_same {α : Type} [DecidableEq α] (d : α) (t : Tbl α) (k : Nat) (f : α → α) :
    tget d (tmod d t k f) k = f (tget d t k) := by simp [tmod]

theorem tget_tmod_ne {α : Type} [DecidableEq α] (d : α) (t : Tbl α) (k j : Nat) (f : α → α) (h : k ≠ j) :
    tget d (tmod d t j f) k = tget d t k := by simp [tmod, tget_tset_ne _ _ _ _ _ h]

theorem tget_tsetRun_out {α : Type} [DecidableEq α] (d : α) (vs : List α) (t : Tbl α) (k j : Nat)
    (h : j < k ∨ k + vs.length ≤ j) : tget d (tsetRun d t k vs) j = tget d t j := by
  induction vs generalizing t k with
  | nil => rfl
  | cons v vs ih =>
    simp only [List.length_cons] at h
    rw [tsetRun, ih _ _ (by omega), tget_tset_ne _ _ _ _ _ (by omega)]

theorem tget_tsetRun_in {α : Type} [DecidableEq α] (d : α) (vs : List α) (t : Tbl α) (k i : Nat) (h : i < vs.length) :
    tget d (tsetRun d t k vs) (k + i) = vs[i] := by
  induction vs generalizing t k i with
  | nil => simp at h
  | cons v vs ih =>
    rw [tsetRun]
    cases i with
    | zero => rw [tget_tsetRun_out _ _ _ _ _ (.inl (by omega))]; simp
    | succ i =>
      have h1 := ih (tset d t k v) (k + 1) i (by simpa using h)
      rw [show k + (i + 1) = k + 1 + i by omega, h1]; rfl

theorem tget_tclear {α : Type} (d : α) (t : Tbl α) (lo n k : Nat) :
    tget d (tclear t lo n) k = if lo ≤ k ∧ k < lo + n then d else tget d t k := by
  induction t with
  | nil => simp [tclear, tget]
  | cons e t ih =>
    obtain ⟨j, v⟩ := e
    unfold tclear at ih ⊢
    rw [List.filter_cons]
    by_cases hj : lo ≤ j ∧ j < lo + n
    · rw [if_neg (by simp [hj]), ih]
      by_cases hk : lo ≤ k ∧ k < lo + n
      · simp [hk]
      · rw [if_neg hk, if_neg hk, tget, if_neg (by rintro rfl; exact hk hj)]
    · rw [if_pos (by simp; omega)]
      simp only [tget]
      by_cases hjk : j = k
      · subst hjk; simp [hj]
      · rw [if_neg hjk, if_neg hjk, ih]

/-! ### Canonical form -/

/-- Canonical form, as two facts about the list. -/
theorem tok_iff {α : Type} [DecidableEq α] (d : α) (t : Tbl α) :
    tok d t = true ↔ t.Pairwise (fun a b => a.1 < b.1) ∧ ∀ e ∈ t, e.2 ≠ d := by
  induction t with
  | nil => simp [tok]
  | cons e t ih =>
    obtain ⟨j, v⟩ := e
    cases t with
    | nil => simp [tok]
    | cons f t =>
      obtain ⟨k, w⟩ := f
      simp only [tok, Bool.and_eq_true, decide_eq_true_eq, ih, List.pairwise_cons, List.mem_cons, forall_eq_or_imp]
      constructor
      · rintro ⟨⟨h1, h2⟩, ⟨h3, h4⟩, h5, h6⟩
        exact ⟨⟨⟨h2, fun a ha => Nat.lt_trans h2 (h3 a ha)⟩, h3, h4⟩, h1, h5, h6⟩
      · rintro ⟨⟨⟨h2, -⟩, h3, h4⟩, h1, h5, h6⟩
        exact ⟨⟨h1, h2⟩, ⟨h3, h4⟩, h5, h6⟩

@[simp] theorem tok_nil {α : Type} [DecidableEq α] (d : α) : tok d ([] : Tbl α) = true := rfl

/-- A part of a canonical table is canonical. -/
theorem tok_filter {α : Type} [DecidableEq α] (d : α) (t : Tbl α) (p : Nat × α → Bool) (h : tok d t = true) :
    tok d (t.filter p) = true := by
  rw [tok_iff] at h ⊢
  exact ⟨h.1.filter p, fun e he => h.2 e (List.mem_filter.1 he).1⟩

theorem tok_tclear {α : Type} [DecidableEq α] (d : α) (t : Tbl α) (lo n : Nat) (h : tok d t = true) :
    tok d (tclear t lo n) = true := tok_filter d t _ h

theorem tok_tmap {α : Type} [DecidableEq α] (d : α) (f : Nat → α → α) (t : Tbl α) (h : tok d t = true) :
    tok d (tmap d f t) = true := by
  rw [tok_iff] at h ⊢
  refine ⟨List.Pairwise.filter _ ?_, fun e he => ?_⟩
  · rw [List.pairwise_map]; exact h.1
  · simpa using (List.mem_filter.1 he).2

theorem tdrop_eq_filter {α : Type} (t : Tbl α) (k : Nat) : tdrop t k = t.filter fun e => decide (e.1 ≠ k) := by
  induction t with
  | nil => rfl
  | cons e t ih =>
    obtain ⟨j, v⟩ := e
    by_cases h : j = k <;> simp [tdrop, h, ih]

theorem tok_tdrop {α : Type} [DecidableEq α] (d : α) (t : Tbl α) (k : Nat) (h : tok d t = true) :
    tok d (tdrop t k) = true := by
  rw [tdrop_eq_filter]; exact tok_filter d t _ h

theorem mem_tins {α : Type} (t : Tbl α) (k : Nat) (v : α) (e : Nat × α) (h : e ∈ tins t k v) : e = (k, v) ∨ e ∈ t := by
  induction t with
  | nil => simpa [tins] using h
  | cons f t ih =>
    obtain ⟨j, w⟩ := f
    simp only [tins] at h
    split at h
    · simpa using h
    · rcases List.mem_cons.1 h with h | h
      · exact .inr (List.mem_cons.2 (.inl h))
      · exact (ih h).imp id fun h => List.mem_cons.2 (.inr h)

theorem tok_tins {α : Type} [DecidableEq α] (d : α) (t : Tbl α) (k : Nat) (v : α) (hv : v ≠ d)
    (hk : ∀ e ∈ t, e.1 ≠ k) (h : tok d t = true) : tok d (tins t k v) = true := by
  rw [tok_iff] at h ⊢
  refine ⟨?_, fun e he => ?_⟩
  · obtain ⟨h1, -⟩ := h
    induction t with
    | nil => simp [tins]
    | cons f t ih =>
      obtain ⟨j, w⟩ := f
      obtain ⟨h2, h3⟩ := List.pairwise_cons.1 h1
      have hj : j ≠ k := hk (j, w) (by simp)
      simp only [tins]
      split
      · rename_i hlt
        refine List.pairwise_cons.2 ⟨fun e he => ?_, h1⟩
        rcases List.mem_cons.1 he with rfl | he
        · exact hlt
        · exact Nat.lt_trans hlt (h2 e he)
      · refine List.pairwise_cons.2 ⟨fun e he => ?_, ih (fun e he => hk e (by simp [he])) h3⟩
        rcases mem_tins t k v e he with rfl | he
        · simp only; omega
        · exact h2 e he
  · rcases mem_tins t k v e he with rfl | he
    · exact hv
    · exact h.2 e he

/-- Writing an entry keeps the canonical form. -/
theorem tok_tset {α : Type} [DecidableEq α] (d : α) (t : Tbl α) (k : Nat) (v : α) (h : tok d t = true) :
    tok d (tset d t k v) = true := by
  unfold tset
  split
  · exact tok_tdrop d t k h
  · exact tok_tins d _ k v (by assumption) (tdrop_no t k) (tok_tdrop d t k h)

theorem tok_tmod {α : Type} [DecidableEq α] (d : α) (t : Tbl α) (k : Nat) (f : α → α) (h : tok d t = true) :
    tok d (tmod d t k f) = true := tok_tset d t k _ h

theorem tok_tsetRun {α : Type} [DecidableEq α] (d : α) (vs : List α) (t : Tbl α) (k : Nat) (h : tok d t = true) :
    tok d (tsetRun d t k vs) = true := by
  induction vs generalizing t k with
  | nil => exact h
  | cons v vs ih => exact ih _ _ (tok_tset d t k v h)

/-- A fold whose steps keep the canonical form keeps it. -/
theorem tok_foldl {α β : Type} [DecidableEq α] (d : α) (f : Tbl α → β → Tbl α)
    (hf : ∀ t b, tok d t = true → tok d (f t b) = true) (l : List β) (t : Tbl α) (h : tok d t = true) :
    tok d (l.foldl f t) = true := by
  induction l generalizing t with
  | nil => exact h
  | cons b l ih => exact ih _ (hf t b h)

end Sys2Proof.Machine
end

