-- ==== Sys2Proof/Laws/Memory.lean ====
section
/-! SUPPORT. Memory: reading after writing, and that every memory operation keeps the canonical form. -/

namespace Sys2Proof.Machine

open Sys2Proof

/-! ### Canonical form -/

theorem mem_wf_iff (m : Mem) : m.wf = true ↔ tok 0 m.sram = true ∧ tok none m.line = true ∧ tok 0 m.sramEcc = true
    ∧ tok none m.lpx = true ∧ tok none m.page = true ∧ tok {} m.pageGen = true ∧ tok 0 m.lpxEcc = true := by
  simp [Mem.wf, and_assoc]

theorem reset_mem_wf : State.reset.mem.wf = true := by decide

/-- A fold over states whose steps keep memory canonical keeps it. -/
theorem wf_foldl {β : Type} (f : State → β → State) (hf : ∀ s b, s.mem.wf = true → (f s b).mem.wf = true) (l : List β)
    (s : State) (h : s.mem.wf = true) : (l.foldl f s).mem.wf = true := by
  induction l generalizing s with
  | nil => exact h
  | cons b l ih => exact ih _ (hf s b h)

theorem tok_drops {α : Type} [DecidableEq α] (d : α) (t : Tbl α) (ks : List Nat) (h : tok d t = true) :
    tok d (if t.isEmpty then [] else ks.foldl tdrop t) = true := by
  split
  · rfl
  · exact tok_foldl _ _ (fun _ _ hb => tok_tdrop _ _ _ hb) _ _ h

theorem tok_tmove {α : Type} [DecidableEq α] (d : α) (t : Tbl α) (a b n : Nat) (h : tok d t = true) :
    tok d (tmove d t a b n) = true :=
  tok_foldl _ _ (fun _ _ hb => tok_tset _ _ _ _ hb) _ _ (tok_tclear _ _ _ _ h)

theorem logEv_mem (p : Ev → Bool) (code : Nat) (realm : Byte) (job : W16) (unit : W64) (data : List W64) (s : State) :
    (logEv p code realm job unit data s).mem = s.mem := by
  unfold logEv
  dsimp only
  split <;> rfl

theorem logMod_mem (code : Nat) (unit : W64) (data : List W64) (s : State) : (logMod code unit data s).mem = s.mem :=
  logEv_mem _ _ _ _ _ _ _

theorem markRow_mem (d row : Nat) (s : State) : (markRow d row s).mem = s.mem := by
  unfold markRow
  dsimp only
  split
  · rfl
  · exact logMod_mem _ _ _ _

theorem sramCorrected_mem (d row : Nat) (s : State) : (sramCorrected d row s).mem = s.mem := by
  unfold sramCorrected
  dsimp only
  split
  · exact (markRow_mem _ _ _).trans (logEv_mem _ _ _ _ _ _ _)
  · exact logEv_mem _ _ _ _ _ _ _

theorem sramUncorrectable_mem (d row : Nat) (s : State) : (sramUncorrectable d row s).mem = s.mem :=
  (markRow_mem _ _ _).trans (logMod_mem _ _ _ _)

theorem sramMend_wf (s : State) (w : Nat) (h : s.mem.wf = true) : (sramMend s w).mem.wf = true := by
  have put (b : List Byte) (t : State) (ht : t.mem.wf = true) :
      (t.setMem { t.mem with sram := tsetRun 0 t.mem.sram (8 * w) b }).mem.wf = true := by
    rw [mem_wf_iff] at ht ⊢
    exact ⟨tok_tsetRun _ _ _ _ ht.1, ht.2⟩
  unfold sramMend
  dsimp only
  split
  · exact h
  · rw [sramCorrected_mem]; exact put _ _ h
  · rw [sramUncorrectable_mem]; exact put _ (s.setFreeCtr _) h

theorem sramWrite_wf (r off : Nat) (data : List Byte) (s : State) (h : s.mem.wf = true) :
    (sramWrite r off data s).mem.wf = true := by
  unfold sramWrite
  extract_lets len words valid s1 clean
  have ht : s1.mem.wf = true := wf_foldl sramMend sramMend_wf _ s h
  rw [mem_wf_iff] at ht ⊢
  obtain ⟨h1, h2, h3, h4, h5, h6, h7⟩ := ht
  exact ⟨tok_tsetRun _ _ _ _ h1, tok_foldl _ _ (fun _ _ hb => tok_tset _ _ _ _ hb) _ _ h2, tok_drops _ _ _ h3, h4, h5, h6, h7⟩

theorem lpxWrite_wf (off : Nat) (data : List Byte) (s : State) (h : s.mem.wf = true) :
    (lpxWrite off data s).mem.wf = true := by
  unfold lpxWrite
  dsimp only
  split
  · exact h
  · rw [mem_wf_iff] at h ⊢
    obtain ⟨h1, h2, h3, h4, h5, h6, h7⟩ := h
    exact ⟨h1, h2, h3, tok_tsetRun _ _ _ _ h4, h5, h6, tok_drops _ _ _ h7⟩

theorem memWrite_wf (realm off : Nat) (data : List Byte) (s : State) (h : s.mem.wf = true) :
    (memWrite realm off data s).mem.wf = true := by
  unfold memWrite
  split
  · split
    · exact lpxWrite_wf _ _ _ h
    · refine wf_foldl _ (fun t g ht => ?_) _ _ h
      dsimp only
      split
      · exact ht
      · exact lpxWrite_wf _ _ _ ht
  · split
    · exact h
    · exact sramWrite_wf _ _ _ _ h

theorem tagClear_wf (d slot : Nat) (s : State) (h : s.mem.wf = true) : (tagClear d slot s).mem.wf = true := by
  rw [mem_wf_iff] at h ⊢
  obtain ⟨h1, h2, h3, h4, h5, h6, h7⟩ := h
  exact ⟨tok_filter _ _ _ h1, tok_filter _ _ _ h2, tok_filter _ _ _ h3, h4, h5, h6, h7⟩

theorem sramLost_wf (d : Nat) (s : State) (h : s.mem.wf = true) : (sramLost d s).mem.wf = true := by
  rw [mem_wf_iff] at h ⊢
  obtain ⟨h1, h2, h3, h4, h5, h6, h7⟩ := h
  exact ⟨tok_tclear _ _ _ _ h1, tok_tclear _ _ _ _ h2, tok_tclear _ _ _ _ h3, h4, h5, h6, h7⟩

theorem lpxLost_wf (d : Nat) (s : State) (h : s.mem.wf = true) : (lpxLost d s).mem.wf = true := by
  rw [mem_wf_iff] at h ⊢
  obtain ⟨h1, h2, h3, h4, h5, h6, h7⟩ := h
  exact ⟨h1, h2, h3, tok_tclear _ _ _ _ h4, tok_tclear _ _ _ _ h5, tok_tclear _ _ _ _ h6, tok_tclear _ _ _ _ h7⟩

theorem assignPage_wf (owner epoch pg : Nat) (s : State) (h : s.mem.wf = true) :
    (assignPage owner epoch pg s).mem.wf = true := by
  unfold assignPage
  rw [mem_wf_iff] at h ⊢
  obtain ⟨h1, h2, h3, h4, h5, h6, h7⟩ := h
  dsimp only [State.setMem]
  exact ⟨h1, h2, h3, h4, tok_tset _ _ _ _ h5, tok_tmod _ _ _ _ h6, h7⟩

theorem sweepTo_wf (pg upto : Nat) (s : State) (h : s.mem.wf = true) : (sweepTo pg upto s).mem.wf = true := by
  unfold sweepTo
  split
  · exact h
  · rw [mem_wf_iff] at h ⊢
    obtain ⟨h1, h2, h3, h4, h5, h6, h7⟩ := h
    dsimp only [State.setMem]
    refine ⟨h1, h2, h3, tok_tmap _ _ _ h4, ?_, tok_tset _ _ _ _ h6, h7⟩
    split
    · exact tok_tset _ _ _ _ h5
    · exact h5

theorem freeRegion_wf (r : Region) (s : State) (h : s.mem.wf = true) : (freeRegion r s).mem.wf = true := by
  rw [mem_wf_iff] at h ⊢
  obtain ⟨h1, h2, h3, h4, h5, h6, h7⟩ := h
  exact ⟨h1, h2, h3, h4, tok_foldl _ _ (fun _ _ hb => tok_tclear _ _ _ _ hb) _ _ h5, h6, h7⟩

theorem scrubPages_wf (r : Nat) (s : State) (h : s.mem.wf = true) : (scrubPages r s).mem.wf = true := by
  rw [mem_wf_iff] at h ⊢
  obtain ⟨h1, h2, h3, h4, h5, h6, h7⟩ := h
  exact ⟨h1, h2, h3, tok_filter _ _ _ h4, tok_filter _ _ _ h5, tok_filter _ _ _ h6, tok_filter _ _ _ h7⟩

theorem copySliver_wf (d c k j : Nat) (s : State) (h : s.mem.wf = true) : (copySliver d c k j s).mem.wf = true := by
  rw [mem_wf_iff] at h ⊢
  obtain ⟨h1, h2, h3, h4, h5, h6, h7⟩ := h
  exact ⟨tok_tmove _ _ _ _ _ h1, tok_tmove _ _ _ _ _ h2, tok_tmove _ _ _ _ _ h3, h4, h5, h6, h7⟩

theorem regionUndef_wf (g : Region) (s : State) (h : s.mem.wf = true) : (regionUndef g s).mem.wf = true := by
  unfold regionUndef
  refine wf_foldl _ (fun t r ht => wf_foldl _ (fun u i hu => ?_) _ _ ht) _ _ h
  rw [mem_wf_iff] at hu ⊢
  dsimp only [fresh, State.setMem, State.setFreeCtr]
  obtain ⟨h1, h2, h3, h4, h5, h6, h7⟩ := hu
  exact ⟨h1, h2, h3, tok_tclear _ _ _ _ h4, h5, tok_tmod _ _ _ _ h6, h7⟩

theorem stashDrop_wf (d : Nat) (p : Nat → Nat → Bool) (s : State) (h : s.mem.wf = true) :
    (stashDrop d p s).mem.wf = true := by
  unfold stashDrop
  refine wf_foldl _ (fun t e ht => ?_) _ _ h
  split
  · rw [mem_wf_iff] at ht ⊢
    obtain ⟨h1, h2, h3, h4, h5, h6, h7⟩ := ht
    exact ⟨tok_tclear _ _ _ _ h1, tok_tclear _ _ _ _ h2, tok_tclear _ _ _ _ h3, h4, h5, h6, h7⟩
  · exact ht

theorem applyErrs_wf (errs : List (Nat × Nat)) (s : State) (h : s.mem.wf = true) : (applyErrs errs s).mem.wf = true := by
  unfold applyErrs
  refine wf_foldl _ (fun t e ht => ?_) _ _ h
  have hs : (t.setMem { t.mem with sramEcc := tset 0 t.mem.sramEcc (e.1 / 8) (e.2 % 2 ^ 72) }).mem.wf = true := by
    rw [mem_wf_iff] at ht ⊢
    obtain ⟨h1, h2, h3, h4, h5, h6, h7⟩ := ht
    exact ⟨h1, h2, tok_tset _ _ _ _ h3, h4, h5, h6, h7⟩
  split
  · rw [mem_wf_iff] at ht ⊢
    obtain ⟨h1, h2, h3, h4, h5, h6, h7⟩ := ht
    exact ⟨h1, h2, h3, h4, h5, h6, tok_tset _ _ _ _ h7⟩
  · exact ht
  · exact ht
  · exact ht
  · exact hs

/-! ### Reading after writing -/

theorem tget_foldl_tset_in {α : Type} [DecidableEq α] (d : α) (v : α) (ks : List Nat) (t : Tbl α) (k : Nat)
    (h : k ∈ ks ∨ tget d t k = v) : tget d (ks.foldl (fun t l => tset d t l v) t) k = v := by
  induction ks generalizing t with
  | nil => simpa using h
  | cons l ks ih =>
    refine ih _ ?_
    by_cases e : k = l
    · subst e; exact .inr (tget_tset_same _ _ _ _)
    · rw [tget_tset_ne _ _ _ _ _ e]
      simpa [e] using h

theorem tget_foldl_tdrop {α : Type} (d : α) (ks : List Nat) (t : Tbl α) (k : Nat) (h : k ∈ ks ∨ tget d t k = d) :
    tget d (ks.foldl tdrop t) k = d := by
  induction ks generalizing t with
  | nil => simpa using h
  | cons l ks ih =>
    refine ih _ ?_
    by_cases e : k = l
    · subst e; exact .inr (tget_tdrop_same _ _ _)
    · rw [tget_tdrop_ne _ _ _ _ e]
      simpa [e] using h

theorem mem_unitsOf (off len size u : Nat) :
    u ∈ unitsOf off len size ↔ 0 < len ∧ off / size ≤ u ∧ u ≤ (off + len - 1) / size := by
  unfold unitsOf
  split
  · simp_all
  · have : off / size ≤ (off + len - 1) / size := Nat.div_le_div_right (by omega)
    simp only [List.mem_map, List.mem_range]
    constructor
    · rintro ⟨i, hi, rfl⟩; omega
    · rintro ⟨-, h1, h2⟩; exact ⟨u - off / size, by omega, by omega⟩

/-- SRAM reads back what was written, to the realm that wrote it (R287, R288, R290). -/
theorem sramByte_sramWrite_in (r off : Nat) (data : List Byte) (s : State) (i : Nat) (h : i < data.length) :
    sramByte (sramWrite r off data s) r (off + i) = data[i] := by
  have hw : (off + i) / 8 ∈ unitsOf off data.length 8 := by
    rw [mem_unitsOf]
    exact ⟨by omega, Nat.div_le_div_right (by omega), Nat.div_le_div_right (by omega)⟩
  have hl : (off + i) / 32 ∈ unitsOf off data.length 32 := by
    rw [mem_unitsOf]
    exact ⟨by omega, Nat.div_le_div_right (by omega), Nat.div_le_div_right (by omega)⟩
  have h1 : tget none (sramWrite r off data s).mem.line ((off + i) / 32) = some r :=
    tget_foldl_tset_in none (some r) _ _ _ (.inl hl)
  have h2 : tget 0 (sramWrite r off data s).mem.sramEcc ((off + i) / 8) = 0 := by
    unfold sramWrite
    dsimp only [State.setMem]
    split
    · rfl
    · refine tget_foldl_tdrop _ _ _ _ (.inl (List.mem_filter.2 ⟨?_, by simp [hw]⟩))
      rw [mem_unitsOf] at hw ⊢
      omega
  unfold sramByte
  rw [if_neg (by simp [h1]), if_pos h2]
  exact tget_tsetRun_in 0 data _ off i h

end Sys2Proof.Machine
end

