-- ==== Sys2Proof/Laws/Touch.lean ====
section
/-! SUPPORT. What an operation can touch: `Touch m s t` says that `t` differs from `s` only in the fields whose bit `m` has,
that the step kept the invariant, and that sequence numbers did not go back. -/

namespace Sys2Proof.Machine

open Sys2Proof

/-- Field `k` of the state is kept unless bit `k` of `m` is set; the invariant is kept; numbers of records do not go back. -/
structure Touch (m : Nat) (s t : State) : Prop where
  variant : m.testBit 0 = false → t.variant = s.variant
  phase : m.testBit 1 = false → t.phase = s.phase
  sup : m.testBit 2 = false → t.sup = s.sup
  doms : m.testBit 3 = false → t.doms = s.doms
  pseq : m.testBit 4 = false → t.pseq = s.pseq
  pwait : m.testBit 5 = false → t.pwait = s.pwait
  spring : m.testBit 6 = false → t.spring = s.spring
  prof : m.testBit 7 = false → t.prof = s.prof
  shut : m.testBit 8 = false → t.shut = s.shut
  cap : m.testBit 9 = false → t.cap = s.cap
  thm : m.testBit 10 = false → t.thm = s.thm
  blks : m.testBit 11 = false → t.blks = s.blks
  rwb : m.testBit 12 = false → t.rwb = s.rwb
  fn0 : m.testBit 13 = false → t.fn0 = s.fn0
  fn1 : m.testBit 14 = false → t.fn1 = s.fn1
  steward : m.testBit 15 = false → t.steward = s.steward
  jobA : m.testBit 16 = false → t.jobA = s.jobA
  jobB : m.testBit 17 = false → t.jobB = s.jobB
  jobIds : m.testBit 18 = false → t.jobIds = s.jobIds
  dsc : m.testBit 19 = false → t.dsc = s.dsc
  scb : m.testBit 20 = false → t.scb = s.scb
  prg : m.testBit 21 = false → t.prg = s.prg
  cmp : m.testBit 22 = false → t.cmp = s.cmp
  mem : m.testBit 23 = false → t.mem = s.mem
  srm : m.testBit 24 = false → t.srm = s.srm
  stk : m.testBit 25 = false → t.stk = s.stk
  opt : m.testBit 26 = false → t.opt = s.opt
  links : m.testBit 27 = false → t.links = s.links
  rtb : m.testBit 28 = false → t.rtb = s.rtb
  fab : m.testBit 29 = false → t.fab = s.fab
  sec : m.testBit 30 = false → t.sec = s.sec
  rel : m.testBit 31 = false → t.rel = s.rel
  mgt : m.testBit 32 = false → t.mgt = s.mgt
  flash : m.testBit 33 = false → t.flash = s.flash
  buddies : m.testBit 34 = false → t.buddies = s.buddies
  freeCtr : m.testBit 35 = false → t.freeCtr = s.freeCtr
  out : m.testBit 36 = false → t.out = s.out
  pending : m.testBit 37 = false → t.pending = s.pending
  inv : Inv s → Inv t
  evSeq : s.flash.evSeq ≤ t.flash.evSeq
  journalNo : s.flash.journalNo ≤ t.flash.journalNo

theorem Touch.refl (m : Nat) (s : State) : Touch m s s := by
  constructor <;> intros <;> first | rfl | assumption | exact Nat.le_refl _

theorem Touch.trans {m : Nat} {s t u : State} (h : Touch m s t) (g : Touch m t u) : Touch m s u := by
  constructor
  · exact fun b => (g.variant b).trans (h.variant b)
  · exact fun b => (g.phase b).trans (h.phase b)
  · exact fun b => (g.sup b).trans (h.sup b)
  · exact fun b => (g.doms b).trans (h.doms b)
  · exact fun b => (g.pseq b).trans (h.pseq b)
  · exact fun b => (g.pwait b).trans (h.pwait b)
  · exact fun b => (g.spring b).trans (h.spring b)
  · exact fun b => (g.prof b).trans (h.prof b)
  · exact fun b => (g.shut b).trans (h.shut b)
  · exact fun b => (g.cap b).trans (h.cap b)
  · exact fun b => (g.thm b).trans (h.thm b)
  · exact fun b => (g.blks b).trans (h.blks b)
  · exact fun b => (g.rwb b).trans (h.rwb b)
  · exact fun b => (g.fn0 b).trans (h.fn0 b)
  · exact fun b => (g.fn1 b).trans (h.fn1 b)
  · exact fun b => (g.steward b).trans (h.steward b)
  · exact fun b => (g.jobA b).trans (h.jobA b)
  · exact fun b => (g.jobB b).trans (h.jobB b)
  · exact fun b => (g.jobIds b).trans (h.jobIds b)
  · exact fun b => (g.dsc b).trans (h.dsc b)
  · exact fun b => (g.scb b).trans (h.scb b)
  · exact fun b => (g.prg b).trans (h.prg b)
  · exact fun b => (g.cmp b).trans (h.cmp b)
  · exact fun b => (g.mem b).trans (h.mem b)
  · exact fun b => (g.srm b).trans (h.srm b)
  · exact fun b => (g.stk b).trans (h.stk b)
  · exact fun b => (g.opt b).trans (h.opt b)
  · exact fun b => (g.links b).trans (h.links b)
  · exact fun b => (g.rtb b).trans (h.rtb b)
  · exact fun b => (g.fab b).trans (h.fab b)
  · exact fun b => (g.sec b).trans (h.sec b)
  · exact fun b => (g.rel b).trans (h.rel b)
  · exact fun b => (g.mgt b).trans (h.mgt b)
  · exact fun b => (g.flash b).trans (h.flash b)
  · exact fun b => (g.buddies b).trans (h.buddies b)
  · exact fun b => (g.freeCtr b).trans (h.freeCtr b)
  · exact fun b => (g.out b).trans (h.out b)
  · exact fun b => (g.pending b).trans (h.pending b)
  · exact fun i => g.inv (h.inv i)
  · exact Nat.le_trans h.evSeq g.evSeq
  · exact Nat.le_trans h.journalNo g.journalNo

theorem testBit_of_sub {m n k : Nat} (h : m &&& n = m) (hk : n.testBit k = false) : m.testBit k = false := by
  rw [← h, Nat.testBit_and, hk, Bool.and_false]

theorem sub_mono {a b m : Nat} (h : a &&& b = a) (g : b &&& m = b) : a &&& m = a := by
  rw [← h, Nat.and_assoc, g]

theorem Touch.mono {m n : Nat} {s t : State} (h : Touch m s t) (sub : m &&& n = m) : Touch n s t := by
  constructor
  · exact fun b => h.variant (testBit_of_sub sub b)
  · exact fun b => h.phase (testBit_of_sub sub b)
  · exact fun b => h.sup (testBit_of_sub sub b)
  · exact fun b => h.doms (testBit_of_sub sub b)
  · exact fun b => h.pseq (testBit_of_sub sub b)
  · exact fun b => h.pwait (testBit_of_sub sub b)
  · exact fun b => h.spring (testBit_of_sub sub b)
  · exact fun b => h.prof (testBit_of_sub sub b)
  · exact fun b => h.shut (testBit_of_sub sub b)
  · exact fun b => h.cap (testBit_of_sub sub b)
  · exact fun b => h.thm (testBit_of_sub sub b)
  · exact fun b => h.blks (testBit_of_sub sub b)
  · exact fun b => h.rwb (testBit_of_sub sub b)
  · exact fun b => h.fn0 (testBit_of_sub sub b)
  · exact fun b => h.fn1 (testBit_of_sub sub b)
  · exact fun b => h.steward (testBit_of_sub sub b)
  · exact fun b => h.jobA (testBit_of_sub sub b)
  · exact fun b => h.jobB (testBit_of_sub sub b)
  · exact fun b => h.jobIds (testBit_of_sub sub b)
  · exact fun b => h.dsc (testBit_of_sub sub b)
  · exact fun b => h.scb (testBit_of_sub sub b)
  · exact fun b => h.prg (testBit_of_sub sub b)
  · exact fun b => h.cmp (testBit_of_sub sub b)
  · exact fun b => h.mem (testBit_of_sub sub b)
  · exact fun b => h.srm (testBit_of_sub sub b)
  · exact fun b => h.stk (testBit_of_sub sub b)
  · exact fun b => h.opt (testBit_of_sub sub b)
  · exact fun b => h.links (testBit_of_sub sub b)
  · exact fun b => h.rtb (testBit_of_sub sub b)
  · exact fun b => h.fab (testBit_of_sub sub b)
  · exact fun b => h.sec (testBit_of_sub sub b)
  · exact fun b => h.rel (testBit_of_sub sub b)
  · exact fun b => h.mgt (testBit_of_sub sub b)
  · exact fun b => h.flash (testBit_of_sub sub b)
  · exact fun b => h.buddies (testBit_of_sub sub b)
  · exact fun b => h.freeCtr (testBit_of_sub sub b)
  · exact fun b => h.out (testBit_of_sub sub b)
  · exact fun b => h.pending (testBit_of_sub sub b)
  · exact h.inv
  · exact h.evSeq
  · exact h.journalNo

/-- One more operation. -/
theorem Touch.via {m n : Nat} {s t u : State} (g : Touch m t u) (sub : m &&& n = m) (h : Touch n s t) : Touch n s u :=
  h.trans (g.mono sub)

theorem Touch.foldl {β : Type} {n : Nat} {s t : State} (f : State → β → State) (l : List β)
    (hf : ∀ u b, Touch n u (f u b)) (h : Touch n s t) : Touch n s (l.foldl f t) := by
  induction l generalizing t with
  | nil => exact h
  | cons b l ih => exact ih (h.trans (hf t b))

theorem Touch.foldl_pair {α β : Type} {n : Nat} {s : State} (f : α × State → β → α × State) (l : List β) (a : α × State)
    (hf : ∀ a b, Touch n a.2 (f a b).2) (h : Touch n s a.2) : Touch n s (l.foldl f a).2 := by
  induction l generalizing a with
  | nil => exact h
  | cons b l ih => exact ih _ (h.trans (hf a b))

theorem Touch.foldl_fst {α β : Type} {n : Nat} {s : State} (f : State × α → β → State × α) (l : List β) (a : State × α)
    (hf : ∀ a b, Touch n a.1 (f a b).1) (h : Touch n s a.1) : Touch n s (l.foldl f a).1 := by
  induction l generalizing a with
  | nil => exact h
  | cons b l ih => exact ih _ (h.trans (hf a b))

theorem Touch.of_snd {α : Type} {n : Nat} {s t : State} {p : α × State} {x : α} (e : p = (x, t)) (h : Touch n s p.2) :
    Touch n s t := by rw [e] at h; exact h

theorem Touch.of_fst {α : Type} {n : Nat} {s t : State} {p : State × α} {x : α} (e : p = (t, x)) (h : Touch n s p.1) :
    Touch n s t := by rw [e] at h; exact h

theorem Touch.of_snd₃ {α β : Type} {n : Nat} {s t : State} {p : α × β × State} {x : α} {y : β} (e : p = (x, y, t))
    (h : Touch n s p.2.2) : Touch n s t := by rw [e] at h; exact h

/-- An outcome goes on, inside a frame. -/
def TouchR (n : Nat) (s : State) (r : Res) : Prop := ∃ t, r = .next t ∧ Touch n s t

theorem TouchR.next {n : Nat} {s t : State} (h : Touch n s t) : TouchR n s (.next t) := ⟨t, rfl, h⟩

/-- An answer that may fail keeps to a frame when it does not. -/
def TouchO (n : Nat) (s : State) (o : Option State) : Prop := ∀ t, o = some t → Touch n s t

theorem TouchO.none {n : Nat} {s : State} : TouchO n s none := by intro t h; cases h

theorem TouchO.some {n : Nat} {s t : State} (h : Touch n s t) : TouchO n s (some t) := by
  intro u e; cases e; exact h

theorem TouchO.get {n k : Nat} {s t u : State} {o : Option State} (e : o = Option.some u) (g : TouchO n t o)
    (sub : n &&& k = n) (h : Touch k s t) : Touch k s u := h.trans ((g u e).mono sub)

theorem TouchR.ite {n : Nat} {s : State} {c : Prop} [Decidable c] {a b : Res} (ha : TouchR n s a) (hb : TouchR n s b) :
    TouchR n s (if c then a else b) := by
  split
  · exact ha
  · exact hb

theorem Touch.ite {n : Nat} {s : State} {c : Prop} [Decidable c] {a b : State} (ha : Touch n s a) (hb : Touch n s b) :
    Touch n s (if c then a else b) := by
  split
  · exact ha
  · exact hb

theorem TouchR.mono {m n : Nat} {s : State} {r : Res} (h : TouchR m s r) (sub : m &&& n = m) : TouchR n s r := by
  obtain ⟨t, e, h⟩ := h
  exact ⟨t, e, h.mono sub⟩

theorem TouchO.mono {m n : Nat} {s : State} {o : Option State} (h : TouchO m s o) (sub : m &&& n = m) : TouchO n s o :=
  fun t e => (h t e).mono sub

theorem TouchO.getD {n : Nat} {s : State} {o : Option State} (h : TouchO n s o) : Touch n s (o.getD s) := by
  cases o with
  | none => exact Touch.refl _ _
  | some t => exact h t rfl

theorem Touch.getD {k n : Nat} {s t d : State} {o : Option State} (g : TouchO k t o) (sub : k &&& n = k) (h : Touch n s t)
    (hd : Touch n s d) : Touch n s (o.getD d) := by
  cases o with
  | none => exact hd
  | some u => exact h.trans ((g u rfl).mono sub)

theorem TouchO.map {n : Nat} {s : State} {o : Option State} {f : State → State} (g : TouchO n s o)
    (hf : ∀ t, Touch n t (f t)) : TouchO n s (o.map f) := by
  cases o with
  | none => exact TouchO.none
  | some t => exact TouchO.some ((g t rfl).trans (hf t))

theorem TouchO.bind {n : Nat} {s : State} {o : Option State} {f : State → Option State} (g : TouchO n s o)
    (hf : ∀ t, TouchO n t (f t)) : TouchO n s (o.bind f) := by
  cases o with
  | none => exact TouchO.none
  | some t => exact fun u e => (g t rfl).trans (hf t u e)

theorem TouchO.foldl {β : Type} {n : Nat} {s : State} (f : State → β → Option State) (l : List β)
    (hf : ∀ t b, TouchO n t (f t b)) {o : Option State} (h : TouchO n s o) :
    TouchO n s (l.foldl (fun a b => a.bind fun t => f t b) o) := by
  induction l generalizing o with
  | nil => exact h
  | cons b l ih => exact ih (h.bind fun t => hf t b)

/-- An answer that carries a state, found by `p`, keeps to a frame when it is one. -/
def TouchP {α : Type} (p : α → State) (n : Nat) (s : State) (o : Option α) : Prop := ∀ x, o = some x → Touch n s (p x)

theorem TouchP.none {α : Type} {p : α → State} {n : Nat} {s : State} : TouchP p n s none := by intro t h; cases h

theorem TouchP.some {α : Type} {p : α → State} {n : Nat} {s : State} {x : α} (h : Touch n s (p x)) :
    TouchP p n s (some x) := by
  intro u e; cases e; exact h

theorem TouchP.mono {α : Type} {p : α → State} {m n : Nat} {s : State} {o : Option α} (h : TouchP p m s o)
    (sub : m &&& n = m) : TouchP p n s o := fun t e => (h t e).mono sub

theorem TouchP.bind {α β : Type} {p : α → State} {q : β → State} {n : Nat} {s : State} {o : Option α} {f : α → Option β}
    (g : TouchP p n s o) (hf : ∀ x, TouchP q n (p x) (f x)) : TouchP q n s (o.bind f) := by
  cases o with
  | none => exact TouchP.none
  | some x => exact fun y e => (g x rfl).trans (hf x y e)

theorem TouchP.map {α β : Type} {p : α → State} {q : β → State} {n : Nat} {s : State} {o : Option α} {f : α → β}
    (g : TouchP p n s o) (hf : ∀ x, Touch n (p x) (q (f x))) : TouchP q n s (o.map f) := by
  cases o with
  | none => exact TouchP.none
  | some x => exact TouchP.some ((g x rfl).trans (hf x))

theorem TouchP.const {α β : Type} {q : β → State} {n : Nat} {s : State} {o : Option α} {f : α → β}
    (hf : ∀ x, Touch n s (q (f x))) : TouchP q n s (o.map f) := by
  cases o with
  | none => exact TouchP.none
  | some x => exact TouchP.some (hf x)

theorem TouchP.foldl {α β : Type} {p : α → State} {n : Nat} {s : State} (f : Option α → β → Option α) (l : List β)
    (hf : ∀ o b, TouchP p n s o → TouchP p n s (f o b)) {o : Option α} (h : TouchP p n s o) : TouchP p n s (l.foldl f o) := by
  induction l generalizing o with
  | nil => exact h
  | cons b l ih => exact ih (hf o b h)

theorem Touch.ofP1 {α : Type} {n k : Nat} {s t u : State} {a : α} {o : Option (State × α)} (e : o = Option.some (u, a))
    (g : TouchP (fun x => x.1) n t o) (sub : n &&& k = n) (h : Touch k s t) : Touch k s u := h.trans ((g _ e).mono sub)

theorem Touch.ofP2 {α : Type} {n k : Nat} {s t u : State} {a : α} {o : Option (α × State)} (e : o = Option.some (a, u))
    (g : TouchP (fun x => x.2) n t o) (sub : n &&& k = n) (h : Touch k s t) : Touch k s u := h.trans ((g _ e).mono sub)

theorem Touch.ofP3 {α β : Type} {n k : Nat} {s t u : State} {a : α} {b : β} {o : Option (α × β × State)}
    (e : o = Option.some (a, b, u))
    (g : TouchP (fun x => x.2.2) n t o) (sub : n &&& k = n) (h : Touch k s t) : Touch k s u := h.trans ((g _ e).mono sub)

theorem Touch.ofPx1 {α : Type} {n k : Nat} {s t : State} {x : State × α} {o : Option (State × α)} (e : o = Option.some x)
    (g : TouchP (fun x => x.1) n t o) (sub : n &&& k = n) (h : Touch k s t) : Touch k s x.1 := h.trans ((g _ e).mono sub)

theorem Touch.ofPx2 {α : Type} {n k : Nat} {s t : State} {x : α × State} {o : Option (α × State)} (e : o = Option.some x)
    (g : TouchP (fun x => x.2) n t o) (sub : n &&& k = n) (h : Touch k s t) : Touch k s x.2 := h.trans ((g _ e).mono sub)

theorem Touch.ofPx3 {α β : Type} {n k : Nat} {s t : State} {x : α × β × State} {o : Option (α × β × State)}
    (e : o = Option.some x)
    (g : TouchP (fun x => x.2.2) n t o) (sub : n &&& k = n) (h : Touch k s t) : Touch k s x.2.2 := h.trans ((g _ e).mono sub)

theorem Touch.ofPxr {α β : Type} {n k : Nat} {s t : State} {x : α × State × β} {o : Option (α × State × β)}
    (e : o = Option.some x)
    (g : TouchP (fun x => x.2.1) n t o) (sub : n &&& k = n) (h : Touch k s t) : Touch k s x.2.1 := h.trans ((g _ e).mono sub)

theorem Touch.foldl_trip {α β γ : Type} {n : Nat} {s : State} (f : α × β × State → γ → α × β × State) (l : List γ)
    (a : α × β × State) (hf : ∀ a b, Touch n a.2.2 (f a b).2.2) (h : Touch n s a.2.2) :
    Touch n s (l.foldl f a).2.2 := by
  induction l generalizing a with
  | nil => exact h
  | cons b l ih => exact ih (f a b) (h.trans (hf a b))

theorem Touch.foldl_mid {α β γ : Type} {n : Nat} {s : State} (f : α × State × β → γ → α × State × β) (l : List γ)
    (a : α × State × β) (hf : ∀ a b, Touch n a.2.1 (f a b).2.1) (h : Touch n s a.2.1) :
    Touch n s (l.foldl f a).2.1 := by
  induction l generalizing a with
  | nil => exact h
  | cons b l ih => exact ih (f a b) (h.trans (hf a b))

/-! ### Setters -/

theorem Touch.setVariant {n : Nat} {s t : State} {v} (b : n.testBit 0 = true) (h : Touch n s t) : Touch n s (t.setVariant v) := by
  refine h.trans ?_
  constructor <;> first | (intro hb; rfl) | (intro hb; rw [b] at hb; cases hb) | exact fun i => i | exact Nat.le_refl _

theorem Touch.setPhase {n : Nat} {s t : State} {v} (b : n.testBit 1 = true) (h : Touch n s t) : Touch n s (t.setPhase v) := by
  refine h.trans ?_
  constructor <;> first | (intro hb; rfl) | (intro hb; rw [b] at hb; cases hb) | exact fun i => i | exact Nat.le_refl _

theorem Touch.setSup {n : Nat} {s t : State} {v} (b : n.testBit 2 = true) (h : Touch n s t) : Touch n s (t.setSup v) := by
  refine h.trans ?_
  constructor <;> first | (intro hb; rfl) | (intro hb; rw [b] at hb; cases hb) | exact fun i => i | exact Nat.le_refl _

theorem Touch.setDoms {n : Nat} {s t : State} {v} (b : n.testBit 3 = true) (h : Touch n s t) : Touch n s (t.setDoms v) := by
  refine h.trans ?_
  constructor <;> first | (intro hb; rfl) | (intro hb; rw [b] at hb; cases hb) | exact fun i => i | exact Nat.le_refl _

theorem Touch.setPseq {n : Nat} {s t : State} {v} (b : n.testBit 4 = true) (h : Touch n s t) : Touch n s (t.setPseq v) := by
  refine h.trans ?_
  constructor <;> first | (intro hb; rfl) | (intro hb; rw [b] at hb; cases hb) | exact fun i => i | exact Nat.le_refl _

theorem Touch.setPwait {n : Nat} {s t : State} {v} (b : n.testBit 5 = true) (h : Touch n s t) : Touch n s (t.setPwait v) := by
  refine h.trans ?_
  constructor <;> first | (intro hb; rfl) | (intro hb; rw [b] at hb; cases hb) | exact fun i => i | exact Nat.le_refl _

theorem Touch.setSpring {n : Nat} {s t : State} {v} (b : n.testBit 6 = true) (h : Touch n s t) : Touch n s (t.setSpring v) := by
  refine h.trans ?_
  constructor <;> first | (intro hb; rfl) | (intro hb; rw [b] at hb; cases hb) | exact fun i => i | exact Nat.le_refl _

theorem Touch.setProf {n : Nat} {s t : State} {v} (b : n.testBit 7 = true) (h : Touch n s t) : Touch n s (t.setProf v) := by
  refine h.trans ?_
  constructor <;> first | (intro hb; rfl) | (intro hb; rw [b] at hb; cases hb) | exact fun i => i | exact Nat.le_refl _

theorem Touch.setShut {n : Nat} {s t : State} {v} (b : n.testBit 8 = true) (h : Touch n s t) : Touch n s (t.setShut v) := by
  refine h.trans ?_
  constructor <;> first | (intro hb; rfl) | (intro hb; rw [b] at hb; cases hb) | exact fun i => i | exact Nat.le_refl _

theorem Touch.setCap {n : Nat} {s t : State} {v} (b : n.testBit 9 = true) (h : Touch n s t) : Touch n s (t.setCap v) := by
  refine h.trans ?_
  constructor <;> first | (intro hb; rfl) | (intro hb; rw [b] at hb; cases hb) | exact fun i => i | exact Nat.le_refl _

theorem Touch.setThm {n : Nat} {s t : State} {v} (b : n.testBit 10 = true) (h : Touch n s t) : Touch n s (t.setThm v) := by
  refine h.trans ?_
  constructor <;> first | (intro hb; rfl) | (intro hb; rw [b] at hb; cases hb) | exact fun i => i | exact Nat.le_refl _

theorem Touch.setBlks {n : Nat} {s t : State} {v} (b : n.testBit 11 = true) (h : Touch n s t) : Touch n s (t.setBlks v) := by
  refine h.trans ?_
  constructor <;> first | (intro hb; rfl) | (intro hb; rw [b] at hb; cases hb) | exact fun i => i | exact Nat.le_refl _

theorem Touch.setRwb {n : Nat} {s t : State} {v} (b : n.testBit 12 = true) (h : Touch n s t) : Touch n s (t.setRwb v) := by
  refine h.trans ?_
  constructor <;> first | (intro hb; rfl) | (intro hb; rw [b] at hb; cases hb) | exact fun i => i | exact Nat.le_refl _

theorem Touch.setFn0 {n : Nat} {s t : State} {v} (b : n.testBit 13 = true) (h : Touch n s t) : Touch n s (t.setFn0 v) := by
  refine h.trans ?_
  constructor <;> first | (intro hb; rfl) | (intro hb; rw [b] at hb; cases hb) | exact fun i => i | exact Nat.le_refl _

theorem Touch.setFn1 {n : Nat} {s t : State} {v} (b : n.testBit 14 = true) (h : Touch n s t) : Touch n s (t.setFn1 v) := by
  refine h.trans ?_
  constructor <;> first | (intro hb; rfl) | (intro hb; rw [b] at hb; cases hb) | exact fun i => i | exact Nat.le_refl _

theorem Touch.setSteward {n : Nat} {s t : State} {v} (b : n.testBit 15 = true) (h : Touch n s t) : Touch n s (t.setSteward v) := by
  refine h.trans ?_
  constructor <;> first | (intro hb; rfl) | (intro hb; rw [b] at hb; cases hb) | exact fun i => i | exact Nat.le_refl _

theorem Touch.setJobA {n : Nat} {s t : State} {v} (b : n.testBit 16 = true) (h : Touch n s t) : Touch n s (t.setJobA v) := by
  refine h.trans ?_
  constructor <;> first | (intro hb; rfl) | (intro hb; rw [b] at hb; cases hb) | exact fun i => i | exact Nat.le_refl _

theorem Touch.setJobB {n : Nat} {s t : State} {v} (b : n.testBit 17 = true) (h : Touch n s t) : Touch n s (t.setJobB v) := by
  refine h.trans ?_
  constructor <;> first | (intro hb; rfl) | (intro hb; rw [b] at hb; cases hb) | exact fun i => i | exact Nat.le_refl _

theorem Touch.setJobIds {n : Nat} {s t : State} {v} (b : n.testBit 18 = true) (h : Touch n s t) : Touch n s (t.setJobIds v) := by
  refine h.trans ?_
  constructor <;> first | (intro hb; rfl) | (intro hb; rw [b] at hb; cases hb) | exact fun i => i | exact Nat.le_refl _

theorem Touch.setDsc {n : Nat} {s t : State} {v} (b : n.testBit 19 = true) (h : Touch n s t) : Touch n s (t.setDsc v) := by
  refine h.trans ?_
  constructor <;> first | (intro hb; rfl) | (intro hb; rw [b] at hb; cases hb) | exact fun i => i | exact Nat.le_refl _

theorem Touch.setScb {n : Nat} {s t : State} {v} (b : n.testBit 20 = true) (h : Touch n s t) : Touch n s (t.setScb v) := by
  refine h.trans ?_
  constructor <;> first | (intro hb; rfl) | (intro hb; rw [b] at hb; cases hb) | exact fun i => i | exact Nat.le_refl _

theorem Touch.setPrg {n : Nat} {s t : State} {v} (b : n.testBit 21 = true) (h : Touch n s t) : Touch n s (t.setPrg v) := by
  refine h.trans ?_
  constructor <;> first | (intro hb; rfl) | (intro hb; rw [b] at hb; cases hb) | exact fun i => i | exact Nat.le_refl _

theorem Touch.setCmp {n : Nat} {s t : State} {v} (b : n.testBit 22 = true) (h : Touch n s t) : Touch n s (t.setCmp v) := by
  refine h.trans ?_
  constructor <;> first | (intro hb; rfl) | (intro hb; rw [b] at hb; cases hb) | exact fun i => i | exact Nat.le_refl _

theorem Touch.setSrm {n : Nat} {s t : State} {v} (b : n.testBit 24 = true) (h : Touch n s t) : Touch n s (t.setSrm v) := by
  refine h.trans ?_
  constructor <;> first | (intro hb; rfl) | (intro hb; rw [b] at hb; cases hb) | exact fun i => i | exact Nat.le_refl _

theorem Touch.setStk {n : Nat} {s t : State} {v} (b : n.testBit 25 = true) (h : Touch n s t) : Touch n s (t.setStk v) := by
  refine h.trans ?_
  constructor <;> first | (intro hb; rfl) | (intro hb; rw [b] at hb; cases hb) | exact fun i => i | exact Nat.le_refl _

theorem Touch.setOpt {n : Nat} {s t : State} {v} (b : n.testBit 26 = true) (h : Touch n s t) : Touch n s (t.setOpt v) := by
  refine h.trans ?_
  constructor <;> first | (intro hb; rfl) | (intro hb; rw [b] at hb; cases hb) | exact fun i => i | exact Nat.le_refl _

theorem Touch.setLinks {n : Nat} {s t : State} {v} (b : n.testBit 27 = true) (h : Touch n s t) : Touch n s (t.setLinks v) := by
  refine h.trans ?_
  constructor <;> first | (intro hb; rfl) | (intro hb; rw [b] at hb; cases hb) | exact fun i => i | exact Nat.le_refl _

theorem Touch.setRtb {n : Nat} {s t : State} {v} (b : n.testBit 28 = true) (h : Touch n s t) : Touch n s (t.setRtb v) := by
  refine h.trans ?_
  constructor <;> first | (intro hb; rfl) | (intro hb; rw [b] at hb; cases hb) | exact fun i => i | exact Nat.le_refl _

theorem Touch.setFab {n : Nat} {s t : State} {v} (b : n.testBit 29 = true) (h : Touch n s t) : Touch n s (t.setFab v) := by
  refine h.trans ?_
  constructor <;> first | (intro hb; rfl) | (intro hb; rw [b] at hb; cases hb) | exact fun i => i | exact Nat.le_refl _

theorem Touch.setSec {n : Nat} {s t : State} {v} (b : n.testBit 30 = true) (h : Touch n s t) : Touch n s (t.setSec v) := by
  refine h.trans ?_
  constructor <;> first | (intro hb; rfl) | (intro hb; rw [b] at hb; cases hb) | exact fun i => i | exact Nat.le_refl _

theorem Touch.setRel {n : Nat} {s t : State} {v} (b : n.testBit 31 = true) (h : Touch n s t) : Touch n s (t.setRel v) := by
  refine h.trans ?_
  constructor <;> first | (intro hb; rfl) | (intro hb; rw [b] at hb; cases hb) | exact fun i => i | exact Nat.le_refl _

theorem Touch.setBuddies {n : Nat} {s t : State} {v} (b : n.testBit 34 = true) (h : Touch n s t) : Touch n s (t.setBuddies v) := by
  refine h.trans ?_
  constructor <;> first | (intro hb; rfl) | (intro hb; rw [b] at hb; cases hb) | exact fun i => i | exact Nat.le_refl _

theorem Touch.setFreeCtr {n : Nat} {s t : State} {v} (b : n.testBit 35 = true) (h : Touch n s t) : Touch n s (t.setFreeCtr v) := by
  refine h.trans ?_
  constructor <;> first | (intro hb; rfl) | (intro hb; rw [b] at hb; cases hb) | exact fun i => i | exact Nat.le_refl _

theorem Touch.setOut {n : Nat} {s t : State} {v} (b : n.testBit 36 = true) (h : Touch n s t) : Touch n s (t.setOut v) := by
  refine h.trans ?_
  constructor <;> first | (intro hb; rfl) | (intro hb; rw [b] at hb; cases hb) | exact fun i => i | exact Nat.le_refl _

theorem Touch.setPending {n : Nat} {s t : State} {v} (b : n.testBit 37 = true) (h : Touch n s t) : Touch n s (t.setPending v) := by
  refine h.trans ?_
  constructor <;> first | (intro hb; rfl) | (intro hb; rw [b] at hb; cases hb) | exact fun i => i | exact Nat.le_refl _

theorem Touch.setMem {n : Nat} {s t : State} {v} (b : n.testBit 23 = true) (hv : t.mem.wf = true → v.wf = true)
    (h : Touch n s t) : Touch n s (t.setMem v) := by
  refine h.trans ?_
  constructor <;> first | (intro hb; rfl) | (intro hb; rw [b] at hb; cases hb) | exact fun i => ⟨hv i.1, i.2⟩ | exact Nat.le_refl _

/-- A change of `mgt` that keeps its queues. -/
theorem Touch.setMgt {n : Nat} {s t : State} {v} (b : n.testBit 32 = true) (h1 : v.hwq = t.mgt.hwq) (h2 : v.log = t.mgt.log)
    (h3 : v.evq = t.mgt.evq) (h : Touch n s t) : Touch n s (t.setMgt v) := by
  refine h.trans ?_
  constructor <;> first | (intro hb; rfl) | (intro hb; rw [b] at hb; cases hb) | exact Nat.le_refl _ | skip
  intro i
  exact ⟨i.1, by rw [State.setMgt_mgt, h1]; exact i.2.1, by rw [State.setMgt_mgt, h2]; exact i.2.2.1,
    by rw [State.setMgt_mgt, h3]; exact i.2.2.2.1, i.2.2.2.2⟩

/-- A change of `mgt` under which the queues stay within their depths. -/
theorem Touch.setMgt_le {n : Nat} {s t : State} {v} (b : n.testBit 32 = true)
    (hv : Inv t → v.hwq.length ≤ 1024 ∧ v.log.length ≤ 8192 ∧ v.evq.length ≤ 256) (h : Touch n s t) : Touch n s (t.setMgt v) := by
  refine h.trans ?_
  constructor <;> first | (intro hb; rfl) | (intro hb; rw [b] at hb; cases hb) | exact Nat.le_refl _ | skip
  exact fun i => ⟨i.1, (hv i).1, (hv i).2.1, (hv i).2.2, i.2.2.2.2⟩

/-- A change of `flash` that keeps the journal and its numbers. -/
theorem Touch.setFlash {n : Nat} {s t : State} {v} (b : n.testBit 33 = true) (h1 : v.journal = t.flash.journal)
    (h2 : v.journalNo = t.flash.journalNo) (h3 : v.evSeq = t.flash.evSeq) (h : Touch n s t) : Touch n s (t.setFlash v) := by
  refine h.trans ?_
  constructor <;> first | (intro hb; rfl) | (intro hb; rw [b] at hb; cases hb) | skip
  · exact fun i => ⟨i.1, i.2.1, i.2.2.1, i.2.2.2.1, by rw [State.setFlash_flash, h1]; exact i.2.2.2.2⟩
  · exact Nat.le_of_eq h3.symm
  · exact Nat.le_of_eq h2.symm

/-- A change of `flash` under which the journal stays within its depth and no number goes back. -/
theorem Touch.setFlash_le {n : Nat} {s t : State} {v} (b : n.testBit 33 = true)
    (h1 : t.flash.journal.length ≤ 32768 → v.journal.length ≤ 32768) (h2 : t.flash.journalNo ≤ v.journalNo)
    (h3 : t.flash.evSeq ≤ v.evSeq) (h : Touch n s t) : Touch n s (t.setFlash v) := by
  refine h.trans ?_
  constructor <;> first | (intro hb; rfl) | (intro hb; rw [b] at hb; cases hb) | skip
  · exact fun i => ⟨i.1, i.2.1, i.2.2.1, i.2.2.2.1, h1 i.2.2.2.2⟩
  · exact h3
  · exact h2

end Sys2Proof.Machine
end

