-- ==== Sys2Proof/Laws/TouchBase.lean ====
section
/-! SUPPORT. What each operation and command may touch (see Laws/Touch.lean): the state, power and domain operations. -/

set_option maxRecDepth 4000

namespace Sys2Proof.Machine

open Sys2Proof

/-! ### Flags -/

theorem foldWhere_length (p : Ev → Bool) (l q : List Ev) (h : foldWhere p l = some q) : q.length = l.length := by
  induction l generalizing q with
  | nil => simp [foldWhere] at h
  | cons e es ih =>
    simp only [foldWhere] at h
    split at h
    · cases h; rfl
    · obtain ⟨r, hr, rfl⟩ := Option.map_eq_some_iff.1 h
      simp [ih r hr]

theorem logEv_touch (p : Ev → Bool) (code : Nat) (realm : Byte) (job : W16) (unit : W64) (data : List W64) (s : State) :
    Touch 0x100030000 s (logEv p code realm job unit data s) := by
  unfold logEv
  dsimp only
  have key : Touch 0x100030000 s (s.setMgt (match foldWhere p s.mgt.hwq with
      | some q => { s.mgt with hwq := q }
      | none => match foldWhere p s.mgt.log with
        | some l => { s.mgt with log := l }
        | none => if s.mgt.hwq.length < 1024 then { s.mgt with hwq := s.mgt.hwq ++ [{
            code := BitVec.ofNat 16 code, realm, job, count := 1, seqNo := 0, rt := rtNow s, unit, data := data.take 12 }] }
          else { s.mgt with lost := s.mgt.lost + 1 })) := by
    refine Touch.setMgt_le (by decide) (fun i => ?_) (Touch.refl _ _)
    obtain ⟨-, h1, h2, h3, -⟩ := i
    split
    · rename_i q hq
      exact ⟨(foldWhere_length p _ _ hq) ▸ h1, h2, h3⟩
    · split
      · rename_i l hl
        exact ⟨h1, (foldWhere_length p _ _ hl) ▸ h2, h3⟩
      · split
        · exact ⟨by simp; omega, h2, h3⟩
        · exact ⟨h1, h2, h3⟩
  split
  · exact key
  · exact Touch.setJobB (by decide) (Touch.setJobA (by decide) key)

theorem logFold_touch (fold : Nat) (code : Nat) (realm : Byte) (job : W16) (unit : W64) (data : List W64) (s : State) :
    Touch 0x100030000 s (logFold fold code realm job unit data s) := by
  unfold logFold
  repeat' (first
    | with_reducible exact Touch.refl _ _ | ((with_reducible apply Touch.via (logEv_touch _ _ _ _ _ _ _)); decide))

theorem logMod_touch (code : Nat) (unit : W64) (data : List W64) (s : State) :
    Touch 0x100030000 s (logMod code unit data s) := by
  unfold logMod
  repeat' (first
    | with_reducible exact Touch.refl _ _ | ((with_reducible apply Touch.via (logFold_touch _ _ _ _ _ _ _)); decide))

theorem logJob_touch (code : Nat) (j : Job) (unit : W64) (data : List W64) (s : State) :
    Touch 0x100030000 s (logJob code j unit data s) := by
  unfold logJob
  repeat' (first
    | with_reducible exact Touch.refl _ _ | ((with_reducible apply Touch.via (logFold_touch _ _ _ _ _ _ _)); decide))

/-! ### Topology -/

theorem setDom_touch (s : State) (n : Nat) (d : Dom) :
    Touch 0x8 s (setDom s n d) := by
  unfold setDom
  repeat' (first | with_reducible exact Touch.refl _ _ | ((with_reducible apply Touch.setDoms); decide))

theorem setBlk_touch (s : State) (b : Nat) (x : Blk) :
    Touch 0x800 s (setBlk s b x) := by
  unfold setBlk
  repeat' (first | with_reducible exact Touch.refl _ _ | ((with_reducible apply Touch.setBlks); decide))

theorem setRwbOf_touch (s : State) (b c : Nat) (x : Rwb) :
    Touch 0x1000 s (setRwbOf s b c x) := by
  unfold setRwbOf
  repeat' (first | with_reducible exact Touch.refl _ _ | ((with_reducible apply Touch.setRwb); decide))

theorem setRealm_touch (s : State) (r : Nat) (x : Realm) :
    Touch 0x40000000 s (setRealm s r x) := by
  unfold setRealm
  repeat' (first | with_reducible exact Touch.refl _ _ | ((with_reducible apply Touch.setSec); decide) | split)

/-! ### Contexts -/

theorem setCore_touch (s : State) (d c k : Nat) (x : Core) :
    Touch 0x400000 s (setCore s d c k x) := by
  unfold setCore
  repeat' (first | with_reducible exact Touch.refl _ _ | ((with_reducible apply Touch.setCmp); decide))

theorem setCcc_touch (s : State) (d c slot : Nat) (x : Ccc) :
    Touch 0x400000 s (setCcc s d c slot x) := by
  unfold setCcc
  repeat' (first | with_reducible exact Touch.refl _ _ | ((with_reducible apply Touch.setCmp); decide))

theorem setVe_touch (s : State) (d c slot : Nat) (x : Ve) :
    Touch 0x400000 s (setVe s d c slot x) := by
  unfold setVe
  repeat' (first | with_reducible exact Touch.refl _ _ | ((with_reducible apply Touch.setCmp); decide))

theorem setDma_touch (s : State) (d c slot : Nat) (x : Dma) :
    Touch 0x400000 s (setDma s d c slot x) := by
  unfold setDma
  repeat' (first | with_reducible exact Touch.refl _ _ | ((with_reducible apply Touch.setCmp); decide))

theorem dropPending_touch (d c slot : Nat) (s : State) :
    Touch 0x400000 s (dropPending d c slot s) := by
  unfold dropPending
  repeat' (first
    | with_reducible exact Touch.refl _ _ | with_reducible refine Touch.foldl _ _ (fun _ _ => ?_) ?_
    | ((with_reducible apply Touch.via (setCore_touch _ _ _ _ _)); decide) | extract_lets | split)

theorem cccStop_touch (d c slot : Nat) (s : State) :
    Touch 0x400000 s (cccStop d c slot s) := by
  unfold cccStop
  repeat' (first
    | with_reducible exact Touch.refl _ _ | ((with_reducible apply Touch.via (dropPending_touch _ _ _ _)); decide)
    | ((with_reducible apply Touch.via (setCcc_touch _ _ _ _ _)); decide)
    | ((with_reducible apply Touch.via (setDma_touch _ _ _ _ _)); decide)
    | ((with_reducible apply Touch.via (setVe_touch _ _ _ _ _)); decide))

theorem stopSlot_touch (slot : Nat) (s : State) :
    Touch 0x80400000 s (stopSlot slot s) := by
  unfold stopSlot
  repeat' (first
    | with_reducible exact Touch.refl _ _ | ((with_reducible apply Touch.setCmp); decide)
    | ((with_reducible apply Touch.setRel); decide))

/-! ### Ops -/

theorem emit_touch (o : Out) (s : State) :
    Touch 0x1000000000 s (emit o s) := by
  unfold emit
  repeat' (first | with_reducible exact Touch.refl _ _ | ((with_reducible apply Touch.setOut); decide))

theorem fresh_touch (s : State) :
    Touch 0x800000000 s (fresh s).2 := by
  unfold fresh
  repeat' (first | with_reducible exact Touch.refl _ _ | ((with_reducible apply Touch.setFreeCtr); decide))

theorem setJobAt_touch (s : State) (slot : Nat) (j : Option Job) :
    Touch 0x30000 s (setJobAt s slot j) := by
  unfold setJobAt
  repeat' (first
    | with_reducible exact Touch.refl _ _ | ((with_reducible apply Touch.setJobA); decide)
    | ((with_reducible apply Touch.setJobB); decide) | split)

theorem setBind_touch (s : State) (slot : Nat) (r : Option Nat) :
    Touch 0x40000000 s (setBind s slot r) := by
  unfold setBind
  repeat' (first | with_reducible exact Touch.refl _ _ | ((with_reducible apply Touch.setSec); decide) | split)

theorem journalAdd_touch (mk : W64 → Journal) (s : State) : Touch 0x200000000 s (journalAdd mk s) := by
  unfold journalAdd
  exact Touch.setFlash_le (by decide) (fun _ => by simp <;> omega) (Nat.le_succ _) (Nat.le_refl _) (Touch.refl _ _)

theorem stashDrop_touch (d : Nat) (p : Nat → Nat → Bool) (s : State) :
    Touch 0x1800000 s (stashDrop d p s) := by
  unfold stashDrop
  repeat' (first
    | with_reducible exact Touch.refl _ _ | with_reducible refine Touch.foldl _ _ (fun _ _ => ?_) ?_
    | ((with_reducible refine Touch.setMem (by decide) ?_ ?_); · intro hw; rw [mem_wf_iff] at hw ⊢; obtain ⟨h1, h2, h3, h4, h5, h6, h7⟩ := hw; refine ⟨?_, ?_, ?_, ?_, ?_, ?_, ?_⟩ <;> repeat' (first | assumption | with_reducible apply tok_tset | with_reducible apply tok_tmod | with_reducible apply tok_tclear | with_reducible apply tok_tsetRun | with_reducible apply tok_filter | with_reducible apply tok_tmove | with_reducible apply tok_tmap | with_reducible apply tok_tdrop | with_reducible apply tok_drops | with_reducible refine tok_foldl _ _ (fun _ _ _ => ?_) _ _ ?_ | split))
    | ((with_reducible apply Touch.setSrm); decide) | split)

theorem stashRelease_touch (slot : Nat) (s : State) :
    Touch 0x1800000 s (stashRelease slot s) := by
  unfold stashRelease
  repeat' (first
    | with_reducible exact Touch.refl _ _ | with_reducible refine Touch.foldl _ _ (fun _ _ => ?_) ?_
    | ((with_reducible apply Touch.via (stashDrop_touch _ _ _)); decide)
    | ((with_reducible apply Touch.setSrm); decide))

theorem pendDiscard_touch (slot : Nat) (s : State) :
    Touch 0x80000 s (pendDiscard slot s) := by
  unfold pendDiscard
  repeat' (first | with_reducible exact Touch.refl _ _ | ((with_reducible apply Touch.setDsc); decide))

theorem addCapture_touch (slot : Nat) (up : Bool) (s : State) :
    Touch 0x30000 s (addCapture slot up s) := by
  unfold addCapture
  repeat' (first
    | with_reducible exact Touch.refl _ _ | ((with_reducible apply Touch.via (setJobAt_touch _ _ _)); decide)
    | split)

theorem pushLost_touch (s : State) (y : ColRun) :
    Touch 0x100030000 s (pushLost s y) := by
  unfold pushLost
  repeat' (first
    | with_reducible exact Touch.refl _ _ | (with_reducible assumption)
    | with_reducible refine Touch.foldl _ _ (fun _ _ => ?_) ?_
    | with_reducible refine Touch.foldl_pair _ _ _ (fun _ _ => ?_) ?_
    | with_reducible refine Touch.foldl_fst _ _ _ (fun _ _ => ?_) ?_
    | with_reducible refine Touch.foldl_trip _ _ _ (fun _ _ => ?_) ?_
    | with_reducible refine Touch.foldl_mid _ _ _ (fun _ _ => ?_) ?_
    | ((with_reducible apply Touch.via (addCapture_touch _ _ _)); decide)
    | ((with_reducible apply Touch.via (logJob_touch _ _ _ _ _)); decide) | extract_lets | split
    | with_reducible refine Touch.of_snd (by assumption) ?_ | with_reducible refine Touch.of_fst (by assumption) ?_
    | with_reducible refine Touch.of_snd₃ (by assumption) ?_ | dsimp only | dsimp -zeta +zetaDelta only)

theorem dropCol_touch (slot : Nat) (s0 : State) :
    Touch 0x120030000 s0 (dropCol slot s0) := by
  unfold dropCol
  repeat' (first
    | with_reducible exact Touch.refl _ _ | (with_reducible assumption)
    | with_reducible refine Touch.foldl _ _ (fun _ _ => ?_) ?_
    | with_reducible refine Touch.foldl_pair _ _ _ (fun _ _ => ?_) ?_
    | with_reducible refine Touch.foldl_fst _ _ _ (fun _ _ => ?_) ?_
    | with_reducible refine Touch.foldl_trip _ _ _ (fun _ _ => ?_) ?_
    | with_reducible refine Touch.foldl_mid _ _ _ (fun _ _ => ?_) ?_
    | ((with_reducible apply Touch.via (pushLost_touch _ _)); decide)
    | ((with_reducible apply Touch.via (setJobAt_touch _ _ _)); decide)
    | ((with_reducible apply Touch.setFab); decide) | extract_lets | split
    | with_reducible refine Touch.of_snd (by assumption) ?_ | with_reducible refine Touch.of_fst (by assumption) ?_
    | with_reducible refine Touch.of_snd₃ (by assumption) ?_ | dsimp only | dsimp -zeta +zetaDelta only)

theorem freeRegion_touch (r : Region) (s : State) :
    Touch 0x800000 s (freeRegion r s) := by
  unfold freeRegion
  repeat' (first
    | with_reducible exact Touch.refl _ _
    | ((with_reducible refine Touch.setMem (by decide) ?_ ?_); · intro hw; rw [mem_wf_iff] at hw ⊢; obtain ⟨h1, h2, h3, h4, h5, h6, h7⟩ := hw; refine ⟨?_, ?_, ?_, ?_, ?_, ?_, ?_⟩ <;> repeat' (first | assumption | with_reducible apply tok_tset | with_reducible apply tok_tmod | with_reducible apply tok_tclear | with_reducible apply tok_tsetRun | with_reducible apply tok_filter | with_reducible apply tok_tmove | with_reducible apply tok_tmap | with_reducible apply tok_tdrop | with_reducible apply tok_drops | with_reducible refine tok_foldl _ _ (fun _ _ _ => ?_) _ _ ?_ | split)))

theorem withdrawJob_touch (slot : Nat) (s : State) :
    Touch 0x3b3cb0000 s (withdrawJob slot s) := by
  unfold withdrawJob
  repeat' (first
    | with_reducible exact Touch.refl _ _ | ((with_reducible apply Touch.via (dropCol_touch _ _)); decide)
    | ((with_reducible apply Touch.via (freeRegion_touch _ _)); decide)
    | ((with_reducible apply Touch.via (idle_touch _)); decide)
    | ((with_reducible apply Touch.via (pendDiscard_touch _ _)); decide)
    | ((with_reducible apply Touch.via (setJobAt_touch _ _ _)); decide)
    | ((with_reducible apply Touch.via (stashRelease_touch _ _)); decide)
    | ((with_reducible apply Touch.via (stopSlot_touch _ _)); decide)
    | ((with_reducible apply Touch.setCmp); decide) | ((with_reducible apply Touch.setDsc); decide)
    | ((with_reducible apply Touch.setRtb); decide) | split)

theorem setFn_touch (s : State) (p : Nat) (f : Fn) :
    Touch 0x6000 s (setFn s p f) := by
  unfold setFn
  repeat' (first
    | with_reducible exact Touch.refl _ _ | ((with_reducible apply Touch.setFn0); decide)
    | ((with_reducible apply Touch.setFn1); decide) | split)

theorem setRing_touch (s : State) (p r : Nat) (x : Ring) :
    Touch 0x6000 s (setRing s p r x) := by
  unfold setRing
  repeat' (first
    | with_reducible exact Touch.refl _ _ | ((with_reducible apply Touch.via (setFn_touch _ _ _)); decide))

theorem msix_touch (p v : Nat) (s : State) :
    Touch 0x1000006000 s (msix p v s) := by
  unfold msix
  repeat' (first
    | with_reducible exact Touch.refl _ _ | ((with_reducible apply Touch.via (emit_touch _ _)); decide)
    | ((with_reducible apply Touch.via (setFn_touch _ _ _)); decide) | extract_lets | split)

theorem writeCompletion_touch (p r : Nat) (e : InFlight) (res : Result) (s : State) :
    Touch 0x1000006000 s (writeCompletion p r e res s) := by
  unfold writeCompletion
  repeat' (first
    | with_reducible exact Touch.refl _ _ | ((with_reducible apply Touch.via (emit_touch _ _)); decide)
    | ((with_reducible apply Touch.via (msix_touch _ _ _)); decide)
    | ((with_reducible apply Touch.via (setRing_touch _ _ _ _)); decide) | extract_lets | split)

theorem logDropped_touch (e : InFlight) (res : Result) (s : State) :
    Touch 0x100030000 s (logDropped e res s) := by
  unfold logDropped
  repeat' (first
    | with_reducible exact Touch.refl _ _ | ((with_reducible apply Touch.via (logMod_touch _ _ _ _)); decide))

theorem endCmd_touch (p r : Nat) (e : InFlight) (res : Result) (s : State) :
    Touch 0x1100036000 s (endCmd p r e res s) := by
  unfold endCmd
  repeat' (first
    | with_reducible exact Touch.refl _ _ | ((with_reducible apply Touch.via (logDropped_touch _ _ _)); decide)
    | ((with_reducible apply Touch.via (setRing_touch _ _ _ _)); decide)
    | ((with_reducible apply Touch.via (writeCompletion_touch _ _ _ _ _)); decide) | split)

theorem finishCmd_touch (p r no : Nat) (res : Result) (deferred : Bool) (s : State) :
    Touch 0x6000 s (finishCmd p r no res deferred s) := by
  unfold finishCmd
  repeat' (first
    | with_reducible exact Touch.refl _ _ | ((with_reducible apply Touch.via (setRing_touch _ _ _ _)); decide))

theorem ringOff_touch (p r : Nat) (s : State) :
    Touch 0x6000 s (ringOff p r s) := by
  unfold ringOff
  repeat' (first
    | with_reducible exact Touch.refl _ _ | ((with_reducible apply Touch.via (setRing_touch _ _ _ _)); decide))

theorem ringsOff_touch (p : Nat) (s : State) :
    Touch 0x6000 s (ringsOff p s) := by
  unfold ringsOff
  repeat' (first
    | with_reducible exact Touch.refl _ _ | with_reducible refine Touch.foldl _ _ (fun _ _ => ?_) ?_
    | ((with_reducible apply Touch.via (ringOff_touch _ _ _)); decide))

theorem ringFault_touch (p r : Nat) (cause : List W64) (s : State) :
    Touch 0x100036000 s (ringFault p r cause s) := by
  unfold ringFault
  repeat' (first
    | with_reducible exact Touch.refl _ _ | ((with_reducible apply Touch.via (logMod_touch _ _ _ _)); decide)
    | ((with_reducible apply Touch.via (setRing_touch _ _ _ _)); decide))

theorem startWinter_touch (r : Nat) (s : State) :
    Touch 0x40000000 s (startWinter r s) := by
  unfold startWinter
  repeat' (first
    | with_reducible exact Touch.refl _ _ | ((with_reducible apply Touch.via (setRealm_touch _ _ _)); decide))

theorem runDeferred_touch (slot : Nat) (inSol : Bool) (s : State) (d : Deferred) :
    Touch 0x3b3cb6000 s (runDeferred slot inSol s d) := by
  unfold runDeferred
  repeat' (first
    | with_reducible exact Touch.refl _ _ | ((with_reducible apply Touch.via (finishCmd_touch _ _ _ _ _ _)); decide)
    | ((with_reducible apply Touch.via (setJobAt_touch _ _ _)); decide)
    | ((with_reducible apply Touch.via (withdrawJob_touch _ _)); decide) | split)

theorem finishDeferred_touch (slot : Nat) (inSol : Bool) (s : State) :
    Touch 0x3b3cb6000 s (finishDeferred slot inSol s) := by
  unfold finishDeferred
  repeat' (first
    | with_reducible exact Touch.refl _ _ | with_reducible refine Touch.foldl _ _ (fun _ _ => ?_) ?_
    | ((with_reducible apply Touch.via (runDeferred_touch _ _ _ _)); decide)
    | ((with_reducible apply Touch.via (setJobAt_touch _ _ _)); decide) | split)

theorem noteStepEnd_touch (s : State) :
    Touch 0x100000000 s (noteStepEnd s) := by
  unfold noteStepEnd
  repeat' (first
    | with_reducible exact Touch.refl _ _
    | ((with_reducible refine Touch.setMgt (by decide) ?_ ?_ ?_ ?_); exact rfl; exact rfl; exact rfl))

theorem incompleteSolstice_touch (slot : Nat) (s : State) :
    Touch 0x3b3cb6000 s (incompleteSolstice slot s) := by
  unfold incompleteSolstice
  repeat' (first
    | with_reducible exact Touch.refl _ _ | ((with_reducible apply Touch.via (dropCol_touch _ _)); decide)
    | ((with_reducible apply Touch.via (finishDeferred_touch _ _ _)); decide)
    | ((with_reducible apply Touch.via (journalAdd_touch _ _)); decide)
    | ((with_reducible apply Touch.via (logJob_touch _ _ _ _ _)); decide)
    | ((with_reducible apply Touch.via (noteStepEnd_touch _)); decide)
    | ((with_reducible apply Touch.via (pendDiscard_touch _ _)); decide)
    | ((with_reducible apply Touch.via (setJobAt_touch _ _ _)); decide)
    | ((with_reducible apply Touch.via (stashRelease_touch _ _)); decide)
    | ((with_reducible apply Touch.via (stopSlot_touch _ _)); decide)
    | ((with_reducible apply Touch.via (withdrawJob_touch _ _)); decide) | split)

theorem abortWith_touch (plain : Bool) (slot : Nat) (s : State) :
    Touch 0x3b3cb6000 s (abortWith plain slot s) := by
  unfold abortWith
  repeat' (first
    | with_reducible exact Touch.refl _ _ | (with_reducible assumption)
    | with_reducible refine Touch.foldl _ _ (fun _ _ => ?_) ?_
    | with_reducible refine Touch.foldl_pair _ _ _ (fun _ _ => ?_) ?_
    | with_reducible refine Touch.foldl_fst _ _ _ (fun _ _ => ?_) ?_
    | with_reducible refine Touch.foldl_trip _ _ _ (fun _ _ => ?_) ?_
    | with_reducible refine Touch.foldl_mid _ _ _ (fun _ _ => ?_) ?_
    | ((with_reducible apply Touch.via (dropCol_touch _ _)); decide)
    | ((with_reducible apply Touch.via (incompleteSolstice_touch _ _)); decide)
    | ((with_reducible apply Touch.via (noteStepEnd_touch _)); decide)
    | ((with_reducible apply Touch.via (pendDiscard_touch _ _)); decide)
    | ((with_reducible apply Touch.via (setJobAt_touch _ _ _)); decide)
    | ((with_reducible apply Touch.via (stashRelease_touch _ _)); decide) | extract_lets | split
    | with_reducible refine Touch.of_snd (by assumption) ?_ | with_reducible refine Touch.of_fst (by assumption) ?_
    | with_reducible refine Touch.of_snd₃ (by assumption) ?_ | dsimp only | dsimp -zeta +zetaDelta only)

theorem abortStep_touch (slot : Nat) (s : State) :
    Touch 0x3b3cb6000 s (abortStep slot s) := by
  unfold abortStep
  repeat' (first
    | with_reducible exact Touch.refl _ _ | ((with_reducible apply Touch.via (abortWith_touch _ _ _)); decide)
    | split)

theorem abortPlain_touch (slot : Nat) (s : State) :
    Touch 0x3b3cb6000 s (abortPlain slot s) := by
  unfold abortPlain
  repeat' (first
    | with_reducible exact Touch.refl _ _ | (with_reducible assumption)
    | with_reducible refine Touch.foldl _ _ (fun _ _ => ?_) ?_
    | with_reducible refine Touch.foldl_pair _ _ _ (fun _ _ => ?_) ?_
    | with_reducible refine Touch.foldl_fst _ _ _ (fun _ _ => ?_) ?_
    | with_reducible refine Touch.foldl_trip _ _ _ (fun _ _ => ?_) ?_
    | with_reducible refine Touch.foldl_mid _ _ _ (fun _ _ => ?_) ?_
    | ((with_reducible apply Touch.via (abortWith_touch _ _ _)); decide) | extract_lets | split
    | with_reducible refine Touch.of_snd (by assumption) ?_ | with_reducible refine Touch.of_fst (by assumption) ?_
    | with_reducible refine Touch.of_snd₃ (by assumption) ?_ | dsimp only | dsimp -zeta +zetaDelta only)

theorem abortWhere_touch (p : Job → Bool) (s : State) :
    Touch 0x3b3cb6000 s (abortWhere p s) := by
  unfold abortWhere
  repeat' (first
    | with_reducible exact Touch.refl _ _ | ((with_reducible apply Touch.via (abortStep_touch _ _)); decide)
    | extract_lets | split | dsimp -zeta +zetaDelta only)

theorem noteAborts_touch (code : W16) (s t : State) :
    Touch 0x30000 t (noteAborts code s t) := by
  unfold noteAborts
  repeat' (first
    | with_reducible exact Touch.refl _ _ | ((with_reducible apply Touch.setJobA); decide)
    | ((with_reducible apply Touch.setJobB); decide))

theorem abortDoms_touch (ns : List Nat) (s : State) :
    Touch 0x3b3cb6000 s (abortDoms ns s) := by
  unfold abortDoms
  repeat' (first
    | with_reducible exact Touch.refl _ _ | ((with_reducible apply Touch.via (abortWhere_touch _ _)); decide))

theorem abortDie_touch (d : Nat) (s : State) :
    Touch 0x3b3cb6000 s (abortDie d s) := by
  unfold abortDie
  repeat' (first
    | with_reducible exact Touch.refl _ _ | ((with_reducible apply Touch.via (abortWhere_touch _ _)); decide))

theorem setRtb_touch (s : State) (x : Rtb) :
    Touch 0x10000000 s (setRtb s x) := by
  unfold setRtb
  repeat' (first | with_reducible exact Touch.refl _ _ | ((with_reducible apply Touch.setRtb); decide))

theorem rtbLoss_touch (cause : Nat) (s : State) :
    Touch 0x110030000 s (rtbLoss cause s) := by
  unfold rtbLoss
  repeat' (first
    | with_reducible exact Touch.refl _ _ | ((with_reducible apply Touch.via (logMod_touch _ _ _ _)); decide)
    | ((with_reducible apply Touch.via (setRtb_touch _ _)); decide))

theorem setTimePort_touch (s : State) (i : Nat) (x : TimePort) :
    Touch 0x10000000 s (setTimePort s i x) := by
  unfold setTimePort
  repeat' (first
    | with_reducible exact Touch.refl _ _ | ((with_reducible apply Touch.via (setRtb_touch _ _)); decide) | split)

theorem retime_touch (s : State) :
    Touch 0x110030000 s (retime s) := by
  unfold retime
  repeat' (first
    | with_reducible exact Touch.refl _ _ | ((with_reducible apply Touch.via (rtbLoss_touch _ _)); decide)
    | ((with_reducible apply Touch.via (setRtb_touch _ _)); decide) | extract_lets | split)

theorem portForget_touch (l : Nat) (s : State) :
    Touch 0x130030000 s (portForget l s) := by
  unfold portForget
  repeat' (first
    | with_reducible exact Touch.refl _ _ | ((with_reducible apply Touch.via (retime_touch _)); decide)
    | ((with_reducible apply Touch.via (setTimePort_touch _ _ _)); decide)
    | ((with_reducible apply Touch.setFab); decide) | split | dsimp only)

theorem portDown_touch (l cause : Nat) (s : State) :
    Touch 0x1bbfcb6000 s (portDown l cause s) := by
  unfold portDown
  repeat' (first
    | with_reducible exact Touch.refl _ _ | ((with_reducible apply Touch.via (logMod_touch _ _ _ _)); decide)
    | ((with_reducible apply Touch.via (portForget_touch _ _)); decide)
    | ((with_reducible apply Touch.setLinks); decide) | extract_lets | split)

theorem fillCheck_touch (owner : Nat) (s : State) :
    Touch 0x100030000 s (fillCheck owner s) := by
  unfold fillCheck
  repeat' (first
    | with_reducible exact Touch.refl _ _ | ((with_reducible apply Touch.via (logJob_touch _ _ _ _ _)); decide)
    | ((with_reducible apply Touch.via (setJobAt_touch _ _ _)); decide) | extract_lets | split)

theorem cccReport_touch (d c slot : Nat) (st : InstSt) (s : State) :
    Touch 0x100430000 s (cccReport d c slot st s) := by
  unfold cccReport
  repeat' (first
    | with_reducible exact Touch.refl _ _ | ((with_reducible apply Touch.via (fillCheck_touch _ _)); decide)
    | ((with_reducible apply Touch.via (setCcc_touch _ _ _ _ _)); decide)
    | ((with_reducible apply Touch.via (setJobAt_touch _ _ _)); decide) | extract_lets | split)

/-! ### Domains -/

theorem sramLost_touch (d : Nat) (s : State) :
    Touch 0x1800000 s (sramLost d s) := by
  unfold sramLost
  repeat' (first
    | with_reducible exact Touch.refl _ _
    | ((with_reducible refine Touch.setMem (by decide) ?_ ?_); · intro hw; rw [mem_wf_iff] at hw ⊢; obtain ⟨h1, h2, h3, h4, h5, h6, h7⟩ := hw; refine ⟨?_, ?_, ?_, ?_, ?_, ?_, ?_⟩ <;> repeat' (first | assumption | with_reducible apply tok_tset | with_reducible apply tok_tmod | with_reducible apply tok_tclear | with_reducible apply tok_tsetRun | with_reducible apply tok_filter | with_reducible apply tok_tmove | with_reducible apply tok_tmap | with_reducible apply tok_tdrop | with_reducible apply tok_drops | with_reducible refine tok_foldl _ _ (fun _ _ _ => ?_) _ _ ?_ | split))
    | ((with_reducible apply Touch.setSrm); decide))

theorem lpxLost_touch (d : Nat) (s : State) :
    Touch 0x800000 s (lpxLost d s) := by
  unfold lpxLost
  repeat' (first
    | with_reducible exact Touch.refl _ _
    | ((with_reducible refine Touch.setMem (by decide) ?_ ?_); · intro hw; rw [mem_wf_iff] at hw ⊢; obtain ⟨h1, h2, h3, h4, h5, h6, h7⟩ := hw; refine ⟨?_, ?_, ?_, ?_, ?_, ?_, ?_⟩ <;> repeat' (first | assumption | with_reducible apply tok_tset | with_reducible apply tok_tmod | with_reducible apply tok_tclear | with_reducible apply tok_tsetRun | with_reducible apply tok_filter | with_reducible apply tok_tmove | with_reducible apply tok_tmap | with_reducible apply tok_tdrop | with_reducible apply tok_drops | with_reducible refine tok_foldl _ _ (fun _ _ _ => ?_) _ _ ?_ | split)))

theorem quadReset_touch (d q : Nat) (s0 : State) :
    Touch 0x180630000 s0 (quadReset d q s0) := by
  unfold quadReset
  repeat' (first
    | with_reducible exact Touch.refl _ _ | (with_reducible assumption)
    | with_reducible refine Touch.foldl _ _ (fun _ _ => ?_) ?_
    | with_reducible refine Touch.foldl_pair _ _ _ (fun _ _ => ?_) ?_
    | with_reducible refine Touch.foldl_fst _ _ _ (fun _ _ => ?_) ?_
    | with_reducible refine Touch.foldl_trip _ _ _ (fun _ _ => ?_) ?_
    | with_reducible refine Touch.foldl_mid _ _ _ (fun _ _ => ?_) ?_
    | ((with_reducible apply Touch.via (cccReport_touch _ _ _ _ _)); decide)
    | ((with_reducible apply Touch.setCmp); decide) | ((with_reducible apply Touch.setPrg); decide)
    | ((with_reducible apply Touch.setRel); decide) | extract_lets | split
    | with_reducible refine Touch.of_snd (by assumption) ?_ | with_reducible refine Touch.of_fst (by assumption) ?_
    | with_reducible refine Touch.of_snd₃ (by assumption) ?_ | dsimp only | dsimp -zeta +zetaDelta only)

theorem quadRetired_touch (d q : Nat) (s : State) :
    Touch 0x400000 s (quadRetired d q s) := by
  unfold quadRetired
  repeat' (first
    | with_reducible exact Touch.refl _ _ | with_reducible refine Touch.foldl _ _ (fun _ _ => ?_) ?_
    | ((with_reducible apply Touch.setCmp); decide) | extract_lets | split)

theorem blocksReset_touch (n : Nat) (s : State) :
    Touch 0x1800 s (blocksReset n s) := by
  unfold blocksReset
  repeat' (first
    | with_reducible exact Touch.refl _ _ | ((with_reducible apply Touch.setBlks); decide)
    | ((with_reducible apply Touch.setRwb); decide))

theorem fnReset_touch (p : Nat) (s : State) :
    Touch 0x1100006000 s (fnReset p s) := by
  unfold fnReset
  repeat' (first
    | with_reducible exact Touch.refl _ _ | ((with_reducible apply Touch.via (ringsOff_touch _ _)); decide)
    | ((with_reducible apply Touch.via (setFn_touch _ _ _)); decide)
    | ((with_reducible refine Touch.setMgt (by decide) ?_ ?_ ?_ ?_); exact rfl; exact rfl; exact rfl)
    | ((with_reducible refine Touch.setMgt_le (by decide) (fun i => ⟨?_, ?_, ?_⟩) ?_); (first | exact i.2.1 | exact Nat.zero_le _); (first | exact i.2.2.1 | exact Nat.zero_le _ | (simp only [List.length_take]; omega)); (first | exact i.2.2.2.1 | exact Nat.zero_le _ | (simp only [List.length_drop, List.length_append, List.length_cons, List.length_nil]; omega) | (have := i.2.2.2.1; simp only [List.length_drop]; omega) | (have := i.2.2.2.1; split <;> (try simp only [List.length_drop]) <;> omega))))

theorem fnDown_touch (p : Nat) (s : State) :
    Touch 0x1100006000 s (fnDown p s) := by
  unfold fnDown
  repeat' (first
    | with_reducible exact Touch.refl _ _ | (with_reducible assumption)
    | with_reducible refine Touch.foldl _ _ (fun _ _ => ?_) ?_
    | with_reducible refine Touch.foldl_pair _ _ _ (fun _ _ => ?_) ?_
    | with_reducible refine Touch.foldl_fst _ _ _ (fun _ _ => ?_) ?_
    | with_reducible refine Touch.foldl_trip _ _ _ (fun _ _ => ?_) ?_
    | with_reducible refine Touch.foldl_mid _ _ _ (fun _ _ => ?_) ?_
    | ((with_reducible apply Touch.via (fnReset_touch _ _)); decide)
    | ((with_reducible apply Touch.via (setFn_touch _ _ _)); decide) | extract_lets | split
    | with_reducible refine Touch.of_snd (by assumption) ?_ | with_reducible refine Touch.of_fst (by assumption) ?_
    | with_reducible refine Touch.of_snd₃ (by assumption) ?_ | dsimp only | dsimp -zeta +zetaDelta only)

theorem heatersOff_touch (d : Nat) (s : State) :
    Touch 0x4000000 s (heatersOff d s) := by
  unfold heatersOff
  repeat' (first
    | with_reducible exact Touch.refl _ _ | (with_reducible assumption)
    | with_reducible refine Touch.foldl _ _ (fun _ _ => ?_) ?_
    | with_reducible refine Touch.foldl_pair _ _ _ (fun _ _ => ?_) ?_
    | with_reducible refine Touch.foldl_fst _ _ _ (fun _ _ => ?_) ?_
    | with_reducible refine Touch.foldl_trip _ _ _ (fun _ _ => ?_) ?_
    | with_reducible refine Touch.foldl_mid _ _ _ (fun _ _ => ?_) ?_ | ((with_reducible apply Touch.setOpt); decide)
    | extract_lets | split | with_reducible refine Touch.of_snd (by assumption) ?_
    | with_reducible refine Touch.of_fst (by assumption) ?_ | with_reducible refine Touch.of_snd₃ (by assumption) ?_
    | dsimp only | dsimp -zeta +zetaDelta only)

theorem bankOff_touch (first : Nat) (s : State) :
    Touch 0x4000000 s (bankOff first s) := by
  unfold bankOff
  repeat' (first
    | with_reducible exact Touch.refl _ _ | (with_reducible assumption)
    | with_reducible refine Touch.foldl _ _ (fun _ _ => ?_) ?_
    | with_reducible refine Touch.foldl_pair _ _ _ (fun _ _ => ?_) ?_
    | with_reducible refine Touch.foldl_fst _ _ _ (fun _ _ => ?_) ?_
    | with_reducible refine Touch.foldl_trip _ _ _ (fun _ _ => ?_) ?_
    | with_reducible refine Touch.foldl_mid _ _ _ (fun _ _ => ?_) ?_ | ((with_reducible apply Touch.setOpt); decide)
    | extract_lets | split | with_reducible refine Touch.of_snd (by assumption) ?_
    | with_reducible refine Touch.of_fst (by assumption) ?_ | with_reducible refine Touch.of_snd₃ (by assumption) ?_
    | dsimp only | dsimp -zeta +zetaDelta only)

theorem domReset_touch (n : Nat) (s0 : State) :
    Touch 0x1bfffb7800 s0 (domReset n s0) := by
  unfold domReset
  repeat' (first
    | with_reducible exact Touch.refl _ _ | with_reducible refine Touch.foldl _ _ (fun _ _ => ?_) ?_
    | ((with_reducible apply Touch.via (bankOff_touch _ _)); decide)
    | ((with_reducible apply Touch.via (blocksReset_touch _ _)); decide)
    | ((with_reducible apply Touch.via (fnDown_touch _ _)); decide)
    | ((with_reducible apply Touch.via (heatersOff_touch _ _)); decide)
    | ((with_reducible apply Touch.via (lpxLost_touch _ _)); decide)
    | ((with_reducible apply Touch.via (portDown_touch _ _ _)); decide)
    | ((with_reducible apply Touch.via (quadReset_touch _ _ _)); decide)
    | ((with_reducible apply Touch.via (sramLost_touch _ _)); decide)
    | ((with_reducible apply Touch.setDsc); decide) | ((with_reducible apply Touch.setFab); decide)
    | ((with_reducible apply Touch.setLinks); decide)
    | ((with_reducible refine Touch.setMgt_le (by decide) (fun i => ⟨?_, ?_, ?_⟩) ?_); (first | exact i.2.1 | exact Nat.zero_le _); (first | exact i.2.2.1 | exact Nat.zero_le _ | (simp only [List.length_take]; omega)); (first | exact i.2.2.2.1 | exact Nat.zero_le _ | (simp only [List.length_drop, List.length_append, List.length_cons, List.length_nil]; omega) | (have := i.2.2.2.1; simp only [List.length_drop]; omega) | (have := i.2.2.2.1; split <;> (try simp only [List.length_drop]) <;> omega)))
    | ((with_reducible apply Touch.setOpt); decide) | ((with_reducible apply Touch.setPrg); decide)
    | ((with_reducible apply Touch.setRel); decide) | ((with_reducible apply Touch.setRtb); decide)
    | ((with_reducible apply Touch.setScb); decide) | ((with_reducible apply Touch.setSec); decide)
    | ((with_reducible apply Touch.setSrm); decide) | ((with_reducible apply Touch.setStk); decide) | split)

theorem domOff_touch (n : Nat) (s : State) :
    Touch 0x1bfffb7808 s (domOff n s) := by
  unfold domOff
  repeat' (first
    | with_reducible exact Touch.refl _ _ | ((with_reducible apply Touch.via (domReset_touch _ _)); decide)
    | ((with_reducible apply Touch.via (setDom_touch _ _ _)); decide))

theorem powerLost_touch (s : State) :
    Touch 0x5fffffffe s (powerLost s) := by
  constructor <;> first | (intro hb; rfl) | (intro hb; exact absurd hb (by decide)) | exact Nat.le_refl _ | skip
  exact fun i => ⟨reset_mem_wf, Nat.zero_le _, Nat.zero_le _, Nat.zero_le _, i.2.2.2.2⟩

theorem startSpring_touch (respring : Bool) (s : State) :
    Touch 0x5fffffffe s (startSpring respring s) := by
  unfold startSpring
  repeat' (first
    | with_reducible exact Touch.refl _ _ | ((with_reducible apply Touch.via (powerLost_touch _)); decide)
    | ((with_reducible apply Touch.setDoms); decide) | ((with_reducible apply Touch.setPhase); decide)
    | ((with_reducible apply Touch.setPseq); decide) | ((with_reducible apply Touch.setSpring); decide)
    | ((with_reducible apply Touch.setSup); decide))

theorem seqSkip_touch (up : Bool) (l : List Nat) (s : State) :
    Touch 0x1bfffb7808 s (seqSkip up l s).2 := by
  induction l generalizing s with
  | nil => exact Touch.refl _ _
  | cons n ns ih =>
    unfold seqSkip
    split
    · split
      · exact ih s
      · exact Touch.refl _ _
    · split
      · exact ih s
      · exact Touch.trans ((domOff_touch _ _).mono (by decide)) (ih _)
      · exact Touch.refl _ _

theorem seqKick_touch (up : Bool) (ns : List Nat) (s : State) :
    Touch 0x8 s (seqKick up ns s) := by
  unfold seqKick
  repeat' (first
    | with_reducible exact Touch.refl _ _ | ((with_reducible apply Touch.via (setDom_touch _ _ _)); decide) | split)

theorem seqGo_touch (up : Bool) (todo : List Nat) (why : SeqWhy) (s : State) :
    Touch 0x1bfffb7818 s (seqGo up todo why s) := by
  unfold seqGo
  repeat' (first
    | with_reducible exact Touch.refl _ _ | ((with_reducible apply Touch.via (seqKick_touch _ _ _)); decide)
    | ((with_reducible apply Touch.via (seqSkip_touch _ _ _)); decide)
    | ((with_reducible apply Touch.setPseq); decide))

theorem seqEnd_touch (q : PowerSeq) (s : State) :
    Touch 0x1ffffffffe s (seqEnd q s) := by
  unfold seqEnd
  repeat' (first
    | with_reducible exact Touch.refl _ _ | ((with_reducible apply Touch.via (finishCmd_touch _ _ _ _ _ _)); decide)
    | ((with_reducible apply Touch.via (powerLost_touch _)); decide)
    | ((with_reducible apply Touch.via (seqGo_touch _ _ _ _)); decide)
    | ((with_reducible apply Touch.via (startSpring_touch _ _)); decide)
    | ((with_reducible apply Touch.setPhase); decide) | extract_lets | split)

theorem pwaitGo_touch (l : List PowerSeq) (s : State) :
    Touch 0x1ffffffffe s (pwaitGo l s) := by
  induction l generalizing s with
  | nil => exact Touch.setPwait (by decide) (Touch.refl _ _)
  | cons q qs ih =>
    unfold pwaitGo
    split
    · exact Touch.setPwait (by decide) (Touch.refl _ _)
    · refine Touch.trans ?_ (ih _)
      split
      · exact Touch.trans ((seqGo_touch _ _ _ _).mono (by decide)) ((seqEnd_touch _ _).mono (by decide))
      · exact (seqGo_touch _ _ _ _).mono (by decide)

theorem seqRun_touch (q : PowerSeq) (todo : List Nat) (s : State) :
    Touch 0x1ffffffffe s (seqRun q todo s) := by
  unfold seqRun
  repeat' (first
    | with_reducible exact Touch.refl _ _ | ((with_reducible apply Touch.via (pwaitGo_touch _ _)); decide)
    | ((with_reducible apply Touch.via (seqEnd_touch _ _)); decide)
    | ((with_reducible apply Touch.via (seqGo_touch _ _ _ _)); decide) | extract_lets | split)

theorem springStop_touch (step cause : Nat) (s : State) :
    Touch 0x1bfffb785a s (springStop step cause s) := by
  unfold springStop
  repeat' (first
    | with_reducible exact Touch.refl _ _ | ((with_reducible apply Touch.via (journalAdd_touch _ _)); decide)
    | ((with_reducible apply Touch.via (seqGo_touch _ _ _ _)); decide)
    | ((with_reducible apply Touch.via (seqSkip_touch _ _ _)); decide)
    | ((with_reducible refine Touch.setFlash_le (by decide) ?_ ?_ ?_ ?_); exact (fun h => h); exact Nat.le_refl _; exact Nat.le_succ _)
    | ((with_reducible refine Touch.setMgt_le (by decide) (fun i => ⟨?_, ?_, ?_⟩) ?_); (first | exact i.2.1 | exact Nat.zero_le _); (first | exact i.2.2.1 | exact Nat.zero_le _ | (simp only [List.length_take]; omega)); (first | exact i.2.2.2.1 | exact Nat.zero_le _ | (simp only [List.length_drop, List.length_append, List.length_cons, List.length_nil]; omega) | (have := i.2.2.2.1; simp only [List.length_drop]; omega) | (have := i.2.2.2.1; split <;> (try simp only [List.length_drop]) <;> omega)))
    | ((with_reducible apply Touch.setPhase); decide) | ((with_reducible apply Touch.setPseq); decide)
    | ((with_reducible apply Touch.setSpring); decide) | extract_lets | split)

theorem domFault_touch (n cause : Nat) (s : State) :
    Touch 0x1ffffffffe s (domFault n cause s) := by
  unfold domFault
  repeat' (first
    | with_reducible exact Touch.refl _ _ | with_reducible refine Touch.foldl _ _ (fun _ _ => ?_) ?_
    | ((with_reducible apply Touch.via (abortDoms_touch _ _)); decide)
    | ((with_reducible apply Touch.via (domOff_touch _ _)); decide)
    | ((with_reducible apply Touch.via (domReset_touch _ _)); decide)
    | ((with_reducible apply Touch.via (logMod_touch _ _ _ _)); decide)
    | ((with_reducible apply Touch.via (noteAborts_touch _ _ _)); decide)
    | ((with_reducible apply Touch.via (seqRun_touch _ _ _)); decide)
    | ((with_reducible apply Touch.via (setDom_touch _ _ _)); decide)
    | ((with_reducible apply Touch.via (springStop_touch _ _ _)); decide)
    | ((with_reducible apply Touch.setPseq); decide) | extract_lets | split | dsimp -zeta +zetaDelta only)

/-! ### Power -/

theorem setPins_touch (s : State) (p : Pins) :
    Touch 0x4 s (setPins s p) := by
  unfold setPins
  repeat' (first | with_reducible exact Touch.refl _ _ | ((with_reducible apply Touch.setSup); decide))

theorem execPwrEnRise_touch (vin : Nat) (s : State) :
    TouchR 0x5fffffffe s (execPwrEnRise vin s) := by
  unfold execPwrEnRise
  repeat' (first
    | with_reducible exact Touch.refl _ _ | with_reducible refine TouchR.next ?_
    | ((with_reducible apply Touch.via (setPins_touch _ _)); decide)
    | ((with_reducible apply Touch.via (startSpring_touch _ _)); decide)
    | ((with_reducible apply Touch.setSup); decide) | split)

theorem execPwrEnFall_touch (s : State) :
    TouchR 0x5fffffffe s (execPwrEnFall s) := by
  unfold execPwrEnFall
  repeat' (first
    | with_reducible exact Touch.refl _ _ | with_reducible refine TouchR.next ?_
    | ((with_reducible apply Touch.via (powerLost_touch _)); decide)
    | ((with_reducible apply Touch.via (setPins_touch _ _)); decide) | ((with_reducible apply Touch.setSup); decide))

theorem execPwrEnHoldExpiry_touch (s : State) :
    TouchR 0x5fffffffe s (execPwrEnHoldExpiry s) := by
  unfold execPwrEnHoldExpiry
  repeat' (first
    | with_reducible exact Touch.refl _ _ | with_reducible refine TouchR.next ?_
    | ((with_reducible apply Touch.via (startSpring_touch _ _)); decide)
    | ((with_reducible apply Touch.setSup); decide) | split)

theorem execInputLockout_touch (vin : Nat) (s : State) :
    TouchR 0x5fffffffe s (execInputLockout vin s) := by
  unfold execInputLockout
  repeat' (first
    | with_reducible exact Touch.refl _ _ | with_reducible refine TouchR.next ?_
    | ((with_reducible apply Touch.via (powerLost_touch _)); decide)
    | ((with_reducible apply Touch.via (setPins_touch _ _)); decide) | split)

theorem execInputRelease_touch (vin : Nat) (s : State) :
    TouchR 0x5fffffffe s (execInputRelease vin s) := by
  unfold execInputRelease
  repeat' (first
    | with_reducible exact Touch.refl _ _ | with_reducible refine TouchR.next ?_
    | ((with_reducible apply Touch.via (setPins_touch _ _)); decide)
    | ((with_reducible apply Touch.via (startSpring_touch _ _)); decide)
    | ((with_reducible apply Touch.setSup); decide) | split)

theorem execWakeNAssert_touch (s : State) :
    TouchR 0x5fffffffe s (execWakeNAssert s) := by
  unfold execWakeNAssert
  repeat' (first
    | with_reducible exact Touch.refl _ _ | with_reducible refine TouchR.next ?_
    | ((with_reducible apply Touch.via (startSpring_touch _ _)); decide)
    | ((with_reducible apply Touch.setSup); decide) | split)

theorem setDieThm_touch (s : State) (d : Nat) (x : DieThermal) :
    Touch 0x400 s (setDieThm s d x) := by
  unfold setDieThm
  repeat' (first | with_reducible exact Touch.refl _ _ | ((with_reducible apply Touch.setThm); decide))

theorem execPowerSample_touch (watts milliamps : Nat) (s : State) :
    TouchR 0x200 s (execPowerSample watts milliamps s) := by
  unfold execPowerSample
  repeat' (first
    | with_reducible exact Touch.refl _ _ | with_reducible refine TouchR.next ?_
    | ((with_reducible apply Touch.setCap); decide) | split)

theorem capLoop_touch (s : State) :
    Touch 0x100030200 s (capLoop s) := by
  unfold capLoop
  repeat' (first
    | with_reducible exact Touch.refl _ _ | ((with_reducible apply Touch.via (logMod_touch _ _ _ _)); decide)
    | ((with_reducible apply Touch.setCap); decide) | extract_lets | split)

theorem execPowerCapLoopStep_touch (s : State) :
    TouchR 0x100030200 s (execPowerCapLoopStep s) := by
  unfold execPowerCapLoopStep
  repeat' (first
    | with_reducible exact Touch.refl _ _ | with_reducible refine TouchR.next ?_
    | ((with_reducible apply Touch.via (capLoop_touch _)); decide) | split)

theorem execPowerCapUnmetTimer_touch (s : State) :
    TouchR 0x100030200 s (execPowerCapUnmetTimer s) := by
  unfold execPowerCapUnmetTimer
  repeat' (first
    | with_reducible exact Touch.refl _ _ | with_reducible refine TouchR.next ?_
    | ((with_reducible apply Touch.via (logMod_touch _ _ _ _)); decide)
    | ((with_reducible apply Touch.setCap); decide) | extract_lets | split)

theorem execCurrentLimitRailOff_touch (s : State) :
    TouchR 0x1ffffffffe s (execCurrentLimitRailOff s) := by
  unfold execCurrentLimitRailOff
  repeat' (first
    | with_reducible exact Touch.refl _ _ | with_reducible refine Touch.foldl _ _ (fun _ _ => ?_) ?_
    | with_reducible refine TouchR.next ?_ | ((with_reducible apply Touch.via (domFault_touch _ _ _)); decide)
    | ((with_reducible apply Touch.setCap); decide) | split)

theorem noteHot_touch (s : State) :
    Touch 0x400 s (noteHot s) := by
  unfold noteHot
  repeat' (first
    | with_reducible exact Touch.refl _ _ | (with_reducible assumption)
    | with_reducible refine Touch.foldl _ _ (fun _ _ => ?_) ?_
    | with_reducible refine Touch.foldl_pair _ _ _ (fun _ _ => ?_) ?_
    | with_reducible refine Touch.foldl_fst _ _ _ (fun _ _ => ?_) ?_
    | with_reducible refine Touch.foldl_trip _ _ _ (fun _ _ => ?_) ?_
    | with_reducible refine Touch.foldl_mid _ _ _ (fun _ _ => ?_) ?_ | ((with_reducible apply Touch.setThm); decide)
    | extract_lets | split | with_reducible refine Touch.of_snd (by assumption) ?_
    | with_reducible refine Touch.of_fst (by assumption) ?_ | with_reducible refine Touch.of_snd₃ (by assumption) ?_
    | dsimp only | dsimp -zeta +zetaDelta only)

theorem noteHottest_touch (temp : Int) (s : State) :
    Touch 0x400 s (noteHottest temp s) := by
  unfold noteHottest
  repeat' (first
    | with_reducible exact Touch.refl _ _ | (with_reducible assumption)
    | with_reducible refine Touch.foldl _ _ (fun _ _ => ?_) ?_
    | with_reducible refine Touch.foldl_pair _ _ _ (fun _ _ => ?_) ?_
    | with_reducible refine Touch.foldl_fst _ _ _ (fun _ _ => ?_) ?_
    | with_reducible refine Touch.foldl_trip _ _ _ (fun _ _ => ?_) ?_
    | with_reducible refine Touch.foldl_mid _ _ _ (fun _ _ => ?_) ?_
    | ((with_reducible apply Touch.via (noteHot_touch _)); decide) | ((with_reducible apply Touch.setThm); decide)
    | extract_lets | split | with_reducible refine Touch.of_snd (by assumption) ?_
    | with_reducible refine Touch.of_fst (by assumption) ?_ | with_reducible refine Touch.of_snd₃ (by assumption) ?_
    | dsimp only | dsimp -zeta +zetaDelta only)

theorem execThermalPointReached_touch (d q : Nat) (temp : Int) (s : State) :
    TouchR 0x100030400 s (execThermalPointReached d q temp s) := by
  unfold execThermalPointReached
  repeat' (first
    | with_reducible exact Touch.refl _ _ | with_reducible refine TouchR.next ?_
    | ((with_reducible apply Touch.via (logMod_touch _ _ _ _)); decide)
    | ((with_reducible apply Touch.via (noteHot_touch _)); decide)
    | ((with_reducible apply Touch.via (setDieThm_touch _ _ _)); decide) | extract_lets | split)

theorem execThrottleStep_touch (d : Nat) (temps : List Int) (s : State) :
    TouchR 0x400 s (execThrottleStep d temps s) := by
  unfold execThrottleStep
  repeat' (first
    | with_reducible exact Touch.refl _ _ | with_reducible refine TouchR.next ?_
    | ((with_reducible apply Touch.via (noteHot_touch _)); decide)
    | ((with_reducible apply Touch.via (setDieThm_touch _ _ _)); decide) | extract_lets | split)

theorem execThrottleReleaseTimer_touch (d : Nat) (temps : List Int) (s : State) :
    TouchR 0x400 s (execThrottleReleaseTimer d temps s) := by
  unfold execThrottleReleaseTimer
  repeat' (first
    | with_reducible exact Touch.refl _ _ | with_reducible refine TouchR.next ?_
    | ((with_reducible apply Touch.via (noteHot_touch _)); decide)
    | ((with_reducible apply Touch.via (setDieThm_touch _ _ _)); decide) | extract_lets | split)

theorem execDroopDetect_touch (d q : Nat) (s : State) :
    TouchR 0x400 s (execDroopDetect d q s) := by
  unfold execDroopDetect
  repeat' (first
    | with_reducible exact Touch.refl _ _ | with_reducible refine TouchR.next ?_
    | ((with_reducible apply Touch.setThm); decide) | split)

theorem execDroopEnd_touch (d q : Nat) (s : State) :
    TouchR 0x400 s (execDroopEnd d q s) := by
  unfold execDroopEnd
  repeat' (first
    | with_reducible exact Touch.refl _ _ | with_reducible refine TouchR.next ?_
    | ((with_reducible apply Touch.setThm); decide))

theorem tripStop_touch (s : State) :
    Touch 0x3b3cb6400 s (tripStop s) := by
  unfold tripStop
  repeat' (first
    | with_reducible exact Touch.refl _ _ | (with_reducible assumption)
    | with_reducible refine Touch.foldl _ _ (fun _ _ => ?_) ?_
    | with_reducible refine Touch.foldl_pair _ _ _ (fun _ _ => ?_) ?_
    | with_reducible refine Touch.foldl_fst _ _ _ (fun _ _ => ?_) ?_
    | with_reducible refine Touch.foldl_trip _ _ _ (fun _ _ => ?_) ?_
    | with_reducible refine Touch.foldl_mid _ _ _ (fun _ _ => ?_) ?_
    | ((with_reducible apply Touch.via (abortPlain_touch _ _)); decide)
    | ((with_reducible apply Touch.setThm); decide) | extract_lets | split
    | with_reducible refine Touch.of_snd (by assumption) ?_ | with_reducible refine Touch.of_fst (by assumption) ?_
    | with_reducible refine Touch.of_snd₃ (by assumption) ?_ | dsimp only | dsimp -zeta +zetaDelta only)

theorem driveTrip_touch (s : State) :
    Touch 0x3b3cb6400 s (driveTrip s) := by
  unfold driveTrip
  repeat' (first
    | with_reducible exact Touch.refl _ _ | ((with_reducible apply Touch.via (logMod_touch _ _ _ _)); decide)
    | ((with_reducible apply Touch.via (noteAborts_touch _ _ _)); decide)
    | ((with_reducible apply Touch.via (tripStop_touch _)); decide) | ((with_reducible apply Touch.setThm); decide)
    | split)

theorem execJunctionTrip_touch (temp : Int) (s : State) :
    TouchR 0x3b3cb6400 s (execJunctionTrip temp s) := by
  unfold execJunctionTrip
  repeat' (first
    | with_reducible exact Touch.refl _ _ | with_reducible refine TouchR.next ?_
    | ((with_reducible apply Touch.via (driveTrip_touch _)); decide)
    | ((with_reducible apply Touch.via (noteHot_touch _)); decide) | ((with_reducible apply Touch.setThm); decide)
    | split)

theorem execThermTripNLow_touch (s : State) :
    TouchR 0x3b3cb6404 s (execThermTripNLow s) := by
  unfold execThermTripNLow
  repeat' (first
    | with_reducible exact Touch.refl _ _ | with_reducible refine TouchR.next ?_
    | ((with_reducible apply Touch.via (setPins_touch _ _)); decide)
    | ((with_reducible apply Touch.via (tripStop_touch _)); decide) | split)

theorem tripRestart_touch (s : State) :
    Touch 0x400 s (tripRestart s) := by
  unfold tripRestart
  repeat' (first | with_reducible exact Touch.refl _ _ | ((with_reducible apply Touch.setThm); decide) | split)

theorem execThermTripNHigh_touch (s : State) :
    TouchR 0x404 s (execThermTripNHigh s) := by
  unfold execThermTripNHigh
  repeat' (first
    | with_reducible exact Touch.refl _ _ | with_reducible refine TouchR.next ?_
    | ((with_reducible apply Touch.via (setPins_touch _ _)); decide)
    | ((with_reducible apply Touch.via (tripRestart_touch _)); decide))

theorem execTripRelease_touch (hot : Int) (s : State) :
    TouchR 0x400 s (execTripRelease hot s) := by
  unfold execTripRelease
  repeat' (first
    | with_reducible exact Touch.refl _ _ | with_reducible refine TouchR.next ?_
    | ((with_reducible apply Touch.via (noteHottest_touch _ _)); decide)
    | ((with_reducible apply Touch.via (tripRestart_touch _)); decide)
    | ((with_reducible apply Touch.setThm); decide) | split)

theorem setCoolant_touch (s : State) (f0 f1 : Nat) (t0 t1 : Int) :
    Touch 0x4 s (setCoolant s f0 f1 t0 t1) := by
  unfold setCoolant
  repeat' (first
    | with_reducible exact Touch.refl _ _ | ((with_reducible apply Touch.via (setPins_touch _ _)); decide))

theorem execCoolantLossTimer_touch (f0 f1 : Nat) (t0 t1 : Int) (s : State) :
    TouchR 0x100030604 s (execCoolantLossTimer f0 f1 t0 t1 s) := by
  unfold execCoolantLossTimer
  repeat' (first
    | with_reducible exact Touch.refl _ _ | with_reducible refine TouchR.next ?_
    | ((with_reducible apply Touch.via (logMod_touch _ _ _ _)); decide)
    | ((with_reducible apply Touch.via (setCoolant_touch _ _ _ _ _)); decide)
    | ((with_reducible apply Touch.setCap); decide) | ((with_reducible apply Touch.setThm); decide) | extract_lets
    | split)

theorem execCoolantClearTimer_touch (f0 f1 : Nat) (t0 t1 : Int) (s : State) :
    TouchR 0x604 s (execCoolantClearTimer f0 f1 t0 t1 s) := by
  unfold execCoolantClearTimer
  repeat' (first
    | with_reducible exact Touch.refl _ _ | with_reducible refine TouchR.next ?_
    | ((with_reducible apply Touch.via (setCoolant_touch _ _ _ _ _)); decide)
    | ((with_reducible apply Touch.setCap); decide) | ((with_reducible apply Touch.setThm); decide) | extract_lets
    | split)

theorem execCoolantFlowTrip_touch (f0 f1 : Nat) (s : State) :
    TouchR 0x3b3cb6404 s (execCoolantFlowTrip f0 f1 s) := by
  unfold execCoolantFlowTrip
  repeat' (first
    | with_reducible exact Touch.refl _ _ | with_reducible refine TouchR.next ?_
    | ((with_reducible apply Touch.via (driveTrip_touch _)); decide)
    | ((with_reducible apply Touch.via (setPins_touch _ _)); decide) | extract_lets | split)

theorem setStack_touch (s : State) (n : Nat) (x : Stack) :
    Touch 0x2000000 s (setStack s n x) := by
  unfold setStack
  repeat' (first | with_reducible exact Touch.refl _ _ | ((with_reducible apply Touch.setStk); decide))

theorem execLpxTempRead_touch (n : Nat) (temp : Int) (s : State) :
    TouchR 0x102030000 s (execLpxTempRead n temp s) := by
  unfold execLpxTempRead
  repeat' (first
    | with_reducible exact Touch.refl _ _ | with_reducible refine TouchR.next ?_
    | ((with_reducible apply Touch.via (logMod_touch _ _ _ _)); decide)
    | ((with_reducible apply Touch.via (setStack_touch _ _ _)); decide) | extract_lets | split)

theorem execDomainRailFault_touch (n cause : Nat) (s : State) :
    TouchR 0x1ffffffffe s (execDomainRailFault n cause s) := by
  unfold execDomainRailFault
  repeat' (first
    | with_reducible exact Touch.refl _ _ | with_reducible refine TouchR.next ?_
    | ((with_reducible apply Touch.via (domFault_touch _ _ _)); decide) | split)

end Sys2Proof.Machine
end

