-- ==== Sys2Proof/Laws/TouchMail.lean ====
section
/-! SUPPORT. What each operation and command may touch (see Laws/Touch.lean): cores, Spring, registers, the mailbox, Rack Time and memory. -/

set_option maxRecDepth 4000

namespace Sys2Proof.Machine

open Sys2Proof

/-! ### Cores -/

theorem copySliver_touch (d c k k' : Nat) (s : State) :
    Touch 0x800000 s (copySliver d c k k' s) := by
  unfold copySliver
  repeat' (first
    | with_reducible exact Touch.refl _ _
    | ((with_reducible refine Touch.setMem (by decide) ?_ ?_); · intro hw; rw [mem_wf_iff] at hw ⊢; obtain ⟨h1, h2, h3, h4, h5, h6, h7⟩ := hw; refine ⟨?_, ?_, ?_, ?_, ?_, ?_, ?_⟩ <;> repeat' (first | assumption | with_reducible apply tok_tset | with_reducible apply tok_tmod | with_reducible apply tok_tclear | with_reducible apply tok_tsetRun | with_reducible apply tok_filter | with_reducible apply tok_tmove | with_reducible apply tok_tmap | with_reducible apply tok_tdrop | with_reducible apply tok_drops | with_reducible refine tok_foldl _ _ (fun _ _ _ => ?_) _ _ ?_ | split)))

theorem retireCore_touch (d c k cause : Nat) (s : State) :
    Touch 0x3b3cb6000 s (retireCore d c k cause s) := by
  unfold retireCore
  repeat' (first
    | with_reducible exact Touch.refl _ _ | ((with_reducible apply Touch.via (abortWhere_touch _ _)); decide)
    | ((with_reducible apply Touch.via (copySliver_touch _ _ _ _ _)); decide)
    | ((with_reducible apply Touch.via (logMod_touch _ _ _ _)); decide)
    | ((with_reducible apply Touch.via (noteAborts_touch _ _ _)); decide)
    | ((with_reducible apply Touch.via (setCore_touch _ _ _ _ _)); decide)
    | ((with_reducible apply Touch.setCmp); decide)
    | ((with_reducible refine Touch.setFlash (by decide) ?_ ?_ ?_ ?_); exact rfl; exact rfl; exact rfl)
    | extract_lets | split | dsimp -zeta +zetaDelta only)

theorem markCore_touch (key cause : Nat) (s : State) :
    Touch 0x200000000 s (markCore key cause s) := by
  unfold markCore
  repeat' (first
    | with_reducible exact Touch.refl _ _
    | ((with_reducible refine Touch.setFlash (by decide) ?_ ?_ ?_ ?_); exact rfl; exact rfl; exact rfl) | split)

theorem logCtx_touch (code slot : Nat) (unit : W64) (data : List W64) (s : State) :
    Touch 0x100030000 s (logCtx code slot unit data s) := by
  unfold logCtx
  repeat' (first
    | with_reducible exact Touch.refl _ _ | ((with_reducible apply Touch.via (logJob_touch _ _ _ _ _)); decide)
    | ((with_reducible apply Touch.via (logMod_touch _ _ _ _)); decide) | split)

theorem fillFault_touch (owner : Nat) (s : State) :
    Touch 0x180430000 s (fillFault owner s) := by
  unfold fillFault
  repeat' (first
    | with_reducible exact Touch.refl _ _ | ((with_reducible apply Touch.via (fillCheck_touch _ _)); decide)
    | ((with_reducible apply Touch.via (setJobAt_touch _ _ _)); decide)
    | ((with_reducible apply Touch.via (stopSlot_touch _ _)); decide) | split)

theorem ctxAbort_touch (slot : Nat) (s : State) :
    Touch 0x3b3cb6000 s (ctxAbort slot s) := by
  unfold ctxAbort
  repeat' (first
    | with_reducible exact Touch.refl _ _ | ((with_reducible apply Touch.via (abortStep_touch _ _)); decide)
    | ((with_reducible apply Touch.via (fillFault_touch _ _)); decide) | split)

theorem cccFault_touch (d c slot cause agent : Nat) (s : State) :
    Touch 0x3b3cb6000 s (cccFault d c slot cause agent s) := by
  unfold cccFault
  repeat' (first
    | with_reducible exact Touch.refl _ _ | ((with_reducible apply Touch.via (cccStop_touch _ _ _ _)); decide)
    | ((with_reducible apply Touch.via (ctxAbort_touch _ _)); decide)
    | ((with_reducible apply Touch.via (logCtx_touch _ _ _ _ _)); decide) | extract_lets | split)

theorem checkEnded_touch (d c k : Nat) (s : State) :
    Touch 0x80000000 s (checkEnded d c k s) := by
  unfold checkEnded
  repeat' (first | with_reducible exact Touch.refl _ _ | ((with_reducible apply Touch.setRel); decide))

theorem checksDrop_touch (p : Check → Bool) (s : State) :
    Touch 0x80400000 s (checksDrop p s) := by
  unfold checksDrop
  repeat' (first
    | with_reducible exact Touch.refl _ _ | with_reducible refine Touch.foldl _ _ (fun _ _ => ?_) ?_
    | ((with_reducible apply Touch.via (setCore_touch _ _ _ _ _)); decide)
    | ((with_reducible apply Touch.setRel); decide))

theorem checksSkip_touch (p : Check → Bool) (s : State) :
    Touch 0x80400000 s (checksSkip p s) := by
  unfold checksSkip
  repeat' (first
    | with_reducible exact Touch.refl _ _ | (with_reducible assumption)
    | with_reducible refine Touch.foldl _ _ (fun _ _ => ?_) ?_
    | with_reducible refine Touch.foldl_pair _ _ _ (fun _ _ => ?_) ?_
    | with_reducible refine Touch.foldl_fst _ _ _ (fun _ _ => ?_) ?_
    | with_reducible refine Touch.foldl_trip _ _ _ (fun _ _ => ?_) ?_
    | with_reducible refine Touch.foldl_mid _ _ _ (fun _ _ => ?_) ?_
    | ((with_reducible apply Touch.via (checksDrop_touch _ _)); decide)
    | ((with_reducible apply Touch.setRel); decide) | extract_lets | split
    | with_reducible refine Touch.of_snd (by assumption) ?_ | with_reducible refine Touch.of_fst (by assumption) ?_
    | with_reducible refine Touch.of_snd₃ (by assumption) ?_ | dsimp only | dsimp -zeta +zetaDelta only)

theorem checkAbandon_touch (d c k : Nat) (s : State) :
    Touch 0x80400000 s (checkAbandon d c k s) := by
  unfold checkAbandon
  repeat' (first
    | with_reducible exact Touch.refl _ _ | ((with_reducible apply Touch.via (checksSkip_touch _ _)); decide))

theorem tileFault_touch (d c k cause : Nat) (s : State) :
    Touch 0x3b3cb6000 s (tileFault d c k cause s) := by
  unfold tileFault
  repeat' (first
    | with_reducible exact Touch.refl _ _ | ((with_reducible apply Touch.via (cccFault_touch _ _ _ _ _ _)); decide)
    | ((with_reducible apply Touch.via (checkEnded_touch _ _ _ _)); decide)
    | ((with_reducible apply Touch.via (logCtx_touch _ _ _ _ _)); decide)
    | ((with_reducible apply Touch.via (setCore_touch _ _ _ _ _)); decide) | extract_lets | split)

theorem coreFail_touch (d c k : Nat) (s : State) :
    Touch 0x3b3cb6000 s (coreFail d c k s) := by
  unfold coreFail
  repeat' (first
    | with_reducible exact Touch.refl _ _ | ((with_reducible apply Touch.via (cccFault_touch _ _ _ _ _ _)); decide)
    | ((with_reducible apply Touch.via (checkEnded_touch _ _ _ _)); decide)
    | ((with_reducible apply Touch.via (checksSkip_touch _ _)); decide)
    | ((with_reducible apply Touch.via (setCore_touch _ _ _ _ _)); decide) | extract_lets | split)

theorem coreLeaves_touch (d c k : Nat) (s : State) :
    Touch 0x400000 s (coreLeaves d c k s) := by
  unfold coreLeaves
  repeat' (first
    | with_reducible exact Touch.refl _ _ | (with_reducible assumption)
    | with_reducible refine Touch.foldl _ _ (fun _ _ => ?_) ?_
    | with_reducible refine Touch.foldl_pair _ _ _ (fun _ _ => ?_) ?_
    | with_reducible refine Touch.foldl_fst _ _ _ (fun _ _ => ?_) ?_
    | with_reducible refine Touch.foldl_trip _ _ _ (fun _ _ => ?_) ?_
    | with_reducible refine Touch.foldl_mid _ _ _ (fun _ _ => ?_) ?_
    | ((with_reducible apply Touch.via (setCore_touch _ _ _ _ _)); decide) | extract_lets | split
    | with_reducible refine Touch.of_snd (by assumption) ?_ | with_reducible refine Touch.of_fst (by assumption) ?_
    | with_reducible refine Touch.of_snd₃ (by assumption) ?_ | dsimp only | dsimp -zeta +zetaDelta only)

theorem veFault_touch (d c slot cause : Nat) (s : State) :
    Touch 0x3b3cb6000 s (veFault d c slot cause s) := by
  unfold veFault
  repeat' (first
    | with_reducible exact Touch.refl _ _ | ((with_reducible apply Touch.via (cccFault_touch _ _ _ _ _ _)); decide)
    | ((with_reducible apply Touch.via (logCtx_touch _ _ _ _ _)); decide)
    | ((with_reducible apply Touch.via (setVe_touch _ _ _ _ _)); decide))

theorem dmaTxnsDrop_touch (d c slot : Nat) (p : Nat → Bool) (s : State) :
    Touch 0x20000000 s (dmaTxnsDrop d c slot p s) := by
  unfold dmaTxnsDrop
  repeat' (first | with_reducible exact Touch.refl _ _ | ((with_reducible apply Touch.setFab); decide))

theorem dmaFault_touch (d c slot queue cause : Nat) (s : State) :
    Touch 0x3b3cb6000 s (dmaFault d c slot queue cause s) := by
  unfold dmaFault
  repeat' (first
    | with_reducible exact Touch.refl _ _ | ((with_reducible apply Touch.via (cccFault_touch _ _ _ _ _ _)); decide)
    | ((with_reducible apply Touch.via (dmaTxnsDrop_touch _ _ _ _ _)); decide)
    | ((with_reducible apply Touch.via (logCtx_touch _ _ _ _ _)); decide)
    | ((with_reducible apply Touch.via (setDma_touch _ _ _ _ _)); decide))

theorem cluDown_touch (d c : Nat) (s : State) :
    Touch 0x3b3cb6000 s (cluDown d c s) := by
  unfold cluDown
  repeat' (first
    | with_reducible exact Touch.refl _ _ | with_reducible refine Touch.foldl _ _ (fun _ _ => ?_) ?_
    | ((with_reducible apply Touch.via (cccFault_touch _ _ _ _ _ _)); decide)
    | ((with_reducible apply Touch.via (dmaTxnsDrop_touch _ _ _ _ _)); decide)
    | ((with_reducible apply Touch.via (setDma_touch _ _ _ _ _)); decide) | extract_lets | split)

theorem veDown_touch (d c : Nat) (s : State) :
    Touch 0x3b3cb6000 s (veDown d c s) := by
  unfold veDown
  repeat' (first
    | with_reducible exact Touch.refl _ _ | with_reducible refine Touch.foldl _ _ (fun _ _ => ?_) ?_
    | ((with_reducible apply Touch.via (cccFault_touch _ _ _ _ _ _)); decide)
    | ((with_reducible apply Touch.via (setVe_touch _ _ _ _ _)); decide) | extract_lets | split)

theorem cccDown_touch (d c : Nat) (s : State) :
    Touch 0x3b3cb6000 s (cccDown d c s) := by
  unfold cccDown
  repeat' (first
    | with_reducible exact Touch.refl _ _ | with_reducible refine Touch.foldl _ _ (fun _ _ => ?_) ?_
    | ((with_reducible apply Touch.via (cccReport_touch _ _ _ _ _)); decide)
    | ((with_reducible apply Touch.via (cccStop_touch _ _ _ _)); decide)
    | ((with_reducible apply Touch.via (ctxAbort_touch _ _)); decide) | split)

theorem lckDown_touch (d : Nat) (s : State) :
    Touch 0x4000000 s (lckDown d s) := by
  unfold lckDown
  repeat' (first | with_reducible exact Touch.refl _ _ | ((with_reducible apply Touch.setOpt); decide))

theorem seqStart_touch (d : Nat) (s : State) :
    Touch 0x4000000 s (seqStart d s) := by
  unfold seqStart
  repeat' (first | with_reducible exact Touch.refl _ _ | ((with_reducible apply Touch.setOpt); decide))

theorem passAbandon_touch (s : State) :
    Touch 0x380030000 s (passAbandon s) := by
  unfold passAbandon
  repeat' (first
    | with_reducible exact Touch.refl _ _ | ((with_reducible apply Touch.via (logMod_touch _ _ _ _)); decide)
    | ((with_reducible refine Touch.setFlash (by decide) ?_ ?_ ?_ ?_); exact rfl; exact rfl; exact rfl)
    | ((with_reducible apply Touch.setRel); decide) | split)

theorem clusterBlockDown_touch (code d c k : Nat) (byFault : Bool) (s : State) :
    Touch 0x1bbfcb6000 s (clusterBlockDown code d c k byFault s) := by
  unfold clusterBlockDown
  repeat' (first
    | with_reducible exact Touch.refl _ _ | ((with_reducible apply Touch.via (abortWhere_touch _ _)); decide)
    | ((with_reducible apply Touch.via (cccDown_touch _ _ _)); decide)
    | ((with_reducible apply Touch.via (checksSkip_touch _ _)); decide)
    | ((with_reducible apply Touch.via (cluDown_touch _ _ _)); decide)
    | ((with_reducible apply Touch.via (coreFail_touch _ _ _ _)); decide)
    | ((with_reducible apply Touch.via (coreLeaves_touch _ _ _ _)); decide)
    | ((with_reducible apply Touch.via (lckDown_touch _ _)); decide)
    | ((with_reducible apply Touch.via (passAbandon_touch _)); decide)
    | ((with_reducible apply Touch.via (portDown_touch _ _ _)); decide)
    | ((with_reducible apply Touch.via (rtbLoss_touch _ _)); decide)
    | ((with_reducible apply Touch.via (tileFault_touch _ _ _ _ _)); decide)
    | ((with_reducible apply Touch.via (veDown_touch _ _ _)); decide) | split)

/-! ### Spring -/

theorem setFwSlot_touch (s : State) (b : Bool) (x : FwSlot) :
    Touch 0x200000000 s (setFwSlot s b x) := by
  unfold setFwSlot
  repeat' (first
    | with_reducible exact Touch.refl _ _
    | ((with_reducible refine Touch.setFlash (by decide) ?_ ?_ ?_ ?_); exact rfl; exact rfl; exact rfl) | split)

theorem stepStart_touch (k : Nat) (s : State) :
    Touch 0x40 s (stepStart k s) := by
  unfold stepStart
  repeat' (first | with_reducible exact Touch.refl _ _ | ((with_reducible apply Touch.setSpring); decide))

theorem stepEnd_touch (k : Nat) (s : State) :
    Touch 0x40 s (stepEnd k s) := by
  unfold stepEnd
  repeat' (first | with_reducible exact Touch.refl _ _ | ((with_reducible apply Touch.setSpring); decide))

theorem tryStep10_touch (s : State) :
    Touch 0x1bfffb785a s (tryStep10 s) := by
  unfold tryStep10
  repeat' (first
    | with_reducible exact Touch.refl _ _ | ((with_reducible apply Touch.via (springStop_touch _ _ _)); decide)
    | ((with_reducible apply Touch.via (stepStart_touch _ _)); decide) | split)

theorem startStep6_touch (s : State) :
    Touch 0x1bfffb7858 s (startStep6 s) := by
  unfold startStep6
  repeat' (first
    | with_reducible exact Touch.refl _ _ | ((with_reducible apply Touch.via (seqGo_touch _ _ _ _)); decide)
    | ((with_reducible apply Touch.via (stepStart_touch _ _)); decide))

theorem closeBegins_touch (s : State) :
    Touch 0x300030000 s (closeBegins s) := by
  unfold closeBegins
  repeat' (first
    | with_reducible exact Touch.refl _ _ | with_reducible refine Touch.foldl _ _ (fun _ _ => ?_) ?_
    | ((with_reducible apply Touch.via (journalAdd_touch _ _)); decide)
    | ((with_reducible apply Touch.via (logFold_touch _ _ _ _ _ _ _)); decide) | split)

theorem fuseAdvance_touch (s : State) :
    Touch 0x200000000 s (fuseAdvance s) := by
  unfold fuseAdvance
  repeat' (first
    | with_reducible exact Touch.refl _ _ | ((with_reducible apply Touch.via (setFwSlot_touch _ _ _)); decide)
    | ((with_reducible refine Touch.setFlash (by decide) ?_ ?_ ?_ ?_); exact rfl; exact rfl; exact rfl)
    | extract_lets | split)

theorem startDisc_touch (ps : List Nat) (cmd : Option (Nat × Nat × Nat)) (s : State) :
    Touch 0x20000000 s (startDisc ps cmd s) := by
  unfold startDisc
  repeat' (first | with_reducible exact Touch.refl _ _ | ((with_reducible apply Touch.setFab); decide))

theorem mailboxReady_touch (s : State) :
    Touch 0x32003e042 s (mailboxReady s) := by
  have h2 : Touch 0x32003e042 s (match (fuseAdvance (closeBegins s)).flash.passAbandoned with
    | some n => (logMod 0x7009 0 [dw n, 1] (fuseAdvance (closeBegins s))).setFlash { (fuseAdvance (closeBegins s)).flash with passAbandoned := none }
    | none => fuseAdvance (closeBegins s)) := by
    have h1 : Touch 0x32003e042 s (fuseAdvance (closeBegins s)) :=
      Touch.via (fuseAdvance_touch _) (by decide) ((closeBegins_touch _).mono (by decide))
    split
    · refine Touch.setFlash (by decide) ?_ ?_ ?_ (Touch.via (logMod_touch _ _ _ _) (by decide) h1)
      · rw [(logMod_touch _ _ _ _).flash (by decide)]
      · rw [(logMod_touch _ _ _ _).flash (by decide)]
      · rw [(logMod_touch _ _ _ _).flash (by decide)]
    · exact h1
  unfold mailboxReady
  dsimp only
  refine Touch.via (startDisc_touch _ _ _) (by decide) ?_
  refine Touch.foldl _ _ (fun _ _ => Touch.foldl _ _ (fun _ _ => ?_) (Touch.refl _ _)) ?_
  · split
    · exact (setRing_touch _ _ _ _).mono (by decide)
    · exact Touch.refl _ _
  · exact Touch.setSpring (by decide) (Touch.setPhase (by decide) (Touch.setSteward (by decide) h2))

theorem trainPkg_touch (s : State) :
    Touch 0x8000000 s (trainPkg s) := by
  unfold trainPkg
  repeat' (first
    | with_reducible exact Touch.refl _ _ | with_reducible refine Touch.foldl _ _ (fun _ _ => ?_) ?_
    | ((with_reducible apply Touch.setLinks); decide) | split)

theorem logSpared_touch (b old : Nat) (new : Option Nat) (s : State) :
    Touch 0x100030000 s (logSpared b old new s) := by
  unfold logSpared
  repeat' (first
    | with_reducible exact Touch.refl _ _ | (with_reducible assumption)
    | with_reducible refine Touch.foldl _ _ (fun _ _ => ?_) ?_
    | with_reducible refine Touch.foldl_pair _ _ _ (fun _ _ => ?_) ?_
    | with_reducible refine Touch.foldl_fst _ _ _ (fun _ _ => ?_) ?_
    | with_reducible refine Touch.foldl_trip _ _ _ (fun _ _ => ?_) ?_
    | with_reducible refine Touch.foldl_mid _ _ _ (fun _ _ => ?_) ?_
    | ((with_reducible apply Touch.via (logMod_touch _ _ _ _)); decide) | extract_lets | split
    | with_reducible refine Touch.of_snd (by assumption) ?_ | with_reducible refine Touch.of_fst (by assumption) ?_
    | with_reducible refine Touch.of_snd₃ (by assumption) ?_ | dsimp only | dsimp -zeta +zetaDelta only)

theorem wornCheck_touch (s : State) (n : Nat) :
    Touch 0x104030000 s (wornCheck s n) := by
  unfold wornCheck
  repeat' (first
    | with_reducible exact Touch.refl _ _ | (with_reducible assumption)
    | with_reducible refine Touch.foldl _ _ (fun _ _ => ?_) ?_
    | with_reducible refine Touch.foldl_pair _ _ _ (fun _ _ => ?_) ?_
    | with_reducible refine Touch.foldl_fst _ _ _ (fun _ _ => ?_) ?_
    | with_reducible refine Touch.foldl_trip _ _ _ (fun _ _ => ?_) ?_
    | with_reducible refine Touch.foldl_mid _ _ _ (fun _ _ => ?_) ?_
    | ((with_reducible apply Touch.via (logMod_touch _ _ _ _)); decide)
    | ((with_reducible apply Touch.setOpt); decide) | extract_lets | split
    | with_reducible refine Touch.of_snd (by assumption) ?_ | with_reducible refine Touch.of_fst (by assumption) ?_
    | with_reducible refine Touch.of_snd₃ (by assumption) ?_ | dsimp only | dsimp -zeta +zetaDelta only)

theorem wornAll_touch (s : State) :
    Touch 0x104030000 s (wornAll s) := by
  unfold wornAll
  repeat' (first
    | with_reducible exact Touch.refl _ _ | (with_reducible assumption)
    | with_reducible refine Touch.foldl _ _ (fun _ _ => ?_) ?_
    | with_reducible refine Touch.foldl_pair _ _ _ (fun _ _ => ?_) ?_
    | with_reducible refine Touch.foldl_fst _ _ _ (fun _ _ => ?_) ?_
    | with_reducible refine Touch.foldl_trip _ _ _ (fun _ _ => ?_) ?_
    | with_reducible refine Touch.foldl_mid _ _ _ (fun _ _ => ?_) ?_
    | ((with_reducible apply Touch.via (wornCheck_touch _ _)); decide) | extract_lets | split
    | with_reducible refine Touch.of_snd (by assumption) ?_ | with_reducible refine Touch.of_fst (by assumption) ?_
    | with_reducible refine Touch.of_snd₃ (by assumption) ?_ | dsimp only | dsimp -zeta +zetaDelta only)

theorem lightUp_touch (started : List Nat) (power low : List Nat) (s : State) :
    Touch 0x104030000 s (lightUp started power low s) := by
  unfold lightUp
  repeat' (first
    | with_reducible exact Touch.refl _ _ | (with_reducible assumption)
    | with_reducible refine Touch.foldl _ _ (fun _ _ => ?_) ?_
    | with_reducible refine Touch.foldl_pair _ _ _ (fun _ _ => ?_) ?_
    | with_reducible refine Touch.foldl_fst _ _ _ (fun _ _ => ?_) ?_
    | with_reducible refine Touch.foldl_trip _ _ _ (fun _ _ => ?_) ?_
    | with_reducible refine Touch.foldl_mid _ _ _ (fun _ _ => ?_) ?_
    | ((with_reducible apply Touch.via (logSpared_touch _ _ _ _)); decide)
    | ((with_reducible apply Touch.via (wornAll_touch _)); decide) | ((with_reducible apply Touch.setOpt); decide)
    | extract_lets | split | with_reducible refine Touch.of_snd (by assumption) ?_
    | with_reducible refine Touch.of_fst (by assumption) ?_ | with_reducible refine Touch.of_snd₃ (by assumption) ?_
    | dsimp only | dsimp -zeta +zetaDelta only)

theorem loadUcode_touch (code : List Byte) (s : State) :
    Touch 0x200000 s (loadUcode code s) := by
  unfold loadUcode
  repeat' (first
    | with_reducible exact Touch.refl _ _ | (with_reducible assumption)
    | with_reducible refine Touch.foldl _ _ (fun _ _ => ?_) ?_
    | with_reducible refine Touch.foldl_pair _ _ _ (fun _ _ => ?_) ?_
    | with_reducible refine Touch.foldl_fst _ _ _ (fun _ _ => ?_) ?_
    | with_reducible refine Touch.foldl_trip _ _ _ (fun _ _ => ?_) ?_
    | with_reducible refine Touch.foldl_mid _ _ _ (fun _ _ => ?_) ?_ | ((with_reducible apply Touch.setPrg); decide)
    | extract_lets | split | with_reducible refine Touch.of_snd (by assumption) ?_
    | with_reducible refine Touch.of_fst (by assumption) ?_ | with_reducible refine Touch.of_snd₃ (by assumption) ?_
    | dsimp only | dsimp -zeta +zetaDelta only)

theorem repairRow_touch (s : State) (x : Nat × Nat) :
    Touch 0x1ffffffffe s (repairRow s x) := by
  unfold repairRow
  repeat' (first
    | with_reducible exact Touch.refl _ _ | (with_reducible assumption)
    | with_reducible refine Touch.foldl _ _ (fun _ _ => ?_) ?_
    | with_reducible refine Touch.foldl_pair _ _ _ (fun _ _ => ?_) ?_
    | with_reducible refine Touch.foldl_fst _ _ _ (fun _ _ => ?_) ?_
    | with_reducible refine Touch.foldl_trip _ _ _ (fun _ _ => ?_) ?_
    | with_reducible refine Touch.foldl_mid _ _ _ (fun _ _ => ?_) ?_
    | ((with_reducible apply Touch.via (domFault_touch _ _ _)); decide)
    | ((with_reducible apply Touch.via (retireCore_touch _ _ _ _ _)); decide)
    | ((with_reducible refine Touch.setFlash (by decide) ?_ ?_ ?_ ?_); exact rfl; exact rfl; exact rfl)
    | ((with_reducible refine Touch.setFlash_le (by decide) ?_ ?_ ?_ ?_); exact (fun h => h); exact Nat.le_refl _; exact Nat.le_succ _)
    | extract_lets | split | with_reducible refine Touch.of_snd (by assumption) ?_
    | with_reducible refine Touch.of_fst (by assumption) ?_ | with_reducible refine Touch.of_snd₃ (by assumption) ?_
    | dsimp only | dsimp -zeta +zetaDelta only)

theorem repairRows_touch (rows : List (Nat × Nat)) (s : State) :
    Touch 0x1ffffffffe s (repairRows rows s) := by
  unfold repairRows
  repeat' (first
    | with_reducible exact Touch.refl _ _ | (with_reducible assumption)
    | with_reducible refine Touch.foldl _ _ (fun _ _ => ?_) ?_
    | with_reducible refine Touch.foldl_pair _ _ _ (fun _ _ => ?_) ?_
    | with_reducible refine Touch.foldl_fst _ _ _ (fun _ _ => ?_) ?_
    | with_reducible refine Touch.foldl_trip _ _ _ (fun _ _ => ?_) ?_
    | with_reducible refine Touch.foldl_mid _ _ _ (fun _ _ => ?_) ?_
    | ((with_reducible apply Touch.via (repairRow_touch _ _)); decide)
    | ((with_reducible apply Touch.via (sramLost_touch _ _)); decide)
    | ((with_reducible refine Touch.setFlash (by decide) ?_ ?_ ?_ ?_); exact rfl; exact rfl; exact rfl)
    | ((with_reducible refine Touch.setFlash_le (by decide) ?_ ?_ ?_ ?_); exact (fun h => h); exact Nat.le_refl _; exact Nat.le_succ _)
    | ((with_reducible apply Touch.setSrm); decide) | extract_lets | split
    | with_reducible refine Touch.of_snd (by assumption) ?_ | with_reducible refine Touch.of_fst (by assumption) ?_
    | with_reducible refine Touch.of_snd₃ (by assumption) ?_ | dsimp only | dsimp -zeta +zetaDelta only)

theorem springEffect_touch (k : Nat) (i : SpringIn) (s : State) :
    Touch 0x1ffffffffe s (springEffect k i s) := by
  unfold springEffect
  repeat' (first
    | with_reducible exact Touch.refl _ _ | with_reducible refine Touch.foldl _ _ (fun _ _ => ?_) ?_
    | ((with_reducible apply Touch.via (fresh_touch _)); decide)
    | ((with_reducible apply Touch.via (lightUp_touch _ _ _ _)); decide)
    | ((with_reducible apply Touch.via (loadUcode_touch _ _)); decide)
    | ((with_reducible apply Touch.via (logMod_touch _ _ _ _)); decide)
    | ((with_reducible apply Touch.via (mailboxReady_touch _)); decide)
    | ((with_reducible apply Touch.via (repairRows_touch _ _)); decide)
    | ((with_reducible apply Touch.via (seqGo_touch _ _ _ _)); decide)
    | ((with_reducible apply Touch.via (setCoolant_touch _ _ _ _ _)); decide)
    | ((with_reducible apply Touch.via (setFwSlot_touch _ _ _)); decide)
    | ((with_reducible apply Touch.via (springStop_touch _ _ _)); decide)
    | ((with_reducible apply Touch.via (startStep6_touch _)); decide)
    | ((with_reducible apply Touch.via (stepEnd_touch _ _)); decide)
    | ((with_reducible apply Touch.via (stepStart_touch _ _)); decide)
    | ((with_reducible apply Touch.via (trainPkg_touch _)); decide)
    | ((with_reducible apply Touch.via (tripStop_touch _)); decide)
    | ((with_reducible apply Touch.via (tryStep10_touch _)); decide) | ((with_reducible apply Touch.setCap); decide)
    | ((with_reducible apply Touch.setFab); decide) | ((with_reducible apply Touch.setOpt); decide)
    | ((with_reducible apply Touch.setPrg); decide) | ((with_reducible apply Touch.setProf); decide)
    | ((with_reducible apply Touch.setSec); decide) | ((with_reducible apply Touch.setSpring); decide)
    | ((with_reducible apply Touch.setSup); decide) | extract_lets | split | dsimp -zeta +zetaDelta only)

theorem execSpringStepTimeout_touch (k : Nat) (s : State) :
    TouchR 0x1bfffb785a s (execSpringStepTimeout k s) := by
  unfold execSpringStepTimeout
  repeat' (first
    | with_reducible exact Touch.refl _ _ | with_reducible refine TouchR.next ?_
    | ((with_reducible apply Touch.via (springStop_touch _ _ _)); decide)
    | ((with_reducible apply Touch.setPseq); decide) | split)

theorem execSpringCoolantResume_touch (f0 f1 : Nat) (t0 t1 : Int) (s : State) :
    TouchR 0x1bfffb785c s (execSpringCoolantResume f0 f1 t0 t1 s) := by
  unfold execSpringCoolantResume
  repeat' (first
    | with_reducible exact Touch.refl _ _ | with_reducible refine TouchR.next ?_
    | ((with_reducible apply Touch.via (setCoolant_touch _ _ _ _ _)); decide)
    | ((with_reducible apply Touch.via (startStep6_touch _)); decide)
    | ((with_reducible apply Touch.setSpring); decide) | extract_lets | split)

theorem execAttestKeyCheckDone_touch (generated : Bool) (s : State) :
    TouchR 0x1bfffb785a s (execAttestKeyCheckDone generated s) := by
  unfold execAttestKeyCheckDone
  repeat' (first
    | with_reducible exact Touch.refl _ _ | with_reducible refine TouchR.next ?_
    | ((with_reducible apply Touch.via (tryStep10_touch _)); decide)
    | ((with_reducible refine Touch.setFlash (by decide) ?_ ?_ ?_ ?_); exact rfl; exact rfl; exact rfl)
    | ((with_reducible apply Touch.setSpring); decide) | extract_lets | split)

theorem domUp_touch (n : Nat) (s : State) :
    Touch 0x13c06008 s (domUp n s) := by
  unfold domUp
  repeat' (first
    | with_reducible exact Touch.refl _ _ | ((with_reducible apply Touch.via (quadRetired_touch _ _ _)); decide)
    | ((with_reducible apply Touch.via (setDom_touch _ _ _)); decide)
    | ((with_reducible apply Touch.via (sramLost_touch _ _)); decide)
    | ((with_reducible apply Touch.setFn0); decide) | ((with_reducible apply Touch.setFn1); decide)
    | ((with_reducible apply Touch.setRtb); decide) | ((with_reducible apply Touch.setStk); decide) | extract_lets
    | split)

theorem execDomainTransitionDone_touch (n : Nat) (s : State) :
    TouchR 0x1ffffffffe s (execDomainTransitionDone n s) := by
  unfold execDomainTransitionDone
  repeat' (first
    | with_reducible exact Touch.refl _ _ | with_reducible refine TouchR.next ?_
    | ((with_reducible apply Touch.via (domOff_touch _ _)); decide)
    | ((with_reducible apply Touch.via (domUp_touch _ _)); decide)
    | ((with_reducible apply Touch.via (seqRun_touch _ _ _)); decide) | extract_lets | split
    | dsimp -zeta +zetaDelta only)

theorem execLpxInitDone_touch (d : Nat) (found : TrainIn) (s : State) :
    TouchR 0x302830000 s (execLpxInitDone d found s) := by
  unfold execLpxInitDone
  repeat' (first
    | with_reducible exact Touch.refl _ _ | (with_reducible assumption)
    | with_reducible refine Touch.foldl _ _ (fun _ _ => ?_) ?_
    | with_reducible refine Touch.foldl_pair _ _ _ (fun _ _ => ?_) ?_
    | with_reducible refine Touch.foldl_fst _ _ _ (fun _ _ => ?_) ?_
    | with_reducible refine Touch.foldl_trip _ _ _ (fun _ _ => ?_) ?_
    | with_reducible refine Touch.foldl_mid _ _ _ (fun _ _ => ?_) ?_ | with_reducible refine TouchR.next ?_
    | ((with_reducible apply Touch.via (logMod_touch _ _ _ _)); decide)
    | ((with_reducible apply Touch.via (lpxLost_touch _ _)); decide)
    | ((with_reducible refine Touch.setFlash (by decide) ?_ ?_ ?_ ?_); exact rfl; exact rfl; exact rfl)
    | ((with_reducible refine Touch.setFlash_le (by decide) ?_ ?_ ?_ ?_); exact (fun h => h); exact Nat.le_refl _; exact Nat.le_succ _)
    | ((with_reducible apply Touch.setStk); decide) | extract_lets | split
    | with_reducible refine Touch.of_snd (by assumption) ?_ | with_reducible refine Touch.of_fst (by assumption) ?_
    | with_reducible refine Touch.of_snd₃ (by assumption) ?_ | dsimp only | dsimp -zeta +zetaDelta only)

/-! ### Regs -/

theorem barDenied_touch (who off : Nat) (s : State) :
    Touch 0x100030000 s (barDenied who off s) := by
  unfold barDenied
  repeat' (first
    | with_reducible exact Touch.refl _ _ | ((with_reducible apply Touch.via (logFold_touch _ _ _ _ _ _ _)); decide))

theorem offdom_touch (d off : Nat) (s : State) :
    Touch 0x100030000 s (offdom d off s) := by
  unfold offdom
  repeat' (first
    | with_reducible exact Touch.refl _ _ | ((with_reducible apply Touch.via (logFold_touch _ _ _ _ _ _ _)); decide))

theorem secRefuse_touch (s : State) :
    Touch 0x140030000 s (secRefuse s) := by
  unfold secRefuse
  repeat' (first
    | with_reducible exact Touch.refl _ _ | ((with_reducible apply Touch.via (logMod_touch _ _ _ _)); decide)
    | ((with_reducible apply Touch.setSec); decide))

theorem writeIgnored_touch (who off : Nat) (s : State) :
    Touch 0x100030000 s (writeIgnored who off s) := by
  unfold writeIgnored
  repeat' (first
    | with_reducible exact Touch.refl _ _ | ((with_reducible apply Touch.via (logMod_touch _ _ _ _)); decide))

theorem wrigBlk_touch (who off b : Nat) (x : Blk) (s : State) :
    Touch 0x100030800 s (wrigBlk who off b x s) := by
  unfold wrigBlk
  repeat' (first
    | with_reducible exact Touch.refl _ _ | ((with_reducible apply Touch.via (setBlk_touch _ _ _)); decide)
    | ((with_reducible apply Touch.via (writeIgnored_touch _ _ _)); decide) | split)

theorem blkOffReset_touch (f : Frame0) (s : State) :
    Touch 0x1fb6b0400 s (blkOffReset f s) := by
  unfold blkOffReset
  repeat' (first
    | with_reducible exact Touch.refl _ _ | ((with_reducible apply Touch.via (cccReport_touch _ _ _ _ _)); decide)
    | ((with_reducible apply Touch.via (setCore_touch _ _ _ _ _)); decide)
    | ((with_reducible apply Touch.setCmp); decide) | ((with_reducible apply Touch.setDsc); decide)
    | ((with_reducible apply Touch.setFab); decide) | ((with_reducible apply Touch.setLinks); decide)
    | ((with_reducible refine Touch.setMgt (by decide) ?_ ?_ ?_ ?_); exact rfl; exact rfl; exact rfl)
    | ((with_reducible apply Touch.setPrg); decide) | ((with_reducible apply Touch.setRel); decide)
    | ((with_reducible apply Touch.setRtb); decide) | ((with_reducible apply Touch.setSec); decide)
    | ((with_reducible apply Touch.setSrm); decide) | ((with_reducible apply Touch.setStk); decide)
    | ((with_reducible apply Touch.setThm); decide) | split)

theorem blkLeftOn_touch (f : Frame0) (s : State) :
    Touch 0x1bbfcb6000 s (blkLeftOn f s) := by
  unfold blkLeftOn
  repeat' (first
    | with_reducible exact Touch.refl _ _ | ((with_reducible apply Touch.via (abortWhere_touch _ _)); decide)
    | ((with_reducible apply Touch.via (clusterBlockDown_touch _ _ _ _ _ _)); decide) | split)

theorem blkCtl_touch (who off : Nat) (v : W32) (f : Frame0) (s : State) :
    Touch 0x1bbfcb6800 s (blkCtl who off v f s) := by
  unfold blkCtl
  repeat' (first
    | with_reducible exact Touch.refl _ _ | ((with_reducible apply Touch.via (blkLeftOn_touch _ _)); decide)
    | ((with_reducible apply Touch.via (setBlk_touch _ _ _)); decide)
    | ((with_reducible apply Touch.via (setCore_touch _ _ _ _ _)); decide)
    | ((with_reducible apply Touch.via (wrigBlk_touch _ _ _ _ _)); decide) | extract_lets | split
    | dsimp -zeta +zetaDelta only)

theorem inDomain_touch {m : Nat} (f : Frame0) (off : Nat) (act : State → State) (s : State) (hm : 0x100030000 &&& m = 0x100030000) (ha : ∀ t, Touch m t (act t)) :
    Touch m s (inDomain f off act s) := by
  unfold inDomain
  split
  · exact Touch.refl _ _
  · split
    · exact ha s
    · exact (offdom_touch _ _ _).mono hm

theorem execBlkCtlWrite_touch (who off : Nat) (v : W32) (s : State) :
    TouchR 0x1bffcb6800 s (execBlkCtlWrite who off v s) := by
  unfold execBlkCtlWrite
  repeat' (first
    | with_reducible exact Touch.refl _ _ | with_reducible refine TouchR.next ?_
    | ((with_reducible apply Touch.via (barDenied_touch _ _ _)); decide)
    | ((with_reducible apply Touch.via (blkCtl_touch _ _ _ _ _)); decide)
    | (with_reducible refine inDomain_touch _ _ _ _ (by decide) (fun _ => ?_))
    | ((with_reducible apply Touch.via (secRefuse_touch _)); decide) | split)

theorem shadowsLive_touch (f : Frame0) (s : State) :
    Touch 0x1000 s (shadowsLive f s) := by
  unfold shadowsLive
  repeat' (first
    | with_reducible exact Touch.refl _ _ | ((with_reducible apply Touch.via (setRwbOf_touch _ _ _ _)); decide)
    | split)

theorem shadowsApply_touch (f : Frame0) (s : State) :
    Touch 0x1000 s (shadowsApply f s) := by
  unfold shadowsApply
  repeat' (first
    | with_reducible exact Touch.refl _ _ | ((with_reducible apply Touch.via (setRwbOf_touch _ _ _ _)); decide)
    | split)

theorem cfgReset_touch (f : Frame0) (s : State) :
    Touch 0x401000 s (cfgReset f s) := by
  unfold cfgReset
  repeat' (first
    | with_reducible exact Touch.refl _ _ | (with_reducible assumption)
    | with_reducible refine Touch.foldl _ _ (fun _ _ => ?_) ?_
    | with_reducible refine Touch.foldl_pair _ _ _ (fun _ _ => ?_) ?_
    | with_reducible refine Touch.foldl_fst _ _ _ (fun _ _ => ?_) ?_
    | with_reducible refine Touch.foldl_trip _ _ _ (fun _ _ => ?_) ?_
    | with_reducible refine Touch.foldl_mid _ _ _ (fun _ _ => ?_) ?_
    | ((with_reducible apply Touch.via (setCore_touch _ _ _ _ _)); decide)
    | ((with_reducible apply Touch.via (setRwbOf_touch _ _ _ _)); decide) | extract_lets | split
    | with_reducible refine Touch.of_snd (by assumption) ?_ | with_reducible refine Touch.of_fst (by assumption) ?_
    | with_reducible refine Touch.of_snd₃ (by assumption) ?_ | dsimp only | dsimp -zeta +zetaDelta only)

theorem cfgRewrite_touch (f : Frame0) (s : State) :
    Touch 0x401000 s (cfgRewrite f s) := by
  unfold cfgRewrite
  repeat' (first
    | with_reducible exact Touch.refl _ _ | (with_reducible assumption)
    | with_reducible refine Touch.foldl _ _ (fun _ _ => ?_) ?_
    | with_reducible refine Touch.foldl_pair _ _ _ (fun _ _ => ?_) ?_
    | with_reducible refine Touch.foldl_fst _ _ _ (fun _ _ => ?_) ?_
    | with_reducible refine Touch.foldl_trip _ _ _ (fun _ _ => ?_) ?_
    | with_reducible refine Touch.foldl_mid _ _ _ (fun _ _ => ?_) ?_
    | ((with_reducible apply Touch.via (setCore_touch _ _ _ _ _)); decide)
    | ((with_reducible apply Touch.via (setRwbOf_touch _ _ _ _)); decide) | extract_lets | split
    | with_reducible refine Touch.of_snd (by assumption) ?_ | with_reducible refine Touch.of_fst (by assumption) ?_
    | with_reducible refine Touch.of_snd₃ (by assumption) ?_ | dsimp only | dsimp -zeta +zetaDelta only)

theorem blkDisableDone_touch (off : Nat) (s : State) :
    TouchR 0x1fb6b1c00 s (blkDisableDone off s) := by
  unfold blkDisableDone
  repeat' (first
    | with_reducible exact Touch.refl _ _ | with_reducible refine TouchR.next ?_
    | ((with_reducible apply Touch.via (blkOffReset_touch _ _)); decide)
    | ((with_reducible apply Touch.via (cfgReset_touch _ _)); decide)
    | ((with_reducible apply Touch.via (setBlk_touch _ _ _)); decide)
    | ((with_reducible apply Touch.via (shadowsApply_touch _ _)); decide)
    | ((with_reducible apply Touch.via (shadowsLive_touch _ _)); decide) | extract_lets | split
    | dsimp -zeta +zetaDelta only)

theorem blkEnableDone_touch (off : Nat) (s : State) :
    TouchR 0x4001800 s (blkEnableDone off s) := by
  unfold blkEnableDone
  repeat' (first
    | with_reducible exact Touch.refl _ _ | with_reducible refine TouchR.next ?_
    | ((with_reducible apply Touch.via (seqStart_touch _ _)); decide)
    | ((with_reducible apply Touch.via (setBlk_touch _ _ _)); decide)
    | ((with_reducible apply Touch.via (shadowsApply_touch _ _)); decide) | extract_lets | split
    | dsimp -zeta +zetaDelta only)

theorem abortDependents_touch (f : Frame0) (s : State) :
    Touch 0x3b3cb6000 s (abortDependents f s) := by
  unfold abortDependents
  repeat' (first
    | with_reducible exact Touch.refl _ _ | ((with_reducible apply Touch.via (abortDie_touch _ _)); decide)
    | ((with_reducible apply Touch.via (abortWhere_touch _ _)); decide) | split)

theorem parityFault_touch (f : Frame0) (off : Nat) (s : State) :
    Touch 0x1bbfcb6800 s (parityFault f off s) := by
  unfold parityFault
  repeat' (first
    | with_reducible exact Touch.refl _ _ | (with_reducible assumption)
    | with_reducible refine Touch.foldl _ _ (fun _ _ => ?_) ?_
    | with_reducible refine Touch.foldl_pair _ _ _ (fun _ _ => ?_) ?_
    | with_reducible refine Touch.foldl_fst _ _ _ (fun _ _ => ?_) ?_
    | with_reducible refine Touch.foldl_trip _ _ _ (fun _ _ => ?_) ?_
    | with_reducible refine Touch.foldl_mid _ _ _ (fun _ _ => ?_) ?_
    | ((with_reducible apply Touch.via (abortDependents_touch _ _)); decide)
    | ((with_reducible apply Touch.via (clusterBlockDown_touch _ _ _ _ _ _)); decide)
    | ((with_reducible apply Touch.via (logMod_touch _ _ _ _)); decide)
    | ((with_reducible apply Touch.via (markCore_touch _ _ _)); decide)
    | ((with_reducible apply Touch.via (noteAborts_touch _ _ _)); decide)
    | ((with_reducible apply Touch.via (setBlk_touch _ _ _)); decide) | extract_lets | split
    | with_reducible refine Touch.of_snd (by assumption) ?_ | with_reducible refine Touch.of_fst (by assumption) ?_
    | with_reducible refine Touch.of_snd₃ (by assumption) ?_ | dsimp only | dsimp -zeta +zetaDelta only)

theorem execCfgParityRecovery_touch (off : Nat) (s : State) :
    TouchR 0x140431800 s (execCfgParityRecovery off s) := by
  unfold execCfgParityRecovery
  repeat' (first
    | with_reducible exact Touch.refl _ _ | with_reducible refine TouchR.next ?_
    | ((with_reducible apply Touch.via (cfgRewrite_touch _ _)); decide)
    | ((with_reducible apply Touch.via (secRefuse_touch _)); decide)
    | ((with_reducible apply Touch.via (setBlk_touch _ _ _)); decide) | extract_lets | split
    | dsimp -zeta +zetaDelta only)

theorem rwbCompat_touch (who off : Nat) (v : W32) (f : Frame0) (s : State) :
    Touch 0x100031000 s (rwbCompat who off v f s) := by
  unfold rwbCompat
  repeat' (first
    | with_reducible exact Touch.refl _ _ | ((with_reducible apply Touch.via (setRwbOf_touch _ _ _ _)); decide)
    | ((with_reducible apply Touch.via (writeIgnored_touch _ _ _)); decide) | split)

theorem rwbNative_touch (who off : Nat) (v : W32) (f : Frame0) (s : State) :
    Touch 0x100031800 s (rwbNative who off v f s) := by
  unfold rwbNative
  repeat' (first
    | with_reducible exact Touch.refl _ _ | ((with_reducible apply Touch.via (setRwbOf_touch _ _ _ _)); decide)
    | ((with_reducible apply Touch.via (wrigBlk_touch _ _ _ _ _)); decide) | extract_lets | split)

theorem execRwbWrite_touch (who off : Nat) (v : W32) (s : State) :
    TouchR 0x140031800 s (execRwbWrite who off v s) := by
  unfold execRwbWrite
  repeat' (first
    | with_reducible exact Touch.refl _ _ | with_reducible refine TouchR.next ?_
    | ((with_reducible apply Touch.via (barDenied_touch _ _ _)); decide)
    | (with_reducible refine inDomain_touch _ _ _ _ (by decide) (fun _ => ?_))
    | ((with_reducible apply Touch.via (rwbCompat_touch _ _ _ _ _)); decide)
    | ((with_reducible apply Touch.via (rwbNative_touch _ _ _ _ _)); decide)
    | ((with_reducible apply Touch.via (secRefuse_touch _)); decide) | split)

theorem updOne_touch (s : State) (b : Nat) :
    Touch 0x1800 s (updOne s b) := by
  unfold updOne
  repeat' (first
    | with_reducible exact Touch.refl _ _ | ((with_reducible apply Touch.via (setBlk_touch _ _ _)); decide)
    | ((with_reducible apply Touch.via (shadowsApply_touch _ _)); decide) | extract_lets | split)

theorem execGlbUpdate_touch (who : Nat) (v : W32) (s : State) :
    TouchR 0x140031800 s (execGlbUpdate who v s) := by
  unfold execGlbUpdate
  repeat' (first
    | with_reducible exact Touch.refl _ _ | with_reducible refine Touch.foldl _ _ (fun _ _ => ?_) ?_
    | with_reducible refine TouchR.next ?_ | ((with_reducible apply Touch.via (barDenied_touch _ _ _)); decide)
    | (with_reducible refine inDomain_touch _ _ _ _ (by decide) (fun _ => ?_))
    | ((with_reducible apply Touch.via (secRefuse_touch _)); decide)
    | ((with_reducible apply Touch.via (updOne_touch _ _)); decide)
    | ((with_reducible apply Touch.via (writeIgnored_touch _ _ _)); decide) | split)

theorem wrigRing_touch (p r off : Nat) (x : Ring) (s : State) :
    Touch 0x100036000 s (wrigRing p r off x s) := by
  unfold wrigRing
  repeat' (first
    | with_reducible exact Touch.refl _ _ | ((with_reducible apply Touch.via (setRing_touch _ _ _ _)); decide)
    | ((with_reducible apply Touch.via (writeIgnored_touch _ _ _)); decide) | split)

theorem bar4Write_touch (p off : Nat) (v : W32) (s : State) :
    Touch 0x1100036000 s (bar4Write p off v s) := by
  unfold bar4Write
  repeat' (first
    | with_reducible exact Touch.refl _ _ | ((with_reducible apply Touch.via (emit_touch _ _)); decide)
    | ((with_reducible apply Touch.via (setFn_touch _ _ _)); decide)
    | ((with_reducible apply Touch.via (setRing_touch _ _ _ _)); decide)
    | ((with_reducible apply Touch.via (wrigRing_touch _ _ _ _ _)); decide) | extract_lets | split)

theorem execRegisterWrite_touch (who bar off : Nat) (v : W32) (whole : Bool) (s : State) :
    TouchR 0x1140037800 s (execRegisterWrite who bar off v whole s) := by
  unfold execRegisterWrite
  repeat' (first
    | with_reducible exact Touch.refl _ _ | with_reducible refine TouchR.next ?_
    | ((with_reducible apply Touch.via (bar4Write_touch _ _ _ _)); decide)
    | ((with_reducible apply Touch.via (barDenied_touch _ _ _)); decide)
    | (with_reducible refine inDomain_touch _ _ _ _ (by decide) (fun _ => ?_))
    | ((with_reducible apply Touch.via (rwbCompat_touch _ _ _ _ _)); decide)
    | ((with_reducible apply Touch.via (rwbNative_touch _ _ _ _ _)); decide)
    | ((with_reducible apply Touch.via (secRefuse_touch _)); decide)
    | ((with_reducible apply Touch.via (writeIgnored_touch _ _ _)); decide) | split)

/-! ### Mailbox -/

theorem putEntry_touch (p r : Nat) (e e' : InFlight) (s : State) :
    Touch 0x6000 s (putEntry p r e e' s) := by
  unfold putEntry
  repeat' (first
    | with_reducible exact Touch.refl _ _ | ((with_reducible apply Touch.via (setRing_touch _ _ _ _)); decide))

theorem runCmd_touch {m : Nat} (k : CmdSpec) (c : Cmd) (bad : InFlight → State → Option Result) (winter : InFlight → State → Bool) (wrong : InFlight → State → Bool) (body : InFlight → State → State × Option Result) (s : State) (hm : 0x1140036000 &&& m = 0x1140036000) (hb : ∀ e t, Touch m t (body e t).1) :
    TouchR m s (runCmd k c bad winter wrong body s) := by
  have hput : ∀ p r o n t, Touch m t (putEntry p r o n t) := fun p r o n t => (putEntry_touch p r o n t).mono (sub_mono (by decide) hm)
  have hend : ∀ p r o x t, Touch m t (endCmd p r o x t) := fun p r o x t => (endCmd_touch p r o x t).mono (sub_mono (by decide) hm)
  have hsec : ∀ t, Touch m t (secRefuse t) := fun t => (secRefuse_touch t).mono (sub_mono (by decide) hm)
  unfold runCmd
  split
  · exact TouchR.next (Touch.refl _ _)
  · split
    · exact TouchR.next (Touch.refl _ _)
    · split
      · refine TouchR.next (Touch.trans ?_ (hend _ _ _ _ _))
        split
        · exact hsec _
        · exact Touch.refl _ _
      · dsimp only
        split
        · exact TouchR.next ((hput _ _ _ _ _).trans (hb _ _))
        · exact TouchR.next ((hput _ _ _ _ _).trans ((hb _ _).trans (hend _ _ _ _ _)))
        · split
          · exact TouchR.next ((hput _ _ _ _ _).trans ((hb _ _).trans (hend _ _ _ _ _)))
          · exact TouchR.next ((hput _ _ _ _ _).trans (hend _ _ _ _ _))
        · exact TouchR.next ((hput _ _ _ _ _).trans (hend _ _ _ _ _))

theorem intoBuf_touch (c : Cmd) (k : Nat) (data : List Byte) (s : State) :
    Touch 0x1000000000 s (intoBuf c k data s) := by
  unfold intoBuf
  repeat' (first
    | with_reducible exact Touch.refl _ _ | ((with_reducible apply Touch.via (emit_touch _ _)); decide) | split)

theorem execUndefinedOpcodeCommand_touch (c : Cmd) (s : State) :
    TouchR 0x1100036000 s (execUndefinedOpcodeCommand c s) := by
  unfold execUndefinedOpcodeCommand
  repeat' (first
    | with_reducible exact Touch.refl _ _ | with_reducible refine TouchR.next ?_
    | ((with_reducible apply Touch.via (endCmd_touch _ _ _ _ _)); decide) | split)

theorem ringEnable_touch (p r : Nat) (x : Ring) (s : State) :
    Touch 0x100036000 s (ringEnable p r x s) := by
  unfold ringEnable
  repeat' (first
    | with_reducible exact Touch.refl _ _ | ((with_reducible apply Touch.via (ringFault_touch _ _ _ _)); decide)
    | ((with_reducible apply Touch.via (setRing_touch _ _ _ _)); decide) | extract_lets | split)

theorem ringDisable_touch (p r : Nat) (x : Ring) (s : State) :
    Touch 0x6000 s (ringDisable p r x s) := by
  unfold ringDisable
  repeat' (first
    | with_reducible exact Touch.refl _ _ | ((with_reducible apply Touch.via (setRing_touch _ _ _ _)); decide))

theorem execRingCtlWrite_touch (p r : Nat) (v : W32) (s : State) :
    TouchR 0x100036000 s (execRingCtlWrite p r v s) := by
  unfold execRingCtlWrite
  repeat' (first
    | with_reducible exact Touch.refl _ _ | with_reducible refine TouchR.next ?_
    | ((with_reducible apply Touch.via (ringDisable_touch _ _ _ _)); decide)
    | ((with_reducible apply Touch.via (ringEnable_touch _ _ _ _)); decide)
    | ((with_reducible apply Touch.via (setFn_touch _ _ _)); decide)
    | ((with_reducible apply Touch.via (setRing_touch _ _ _ _)); decide)
    | ((with_reducible apply Touch.via (wrigRing_touch _ _ _ _ _)); decide) | extract_lets | split
    | dsimp -zeta +zetaDelta only)

theorem ringDisabled_touch (p r : Nat) (s : State) :
    Touch 0x100036000 s (ringDisabled p r s) := by
  unfold ringDisabled
  repeat' (first
    | with_reducible exact Touch.refl _ _ | ((with_reducible apply Touch.via (ringEnable_touch _ _ _ _)); decide)
    | ((with_reducible apply Touch.via (setRing_touch _ _ _ _)); decide) | extract_lets | split)

theorem ringEnabled_touch (p r : Nat) (s : State) :
    Touch 0x6000 s (ringEnabled p r s) := by
  unfold ringEnabled
  repeat' (first
    | with_reducible exact Touch.refl _ _ | ((with_reducible apply Touch.via (ringDisable_touch _ _ _ _)); decide)
    | ((with_reducible apply Touch.via (setRing_touch _ _ _ _)); decide) | extract_lets | split)

theorem execBlockDisableDone_touch (off : Nat) (s : State) :
    TouchR 0x1fb6b7c00 s (execBlockDisableDone off s) := by
  unfold execBlockDisableDone
  repeat' (first
    | with_reducible exact Touch.refl _ _ | with_reducible refine TouchR.next ?_
    | with_reducible exact (blkDisableDone_touch _ _).mono (by decide)
    | ((with_reducible apply Touch.via (ringDisabled_touch _ _ _)); decide) | split)

theorem execBlockEnableDone_touch (off : Nat) (s : State) :
    TouchR 0x4007800 s (execBlockEnableDone off s) := by
  unfold execBlockEnableDone
  repeat' (first
    | with_reducible exact Touch.refl _ _ | with_reducible refine TouchR.next ?_
    | with_reducible exact (blkEnableDone_touch _ _).mono (by decide)
    | ((with_reducible apply Touch.via (ringEnabled_touch _ _ _)); decide) | split)

theorem fetchPass_touch (p r : Nat) (descs : List Desc) (s : State) :
    Touch 0x6000 s (fetchPass p r descs s) := by
  unfold fetchPass
  repeat' (first
    | with_reducible exact Touch.refl _ _ | ((with_reducible apply Touch.via (setRing_touch _ _ _ _)); decide))

theorem execRingDoorbell_touch (p r : Nat) (descs : List Desc) (s : State) :
    TouchR 0x100036000 s (execRingDoorbell p r descs s) := by
  unfold execRingDoorbell
  repeat' (first
    | with_reducible exact Touch.refl _ _ | with_reducible refine TouchR.next ?_
    | ((with_reducible apply Touch.via (fetchPass_touch _ _ _ _)); decide)
    | ((with_reducible apply Touch.via (setRing_touch _ _ _ _)); decide)
    | ((with_reducible apply Touch.via (writeIgnored_touch _ _ _)); decide) | extract_lets | split)

theorem execRingFetchResume_touch (p r : Nat) (descs : List Desc) (s : State) :
    TouchR 0x6000 s (execRingFetchResume p r descs s) := by
  unfold execRingFetchResume
  repeat' (first
    | with_reducible exact Touch.refl _ _ | with_reducible refine TouchR.next ?_
    | ((with_reducible apply Touch.via (fetchPass_touch _ _ _ _)); decide) | extract_lets | split)

theorem execPerstDeassert_touch (p : Nat) (s : State) :
    TouchR 0x6000 s (execPerstDeassert p s) := by
  unfold execPerstDeassert
  repeat' (first
    | with_reducible exact Touch.refl _ _ | with_reducible refine TouchR.next ?_
    | ((with_reducible apply Touch.via (setFn_touch _ _ _)); decide) | split)

theorem passSteward_touch (s : State) :
    Touch 0x8000 s (passSteward s) := by
  unfold passSteward
  repeat' (first | with_reducible exact Touch.refl _ _ | ((with_reducible apply Touch.setSteward); decide))

theorem failover_touch (s : State) :
    Touch 0x100038000 s (failover s) := by
  unfold failover
  repeat' (first
    | with_reducible exact Touch.refl _ _ | ((with_reducible apply Touch.via (logMod_touch _ _ _ _)); decide)
    | ((with_reducible apply Touch.via (passSteward_touch _)); decide))

theorem execLinkTrainingDone_touch (p : Nat) (s : State) :
    TouchR 0x10003e000 s (execLinkTrainingDone p s) := by
  unfold execLinkTrainingDone
  repeat' (first
    | with_reducible exact Touch.refl _ _ | with_reducible refine TouchR.next ?_
    | ((with_reducible apply Touch.via (failover_touch _)); decide)
    | ((with_reducible apply Touch.via (setFn_touch _ _ _)); decide) | extract_lets | split)

theorem execStewardFailover_touch (s : State) :
    TouchR 0x10003e000 s (execStewardFailover s) := by
  unfold execStewardFailover
  repeat' (first
    | with_reducible exact Touch.refl _ _ | with_reducible refine TouchR.next ?_
    | ((with_reducible apply Touch.via (failover_touch _)); decide)
    | ((with_reducible apply Touch.via (setFn_touch _ _ _)); decide) | split)

theorem execD3hotEntry_touch (p : Nat) (s : State) :
    TouchR 0x6000 s (execD3hotEntry p s) := by
  unfold execD3hotEntry
  repeat' (first
    | with_reducible exact Touch.refl _ _ | with_reducible refine TouchR.next ?_
    | ((with_reducible apply Touch.via (ringsOff_touch _ _)); decide)
    | ((with_reducible apply Touch.via (setFn_touch _ _ _)); decide) | split)

theorem execDeviceInfo_touch (c : Cmd) (s : State) :
    TouchR 0x1140036000 s (execDeviceInfo c s) := by
  unfold execDeviceInfo
  repeat' (first
    | with_reducible exact Touch.refl _ _ | ((with_reducible apply Touch.via (intoBuf_touch _ _ _ _)); decide)
    | (with_reducible refine runCmd_touch _ _ _ _ _ _ _ (by decide) (fun _ _ => ?_)))

theorem execProfileSelect_touch (c : Cmd) (s : State) :
    TouchR 0x1340036000 s (execProfileSelect c s) := by
  unfold execProfileSelect
  repeat' (first
    | with_reducible exact Touch.refl _ _
    | (with_reducible refine runCmd_touch _ _ _ _ _ _ _ (by decide) (fun _ _ => ?_))
    | ((with_reducible refine Touch.setFlash (by decide) ?_ ?_ ?_ ?_); exact rfl; exact rfl; exact rfl))

theorem execStewardTransfer_touch (c : Cmd) (s : State) :
    TouchR 0x114003e000 s (execStewardTransfer c s) := by
  unfold execStewardTransfer
  repeat' (first
    | with_reducible exact Touch.refl _ _ | ((with_reducible apply Touch.via (passSteward_touch _)); decide)
    | (with_reducible refine runCmd_touch _ _ _ _ _ _ _ (by decide) (fun _ _ => ?_)))

theorem execPowerCapSet_touch (c : Cmd) (s : State) :
    TouchR 0x1140036200 s (execPowerCapSet c s) := by
  unfold execPowerCapSet
  repeat' (first
    | with_reducible exact Touch.refl _ _
    | (with_reducible refine runCmd_touch _ _ _ _ _ _ _ (by decide) (fun _ _ => ?_))
    | ((with_reducible apply Touch.setCap); decide))

theorem execDomainControl_touch (c : Cmd) (s : State) :
    TouchR 0x1ffffffffe s (execDomainControl c s) := by
  unfold execDomainControl
  repeat' (first
    | with_reducible exact Touch.refl _ _
    | (with_reducible refine runCmd_touch _ _ _ _ _ _ _ (by decide) (fun _ _ => ?_))
    | ((with_reducible apply Touch.via (seqRun_touch _ _ _)); decide)
    | ((with_reducible apply Touch.setPwait); decide) | extract_lets | split)

/-! ### RackTime -/

theorem countUnavail_touch (n : Nat) (s : State) :
    Touch 0x280000000 s (countUnavail n s) := by
  unfold countUnavail
  exact Touch.setFlash (by decide) rfl rfl rfl (Touch.setRel (by decide) (Touch.refl _ _))

theorem passTicks_touch (n : Nat) (s : State) :
    Touch 0x290000000 s (passTicks n s) := by
  unfold passTicks
  repeat' (first
    | with_reducible exact Touch.refl _ _ | ((with_reducible apply Touch.via (countUnavail_touch _ _)); decide)
    | ((with_reducible apply Touch.via (setRtb_touch _ _)); decide)
    | ((with_reducible refine Touch.setFlash (by decide) ?_ ?_ ?_ ?_); exact rfl; exact rfl; exact rfl) | split
    | dsimp -zeta +zetaDelta only)

theorem arm_touch (at_ : W64) (x : Instant) (s : State) :
    Touch 0x10000000 s (arm at_ x s) := by
  unfold arm
  repeat' (first
    | with_reducible exact Touch.refl _ _ | ((with_reducible apply Touch.via (setRtb_touch _ _)); decide))

theorem execRtLoad_touch (c : Cmd) (s : State) :
    TouchR 0x1150036000 s (execRtLoad c s) := by
  unfold execRtLoad
  repeat' (first
    | with_reducible exact Touch.refl _ _
    | (with_reducible refine runCmd_touch _ _ _ _ _ _ _ (by decide) (fun _ _ => ?_))
    | ((with_reducible apply Touch.via (setRtb_touch _ _)); decide) | split)

theorem slip_touch (d : Int) (s : State) :
    Touch 0x110030000 s (slip d s) := by
  unfold slip
  repeat' (first
    | with_reducible exact Touch.refl _ _ | ((with_reducible apply Touch.via (logMod_touch _ _ _ _)); decide)
    | ((with_reducible apply Touch.via (setRtb_touch _ _)); decide))

theorem syncCheck_touch (s : State) :
    Touch 0x110030000 s (syncCheck s) := by
  unfold syncCheck
  repeat' (first
    | with_reducible exact Touch.refl _ _ | ((with_reducible apply Touch.via (setRtb_touch _ _)); decide)
    | ((with_reducible apply Touch.via (slip_touch _ _)); decide) | extract_lets | split)

theorem execRtbSyncPulse_touch (n : Nat) (s : State) :
    TouchR 0x390036000 s (execRtbSyncPulse n s) := by
  unfold execRtbSyncPulse
  repeat' (first
    | with_reducible exact Touch.refl _ _ | with_reducible refine TouchR.next ?_
    | ((with_reducible apply Touch.via (finishCmd_touch _ _ _ _ _ _)); decide)
    | ((with_reducible apply Touch.via (passTicks_touch _ _)); decide)
    | ((with_reducible apply Touch.via (setRtb_touch _ _)); decide)
    | ((with_reducible apply Touch.via (syncCheck_touch _)); decide) | extract_lets | split)

theorem execSlewAdjust_touch (n : Nat) (s : State) :
    TouchR 0x290000000 s (execSlewAdjust n s) := by
  unfold execSlewAdjust
  repeat' (first
    | with_reducible exact Touch.refl _ _ | with_reducible refine TouchR.next ?_
    | ((with_reducible apply Touch.via (passTicks_touch _ _)); decide)
    | ((with_reducible apply Touch.via (setRtb_touch _ _)); decide) | extract_lets | split)

theorem execRtbClkLoss_touch (s : State) :
    TouchR 0x110030000 s (execRtbClkLoss s) := by
  unfold execRtbClkLoss
  repeat' (first
    | with_reducible exact Touch.refl _ _ | with_reducible refine TouchR.next ?_
    | ((with_reducible apply Touch.via (rtbLoss_touch _ _)); decide)
    | ((with_reducible apply Touch.via (setRtb_touch _ _)); decide) | split)

theorem execRtbClkRelock_touch (s : State) :
    TouchR 0x10000000 s (execRtbClkRelock s) := by
  unfold execRtbClkRelock
  repeat' (first
    | with_reducible exact Touch.refl _ _ | with_reducible refine TouchR.next ?_
    | ((with_reducible apply Touch.via (setRtb_touch _ _)); decide) | split)

theorem execRtbSyncLossTimeout_touch (s : State) :
    TouchR 0x110030000 s (execRtbSyncLossTimeout s) := by
  unfold execRtbSyncLossTimeout
  repeat' (first
    | with_reducible exact Touch.refl _ _ | with_reducible refine TouchR.next ?_
    | ((with_reducible apply Touch.via (rtbLoss_touch _ _)); decide)
    | ((with_reducible apply Touch.via (setRtb_touch _ _)); decide) | split)

theorem execTimestampSend_touch (port n : Nat) (s : State) :
    TouchR 0x1290000000 s (execTimestampSend port n s) := by
  unfold execTimestampSend
  repeat' (first
    | with_reducible exact Touch.refl _ _ | with_reducible refine TouchR.next ?_
    | ((with_reducible apply Touch.via (emit_touch _ _)); decide)
    | ((with_reducible apply Touch.via (passTicks_touch _ _)); decide) | extract_lets | split)

theorem timeAct_touch (i port : Nat) (sum2 : Int) (n : Nat) (s : State) :
    Touch 0x110030000 s (timeAct i port sum2 n s) := by
  unfold timeAct
  repeat' (first
    | with_reducible exact Touch.refl _ _ | ((with_reducible apply Touch.via (logMod_touch _ _ _ _)); decide)
    | ((with_reducible apply Touch.via (setRtb_touch _ _)); decide) | extract_lets | split
    | dsimp -zeta +zetaDelta only)

theorem timeExchange_touch (i port : Nat) (tx echoTx echoRx corr : W64) (flags dist : Nat) (t4 : W64) (s : State) :
    Touch 0x110030000 s (timeExchange i port tx echoTx echoRx corr flags dist t4 s) := by
  unfold timeExchange
  repeat' (first
    | with_reducible exact Touch.refl _ _ | ((with_reducible apply Touch.via (retime_touch _)); decide)
    | ((with_reducible apply Touch.via (setRtb_touch _ _)); decide)
    | ((with_reducible apply Touch.via (setTimePort_touch _ _ _)); decide)
    | ((with_reducible apply Touch.via (timeAct_touch _ _ _ _ _)); decide) | extract_lets | split)

theorem execTimestampFrame_touch (port n part : Nat) (tx echoTx echoRx corr : W64) (flags dist : Nat) (s : State) :
    TouchR 0x390030000 s (execTimestampFrame port n part tx echoTx echoRx corr flags dist s) := by
  unfold execTimestampFrame
  repeat' (first
    | with_reducible exact Touch.refl _ _ | with_reducible refine TouchR.next ?_
    | ((with_reducible apply Touch.via (logFold_touch _ _ _ _ _ _ _)); decide)
    | ((with_reducible apply Touch.via (passTicks_touch _ _)); decide)
    | ((with_reducible apply Touch.via (setRtb_touch _ _)); decide)
    | ((with_reducible apply Touch.via (timeExchange_touch _ _ _ _ _ _ _ _ _ _)); decide) | extract_lets | split)

/-! ### Memory -/

theorem assignPage_touch (owner epoch pg : Nat) (s : State) :
    Touch 0x800000 s (assignPage owner epoch pg s) := by
  unfold assignPage
  repeat' (first
    | with_reducible exact Touch.refl _ _ | (with_reducible assumption)
    | with_reducible refine Touch.foldl _ _ (fun _ _ => ?_) ?_
    | with_reducible refine Touch.foldl_pair _ _ _ (fun _ _ => ?_) ?_
    | with_reducible refine Touch.foldl_fst _ _ _ (fun _ _ => ?_) ?_
    | with_reducible refine Touch.foldl_trip _ _ _ (fun _ _ => ?_) ?_
    | with_reducible refine Touch.foldl_mid _ _ _ (fun _ _ => ?_) ?_
    | ((with_reducible refine Touch.setMem (by decide) ?_ ?_); · intro hw; rw [mem_wf_iff] at hw ⊢; obtain ⟨h1, h2, h3, h4, h5, h6, h7⟩ := hw; refine ⟨?_, ?_, ?_, ?_, ?_, ?_, ?_⟩ <;> repeat' (first | assumption | with_reducible apply tok_tset | with_reducible apply tok_tmod | with_reducible apply tok_tclear | with_reducible apply tok_tsetRun | with_reducible apply tok_filter | with_reducible apply tok_tmove | with_reducible apply tok_tmap | with_reducible apply tok_tdrop | with_reducible apply tok_drops | with_reducible refine tok_foldl _ _ (fun _ _ _ => ?_) _ _ ?_ | split))
    | extract_lets | split | with_reducible refine Touch.of_snd (by assumption) ?_
    | with_reducible refine Touch.of_fst (by assumption) ?_ | with_reducible refine Touch.of_snd₃ (by assumption) ?_
    | dsimp only | dsimp -zeta +zetaDelta only)

theorem sweepTo_touch (pg upto : Nat) (s : State) :
    Touch 0x800000 s (sweepTo pg upto s) := by
  have hw := sweepTo_wf pg upto s
  unfold sweepTo at hw ⊢
  split
  · exact Touch.refl _ _
  · rename_i h
    simp only [h] at hw
    exact Touch.setMem (by decide) hw (Touch.refl _ _)

theorem movePage_touch (pg : Nat) (s : State) :
    Touch 0x800000 s (movePage pg s) := by
  unfold movePage
  repeat' (first
    | with_reducible exact Touch.refl _ _ | ((with_reducible apply Touch.via (sweepTo_touch _ _ _)); decide) | split)

theorem sweepTick_touch (s : State) :
    Touch 0x800000 s (sweepTick s) := by
  unfold sweepTick
  repeat' (first
    | with_reducible exact Touch.refl _ _ | (with_reducible assumption)
    | with_reducible refine Touch.foldl _ _ (fun _ _ => ?_) ?_
    | with_reducible refine Touch.foldl_pair _ _ _ (fun _ _ => ?_) ?_
    | with_reducible refine Touch.foldl_fst _ _ _ (fun _ _ => ?_) ?_
    | with_reducible refine Touch.foldl_trip _ _ _ (fun _ _ => ?_) ?_
    | with_reducible refine Touch.foldl_mid _ _ _ (fun _ _ => ?_) ?_
    | ((with_reducible apply Touch.via (sweepTo_touch _ _ _)); decide) | extract_lets | split
    | with_reducible refine Touch.of_snd (by assumption) ?_ | with_reducible refine Touch.of_fst (by assumption) ?_
    | with_reducible refine Touch.of_snd₃ (by assumption) ?_ | dsimp only | dsimp -zeta +zetaDelta only)

theorem trainTick_touch (s : State) :
    Touch 0x2000000 s (trainTick s) := by
  unfold trainTick
  repeat' (first
    | with_reducible exact Touch.refl _ _ | (with_reducible assumption)
    | with_reducible refine Touch.foldl _ _ (fun _ _ => ?_) ?_
    | with_reducible refine Touch.foldl_pair _ _ _ (fun _ _ => ?_) ?_
    | with_reducible refine Touch.foldl_fst _ _ _ (fun _ _ => ?_) ?_
    | with_reducible refine Touch.foldl_trip _ _ _ (fun _ _ => ?_) ?_
    | with_reducible refine Touch.foldl_mid _ _ _ (fun _ _ => ?_) ?_ | ((with_reducible apply Touch.setStk); decide)
    | extract_lets | split | with_reducible refine Touch.of_snd (by assumption) ?_
    | with_reducible refine Touch.of_fst (by assumption) ?_ | with_reducible refine Touch.of_snd₃ (by assumption) ?_
    | dsimp only | dsimp -zeta +zetaDelta only)

theorem idle_touch (s : State) :
    Touch 0x292800000 s (idle s) := by
  unfold idle
  repeat' (first
    | with_reducible exact Touch.refl _ _ | (with_reducible assumption)
    | with_reducible refine Touch.foldl _ _ (fun _ _ => ?_) ?_
    | with_reducible refine Touch.foldl_pair _ _ _ (fun _ _ => ?_) ?_
    | with_reducible refine Touch.foldl_fst _ _ _ (fun _ _ => ?_) ?_
    | with_reducible refine Touch.foldl_trip _ _ _ (fun _ _ => ?_) ?_
    | with_reducible refine Touch.foldl_mid _ _ _ (fun _ _ => ?_) ?_
    | ((with_reducible apply Touch.via (passTicks_touch _ _)); decide)
    | ((with_reducible apply Touch.via (sweepTick_touch _)); decide)
    | ((with_reducible apply Touch.via (trainTick_touch _)); decide) | extract_lets | split
    | with_reducible refine Touch.of_snd (by assumption) ?_ | with_reducible refine Touch.of_fst (by assumption) ?_
    | with_reducible refine Touch.of_snd₃ (by assumption) ?_ | dsimp only | dsimp -zeta +zetaDelta only)

theorem applyErrs_touch (errs : List (Nat × Nat)) (s : State) :
    Touch 0x800000 s (applyErrs errs s) := by
  unfold applyErrs
  repeat' (first
    | with_reducible exact Touch.refl _ _ | with_reducible refine Touch.foldl _ _ (fun _ _ => ?_) ?_
    | ((with_reducible refine Touch.setMem (by decide) ?_ ?_); · intro hw; rw [mem_wf_iff] at hw ⊢; obtain ⟨h1, h2, h3, h4, h5, h6, h7⟩ := hw; refine ⟨?_, ?_, ?_, ?_, ?_, ?_, ?_⟩ <;> repeat' (first | assumption | with_reducible apply tok_tset | with_reducible apply tok_tmod | with_reducible apply tok_tclear | with_reducible apply tok_tsetRun | with_reducible apply tok_filter | with_reducible apply tok_tmove | with_reducible apply tok_tmap | with_reducible apply tok_tdrop | with_reducible apply tok_drops | with_reducible refine tok_foldl _ _ (fun _ _ _ => ?_) _ _ ?_ | split))
    | split)

theorem markRow_touch (d row : Nat) (s : State) :
    Touch 0x301030000 s (markRow d row s) := by
  unfold markRow
  repeat' (first
    | with_reducible exact Touch.refl _ _ | ((with_reducible apply Touch.via (logMod_touch _ _ _ _)); decide)
    | ((with_reducible refine Touch.setFlash (by decide) ?_ ?_ ?_ ?_); exact rfl; exact rfl; exact rfl)
    | ((with_reducible apply Touch.setSrm); decide) | extract_lets | split)

theorem sramCorrected_touch (d row : Nat) (s : State) :
    Touch 0x301030000 s (sramCorrected d row s) := by
  unfold sramCorrected
  repeat' (first
    | with_reducible exact Touch.refl _ _ | ((with_reducible apply Touch.via (logFold_touch _ _ _ _ _ _ _)); decide)
    | ((with_reducible apply Touch.via (markRow_touch _ _ _)); decide)
    | ((with_reducible apply Touch.setSrm); decide) | extract_lets | split)

theorem sramUncorrectable_touch (d row : Nat) (s : State) :
    Touch 0x301030000 s (sramUncorrectable d row s) := by
  unfold sramUncorrectable
  repeat' (first
    | with_reducible exact Touch.refl _ _ | ((with_reducible apply Touch.via (logMod_touch _ _ _ _)); decide)
    | ((with_reducible apply Touch.via (markRow_touch _ _ _)); decide)
    | ((with_reducible apply Touch.setSrm); decide))

theorem tagMismatch_touch (d line tag realm : Nat) (s : State) :
    Touch 0x3b3cb6800 s (tagMismatch d line tag realm s) := by
  unfold tagMismatch
  repeat' (first
    | with_reducible exact Touch.refl _ _ | ((with_reducible apply Touch.via (abortDie_touch _ _)); decide)
    | ((with_reducible apply Touch.via (logFold_touch _ _ _ _ _ _ _)); decide)
    | ((with_reducible apply Touch.via (markRow_touch _ _ _)); decide)
    | ((with_reducible apply Touch.via (noteAborts_touch _ _ _)); decide)
    | ((with_reducible apply Touch.via (setBlk_touch _ _ _)); decide)
    | ((with_reducible apply Touch.setSrm); decide) | extract_lets | split)

theorem lineCheck_touch (r d off len : Nat) (a : Bool × State) (l : Nat) :
    Touch 0x3b3cb6800 a.2 (lineCheck r d off len a l).2 := by
  unfold lineCheck
  repeat' (first
    | with_reducible exact Touch.refl _ _ | with_reducible refine Touch.foldl_pair _ _ _ (fun _ _ => ?_) ?_
    | ((with_reducible apply Touch.via (sramCorrected_touch _ _ _)); decide)
    | ((with_reducible apply Touch.via (sramUncorrectable_touch _ _ _)); decide)
    | ((with_reducible apply Touch.via (tagMismatch_touch _ _ _ _ _)); decide) | split)

theorem sramRead_touch (r off len : Nat) (s : State) :
    Touch 0x3b3cb6800 s (sramRead r off len s).2.2 := by
  unfold sramRead
  repeat' (first
    | with_reducible exact Touch.refl _ _ | with_reducible refine Touch.foldl_pair _ _ _ (fun _ _ => ?_) ?_
    | ((with_reducible apply Touch.via (lineCheck_touch _ _ _ _ _ _)); decide))

theorem sramMend_touch (s : State) (w : Nat) :
    Touch 0xb01830000 s (sramMend s w) := by
  unfold sramMend
  repeat' (first
    | with_reducible exact Touch.refl _ _ | (with_reducible assumption)
    | with_reducible refine Touch.foldl _ _ (fun _ _ => ?_) ?_
    | with_reducible refine Touch.foldl_pair _ _ _ (fun _ _ => ?_) ?_
    | with_reducible refine Touch.foldl_fst _ _ _ (fun _ _ => ?_) ?_
    | with_reducible refine Touch.foldl_trip _ _ _ (fun _ _ => ?_) ?_
    | with_reducible refine Touch.foldl_mid _ _ _ (fun _ _ => ?_) ?_
    | ((with_reducible apply Touch.via (fresh_touch _)); decide)
    | ((with_reducible apply Touch.via (sramCorrected_touch _ _ _)); decide)
    | ((with_reducible apply Touch.via (sramUncorrectable_touch _ _ _)); decide)
    | ((with_reducible refine Touch.setMem (by decide) ?_ ?_); · intro hw; rw [mem_wf_iff] at hw ⊢; obtain ⟨h1, h2, h3, h4, h5, h6, h7⟩ := hw; refine ⟨?_, ?_, ?_, ?_, ?_, ?_, ?_⟩ <;> repeat' (first | assumption | with_reducible apply tok_tset | with_reducible apply tok_tmod | with_reducible apply tok_tclear | with_reducible apply tok_tsetRun | with_reducible apply tok_filter | with_reducible apply tok_tmove | with_reducible apply tok_tmap | with_reducible apply tok_tdrop | with_reducible apply tok_drops | with_reducible refine tok_foldl _ _ (fun _ _ _ => ?_) _ _ ?_ | split))
    | extract_lets | split | with_reducible refine Touch.of_snd (by assumption) ?_
    | with_reducible refine Touch.of_fst (by assumption) ?_ | with_reducible refine Touch.of_snd₃ (by assumption) ?_
    | dsimp only | dsimp -zeta +zetaDelta only)

theorem sramWrite_touch (r off : Nat) (data : List Byte) (s : State) :
    Touch 0xb01830000 s (sramWrite r off data s) := by
  refine Touch.trans (t := (((unitsOf off data.length 8).filter fun w => (tget none s.mem.line (w / 4)).isSome
    && !(off ≤ 8 * w && 8 * w + 8 ≤ off + data.length)).foldl sramMend s))
    (Touch.foldl _ _ (fun _ _ => (sramMend_touch _ _).mono (by decide)) (Touch.refl _ _)) ?_
  unfold sramWrite
  extract_lets len words valid s1 clean
  refine Touch.setMem (by decide) (fun hw => ?_) (Touch.refl _ _)
  rw [mem_wf_iff] at hw ⊢
  obtain ⟨h1, h2, h3, h4, h5, h6, h7⟩ := hw
  exact ⟨tok_tsetRun _ _ _ _ h1, tok_foldl _ _ (fun _ _ hb => tok_tset _ _ _ _ hb) _ _ h2, tok_drops _ _ _ h3, h4, h5, h6, h7⟩

theorem tagClear_touch (d slot : Nat) (s : State) :
    Touch 0x800000 s (tagClear d slot s) := by
  unfold tagClear
  repeat' (first
    | with_reducible exact Touch.refl _ _
    | ((with_reducible refine Touch.setMem (by decide) ?_ ?_); · intro hw; rw [mem_wf_iff] at hw ⊢; obtain ⟨h1, h2, h3, h4, h5, h6, h7⟩ := hw; refine ⟨?_, ?_, ?_, ?_, ?_, ?_, ?_⟩ <;> repeat' (first | assumption | with_reducible apply tok_tset | with_reducible apply tok_tmod | with_reducible apply tok_tclear | with_reducible apply tok_tsetRun | with_reducible apply tok_filter | with_reducible apply tok_tmove | with_reducible apply tok_tmap | with_reducible apply tok_tdrop | with_reducible apply tok_drops | with_reducible refine tok_foldl _ _ (fun _ _ _ => ?_) _ _ ?_ | split)))

theorem chanFailing_touch (n c cause : Nat) (s : State) :
    Touch 0x102030000 s (chanFailing n c cause s) := by
  unfold chanFailing
  repeat' (first
    | with_reducible exact Touch.refl _ _ | ((with_reducible apply Touch.via (logMod_touch _ _ _ _)); decide)
    | ((with_reducible apply Touch.via (setStack_touch _ _ _)); decide) | extract_lets | split)

theorem granuleCheck_touch (a : Bool × State) (g : Nat) :
    Touch 0x102030000 a.2 (granuleCheck a g).2 := by
  unfold granuleCheck
  repeat' (first
    | with_reducible exact Touch.refl _ _ | ((with_reducible apply Touch.via (chanFailing_touch _ _ _ _)); decide)
    | ((with_reducible apply Touch.via (logFold_touch _ _ _ _ _ _ _)); decide)
    | ((with_reducible apply Touch.via (logMod_touch _ _ _ _)); decide)
    | ((with_reducible apply Touch.via (setStack_touch _ _ _)); decide) | extract_lets | split)

theorem lpxRead_touch (off len : Nat) (s : State) :
    Touch 0x102030000 s (lpxRead off len s).2.2 := by
  unfold lpxRead
  repeat' (first
    | with_reducible exact Touch.refl _ _ | with_reducible refine Touch.foldl_pair _ _ _ (fun _ _ => ?_) ?_
    | ((with_reducible apply Touch.via (granuleCheck_touch _ _)); decide))

theorem lpxWrite_touch (off : Nat) (data : List Byte) (s : State) :
    Touch 0x800000 s (lpxWrite off data s) := by
  have hw := lpxWrite_wf off data s
  unfold lpxWrite at hw ⊢
  dsimp only at hw ⊢
  split
  · exact Touch.refl _ _
  · rename_i h
    rw [if_neg h] at hw
    exact Touch.setMem (by decide) hw (Touch.refl _ _)

theorem remoteDenied_touch (chip off check : Nat) (s : State) :
    Touch 0x100030000 s (remoteDenied chip off check s) := by
  unfold remoteDenied
  repeat' (first
    | with_reducible exact Touch.refl _ _ | ((with_reducible apply Touch.via (logFold_touch _ _ _ _ _ _ _)); decide))

theorem memRead_touch (realm off len : Nat) (s : State) :
    Touch 0x3b3cb6800 s (memRead realm off len s).2.2 := by
  unfold memRead
  repeat' (first
    | with_reducible exact Touch.refl _ _ | ((with_reducible apply Touch.via (lpxRead_touch _ _ _)); decide)
    | ((with_reducible apply Touch.via (sramRead_touch _ _ _ _)); decide) | split)

theorem memWrite_touch (realm off : Nat) (data : List Byte) (s : State) :
    Touch 0xb01830000 s (memWrite realm off data s) := by
  unfold memWrite
  repeat' (first
    | with_reducible exact Touch.refl _ _ | (with_reducible assumption)
    | with_reducible refine Touch.foldl _ _ (fun _ _ => ?_) ?_
    | with_reducible refine Touch.foldl_pair _ _ _ (fun _ _ => ?_) ?_
    | with_reducible refine Touch.foldl_fst _ _ _ (fun _ _ => ?_) ?_
    | with_reducible refine Touch.foldl_trip _ _ _ (fun _ _ => ?_) ?_
    | with_reducible refine Touch.foldl_mid _ _ _ (fun _ _ => ?_) ?_
    | ((with_reducible apply Touch.via (lpxWrite_touch _ _ _)); decide)
    | ((with_reducible apply Touch.via (sramWrite_touch _ _ _ _)); decide) | extract_lets | split
    | with_reducible refine Touch.of_snd (by assumption) ?_ | with_reducible refine Touch.of_fst (by assumption) ?_
    | with_reducible refine Touch.of_snd₃ (by assumption) ?_ | dsimp only | dsimp -zeta +zetaDelta only)

theorem stashAlloc_touch (d slot m page : Nat) (s : State) :
    TouchO 0x101030000 s (stashAlloc d slot m page s) := by
  unfold stashAlloc
  repeat' (first
    | with_reducible exact Touch.refl _ _ | with_reducible exact TouchO.none | with_reducible refine TouchO.some ?_
    | ((with_reducible apply Touch.via (logJob_touch _ _ _ _ _)); decide)
    | ((with_reducible apply Touch.via (setJobAt_touch _ _ _)); decide)
    | ((with_reducible apply Touch.setSrm); decide) | extract_lets | split)

theorem stashReserve_touch (d slot m b len : Nat) (s : State) :
    TouchO 0x101030000 s (stashReserve d slot m b len s) := by
  refine TouchP.foldl (p := fun t => t) _ _ (fun o p h => ?_) (TouchP.some (Touch.refl _ _))
  refine TouchP.bind h (fun t => ?_)
  split
  · exact TouchP.some (Touch.refl _ _)
  · exact (stashAlloc_touch _ _ _ _ _).mono (by decide)

theorem stashRead_touch (realm d slot m b len : Nat) (s : State) :
    TouchP (fun x => x.2.2) 0x3b3cb6800 s (stashRead realm d slot m b len s) := by
  unfold stashRead
  repeat' (first
    | with_reducible exact Touch.refl _ _ | with_reducible refine Touch.foldl_pair _ _ _ (fun _ _ => ?_) ?_
    | with_reducible exact TouchP.none | with_reducible refine TouchP.some ?_
    | ((with_reducible apply Touch.via (memRead_touch _ _ _ _)); decide) | extract_lets | split)

theorem stashWrite_touch (realm d slot m b : Nat) (data : List Byte) (s : State) :
    TouchO 0xb01830000 s (stashWrite realm d slot m b data s) := by
  refine TouchP.map (p := fun t => t) (q := fun t => t) ((stashReserve_touch _ _ _ _ _ _).mono (by decide)) (fun t => ?_)
  refine Touch.foldl _ _ (fun u p => ?_) (Touch.setSrm (by decide) (Touch.refl _ _))
  split
  · exact Touch.refl _ _
  · exact (memWrite_touch _ _ _ _).mono (by decide)

theorem placeRegion_touch (s : State) (ds : List Nat) (halfs : List (Option Nat)) (owner epoch bytes : Nat) :
    TouchP (fun x => x.2) 0x800000 s (placeRegion s ds halfs owner epoch bytes) := by
  unfold placeRegion
  dsimp only
  split
  · exact TouchP.none
  · refine TouchP.foldl (p := fun x : Region × State => x.2) _ _ (fun o jd h => ?_) (TouchP.some (Touch.refl _ _))
    refine TouchP.bind (q := fun x : Region × State => x.2) h (fun r => ?_)
    split
    · exact TouchP.some (Touch.refl _ _)
    · split
      · exact TouchP.none
      · refine TouchP.const (fun b => ?_)
        exact Touch.foldl _ _ (fun u i => (assignPage_touch _ _ _ _).mono (by decide)) (Touch.refl _ _)

/-! ### Quant -/

theorem nonfiniteSeen_touch (slot d c : Nat) (t : Tensor) (s : State) :
    Touch 0x100030000 s (nonfiniteSeen slot d c t s) := by
  unfold nonfiniteSeen
  repeat' (first
    | with_reducible exact Touch.refl _ _ | ((with_reducible apply Touch.via (logJob_touch _ _ _ _ _)); decide)
    | ((with_reducible apply Touch.via (setJobAt_touch _ _ _)); decide) | extract_lets | split)

theorem watCount_touch (d c slot tid : Nat) (n : QCount) (retries : Nat) (s : State) :
    Touch 0x100430000 s (watCount d c slot tid n retries s) := by
  unfold watCount
  repeat' (first
    | with_reducible exact Touch.refl _ _
    | ((with_reducible apply Touch.via (nonfiniteSeen_touch _ _ _ _ _)); decide)
    | ((with_reducible apply Touch.setCmp); decide) | split)

theorem logRecompute_touch (d c slot tid : Nat) (S sr : F32) (sat : Nat) (s : State) :
    Touch 0x100030000 s (logRecompute d c slot tid S sr sat s) := by
  unfold logRecompute
  repeat' (first
    | with_reducible exact Touch.refl _ _ | ((with_reducible apply Touch.via (logEv_touch _ _ _ _ _ _ _)); decide)
    | split)

theorem recomputeFailed_touch (d c slot tid : Nat) (s : State) :
    Touch 0x3b3cb6000 s (recomputeFailed d c slot tid s) := by
  unfold recomputeFailed
  repeat' (first
    | with_reducible exact Touch.refl _ _ | (with_reducible assumption)
    | with_reducible refine Touch.foldl _ _ (fun _ _ => ?_) ?_
    | with_reducible refine Touch.foldl_pair _ _ _ (fun _ _ => ?_) ?_
    | with_reducible refine Touch.foldl_fst _ _ _ (fun _ _ => ?_) ?_
    | with_reducible refine Touch.foldl_trip _ _ _ (fun _ _ => ?_) ?_
    | with_reducible refine Touch.foldl_mid _ _ _ (fun _ _ => ?_) ?_
    | ((with_reducible apply Touch.via (abortStep_touch _ _)); decide)
    | ((with_reducible apply Touch.via (logJob_touch _ _ _ _ _)); decide)
    | ((with_reducible apply Touch.via (setJobAt_touch _ _ _)); decide) | extract_lets | split
    | with_reducible refine Touch.of_snd (by assumption) ?_ | with_reducible refine Touch.of_fst (by assumption) ?_
    | with_reducible refine Touch.of_snd₃ (by assumption) ?_ | dsimp only | dsimp -zeta +zetaDelta only)

end Sys2Proof.Machine
end

