-- ==== Sys2Proof/Laws/TouchCluster.lean ====
section
/-! SUPPORT. What each operation and command may touch (see Laws/Touch.lean): tile cores, vector engines and control cores. -/

set_option maxRecDepth 4000

namespace Sys2Proof.Machine

open Sys2Proof

/-! ### Tile -/

theorem tileAdvance_touch (d c k : Nat) (x : Core) (s : State) :
    Touch 0x3b3cb6000 s (tileAdvance d c k x s) := by
  unfold tileAdvance
  repeat' (first
    | with_reducible exact Touch.refl _ _ | ((with_reducible apply Touch.via (setCore_touch _ _ _ _ _)); decide)
    | ((with_reducible apply Touch.via (tileFault_touch _ _ _ _ _)); decide) | split)

theorem tileIssue_touch {m : Nat} (d c k : Nat) (w : W32) (op : Nat → Bool) (body : Core → State → State) (s : State) (hm : 0x0 &&& m = 0x0) (hb : ∀ x t, Touch m t (body x t)) :
    TouchR m s (tileIssue d c k w op body s) := by
  unfold tileIssue
  split
  · exact TouchR.next (Touch.refl _ _)
  · exact TouchR.next (hb _ _)

theorem tileChecked_touch {m : Nat} (d c k : Nat) (w : W32) (used : Nat) (good : Bool) (body : Core → State → State) (x : Core) (s : State) (hm : 0x3b3cb6000 &&& m = 0x3b3cb6000) (hb : ∀ x t, Touch m t (body x t)) :
    Touch m s (tileChecked d c k w used good body x s) := by
  unfold tileChecked
  split
  · exact (tileFault_touch _ _ _ _ _).mono hm
  · exact hb _ _

theorem execTileNop_touch (d c k : Nat) (w : W32) (s : State) :
    TouchR 0x3b3cb6000 s (execTileNop d c k w s) := by
  unfold execTileNop
  repeat' (first
    | with_reducible exact Touch.refl _ _ | ((with_reducible apply Touch.via (tileAdvance_touch _ _ _ _ _)); decide)
    | (with_reducible refine tileChecked_touch _ _ _ _ _ _ _ _ _ (by decide) (fun _ _ => ?_))
    | (with_reducible refine tileIssue_touch _ _ _ _ _ _ _ (by decide) (fun _ _ => ?_)))

theorem execTileEnd_touch (d c k : Nat) (w : W32) (s : State) :
    TouchR 0x3b3cb6000 s (execTileEnd d c k w s) := by
  unfold execTileEnd
  repeat' (first
    | with_reducible exact Touch.refl _ _ | ((with_reducible apply Touch.via (setCore_touch _ _ _ _ _)); decide)
    | (with_reducible refine tileChecked_touch _ _ _ _ _ _ _ _ _ (by decide) (fun _ _ => ?_))
    | ((with_reducible apply Touch.via (tileFault_touch _ _ _ _ _)); decide)
    | (with_reducible refine tileIssue_touch _ _ _ _ _ _ _ (by decide) (fun _ _ => ?_)) | split)

theorem execSeta_touch (d c k : Nat) (w : W32) (s : State) :
    TouchR 0x3b3cb6000 s (execSeta d c k w s) := by
  unfold execSeta
  repeat' (first
    | with_reducible exact Touch.refl _ _ | ((with_reducible apply Touch.via (tileAdvance_touch _ _ _ _ _)); decide)
    | (with_reducible refine tileChecked_touch _ _ _ _ _ _ _ _ _ (by decide) (fun _ _ => ?_))
    | (with_reducible refine tileIssue_touch _ _ _ _ _ _ _ (by decide) (fun _ _ => ?_)))

theorem execAdda_touch (d c k : Nat) (w : W32) (s : State) :
    TouchR 0x3b3cb6000 s (execAdda d c k w s) := by
  unfold execAdda
  repeat' (first
    | with_reducible exact Touch.refl _ _ | ((with_reducible apply Touch.via (tileAdvance_touch _ _ _ _ _)); decide)
    | (with_reducible refine tileChecked_touch _ _ _ _ _ _ _ _ _ (by decide) (fun _ _ => ?_))
    | (with_reducible refine tileIssue_touch _ _ _ _ _ _ _ (by decide) (fun _ _ => ?_)))

theorem execLoop_touch (d c k : Nat) (w : W32) (s : State) :
    TouchR 0x3b3cb6000 s (execLoop d c k w s) := by
  unfold execLoop
  repeat' (first
    | with_reducible exact Touch.refl _ _ | ((with_reducible apply Touch.via (tileAdvance_touch _ _ _ _ _)); decide)
    | (with_reducible refine tileChecked_touch _ _ _ _ _ _ _ _ _ (by decide) (fun _ _ => ?_))
    | ((with_reducible apply Touch.via (tileFault_touch _ _ _ _ _)); decide)
    | (with_reducible refine tileIssue_touch _ _ _ _ _ _ _ (by decide) (fun _ _ => ?_)) | extract_lets | split)

theorem execEndl_touch (d c k : Nat) (w : W32) (s : State) :
    TouchR 0x3b3cb6000 s (execEndl d c k w s) := by
  unfold execEndl
  repeat' (first
    | with_reducible exact Touch.refl _ _ | ((with_reducible apply Touch.via (setCore_touch _ _ _ _ _)); decide)
    | ((with_reducible apply Touch.via (tileAdvance_touch _ _ _ _ _)); decide)
    | (with_reducible refine tileChecked_touch _ _ _ _ _ _ _ _ _ (by decide) (fun _ _ => ?_))
    | ((with_reducible apply Touch.via (tileFault_touch _ _ _ _ _)); decide)
    | (with_reducible refine tileIssue_touch _ _ _ _ _ _ _ (by decide) (fun _ _ => ?_)) | extract_lets | split)

theorem readLines_touch (d c k slot line n : Nat) (s : State) :
    Touch 0x3b3cb6800 s (readLines d c k slot line n s).2.2 := by
  unfold readLines
  repeat' (first
    | with_reducible exact Touch.refl _ _ | ((with_reducible apply Touch.via (memRead_touch _ _ _ _)); decide))

theorem execScl_touch (d c k : Nat) (w : W32) (errs : List (Nat × Nat)) (s : State) :
    TouchR 0x3b3cb6800 s (execScl d c k w errs s) := by
  unfold execScl
  refine tileIssue_touch _ _ _ _ _ _ _ (by decide) (fun _ _ => ?_)
  refine tileChecked_touch _ _ _ _ _ _ _ _ _ (by decide) (fun x t => ?_)
  have ht := (applyErrs_touch errs t).mono (n := 0x3b3cb6800) (by decide)
  revert ht
  generalize applyErrs errs t = u
  intro ht
  have hr := ht.trans ((memRead_touch (slotRealm t x.slot) (lineAddr d c k x.slot (arOf x (fld w 23 3)).toNat + 4 * fld w 0 3) 4 u).mono (by decide))
  revert hr
  dsimp only
  generalize memRead (slotRealm t x.slot) (lineAddr d c k x.slot (arOf x (fld w 23 3)).toNat + 4 * fld w 0 3) 4 u = r
  intro hr
  split
  · exact Touch.refl _ _
  · split
    · exact (tileFault_touch _ _ _ _ _).mono (by decide)
    · split
      · exact hr.trans ((tileFault_touch _ _ _ _ _).mono (by decide))
      · exact hr.trans ((tileAdvance_touch _ _ _ _ _).mono (by decide))

theorem execSync_touch (d c k : Nat) (w : W32) (s : State) :
    TouchR 0x3b3cb6000 s (execSync d c k w s) := by
  unfold execSync
  repeat' (first
    | with_reducible exact Touch.refl _ _ | ((with_reducible apply Touch.via (tileAdvance_touch _ _ _ _ _)); decide)
    | (with_reducible refine tileChecked_touch _ _ _ _ _ _ _ _ _ (by decide) (fun _ _ => ?_))
    | (with_reducible refine tileIssue_touch _ _ _ _ _ _ _ (by decide) (fun _ _ => ?_)) | split)

theorem enqueue_touch (d c k ar n : Nat) (pi : Bool) (e : QEntry) (x : Core) (s : State) :
    Touch 0x3b3cb6000 s (enqueue d c k ar n pi e x s) := by
  unfold enqueue
  repeat' (first
    | with_reducible exact Touch.refl _ _ | ((with_reducible apply Touch.via (tileAdvance_touch _ _ _ _ _)); decide))

theorem execWld_touch (d c k : Nat) (w : W32) (s : State) :
    TouchR 0x3b3cb6000 s (execWld d c k w s) := by
  unfold execWld
  repeat' (first
    | with_reducible exact Touch.refl _ _
    | ((with_reducible apply Touch.via (enqueue_touch _ _ _ _ _ _ _ _ _)); decide)
    | (with_reducible refine tileChecked_touch _ _ _ _ _ _ _ _ _ (by decide) (fun _ _ => ?_))
    | ((with_reducible apply Touch.via (tileFault_touch _ _ _ _ _)); decide)
    | (with_reducible refine tileIssue_touch _ _ _ _ _ _ _ (by decide) (fun _ _ => ?_)) | extract_lets | split)

theorem execMma_touch (d c k : Nat) (w : W32) (s : State) :
    TouchR 0x3b3cb6000 s (execMma d c k w s) := by
  unfold execMma
  repeat' (first
    | with_reducible exact Touch.refl _ _ | ((with_reducible apply Touch.via (checkAbandon_touch _ _ _ _)); decide)
    | ((with_reducible apply Touch.via (enqueue_touch _ _ _ _ _ _ _ _ _)); decide)
    | (with_reducible refine tileChecked_touch _ _ _ _ _ _ _ _ _ (by decide) (fun _ _ => ?_))
    | ((with_reducible apply Touch.via (tileFault_touch _ _ _ _ _)); decide)
    | (with_reducible refine tileIssue_touch _ _ _ _ _ _ _ (by decide) (fun _ _ => ?_)) | extract_lets | split
    | dsimp -zeta +zetaDelta only)

theorem execDrn_touch (d c k : Nat) (w : W32) (s : State) :
    TouchR 0x3b3cb6000 s (execDrn d c k w s) := by
  unfold execDrn
  repeat' (first
    | with_reducible exact Touch.refl _ _
    | ((with_reducible apply Touch.via (enqueue_touch _ _ _ _ _ _ _ _ _)); decide)
    | (with_reducible refine tileChecked_touch _ _ _ _ _ _ _ _ _ (by decide) (fun _ _ => ?_))
    | ((with_reducible apply Touch.via (tileFault_touch _ _ _ _ _)); decide)
    | (with_reducible refine tileIssue_touch _ _ _ _ _ _ _ (by decide) (fun _ _ => ?_)) | extract_lets | split)

theorem execWldStart_touch (d c k : Nat) (s : State) :
    TouchR 0x400000 s (execWldStart d c k s) := by
  unfold execWldStart
  repeat' (first
    | with_reducible exact Touch.refl _ _ | with_reducible refine TouchR.next ?_
    | ((with_reducible apply Touch.via (setCore_touch _ _ _ _ _)); decide) | extract_lets | split)

theorem execWldDone_touch (d c k : Nat) (errs : List (Nat × Nat)) (s : State) :
    TouchR 0x3b3cb6800 s (execWldDone d c k errs s) := by
  unfold execWldDone
  dsimp only
  split
  · exact TouchR.next (Touch.refl _ _)
  · split
    · rename_i pre a b f t post h
      have hr := Touch.via (readLines_touch d c k (core s d c k).slot a (t * wldLines f) (applyErrs errs s)) (n := 0x3b3cb6800) (by decide)
        ((applyErrs_touch errs s).mono (by decide))
      revert hr
      generalize readLines d c k (core s d c k).slot a (t * wldLines f) (applyErrs errs s) = r
      intro hr
      split
      · exact TouchR.next (hr.trans ((tileFault_touch _ _ _ _ _).mono (by decide)))
      · exact TouchR.next (hr.trans ((setCore_touch _ _ _ _ _).mono (by decide)))
    · exact TouchR.next (Touch.refl _ _)

theorem readOr_touch {m : Nat} (b : Bool) (r x : List Byte × Bool × State) (z : List Byte) (h : Touch m r.2.2 x.2.2) :
    Touch m r.2.2 (if b then readAnd r x else (r.1 ++ z, r.2)).2.2 := by
  split
  · exact h
  · exact Touch.refl _ _

theorem readGroup_touch (d c k slot a n : Nat) (ls : List Nat) (s : State) :
    Touch 0x3b3cb6800 s (readGroup d c k slot a n ls s).2.2 := by
  unfold readGroup
  exact Touch.foldl_trip _ _ _ (fun r l => readOr_touch _ r _ _ (readLines_touch d c k slot (a + l) 1 r.2.2)) (Touch.refl _ _)

theorem execMmaStart_touch (d c k : Nat) (errs : List (Nat × Nat)) (s : State) :
    TouchR 0x3b3cb6800 s (execMmaStart d c k errs s) := by
  unfold execMmaStart
  repeat' (first
    | with_reducible exact Touch.refl _ _ | with_reducible refine TouchR.next ?_
    | ((with_reducible apply Touch.via (applyErrs_touch _ _)); decide)
    | ((with_reducible apply Touch.via (readGroup_touch _ _ _ _ _ _ _ _)); decide)
    | ((with_reducible apply Touch.via (setCore_touch _ _ _ _ _)); decide)
    | ((with_reducible apply Touch.via (tileFault_touch _ _ _ _ _)); decide) | extract_lets | split)

theorem execMmaDone_touch (d c k : Nat) (s : State) :
    TouchR 0x400000 s (execMmaDone d c k s) := by
  unfold execMmaDone
  repeat' (first
    | with_reducible exact Touch.refl _ _ | with_reducible refine TouchR.next ?_
    | ((with_reducible apply Touch.via (setCore_touch _ _ _ _ _)); decide) | extract_lets | split)

theorem execDrnStart_touch (d c k : Nat) (s : State) :
    TouchR 0x400000 s (execDrnStart d c k s) := by
  unfold execDrnStart
  repeat' (first
    | with_reducible exact Touch.refl _ _ | with_reducible refine TouchR.next ?_
    | ((with_reducible apply Touch.via (setCore_touch _ _ _ _ _)); decide) | extract_lets | split)

theorem drnRow_touch (d c k slot a : Nat) (add : Bool) (acc : Bool × List F32 × State) (row : Nat × List F32) :
    Touch 0xbb3cb6800 acc.2.2 (drnRow d c k slot a add acc row).2.2 := by
  unfold drnRow
  repeat' (first
    | with_reducible exact Touch.refl _ _ | ((with_reducible apply Touch.via (memRead_touch _ _ _ _)); decide)
    | ((with_reducible apply Touch.via (memWrite_touch _ _ _ _)); decide) | extract_lets | split
    | dsimp -zeta +zetaDelta only)

theorem execDrnDone_touch (d c k : Nat) (errs : List (Nat × Nat)) (s : State) :
    TouchR 0xbb3cb6800 s (execDrnDone d c k errs s) := by
  unfold execDrnDone
  repeat' (first
    | with_reducible exact Touch.refl _ _ | with_reducible refine Touch.foldl_trip _ _ _ (fun _ _ => ?_) ?_
    | with_reducible refine TouchR.next ?_ | ((with_reducible apply Touch.via (applyErrs_touch _ _)); decide)
    | ((with_reducible apply Touch.via (drnRow_touch _ _ _ _ _ _ _ _)); decide)
    | ((with_reducible apply Touch.via (setCore_touch _ _ _ _ _)); decide)
    | ((with_reducible apply Touch.via (tileFault_touch _ _ _ _ _)); decide)
    | ((with_reducible apply Touch.via (watCount_touch _ _ _ _ _ _ _)); decide) | extract_lets | split)

theorem execTileTaskDone_touch (d c k : Nat) (s : State) :
    TouchR 0x80400000 s (execTileTaskDone d c k s) := by
  unfold execTileTaskDone
  repeat' (first
    | with_reducible exact Touch.refl _ _ | with_reducible refine TouchR.next ?_
    | ((with_reducible apply Touch.via (checkEnded_touch _ _ _ _)); decide)
    | ((with_reducible apply Touch.via (setCore_touch _ _ _ _ _)); decide) | extract_lets | split)

theorem execCoreSlotSwitch_touch (d c k : Nat) (s : State) :
    TouchR 0x400000 s (execCoreSlotSwitch d c k s) := by
  unfold execCoreSlotSwitch
  repeat' (first
    | with_reducible exact Touch.refl _ _ | with_reducible refine TouchR.next ?_
    | ((with_reducible apply Touch.via (setCore_touch _ _ _ _ _)); decide) | extract_lets | split)

theorem execIdleGatingRestore_touch (d q : Nat) (s : State) :
    TouchR 0x400008 s (execIdleGatingRestore d q s) := by
  unfold execIdleGatingRestore
  repeat' (first
    | with_reducible exact Touch.refl _ _ | with_reducible refine Touch.foldl _ _ (fun _ _ => ?_) ?_
    | with_reducible refine TouchR.next ?_ | ((with_reducible apply Touch.via (setDom_touch _ _ _)); decide)
    | ((with_reducible apply Touch.setCmp); decide) | split)

/-! ### Ve -/

theorem veAdvance_touch (d c slot : Nat) (v : Ve) (s : State) :
    Touch 0x3b3cb6000 s (veAdvance d c slot v s) := by
  unfold veAdvance
  repeat' (first
    | with_reducible exact Touch.refl _ _ | ((with_reducible apply Touch.via (setVe_touch _ _ _ _ _)); decide)
    | ((with_reducible apply Touch.via (veFault_touch _ _ _ _ _)); decide) | split)

theorem veIssue_touch {m : Nat} (d c slot : Nat) (w : W32) (op : Nat → Bool) (used : Nat) (good : Bool) (body : Ve → State → State) (s : State) (hm : 0x3b3cb6000 &&& m = 0x3b3cb6000) (hb : ∀ x t, Touch m t (body x t)) :
    TouchR m s (veIssue d c slot w op used good body s) := by
  unfold veIssue
  split
  · exact TouchR.next (Touch.refl _ _)
  · split
    · exact TouchR.next ((veFault_touch _ _ _ _ _).mono hm)
    · exact TouchR.next (hb _ _)

theorem execVnop_touch (d c slot : Nat) (w : W32) (s : State) :
    TouchR 0x3b3cb6000 s (execVnop d c slot w s) := by
  unfold execVnop
  repeat' (first
    | with_reducible exact Touch.refl _ _ | ((with_reducible apply Touch.via (veAdvance_touch _ _ _ _ _)); decide)
    | (with_reducible refine veIssue_touch _ _ _ _ _ _ _ _ _ (by decide) (fun _ _ => ?_)))

theorem execVend_touch (d c slot : Nat) (w : W32) (s : State) :
    TouchR 0x3b3cb6000 s (execVend d c slot w s) := by
  unfold execVend
  repeat' (first
    | with_reducible exact Touch.refl _ _ | ((with_reducible apply Touch.via (setVe_touch _ _ _ _ _)); decide)
    | (with_reducible refine veIssue_touch _ _ _ _ _ _ _ _ _ (by decide) (fun _ _ => ?_)))

theorem execVloop_touch (d c slot : Nat) (w : W32) (s : State) :
    TouchR 0x3b3cb6000 s (execVloop d c slot w s) := by
  unfold execVloop
  repeat' (first
    | with_reducible exact Touch.refl _ _ | ((with_reducible apply Touch.via (veAdvance_touch _ _ _ _ _)); decide)
    | ((with_reducible apply Touch.via (veFault_touch _ _ _ _ _)); decide)
    | (with_reducible refine veIssue_touch _ _ _ _ _ _ _ _ _ (by decide) (fun _ _ => ?_)) | extract_lets | split)

theorem execVendl_touch (d c slot : Nat) (w : W32) (s : State) :
    TouchR 0x3b3cb6000 s (execVendl d c slot w s) := by
  unfold execVendl
  repeat' (first
    | with_reducible exact Touch.refl _ _ | ((with_reducible apply Touch.via (setVe_touch _ _ _ _ _)); decide)
    | ((with_reducible apply Touch.via (veAdvance_touch _ _ _ _ _)); decide)
    | ((with_reducible apply Touch.via (veFault_touch _ _ _ _ _)); decide)
    | (with_reducible refine veIssue_touch _ _ _ _ _ _ _ _ _ (by decide) (fun _ _ => ?_)) | extract_lets | split)

theorem execVsetvl_touch (d c slot : Nat) (w : W32) (s : State) :
    TouchR 0x3b3cb6000 s (execVsetvl d c slot w s) := by
  unfold execVsetvl
  repeat' (first
    | with_reducible exact Touch.refl _ _ | ((with_reducible apply Touch.via (veAdvance_touch _ _ _ _ _)); decide)
    | (with_reducible refine veIssue_touch _ _ _ _ _ _ _ _ _ (by decide) (fun _ _ => ?_)))

theorem execVadda_touch (d c slot : Nat) (w : W32) (s : State) :
    TouchR 0x3b3cb6000 s (execVadda d c slot w s) := by
  unfold execVadda
  repeat' (first
    | with_reducible exact Touch.refl _ _ | ((with_reducible apply Touch.via (veAdvance_touch _ _ _ _ _)); decide)
    | (with_reducible refine veIssue_touch _ _ _ _ _ _ _ _ _ (by decide) (fun _ _ => ?_)))

theorem execVaddr_touch (d c slot : Nat) (w : W32) (s : State) :
    TouchR 0x3b3cb6000 s (execVaddr d c slot w s) := by
  unfold execVaddr
  repeat' (first
    | with_reducible exact Touch.refl _ _ | ((with_reducible apply Touch.via (veAdvance_touch _ _ _ _ _)); decide)
    | (with_reducible refine veIssue_touch _ _ _ _ _ _ _ _ _ (by decide) (fun _ _ => ?_)))

theorem execVli_touch (d c slot : Nat) (w : W32) (s : State) :
    TouchR 0x3b3cb6000 s (execVli d c slot w s) := by
  unfold execVli
  repeat' (first
    | with_reducible exact Touch.refl _ _ | ((with_reducible apply Touch.via (veAdvance_touch _ _ _ _ _)); decide)
    | (with_reducible refine veIssue_touch _ _ _ _ _ _ _ _ _ (by decide) (fun _ _ => ?_)))

theorem veReads_touch (d c slot n : Nat) (as_ : List W32) (s : State) :
    Touch 0x3b3cb6800 s (veReads d c slot n as_ s).2.2 := by
  unfold veReads
  repeat' (first
    | with_reducible exact Touch.refl _ _ | with_reducible refine Touch.foldl_trip _ _ _ (fun _ _ => ?_) ?_
    | ((with_reducible apply Touch.via (memRead_touch _ _ _ _)); decide) | split)

theorem veWrites_touch (d c slot n : Nat) (l : List (W32 × Nat)) (s : State) :
    Touch 0xb01830000 s (veWrites d c slot n l s) := by
  unfold veWrites
  repeat' (first
    | with_reducible exact Touch.refl _ _ | with_reducible refine Touch.foldl _ _ (fun _ _ => ?_) ?_
    | ((with_reducible apply Touch.via (memWrite_touch _ _ _ _)); decide) | split)

theorem veLoad_touch (d c slot : Nat) (w : W32) (errs : List (Nat × Nat)) (addr : Nat → W32) (v : Ve) (s : State) :
    Touch 0x3b3cb6800 s (veLoad d c slot w errs addr v s) := by
  unfold veLoad
  repeat' (first
    | with_reducible exact Touch.refl _ _ | ((with_reducible apply Touch.via (applyErrs_touch _ _)); decide)
    | ((with_reducible apply Touch.via (veAdvance_touch _ _ _ _ _)); decide)
    | ((with_reducible apply Touch.via (veFault_touch _ _ _ _ _)); decide)
    | ((with_reducible apply Touch.via (veReads_touch _ _ _ _ _ _)); decide) | extract_lets | split)

theorem veStore_touch (d c slot : Nat) (w : W32) (addr : Nat → W32) (v : Ve) (s : State) :
    Touch 0xbb3cb6000 s (veStore d c slot w addr v s) := by
  unfold veStore
  repeat' (first
    | with_reducible exact Touch.refl _ _ | ((with_reducible apply Touch.via (veAdvance_touch _ _ _ _ _)); decide)
    | ((with_reducible apply Touch.via (veFault_touch _ _ _ _ _)); decide)
    | ((with_reducible apply Touch.via (veWrites_touch _ _ _ _ _ _)); decide) | extract_lets | split)

theorem execVld_touch (d c slot : Nat) (w : W32) (errs : List (Nat × Nat)) (s : State) :
    TouchR 0x3b3cb6800 s (execVld d c slot w errs s) := by
  unfold execVld
  repeat' (first
    | with_reducible exact Touch.refl _ _
    | (with_reducible refine veIssue_touch _ _ _ _ _ _ _ _ _ (by decide) (fun _ _ => ?_))
    | ((with_reducible apply Touch.via (veLoad_touch _ _ _ _ _ _ _ _)); decide))

theorem execVst_touch (d c slot : Nat) (w : W32) (s : State) :
    TouchR 0xbb3cb6000 s (execVst d c slot w s) := by
  unfold execVst
  repeat' (first
    | with_reducible exact Touch.refl _ _
    | (with_reducible refine veIssue_touch _ _ _ _ _ _ _ _ _ (by decide) (fun _ _ => ?_))
    | ((with_reducible apply Touch.via (veStore_touch _ _ _ _ _ _ _)); decide))

theorem execVldx_touch (d c slot : Nat) (w : W32) (errs : List (Nat × Nat)) (s : State) :
    TouchR 0x3b3cb6800 s (execVldx d c slot w errs s) := by
  unfold execVldx
  repeat' (first
    | with_reducible exact Touch.refl _ _
    | (with_reducible refine veIssue_touch _ _ _ _ _ _ _ _ _ (by decide) (fun _ _ => ?_))
    | ((with_reducible apply Touch.via (veLoad_touch _ _ _ _ _ _ _ _)); decide))

theorem execVstx_touch (d c slot : Nat) (w : W32) (s : State) :
    TouchR 0xbb3cb6000 s (execVstx d c slot w s) := by
  unfold execVstx
  repeat' (first
    | with_reducible exact Touch.refl _ _
    | (with_reducible refine veIssue_touch _ _ _ _ _ _ _ _ _ (by decide) (fun _ _ => ?_))
    | ((with_reducible apply Touch.via (veStore_touch _ _ _ _ _ _ _)); decide))

theorem execVldb_touch (d c slot : Nat) (w : W32) (errs : List (Nat × Nat)) (s : State) :
    TouchR 0x3b3cb6800 s (execVldb d c slot w errs s) := by
  unfold execVldb
  repeat' (first
    | with_reducible exact Touch.refl _ _
    | (with_reducible refine veIssue_touch _ _ _ _ _ _ _ _ _ (by decide) (fun _ _ => ?_))
    | ((with_reducible apply Touch.via (veLoad_touch _ _ _ _ _ _ _ _)); decide))

theorem execVari_touch (d c slot : Nat) (w : W32) (s : State) :
    TouchR 0x3b3cb6000 s (execVari d c slot w s) := by
  unfold execVari
  repeat' (first
    | with_reducible exact Touch.refl _ _ | ((with_reducible apply Touch.via (veAdvance_touch _ _ _ _ _)); decide)
    | (with_reducible refine veIssue_touch _ _ _ _ _ _ _ _ _ (by decide) (fun _ _ => ?_)))

theorem execVfma_touch (d c slot : Nat) (w : W32) (s : State) :
    TouchR 0x3b3cb6000 s (execVfma d c slot w s) := by
  unfold execVfma
  repeat' (first
    | with_reducible exact Touch.refl _ _ | ((with_reducible apply Touch.via (veAdvance_touch _ _ _ _ _)); decide)
    | (with_reducible refine veIssue_touch _ _ _ _ _ _ _ _ _ (by decide) (fun _ _ => ?_)))

theorem execVun_touch (d c slot : Nat) (w : W32) (s : State) :
    TouchR 0x3b3cb6000 s (execVun d c slot w s) := by
  unfold execVun
  repeat' (first
    | with_reducible exact Touch.refl _ _ | ((with_reducible apply Touch.via (veAdvance_touch _ _ _ _ _)); decide)
    | (with_reducible refine veIssue_touch _ _ _ _ _ _ _ _ _ (by decide) (fun _ _ => ?_)))

theorem execVcmp_touch (d c slot : Nat) (w : W32) (s : State) :
    TouchR 0x3b3cb6000 s (execVcmp d c slot w s) := by
  unfold execVcmp
  repeat' (first
    | with_reducible exact Touch.refl _ _ | ((with_reducible apply Touch.via (veAdvance_touch _ _ _ _ _)); decide)
    | (with_reducible refine veIssue_touch _ _ _ _ _ _ _ _ _ (by decide) (fun _ _ => ?_)))

theorem execVmsk_touch (d c slot : Nat) (w : W32) (s : State) :
    TouchR 0x3b3cb6000 s (execVmsk d c slot w s) := by
  unfold execVmsk
  repeat' (first
    | with_reducible exact Touch.refl _ _ | ((with_reducible apply Touch.via (veAdvance_touch _ _ _ _ _)); decide)
    | (with_reducible refine veIssue_touch _ _ _ _ _ _ _ _ _ (by decide) (fun _ _ => ?_)))

theorem execVsel_touch (d c slot : Nat) (w : W32) (s : State) :
    TouchR 0x3b3cb6000 s (execVsel d c slot w s) := by
  unfold execVsel
  repeat' (first
    | with_reducible exact Touch.refl _ _ | ((with_reducible apply Touch.via (veAdvance_touch _ _ _ _ _)); decide)
    | (with_reducible refine veIssue_touch _ _ _ _ _ _ _ _ _ (by decide) (fun _ _ => ?_)))

theorem execVcvt_touch (d c slot : Nat) (w : W32) (s : State) :
    TouchR 0x3b3cb6000 s (execVcvt d c slot w s) := by
  unfold execVcvt
  repeat' (first
    | with_reducible exact Touch.refl _ _ | ((with_reducible apply Touch.via (veAdvance_touch _ _ _ _ _)); decide)
    | (with_reducible refine veIssue_touch _ _ _ _ _ _ _ _ _ (by decide) (fun _ _ => ?_)))

theorem execVred_touch (d c slot : Nat) (w : W32) (s : State) :
    TouchR 0x3b3cb6000 s (execVred d c slot w s) := by
  unfold execVred
  repeat' (first
    | with_reducible exact Touch.refl _ _ | ((with_reducible apply Touch.via (veAdvance_touch _ _ _ _ _)); decide)
    | (with_reducible refine veIssue_touch _ _ _ _ _ _ _ _ _ (by decide) (fun _ _ => ?_)))

theorem execVsum_touch (d c slot : Nat) (w : W32) (s : State) :
    TouchR 0x3b3cb6000 s (execVsum d c slot w s) := by
  unfold execVsum
  repeat' (first
    | with_reducible exact Touch.refl _ _ | ((with_reducible apply Touch.via (veAdvance_touch _ _ _ _ _)); decide)
    | ((with_reducible apply Touch.via (veFault_touch _ _ _ _ _)); decide)
    | (with_reducible refine veIssue_touch _ _ _ _ _ _ _ _ _ (by decide) (fun _ _ => ?_)) | extract_lets | split)

theorem execVtid_touch (d c slot : Nat) (w : W32) (s : State) :
    TouchR 0x3b3cb6000 s (execVtid d c slot w s) := by
  unfold execVtid
  repeat' (first
    | with_reducible exact Touch.refl _ _ | ((with_reducible apply Touch.via (veAdvance_touch _ _ _ _ _)); decide)
    | (with_reducible refine veIssue_touch _ _ _ _ _ _ _ _ _ (by decide) (fun _ _ => ?_)))

theorem quantCount_touch (d c slot tid : Nat) (S : F32) (n : QCount) (retry : Option (F32 × Nat)) (s : State) :
    Touch 0x100430000 s (quantCount d c slot tid S n retry s) := by
  unfold quantCount
  repeat' (first
    | with_reducible exact Touch.refl _ _
    | ((with_reducible apply Touch.via (logRecompute_touch _ _ _ _ _ _ _ _)); decide)
    | ((with_reducible apply Touch.via (watCount_touch _ _ _ _ _ _ _)); decide) | split)

theorem vqntWrite_touch (d c slot : Nat) (w : W32) (v : Ve) (j : Job) (t : Tensor) (b : Nat) (s : State) :
    Touch 0xbb3cb6800 s (vqntWrite d c slot w v j t b s) := by
  unfold vqntWrite
  repeat' (first
    | with_reducible exact Touch.refl _ _ | ((with_reducible apply Touch.via (memRead_touch _ _ _ _)); decide)
    | ((with_reducible apply Touch.via (memWrite_touch _ _ _ _)); decide)
    | ((with_reducible apply Touch.via (quantCount_touch _ _ _ _ _ _ _ _)); decide)
    | ((with_reducible apply Touch.via (recomputeFailed_touch _ _ _ _ _)); decide)
    | ((with_reducible apply Touch.via (veAdvance_touch _ _ _ _ _)); decide)
    | ((with_reducible apply Touch.via (veFault_touch _ _ _ _ _)); decide) | extract_lets | split)

theorem execVqnt_touch (d c slot : Nat) (w : W32) (errs : List (Nat × Nat)) (s : State) :
    TouchR 0xbb3cb6800 s (execVqnt d c slot w errs s) := by
  unfold execVqnt
  repeat' (first
    | with_reducible exact Touch.refl _ _ | ((with_reducible apply Touch.via (applyErrs_touch _ _)); decide)
    | ((with_reducible apply Touch.via (veFault_touch _ _ _ _ _)); decide)
    | (with_reducible refine veIssue_touch _ _ _ _ _ _ _ _ _ (by decide) (fun _ _ => ?_))
    | ((with_reducible apply Touch.via (vqntWrite_touch _ _ _ _ _ _ _ _ _)); decide) | extract_lets | split)

theorem execVdq_touch (d c slot : Nat) (w : W32) (errs : List (Nat × Nat)) (s : State) :
    TouchR 0x3b3cb6800 s (execVdq d c slot w errs s) := by
  unfold execVdq
  repeat' (first
    | with_reducible exact Touch.refl _ _ | ((with_reducible apply Touch.via (applyErrs_touch _ _)); decide)
    | ((with_reducible apply Touch.via (memRead_touch _ _ _ _)); decide)
    | ((with_reducible apply Touch.via (veAdvance_touch _ _ _ _ _)); decide)
    | ((with_reducible apply Touch.via (veFault_touch _ _ _ _ _)); decide)
    | (with_reducible refine veIssue_touch _ _ _ _ _ _ _ _ _ (by decide) (fun _ _ => ?_)) | extract_lets | split)

theorem lossPost_touch (slot : Nat) (p : LossPost) (s : State) :
    Touch 0x30000 s (lossPost slot p s) := by
  unfold lossPost
  repeat' (first
    | with_reducible exact Touch.refl _ _ | ((with_reducible apply Touch.via (setJobAt_touch _ _ _)); decide)
    | extract_lets | split)

theorem execVloss_touch (d c slot : Nat) (w : W32) (s : State) :
    TouchR 0x3b3cb6000 s (execVloss d c slot w s) := by
  unfold execVloss
  repeat' (first
    | with_reducible exact Touch.refl _ _ | ((with_reducible apply Touch.via (lossPost_touch _ _ _)); decide)
    | ((with_reducible apply Touch.via (veAdvance_touch _ _ _ _ _)); decide)
    | ((with_reducible apply Touch.via (veFault_touch _ _ _ _ _)); decide)
    | (with_reducible refine veIssue_touch _ _ _ _ _ _ _ _ _ (by decide) (fun _ _ => ?_))
    | ((with_reducible apply Touch.via (watCount_touch _ _ _ _ _ _ _)); decide) | split)

theorem execVeProgramDone_touch (d c slot : Nat) (s : State) :
    TouchR 0x400000 s (execVeProgramDone d c slot s) := by
  unfold execVeProgramDone
  repeat' (first
    | with_reducible exact Touch.refl _ _ | with_reducible refine TouchR.next ?_
    | ((with_reducible apply Touch.via (setCcc_touch _ _ _ _ _)); decide)
    | ((with_reducible apply Touch.via (setVe_touch _ _ _ _ _)); decide) | extract_lets | split)

/-! ### Ccc -/

theorem cccGoto_touch (d c slot : Nat) (x : Ccc) (target : Int) (s : State) :
    Touch 0x3b3cb6000 s (cccGoto d c slot x target s) := by
  unfold cccGoto
  repeat' (first
    | with_reducible exact Touch.refl _ _ | ((with_reducible apply Touch.via (cccFault_touch _ _ _ _ _ _)); decide)
    | ((with_reducible apply Touch.via (setCcc_touch _ _ _ _ _)); decide) | extract_lets | split)

theorem cccNext_touch (d c slot : Nat) (x : Ccc) (s : State) :
    Touch 0x3b3cb6000 s (cccNext d c slot x s) := by
  unfold cccNext
  repeat' (first
    | with_reducible exact Touch.refl _ _ | ((with_reducible apply Touch.via (cccGoto_touch _ _ _ _ _ _)); decide))

theorem cccIssue_touch {m : Nat} (d c slot : Nat) (w : W32) (op : Nat → Bool) (used : Nat) (good : Bool) (regs : List Nat) (body : Ccc → State → State) (s : State) (hm : 0x3b3cb6000 &&& m = 0x3b3cb6000) (hb : ∀ x t, Touch m t (body x t)) :
    TouchR m s (cccIssue d c slot w op used good regs body s) := by
  unfold cccIssue
  split
  · exact TouchR.next (Touch.refl _ _)
  · split
    · exact TouchR.next ((cccFault_touch _ _ _ _ _ _).mono hm)
    · split
      · exact TouchR.next ((setCcc_touch _ _ _ _ _).mono (sub_mono (by decide) hm))
      · exact TouchR.next (hb _ _)

theorem execCccNop_touch (d c slot : Nat) (w : W32) (s : State) :
    TouchR 0x3b3cb6000 s (execCccNop d c slot w s) := by
  unfold execCccNop
  repeat' (first
    | with_reducible exact Touch.refl _ _
    | (with_reducible refine cccIssue_touch _ _ _ _ _ _ _ _ _ _ (by decide) (fun _ _ => ?_))
    | ((with_reducible apply Touch.via (cccNext_touch _ _ _ _ _)); decide))

theorem cccPut_touch (d c slot : Nat) (w : W32) (f : Ccc → W64) (x : Ccc) (s : State) :
    Touch 0x3b3cb6000 s (cccPut d c slot w f x s) := by
  unfold cccPut
  repeat' (first
    | with_reducible exact Touch.refl _ _ | ((with_reducible apply Touch.via (cccNext_touch _ _ _ _ _)); decide))

theorem execCccAlu_touch (d c slot : Nat) (w : W32) (s : State) :
    TouchR 0x3b3cb6000 s (execCccAlu d c slot w s) := by
  unfold execCccAlu
  repeat' (first
    | with_reducible exact Touch.refl _ _
    | (with_reducible refine cccIssue_touch _ _ _ _ _ _ _ _ _ _ (by decide) (fun _ _ => ?_))
    | ((with_reducible apply Touch.via (cccPut_touch _ _ _ _ _ _ _)); decide))

theorem execCccAddi_touch (d c slot : Nat) (w : W32) (s : State) :
    TouchR 0x3b3cb6000 s (execCccAddi d c slot w s) := by
  unfold execCccAddi
  repeat' (first
    | with_reducible exact Touch.refl _ _
    | (with_reducible refine cccIssue_touch _ _ _ _ _ _ _ _ _ _ (by decide) (fun _ _ => ?_))
    | ((with_reducible apply Touch.via (cccPut_touch _ _ _ _ _ _ _)); decide))

theorem execCccLui_touch (d c slot : Nat) (w : W32) (s : State) :
    TouchR 0x3b3cb6000 s (execCccLui d c slot w s) := by
  unfold execCccLui
  repeat' (first
    | with_reducible exact Touch.refl _ _
    | (with_reducible refine cccIssue_touch _ _ _ _ _ _ _ _ _ _ (by decide) (fun _ _ => ?_))
    | ((with_reducible apply Touch.via (cccPut_touch _ _ _ _ _ _ _)); decide))

theorem execCccOri_touch (d c slot : Nat) (w : W32) (s : State) :
    TouchR 0x3b3cb6000 s (execCccOri d c slot w s) := by
  unfold execCccOri
  repeat' (first
    | with_reducible exact Touch.refl _ _
    | (with_reducible refine cccIssue_touch _ _ _ _ _ _ _ _ _ _ (by decide) (fun _ _ => ?_))
    | ((with_reducible apply Touch.via (cccPut_touch _ _ _ _ _ _ _)); decide))

theorem execCccLd_touch (d c slot : Nat) (w : W32) (errs : List (Nat × Nat)) (s : State) :
    TouchR 0x3b3cb6800 s (execCccLd d c slot w errs s) := by
  unfold execCccLd
  refine cccIssue_touch _ _ _ _ _ _ _ _ _ _ (by decide) (fun x t => ?_)
  have ht := (applyErrs_touch errs t).mono (n := 0x3b3cb6800) (by decide)
  revert ht
  generalize applyErrs errs t = u
  intro ht
  have hr := ht.trans ((memRead_touch (slotRealm t slot) (sharedBase d slot + cccAddr w x) 8 u).mono (by decide))
  revert hr
  dsimp only
  generalize memRead (slotRealm t slot) (sharedBase d slot + cccAddr w x) 8 u = r
  intro hr
  split
  · exact (cccFault_touch _ _ _ _ _ _).mono (by decide)
  · split
    · exact hr.trans ((cccFault_touch _ _ _ _ _ _).mono (by decide))
    · exact hr.trans ((cccPut_touch _ _ _ _ _ _ _).mono (by decide))

theorem execCccSt_touch (d c slot : Nat) (w : W32) (s : State) :
    TouchR 0xbb3cb6000 s (execCccSt d c slot w s) := by
  unfold execCccSt
  repeat' (first
    | with_reducible exact Touch.refl _ _ | ((with_reducible apply Touch.via (cccFault_touch _ _ _ _ _ _)); decide)
    | (with_reducible refine cccIssue_touch _ _ _ _ _ _ _ _ _ _ (by decide) (fun _ _ => ?_))
    | ((with_reducible apply Touch.via (cccNext_touch _ _ _ _ _)); decide)
    | ((with_reducible apply Touch.via (memWrite_touch _ _ _ _)); decide) | split)

theorem cccBranch_touch (d c slot : Nat) (w : W32) (cond : W64 → W64 → Bool) (x : Ccc) (s : State) :
    Touch 0x3b3cb6000 s (cccBranch d c slot w cond x s) := by
  unfold cccBranch
  repeat' (first
    | with_reducible exact Touch.refl _ _ | ((with_reducible apply Touch.via (cccGoto_touch _ _ _ _ _ _)); decide)
    | ((with_reducible apply Touch.via (cccNext_touch _ _ _ _ _)); decide) | split)

theorem execCccBeq_touch (d c slot : Nat) (w : W32) (s : State) :
    TouchR 0x3b3cb6000 s (execCccBeq d c slot w s) := by
  unfold execCccBeq
  repeat' (first
    | with_reducible exact Touch.refl _ _
    | ((with_reducible apply Touch.via (cccBranch_touch _ _ _ _ _ _ _)); decide)
    | (with_reducible refine cccIssue_touch _ _ _ _ _ _ _ _ _ _ (by decide) (fun _ _ => ?_)))

theorem execCccBne_touch (d c slot : Nat) (w : W32) (s : State) :
    TouchR 0x3b3cb6000 s (execCccBne d c slot w s) := by
  unfold execCccBne
  repeat' (first
    | with_reducible exact Touch.refl _ _
    | ((with_reducible apply Touch.via (cccBranch_touch _ _ _ _ _ _ _)); decide)
    | (with_reducible refine cccIssue_touch _ _ _ _ _ _ _ _ _ _ (by decide) (fun _ _ => ?_)))

theorem execCccBlt_touch (d c slot : Nat) (w : W32) (s : State) :
    TouchR 0x3b3cb6000 s (execCccBlt d c slot w s) := by
  unfold execCccBlt
  repeat' (first
    | with_reducible exact Touch.refl _ _
    | ((with_reducible apply Touch.via (cccBranch_touch _ _ _ _ _ _ _)); decide)
    | (with_reducible refine cccIssue_touch _ _ _ _ _ _ _ _ _ _ (by decide) (fun _ _ => ?_)))

theorem execCccBltu_touch (d c slot : Nat) (w : W32) (s : State) :
    TouchR 0x3b3cb6000 s (execCccBltu d c slot w s) := by
  unfold execCccBltu
  repeat' (first
    | with_reducible exact Touch.refl _ _
    | ((with_reducible apply Touch.via (cccBranch_touch _ _ _ _ _ _ _)); decide)
    | (with_reducible refine cccIssue_touch _ _ _ _ _ _ _ _ _ _ (by decide) (fun _ _ => ?_)))

theorem execBflt_touch (d c slot : Nat) (w : W32) (s : State) :
    TouchR 0x3b3cb6000 s (execBflt d c slot w s) := by
  unfold execBflt
  repeat' (first
    | with_reducible exact Touch.refl _ _
    | ((with_reducible apply Touch.via (cccBranch_touch _ _ _ _ _ _ _)); decide)
    | (with_reducible refine cccIssue_touch _ _ _ _ _ _ _ _ _ _ (by decide) (fun _ _ => ?_)))

theorem execJal_touch (d c slot : Nat) (w : W32) (s : State) :
    TouchR 0x3b3cb6000 s (execJal d c slot w s) := by
  unfold execJal
  repeat' (first
    | with_reducible exact Touch.refl _ _ | ((with_reducible apply Touch.via (cccGoto_touch _ _ _ _ _ _)); decide)
    | (with_reducible refine cccIssue_touch _ _ _ _ _ _ _ _ _ _ (by decide) (fun _ _ => ?_)))

theorem execJalr_touch (d c slot : Nat) (w : W32) (s : State) :
    TouchR 0x3b3cb6000 s (execJalr d c slot w s) := by
  unfold execJalr
  repeat' (first
    | with_reducible exact Touch.refl _ _ | ((with_reducible apply Touch.via (cccGoto_touch _ _ _ _ _ _)); decide)
    | (with_reducible refine cccIssue_touch _ _ _ _ _ _ _ _ _ _ (by decide) (fun _ _ => ?_)))

theorem execCccEnd_touch (d c slot : Nat) (w : W32) (s : State) :
    TouchR 0x3b3cb6000 s (execCccEnd d c slot w s) := by
  unfold execCccEnd
  repeat' (first
    | with_reducible exact Touch.refl _ _
    | (with_reducible refine cccIssue_touch _ _ _ _ _ _ _ _ _ _ (by decide) (fun _ _ => ?_))
    | ((with_reducible apply Touch.via (setCcc_touch _ _ _ _ _)); decide))

theorem execCccWait_touch (d c slot : Nat) (w : W32) (s : State) :
    TouchR 0x3b3cb6000 s (execCccWait d c slot w s) := by
  unfold execCccWait
  repeat' (first
    | with_reducible exact Touch.refl _ _
    | (with_reducible refine cccIssue_touch _ _ _ _ _ _ _ _ _ _ (by decide) (fun _ _ => ?_))
    | ((with_reducible apply Touch.via (cccNext_touch _ _ _ _ _)); decide)
    | ((with_reducible apply Touch.via (setCcc_touch _ _ _ _ _)); decide) | extract_lets | split)

theorem execCccBusy_touch (d c slot : Nat) (w : W32) (s : State) :
    TouchR 0x3b3cb6000 s (execCccBusy d c slot w s) := by
  unfold execCccBusy
  repeat' (first
    | with_reducible exact Touch.refl _ _
    | (with_reducible refine cccIssue_touch _ _ _ _ _ _ _ _ _ _ (by decide) (fun _ _ => ?_))
    | ((with_reducible apply Touch.via (cccPut_touch _ _ _ _ _ _ _)); decide))

theorem execCccRdrt_touch (d c slot : Nat) (w : W32) (s : State) :
    TouchR 0x3b3cb6000 s (execCccRdrt d c slot w s) := by
  unfold execCccRdrt
  repeat' (first
    | with_reducible exact Touch.refl _ _
    | (with_reducible refine cccIssue_touch _ _ _ _ _ _ _ _ _ _ (by decide) (fun _ _ => ?_))
    | ((with_reducible apply Touch.via (cccPut_touch _ _ _ _ _ _ _)); decide))

theorem sentinelSample_touch (d c slot k : Nat) (t : CoreTask) (s : State) :
    Touch 0x880400000 s (sentinelSample d c slot k t s) := by
  unfold sentinelSample
  repeat' (first
    | with_reducible exact Touch.refl _ _ | ((with_reducible apply Touch.via (fresh_touch _)); decide)
    | ((with_reducible apply Touch.via (setCore_touch _ _ _ _ _)); decide)
    | ((with_reducible apply Touch.setRel); decide) | split | with_reducible refine Touch.of_snd (by assumption) ?_)

theorem taskGo_touch (d c slot a b dd : Nat) (x : Ccc) (s : State) :
    Touch 0xbb3cb6000 s (taskGo d c slot a b dd x s) := by
  unfold taskGo
  repeat' (first
    | with_reducible exact Touch.refl _ _ | ((with_reducible apply Touch.via (cccFault_touch _ _ _ _ _ _)); decide)
    | ((with_reducible apply Touch.via (cccNext_touch _ _ _ _ _)); decide)
    | ((with_reducible apply Touch.via (sentinelSample_touch _ _ _ _ _ _)); decide)
    | ((with_reducible apply Touch.via (setCcc_touch _ _ _ _ _)); decide)
    | ((with_reducible apply Touch.via (setCore_touch _ _ _ _ _)); decide) | extract_lets | split)

theorem execTask_touch (d c slot : Nat) (w : W32) (s : State) :
    TouchR 0xbb3cb6000 s (execTask d c slot w s) := by
  unfold execTask
  repeat' (first
    | with_reducible exact Touch.refl _ _
    | (with_reducible refine cccIssue_touch _ _ _ _ _ _ _ _ _ _ (by decide) (fun _ _ => ?_))
    | ((with_reducible apply Touch.via (taskGo_touch _ _ _ _ _ _ _ _)); decide))

theorem vrunGo_touch (d c slot a entry : Nat) (x : Ccc) (s : State) :
    Touch 0x3b3cb6000 s (vrunGo d c slot a entry x s) := by
  unfold vrunGo
  repeat' (first
    | with_reducible exact Touch.refl _ _ | ((with_reducible apply Touch.via (cccFault_touch _ _ _ _ _ _)); decide)
    | ((with_reducible apply Touch.via (cccNext_touch _ _ _ _ _)); decide)
    | ((with_reducible apply Touch.via (setCcc_touch _ _ _ _ _)); decide)
    | ((with_reducible apply Touch.via (setVe_touch _ _ _ _ _)); decide) | extract_lets | split)

theorem execVrun_touch (d c slot : Nat) (w : W32) (s : State) :
    TouchR 0x3b3cb6000 s (execVrun d c slot w s) := by
  unfold execVrun
  repeat' (first
    | with_reducible exact Touch.refl _ _
    | (with_reducible refine cccIssue_touch _ _ _ _ _ _ _ _ _ _ (by decide) (fun _ _ => ?_))
    | ((with_reducible apply Touch.via (vrunGo_touch _ _ _ _ _ _ _)); decide))

theorem dmaGo_touch (d c slot : Nat) (w : W32) (x : Ccc) (s : State) :
    Touch 0x3b3cb6000 s (dmaGo d c slot w x s) := by
  unfold dmaGo
  repeat' (first
    | with_reducible exact Touch.refl _ _ | ((with_reducible apply Touch.via (cccFault_touch _ _ _ _ _ _)); decide)
    | ((with_reducible apply Touch.via (cccNext_touch _ _ _ _ _)); decide)
    | ((with_reducible apply Touch.via (setCcc_touch _ _ _ _ _)); decide)
    | ((with_reducible apply Touch.via (setDma_touch _ _ _ _ _)); decide) | extract_lets | split)

theorem execCccDma_touch (d c slot : Nat) (w : W32) (s : State) :
    TouchR 0x3b3cb6000 s (execCccDma d c slot w s) := by
  unfold execCccDma
  repeat' (first
    | with_reducible exact Touch.refl _ _
    | (with_reducible refine cccIssue_touch _ _ _ _ _ _ _ _ _ _ (by decide) (fun _ _ => ?_))
    | ((with_reducible apply Touch.via (dmaGo_touch _ _ _ _ _ _)); decide))

theorem execCccStallEnd_touch (d c slot : Nat) (s : State) :
    TouchR 0xbb3cb6000 s (execCccStallEnd d c slot s) := by
  unfold execCccStallEnd
  extract_lets x
  clear_value x
  refine TouchR.ite (TouchR.next (Touch.refl _ _)) ?_
  generalize x.stall = y
  cases y with
  | none => exact TouchR.next (Touch.refl _ _)
  | some y =>
    cases y with
    | task a b dd => exact TouchR.next ((taskGo_touch _ _ _ _ _ _ _ _).mono (by decide))
    | vrun a e => exact TouchR.next ((vrunGo_touch _ _ _ _ _ _ _).mono (by decide))
    | dma w => exact TouchR.next ((dmaGo_touch _ _ _ _ _ _).mono (by decide))
    | wait m v q0 q1 => exact TouchR.ite (TouchR.next ((cccNext_touch _ _ _ _ _).mono (by decide))) (TouchR.next (Touch.refl _ _))
    | summary => exact TouchR.ite (TouchR.next (Touch.refl _ _)) (TouchR.next ((setCcc_touch _ _ _ _ _).mono (by decide)))
    | _ => exact TouchR.next (Touch.refl _ _)

end Sys2Proof.Machine
end

