-- ==== Sys2Proof/Laws/TouchLinks.lean ====
section
/-! SUPPORT. What each operation and command may touch (see Laws/Touch.lean): links, optics, discovery and packets. -/

set_option maxRecDepth 4000

namespace Sys2Proof.Machine

open Sys2Proof

/-! ### Links -/

theorem setLnk_touch (s : State) (l : Nat) (x : Link) :
    Touch 0x8000000 s (setLnk s l x) := by
  unfold setLnk
  repeat' (first | with_reducible exact Touch.refl _ _ | ((with_reducible apply Touch.setLinks); decide))

theorem sendPlain_touch (l : Nat) (f : Frame) (s : State) :
    Touch 0x1000000000 s (sendPlain l f s) := by
  unfold sendPlain
  repeat' (first | with_reducible exact Touch.refl _ _ | ((with_reducible apply Touch.via (emit_touch _ _)); decide))

theorem sendControl_touch (l op : Nat) (args : List Byte) (s : State) :
    Touch 0x1000000000 s (sendControl l op args s) := by
  unfold sendControl
  repeat' (first
    | with_reducible exact Touch.refl _ _ | ((with_reducible apply Touch.via (sendPlain_touch _ _ _)); decide))

theorem sealFrame_touch (l : Nat) (f : Frame) (s : State) :
    Touch 0x40000000 s (sealFrame l f s).2 := by
  unfold sealFrame
  repeat' (first
    | with_reducible exact Touch.refl _ _ | ((with_reducible apply Touch.setSec); decide) | extract_lets | split)

theorem sendFirst_touch (l : Nat) (f : Frame) (s : State) :
    Touch 0x1048000000 s (sendFirst l f s) := by
  unfold sendFirst
  repeat' (first
    | with_reducible exact Touch.refl _ _ | ((with_reducible apply Touch.via (emit_touch _ _)); decide)
    | ((with_reducible apply Touch.via (sealFrame_touch _ _ _)); decide)
    | ((with_reducible apply Touch.via (setLnk_touch _ _ _)); decide))

theorem sendData_touch (l : Nat) (f : Frame) (s : State) :
    Touch 0x1048000000 s (sendData l f s) := by
  unfold sendData
  repeat' (first
    | with_reducible exact Touch.refl _ _ | ((with_reducible apply Touch.via (sendFirst_touch _ _ _)); decide)
    | ((with_reducible apply Touch.via (setLnk_touch _ _ _)); decide) | extract_lets | split)

theorem flushGo_touch (l : Nat) (fs : List Frame) (s : State) :
    Touch 0x1048000000 s (flushGo l fs s) := by
  induction fs generalizing s with
  | nil => exact (setLnk_touch _ _ _).mono (by decide)
  | cons f fs ih =>
    unfold flushGo
    split
    · exact (setLnk_touch _ _ _).mono (by decide)
    · refine Touch.trans ?_ (ih _)
      split
      · exact (sendFirst_touch _ _ _).mono (by decide)
      · exact Touch.refl _ _

theorem flushHeld_touch (l : Nat) (s : State) :
    Touch 0x1048000000 s (flushHeld l s) := by
  unfold flushHeld
  repeat' (first
    | with_reducible exact Touch.refl _ _ | ((with_reducible apply Touch.via (flushGo_touch _ _ _)); decide) | split)

theorem replayFrom_touch (l : Nat) (n : W16) (s : State) :
    Touch 0x1bbfcb6000 s (replayFrom l n s) := by
  unfold replayFrom
  repeat' (first
    | with_reducible exact Touch.refl _ _ | with_reducible refine Touch.foldl _ _ (fun _ _ => ?_) ?_
    | ((with_reducible apply Touch.via (emit_touch _ _)); decide)
    | ((with_reducible apply Touch.via (portDown_touch _ _ _)); decide)
    | ((with_reducible apply Touch.via (setLnk_touch _ _ _)); decide) | extract_lets | split)

theorem replayOldest_touch (l : Nat) (s : State) :
    Touch 0x1bbfcb6000 s (replayOldest l s) := by
  unfold replayOldest
  repeat' (first
    | with_reducible exact Touch.refl _ _ | ((with_reducible apply Touch.via (replayFrom_touch _ _ _)); decide)
    | split)

theorem ackTake_touch (l : Nat) (a : Option (BitVec 10)) (s : State) :
    Touch 0x1bffcb6000 s (ackTake l a s) := by
  unfold ackTake
  repeat' (first
    | with_reducible exact Touch.refl _ _ | ((with_reducible apply Touch.via (flushHeld_touch _ _)); decide)
    | ((with_reducible apply Touch.via (setLnk_touch _ _ _)); decide) | extract_lets | split)

theorem portUp_touch (l : Nat) (s : State) :
    Touch 0x1bffcb6000 s (portUp l s) := by
  unfold portUp
  repeat' (first
    | with_reducible exact Touch.refl _ _ | ((with_reducible apply Touch.via (flushHeld_touch _ _)); decide)
    | ((with_reducible apply Touch.via (logMod_touch _ _ _ _)); decide)
    | ((with_reducible apply Touch.via (replayOldest_touch _ _)); decide)
    | ((with_reducible apply Touch.via (retime_touch _)); decide)
    | ((with_reducible apply Touch.via (setLnk_touch _ _ _)); decide) | split)

theorem lanesBack_touch (l : Nat) (s : State) :
    Touch 0x1bffcb6000 s (lanesBack l s) := by
  unfold lanesBack
  repeat' (first
    | with_reducible exact Touch.refl _ _ | ((with_reducible apply Touch.via (portUp_touch _ _)); decide)
    | ((with_reducible apply Touch.via (setLnk_touch _ _ _)); decide)
    | ((with_reducible apply Touch.setFab); decide) | extract_lets | split)

theorem partForeign_touch (l : Nat) (s : State) :
    Touch 0x100030000 s (partForeign l s) := by
  unfold partForeign
  repeat' (first
    | with_reducible exact Touch.refl _ _ | ((with_reducible apply Touch.via (logFold_touch _ _ _ _ _ _ _)); decide))

theorem sendNak_touch (l : Nat) (s : State) :
    Touch 0x1008000000 s (sendNak l s) := by
  unfold sendNak
  repeat' (first
    | with_reducible exact Touch.refl _ _ | ((with_reducible apply Touch.via (sendControl_touch _ _ _ _)); decide)
    | ((with_reducible apply Touch.via (setLnk_touch _ _ _)); decide) | extract_lets | split)

theorem fecCount_touch (l : Nat) (i : FrameIn) (s : State) :
    Touch 0x8000000 s (fecCount l i s) := by
  unfold fecCount
  repeat' (first
    | with_reducible exact Touch.refl _ _ | ((with_reducible apply Touch.via (setLnk_touch _ _ _)); decide))

theorem rxChecks_touch (l : Nat) (i : FrameIn) (s : State) :
    Touch 0x1bffcb6000 s (rxChecks l i s).2 := by
  unfold rxChecks
  repeat' (first
    | with_reducible exact Touch.refl _ _ | ((with_reducible apply Touch.via (ackTake_touch _ _ _)); decide)
    | ((with_reducible apply Touch.via (fecCount_touch _ _ _)); decide)
    | ((with_reducible apply Touch.via (partForeign_touch _ _)); decide)
    | ((with_reducible apply Touch.via (setLnk_touch _ _ _)); decide) | extract_lets | split)

theorem openFrame_touch (l : Nat) (f : Frame) (s : State) :
    TouchP (fun x => x.2.2) 0x848000000 s (openFrame l f s) := by
  unfold openFrame
  split
  · exact TouchP.some (Touch.refl _ _)
  · split
    · exact TouchP.some (Touch.refl _ _)
    · dsimp only
      refine TouchP.const (fun r => ?_)
      exact Touch.via (setLnk_touch _ _ _) (by decide) (Touch.setSec (by decide) (Touch.refl _ _))

theorem nfTake_touch (nf : Bool) (realm : Nat) (p : Packet) (s : State) :
    Touch 0x30000 s (nfTake nf realm p s) := by
  unfold nfTake
  repeat' (first
    | with_reducible exact Touch.refl _ _ | ((with_reducible apply Touch.via (setJobAt_touch _ _ _)); decide)
    | split)

theorem deliver_touch (l : Nat) (f : Frame) (red : Bool) (s : State) :
    Touch 0x1968030000 s (deliver l f red s) := by
  unfold deliver
  repeat' (first
    | with_reducible exact Touch.refl _ _ | with_reducible refine Touch.foldl _ _ (fun _ _ => ?_) ?_
    | ((with_reducible apply Touch.via (logFold_touch _ _ _ _ _ _ _)); decide)
    | ((with_reducible apply Touch.via (nfTake_touch _ _ _ _)); decide)
    | ((with_reducible apply Touch.ofP3 (by assumption) (openFrame_touch _ _ _)); decide)
    | ((with_reducible apply Touch.via (sendNak_touch _ _)); decide)
    | ((with_reducible apply Touch.via (sendPlain_touch _ _ _)); decide)
    | ((with_reducible apply Touch.via (setLnk_touch _ _ _)); decide)
    | ((with_reducible apply Touch.setFab); decide) | extract_lets | split)

theorem rxData_touch (l : Nat) (i : FrameIn) (typ : Nat) (s : State) :
    TouchR 0x1bffcb6000 s (rxData l i typ s) := by
  unfold rxData
  repeat' (first
    | with_reducible exact Touch.refl _ _ | with_reducible refine TouchR.next ?_
    | ((with_reducible apply Touch.via (deliver_touch _ _ _ _)); decide)
    | ((with_reducible apply Touch.via (rxChecks_touch _ _ _)); decide)
    | ((with_reducible apply Touch.via (sendNak_touch _ _)); decide) | extract_lets | split)

theorem execDataFrame_touch (l : Nat) (i : FrameIn) (s : State) :
    TouchR 0x1bffcb6000 s (execDataFrame l i s) := by
  unfold execDataFrame
  repeat' (first | with_reducible exact (rxData_touch _ _ _ _).mono (by decide))

theorem execReductionFrame_touch (l : Nat) (i : FrameIn) (s : State) :
    TouchR 0x1bffcb6000 s (execReductionFrame l i s) := by
  unfold execReductionFrame
  repeat' (first | with_reducible exact (rxData_touch _ _ _ _).mono (by decide))

theorem execIdleFrame_touch (l : Nat) (i : FrameIn) (s : State) :
    TouchR 0x1bffcb6000 s (execIdleFrame l i s) := by
  unfold execIdleFrame
  repeat' (first
    | with_reducible exact Touch.refl _ _ | with_reducible refine TouchR.next ?_
    | ((with_reducible apply Touch.via (rxChecks_touch _ _ _)); decide)
    | ((with_reducible apply Touch.via (sendNak_touch _ _)); decide) | split)

theorem rxControl_touch {m : Nat} (l : Nat) (i : FrameIn) (act : State → State) (s : State) (hm : 0x1bffcb6000 &&& m = 0x1bffcb6000) (ha : ∀ t, Touch m t (act t)) :
    TouchR m s (rxControl l i act s) := by
  have hr := (rxChecks_touch l i s).mono (n := m) (sub_mono (by decide) hm)
  unfold rxControl
  dsimp only
  split
  · exact TouchR.next (Touch.refl _ _)
  · refine TouchR.next ?_
    split
    · exact hr.trans (ha _)
    · exact hr.trans ((sendNak_touch _ _).mono (sub_mono (by decide) hm))

theorem execNak_touch (l : Nat) (i : FrameIn) (n : W16) (s : State) :
    TouchR 0x1bffcb6000 s (execNak l i n s) := by
  unfold execNak
  repeat' (first
    | with_reducible exact Touch.refl _ _ | ((with_reducible apply Touch.via (replayFrom_touch _ _ _)); decide)
    | (with_reducible refine rxControl_touch _ _ _ _ (by decide) (fun _ => ?_)))

theorem execReplayTimeout_touch (l : Nat) (s : State) :
    TouchR 0x1bbfcb6000 s (execReplayTimeout l s) := by
  unfold execReplayTimeout
  repeat' (first
    | with_reducible exact Touch.refl _ _ | with_reducible refine TouchR.next ?_
    | ((with_reducible apply Touch.via (replayOldest_touch _ _)); decide) | split)

theorem moveStuck_touch (l : Nat) (s : State) :
    Touch 0x1000000000 s (moveStuck l s) := by
  unfold moveStuck
  repeat' (first
    | with_reducible exact Touch.refl _ _ | ((with_reducible apply Touch.via (sendControl_touch _ _ _ _)); decide)
    | extract_lets | split)

theorem retrainPos_touch (l p : Nat) (rx : Bool) (s : State) :
    Touch 0x4000000 s (retrainPos l p rx s) := by
  unfold retrainPos
  repeat' (first | with_reducible exact Touch.refl _ _ | ((with_reducible apply Touch.setOpt); decide) | split)

theorem logLaneDrop_touch (l p : Nat) (map : W32) (dir cause : Nat) (s : State) :
    Touch 0x108030000 s (logLaneDrop l p map dir cause s) := by
  unfold logLaneDrop
  repeat' (first
    | with_reducible exact Touch.refl _ _ | ((with_reducible apply Touch.via (logMod_touch _ _ _ _)); decide)
    | ((with_reducible apply Touch.via (setLnk_touch _ _ _)); decide))

theorem logLaneRestored_touch (l p dir : Nat) (map : W32) (s : State) :
    Touch 0x100030000 s (logLaneRestored l p dir map s) := by
  unfold logLaneRestored
  repeat' (first
    | with_reducible exact Touch.refl _ _ | ((with_reducible apply Touch.via (logMod_touch _ _ _ _)); decide))

theorem wantSet_touch (l : Nat) (m : BitVec 10) (cause : Nat) (s : State) :
    Touch 0x1bbfcb6000 s (wantSet l m cause s) := by
  unfold wantSet
  repeat' (first
    | with_reducible exact Touch.refl _ _ | ((with_reducible apply Touch.via (portDown_touch _ _ _)); decide)
    | ((with_reducible apply Touch.via (sendControl_touch _ _ _ _)); decide)
    | ((with_reducible apply Touch.via (setLnk_touch _ _ _)); decide) | extract_lets | split)

theorem laneDrop_touch (l p cause : Nat) (s : State) :
    Touch 0x1bbfcb6000 s (laneDrop l p cause s) := by
  unfold laneDrop
  repeat' (first
    | with_reducible exact Touch.refl _ _ | ((with_reducible apply Touch.via (setLnk_touch _ _ _)); decide)
    | ((with_reducible apply Touch.via (wantSet_touch _ _ _ _)); decide) | extract_lets | split)

theorem sweepWithout_touch (key line : Nat) (s : State) :
    Touch 0x4000000 s (sweepWithout key line s) := by
  unfold sweepWithout
  repeat' (first | with_reducible exact Touch.refl _ _ | ((with_reducible apply Touch.setOpt); decide))

theorem tagFailure_touch (l p found : Nat) (s : State) :
    Touch 0x110c030000 s (tagFailure l p found s) := by
  unfold tagFailure
  repeat' (first
    | with_reducible exact Touch.refl _ _ | ((with_reducible apply Touch.via (logMod_touch _ _ _ _)); decide)
    | ((with_reducible apply Touch.via (sendControl_touch _ _ _ _)); decide)
    | ((with_reducible apply Touch.via (setLnk_touch _ _ _)); decide)
    | ((with_reducible apply Touch.via (sweepWithout_touch _ _ _)); decide) | extract_lets | split)

theorem ringDark_touch (l : Nat) (s : State) (p : Nat) :
    Touch 0x4000000 s (ringDark l s p) := by
  unfold ringDark
  repeat' (first
    | with_reducible exact Touch.refl _ _ | (with_reducible assumption)
    | with_reducible refine Touch.foldl _ _ (fun _ _ => ?_) ?_
    | with_reducible refine Touch.foldl_pair _ _ _ (fun _ _ => ?_) ?_
    | with_reducible refine Touch.foldl_fst _ _ _ (fun _ _ => ?_) ?_
    | with_reducible refine Touch.foldl_trip _ _ _ (fun _ _ => ?_) ?_
    | with_reducible refine Touch.foldl_mid _ _ _ (fun _ _ => ?_) ?_ | ((with_reducible apply Touch.setOpt); decide)
    | extract_lets | split | with_reducible refine Touch.of_snd (by assumption) ?_
    | with_reducible refine Touch.of_fst (by assumption) ?_ | with_reducible refine Touch.of_snd₃ (by assumption) ?_
    | dsimp only | dsimp -zeta +zetaDelta only)

theorem execLaneDropCondition_touch (l p cause found : Nat) (s : State) :
    TouchR 0x1bbfcb6000 s (execLaneDropCondition l p cause found s) := by
  unfold execLaneDropCondition
  repeat' (first
    | with_reducible exact Touch.refl _ _ | with_reducible refine TouchR.next ?_
    | ((with_reducible apply Touch.via (laneDrop_touch _ _ _ _)); decide)
    | ((with_reducible apply Touch.via (ringDark_touch _ _ _)); decide)
    | ((with_reducible apply Touch.via (tagFailure_touch _ _ _ _)); decide) | extract_lets | split)

theorem execLanesetRequestRepeat_touch (l : Nat) (s : State) :
    TouchR 0x1000000000 s (execLanesetRequestRepeat l s) := by
  unfold execLanesetRequestRepeat
  repeat' (first
    | with_reducible exact Touch.refl _ _ | with_reducible refine TouchR.next ?_
    | ((with_reducible apply Touch.via (sendControl_touch _ _ _ _)); decide) | split)

theorem clearExcl_touch (l p : Nat) (rx : Bool) (s : State) :
    Touch 0x4000000 s (clearExcl l p rx s) := by
  unfold clearExcl
  repeat' (first | with_reducible exact Touch.refl _ _ | ((with_reducible apply Touch.setOpt); decide) | split)

theorem commitTx_touch (l : Nat) (m : BitVec 10) (cause : Nat) (s : State) :
    Touch 0x1bffcb6000 s (commitTx l m cause s) := by
  unfold commitTx
  repeat' (first
    | with_reducible exact Touch.refl _ _ | with_reducible refine Touch.foldl _ _ (fun _ _ => ?_) ?_
    | ((with_reducible apply Touch.via (clearExcl_touch _ _ _ _)); decide)
    | ((with_reducible apply Touch.via (lanesBack_touch _ _)); decide)
    | ((with_reducible apply Touch.via (logLaneDrop_touch _ _ _ _ _ _)); decide)
    | ((with_reducible apply Touch.via (logLaneRestored_touch _ _ _ _ _)); decide)
    | ((with_reducible apply Touch.via (sendControl_touch _ _ _ _)); decide)
    | ((with_reducible apply Touch.via (setLnk_touch _ _ _)); decide))

theorem execLanesetRequest_touch (l : Nat) (i : FrameIn) (m : BitVec 10) (cause : Nat) (s : State) :
    TouchR 0x1bffcb6000 s (execLanesetRequest l i m cause s) := by
  unfold execLanesetRequest
  repeat' (first
    | with_reducible exact Touch.refl _ _ | ((with_reducible apply Touch.via (commitTx_touch _ _ _ _)); decide)
    | (with_reducible refine rxControl_touch _ _ _ _ (by decide) (fun _ => ?_)))

theorem execLanesetCommit_touch (l : Nat) (i : FrameIn) (m : BitVec 10) (map : W32) (s : State) :
    TouchR 0x1bffcb6000 s (execLanesetCommit l i m map s) := by
  unfold execLanesetCommit
  repeat' (first
    | with_reducible exact Touch.refl _ _ | with_reducible refine Touch.foldl _ _ (fun _ _ => ?_) ?_
    | ((with_reducible apply Touch.via (clearExcl_touch _ _ _ _)); decide)
    | ((with_reducible apply Touch.via (lanesBack_touch _ _)); decide)
    | ((with_reducible apply Touch.via (logLaneDrop_touch _ _ _ _ _ _)); decide)
    | ((with_reducible apply Touch.via (logLaneRestored_touch _ _ _ _ _)); decide)
    | ((with_reducible apply Touch.via (logMod_touch _ _ _ _)); decide)
    | ((with_reducible apply Touch.via (moveStuck_touch _ _)); decide)
    | ((with_reducible apply Touch.via (retrainPos_touch _ _ _ _)); decide)
    | (with_reducible refine rxControl_touch _ _ _ _ (by decide) (fun _ => ?_))
    | ((with_reducible apply Touch.via (setLnk_touch _ _ _)); decide) | split)

theorem startTrain_touch (l p : Nat) (s : State) :
    Touch 0x1008000000 s (startTrain l p s) := by
  unfold startTrain
  repeat' (first
    | with_reducible exact Touch.refl _ _ | ((with_reducible apply Touch.via (sendControl_touch _ _ _ _)); decide)
    | ((with_reducible apply Touch.via (setLnk_touch _ _ _)); decide))

theorem execResweep_touch (l : Nat) (i : FrameIn) (p line : Nat) (s : State) :
    TouchR 0x1bffcb6000 s (execResweep l i p line s) := by
  unfold execResweep
  repeat' (first
    | with_reducible exact Touch.refl _ _
    | (with_reducible refine rxControl_touch _ _ _ _ (by decide) (fun _ => ?_))
    | ((with_reducible apply Touch.via (sweepWithout_touch _ _ _)); decide) | split)

theorem execTrain_touch (l : Nat) (i : FrameIn) (m passed : BitVec 10) (s : State) :
    TouchR 0x1bffcb6000 s (execTrain l i m passed s) := by
  unfold execTrain
  repeat' (first
    | with_reducible exact Touch.refl _ _
    | (with_reducible refine rxControl_touch _ _ _ _ (by decide) (fun _ => ?_))
    | ((with_reducible apply Touch.via (sendControl_touch _ _ _ _)); decide)
    | ((with_reducible apply Touch.via (setLnk_touch _ _ _)); decide) | extract_lets | split)

theorem execLanePrbsDone_touch (l p : Nat) (ok : Bool) (s : State) :
    TouchR 0x1bbfcb6000 s (execLanePrbsDone l p ok s) := by
  unfold execLanePrbsDone
  repeat' (first
    | with_reducible exact Touch.refl _ _ | with_reducible refine TouchR.next ?_
    | ((with_reducible apply Touch.via (moveStuck_touch _ _)); decide)
    | ((with_reducible apply Touch.via (setLnk_touch _ _ _)); decide)
    | ((with_reducible apply Touch.via (wantSet_touch _ _ _ _)); decide) | extract_lets | split)

theorem spareTx_touch (l n : Nat) (s : State) :
    TouchO 0x1bffcb6000 s (spareTx l n s) := by
  unfold spareTx
  dsimp only
  refine TouchP.const (q := fun t => t) (fun p => ?_)
  exact Touch.via (commitTx_touch _ _ _ _) (by decide) (Touch.via (logMod_touch _ _ _ _) (by decide) ((setLnk_touch _ _ _).mono (by decide)))

theorem execSpare_touch (l : Nat) (i : FrameIn) (n : Nat) (s : State) :
    TouchR 0x1bffcb6000 s (execSpare l i n s) := by
  unfold execSpare
  repeat' (first
    | with_reducible exact Touch.refl _ _
    | (with_reducible refine rxControl_touch _ _ _ _ (by decide) (fun _ => ?_))
    | with_reducible refine Touch.getD (spareTx_touch _ _ _) (by decide) ?_ ?_
    | with_reducible exact TouchO.getD ((spareTx_touch _ _ _).mono (by decide)) | split)

theorem execCommonModeOutage_touch (l : Nat) (s : State) :
    TouchR 0x13c030000 s (execCommonModeOutage l s) := by
  unfold execCommonModeOutage
  repeat' (first
    | with_reducible exact Touch.refl _ _ | (with_reducible assumption)
    | with_reducible refine Touch.foldl _ _ (fun _ _ => ?_) ?_
    | with_reducible refine Touch.foldl_pair _ _ _ (fun _ _ => ?_) ?_
    | with_reducible refine Touch.foldl_fst _ _ _ (fun _ _ => ?_) ?_
    | with_reducible refine Touch.foldl_trip _ _ _ (fun _ _ => ?_) ?_
    | with_reducible refine Touch.foldl_mid _ _ _ (fun _ _ => ?_) ?_ | with_reducible refine TouchR.next ?_
    | ((with_reducible apply Touch.via (portForget_touch _ _)); decide)
    | ((with_reducible apply Touch.via (ringDark_touch _ _ _)); decide)
    | ((with_reducible apply Touch.via (setLnk_touch _ _ _)); decide) | extract_lets | split
    | with_reducible refine Touch.of_snd (by assumption) ?_ | with_reducible refine Touch.of_fst (by assumption) ?_
    | with_reducible refine Touch.of_snd₃ (by assumption) ?_ | dsimp only | dsimp -zeta +zetaDelta only)

theorem execCommonModeHoldExpiry_touch (l : Nat) (s : State) :
    TouchR 0x1bbfcb6000 s (execCommonModeHoldExpiry l s) := by
  unfold execCommonModeHoldExpiry
  repeat' (first
    | with_reducible exact Touch.refl _ _ | with_reducible refine TouchR.next ?_
    | ((with_reducible apply Touch.via (portDown_touch _ _ _)); decide) | split)

/-! ### Optics -/

theorem setLaser_touch (s : State) (n : Nat) (x : Laser) :
    Touch 0x4000000 s (setLaser s n x) := by
  unfold setLaser
  repeat' (first | with_reducible exact Touch.refl _ _ | ((with_reducible apply Touch.setOpt); decide))

theorem setOptRing_touch (s : State) (k : Nat) (x : OptRing) :
    Touch 0x4000000 s (setOptRing s k x) := by
  unfold setOptRing
  repeat' (first | with_reducible exact Touch.refl _ _ | ((with_reducible apply Touch.setOpt); decide))

theorem setSeqr_touch (s : State) (d : Nat) (x : Seq) :
    Touch 0x4000000 s (setSeqr s d x) := by
  unfold setSeqr
  repeat' (first | with_reducible exact Touch.refl _ _ | ((with_reducible apply Touch.setOpt); decide))

theorem laserFeeds_touch (k b old power low : Nat) (s : State) :
    Touch 0x104030000 s (laserFeeds k b old power low s) := by
  unfold laserFeeds
  repeat' (first
    | with_reducible exact Touch.refl _ _ | (with_reducible assumption)
    | with_reducible refine Touch.foldl _ _ (fun _ _ => ?_) ?_
    | with_reducible refine Touch.foldl_pair _ _ _ (fun _ _ => ?_) ?_
    | with_reducible refine Touch.foldl_fst _ _ _ (fun _ _ => ?_) ?_
    | with_reducible refine Touch.foldl_trip _ _ _ (fun _ _ => ?_) ?_
    | with_reducible refine Touch.foldl_mid _ _ _ (fun _ _ => ?_) ?_
    | ((with_reducible apply Touch.via (logSpared_touch _ _ _ _)); decide)
    | ((with_reducible apply Touch.via (setLaser_touch _ _ _)); decide)
    | ((with_reducible apply Touch.via (wornCheck_touch _ _)); decide)
    | ((with_reducible apply Touch.setOpt); decide) | extract_lets | split
    | with_reducible refine Touch.of_snd (by assumption) ?_ | with_reducible refine Touch.of_fst (by assumption) ?_
    | with_reducible refine Touch.of_snd₃ (by assumption) ?_ | dsimp only | dsimp -zeta +zetaDelta only)

theorem startSpare_touch (n : Nat) (why : Option (Nat × Nat)) (s : State) :
    TouchO 0x4000000 s (startSpare n why s) := by
  unfold startSpare
  exact TouchP.const (q := fun t => t) (fun k => (setLaser_touch _ _ _).mono (by decide))

theorem laserReplace_touch (n b power low : Nat) (s : State) :
    Touch 0x104030000 s (laserReplace n b power low s) := by
  unfold laserReplace
  repeat' (first
    | with_reducible exact Touch.refl _ _ | (with_reducible assumption)
    | with_reducible refine Touch.foldl _ _ (fun _ _ => ?_) ?_
    | with_reducible refine Touch.foldl_pair _ _ _ (fun _ _ => ?_) ?_
    | with_reducible refine Touch.foldl_fst _ _ _ (fun _ _ => ?_) ?_
    | with_reducible refine Touch.foldl_trip _ _ _ (fun _ _ => ?_) ?_
    | with_reducible refine Touch.foldl_mid _ _ _ (fun _ _ => ?_) ?_
    | ((with_reducible apply Touch.via (laserFeeds_touch _ _ _ _ _ _)); decide)
    | ((with_reducible apply Touch.via (logSpared_touch _ _ _ _)); decide)
    | ((with_reducible apply TouchO.get (by assumption) (startSpare_touch _ _ _)); decide)
    | with_reducible refine Touch.getD (startSpare_touch _ _ _) (by decide) ?_ ?_
    | with_reducible exact TouchO.getD ((startSpare_touch _ _ _).mono (by decide))
    | ((with_reducible apply Touch.setOpt); decide) | extract_lets | split
    | with_reducible refine Touch.of_snd (by assumption) ?_ | with_reducible refine Touch.of_fst (by assumption) ?_
    | with_reducible refine Touch.of_snd₃ (by assumption) ?_ | dsimp only | dsimp -zeta +zetaDelta only)

theorem execLaserFailure_touch (n power low : Nat) (s : State) :
    TouchR 0x104030800 s (execLaserFailure n power low s) := by
  unfold execLaserFailure
  repeat' (first
    | with_reducible exact Touch.refl _ _ | (with_reducible assumption)
    | with_reducible refine Touch.foldl _ _ (fun _ _ => ?_) ?_
    | with_reducible refine Touch.foldl_pair _ _ _ (fun _ _ => ?_) ?_
    | with_reducible refine Touch.foldl_fst _ _ _ (fun _ _ => ?_) ?_
    | with_reducible refine Touch.foldl_trip _ _ _ (fun _ _ => ?_) ?_
    | with_reducible refine Touch.foldl_mid _ _ _ (fun _ _ => ?_) ?_ | with_reducible refine TouchR.next ?_
    | ((with_reducible apply Touch.via (laserReplace_touch _ _ _ _ _)); decide)
    | ((with_reducible apply Touch.via (setBlk_touch _ _ _)); decide)
    | ((with_reducible apply Touch.via (setLaser_touch _ _ _)); decide)
    | ((with_reducible apply TouchO.get (by assumption) (startSpare_touch _ _ _)); decide)
    | with_reducible refine Touch.getD (startSpare_touch _ _ _) (by decide) ?_ ?_
    | with_reducible exact TouchO.getD ((startSpare_touch _ _ _).mono (by decide)) | extract_lets | split
    | with_reducible refine Touch.of_snd (by assumption) ?_ | with_reducible refine Touch.of_fst (by assumption) ?_
    | with_reducible refine Touch.of_snd₃ (by assumption) ?_ | dsimp only | dsimp -zeta +zetaDelta only)

theorem execSpareLaserStarted_touch (n power low : Nat) (s : State) :
    TouchR 0x104030000 s (execSpareLaserStarted n power low s) := by
  unfold execSpareLaserStarted
  repeat' (first
    | with_reducible exact Touch.refl _ _ | with_reducible refine TouchR.next ?_
    | ((with_reducible apply Touch.via (laserFeeds_touch _ _ _ _ _ _)); decide)
    | ((with_reducible apply Touch.via (setLaser_touch _ _ _)); decide)
    | ((with_reducible apply Touch.via (wornCheck_touch _ _)); decide) | extract_lets | split)

theorem ringLocked_touch (k : Nat) (s : State) :
    Touch 0x1008000000 s (ringLocked k s) := by
  unfold ringLocked
  repeat' (first
    | with_reducible exact Touch.refl _ _ | ((with_reducible apply Touch.via (sendControl_touch _ _ _ _)); decide)
    | ((with_reducible apply Touch.via (startTrain_touch _ _ _)); decide) | extract_lets | split)

theorem logLockLost_touch (k : Nat) (s : State) :
    Touch 0x100030000 s (logLockLost k s) := by
  unfold logLockLost
  repeat' (first
    | with_reducible exact Touch.refl _ _ | ((with_reducible apply Touch.via (logEv_touch _ _ _ _ _ _ _)); decide))

theorem execLockLoopSample_touch (d : Nat) (mon : List (Nat × W16)) (s : State) :
    TouchR 0x804000000 s (execLockLoopSample d mon s) := by
  unfold execLockLoopSample
  repeat' (first
    | with_reducible exact Touch.refl _ _ | with_reducible refine Touch.foldl _ _ (fun _ _ => ?_) ?_
    | with_reducible refine TouchR.next ?_ | ((with_reducible apply Touch.via (fresh_touch _)); decide)
    | ((with_reducible apply Touch.via (setOptRing_touch _ _ _)); decide) | extract_lets | split)

theorem ringLost_touch (k : Nat) (s : State) :
    Touch 0x4000000 s (ringLost k s) := by
  unfold ringLost
  repeat' (first
    | with_reducible exact Touch.refl _ _ | ((with_reducible apply Touch.via (setOptRing_touch _ _ _)); decide))

theorem txLost_touch (l p : Nat) (s : State) :
    Touch 0x1bffcb6000 s (txLost l p s) := by
  unfold txLost
  repeat' (first
    | with_reducible exact Touch.refl _ _ | (with_reducible assumption)
    | with_reducible refine Touch.foldl _ _ (fun _ _ => ?_) ?_
    | with_reducible refine Touch.foldl_pair _ _ _ (fun _ _ => ?_) ?_
    | with_reducible refine Touch.foldl_fst _ _ _ (fun _ _ => ?_) ?_
    | with_reducible refine Touch.foldl_trip _ _ _ (fun _ _ => ?_) ?_
    | with_reducible refine Touch.foldl_mid _ _ _ (fun _ _ => ?_) ?_
    | ((with_reducible apply Touch.via (commitTx_touch _ _ _ _)); decide)
    | ((with_reducible apply Touch.via (portDown_touch _ _ _)); decide)
    | ((with_reducible apply Touch.via (setLnk_touch _ _ _)); decide) | extract_lets | split
    | with_reducible refine Touch.of_snd (by assumption) ?_ | with_reducible refine Touch.of_fst (by assumption) ?_
    | with_reducible refine Touch.of_snd₃ (by assumption) ?_ | dsimp only | dsimp -zeta +zetaDelta only)

theorem execRingLockLoss_touch (d i : Nat) (s : State) :
    TouchR 0x1bffcb6000 s (execRingLockLoss d i s) := by
  unfold execRingLockLoss
  repeat' (first
    | with_reducible exact Touch.refl _ _ | with_reducible refine TouchR.next ?_
    | ((with_reducible apply Touch.via (laneDrop_touch _ _ _ _)); decide)
    | ((with_reducible apply Touch.via (logLockLost_touch _ _)); decide)
    | ((with_reducible apply Touch.via (ringLost_touch _ _)); decide)
    | ((with_reducible apply Touch.via (txLost_touch _ _ _)); decide) | extract_lets | split)

theorem execHoldLightReturn_touch (d i : Nat) (near : Bool) (s : State) :
    TouchR 0x100c000000 s (execHoldLightReturn d i near s) := by
  unfold execHoldLightReturn
  repeat' (first
    | with_reducible exact Touch.refl _ _ | with_reducible refine TouchR.next ?_
    | ((with_reducible apply Touch.via (ringLocked_touch _ _)); decide)
    | ((with_reducible apply Touch.via (ringLost_touch _ _)); decide)
    | ((with_reducible apply Touch.via (setOptRing_touch _ _ _)); decide) | extract_lets | split)

theorem execRingSweepDone_touch (d i : Nat) (found : Option (Nat × W32)) (s : State) :
    TouchR 0x100c000000 s (execRingSweepDone d i found s) := by
  unfold execRingSweepDone
  repeat' (first
    | with_reducible exact Touch.refl _ _ | with_reducible refine TouchR.next ?_
    | ((with_reducible apply Touch.via (ringLocked_touch _ _)); decide)
    | ((with_reducible apply Touch.via (setOptRing_touch _ _ _)); decide)
    | ((with_reducible apply Touch.via (setSeqr_touch _ _ _)); decide) | extract_lets | split)

theorem execForecastWord_touch (d : Nat) (s : State) :
    TouchR 0x804080000 s (execForecastWord d s) := by
  unfold execForecastWord
  repeat' (first
    | with_reducible exact Touch.refl _ _ | with_reducible refine TouchR.next ?_
    | ((with_reducible apply Touch.via (fresh_touch _)); decide) | ((with_reducible apply Touch.setDsc); decide)
    | ((with_reducible apply Touch.setOpt); decide) | split)

theorem seqFault_touch (d : Nat) (s : State) :
    Touch 0x104030800 s (seqFault d s) := by
  unfold seqFault
  repeat' (first
    | with_reducible exact Touch.refl _ _ | ((with_reducible apply Touch.via (lckDown_touch _ _)); decide)
    | ((with_reducible apply Touch.via (logMod_touch _ _ _ _)); decide)
    | ((with_reducible apply Touch.via (setBlk_touch _ _ _)); decide)
    | ((with_reducible apply Touch.via (setSeqr_touch _ _ _)); decide))

theorem seqGoto_touch (d : Nat) (x : Seq) (target : Int) (s : State) :
    Touch 0x104030800 s (seqGoto d x target s) := by
  unfold seqGoto
  repeat' (first
    | with_reducible exact Touch.refl _ _ | ((with_reducible apply Touch.via (seqFault_touch _ _)); decide)
    | ((with_reducible apply Touch.via (setSeqr_touch _ _ _)); decide) | split)

theorem seqNext_touch (d : Nat) (x : Seq) (s : State) :
    Touch 0x104030800 s (seqNext d x s) := by
  unfold seqNext
  repeat' (first
    | with_reducible exact Touch.refl _ _ | ((with_reducible apply Touch.via (seqGoto_touch _ _ _ _)); decide))

theorem seqIssue_touch {m : Nat} (d : Nat) (w : W32) (op : Nat → Bool) (used : Nat) (good : Bool) (body : Seq → State → State) (s : State) (hm : 0x104030800 &&& m = 0x104030800) (hb : ∀ x t, Touch m t (body x t)) :
    TouchR m s (seqIssue d w op used good body s) := by
  unfold seqIssue
  dsimp only
  split
  · exact TouchR.next (Touch.refl _ _)
  · split
    · exact TouchR.next ((seqFault_touch _ _).mono (sub_mono (by decide) hm))
    · exact TouchR.next (hb _ _)

theorem seqPut_touch (d : Nat) (w : W32) (f : Seq → W32) (x : Seq) (s : State) :
    Touch 0x104030800 s (seqPut d w f x s) := by
  unfold seqPut
  repeat' (first
    | with_reducible exact Touch.refl _ _ | ((with_reducible apply Touch.via (seqNext_touch _ _ _)); decide))

theorem onRing_touch {m : Nat} (d : Nat) (w : W32) (f : Nat → Seq → State → State) (x : Seq) (s : State) (hm : 0x104030800 &&& m = 0x104030800) (hb : ∀ i x t, Touch m t (f i x t)) :
    Touch m s (onRing d w f x s) := by
  unfold onRing
  dsimp only
  split
  · exact (seqFault_touch _ _).mono (sub_mono (by decide) hm)
  · exact hb _ _ _

theorem execLseqNop_touch (d : Nat) (w : W32) (s : State) :
    TouchR 0x104030800 s (execLseqNop d w s) := by
  unfold execLseqNop
  repeat' (first
    | with_reducible exact Touch.refl _ _
    | (with_reducible refine seqIssue_touch _ _ _ _ _ _ _ (by decide) (fun _ _ => ?_))
    | ((with_reducible apply Touch.via (seqNext_touch _ _ _)); decide))

theorem execHalt_touch (d : Nat) (w : W32) (s : State) :
    TouchR 0x104030800 s (execHalt d w s) := by
  unfold execHalt
  repeat' (first
    | with_reducible exact Touch.refl _ _
    | (with_reducible refine seqIssue_touch _ _ _ _ _ _ _ (by decide) (fun _ _ => ?_))
    | ((with_reducible apply Touch.via (setSeqr_touch _ _ _)); decide))

theorem execLseqAlu_touch (d : Nat) (w : W32) (s : State) :
    TouchR 0x904030800 s (execLseqAlu d w s) := by
  unfold execLseqAlu
  repeat' (first
    | with_reducible exact Touch.refl _ _ | ((with_reducible apply Touch.via (fresh_touch _)); decide)
    | (with_reducible refine seqIssue_touch _ _ _ _ _ _ _ (by decide) (fun _ _ => ?_))
    | ((with_reducible apply Touch.via (seqPut_touch _ _ _ _ _)); decide))

theorem execLseqAddi_touch (d : Nat) (w : W32) (s : State) :
    TouchR 0x104030800 s (execLseqAddi d w s) := by
  unfold execLseqAddi
  repeat' (first
    | with_reducible exact Touch.refl _ _
    | (with_reducible refine seqIssue_touch _ _ _ _ _ _ _ (by decide) (fun _ _ => ?_))
    | ((with_reducible apply Touch.via (seqPut_touch _ _ _ _ _)); decide))

theorem execLseqLui_touch (d : Nat) (w : W32) (s : State) :
    TouchR 0x104030800 s (execLseqLui d w s) := by
  unfold execLseqLui
  repeat' (first
    | with_reducible exact Touch.refl _ _
    | (with_reducible refine seqIssue_touch _ _ _ _ _ _ _ (by decide) (fun _ _ => ?_))
    | ((with_reducible apply Touch.via (seqPut_touch _ _ _ _ _)); decide))

theorem execBr_touch (d : Nat) (w : W32) (s : State) :
    TouchR 0x104030800 s (execBr d w s) := by
  unfold execBr
  repeat' (first
    | with_reducible exact Touch.refl _ _ | ((with_reducible apply Touch.via (seqGoto_touch _ _ _ _)); decide)
    | (with_reducible refine seqIssue_touch _ _ _ _ _ _ _ (by decide) (fun _ _ => ?_))
    | ((with_reducible apply Touch.via (seqNext_touch _ _ _)); decide) | extract_lets | split)

theorem execLseqWait_touch (d : Nat) (w : W32) (s : State) :
    TouchR 0x104030800 s (execLseqWait d w s) := by
  unfold execLseqWait
  repeat' (first
    | with_reducible exact Touch.refl _ _
    | (with_reducible refine seqIssue_touch _ _ _ _ _ _ _ (by decide) (fun _ _ => ?_))
    | ((with_reducible apply Touch.via (seqNext_touch _ _ _)); decide)
    | ((with_reducible apply Touch.via (setSeqr_touch _ _ _)); decide) | split)

theorem execLseqWaitEnd_touch (d : Nat) (s : State) :
    TouchR 0x104030800 s (execLseqWaitEnd d s) := by
  unfold execLseqWaitEnd
  repeat' (first
    | with_reducible exact Touch.refl _ _ | with_reducible refine TouchR.next ?_
    | ((with_reducible apply Touch.via (seqNext_touch _ _ _)); decide) | extract_lets | split)

theorem execRdmon_touch (d : Nat) (w : W32) (v : W16) (s : State) :
    TouchR 0x104030800 s (execRdmon d w v s) := by
  unfold execRdmon
  repeat' (first
    | with_reducible exact Touch.refl _ _
    | (with_reducible refine onRing_touch _ _ _ _ _ (by decide) (fun _ _ _ => ?_))
    | (with_reducible refine seqIssue_touch _ _ _ _ _ _ _ (by decide) (fun _ _ => ?_))
    | ((with_reducible apply Touch.via (seqPut_touch _ _ _ _ _)); decide)
    | ((with_reducible apply Touch.via (setOptRing_touch _ _ _)); decide))

theorem execRdhtr_touch (d : Nat) (w : W32) (s : State) :
    TouchR 0x104030800 s (execRdhtr d w s) := by
  unfold execRdhtr
  repeat' (first
    | with_reducible exact Touch.refl _ _
    | (with_reducible refine onRing_touch _ _ _ _ _ (by decide) (fun _ _ _ => ?_))
    | (with_reducible refine seqIssue_touch _ _ _ _ _ _ _ (by decide) (fun _ _ => ?_))
    | ((with_reducible apply Touch.via (seqPut_touch _ _ _ _ _)); decide))

theorem execWrhtr_touch (d : Nat) (w : W32) (s : State) :
    TouchR 0x104030800 s (execWrhtr d w s) := by
  unfold execWrhtr
  repeat' (first
    | with_reducible exact Touch.refl _ _
    | (with_reducible refine onRing_touch _ _ _ _ _ (by decide) (fun _ _ _ => ?_))
    | ((with_reducible apply Touch.via (seqFault_touch _ _)); decide)
    | (with_reducible refine seqIssue_touch _ _ _ _ _ _ _ (by decide) (fun _ _ => ?_))
    | ((with_reducible apply Touch.via (seqNext_touch _ _ _)); decide)
    | ((with_reducible apply Touch.via (setOptRing_touch _ _ _)); decide) | split)

theorem execSetst_touch (d : Nat) (w : W32) (s : State) :
    TouchR 0x110c030800 s (execSetst d w s) := by
  unfold execSetst
  repeat' (first
    | with_reducible exact Touch.refl _ _
    | (with_reducible refine onRing_touch _ _ _ _ _ (by decide) (fun _ _ _ => ?_))
    | ((with_reducible apply Touch.via (ringLocked_touch _ _)); decide)
    | (with_reducible refine seqIssue_touch _ _ _ _ _ _ _ (by decide) (fun _ _ => ?_))
    | ((with_reducible apply Touch.via (seqNext_touch _ _ _)); decide)
    | ((with_reducible apply Touch.via (setOptRing_touch _ _ _)); decide) | split)

theorem execRdst_touch (d : Nat) (w : W32) (s : State) :
    TouchR 0x104030800 s (execRdst d w s) := by
  unfold execRdst
  repeat' (first
    | with_reducible exact Touch.refl _ _
    | (with_reducible refine onRing_touch _ _ _ _ _ (by decide) (fun _ _ _ => ?_))
    | (with_reducible refine seqIssue_touch _ _ _ _ _ _ _ (by decide) (fun _ _ => ?_))
    | ((with_reducible apply Touch.via (seqPut_touch _ _ _ _ _)); decide))

theorem execRdcal_touch (d : Nat) (w : W32) (s : State) :
    TouchR 0x104030800 s (execRdcal d w s) := by
  unfold execRdcal
  repeat' (first
    | with_reducible exact Touch.refl _ _
    | (with_reducible refine seqIssue_touch _ _ _ _ _ _ _ (by decide) (fun _ _ => ?_))
    | ((with_reducible apply Touch.via (seqPut_touch _ _ _ _ _)); decide))

theorem execWrcal_touch (d : Nat) (w : W32) (s : State) :
    TouchR 0x104030800 s (execWrcal d w s) := by
  unfold execWrcal
  repeat' (first
    | with_reducible exact Touch.refl _ _
    | (with_reducible refine seqIssue_touch _ _ _ _ _ _ _ (by decide) (fun _ _ => ?_))
    | ((with_reducible apply Touch.via (seqNext_touch _ _ _)); decide))

theorem execWrff_touch (d : Nat) (w : W32) (s : State) :
    TouchR 0x104030800 s (execWrff d w s) := by
  unfold execWrff
  repeat' (first
    | with_reducible exact Touch.refl _ _
    | (with_reducible refine onRing_touch _ _ _ _ _ (by decide) (fun _ _ _ => ?_))
    | (with_reducible refine seqIssue_touch _ _ _ _ _ _ _ (by decide) (fun _ _ => ?_))
    | ((with_reducible apply Touch.via (seqNext_touch _ _ _)); decide)
    | ((with_reducible apply Touch.via (setOptRing_touch _ _ _)); decide))

theorem execRdlas_touch (d : Nat) (w : W32) (s : State) :
    TouchR 0x904030800 s (execRdlas d w s) := by
  unfold execRdlas
  repeat' (first
    | with_reducible exact Touch.refl _ _ | ((with_reducible apply Touch.via (fresh_touch _)); decide)
    | (with_reducible refine seqIssue_touch _ _ _ _ _ _ _ (by decide) (fun _ _ => ?_))
    | ((with_reducible apply Touch.via (seqPut_touch _ _ _ _ _)); decide))

theorem biasSet_touch (n : Nat) (v : W32) (s : State) :
    Touch 0x904030000 s (biasSet n v s) := by
  unfold biasSet
  repeat' (first
    | with_reducible exact Touch.refl _ _ | ((with_reducible apply Touch.via (fresh_touch _)); decide)
    | ((with_reducible apply Touch.via (setLaser_touch _ _ _)); decide)
    | ((with_reducible apply Touch.via (wornCheck_touch _ _)); decide)
    | ((with_reducible apply Touch.setOpt); decide) | extract_lets | split)

theorem execWrbias_touch (d : Nat) (w : W32) (s : State) :
    TouchR 0x904030800 s (execWrbias d w s) := by
  unfold execWrbias
  repeat' (first
    | with_reducible exact Touch.refl _ _ | ((with_reducible apply Touch.via (biasSet_touch _ _ _)); decide)
    | (with_reducible refine seqIssue_touch _ _ _ _ _ _ _ (by decide) (fun _ _ => ?_))
    | ((with_reducible apply Touch.via (seqNext_touch _ _ _)); decide) | split)

theorem execRdtmp_touch (d : Nat) (w : W32) (temp : W16) (s : State) :
    TouchR 0x104030800 s (execRdtmp d w temp s) := by
  unfold execRdtmp
  repeat' (first
    | with_reducible exact Touch.refl _ _
    | (with_reducible refine seqIssue_touch _ _ _ _ _ _ _ (by decide) (fun _ _ => ?_))
    | ((with_reducible apply Touch.via (seqPut_touch _ _ _ _ _)); decide))

theorem execLseqRdrt_touch (d : Nat) (w : W32) (s : State) :
    TouchR 0x104030800 s (execLseqRdrt d w s) := by
  unfold execLseqRdrt
  repeat' (first
    | with_reducible exact Touch.refl _ _
    | (with_reducible refine seqIssue_touch _ _ _ _ _ _ _ (by decide) (fun _ _ => ?_))
    | ((with_reducible apply Touch.via (seqPut_touch _ _ _ _ _)); decide))

theorem execPost_touch (d : Nat) (w : W32) (s : State) :
    TouchR 0x104030800 s (execPost d w s) := by
  unfold execPost
  repeat' (first
    | with_reducible exact Touch.refl _ _
    | (with_reducible refine seqIssue_touch _ _ _ _ _ _ _ (by decide) (fun _ _ => ?_))
    | ((with_reducible apply Touch.via (seqNext_touch _ _ _)); decide))

theorem switchLink_touch (pl : LightPlan) (l : Nat) (s : State) :
    Touch 0x8000000 s (switchLink pl l s) := by
  unfold switchLink
  repeat' (first
    | with_reducible exact Touch.refl _ _ | ((with_reducible apply Touch.via (setLnk_touch _ _ _)); decide)
    | extract_lets | split)

theorem execLightPlanSwitch_touch (s : State) :
    TouchR 0x28000000 s (execLightPlanSwitch s) := by
  unfold execLightPlanSwitch
  repeat' (first
    | with_reducible exact Touch.refl _ _ | with_reducible refine Touch.foldl _ _ (fun _ _ => ?_) ?_
    | with_reducible refine TouchR.next ?_ | ((with_reducible apply Touch.via (switchLink_touch _ _ _)); decide)
    | ((with_reducible apply Touch.setFab); decide) | extract_lets | split)

theorem settleLink_touch (l : Nat) (s : State) :
    Touch 0x1bffcb6000 s (settleLink l s) := by
  unfold settleLink
  repeat' (first
    | with_reducible exact Touch.refl _ _ | ((with_reducible apply Touch.via (flushHeld_touch _ _)); decide)
    | ((with_reducible apply Touch.via (portDown_touch _ _ _)); decide)
    | ((with_reducible apply Touch.via (replayOldest_touch _ _)); decide)
    | ((with_reducible apply Touch.via (sendControl_touch _ _ _ _)); decide)
    | ((with_reducible apply Touch.via (setLnk_touch _ _ _)); decide) | extract_lets | split)

theorem execMatrixSettled_touch (s : State) :
    TouchR 0x1bffcb6000 s (execMatrixSettled s) := by
  unfold execMatrixSettled
  repeat' (first
    | with_reducible exact Touch.refl _ _ | with_reducible refine Touch.foldl _ _ (fun _ _ => ?_) ?_
    | with_reducible refine TouchR.next ?_ | ((with_reducible apply Touch.via (retime_touch _)); decide)
    | ((with_reducible apply Touch.via (settleLink_touch _ _)); decide)
    | ((with_reducible apply Touch.setFab); decide) | split)

/-! ### Fabric -/

theorem setPort_touch (s : State) (p : Nat) (x : PortRec) :
    Touch 0x20000000 s (setPort s p x) := by
  unfold setPort
  repeat' (first | with_reducible exact Touch.refl _ _ | ((with_reducible apply Touch.setFab); decide))

theorem execPlanLoad_touch (c : Cmd) (s : State) :
    TouchR 0x1340036000 s (execPlanLoad c s) := by
  unfold execPlanLoad
  repeat' (first
    | with_reducible exact Touch.refl _ _
    | (with_reducible refine runCmd_touch _ _ _ _ _ _ _ (by decide) (fun _ _ => ?_))
    | ((with_reducible refine Touch.setFlash (by decide) ?_ ?_ ?_ ?_); exact rfl; exact rfl; exact rfl))

theorem planTake_touch (s : State) :
    Touch 0xa30000000 s (planTake s) := by
  unfold planTake
  repeat' (first
    | with_reducible exact Touch.refl _ _ | (with_reducible assumption)
    | with_reducible refine Touch.foldl _ _ (fun _ _ => ?_) ?_
    | with_reducible refine Touch.foldl_pair _ _ _ (fun _ _ => ?_) ?_
    | with_reducible refine Touch.foldl_fst _ _ _ (fun _ _ => ?_) ?_
    | with_reducible refine Touch.foldl_trip _ _ _ (fun _ _ => ?_) ?_
    | with_reducible refine Touch.foldl_mid _ _ _ (fun _ _ => ?_) ?_
    | ((with_reducible apply Touch.via (fresh_touch _)); decide)
    | ((with_reducible apply Touch.via (setTimePort_touch _ _ _)); decide)
    | ((with_reducible apply Touch.setFab); decide)
    | ((with_reducible refine Touch.setFlash (by decide) ?_ ?_ ?_ ?_); exact rfl; exact rfl; exact rfl)
    | ((with_reducible refine Touch.setFlash_le (by decide) ?_ ?_ ?_ ?_); exact (fun h => h); exact Nat.le_refl _; exact Nat.le_succ _)
    | extract_lets | split | with_reducible refine Touch.of_snd (by assumption) ?_
    | with_reducible refine Touch.of_fst (by assumption) ?_ | with_reducible refine Touch.of_snd₃ (by assumption) ?_
    | dsimp only | dsimp -zeta +zetaDelta only)

theorem discEnd_touch (timeout : Bool) (s : State) :
    Touch 0xb38036040 s (discEnd timeout s) := by
  unfold discEnd
  repeat' (first
    | with_reducible exact Touch.refl _ _ | (with_reducible assumption)
    | with_reducible refine Touch.foldl _ _ (fun _ _ => ?_) ?_
    | with_reducible refine Touch.foldl_pair _ _ _ (fun _ _ => ?_) ?_
    | with_reducible refine Touch.foldl_fst _ _ _ (fun _ _ => ?_) ?_
    | with_reducible refine Touch.foldl_trip _ _ _ (fun _ _ => ?_) ?_
    | with_reducible refine Touch.foldl_mid _ _ _ (fun _ _ => ?_) ?_
    | ((with_reducible apply Touch.via (finishCmd_touch _ _ _ _ _ _)); decide)
    | ((with_reducible apply Touch.via (logMod_touch _ _ _ _)); decide)
    | ((with_reducible apply Touch.via (planTake_touch _)); decide)
    | ((with_reducible apply Touch.via (retime_touch _)); decide)
    | ((with_reducible apply Touch.via (setLnk_touch _ _ _)); decide)
    | ((with_reducible apply Touch.setFab); decide) | ((with_reducible apply Touch.setSpring); decide)
    | extract_lets | split | with_reducible refine Touch.of_snd (by assumption) ?_
    | with_reducible refine Touch.of_fst (by assumption) ?_ | with_reducible refine Touch.of_snd₃ (by assumption) ?_
    | dsimp only | dsimp -zeta +zetaDelta only)

theorem discCheck_touch (s : State) :
    Touch 0xb38036040 s (discCheck s) := by
  unfold discCheck
  repeat' (first
    | with_reducible exact Touch.refl _ _ | ((with_reducible apply Touch.via (discEnd_touch _ _)); decide) | split)

theorem execSpringStepDone_touch (k : Nat) (i : SpringIn) (s : State) :
    TouchR 0x1ffffffffe s (execSpringStepDone k i s) := by
  unfold execSpringStepDone
  repeat' (first
    | with_reducible exact Touch.refl _ _ | with_reducible refine TouchR.next ?_
    | ((with_reducible apply Touch.via (discCheck_touch _)); decide)
    | ((with_reducible apply Touch.via (springEffect_touch _ _ _)); decide) | split)

theorem execDiscoveryTimeout_touch (s : State) :
    TouchR 0xb38036040 s (execDiscoveryTimeout s) := by
  unfold execDiscoveryTimeout
  repeat' (first
    | with_reducible exact Touch.refl _ _ | with_reducible refine TouchR.next ?_
    | ((with_reducible apply Touch.via (discEnd_touch _ _)); decide) | split)

theorem execPortLightDetected_touch (p : Nat) (s : State) :
    TouchR 0x28000000 s (execPortLightDetected p s) := by
  unfold execPortLightDetected
  repeat' (first
    | with_reducible exact Touch.refl _ _ | with_reducible refine TouchR.next ?_
    | ((with_reducible apply Touch.via (setLnk_touch _ _ _)); decide)
    | ((with_reducible apply Touch.via (setPort_touch _ _ _)); decide) | extract_lets | split)

theorem execPortTrainingDone_touch (p : Nat) (tx rx : BitVec 10) (rtt : W16) (s : State) :
    TouchR 0x28000000 s (execPortTrainingDone p tx rx rtt s) := by
  unfold execPortTrainingDone
  repeat' (first
    | with_reducible exact Touch.refl _ _ | with_reducible refine TouchR.next ?_
    | ((with_reducible apply Touch.via (setLnk_touch _ _ _)); decide)
    | ((with_reducible apply Touch.via (setPort_touch _ _ _)); decide) | extract_lets | split)

theorem execIdentitySend_touch (p : Nat) (s : State) :
    TouchR 0x1000000000 s (execIdentitySend p s) := by
  unfold execIdentitySend
  repeat' (first
    | with_reducible exact Touch.refl _ _ | with_reducible refine TouchR.next ?_
    | ((with_reducible apply Touch.via (sendPlain_touch _ _ _)); decide) | split)

theorem logMismatch_touch (p : Nat) (q : Peer) (s : State) :
    Touch 0x100030000 s (logMismatch p q s) := by
  unfold logMismatch
  repeat' (first
    | with_reducible exact Touch.refl _ _ | ((with_reducible apply Touch.via (logMod_touch _ _ _ _)); decide))

theorem quarantine_touch (p cause : Nat) (q : Peer) (s : State) :
    Touch 0x138030000 s (quarantine p cause q s) := by
  unfold quarantine
  repeat' (first
    | with_reducible exact Touch.refl _ _ | ((with_reducible apply Touch.via (logMod_touch _ _ _ _)); decide)
    | ((with_reducible apply Touch.via (retime_touch _)); decide)
    | ((with_reducible apply Touch.via (setLnk_touch _ _ _)); decide)
    | ((with_reducible apply Touch.via (setPort_touch _ _ _)); decide))

theorem goDark_touch (p : Nat) (out : PortOut) (s : State) :
    Touch 0x138030000 s (goDark p out s) := by
  unfold goDark
  repeat' (first
    | with_reducible exact Touch.refl _ _ | ((with_reducible apply Touch.via (retime_touch _)); decide)
    | ((with_reducible apply Touch.via (setLnk_touch _ _ _)); decide)
    | ((with_reducible apply Touch.via (setPort_touch _ _ _)); decide))

theorem applyVerdict_touch (p : Nat) (q : Peer) (s : State) :
    Touch 0x138030000 s (applyVerdict p q s) := by
  unfold applyVerdict
  repeat' (first
    | with_reducible exact Touch.refl _ _ | ((with_reducible apply Touch.via (goDark_touch _ _ _)); decide)
    | ((with_reducible apply Touch.via (logMismatch_touch _ _ _)); decide)
    | ((with_reducible apply Touch.via (quarantine_touch _ _ _ _)); decide)
    | ((with_reducible apply Touch.via (setPort_touch _ _ _)); decide) | extract_lets | split
    | dsimp -zeta +zetaDelta only)

theorem identityTake_touch (p : Nat) (q : Peer) (s : State) :
    Touch 0x1bffcb6000 s (identityTake p q s) := by
  unfold identityTake
  repeat' (first
    | with_reducible exact Touch.refl _ _ | ((with_reducible apply Touch.via (applyVerdict_touch _ _ _)); decide)
    | ((with_reducible apply Touch.via (goDark_touch _ _ _)); decide)
    | ((with_reducible apply Touch.via (portUp_touch _ _)); decide)
    | ((with_reducible apply Touch.via (setPort_touch _ _ _)); decide) | extract_lets | split
    | dsimp -zeta +zetaDelta only)

theorem execIdentityFrame_touch (p : Nat) (i : FrameIn) (s : State) :
    TouchR 0x1bffcb6040 s (execIdentityFrame p i s) := by
  unfold execIdentityFrame
  repeat' (first
    | with_reducible exact Touch.refl _ _ | with_reducible refine TouchR.next ?_
    | ((with_reducible apply Touch.via (discCheck_touch _)); decide)
    | ((with_reducible apply Touch.via (identityTake_touch _ _ _)); decide)
    | ((with_reducible apply Touch.via (rxChecks_touch _ _ _)); decide) | extract_lets | split)

theorem execQuarantineDarkTimer_touch (p : Nat) (s : State) :
    TouchR 0x20000000 s (execQuarantineDarkTimer p s) := by
  unfold execQuarantineDarkTimer
  repeat' (first
    | with_reducible exact Touch.refl _ _ | with_reducible refine TouchR.next ?_
    | ((with_reducible apply Touch.via (setPort_touch _ _ _)); decide) | extract_lets | split)

theorem execPortDivide_touch (c : Cmd) (s : State) :
    TouchR 0x1b78036040 s (execPortDivide c s) := by
  unfold execPortDivide
  repeat' (first
    | with_reducible exact Touch.refl _ _ | with_reducible refine Touch.foldl _ _ (fun _ _ => ?_) ?_
    | ((with_reducible apply Touch.via (discCheck_touch _)); decide)
    | ((with_reducible apply Touch.via (retime_touch _)); decide)
    | (with_reducible refine runCmd_touch _ _ _ _ _ _ _ (by decide) (fun _ _ => ?_))
    | ((with_reducible apply Touch.via (setLnk_touch _ _ _)); decide)
    | ((with_reducible apply Touch.via (setPort_touch _ _ _)); decide)
    | ((with_reducible apply Touch.via (startDisc_touch _ _ _)); decide)
    | ((with_reducible apply Touch.setFab); decide) | split)

theorem execPartitionSet_touch (c : Cmd) (s : State) :
    TouchR 0x1b78036040 s (execPartitionSet c s) := by
  unfold execPartitionSet
  repeat' (first
    | with_reducible exact Touch.refl _ _ | ((with_reducible apply Touch.via (discCheck_touch _)); decide)
    | (with_reducible refine runCmd_touch _ _ _ _ _ _ _ (by decide) (fun _ _ => ?_))
    | ((with_reducible apply Touch.via (startDisc_touch _ _ _)); decide)
    | ((with_reducible apply Touch.setFab); decide)
    | ((with_reducible refine Touch.setFlash (by decide) ?_ ?_ ?_ ?_); exact rfl; exact rfl; exact rfl))

theorem execPortStatus_touch (c : Cmd) (s : State) :
    TouchR 0x1140036000 s (execPortStatus c s) := by
  unfold execPortStatus
  repeat' (first
    | with_reducible exact Touch.refl _ _ | ((with_reducible apply Touch.via (intoBuf_touch _ _ _ _)); decide)
    | (with_reducible refine runCmd_touch _ _ _ _ _ _ _ (by decide) (fun _ _ => ?_)))

theorem execDiscoveryReport_touch (c : Cmd) (s : State) :
    TouchR 0x1140036000 s (execDiscoveryReport c s) := by
  unfold execDiscoveryReport
  repeat' (first
    | with_reducible exact Touch.refl _ _ | ((with_reducible apply Touch.via (intoBuf_touch _ _ _ _)); decide)
    | (with_reducible refine runCmd_touch _ _ _ _ _ _ _ (by decide) (fun _ _ => ?_)))

theorem execLightPlanLoad_touch (c : Cmd) (s : State) :
    TouchR 0x1170036000 s (execLightPlanLoad c s) := by
  unfold execLightPlanLoad
  repeat' (first
    | with_reducible exact Touch.refl _ _ | ((with_reducible apply Touch.via (arm_touch _ _ _)); decide)
    | (with_reducible refine runCmd_touch _ _ _ _ _ _ _ (by decide) (fun _ _ => ?_))
    | ((with_reducible apply Touch.setFab); decide) | split | dsimp -zeta +zetaDelta only)

/-! ### RegRead -/

theorem regRead_touch (off : Nat) (s : State) :
    Touch 0x1bb7cb6000 s (regRead off s).2 := by
  unfold regRead
  repeat' (first
    | with_reducible exact Touch.refl _ _ | ((with_reducible apply Touch.via (offdom_touch _ _ _)); decide) | split)

/-! ### Packets -/

theorem sendPacket_touch (p : Packet) (realm : Nat) (red nf : Bool) (s : State) :
    TouchP (fun x => x.2) 0x1068000000 s (sendPacket p realm red nf s) := by
  unfold sendPacket
  repeat' (first
    | with_reducible exact Touch.refl _ _ | with_reducible exact TouchP.none | with_reducible refine TouchP.some ?_
    | ((with_reducible apply Touch.via (sendData_touch _ _ _)); decide)
    | ((with_reducible apply Touch.setFab); decide) | split)

theorem sendAnswer_touch (p : Packet) (realm : Nat) (s : State) :
    Touch 0x1068000000 s (sendAnswer p realm s) := by
  unfold sendAnswer
  repeat' (first
    | with_reducible exact Touch.refl _ _
    | ((with_reducible apply Touch.ofP2 (by assumption) (sendPacket_touch _ _ _ _ _)); decide) | split)

theorem issueTxn_touch (who : TxnWho) (p : Packet) (realm : Nat) (red : Bool) (into : Option Nat) (s : State) :
    TouchO 0x1068000000 s (issueTxn who p realm red into s) := by
  unfold issueTxn
  repeat' (first
    | with_reducible exact Touch.refl _ _ | with_reducible exact TouchO.none | with_reducible refine TouchO.some ?_
    | ((with_reducible apply Touch.ofP2 (by assumption) (sendPacket_touch _ _ _ _ _)); decide)
    | ((with_reducible apply Touch.setFab); decide) | extract_lets | split)

theorem txnsDrop_touch (who : TxnWho) (s : State) :
    Touch 0x20000000 s (txnsDrop who s) := by
  unfold txnsDrop
  repeat' (first | with_reducible exact Touch.refl _ _ | ((with_reducible apply Touch.setFab); decide))

theorem aliasRead_touch (o len : Nat) (s : State) :
    Touch 0x1bb7cb6000 s (aliasRead o len s).2 := by
  unfold aliasRead
  repeat' (first
    | with_reducible exact Touch.refl _ _ | with_reducible refine Touch.foldl_pair _ _ _ (fun _ _ => ?_) ?_
    | ((with_reducible apply Touch.via (regRead_touch _ _)); decide))

theorem targetRead_touch (src : Src) (realm off len : Nat) (s : State) :
    Touch 0x1bb7cb6800 s (targetRead src realm off len s).2 := by
  unfold targetRead
  repeat' (first
    | with_reducible exact Touch.refl _ _ | with_reducible refine Touch.foldl_trip _ _ _ (fun _ _ => ?_) ?_
    | ((with_reducible apply Touch.via (aliasRead_touch _ _ _)); decide)
    | ((with_reducible apply Touch.via (memRead_touch _ _ _ _)); decide) | extract_lets | split)

theorem targetWrite_touch (src : Src) (realm off : Nat) (data : List Byte) (s : State) :
    Touch 0xb93830000 s (targetWrite src realm off data s).2 := by
  unfold targetWrite
  repeat' (first
    | with_reducible exact Touch.refl _ _ | with_reducible refine Touch.foldl_pair _ _ _ (fun _ _ => ?_) ?_
    | ((with_reducible apply Touch.via (memWrite_touch _ _ _ _)); decide) | extract_lets | split)

theorem serve_touch (src : Src) (chip realm off : Nat) (write : Bool) (len : Nat) (data : List Byte) (s : State) :
    Touch 0x1bb7cb6800 s (serve src chip realm off write len data s).2 := by
  unfold serve
  repeat' (first
    | with_reducible exact Touch.refl _ _ | ((with_reducible apply Touch.via (remoteDenied_touch _ _ _ _)); decide)
    | ((with_reducible apply Touch.via (targetRead_touch _ _ _ _ _)); decide)
    | ((with_reducible apply Touch.via (targetWrite_touch _ _ _ _ _)); decide) | extract_lets | split
    | dsimp -zeta +zetaDelta only)

theorem execRemoteRequest_touch (chip slot realm : Nat) (wr : Bool) (off len : Nat) (data : List Byte) (errs : List (Nat × Nat)) (s : State) :
    TouchR 0x1bb7cb6800 s (execRemoteRequest chip slot realm wr off len data errs s) := by
  unfold execRemoteRequest
  repeat' (first
    | with_reducible exact Touch.refl _ _ | with_reducible refine TouchR.next ?_
    | ((with_reducible apply Touch.via (abortStep_touch _ _)); decide)
    | ((with_reducible apply Touch.via (applyErrs_touch _ _)); decide)
    | ((with_reducible apply Touch.via (emit_touch _ _)); decide)
    | ((with_reducible apply Touch.via (serve_touch _ _ _ _ _ _ _ _)); decide) | split | dsimp -zeta +zetaDelta only)

end Sys2Proof.Machine
end

