-- ==== Sys2Proof/Laws/TouchJobs.lean ====
section
/-! SUPPORT. What each operation and command may touch (see Laws/Touch.lean): transfers, steps, jobs and host memory. -/

set_option maxRecDepth 4000

namespace Sys2Proof.Machine

open Sys2Proof

/-! ### Dma -/

theorem thenRun_touch {m : Nat} (r : Run) (f : State → Run) (hm : 0x0 &&& m = 0x0) (hf : ∀ t, Touch m t (f t).1) :
    Touch m r.1 (thenRun r f).1 := by
  unfold thenRun
  split
  · exact Touch.refl _ _
  · exact hf _

theorem runAll_touch {m : Nat} {α : Type} (l : List α) (f : α → State → Run) (s : State) (hm : 0x0 &&& m = 0x0) (hf : ∀ a t, Touch m t (f a t).1) :
    Touch m s (runAll l f s).1 := by
  unfold runAll
  refine Touch.foldl_fst _ _ _ (fun r a => ?_) (Touch.refl _ _)
  unfold thenRun
  split
  · exact Touch.refl _ _
  · exact hf _ _

theorem ownDenied_touch (d off k : Nat) (s : State) :
    Touch 0x100030000 s (ownDenied d off k s) := by
  unfold ownDenied
  repeat' (first
    | with_reducible exact Touch.refl _ _ | ((with_reducible apply Touch.via (remoteDenied_touch _ _ _ _)); decide)
    | extract_lets | split)

theorem ownRead_touch (src : Src) (realm d slot off len : Nat) (stash : Bool) (s : State) :
    Touch 0x1bb7cb6800 s (ownRead src realm d slot off len stash s).2.1 := by
  unfold ownRead
  repeat' (first
    | with_reducible exact Touch.refl _ _ | ((with_reducible apply Touch.via (aliasRead_touch _ _ _)); decide)
    | ((with_reducible apply Touch.via (memRead_touch _ _ _ _)); decide)
    | ((with_reducible apply Touch.via (ownDenied_touch _ _ _ _)); decide)
    | ((with_reducible apply Touch.ofP3 (by assumption) (stashRead_touch _ _ _ _ _ _ _)); decide) | split)

theorem ownWrite_touch (src : Src) (realm d slot off : Nat) (data : List Byte) (stash : Bool) (s : State) :
    Touch 0xb93830000 s (ownWrite src realm d slot off data stash s).1 := by
  unfold ownWrite
  repeat' (first
    | with_reducible exact Touch.refl _ _ | ((with_reducible apply Touch.via (memWrite_touch _ _ _ _)); decide)
    | ((with_reducible apply Touch.via (ownDenied_touch _ _ _ _)); decide)
    | ((with_reducible apply TouchO.get (by assumption) (stashWrite_touch _ _ _ _ _ _ _)); decide)
    | with_reducible refine Touch.getD (stashWrite_touch _ _ _ _ _ _ _) (by decide) ?_ ?_ | split)

theorem dmaSetHead_touch (d c slot queue : Nat) (x : Xfer) (s : State) :
    Touch 0x400000 s (dmaSetHead d c slot queue x s) := by
  unfold dmaSetHead
  repeat' (first
    | with_reducible exact Touch.refl _ _ | ((with_reducible apply Touch.via (setDma_touch _ _ _ _ _)); decide))

theorem dmaRead_touch (d c slot : Nat) (x : Xfer) (a len : Nat) (s : State) :
    Touch 0x1bb7cb6800 s (dmaRead d c slot x a len s).2.1 := by
  unfold dmaRead
  repeat' (first
    | with_reducible exact Touch.refl _ _
    | ((with_reducible apply Touch.via (ownRead_touch _ _ _ _ _ _ _ _)); decide) | split)

theorem dmaCount_touch (d c slot n : Nat) (s : State) :
    Touch 0x400000 s (dmaCount d c slot n s) := by
  unfold dmaCount
  repeat' (first
    | with_reducible exact Touch.refl _ _ | ((with_reducible apply Touch.via (setDma_touch _ _ _ _ _)); decide))

theorem dmaWrite_touch (d c slot queue : Nat) (a : Nat) (b : List Byte) (s : State) :
    Touch 0x1bfbc30000 s (dmaWrite d c slot queue a b s).1 := by
  unfold dmaWrite
  repeat' (first
    | with_reducible exact Touch.refl _ _ | ((with_reducible apply Touch.via (dmaCount_touch _ _ _ _ _)); decide)
    | ((with_reducible apply TouchO.get (by assumption) (issueTxn_touch _ _ _ _ _ _)); decide)
    | with_reducible refine Touch.getD (issueTxn_touch _ _ _ _ _ _) (by decide) ?_ ?_
    | ((with_reducible apply Touch.via (ownWrite_touch _ _ _ _ _ _ _ _)); decide)
    | (with_reducible refine Touch.trans ?_ (runAll_touch _ _ _ (by decide) (fun _ _ => ?_)))
    | (with_reducible refine Touch.trans ?_ (thenRun_touch _ _ (by decide) (fun _ => ?_))) | split)

theorem tileIn_touch (d c slot : Nat) (x : Xfer) (r t : Nat) (s : State) :
    Touch 0x1bb7cb6800 s (tileIn d c slot x r t s).2.1 := by
  unfold tileIn
  repeat' (first
    | with_reducible exact Touch.refl _ _ | ((with_reducible apply Touch.via (dmaRead_touch _ _ _ _ _ _ _)); decide)
    | extract_lets | split | dsimp -zeta +zetaDelta only)

theorem tileBin_touch (d c slot queue : Nat) (x : Xfer) (r t : Nat) (vals : List F32) (s : State) :
    Touch 0x1bfbc30000 s (tileBin d c slot queue x r t vals s).1 := by
  unfold tileBin
  repeat' (first
    | with_reducible exact Touch.refl _ _
    | ((with_reducible apply Touch.via (dmaWrite_touch _ _ _ _ _ _ _)); decide)
    | (with_reducible refine Touch.trans ?_ (thenRun_touch _ _ (by decide) (fun _ => ?_)))
    | ((with_reducible apply Touch.via (watCount_touch _ _ _ _ _ _ _)); decide))

theorem tileQuant_touch (d c slot queue : Nat) (x : Xfer) (j : Job) (ten : Tensor) (r t : Nat) (vals : List F32) (s : State) :
    Touch 0x1bfbcb6000 s (tileQuant d c slot queue x j ten r t vals s).1 := by
  unfold tileQuant
  repeat' (first
    | with_reducible exact Touch.refl _ _
    | ((with_reducible apply Touch.via (dmaWrite_touch _ _ _ _ _ _ _)); decide)
    | ((with_reducible apply Touch.via (quantCount_touch _ _ _ _ _ _ _ _)); decide)
    | ((with_reducible apply Touch.via (recomputeFailed_touch _ _ _ _ _)); decide)
    | (with_reducible refine Touch.trans ?_ (thenRun_touch _ _ (by decide) (fun _ => ?_))) | extract_lets | split)

theorem rowCopy_touch (d c slot queue : Nat) (x : Xfer) (r : Nat) (s : State) :
    Touch 0x1bffcb6800 s (rowCopy d c slot queue x r s).1 := by
  unfold rowCopy
  repeat' (first
    | with_reducible exact Touch.refl _ _ | ((with_reducible apply Touch.via (dmaRead_touch _ _ _ _ _ _ _)); decide)
    | ((with_reducible apply Touch.via (dmaWrite_touch _ _ _ _ _ _ _)); decide)
    | (with_reducible refine Touch.trans ?_ (thenRun_touch _ _ (by decide) (fun _ => ?_))) | split)

theorem rowConvert_touch (d c slot queue : Nat) (x : Xfer) (r : Nat) (s : State) :
    Touch 0x1bffcb6800 s (rowConvert d c slot queue x r s).1 := by
  unfold rowConvert
  refine runAll_touch _ _ _ (by decide) (fun t u => ?_)
  dsimp only
  refine Touch.trans ?_ (thenRun_touch _ _ (by decide) (fun w => ?_))
  · exact (tileIn_touch _ _ _ _ _ _ _).mono (by decide)
  · split
    · split
      · exact (tileQuant_touch _ _ _ _ _ _ _ _ _ _ _).mono (by decide)
      · exact Touch.refl _ _
    · exact (tileBin_touch _ _ _ _ _ _ _ _ _).mono (by decide)

theorem dmaMove_touch (d c slot queue : Nat) (x : Xfer) (s : State) :
    Touch 0x1bffcb6800 s (dmaMove d c slot queue x s) := by
  unfold dmaMove
  repeat' (first
    | with_reducible exact Touch.refl _ _ | ((with_reducible apply Touch.via (dmaFault_touch _ _ _ _ _ _)); decide)
    | ((with_reducible apply Touch.via (dmaSetHead_touch _ _ _ _ _ _)); decide)
    | ((with_reducible apply Touch.via (rowConvert_touch _ _ _ _ _ _ _)); decide)
    | ((with_reducible apply Touch.via (rowCopy_touch _ _ _ _ _ _ _)); decide)
    | (with_reducible refine Touch.trans ?_ (runAll_touch _ _ _ (by decide) (fun _ _ => ?_))) | extract_lets | split
    | dsimp -zeta +zetaDelta only)

theorem dmaAsk_touch (d c slot queue : Nat) (x : Xfer) (s : State) :
    Touch 0x1068000000 s (dmaAsk d c slot queue x s).1 := by
  unfold dmaAsk
  repeat' (first
    | with_reducible exact Touch.refl _ _
    | ((with_reducible apply TouchO.get (by assumption) (issueTxn_touch _ _ _ _ _ _)); decide)
    | with_reducible refine Touch.getD (issueTxn_touch _ _ _ _ _ _) (by decide) ?_ ?_
    | (with_reducible refine Touch.trans ?_ (runAll_touch _ _ _ (by decide) (fun _ _ => ?_))) | split)

theorem execDmaTransferStart_touch (d c slot queue : Nat) (errs : List (Nat × Nat)) (s : State) :
    TouchR 0x1bffcb6800 s (execDmaTransferStart d c slot queue errs s) := by
  unfold execDmaTransferStart
  repeat' (first
    | with_reducible exact Touch.refl _ _ | with_reducible refine TouchR.next ?_
    | ((with_reducible apply Touch.via (applyErrs_touch _ _)); decide)
    | ((with_reducible apply Touch.via (dmaAsk_touch _ _ _ _ _ _)); decide)
    | ((with_reducible apply Touch.via (dmaFault_touch _ _ _ _ _ _)); decide)
    | ((with_reducible apply Touch.via (dmaMove_touch _ _ _ _ _ _)); decide)
    | ((with_reducible apply Touch.via (dmaSetHead_touch _ _ _ _ _ _)); decide)
    | ((with_reducible apply Touch.via (txnsDrop_touch _ _)); decide) | extract_lets | split)

theorem dmaData_touch (d c slot queue at_ : Nat) (b : List Byte) (poison : Bool) (s : State) :
    Touch 0x1bffcb6800 s (dmaData d c slot queue at_ b poison s) := by
  unfold dmaData
  repeat' (first
    | with_reducible exact Touch.refl _ _ | ((with_reducible apply Touch.via (dmaFault_touch _ _ _ _ _ _)); decide)
    | ((with_reducible apply Touch.via (dmaMove_touch _ _ _ _ _ _)); decide)
    | ((with_reducible apply Touch.via (dmaSetHead_touch _ _ _ _ _ _)); decide) | extract_lets | split)

theorem execDmaTransferDone_touch (d c slot queue : Nat) (s : State) :
    TouchR 0x400000 s (execDmaTransferDone d c slot queue s) := by
  unfold execDmaTransferDone
  repeat' (first
    | with_reducible exact Touch.refl _ _ | with_reducible refine TouchR.next ?_
    | ((with_reducible apply Touch.via (setDma_touch _ _ _ _ _)); decide) | split)

/-! ### Sched -/

theorem takeWaits_touch (d slot m : Nat) (ws : List TokRef) (s : State) :
    Touch 0x100000 s (takeWaits d slot m ws s) := by
  unfold takeWaits
  repeat' (first | with_reducible exact Touch.refl _ _ | ((with_reducible apply Touch.setScb); decide))

theorem addSigs_touch (l : List Sig) (s : State) :
    Touch 0x20000000 s (addSigs l s) := by
  unfold addSigs
  repeat' (first | with_reducible exact Touch.refl _ _ | ((with_reducible apply Touch.setFab); decide))

theorem tokenFault_touch (g : Sig) (s : State) :
    Touch 0x3b3cb6000 s (tokenFault g s) := by
  unfold tokenFault
  repeat' (first
    | with_reducible exact Touch.refl _ _ | ((with_reducible apply Touch.via (abortStep_touch _ _)); decide)
    | ((with_reducible apply Touch.via (fillFault_touch _ _)); decide)
    | ((with_reducible apply Touch.via (logJob_touch _ _ _ _ _)); decide) | split)

theorem tokenAdd_touch (g : Sig) (s : State) :
    Touch 0x3b3db6000 s (tokenAdd g s) := by
  unfold tokenAdd
  repeat' (first
    | with_reducible exact Touch.refl _ _ | ((with_reducible apply Touch.via (tokenFault_touch _ _)); decide)
    | ((with_reducible apply Touch.setScb); decide) | extract_lets | split)

theorem sigTake_touch (g : Sig) (s : State) :
    TouchO 0x3b3db6000 s (sigTake g s) := by
  unfold sigTake
  repeat' (first
    | with_reducible exact Touch.refl _ _ | with_reducible exact TouchO.none | with_reducible refine TouchO.some ?_
    | ((with_reducible apply Touch.via (tokenAdd_touch _ _)); decide)
    | ((with_reducible apply Touch.via (tokenFault_touch _ _)); decide)
    | ((with_reducible apply Touch.setDsc); decide) | extract_lets | split)

theorem execSignalApply_touch (i : Nat) (s : State) :
    TouchR 0x3b3db6000 s (execSignalApply i s) := by
  unfold execSignalApply
  repeat' (first
    | with_reducible exact Touch.refl _ _ | with_reducible refine TouchR.next ?_
    | ((with_reducible apply TouchO.get (by assumption) (sigTake_touch _ _)); decide)
    | with_reducible refine Touch.getD (sigTake_touch _ _) (by decide) ?_ ?_
    | ((with_reducible apply Touch.setFab); decide) | split)

theorem execInstanceSignalRelease_touch (slot tbl i m : Nat) (s : State) :
    TouchR 0x20000000 s (execInstanceSignalRelease slot tbl i m s) := by
  unfold execInstanceSignalRelease
  repeat' (first
    | with_reducible exact Touch.refl _ _ | with_reducible refine TouchR.next ?_
    | ((with_reducible apply Touch.setFab); decide))

theorem solsticeHeld_touch (slot m : Nat) (s : State) :
    Touch 0x100030000 s (solsticeHeld slot m s) := by
  unfold solsticeHeld
  repeat' (first
    | with_reducible exact Touch.refl _ _ | ((with_reducible apply Touch.via (logJob_touch _ _ _ _ _)); decide)
    | split)

theorem heldCheck_touch (slot : Nat) (s : State) :
    Touch 0x100030000 s (heldCheck slot s) := by
  unfold heldCheck
  repeat' (first
    | with_reducible exact Touch.refl _ _ | ((with_reducible apply Touch.via (setJobAt_touch _ _ _)); decide)
    | ((with_reducible apply Touch.via (solsticeHeld_touch _ _ _)); decide) | extract_lets | split)

theorem deepSwitch_touch (slot : Nat) (s : State) :
    Touch 0x3b3cb6000 s (deepSwitch slot s) := by
  unfold deepSwitch
  repeat' (first
    | with_reducible exact Touch.refl _ _ | ((with_reducible apply Touch.via (abortStep_touch _ _)); decide)
    | ((with_reducible apply Touch.via (setJobAt_touch _ _ _)); decide) | split)

theorem instStart_touch (slot tbl i m : Nat) (t : Task) (j : Job) (c : Nat) (s : State) :
    Touch 0x530000 s (instStart slot tbl i m t j c s) := by
  unfold instStart
  repeat' (first
    | with_reducible exact Touch.refl _ _ | ((with_reducible apply Touch.via (setCcc_touch _ _ _ _ _)); decide)
    | ((with_reducible apply Touch.via (setJobAt_touch _ _ _)); decide)
    | ((with_reducible apply Touch.via (takeWaits_touch _ _ _ _ _)); decide) | split)

theorem execInstanceDispatch_touch (slot tbl i m : Nat) (s : State) :
    TouchR 0x3b3db6000 s (execInstanceDispatch slot tbl i m s) := by
  unfold execInstanceDispatch
  repeat' (first
    | with_reducible exact Touch.refl _ _ | with_reducible refine TouchR.next ?_
    | ((with_reducible apply Touch.via (deepSwitch_touch _ _)); decide)
    | ((with_reducible apply Touch.via (heldCheck_touch _ _)); decide)
    | ((with_reducible apply Touch.via (instStart_touch _ _ _ _ _ _ _ _)); decide)
    | ((with_reducible apply Touch.via (logJob_touch _ _ _ _ _)); decide)
    | ((with_reducible apply Touch.via (setJobAt_touch _ _ _)); decide) | extract_lets | split)

theorem countDone_touch (d slot : Nat) (s : State) :
    Touch 0x80000 s (countDone d slot s) := by
  unfold countDone
  repeat' (first | with_reducible exact Touch.refl _ _ | ((with_reducible apply Touch.setDsc); decide))

theorem lossCompare_touch (slot : Nat) (s : State) :
    Touch 0x100430000 s (lossCompare slot s) := by
  unfold lossCompare
  repeat' (first
    | with_reducible exact Touch.refl _ _ | (with_reducible assumption)
    | with_reducible refine Touch.foldl _ _ (fun _ _ => ?_) ?_
    | with_reducible refine Touch.foldl_pair _ _ _ (fun _ _ => ?_) ?_
    | with_reducible refine Touch.foldl_fst _ _ _ (fun _ _ => ?_) ?_
    | with_reducible refine Touch.foldl_trip _ _ _ (fun _ _ => ?_) ?_
    | with_reducible refine Touch.foldl_mid _ _ _ (fun _ _ => ?_) ?_
    | ((with_reducible apply Touch.via (logJob_touch _ _ _ _ _)); decide)
    | ((with_reducible apply Touch.via (setJobAt_touch _ _ _)); decide)
    | ((with_reducible apply Touch.via (watCount_touch _ _ _ _ _ _ _)); decide) | extract_lets | split
    | with_reducible refine Touch.of_snd (by assumption) ?_ | with_reducible refine Touch.of_fst (by assumption) ?_
    | with_reducible refine Touch.of_snd₃ (by assumption) ?_ | dsimp only | dsimp -zeta +zetaDelta only)

theorem afterDone_touch (slot : Nat) (t : Task) (m : Nat) (s00 : State) :
    Touch 0x101c30000 s00 (afterDone slot t m s00) := by
  unfold afterDone
  repeat' (first
    | with_reducible exact Touch.refl _ _ | ((with_reducible apply Touch.via (lossCompare_touch _ _)); decide)
    | ((with_reducible apply Touch.via (setJobAt_touch _ _ _)); decide)
    | ((with_reducible apply Touch.via (stashDrop_touch _ _ _)); decide) | extract_lets | split
    | dsimp -zeta +zetaDelta only)

theorem execClusterTaskDone_touch (d c slot : Nat) (s : State) :
    TouchR 0x121cb0000 s (execClusterTaskDone d c slot s) := by
  unfold execClusterTaskDone
  repeat' (first
    | with_reducible exact Touch.refl _ _ | with_reducible refine TouchR.next ?_
    | ((with_reducible apply Touch.via (afterDone_touch _ _ _ _)); decide)
    | ((with_reducible apply Touch.via (cccReport_touch _ _ _ _ _)); decide)
    | ((with_reducible apply Touch.via (countDone_touch _ _ _)); decide)
    | ((with_reducible apply Touch.via (heldCheck_touch _ _)); decide)
    | ((with_reducible apply Touch.setFab); decide) | extract_lets | split)

theorem stopCtx_touch (d c slot : Nat) (s : State) :
    Touch 0x80400000 s (stopCtx d c slot s) := by
  unfold stopCtx
  repeat' (first
    | with_reducible exact Touch.refl _ _ | with_reducible refine Touch.foldl _ _ (fun _ _ => ?_) ?_
    | ((with_reducible apply Touch.via (cccStop_touch _ _ _ _)); decide)
    | ((with_reducible apply Touch.via (checksDrop_touch _ _)); decide)
    | ((with_reducible apply Touch.via (setCore_touch _ _ _ _ _)); decide) | extract_lets | split)

theorem execTaskTimeout_touch (d c slot : Nat) (s : State) :
    TouchR 0x3b3cb6000 s (execTaskTimeout d c slot s) := by
  unfold execTaskTimeout
  repeat' (first
    | with_reducible exact Touch.refl _ _ | with_reducible refine TouchR.next ?_
    | ((with_reducible apply Touch.via (cccReport_touch _ _ _ _ _)); decide)
    | ((with_reducible apply Touch.via (ctxAbort_touch _ _)); decide)
    | ((with_reducible apply Touch.via (logCtx_touch _ _ _ _ _)); decide)
    | ((with_reducible apply Touch.via (stopCtx_touch _ _ _ _)); decide) | extract_lets | split)

theorem execStepAbortReported_touch (slot : Nat) (s : State) :
    TouchR 0x3b3cb6000 s (execStepAbortReported slot s) := by
  unfold execStepAbortReported
  repeat' (first
    | with_reducible exact Touch.refl _ _ | with_reducible refine TouchR.next ?_
    | ((with_reducible apply Touch.via (finishDeferred_touch _ _ _)); decide)
    | ((with_reducible apply Touch.via (setJobAt_touch _ _ _)); decide)
    | ((with_reducible apply Touch.via (stashRelease_touch _ _)); decide)
    | ((with_reducible apply Touch.via (withdrawJob_touch _ _)); decide) | split)

theorem execAbortQuietEnd_touch (slot : Nat) (s : State) :
    TouchR 0x30000 s (execAbortQuietEnd slot s) := by
  unfold execAbortQuietEnd
  repeat' (first
    | with_reducible exact Touch.refl _ _ | with_reducible refine TouchR.next ?_
    | ((with_reducible apply Touch.via (setJobAt_touch _ _ _)); decide) | split)

theorem execStepStallLimit_touch (slot : Nat) (s : State) :
    TouchR 0x3b3cb6000 s (execStepStallLimit slot s) := by
  unfold execStepStallLimit
  repeat' (first
    | with_reducible exact Touch.refl _ _ | with_reducible refine TouchR.next ?_
    | ((with_reducible apply Touch.via (abortPlain_touch _ _)); decide)
    | ((with_reducible apply Touch.via (logJob_touch _ _ _ _ _)); decide) | extract_lets | split)

/-! ### Turns -/

theorem setHalf_touch (d slot v : Nat) (s : State) :
    Touch 0x80000 s (setHalf d slot v s) := by
  unfold setHalf
  repeat' (first | with_reducible exact Touch.refl _ _ | ((with_reducible apply Touch.setDsc); decide))

theorem dieCores_touch (d : Nat) (f : Nat → Nat → Core → Core) (s : State) :
    Touch 0x400000 s (dieCores d f s) := by
  unfold dieCores
  repeat' (first | with_reducible exact Touch.refl _ _ | ((with_reducible apply Touch.setCmp); decide))

theorem takeTurn_touch (d k : Nat) (s : State) :
    Touch 0x480000 s (takeTurn d k s) := by
  unfold takeTurn
  repeat' (first
    | with_reducible exact Touch.refl _ _ | ((with_reducible apply Touch.via (dieCores_touch _ _ _)); decide)
    | ((with_reducible apply Touch.via (setHalf_touch _ _ _ _)); decide)
    | ((with_reducible apply Touch.setDsc); decide))

theorem logLate_touch (d mask ticks outcome : Nat) (s : State) :
    Touch 0x1000b0000 s (logLate d mask ticks outcome s) := by
  unfold logLate
  repeat' (first
    | with_reducible exact Touch.refl _ _ | ((with_reducible apply Touch.via (logMod_touch _ _ _ _)); decide)
    | ((with_reducible apply Touch.setDsc); decide))

theorem lateAbort_touch (slot : Nat) (s : State) :
    Touch 0x3b3cb6000 s (lateAbort slot s) := by
  unfold lateAbort
  repeat' (first
    | with_reducible exact Touch.refl _ _ | (with_reducible assumption)
    | with_reducible refine Touch.foldl _ _ (fun _ _ => ?_) ?_
    | with_reducible refine Touch.foldl_pair _ _ _ (fun _ _ => ?_) ?_
    | with_reducible refine Touch.foldl_fst _ _ _ (fun _ _ => ?_) ?_
    | with_reducible refine Touch.foldl_trip _ _ _ (fun _ _ => ?_) ?_
    | with_reducible refine Touch.foldl_mid _ _ _ (fun _ _ => ?_) ?_
    | ((with_reducible apply Touch.via (abortStep_touch _ _)); decide)
    | ((with_reducible apply Touch.via (setJobAt_touch _ _ _)); decide) | extract_lets | split
    | with_reducible refine Touch.of_snd (by assumption) ?_ | with_reducible refine Touch.of_fst (by assumption) ?_
    | with_reducible refine Touch.of_snd₃ (by assumption) ?_ | dsimp only | dsimp -zeta +zetaDelta only)

theorem dieEquinox_touch (d : Nat) (p : W64 × Nat × Nat) (s : State) :
    Touch 0x3b3cb6000 s (dieEquinox d p s) := by
  unfold dieEquinox
  repeat' (first
    | with_reducible exact Touch.refl _ _ | ((with_reducible apply Touch.via (lateAbort_touch _ _)); decide)
    | ((with_reducible apply Touch.via (logLate_touch _ _ _ _ _)); decide)
    | ((with_reducible apply Touch.via (takeTurn_touch _ _ _)); decide)
    | ((with_reducible apply Touch.setDsc); decide) | extract_lets | split | dsimp -zeta +zetaDelta only)

theorem dropE0_touch (s : State) :
    Touch 0x10000000 s (dropE0 s) := by
  unfold dropE0
  repeat' (first
    | with_reducible exact Touch.refl _ _ | ((with_reducible apply Touch.via (setRtb_touch _ _)); decide))

theorem execEquinoxTurn_touch (s : State) :
    TouchR 0x3b3cb6000 s (execEquinoxTurn s) := by
  unfold execEquinoxTurn
  repeat' (first
    | with_reducible exact Touch.refl _ _ | with_reducible refine Touch.foldl _ _ (fun _ _ => ?_) ?_
    | with_reducible refine TouchR.next ?_ | ((with_reducible apply Touch.via (dieEquinox_touch _ _ _)); decide)
    | ((with_reducible apply Touch.via (dropE0_touch _)); decide) | split)

theorem execLateTurn_touch (d : Nat) (s : State) :
    TouchR 0x1004b0000 s (execLateTurn d s) := by
  unfold execLateTurn
  repeat' (first
    | with_reducible exact Touch.refl _ _ | with_reducible refine TouchR.next ?_
    | ((with_reducible apply Touch.via (logLate_touch _ _ _ _ _)); decide)
    | ((with_reducible apply Touch.via (takeTurn_touch _ _ _)); decide) | extract_lets | split)

theorem loneHalf_touch (d slot half : Nat) (j : Job) (s : State) :
    Touch 0x292c80008 s (loneHalf d slot half j s) := by
  unfold loneHalf
  repeat' (first
    | with_reducible exact Touch.refl _ _ | with_reducible refine Touch.foldl _ _ (fun _ _ => ?_) ?_
    | ((with_reducible apply Touch.via (dieCores_touch _ _ _)); decide)
    | ((with_reducible apply Touch.via (idle_touch _)); decide)
    | ((with_reducible apply Touch.via (setDom_touch _ _ _)); decide)
    | ((with_reducible apply Touch.via (setHalf_touch _ _ _ _)); decide) | split | dsimp -zeta +zetaDelta only)

theorem execLoneTurn_touch (d : Nat) (s : State) :
    TouchR 0x292cb0008 s (execLoneTurn d s) := by
  unfold execLoneTurn
  repeat' (first
    | with_reducible exact Touch.refl _ _ | with_reducible refine TouchR.next ?_
    | ((with_reducible apply Touch.via (idle_touch _)); decide)
    | ((with_reducible apply Touch.via (loneHalf_touch _ _ _ _ _)); decide)
    | ((with_reducible apply Touch.via (setJobAt_touch _ _ _)); decide)
    | ((with_reducible apply Touch.setDsc); decide) | extract_lets | split)

theorem tokensReset_touch (d slot : Nat) (toks : List (Nat × Bool)) (keep : Bool) (s : State) :
    Touch 0x100000 s (tokensReset d slot toks keep s) := by
  unfold tokensReset
  repeat' (first | with_reducible exact Touch.refl _ _ | ((with_reducible apply Touch.setScb); decide))

theorem remapOne_touch (slot d l : Nat) (s : State) :
    TouchO 0x100030000 s (remapOne slot d l s) := by
  unfold remapOne
  repeat' (first
    | with_reducible exact Touch.refl _ _ | with_reducible exact TouchO.none | with_reducible refine TouchO.some ?_
    | ((with_reducible apply Touch.via (logJob_touch _ _ _ _ _)); decide)
    | ((with_reducible apply Touch.via (setJobAt_touch _ _ _)); decide) | split)

theorem remapAll_touch (slot : Nat) (l : List (Nat × Nat)) (s : State) :
    TouchO 0x100030000 s (remapAll slot l s) := by
  unfold remapAll
  refine TouchP.foldl (p := fun t => t) _ _ (fun o x h => ?_) (TouchP.some (Touch.refl _ _))
  exact TouchP.bind (p := fun t => t) (q := fun t => t) h (fun t => remapOne_touch _ _ _ _)

theorem watchClear_touch (slots : List Nat) (ds : List Nat) (s : State) :
    Touch 0x400000 s (watchClear slots ds s) := by
  unfold watchClear
  repeat' (first | with_reducible exact Touch.refl _ _ | ((with_reducible apply Touch.setCmp); decide))

theorem pendApply_touch (slot : Nat) (s : State) :
    Touch 0x3b3db6000 s (pendApply slot s) := by
  unfold pendApply
  repeat' (first
    | with_reducible exact Touch.refl _ _ | with_reducible refine Touch.foldl _ _ (fun _ _ => ?_) ?_
    | ((with_reducible apply Touch.via (tokenAdd_touch _ _)); decide)
    | ((with_reducible apply Touch.setDsc); decide))

theorem execStepBegin_touch (slot : Nat) (s : State) :
    TouchR 0x3b3db6008 s (execStepBegin slot s) := by
  unfold execStepBegin
  repeat' (first
    | with_reducible exact Touch.refl _ _ | with_reducible refine Touch.foldl _ _ (fun _ _ => ?_) ?_
    | with_reducible refine TouchR.next ?_ | ((with_reducible apply Touch.via (loneHalf_touch _ _ _ _ _)); decide)
    | ((with_reducible apply Touch.via (pendApply_touch _ _)); decide)
    | ((with_reducible apply TouchO.get (by assumption) (remapAll_touch _ _ _)); decide)
    | with_reducible refine Touch.getD (remapAll_touch _ _ _) (by decide) ?_ ?_
    | ((with_reducible apply Touch.via (setJobAt_touch _ _ _)); decide)
    | ((with_reducible apply Touch.via (tokensReset_touch _ _ _ _ _)); decide)
    | ((with_reducible apply Touch.via (watchClear_touch _ _ _)); decide)
    | ((with_reducible apply Touch.setFab); decide) | extract_lets | split)

theorem colCount_touch (d k n : Nat) (s : State) :
    Touch 0x20000000 s (colCount d k n s) := by
  unfold colCount
  repeat' (first | with_reducible exact Touch.refl _ _ | ((with_reducible apply Touch.setFab); decide))

theorem colFault_touch (d slot op m cause : Nat) (s : State) :
    Touch 0x3b3cb6000 s (colFault d slot op m cause s) := by
  unfold colFault
  repeat' (first
    | with_reducible exact Touch.refl _ _ | ((with_reducible apply Touch.via (abortStep_touch _ _)); decide)
    | ((with_reducible apply Touch.via (colCount_touch _ _ _ _)); decide)
    | ((with_reducible apply Touch.via (logJob_touch _ _ _ _ _)); decide) | split)

theorem closeSend_touch (slot : Nat) (s : State) :
    Touch 0x13fbcb6000 s (closeSend slot s) := by
  unfold closeSend
  repeat' (first
    | with_reducible exact Touch.refl _ _ | ((with_reducible apply Touch.via (colFault_touch _ _ _ _ _ _)); decide)
    | ((with_reducible apply Touch.ofP2 (by assumption) (sendPacket_touch _ _ _ _ _)); decide) | extract_lets
    | split)

theorem closeAdvance_touch (n slot : Nat) (s : State) :
    Touch 0x13fbcb6000 s (closeAdvance n slot s) := by
  induction n generalizing s with
  | zero => exact Touch.refl _ _
  | succ n ih =>
    unfold closeAdvance
    split
    · exact Touch.refl _ _
    · split
      · exact Touch.refl _ _
      · split
        · refine Touch.trans ?_ (ih _)
          exact Touch.trans ((setJobAt_touch _ _ _).mono (by decide)) ((closeSend_touch _ _).mono (by decide))
        · exact Touch.refl _ _

theorem closePacket_touch (q : RxPkt) (s : State) :
    Touch 0x30000 s (closePacket q s) := by
  unfold closePacket
  repeat' (first
    | with_reducible exact Touch.refl _ _ | ((with_reducible apply Touch.via (setJobAt_touch _ _ _)); decide)
    | split)

theorem closeTake_touch (slot : Nat) (num : W64) (s : State) :
    Touch 0x20030000 s (closeTake slot num s) := by
  unfold closeTake
  repeat' (first
    | with_reducible exact Touch.refl _ _ | with_reducible refine Touch.foldl _ _ (fun _ _ => ?_) ?_
    | ((with_reducible apply Touch.via (closePacket_touch _ _)); decide)
    | ((with_reducible apply Touch.setFab); decide))

theorem execClosingRoundStart_touch (slot : Nat) (s : State) :
    TouchR 0x13fbcb6000 s (execClosingRoundStart slot s) := by
  unfold execClosingRoundStart
  repeat' (first
    | with_reducible exact Touch.refl _ _ | with_reducible refine TouchR.next ?_
    | ((with_reducible apply Touch.via (closeAdvance_touch _ _ _)); decide)
    | ((with_reducible apply Touch.via (closeSend_touch _ _)); decide)
    | ((with_reducible apply Touch.via (closeTake_touch _ _ _)); decide)
    | ((with_reducible apply Touch.via (colFault_touch _ _ _ _ _ _)); decide)
    | ((with_reducible apply Touch.via (setJobAt_touch _ _ _)); decide) | extract_lets | split)

theorem barrierLog_touch (j : Job) (kind op size : Nat) (num own : W64) (l : W64 × Nat × Nat) (s : State) :
    Touch 0x20000000 s (barrierLog j kind op size num own l s) := by
  unfold barrierLog
  repeat' (first | with_reducible exact Touch.refl _ _ | ((with_reducible apply Touch.setFab); decide))

theorem gateHeld_touch (slot : Nat) (s : State) :
    Touch 0x100030000 s (gateHeld slot s) := by
  unfold gateHeld
  repeat' (first
    | with_reducible exact Touch.refl _ _ | ((with_reducible apply Touch.via (logJob_touch _ _ _ _ _)); decide)
    | split)

theorem pushesKept_touch (slot : Nat) (s : State) :
    Touch 0x130000 s (pushesKept slot s) := by
  unfold pushesKept
  repeat' (first
    | with_reducible exact Touch.refl _ _ | (with_reducible assumption)
    | with_reducible refine Touch.foldl _ _ (fun _ _ => ?_) ?_
    | with_reducible refine Touch.foldl_pair _ _ _ (fun _ _ => ?_) ?_
    | with_reducible refine Touch.foldl_fst _ _ _ (fun _ _ => ?_) ?_
    | with_reducible refine Touch.foldl_trip _ _ _ (fun _ _ => ?_) ?_
    | with_reducible refine Touch.foldl_mid _ _ _ (fun _ _ => ?_) ?_
    | ((with_reducible apply Touch.via (setJobAt_touch _ _ _)); decide)
    | ((with_reducible apply Touch.via (takeWaits_touch _ _ _ _ _)); decide) | extract_lets | split
    | with_reducible refine Touch.of_snd (by assumption) ?_ | with_reducible refine Touch.of_fst (by assumption) ?_
    | with_reducible refine Touch.of_snd₃ (by assumption) ?_ | dsimp only | dsimp -zeta +zetaDelta only)

theorem stepEnded_touch (slot outcome : Nat) (s0 : State) :
    Touch 0x3b3db6000 s0 (stepEnded slot outcome s0) := by
  unfold stepEnded
  repeat' (first
    | with_reducible exact Touch.refl _ _ | (with_reducible assumption)
    | with_reducible refine Touch.foldl _ _ (fun _ _ => ?_) ?_
    | with_reducible refine Touch.foldl_pair _ _ _ (fun _ _ => ?_) ?_
    | with_reducible refine Touch.foldl_fst _ _ _ (fun _ _ => ?_) ?_
    | with_reducible refine Touch.foldl_trip _ _ _ (fun _ _ => ?_) ?_
    | with_reducible refine Touch.foldl_mid _ _ _ (fun _ _ => ?_) ?_
    | ((with_reducible apply Touch.via (finishDeferred_touch _ _ _)); decide)
    | ((with_reducible apply Touch.via (noteStepEnd_touch _)); decide)
    | ((with_reducible apply Touch.via (pushesKept_touch _ _)); decide)
    | ((with_reducible apply Touch.via (setJobAt_touch _ _ _)); decide)
    | ((with_reducible apply Touch.via (stashRelease_touch _ _)); decide)
    | ((with_reducible apply Touch.via (withdrawJob_touch _ _)); decide)
    | ((with_reducible apply Touch.setFab); decide) | extract_lets | split
    | with_reducible refine Touch.of_snd (by assumption) ?_ | with_reducible refine Touch.of_fst (by assumption) ?_
    | with_reducible refine Touch.of_snd₃ (by assumption) ?_ | dsimp only | dsimp -zeta +zetaDelta only)

theorem skipStep_touch (slot : Nat) (s : State) :
    Touch 0x3b3db6000 s (skipStep slot s) := by
  unfold skipStep
  repeat' (first
    | with_reducible exact Touch.refl _ _ | ((with_reducible apply Touch.via (logJob_touch _ _ _ _ _)); decide)
    | ((with_reducible apply Touch.via (setJobAt_touch _ _ _)); decide)
    | ((with_reducible apply Touch.via (stepEnded_touch _ _ _)); decide) | split)

theorem execClosingRoundDone_touch (slot : Nat) (s : State) :
    TouchR 0x3b3db6000 s (execClosingRoundDone slot s) := by
  unfold execClosingRoundDone
  repeat' (first
    | with_reducible exact Touch.refl _ _ | with_reducible refine TouchR.next ?_
    | ((with_reducible apply Touch.via (barrierLog_touch _ _ _ _ _ _ _ _)); decide)
    | ((with_reducible apply Touch.via (gateHeld_touch _ _)); decide)
    | ((with_reducible apply Touch.via (setJobAt_touch _ _ _)); decide)
    | ((with_reducible apply Touch.via (skipStep_touch _ _)); decide) | extract_lets | split)

theorem execSolsticeGatePass_touch (slot : Nat) (s : State) :
    TouchR 0x3b3db6000 s (execSolsticeGatePass slot s) := by
  unfold execSolsticeGatePass
  repeat' (first
    | with_reducible exact Touch.refl _ _ | with_reducible refine TouchR.next ?_
    | ((with_reducible apply Touch.via (setJobAt_touch _ _ _)); decide)
    | ((with_reducible apply Touch.via (skipStep_touch _ _)); decide) | split)

theorem execBeginRecordProgrammed_touch (slot : Nat) (s : State) :
    TouchR 0x200030000 s (execBeginRecordProgrammed slot s) := by
  unfold execBeginRecordProgrammed
  repeat' (first
    | with_reducible exact Touch.refl _ _ | with_reducible refine TouchR.next ?_
    | ((with_reducible apply Touch.via (journalAdd_touch _ _)); decide)
    | ((with_reducible apply Touch.via (setJobAt_touch _ _ _)); decide) | split)

theorem endRecord_touch (slot : Nat) (s : State) :
    Touch 0x200000000 s (endRecord slot s) := by
  unfold endRecord
  repeat' (first
    | with_reducible exact Touch.refl _ _ | ((with_reducible apply Touch.via (journalAdd_touch _ _)); decide)
    | split)

theorem execSolsticePhaseDone_touch (slot : Nat) (s : State) :
    TouchR 0x200030000 s (execSolsticePhaseDone slot s) := by
  unfold execSolsticePhaseDone
  repeat' (first
    | with_reducible exact Touch.refl _ _ | with_reducible refine TouchR.next ?_
    | ((with_reducible apply Touch.via (endRecord_touch _ _)); decide)
    | ((with_reducible apply Touch.via (setJobAt_touch _ _ _)); decide) | split)

theorem execEndRecordProgrammed_touch (slot : Nat) (s : State) :
    TouchR 0x3b3db6000 s (execEndRecordProgrammed slot s) := by
  unfold execEndRecordProgrammed
  repeat' (first
    | with_reducible exact Touch.refl _ _ | with_reducible refine TouchR.next ?_
    | ((with_reducible apply Touch.via (endRecord_touch _ _)); decide)
    | ((with_reducible apply Touch.via (stepEnded_touch _ _ _)); decide) | extract_lets | split)

/-! ### Images -/

theorem loadDie_touch (slot d : Nat) (x : Section) (ws : List W32) (s : State) :
    Touch 0x200000 s (loadDie slot d x ws s) := by
  unfold loadDie
  repeat' (first | with_reducible exact Touch.refl _ _ | ((with_reducible apply Touch.setPrg); decide) | split)

theorem unloadRange_touch (slot : Nat) (r : Nat × Nat × Nat × Nat) (s : State) :
    Touch 0x200000 s (unloadRange slot r s) := by
  unfold unloadRange
  repeat' (first
    | with_reducible exact Touch.refl _ _ | (with_reducible assumption)
    | with_reducible refine Touch.foldl _ _ (fun _ _ => ?_) ?_
    | with_reducible refine Touch.foldl_pair _ _ _ (fun _ _ => ?_) ?_
    | with_reducible refine Touch.foldl_fst _ _ _ (fun _ _ => ?_) ?_
    | with_reducible refine Touch.foldl_trip _ _ _ (fun _ _ => ?_) ?_
    | with_reducible refine Touch.foldl_mid _ _ _ (fun _ _ => ?_) ?_ | ((with_reducible apply Touch.setPrg); decide)
    | extract_lets | split | with_reducible refine Touch.of_snd (by assumption) ?_
    | with_reducible refine Touch.of_fst (by assumption) ?_ | with_reducible refine Touch.of_snd₃ (by assumption) ?_
    | dsimp only | dsimp -zeta +zetaDelta only)

theorem loadPrograms_touch (slot : Nat) (adm : Adm) (b : List Byte) (s : State) :
    Touch 0x200000 s (loadPrograms slot adm b s) := by
  unfold loadPrograms
  repeat' (first
    | with_reducible exact Touch.refl _ _ | with_reducible refine Touch.foldl _ _ (fun _ _ => ?_) ?_
    | ((with_reducible apply Touch.via (loadDie_touch _ _ _ _ _)); decide))

/-! ### Jobs -/

theorem slotTags_touch (slot : Nat) (s : State) :
    Touch 0x800000 s (slotTags slot s) := by
  unfold slotTags
  repeat' (first
    | with_reducible exact Touch.refl _ _ | with_reducible refine Touch.foldl _ _ (fun _ _ => ?_) ?_
    | ((with_reducible apply Touch.via (tagClear_touch _ _ _)); decide) | split)

theorem slotContexts_touch (slot : Nat) (s : State) :
    Touch 0x680000 s (slotContexts slot s) := by
  unfold slotContexts
  repeat' (first
    | with_reducible exact Touch.refl _ _ | ((with_reducible apply Touch.setCmp); decide)
    | ((with_reducible apply Touch.setDsc); decide) | ((with_reducible apply Touch.setPrg); decide))

theorem slotWipe_touch (slot : Nat) (s : State) :
    Touch 0xe80000 s (slotWipe slot s) := by
  unfold slotWipe
  repeat' (first
    | with_reducible exact Touch.refl _ _ | ((with_reducible apply Touch.via (slotContexts_touch _ _)); decide)
    | ((with_reducible apply Touch.via (slotTags_touch _ _)); decide))

theorem rebind_touch (slot : Nat) (r : Option Nat) (s : State) :
    Touch 0x40e80000 s (rebind slot r s) := by
  unfold rebind
  repeat' (first
    | with_reducible exact Touch.refl _ _ | ((with_reducible apply Touch.via (setBind_touch _ _ _)); decide)
    | ((with_reducible apply Touch.via (slotWipe_touch _ _)); decide) | split)

theorem placeJob_touch (s : State) (a : Adm) (slot owner epoch : Nat) :
    TouchP (fun x => x.2) 0x800000 s (placeJob s a slot owner epoch) := by
  unfold placeJob
  dsimp only
  refine TouchP.bind (p := fun x : Region × State => x.2) (q := fun x : (Region × Region × Region) × State => x.2) ((placeRegion_touch _ _ _ _ _ _).mono (by decide)) (fun p => ?_)
  refine TouchP.bind (p := fun x : Region × State => x.2) (q := fun x : (Region × Region × Region) × State => x.2) ((placeRegion_touch _ _ _ _ _ _).mono (by decide)) (fun p => ?_)
  exact TouchP.map (p := fun x : Region × State => x.2) (q := fun x : (Region × Region × Region) × State => x.2) ((placeRegion_touch _ _ _ _ _ _).mono (by decide)) (fun p => Touch.refl _ _)

theorem execJobAdmit_touch (c : Cmd) (s : State) :
    TouchR 0x13d2ef6000 s (execJobAdmit c s) := by
  unfold execJobAdmit
  repeat' (first
    | with_reducible exact Touch.refl _ _ | with_reducible refine Touch.foldl _ _ (fun _ _ => ?_) ?_
    | ((with_reducible apply Touch.ofP2 (by assumption) (placeJob_touch _ _ _ _ _)); decide)
    | ((with_reducible apply Touch.via (rebind_touch _ _ _)); decide)
    | (with_reducible refine runCmd_touch _ _ _ _ _ _ _ (by decide) (fun _ _ => ?_))
    | ((with_reducible apply Touch.via (setJobAt_touch _ _ _)); decide)
    | ((with_reducible apply Touch.setJobIds); decide) | extract_lets | split)

theorem imageInto_touch (slot : Nat) (j : Job) (b : List Byte) (s : State) :
    Touch 0x100330000 s (imageInto slot j b s).1 := by
  unfold imageInto
  repeat' (first
    | with_reducible exact Touch.refl _ _ | with_reducible refine Touch.foldl _ _ (fun _ _ => ?_) ?_
    | ((with_reducible apply Touch.via (fillCheck_touch _ _)); decide)
    | ((with_reducible apply Touch.via (loadPrograms_touch _ _ _ _)); decide)
    | ((with_reducible apply Touch.via (setJobAt_touch _ _ _)); decide)
    | ((with_reducible apply Touch.via (tokensReset_touch _ _ _ _ _)); decide)
    | ((with_reducible apply Touch.via (unloadRange_touch _ _ _)); decide) | split)

theorem imageEnd_touch (d : Desc) (ring : Nat) (buf : List Byte) (s : State) :
    Touch 0x392b30000 s (imageEnd d ring buf s).1 := by
  unfold imageEnd
  repeat' (first
    | with_reducible exact Touch.refl _ _ | (with_reducible assumption)
    | with_reducible refine Touch.foldl _ _ (fun _ _ => ?_) ?_
    | with_reducible refine Touch.foldl_pair _ _ _ (fun _ _ => ?_) ?_
    | with_reducible refine Touch.foldl_fst _ _ _ (fun _ _ => ?_) ?_
    | with_reducible refine Touch.foldl_trip _ _ _ (fun _ _ => ?_) ?_
    | with_reducible refine Touch.foldl_mid _ _ _ (fun _ _ => ?_) ?_
    | ((with_reducible apply Touch.via (imageInto_touch _ _ _ _)); decide) | extract_lets | split
    | with_reducible refine Touch.of_snd (by assumption) ?_ | with_reducible refine Touch.of_fst (by assumption) ?_
    | with_reducible refine Touch.of_snd₃ (by assumption) ?_ | dsimp only | dsimp -zeta +zetaDelta only)

theorem execImageLoad_touch (c : Cmd) (part : Bool) (s : State) :
    TouchR 0x13d2b36000 s (execImageLoad c part s) := by
  unfold execImageLoad
  repeat' (first
    | with_reducible exact Touch.refl _ _ | ((with_reducible apply Touch.via (imageEnd_touch _ _ _ _)); decide)
    | (with_reducible refine runCmd_touch _ _ _ _ _ _ _ (by decide) (fun _ _ => ?_)) | split)

theorem takeRoles_touch (j : Job) (s : State) :
    Touch 0x400000 s (takeRoles j s) := by
  unfold takeRoles
  repeat' (first
    | with_reducible exact Touch.refl _ _ | with_reducible refine Touch.foldl _ _ (fun _ _ => ?_) ?_
    | ((with_reducible apply Touch.via (dieCores_touch _ _ _)); decide))

theorem jobBegin_touch (slot : Nat) (j : Job) (at_ : W64) (s : State) :
    Touch 0xb93d30000 s (jobBegin slot j at_ s) := by
  unfold jobBegin
  repeat' (first
    | with_reducible exact Touch.refl _ _ | with_reducible refine Touch.foldl _ _ (fun _ _ => ?_) ?_
    | ((with_reducible apply Touch.via (arm_touch _ _ _)); decide)
    | ((with_reducible apply Touch.via (idle_touch _)); decide)
    | ((with_reducible apply Touch.via (setJobAt_touch _ _ _)); decide)
    | ((with_reducible apply Touch.via (sramWrite_touch _ _ _ _)); decide)
    | ((with_reducible apply Touch.via (takeRoles_touch _ _)); decide)
    | ((with_reducible apply Touch.via (tokensReset_touch _ _ _ _ _)); decide) | split | dsimp -zeta +zetaDelta only)

theorem execJobStart_touch (c : Cmd) (s : State) :
    TouchR 0x1bd3d36000 s (execJobStart c s) := by
  unfold execJobStart
  repeat' (first
    | with_reducible exact Touch.refl _ _ | ((with_reducible apply Touch.via (jobBegin_touch _ _ _ _)); decide)
    | (with_reducible refine runCmd_touch _ _ _ _ _ _ _ (by decide) (fun _ _ => ?_)) | split)

theorem execJobPair_touch (c : Cmd) (s : State) :
    TouchR 0x13d28b6000 s (execJobPair c s) := by
  unfold execJobPair
  repeat' (first
    | with_reducible exact Touch.refl _ _ | with_reducible refine Touch.foldl _ _ (fun _ _ => ?_) ?_
    | ((with_reducible apply Touch.via (arm_touch _ _ _)); decide)
    | ((with_reducible apply Touch.via (idle_touch _)); decide)
    | (with_reducible refine runCmd_touch _ _ _ _ _ _ _ (by decide) (fun _ _ => ?_))
    | ((with_reducible apply Touch.setDsc); decide) | ((with_reducible apply Touch.setJobA); decide)
    | ((with_reducible apply Touch.setJobB); decide) | split)

theorem addDeferred_touch (slot : Nat) (d : Deferred) (s : State) :
    Touch 0x30000 s (addDeferred slot d s) := by
  unfold addDeferred
  repeat' (first
    | with_reducible exact Touch.refl _ _ | ((with_reducible apply Touch.via (setJobAt_touch _ _ _)); decide)
    | split)

theorem execStepControl_touch (c : Cmd) (s : State) :
    TouchR 0x1150036000 s (execStepControl c s) := by
  unfold execStepControl
  repeat' (first
    | with_reducible exact Touch.refl _ _ | ((with_reducible apply Touch.via (addDeferred_touch _ _ _)); decide)
    | ((with_reducible apply Touch.via (arm_touch _ _ _)); decide)
    | (with_reducible refine runCmd_touch _ _ _ _ _ _ _ (by decide) (fun _ _ => ?_))
    | ((with_reducible apply Touch.via (setJobAt_touch _ _ _)); decide) | split)

theorem commandAbort_touch (slot : Nat) (s : State) :
    Touch 0x3b3cb6000 s (commandAbort slot s) := by
  unfold commandAbort
  repeat' (first
    | with_reducible exact Touch.refl _ _ | ((with_reducible apply Touch.via (abortPlain_touch _ _)); decide)
    | ((with_reducible apply Touch.via (stopSlot_touch _ _)); decide))

theorem execJobAbort_touch (c : Cmd) (s : State) :
    TouchR 0x13f3cb6000 s (execJobAbort c s) := by
  unfold execJobAbort
  repeat' (first
    | with_reducible exact Touch.refl _ _ | ((with_reducible apply Touch.via (addDeferred_touch _ _ _)); decide)
    | ((with_reducible apply Touch.via (commandAbort_touch _ _)); decide)
    | (with_reducible refine runCmd_touch _ _ _ _ _ _ _ (by decide) (fun _ _ => ?_))
    | ((with_reducible apply Touch.via (setJobAt_touch _ _ _)); decide)
    | ((with_reducible apply Touch.via (withdrawJob_touch _ _)); decide) | extract_lets | split
    | dsimp -zeta +zetaDelta only)

theorem execJobStatus_touch (c : Cmd) (s : State) :
    TouchR 0x1140036000 s (execJobStatus c s) := by
  unfold execJobStatus
  repeat' (first
    | with_reducible exact Touch.refl _ _
    | (with_reducible refine runCmd_touch _ _ _ _ _ _ _ (by decide) (fun _ _ => ?_)) | split)

theorem execWatchRead_touch (c : Cmd) (s : State) :
    TouchR 0x1140036000 s (execWatchRead c s) := by
  unfold execWatchRead
  repeat' (first
    | with_reducible exact Touch.refl _ _ | ((with_reducible apply Touch.via (intoBuf_touch _ _ _ _)); decide)
    | (with_reducible refine runCmd_touch _ _ _ _ _ _ _ (by decide) (fun _ _ => ?_)) | split)

theorem execBarrierLogRead_touch (c : Cmd) (s : State) :
    TouchR 0x1140036000 s (execBarrierLogRead c s) := by
  unfold execBarrierLogRead
  repeat' (first
    | with_reducible exact Touch.refl _ _ | ((with_reducible apply Touch.via (intoBuf_touch _ _ _ _)); decide)
    | (with_reducible refine runCmd_touch _ _ _ _ _ _ _ (by decide) (fun _ _ => ?_)))

/-! ### HostMem -/

theorem execRegionMap_touch (c : Cmd) (s : State) :
    TouchR 0x1140036000 s (execRegionMap c s) := by
  unfold execRegionMap
  repeat' (first
    | with_reducible exact Touch.refl _ _
    | (with_reducible refine runCmd_touch _ _ _ _ _ _ _ (by decide) (fun _ _ => ?_))
    | ((with_reducible apply Touch.via (setFn_touch _ _ _)); decide))

theorem loadNote_touch (slot off len : Nat) (whole : Bool) (s : State) :
    Touch 0x30000 s (loadNote slot off len whole s) := by
  unfold loadNote
  repeat' (first
    | with_reducible exact Touch.refl _ _ | ((with_reducible apply Touch.via (setJobAt_touch _ _ _)); decide)
    | extract_lets | split)

theorem loadNotes_touch (off len : Nat) (whole : Bool) (s : State) :
    Touch 0x30000 s (loadNotes off len whole s) := by
  unfold loadNotes
  repeat' (first
    | with_reducible exact Touch.refl _ _ | ((with_reducible apply Touch.via (loadNote_touch _ _ _ _ _)); decide))

theorem hostSideRead_touch (r off len : Nat) (s : State) :
    Touch 0x1bb7cb6800 s (hostSideRead r off len s).2.2 := by
  unfold hostSideRead
  repeat' (first
    | with_reducible exact Touch.refl _ _ | ((with_reducible apply Touch.via (aliasRead_touch _ _ _)); decide)
    | ((with_reducible apply Touch.via (memRead_touch _ _ _ _)); decide) | split)

theorem copyClear_touch (c : Cmd) (r lo hi : Nat) (buf : List Byte) (s : State) :
    Touch 0x1bb7cb6800 s (copyClear c r lo hi buf s).st := by
  unfold copyClear
  repeat' (first
    | with_reducible exact Touch.refl _ _ | ((with_reducible apply Touch.via (emit_touch _ _)); decide)
    | ((with_reducible apply Touch.via (hostSideRead_touch _ _ _ _)); decide)
    | ((with_reducible apply Touch.via (memWrite_touch _ _ _ _)); decide) | extract_lets | split)

theorem sealFail_touch (r : Nat) (seqNo : W64) (index : Nat) (s : State) :
    Touch 0x100030000 s (sealFail r seqNo index s) := by
  unfold sealFail
  repeat' (first
    | with_reducible exact Touch.refl _ _ | ((with_reducible apply Touch.via (logFold_touch _ _ _ _ _ _ _)); decide))

theorem copyChunk_touch (c : Cmd) (r : Nat) (seqNo : W64) (buf : List Byte) (base : Nat) (a : Copied) (x : Nat × Nat) :
    Touch 0x1bb3cb6800 a.st (copyChunk c r seqNo buf base a x).st := by
  unfold copyChunk
  repeat' (first
    | with_reducible exact Touch.refl _ _ | ((with_reducible apply Touch.via (emit_touch _ _)); decide)
    | ((with_reducible apply Touch.via (fresh_touch _)); decide)
    | ((with_reducible apply Touch.via (memRead_touch _ _ _ _)); decide)
    | ((with_reducible apply Touch.via (memWrite_touch _ _ _ _)); decide)
    | ((with_reducible apply Touch.via (sealFail_touch _ _ _ _)); decide) | extract_lets | split)

theorem copyMove_touch (c : Cmd) (r : Nat) (seqNo : W64) (lo hi : Nat) (buf : List Byte) (s : State) :
    Touch 0x1bb7cb6800 s (copyMove c r seqNo lo hi buf s).st := by
  have hf : ∀ (l : List (Nat × Nat)) b (a : Copied), Touch 0x1bb7cb6800 s a.st →
      Touch 0x1bb7cb6800 s (l.foldl (copyChunk c r seqNo buf b) a).st := by
    intro l b
    induction l with
    | nil => exact fun _ h => h
    | cons e l ih => exact fun a h => ih _ (Touch.via (copyChunk_touch _ _ _ _ _ _ _) (by decide) h)
  unfold copyMove
  split
  · exact hf _ _ _ (Touch.refl _ _)
  · split
    · exact Touch.refl _ _
    · exact (copyClear_touch _ _ _ _ _ _).mono (by decide)

theorem copyLoaded_touch (d : Desc) (moved : Nat) (s : State) :
    Touch 0x30000 s (copyLoaded d moved s) := by
  unfold copyLoaded
  repeat' (first
    | with_reducible exact Touch.refl _ _ | ((with_reducible apply Touch.via (loadNotes_touch _ _ _ _)); decide)
    | split)

theorem copyEnd_touch (c : Cmd) (r : Nat) (seqNo : W64) (lo : Nat) (buf : List Byte) (s : State) :
    Touch 0x1bb7cb6800 s (copyEnd c r seqNo lo buf s).1 := by
  unfold copyEnd
  repeat' (first
    | with_reducible exact Touch.refl _ _ | ((with_reducible apply Touch.via (copyLoaded_touch _ _ _)); decide)
    | ((with_reducible apply Touch.via (copyMove_touch _ _ _ _ _ _ _)); decide))

theorem execDmaCopy_touch (c : Cmd) (stop : Option Nat) (errs : List (Nat × Nat)) (s : State) :
    TouchR 0x1bf7cb6800 s (execDmaCopy c stop errs s) := by
  unfold execDmaCopy
  repeat' (first
    | with_reducible exact Touch.refl _ _ | ((with_reducible apply Touch.via (applyErrs_touch _ _)); decide)
    | ((with_reducible apply Touch.via (copyEnd_touch _ _ _ _ _ _)); decide)
    | ((with_reducible apply Touch.via (copyLoaded_touch _ _ _)); decide)
    | ((with_reducible apply Touch.via (copyMove_touch _ _ _ _ _ _ _)); decide)
    | ((with_reducible apply Touch.via (putEntry_touch _ _ _ _ _)); decide)
    | (with_reducible refine runCmd_touch _ _ _ _ _ _ _ (by decide) (fun _ _ => ?_))
    | ((with_reducible apply Touch.via (setRealm_touch _ _ _)); decide) | extract_lets | split
    | dsimp -zeta +zetaDelta only)

theorem execBuddyReserve_touch (c : Cmd) (s : State) :
    TouchR 0x1540836000 s (execBuddyReserve c s) := by
  unfold execBuddyReserve
  repeat' (first
    | with_reducible exact Touch.refl _ _ | ((with_reducible apply Touch.via (freeRegion_touch _ _)); decide)
    | ((with_reducible apply Touch.ofP2 (by assumption) (placeRegion_touch _ _ _ _ _ _)); decide)
    | (with_reducible refine runCmd_touch _ _ _ _ _ _ _ (by decide) (fun _ _ => ?_))
    | ((with_reducible apply Touch.setBuddies); decide) | extract_lets | split)

theorem execScrubStatus_touch (c : Cmd) (s : State) :
    TouchR 0x1140036000 s (execScrubStatus c s) := by
  unfold execScrubStatus
  repeat' (first
    | with_reducible exact Touch.refl _ _
    | (with_reducible refine runCmd_touch _ _ _ _ _ _ _ (by decide) (fun _ _ => ?_)))

theorem ckptBody_touch (j : Job) (s : State) :
    Touch 0x3b3cb6800 s (ckptBody j s).2.2 := by
  unfold ckptBody
  repeat' (first
    | with_reducible exact Touch.refl _ _ | with_reducible refine Touch.foldl_trip _ _ _ (fun _ _ => ?_) ?_
    | ((with_reducible apply Touch.via (memRead_touch _ _ _ _)); decide) | split)

theorem ckptSealed_touch (j : Job) (head body : List Byte) (s : State) :
    Touch 0x800000000 s (ckptSealed j head body s).2 := by
  unfold ckptSealed
  repeat' (first
    | with_reducible exact Touch.refl _ _ | with_reducible refine Touch.foldl_pair _ _ _ (fun _ _ => ?_) ?_
    | ((with_reducible apply Touch.via (fresh_touch _)); decide) | extract_lets | split)

theorem pushEnd_touch (p : Nat) (d : Desc) (j : Job) (s : State) :
    Touch 0x1bb3cb6800 s (pushEnd p d j s).1 := by
  unfold pushEnd
  repeat' (first
    | with_reducible exact Touch.refl _ _ | ((with_reducible apply Touch.via (ckptBody_touch _ _)); decide)
    | ((with_reducible apply Touch.via (ckptSealed_touch _ _ _ _)); decide)
    | ((with_reducible apply Touch.via (emit_touch _ _)); decide) | extract_lets | split)

theorem execCheckpointPush_touch (c : Cmd) (part : Bool) (errs : List (Nat × Nat)) (s : State) :
    TouchR 0x1bf3cb6800 s (execCheckpointPush c part errs s) := by
  unfold execCheckpointPush
  repeat' (first
    | with_reducible exact Touch.refl _ _ | ((with_reducible apply Touch.via (addCapture_touch _ _ _)); decide)
    | ((with_reducible apply Touch.via (applyErrs_touch _ _)); decide)
    | ((with_reducible apply Touch.via (pushEnd_touch _ _ _ _)); decide)
    | ((with_reducible apply Touch.via (putEntry_touch _ _ _ _ _)); decide)
    | (with_reducible refine runCmd_touch _ _ _ _ _ _ _ (by decide) (fun _ _ => ?_)) | split)

theorem regionUndef_touch (g : Region) (s : State) :
    Touch 0x800800000 s (regionUndef g s) := by
  unfold regionUndef
  repeat' (first
    | with_reducible exact Touch.refl _ _ | with_reducible refine Touch.foldl _ _ (fun _ _ => ?_) ?_
    | ((with_reducible apply Touch.via (fresh_touch _)); decide)
    | ((with_reducible refine Touch.setMem (by decide) ?_ ?_); · intro hw; rw [mem_wf_iff] at hw ⊢; obtain ⟨h1, h2, h3, h4, h5, h6, h7⟩ := hw; refine ⟨?_, ?_, ?_, ?_, ?_, ?_, ?_⟩ <;> repeat' (first | assumption | with_reducible apply tok_tset | with_reducible apply tok_tmod | with_reducible apply tok_tclear | with_reducible apply tok_tsetRun | with_reducible apply tok_filter | with_reducible apply tok_tmove | with_reducible apply tok_tmap | with_reducible apply tok_tdrop | with_reducible apply tok_drops | with_reducible refine tok_foldl _ _ (fun _ _ _ => ?_) _ _ ?_ | split)))

theorem restoreFailed_touch (slot : Nat) (s : State) :
    Touch 0x800830000 s (restoreFailed slot s) := by
  unfold restoreFailed
  repeat' (first
    | with_reducible exact Touch.refl _ _ | ((with_reducible apply Touch.via (regionUndef_touch _ _)); decide)
    | ((with_reducible apply Touch.via (setJobAt_touch _ _ _)); decide) | split)

theorem writeShares_touch (j : Job) (body : List Byte) (s : State) :
    Touch 0xb01830000 s (writeShares j body s) := by
  unfold writeShares
  repeat' (first
    | with_reducible exact Touch.refl _ _ | with_reducible refine Touch.foldl_pair _ _ _ (fun _ _ => ?_) ?_
    | ((with_reducible apply Touch.via (memWrite_touch _ _ _ _)); decide) | split)

theorem restoreFrom_touch (slot : Nat) (data : List Byte) (s : State) :
    Touch 0xb01830000 s (restoreFrom slot data s).1 := by
  unfold restoreFrom
  repeat' (first
    | with_reducible exact Touch.refl _ _ | ((with_reducible apply Touch.via (restoreFailed_touch _ _)); decide)
    | ((with_reducible apply Touch.via (setJobAt_touch _ _ _)); decide)
    | ((with_reducible apply Touch.via (writeShares_touch _ _ _)); decide) | extract_lets | split)

theorem pullPut_touch (q : Pull) (s : State) :
    Touch 0x20000000 s (pullPut q s) := by
  unfold pullPut
  repeat' (first
    | with_reducible exact Touch.refl _ _ | (with_reducible assumption)
    | with_reducible refine Touch.foldl _ _ (fun _ _ => ?_) ?_
    | with_reducible refine Touch.foldl_pair _ _ _ (fun _ _ => ?_) ?_
    | with_reducible refine Touch.foldl_fst _ _ _ (fun _ _ => ?_) ?_
    | with_reducible refine Touch.foldl_trip _ _ _ (fun _ _ => ?_) ?_
    | with_reducible refine Touch.foldl_mid _ _ _ (fun _ _ => ?_) ?_ | ((with_reducible apply Touch.setFab); decide)
    | extract_lets | split | with_reducible refine Touch.of_snd (by assumption) ?_
    | with_reducible refine Touch.of_fst (by assumption) ?_ | with_reducible refine Touch.of_snd₃ (by assumption) ?_
    | dsimp only | dsimp -zeta +zetaDelta only)

theorem pullDrop_touch (p r no : Nat) (s : State) :
    Touch 0x20000000 s (pullDrop p r no s) := by
  unfold pullDrop
  repeat' (first
    | with_reducible exact Touch.refl _ _ | (with_reducible assumption)
    | with_reducible refine Touch.foldl _ _ (fun _ _ => ?_) ?_
    | with_reducible refine Touch.foldl_pair _ _ _ (fun _ _ => ?_) ?_
    | with_reducible refine Touch.foldl_fst _ _ _ (fun _ _ => ?_) ?_
    | with_reducible refine Touch.foldl_trip _ _ _ (fun _ _ => ?_) ?_
    | with_reducible refine Touch.foldl_mid _ _ _ (fun _ _ => ?_) ?_
    | ((with_reducible apply Touch.via (txnsDrop_touch _ _)); decide)
    | ((with_reducible apply Touch.setFab); decide) | extract_lets | split
    | with_reducible refine Touch.of_snd (by assumption) ?_ | with_reducible refine Touch.of_fst (by assumption) ?_
    | with_reducible refine Touch.of_snd₃ (by assumption) ?_ | dsimp only | dsimp -zeta +zetaDelta only)

theorem pullEnd_touch (q : Pull) (o : State × Result) :
    Touch 0x120036000 o.1 (pullEnd q o) := by
  unfold pullEnd
  have h := (pullDrop_touch q.port q.ring q.no o.1).mono (n := 0x120036000) (by decide)
  dsimp only
  refine Touch.via (finishCmd_touch _ _ _ _ _ _) (by decide) ?_
  split
  · exact h
  · split
    · exact h.trans ((logJob_touch _ _ _ _ _).mono (by decide))
    · exact h

theorem pullFail_touch (q : Pull) (status : Byte) (s : State) :
    Touch 0x920836000 s (pullFail q status s) := by
  unfold pullFail
  repeat' (first
    | with_reducible exact Touch.refl _ _ | (with_reducible assumption)
    | with_reducible refine Touch.foldl _ _ (fun _ _ => ?_) ?_
    | with_reducible refine Touch.foldl_pair _ _ _ (fun _ _ => ?_) ?_
    | with_reducible refine Touch.foldl_fst _ _ _ (fun _ _ => ?_) ?_
    | with_reducible refine Touch.foldl_trip _ _ _ (fun _ _ => ?_) ?_
    | with_reducible refine Touch.foldl_mid _ _ _ (fun _ _ => ?_) ?_
    | ((with_reducible apply Touch.via (pullEnd_touch _ _)); decide)
    | ((with_reducible apply Touch.via (restoreFailed_touch _ _)); decide) | extract_lets | split
    | with_reducible refine Touch.of_snd (by assumption) ?_ | with_reducible refine Touch.of_fst (by assumption) ?_
    | with_reducible refine Touch.of_snd₃ (by assumption) ?_ | dsimp only | dsimp -zeta +zetaDelta only)

theorem pullRead_touch (q : Pull) (off len : Nat) (into : Nat → Nat) (s : State) :
    TouchO 0x1068000000 s (pullRead q off len into s) := by
  unfold pullRead
  exact TouchO.foldl _ _ (fun t x => (issueTxn_touch _ _ _ _ _ _).mono (by decide)) (TouchO.some (Touch.refl _ _))

theorem pullStart_touch (q : Pull) (s : State) :
    Touch 0x1968836000 s (pullStart q s) := by
  unfold pullStart
  extract_lets size _ t
  have ht : Touch 0x1968836000 s t := Touch.setFab (by decide) (Touch.refl _ _)
  split
  · rename_i u h
    exact ht.trans ((TouchO.bind ((pullRead_touch _ _ _ _ _).mono (by decide))
      fun v => (pullRead_touch _ _ _ _ _).mono (by decide)) u h)
  · exact ht.trans ((pullFail_touch _ _ _).mono (by decide))

theorem pullChoose_touch (q : Pull) (s : State) :
    Touch 0x1968836000 s (pullChoose q s) := by
  unfold pullChoose
  repeat' (first
    | with_reducible exact Touch.refl _ _ | (with_reducible assumption)
    | with_reducible refine Touch.foldl _ _ (fun _ _ => ?_) ?_
    | with_reducible refine Touch.foldl_pair _ _ _ (fun _ _ => ?_) ?_
    | with_reducible refine Touch.foldl_fst _ _ _ (fun _ _ => ?_) ?_
    | with_reducible refine Touch.foldl_trip _ _ _ (fun _ _ => ?_) ?_
    | with_reducible refine Touch.foldl_mid _ _ _ (fun _ _ => ?_) ?_
    | ((with_reducible apply Touch.via (pullFail_touch _ _ _)); decide)
    | ((with_reducible apply Touch.via (pullPut_touch _ _)); decide)
    | ((with_reducible apply TouchO.get (by assumption) (pullRead_touch _ _ _ _ _)); decide)
    | with_reducible refine Touch.getD (pullRead_touch _ _ _ _ _) (by decide) ?_ ?_
    | with_reducible exact TouchO.getD ((pullRead_touch _ _ _ _ _).mono (by decide)) | extract_lets | split
    | with_reducible refine Touch.of_snd (by assumption) ?_ | with_reducible refine Touch.of_fst (by assumption) ?_
    | with_reducible refine Touch.of_snd₃ (by assumption) ?_ | dsimp only | dsimp -zeta +zetaDelta only)

theorem pullData_touch (p r no into : Nat) (b : List Byte) (poison : Bool) (s : State) :
    Touch 0x1b69836000 s (pullData p r no into b poison s) := by
  unfold pullData
  repeat' (first
    | with_reducible exact Touch.refl _ _ | (with_reducible assumption)
    | with_reducible refine Touch.foldl _ _ (fun _ _ => ?_) ?_
    | with_reducible refine Touch.foldl_pair _ _ _ (fun _ _ => ?_) ?_
    | with_reducible refine Touch.foldl_fst _ _ _ (fun _ _ => ?_) ?_
    | with_reducible refine Touch.foldl_trip _ _ _ (fun _ _ => ?_) ?_
    | with_reducible refine Touch.foldl_mid _ _ _ (fun _ _ => ?_) ?_
    | ((with_reducible apply Touch.via (pullChoose_touch _ _)); decide)
    | ((with_reducible apply Touch.via (pullEnd_touch _ _)); decide)
    | ((with_reducible apply Touch.via (pullFail_touch _ _ _)); decide)
    | ((with_reducible apply Touch.via (pullPut_touch _ _)); decide)
    | ((with_reducible apply Touch.via (restoreFrom_touch _ _ _)); decide) | extract_lets | split
    | with_reducible refine Touch.of_snd (by assumption) ?_ | with_reducible refine Touch.of_fst (by assumption) ?_
    | with_reducible refine Touch.of_snd₃ (by assumption) ?_ | dsimp only | dsimp -zeta +zetaDelta only)

theorem restoreEnd_touch (d : Desc) (ring : Nat) (data : List Byte) (s : State) :
    Touch 0xb01830000 s (restoreEnd d ring data s).1 := by
  unfold restoreEnd
  repeat' (first
    | with_reducible exact Touch.refl _ _ | ((with_reducible apply Touch.via (restoreFrom_touch _ _ _)); decide)
    | extract_lets | split | dsimp -zeta +zetaDelta only)

theorem execCheckpointRestore_touch (c : Cmd) (part : Bool) (errs : List (Nat × Nat)) (s : State) :
    TouchR 0x1b69836000 s (execCheckpointRestore c part errs s) := by
  unfold execCheckpointRestore
  repeat' (first
    | with_reducible exact Touch.refl _ _ | ((with_reducible apply Touch.via (pullStart_touch _ _)); decide)
    | ((with_reducible apply Touch.via (restoreEnd_touch _ _ _ _)); decide)
    | ((with_reducible apply Touch.via (applyErrs_touch _ _)); decide)
    | (with_reducible refine runCmd_touch _ _ _ _ _ _ _ (by decide) (fun _ _ => ?_)) | split)

end Sys2Proof.Machine
end

