-- ==== Sys2Proof/Laws/TouchFabric.lean ====
section
/-! SUPPORT. What each operation and command may touch (see Laws/Touch.lean): collectives, received packets, maintenance and events. -/

set_option maxRecDepth 4000

namespace Sys2Proof.Machine

open Sys2Proof

/-! ### Col -/

theorem setRun_touch (x : ColRun) (s : State) :
    Touch 0x20000000 s (setRun x s) := by
  unfold setRun
  repeat' (first | with_reducible exact Touch.refl _ _ | ((with_reducible apply Touch.setFab); decide))

theorem dropRun_touch (x : ColRun) (s : State) :
    Touch 0x20000000 s (dropRun x s) := by
  unfold dropRun
  repeat' (first | with_reducible exact Touch.refl _ _ | ((with_reducible apply Touch.setFab); decide))

theorem colRead_touch (x : ColCtx) (d off len : Nat) (s : State) :
    Touch 0x1bb7cb6800 s (colRead x d off len s).2.1 := by
  unfold colRead
  repeat' (first
    | with_reducible exact Touch.refl _ _
    | ((with_reducible apply Touch.via (ownRead_touch _ _ _ _ _ _ _ _)); decide) | split)

theorem colWrite_touch (x : ColCtx) (d off : Nat) (b : List Byte) (s : State) :
    Touch 0xb93830000 s (colWrite x d off b s).1 := by
  unfold colWrite
  repeat' (first
    | with_reducible exact Touch.refl _ _
    | ((with_reducible apply Touch.via (ownWrite_touch _ _ _ _ _ _ _ _)); decide) | split)

theorem colSendWrites_touch (y : ColRun) (realm chip off : Nat) (b : List Byte) (into : Option Nat) (s : State) :
    Touch 0x1068000000 s (colSendWrites y realm chip off b into s).1 := by
  unfold colSendWrites
  repeat' (first
    | with_reducible exact Touch.refl _ _ | ((with_reducible apply Touch.via (colCount_touch _ _ _ _)); decide)
    | ((with_reducible apply TouchO.get (by assumption) (issueTxn_touch _ _ _ _ _ _)); decide)
    | with_reducible refine Touch.getD (issueTxn_touch _ _ _ _ _ _) (by decide) ?_ ?_
    | (with_reducible refine Touch.trans ?_ (runAll_touch _ _ _ (by decide) (fun _ _ => ?_))) | extract_lets | split)

theorem colSendReduce_touch (x : ColCtx) (y : ColRun) (k : Member) (b : List Byte) (s : State) :
    Touch 0x1068000000 s (colSendReduce x y k b s).1 := by
  unfold colSendReduce
  repeat' (first
    | with_reducible exact Touch.refl _ _ | ((with_reducible apply Touch.via (colCount_touch _ _ _ _)); decide)
    | ((with_reducible apply TouchO.get (by assumption) (issueTxn_touch _ _ _ _ _ _)); decide)
    | with_reducible refine Touch.getD (issueTxn_touch _ _ _ _ _ _) (by decide) ?_ ?_
    | (with_reducible refine Touch.trans ?_ (runAll_touch _ _ _ (by decide) (fun _ _ => ?_))) | extract_lets | split)

theorem colSendOne_touch (x : ColCtx) (q : Packet) (s : State) :
    Touch 0x1068000000 s (colSendOne x q s).1 := by
  unfold colSendOne
  repeat' (first
    | with_reducible exact Touch.refl _ _
    | ((with_reducible apply Touch.ofP2 (by assumption) (sendPacket_touch _ _ _ _ _)); decide) | split)

theorem gatherRank_touch (x : ColCtx) (y : ColRun) (rank : Nat) (s : State) :
    TouchP (fun x => x.2.1) 0x1bb7cb6800 s (gatherRank x y rank s) := by
  unfold gatherRank
  repeat' (first
    | with_reducible exact Touch.refl _ _ | with_reducible refine Touch.foldl_mid _ _ _ (fun _ _ => ?_) ?_
    | with_reducible exact TouchP.none | with_reducible refine TouchP.some ?_
    | ((with_reducible apply Touch.via (colRead_touch _ _ _ _ _)); decide) | extract_lets | split)

theorem rsAdvance_touch (x : ColCtx) (n : Nat) (y : ColRun) (s : State) :
    Touch 0x1bb7cb6800 s (rsAdvance x n y s).1 := by
  induction n generalizing y s with
  | zero => exact (setRun_touch _ _).mono (by decide)
  | succ n ih =>
    unfold rsAdvance
    split
    · exact (setRun_touch _ _).mono (by decide)
    · split
      · exact (setRun_touch _ _).mono (by decide)
      · rename_i c h
        refine Touch.trans (((gatherRank_touch x y y.nextRank s) c h).mono (by decide)) (thenRun_touch _ _ (by decide) (fun t => ?_))
        dsimp only
        refine Touch.trans ?_ (thenRun_touch _ _ (by decide) (fun u => ?_))
        · split
          · exact Touch.refl _ _
          · exact (colRead_touch _ _ _ _ _).mono (by decide)
        · refine Touch.trans ?_ (thenRun_touch _ _ (by decide) (fun z => ih _ _))
          exact (colWrite_touch _ _ _ _ _).mono (by decide)

theorem rsTake_touch (x : ColCtx) (y : ColRun) (rank pos : Nat) (b : List Byte) (s : State) :
    Touch 0x1bb7cb6800 s (rsTake x y rank pos b s).1 := by
  unfold rsTake
  repeat' (first
    | with_reducible exact Touch.refl _ _ | ((with_reducible apply Touch.via (colWrite_touch _ _ _ _ _)); decide)
    | ((with_reducible apply Touch.via (rsAdvance_touch _ _ _ _)); decide)
    | ((with_reducible apply Touch.via (setRun_touch _ _)); decide)
    | (with_reducible refine Touch.trans ?_ (thenRun_touch _ _ (by decide) (fun _ => ?_))) | split)

theorem barSend_touch (x : ColCtx) (y : ColRun) (s : State) :
    Touch 0x1068000000 s (barSend x y s).1 := by
  unfold barSend
  repeat' (first
    | with_reducible exact Touch.refl _ _ | ((with_reducible apply Touch.via (colSendOne_touch _ _ _)); decide)
    | split)

theorem barAdvance_touch (x : ColCtx) (n : Nat) (y : ColRun) (s : State) :
    Touch 0x1068000000 s (barAdvance x n y s).1 := by
  induction n generalizing y s with
  | zero => exact (setRun_touch _ _).mono (by decide)
  | succ n ih =>
    unfold barAdvance
    split
    · exact (setRun_touch _ _).mono (by decide)
    · exact Touch.trans ((barSend_touch _ _ _).mono (by decide)) (thenRun_touch _ _ (by decide) (fun z => ih _ _))

theorem barTake_touch (x : ColCtx) (y : ColRun) (p : Packet) (s : State) :
    Touch 0x1068000000 s (barTake x y p s).1 := by
  unfold barTake
  repeat' (first
    | with_reducible exact Touch.refl _ _ | ((with_reducible apply Touch.via (barAdvance_touch _ _ _ _)); decide))

theorem buddyEnd_touch (y : ColRun) (outcome : Nat) (cause : List W64) (s : State) :
    Touch 0x120030000 s (buddyEnd y outcome cause s) := by
  unfold buddyEnd
  repeat' (first
    | with_reducible exact Touch.refl _ _ | ((with_reducible apply Touch.via (addCapture_touch _ _ _)); decide)
    | ((with_reducible apply Touch.via (dropRun_touch _ _)); decide)
    | ((with_reducible apply Touch.via (logJob_touch _ _ _ _ _)); decide)
    | ((with_reducible apply Touch.via (txnsDrop_touch _ _)); decide)
    | ((with_reducible apply Touch.setFab); decide) | split)

theorem buddyBytes_touch (x : ColCtx) (s : State) :
    TouchP (fun x => x.2.2) 0xbb3cb6800 s (buddyBytes x s) := by
  unfold buddyBytes
  repeat' (first
    | with_reducible exact Touch.refl _ _ | with_reducible exact TouchP.none | with_reducible refine TouchP.some ?_
    | ((with_reducible apply Touch.via (ckptBody_touch _ _)); decide)
    | ((with_reducible apply Touch.via (ckptSealed_touch _ _ _ _)); decide) | extract_lets | split)

theorem buddyItem_touch (x : ColCtx) (y : ColRun) (s : State) :
    Touch 0x1bfbcb6800 s (buddyItem x y s).1 := by
  unfold buddyItem
  repeat' (first
    | with_reducible exact Touch.refl _ _
    | ((with_reducible apply Touch.ofP3 (by assumption) (buddyBytes_touch _ _)); decide)
    | ((with_reducible apply Touch.via (colSendWrites_touch _ _ _ _ _ _ _)); decide)
    | ((with_reducible apply Touch.via (setRun_touch _ _)); decide) | extract_lets | split)

theorem buddyChoose_touch (x : ColCtx) (y : ColRun) (s : State) :
    Touch 0x1bfbcb6800 s (buddyChoose x y s).1 := by
  unfold buddyChoose
  repeat' (first
    | with_reducible exact Touch.refl _ _ | ((with_reducible apply Touch.via (buddyEnd_touch _ _ _ _)); decide)
    | ((with_reducible apply Touch.via (buddyItem_touch _ _ _)); decide)
    | ((with_reducible apply Touch.via (setRun_touch _ _)); decide) | split)

theorem buddyBegin_touch (x : ColCtx) (y : ColRun) (s : State) :
    Touch 0x1068000000 s (buddyBegin x y s).1 := by
  unfold buddyBegin
  repeat' (first
    | with_reducible exact Touch.refl _ _
    | ((with_reducible apply TouchO.get (by assumption) (issueTxn_touch _ _ _ _ _ _)); decide)
    | with_reducible refine Touch.getD (issueTxn_touch _ _ _ _ _ _) (by decide) ?_ ?_
    | (with_reducible refine Touch.trans ?_ (runAll_touch _ _ _ (by decide) (fun _ _ => ?_))) | split)

theorem colFail_touch (y : ColRun) (cause : Nat) (s : State) :
    Touch 0x3b3cb6000 s (colFail y cause s) := by
  unfold colFail
  repeat' (first
    | with_reducible exact Touch.refl _ _ | ((with_reducible apply Touch.via (buddyEnd_touch _ _ _ _)); decide)
    | ((with_reducible apply Touch.via (colFault_touch _ _ _ _ _ _)); decide) | split)

theorem colDoneOr_touch (y : ColRun) (r : Run) :
    Touch 0x3b3cb6000 r.1 (colDoneOr y r) := by
  unfold colDoneOr
  repeat' (first
    | with_reducible exact Touch.refl _ _ | ((with_reducible apply Touch.via (colFail_touch _ _ _)); decide) | split)

theorem colPacket_touch (y : ColRun) (q : RxPkt) (s : State) :
    Touch 0x1bffcb6800 s (colPacket y q s) := by
  unfold colPacket
  repeat' (first
    | with_reducible exact Touch.refl _ _ | ((with_reducible apply Touch.via (barTake_touch _ _ _ _)); decide)
    | ((with_reducible apply Touch.via (colDoneOr_touch _ _)); decide)
    | ((with_reducible apply Touch.via (colFail_touch _ _ _)); decide)
    | ((with_reducible apply Touch.via (rsTake_touch _ _ _ _ _ _)); decide)
    | ((with_reducible apply Touch.via (setRun_touch _ _)); decide) | extract_lets | split)

theorem takeEarly_touch (d slot op m : Nat) (num : W64) (l : List RxPkt) (s : State) :
    Touch 0x1bffcb6800 s (takeEarly d slot op m num l s) := by
  induction l generalizing s with
  | nil => exact Touch.refl _ _
  | cons q qs ih =>
    unfold takeEarly
    split
    · exact Touch.refl _ _
    · split
      · refine Touch.trans ?_ (ih _)
        exact Touch.via (colPacket_touch _ _ _) (by decide) (Touch.setFab (by decide) (Touch.refl _ _))
      · exact ih _

theorem colBegin_touch {m : Nat} (code d slot op m_ : Nat) (errs : List (Nat × Nat)) (start : ColCtx → ColRun → State → Run) (s : State) (hm : 0x1bffdb6800 &&& m = 0x1bffdb6800) (hb : ∀ x y t, Touch m t (start x y t).1) :
    TouchR m s (colBegin code d slot op m_ errs start s) := by
  have h1 : ∀ t, Touch m t (applyErrs errs t) := fun t => (applyErrs_touch errs t).mono (sub_mono (by decide) hm)
  have h2 : ∀ a b c l t, Touch m t (takeWaits a b c l t) := fun a b c l t => (takeWaits_touch a b c l t).mono (sub_mono (by decide) hm)
  have h3 : ∀ a b t, Touch m t (setJobAt t a b) := fun a b t => (setJobAt_touch t a b).mono (sub_mono (by decide) hm)
  have h4 : ∀ a b t, Touch m t (colFail a b t) := fun a b t => (colFail_touch a b t).mono (sub_mono (by decide) hm)
  have h5 : ∀ a b c d e l t, Touch m t (takeEarly a b c d e l t) := fun a b c d e l t => (takeEarly_touch a b c d e l t).mono (sub_mono (by decide) hm)
  have h6 : ∀ v t, Touch m t (t.setFab v) := fun v t => (Touch.setFab (v := v) (n := 0x20000000) (by decide) (Touch.refl _ t)).mono (sub_mono (by decide) hm)
  unfold colBegin
  split
  · exact TouchR.next (Touch.refl _ _)
  · dsimp only
    split
    · exact TouchR.next (Touch.refl _ _)
    · split
      · exact TouchR.next ((h1 _).trans ((h2 _ _ _ _ _).trans ((h6 _ _).trans ((h3 _ _ _).trans (h4 _ _ _)))))
      · split
        · exact TouchR.next ((h1 _).trans ((h2 _ _ _ _ _).trans ((h6 _ _).trans ((h3 _ _ _).trans ((hb _ _ _).trans (h4 _ _ _))))))
        · exact TouchR.next ((h1 _).trans ((h2 _ _ _ _ _).trans ((h6 _ _).trans ((h3 _ _ _).trans ((hb _ _ _).trans (h5 _ _ _ _ _ _ _))))))

theorem markSent_touch (y : ColRun) (s : State) :
    Touch 0x20000000 s (markSent y s) := by
  unfold markSent
  repeat' (first
    | with_reducible exact Touch.refl _ _ | ((with_reducible apply Touch.via (setRun_touch _ _)); decide) | split)

theorem execColRs_touch (d slot op m : Nat) (errs : List (Nat × Nat)) (s : State) :
    TouchR 0x1bffdb6800 s (execColRs d slot op m errs s) := by
  unfold execColRs
  repeat' (first
    | with_reducible exact Touch.refl _ _
    | (with_reducible refine colBegin_touch _ _ _ _ _ _ _ _ (by decide) (fun _ _ _ => ?_))
    | ((with_reducible apply Touch.via (colRead_touch _ _ _ _ _)); decide)
    | ((with_reducible apply Touch.via (colSendReduce_touch _ _ _ _ _)); decide)
    | ((with_reducible apply Touch.via (rsAdvance_touch _ _ _ _)); decide)
    | (with_reducible refine Touch.trans ?_ (runAll_touch _ _ _ (by decide) (fun _ _ => ?_)))
    | (with_reducible refine Touch.trans ?_ (thenRun_touch _ _ (by decide) (fun _ => ?_))))

theorem execColAg_touch (d slot op m : Nat) (errs : List (Nat × Nat)) (s : State) :
    TouchR 0x1bffdb6800 s (execColAg d slot op m errs s) := by
  unfold execColAg
  repeat' (first
    | with_reducible exact Touch.refl _ _
    | (with_reducible refine colBegin_touch _ _ _ _ _ _ _ _ (by decide) (fun _ _ _ => ?_))
    | ((with_reducible apply Touch.via (colRead_touch _ _ _ _ _)); decide)
    | ((with_reducible apply Touch.via (colSendWrites_touch _ _ _ _ _ _ _)); decide)
    | ((with_reducible apply Touch.via (colWrite_touch _ _ _ _ _)); decide)
    | ((with_reducible apply Touch.via (markSent_touch _ _)); decide)
    | (with_reducible refine Touch.trans ?_ (runAll_touch _ _ _ (by decide) (fun _ _ => ?_)))
    | (with_reducible refine Touch.trans ?_ (thenRun_touch _ _ (by decide) (fun _ => ?_))))

theorem execColA2a_touch (d slot op m : Nat) (errs : List (Nat × Nat)) (s : State) :
    TouchR 0x1bffdb6800 s (execColA2a d slot op m errs s) := by
  unfold execColA2a
  repeat' (first
    | with_reducible exact Touch.refl _ _
    | (with_reducible refine colBegin_touch _ _ _ _ _ _ _ _ (by decide) (fun _ _ _ => ?_))
    | ((with_reducible apply Touch.via (colRead_touch _ _ _ _ _)); decide)
    | ((with_reducible apply Touch.via (colSendOne_touch _ _ _)); decide)
    | ((with_reducible apply Touch.via (colSendWrites_touch _ _ _ _ _ _ _)); decide)
    | ((with_reducible apply Touch.via (colWrite_touch _ _ _ _ _)); decide)
    | ((with_reducible apply Touch.via (markSent_touch _ _)); decide)
    | (with_reducible refine Touch.trans ?_ (runAll_touch _ _ _ (by decide) (fun _ _ => ?_)))
    | (with_reducible refine Touch.trans ?_ (thenRun_touch _ _ (by decide) (fun _ => ?_))) | extract_lets | split)

theorem sendTo_touch (x : ColCtx) (y : ColRun) (k n : Nat) (s : State) :
    Touch 0x1bffcb6800 s (sendTo x y k n s).1 := by
  unfold sendTo
  repeat' (first
    | with_reducible exact Touch.refl _ _ | ((with_reducible apply Touch.via (colRead_touch _ _ _ _ _)); decide)
    | ((with_reducible apply Touch.via (colSendWrites_touch _ _ _ _ _ _ _)); decide)
    | ((with_reducible apply Touch.via (colWrite_touch _ _ _ _ _)); decide)
    | ((with_reducible apply Touch.via (markSent_touch _ _)); decide)
    | (with_reducible refine Touch.trans ?_ (thenRun_touch _ _ (by decide) (fun _ => ?_))) | split)

theorem rsigSend_touch (x : ColCtx) (y : ColRun) (s : State) :
    Touch 0x1068000000 s (rsigSend x y s).1 := by
  unfold rsigSend
  repeat' (first
    | with_reducible exact Touch.refl _ _ | ((with_reducible apply Touch.via (colSendOne_touch _ _ _)); decide)
    | ((with_reducible apply Touch.via (setRun_touch _ _)); decide)
    | (with_reducible refine Touch.trans ?_ (thenRun_touch _ _ (by decide) (fun _ => ?_))) | split)

theorem colQuiet_touch (d slot op m : Nat) (s : State) :
    Touch 0x1bfbcb6800 s (colQuiet d slot op m s) := by
  unfold colQuiet
  repeat' (first
    | with_reducible exact Touch.refl _ _ | ((with_reducible apply Touch.via (buddyChoose_touch _ _ _)); decide)
    | ((with_reducible apply Touch.via (buddyItem_touch _ _ _)); decide)
    | ((with_reducible apply Touch.via (colDoneOr_touch _ _)); decide)
    | ((with_reducible apply Touch.via (rsigSend_touch _ _ _)); decide) | split)

theorem thenQuiet_touch {m : Nat} {s : State} (d slot op m_ : Nat) (r : Res) (hm : 0x1bfbcb6800 &&& m = 0x1bfbcb6800) (h : TouchR m s r) :
    TouchR m s (thenQuiet d slot op m_ r) := by
  obtain ⟨t, rfl, h⟩ := h
  unfold thenQuiet
  dsimp only
  split
  · split
    · exact TouchR.next (h.trans ((colQuiet_touch _ _ _ _ _).mono (sub_mono (by decide) hm)))
    · exact TouchR.next h
  · exact TouchR.next h

theorem execColSend_touch (d slot op m : Nat) (errs : List (Nat × Nat)) (s : State) :
    TouchR 0x1bffdb6800 s (execColSend d slot op m errs s) := by
  unfold execColSend
  repeat' (first
    | with_reducible exact Touch.refl _ _
    | (with_reducible refine colBegin_touch _ _ _ _ _ _ _ _ (by decide) (fun _ _ _ => ?_))
    | ((with_reducible apply Touch.via (sendTo_touch _ _ _ _ _)); decide)
    | (with_reducible refine thenQuiet_touch _ _ _ _ _ (by decide) ?_))

theorem execColRing_touch (d slot op m : Nat) (errs : List (Nat × Nat)) (s : State) :
    TouchR 0x1bffdb6800 s (execColRing d slot op m errs s) := by
  unfold execColRing
  repeat' (first
    | with_reducible exact Touch.refl _ _
    | (with_reducible refine colBegin_touch _ _ _ _ _ _ _ _ (by decide) (fun _ _ _ => ?_))
    | ((with_reducible apply Touch.via (sendTo_touch _ _ _ _ _)); decide)
    | (with_reducible refine thenQuiet_touch _ _ _ _ _ (by decide) ?_))

theorem execColBarrier_touch (d slot op m : Nat) (s : State) :
    TouchR 0x1bffdb6800 s (execColBarrier d slot op m s) := by
  unfold execColBarrier
  repeat' (first
    | with_reducible exact Touch.refl _ _ | ((with_reducible apply Touch.via (barSend_touch _ _ _)); decide)
    | (with_reducible refine colBegin_touch _ _ _ _ _ _ _ _ (by decide) (fun _ _ _ => ?_))
    | ((with_reducible apply Touch.via (setRun_touch _ _)); decide)
    | (with_reducible refine Touch.trans ?_ (thenRun_touch _ _ (by decide) (fun _ => ?_))))

theorem pushStart_touch (x : ColCtx) (y : ColRun) (s : State) :
    Touch 0x1068030000 s (pushStart x y s).1 := by
  unfold pushStart
  repeat' (first
    | with_reducible exact Touch.refl _ _ | (with_reducible assumption)
    | with_reducible refine Touch.foldl _ _ (fun _ _ => ?_) ?_
    | with_reducible refine Touch.foldl_pair _ _ _ (fun _ _ => ?_) ?_
    | with_reducible refine Touch.foldl_fst _ _ _ (fun _ _ => ?_) ?_
    | with_reducible refine Touch.foldl_trip _ _ _ (fun _ _ => ?_) ?_
    | with_reducible refine Touch.foldl_mid _ _ _ (fun _ _ => ?_) ?_
    | ((with_reducible apply Touch.via (addCapture_touch _ _ _)); decide)
    | ((with_reducible apply Touch.via (buddyBegin_touch _ _ _)); decide)
    | ((with_reducible apply Touch.via (setRun_touch _ _)); decide) | extract_lets | split
    | with_reducible refine Touch.of_snd (by assumption) ?_ | with_reducible refine Touch.of_fst (by assumption) ?_
    | with_reducible refine Touch.of_snd₃ (by assumption) ?_ | dsimp only | dsimp -zeta +zetaDelta only)

theorem pushGo_touch (x : ColCtx) (d slot op m : Nat) (s : State) :
    Touch 0x13fbcb6000 s (pushGo x d slot op m s) := by
  unfold pushGo
  repeat' (first
    | with_reducible exact Touch.refl _ _ | (with_reducible assumption)
    | with_reducible refine Touch.foldl _ _ (fun _ _ => ?_) ?_
    | with_reducible refine Touch.foldl_pair _ _ _ (fun _ _ => ?_) ?_
    | with_reducible refine Touch.foldl_fst _ _ _ (fun _ _ => ?_) ?_
    | with_reducible refine Touch.foldl_trip _ _ _ (fun _ _ => ?_) ?_
    | with_reducible refine Touch.foldl_mid _ _ _ (fun _ _ => ?_) ?_
    | ((with_reducible apply Touch.via (colDoneOr_touch _ _)); decide)
    | ((with_reducible apply Touch.via (pushStart_touch _ _ _)); decide)
    | ((with_reducible apply Touch.via (setJobAt_touch _ _ _)); decide)
    | ((with_reducible apply Touch.setFab); decide) | extract_lets | split
    | with_reducible refine Touch.of_snd (by assumption) ?_ | with_reducible refine Touch.of_fst (by assumption) ?_
    | with_reducible refine Touch.of_snd₃ (by assumption) ?_ | dsimp only | dsimp -zeta +zetaDelta only)

theorem execColBuddy_touch (d slot op m : Nat) (errs : List (Nat × Nat)) (s : State) :
    TouchR 0x1bffdb6800 s (execColBuddy d slot op m errs s) := by
  unfold execColBuddy
  repeat' (first
    | with_reducible exact Touch.refl _ _ | (with_reducible assumption)
    | with_reducible refine Touch.foldl _ _ (fun _ _ => ?_) ?_
    | with_reducible refine Touch.foldl_pair _ _ _ (fun _ _ => ?_) ?_
    | with_reducible refine Touch.foldl_fst _ _ _ (fun _ _ => ?_) ?_
    | with_reducible refine Touch.foldl_trip _ _ _ (fun _ _ => ?_) ?_
    | with_reducible refine Touch.foldl_mid _ _ _ (fun _ _ => ?_) ?_ | with_reducible refine TouchR.next ?_
    | ((with_reducible apply Touch.via (applyErrs_touch _ _)); decide)
    | (with_reducible refine colBegin_touch _ _ _ _ _ _ _ _ (by decide) (fun _ _ _ => ?_))
    | ((with_reducible apply Touch.via (pushGo_touch _ _ _ _ _ _)); decide)
    | ((with_reducible apply Touch.via (pushStart_touch _ _ _)); decide) | extract_lets | split
    | with_reducible refine Touch.of_snd (by assumption) ?_ | with_reducible refine Touch.of_fst (by assumption) ?_
    | with_reducible refine Touch.of_snd₃ (by assumption) ?_ | dsimp only | dsimp -zeta +zetaDelta only)

theorem shardCheck_touch (x : ColCtx) (y : ColRun) (s : State) :
    Touch 0x1bb7cb6800 s (shardCheck x y s).1 := by
  unfold shardCheck
  repeat' (first
    | with_reducible exact Touch.refl _ _ | ((with_reducible apply Touch.via (colRead_touch _ _ _ _ _)); decide)
    | ((with_reducible apply Touch.via (logJob_touch _ _ _ _ _)); decide)
    | (with_reducible refine Touch.trans ?_ (runAll_touch _ _ _ (by decide) (fun _ _ => ?_)))
    | (with_reducible refine Touch.trans ?_ (thenRun_touch _ _ (by decide) (fun _ => ?_))) | split)

theorem execColOpDone_touch (d slot op m : Nat) (errs : List (Nat × Nat)) (s : State) :
    TouchR 0x1bb7cb6800 s (execColOpDone d slot op m errs s) := by
  unfold execColOpDone
  repeat' (first
    | with_reducible exact Touch.refl _ _ | with_reducible refine TouchR.next ?_
    | ((with_reducible apply Touch.via (addSigs_touch _ _)); decide)
    | ((with_reducible apply Touch.via (applyErrs_touch _ _)); decide)
    | ((with_reducible apply Touch.via (barrierLog_touch _ _ _ _ _ _ _ _)); decide)
    | ((with_reducible apply Touch.via (buddyEnd_touch _ _ _ _)); decide)
    | ((with_reducible apply Touch.via (colFail_touch _ _ _)); decide)
    | ((with_reducible apply Touch.via (colFault_touch _ _ _ _ _ _)); decide)
    | ((with_reducible apply Touch.via (dropRun_touch _ _)); decide)
    | ((with_reducible apply Touch.via (setJobAt_touch _ _ _)); decide)
    | ((with_reducible apply Touch.via (shardCheck_touch _ _ _)); decide)
    | ((with_reducible apply Touch.setFab); decide) | extract_lets | split | dsimp -zeta +zetaDelta only)

theorem execWindowEndReached_touch (d slot op m : Nat) (s : State) :
    TouchR 0x120030000 s (execWindowEndReached d slot op m s) := by
  unfold execWindowEndReached
  repeat' (first
    | with_reducible exact Touch.refl _ _ | with_reducible refine TouchR.next ?_
    | ((with_reducible apply Touch.via (colCount_touch _ _ _ _)); decide)
    | ((with_reducible apply Touch.via (logJob_touch _ _ _ _ _)); decide)
    | ((with_reducible apply Touch.via (setJobAt_touch _ _ _)); decide) | split)

/-! ### PktIn -/

theorem inPop_touch (q : RxPkt) (s : State) :
    Touch 0x20000000 s (inPop q s) := by
  unfold inPop
  repeat' (first | with_reducible exact Touch.refl _ _ | ((with_reducible apply Touch.setFab); decide))

theorem refuse_touch (q : RxPkt) (check : Nat) (s : State) :
    Touch 0x1168030000 s (refuse q check s) := by
  unfold refuse
  repeat' (first
    | with_reducible exact Touch.refl _ _ | ((with_reducible apply Touch.via (remoteDenied_touch _ _ _ _)); decide)
    | ((with_reducible apply Touch.via (sendAnswer_touch _ _ _)); decide) | split)

theorem packetRow_touch {m : Nat} (l kind : Nat) (act : RxPkt → State → State) (s : State) (hm : 0x1168030000 &&& m = 0x1168030000) (hb : ∀ q t, Touch m t (act q t)) :
    TouchR m s (packetRow l kind act s) := by
  unfold packetRow
  split
  · exact TouchR.next (Touch.refl _ _)
  · split
    · exact TouchR.next (Touch.refl _ _)
    · split
      · exact TouchR.next (((inPop_touch _ _).mono (sub_mono (by decide) hm)).trans ((refuse_touch _ _ _).mono (sub_mono (by decide) hm)))
      · exact TouchR.next (hb _ _)

theorem answerRow_touch {m : Nat} (l kind : Nat) (act : RxPkt → State → State) (s : State) (hm : 0x20000000 &&& m = 0x20000000) (hb : ∀ q t, Touch m t (act q t)) :
    TouchR m s (answerRow l kind act s) := by
  have hp : ∀ q t, Touch m t (inPop q t) := fun q t => (inPop_touch q t).mono (sub_mono (by decide) hm)
  unfold answerRow
  split
  · exact TouchR.next (Touch.refl _ _)
  · split
    · exact TouchR.next (Touch.refl _ _)
    · split
      · exact TouchR.next ((hp _ _).trans (hb _ _))
      · exact TouchR.next (hp _ _)

theorem landWrite_touch (slot realm off len : Nat) (stamp : W64) (s : State) :
    Touch 0x20000000 s (landWrite slot realm off len stamp s) := by
  unfold landWrite
  repeat' (first
    | with_reducible exact Touch.refl _ _ | ((with_reducible apply Touch.via (colCount_touch _ _ _ _)); decide)
    | ((with_reducible apply Touch.setFab); decide) | split)

theorem execWrite_touch (l : Nat) (s : State) :
    TouchR 0x1bffcb6800 s (execWrite l s) := by
  unfold execWrite
  repeat' (first
    | with_reducible exact Touch.refl _ _ | ((with_reducible apply Touch.via (inPop_touch _ _)); decide)
    | ((with_reducible apply Touch.via (landWrite_touch _ _ _ _ _ _)); decide)
    | (with_reducible refine packetRow_touch _ _ _ _ (by decide) (fun _ _ => ?_))
    | ((with_reducible apply Touch.via (sendAnswer_touch _ _ _)); decide)
    | ((with_reducible apply Touch.via (serve_touch _ _ _ _ _ _ _ _)); decide) | split | dsimp -zeta +zetaDelta only)

theorem execRead_touch (l : Nat) (errs : List (Nat × Nat)) (s : State) :
    TouchR 0x1bffcb6800 s (execRead l errs s) := by
  unfold execRead
  repeat' (first
    | with_reducible exact Touch.refl _ _ | ((with_reducible apply Touch.via (applyErrs_touch _ _)); decide)
    | ((with_reducible apply Touch.via (inPop_touch _ _)); decide)
    | (with_reducible refine packetRow_touch _ _ _ _ (by decide) (fun _ _ => ?_))
    | ((with_reducible apply Touch.via (sendAnswer_touch _ _ _)); decide)
    | ((with_reducible apply Touch.via (serve_touch _ _ _ _ _ _ _ _)); decide) | split)

theorem txnEnd_touch (x : Txn) (s : State) :
    Touch 0x20000000 s (txnEnd x s) := by
  unfold txnEnd
  repeat' (first | with_reducible exact Touch.refl _ _ | ((with_reducible apply Touch.setFab); decide))

theorem txnFault_touch (x : Txn) (s : State) :
    Touch 0xbb3cb6000 s (txnFault x s) := by
  unfold txnFault
  repeat' (first
    | with_reducible exact Touch.refl _ _ | ((with_reducible apply Touch.via (colFail_touch _ _ _)); decide)
    | ((with_reducible apply Touch.via (dmaFault_touch _ _ _ _ _ _)); decide)
    | ((with_reducible apply Touch.via (pullFail_touch _ _ _)); decide)
    | ((with_reducible apply Touch.via (txnEnd_touch _ _)); decide) | extract_lets | split)

theorem execWriteAck_touch (l : Nat) (s : State) :
    TouchR 0x1bfbcb6800 s (execWriteAck l s) := by
  unfold execWriteAck
  repeat' (first
    | with_reducible exact Touch.refl _ _
    | (with_reducible refine answerRow_touch _ _ _ _ (by decide) (fun _ _ => ?_))
    | ((with_reducible apply Touch.via (colQuiet_touch _ _ _ _ _)); decide)
    | ((with_reducible apply Touch.via (txnEnd_touch _ _)); decide) | split)

theorem buddyHeader_touch (y : ColRun) (half : Nat) (b : List Byte) (s : State) :
    Touch 0x20000000 s (buddyHeader y half b s) := by
  unfold buddyHeader
  repeat' (first
    | with_reducible exact Touch.refl _ _ | ((with_reducible apply Touch.via (setRun_touch _ _)); decide) | split)

theorem execReadData_touch (l : Nat) (errs : List (Nat × Nat)) (s : State) :
    TouchR 0x1bffcb6800 s (execReadData l errs s) := by
  unfold execReadData
  repeat' (first
    | with_reducible exact Touch.refl _ _
    | (with_reducible refine answerRow_touch _ _ _ _ (by decide) (fun _ _ => ?_))
    | ((with_reducible apply Touch.via (applyErrs_touch _ _)); decide)
    | ((with_reducible apply Touch.via (buddyHeader_touch _ _ _ _)); decide)
    | ((with_reducible apply Touch.via (colFail_touch _ _ _)); decide)
    | ((with_reducible apply Touch.via (colQuiet_touch _ _ _ _ _)); decide)
    | ((with_reducible apply Touch.via (dmaData_touch _ _ _ _ _ _ _ _)); decide)
    | ((with_reducible apply Touch.via (pullData_touch _ _ _ _ _ _ _)); decide)
    | ((with_reducible apply Touch.via (txnEnd_touch _ _)); decide) | extract_lets | split)

theorem execNack_touch (l : Nat) (s : State) :
    TouchR 0xbb3cb6000 s (execNack l s) := by
  unfold execNack
  repeat' (first
    | with_reducible exact Touch.refl _ _
    | (with_reducible refine answerRow_touch _ _ _ _ (by decide) (fun _ _ => ?_))
    | ((with_reducible apply Touch.via (txnFault_touch _ _)); decide) | split)

theorem execRemoteTransactionTimeout_touch (tag : W32) (s : State) :
    TouchR 0x1bbfcb6000 s (execRemoteTransactionTimeout tag s) := by
  unfold execRemoteTransactionTimeout
  repeat' (first
    | with_reducible exact Touch.refl _ _ | with_reducible refine TouchR.next ?_
    | ((with_reducible apply Touch.via (portDown_touch _ _ _)); decide)
    | ((with_reducible apply Touch.via (setLnk_touch _ _ _)); decide)
    | ((with_reducible apply Touch.via (txnFault_touch _ _)); decide) | split)

theorem execSignal_touch (l : Nat) (s : State) :
    TouchR 0x13fbdb6000 s (execSignal l s) := by
  unfold execSignal
  repeat' (first
    | with_reducible exact Touch.refl _ _ | ((with_reducible apply Touch.via (inPop_touch _ _)); decide)
    | (with_reducible refine packetRow_touch _ _ _ _ (by decide) (fun _ _ => ?_))
    | ((with_reducible apply Touch.via (refuse_touch _ _ _)); decide)
    | ((with_reducible apply TouchO.get (by assumption) (sigTake_touch _ _)); decide)
    | with_reducible refine Touch.getD (sigTake_touch _ _) (by decide) ?_ ?_ | extract_lets | split)

theorem colTake_touch (q : RxPkt) (s : State) :
    Touch 0x1bffcb6800 s (colTake q s) := by
  unfold colTake
  repeat' (first
    | with_reducible exact Touch.refl _ _ | ((with_reducible apply Touch.via (closeAdvance_touch _ _ _)); decide)
    | ((with_reducible apply Touch.via (closePacket_touch _ _)); decide)
    | ((with_reducible apply Touch.via (colCount_touch _ _ _ _)); decide)
    | ((with_reducible apply Touch.via (colFault_touch _ _ _ _ _ _)); decide)
    | ((with_reducible apply Touch.via (colPacket_touch _ _ _)); decide)
    | ((with_reducible apply Touch.setFab); decide) | extract_lets | split)

theorem engineRow_touch (l kind : Nat) (errs : List (Nat × Nat)) (s : State) :
    TouchR 0x1bffcb6800 s (engineRow l kind errs s) := by
  unfold engineRow
  repeat' (first
    | with_reducible exact Touch.refl _ _ | ((with_reducible apply Touch.via (applyErrs_touch _ _)); decide)
    | ((with_reducible apply Touch.via (colTake_touch _ _)); decide)
    | ((with_reducible apply Touch.via (inPop_touch _ _)); decide)
    | (with_reducible refine packetRow_touch _ _ _ _ (by decide) (fun _ _ => ?_))
    | ((with_reducible apply Touch.via (refuse_touch _ _ _)); decide)
    | ((with_reducible apply Touch.via (sendAnswer_touch _ _ _)); decide) | split)

theorem execReduce_touch (l : Nat) (errs : List (Nat × Nat)) (s : State) :
    TouchR 0x1bffcb6800 s (execReduce l errs s) := by
  unfold execReduce
  repeat' (first | with_reducible exact (engineRow_touch _ _ _ _).mono (by decide))

theorem execBarrier_touch (l : Nat) (s : State) :
    TouchR 0x1bffcb6800 s (execBarrier l s) := by
  unfold execBarrier
  repeat' (first | with_reducible exact (engineRow_touch _ _ _ _).mono (by decide))

theorem execCount_touch (l : Nat) (s : State) :
    TouchR 0x1bffcb6800 s (execCount l s) := by
  unfold execCount
  repeat' (first | with_reducible exact (engineRow_touch _ _ _ _).mono (by decide))

theorem dfbCount_touch (d k : Nat) (s : State) :
    Touch 0x20000000 s (dfbCount d k s) := by
  unfold dfbCount
  repeat' (first | with_reducible exact Touch.refl _ _ | ((with_reducible apply Touch.setFab); decide))

theorem routeDrop_touch (q : RxPkt) (cause : Nat) (s : State) :
    Touch 0x1168030000 s (routeDrop q cause s) := by
  unfold routeDrop
  repeat' (first
    | with_reducible exact Touch.refl _ _ | ((with_reducible apply Touch.via (dfbCount_touch _ _ _)); decide)
    | ((with_reducible apply Touch.via (logFold_touch _ _ _ _ _ _ _)); decide)
    | ((with_reducible apply Touch.via (sendAnswer_touch _ _ _)); decide) | extract_lets | split)

theorem execPacketForward_touch (l : Nat) (s : State) :
    TouchR 0x1168030000 s (execPacketForward l s) := by
  unfold execPacketForward
  repeat' (first
    | with_reducible exact Touch.refl _ _ | with_reducible refine TouchR.next ?_
    | ((with_reducible apply Touch.via (dfbCount_touch _ _ _)); decide)
    | ((with_reducible apply Touch.via (inPop_touch _ _)); decide)
    | ((with_reducible apply Touch.via (refuse_touch _ _ _)); decide)
    | ((with_reducible apply Touch.via (routeDrop_touch _ _ _)); decide)
    | ((with_reducible apply Touch.ofP2 (by assumption) (sendPacket_touch _ _ _ _ _)); decide) | extract_lets
    | split)

/-! ### Maint -/

theorem logConflict_touch (cls : Nat) (r : W64) (l : Lock) (s : State) :
    Touch 0x100030000 s (logConflict cls r l s) := by
  unfold logConflict
  repeat' (first
    | with_reducible exact Touch.refl _ _ | ((with_reducible apply Touch.via (logMod_touch _ _ _ _)); decide))

theorem lockAdd_touch (cls : Nat) (host request : Bool) (r expect : W64) (s : State) :
    Touch 0x80000000 s (lockAdd cls host request r expect s).1 := by
  unfold lockAdd
  repeat' (first | with_reducible exact Touch.refl _ _ | ((with_reducible apply Touch.setRel); decide))

theorem estimate_touch (s : State) :
    Touch 0x800000000 s (estimate s).2 := by
  unfold estimate
  repeat' (first | with_reducible exact Touch.refl _ _ | ((with_reducible apply Touch.via (fresh_touch _)); decide))

theorem lockRefusal_touch (cls : Nat) (r : W64) (s : State) :
    TouchP (fun x => x.1) 0x100030000 s (lockRefusal cls r s) := by
  unfold lockRefusal
  repeat' (first
    | with_reducible exact Touch.refl _ _ | with_reducible exact TouchP.none | with_reducible refine TouchP.some ?_
    | ((with_reducible apply Touch.via (logConflict_touch _ _ _ _)); decide) | split)

theorem lockTake_touch (cls : Nat) (r : W64) (s : State) :
    Touch 0x980030000 s (lockTake cls r s).1 := by
  unfold lockTake
  repeat' (first
    | with_reducible exact Touch.refl _ _ | ((with_reducible apply Touch.via (estimate_touch _)); decide)
    | ((with_reducible apply Touch.via (lockAdd_touch _ _ _ _ _ _)); decide)
    | ((with_reducible apply Touch.ofP1 (by assumption) (lockRefusal_touch _ _ _)); decide) | split)

theorem setScrub_touch (r : W64) (v : Bool) (s : State) :
    Touch 0x2000000 s (setScrub r v s) := by
  unfold setScrub
  repeat' (first
    | with_reducible exact Touch.refl _ _ | with_reducible refine Touch.foldl _ _ (fun _ _ => ?_) ?_
    | ((with_reducible apply Touch.via (setStack_touch _ _ _)); decide))

theorem retrainStart_touch (r : W64) (s : State) :
    Touch 0x4000000 s (retrainStart r s) := by
  unfold retrainStart
  repeat' (first
    | with_reducible exact Touch.refl _ _ | with_reducible refine Touch.foldl _ _ (fun _ _ => ?_) ?_
    | ((with_reducible apply Touch.via (retrainPos_touch _ _ _ _)); decide) | extract_lets | split)

theorem lockBegins_touch (cls : Nat) (r : W64) (s : State) :
    Touch 0x6000000 s (lockBegins cls r s) := by
  unfold lockBegins
  repeat' (first
    | with_reducible exact Touch.refl _ _ | ((with_reducible apply Touch.via (retrainStart_touch _ _)); decide)
    | ((with_reducible apply Touch.via (setScrub_touch _ _ _)); decide) | split)

theorem lockDrop_touch (k : Nat) (s : State) :
    Touch 0x1082000000 s (lockDrop k s) := by
  unfold lockDrop
  repeat' (first
    | with_reducible exact Touch.refl _ _ | with_reducible refine Touch.foldl _ _ (fun _ _ => ?_) ?_
    | ((with_reducible apply Touch.via (moveStuck_touch _ _)); decide)
    | ((with_reducible apply Touch.via (setScrub_touch _ _ _)); decide)
    | ((with_reducible apply Touch.setRel); decide) | split | dsimp -zeta +zetaDelta only)

theorem askLock_touch (cls : Nat) (r : W64) (s : State) :
    Touch 0x986030000 s (askLock cls r s) := by
  unfold askLock
  repeat' (first
    | with_reducible exact Touch.refl _ _ | ((with_reducible apply Touch.via (estimate_touch _)); decide)
    | ((with_reducible apply Touch.via (lockAdd_touch _ _ _ _ _ _)); decide)
    | ((with_reducible apply Touch.via (lockBegins_touch _ _ _)); decide)
    | ((with_reducible apply Touch.via (logConflict_touch _ _ _ _)); decide)
    | ((with_reducible apply Touch.setRel); decide) | extract_lets | split)

theorem execMaintRequest_touch (c : Cmd) (s : State) :
    TouchR 0x11c6036000 s (execMaintRequest c s) := by
  unfold execMaintRequest
  repeat' (first
    | with_reducible exact Touch.refl _ _ | ((with_reducible apply Touch.via (lockAdd_touch _ _ _ _ _ _)); decide)
    | ((with_reducible apply Touch.via (lockBegins_touch _ _ _)); decide)
    | ((with_reducible apply Touch.ofP1 (by assumption) (lockRefusal_touch _ _ _)); decide)
    | (with_reducible refine runCmd_touch _ _ _ _ _ _ _ (by decide) (fun _ _ => ?_)) | extract_lets | split)

theorem execMaintRelease_touch (c : Cmd) (s : State) :
    TouchR 0x11c2036000 s (execMaintRelease c s) := by
  unfold execMaintRelease
  repeat' (first
    | with_reducible exact Touch.refl _ _ | ((with_reducible apply Touch.via (lockDrop_touch _ _)); decide)
    | (with_reducible refine runCmd_touch _ _ _ _ _ _ _ (by decide) (fun _ _ => ?_)))

theorem execMaintLockExpiry_touch (k : Nat) (s : State) :
    TouchR 0x1182030000 s (execMaintLockExpiry k s) := by
  unfold execMaintLockExpiry
  repeat' (first
    | with_reducible exact Touch.refl _ _ | with_reducible refine TouchR.next ?_
    | ((with_reducible apply Touch.via (lockDrop_touch _ _)); decide)
    | ((with_reducible apply Touch.via (logMod_touch _ _ _ _)); decide) | split)

theorem takeover_touch (d c k : Nat) (s : State) :
    Touch 0x13b3cb6000 s (takeover d c k s) := by
  unfold takeover
  repeat' (first
    | with_reducible exact Touch.refl _ _ | ((with_reducible apply Touch.via (lockDrop_touch _ _)); decide)
    | ((with_reducible apply Touch.via (retireCore_touch _ _ _ _ _)); decide) | split)

theorem takeoverNow_touch (d c k : Nat) (s : State) :
    Touch 0x13b3cb6000 s (takeoverNow d c k s) := by
  unfold takeoverNow
  repeat' (first
    | with_reducible exact Touch.refl _ _ | ((with_reducible apply Touch.via (takeover_touch _ _ _ _)); decide)
    | split)

theorem markAsk_touch (d c k cause : Nat) (s : State) :
    Touch 0x1bb7cb6000 s (markAsk d c k cause s) := by
  unfold markAsk
  repeat' (first
    | with_reducible exact Touch.refl _ _ | ((with_reducible apply Touch.via (askLock_touch _ _ _)); decide)
    | ((with_reducible apply Touch.via (markCore_touch _ _ _)); decide)
    | ((with_reducible apply Touch.via (takeoverNow_touch _ _ _ _)); decide) | extract_lets | split)

theorem execCoreTakeover_touch (d c k : Nat) (s : State) :
    TouchR 0x1bb7cb6000 s (execCoreTakeover d c k s) := by
  unfold execCoreTakeover
  repeat' (first
    | with_reducible exact Touch.refl _ _ | with_reducible refine TouchR.next ?_
    | ((with_reducible apply Touch.via (askLock_touch _ _ _)); decide)
    | ((with_reducible apply Touch.via (takeover_touch _ _ _ _)); decide)
    | ((with_reducible apply Touch.via (takeoverNow_touch _ _ _ _)); decide) | extract_lets | split)

theorem execMaintQueuedGrant_touch (s : State) :
    TouchR 0x1bb7cb6000 s (execMaintQueuedGrant s) := by
  unfold execMaintQueuedGrant
  repeat' (first
    | with_reducible exact Touch.refl _ _ | with_reducible refine TouchR.next ?_
    | ((with_reducible apply Touch.via (askLock_touch _ _ _)); decide)
    | ((with_reducible apply Touch.via (takeoverNow_touch _ _ _ _)); decide)
    | ((with_reducible apply Touch.setRel); decide) | extract_lets | split)

theorem execMaintActivityEnd_touch (k : Nat) (s : State) :
    TouchR 0x1082000000 s (execMaintActivityEnd k s) := by
  unfold execMaintActivityEnd
  repeat' (first
    | with_reducible exact Touch.refl _ _ | with_reducible refine TouchR.next ?_
    | ((with_reducible apply Touch.via (lockDrop_touch _ _)); decide) | split)

theorem swapCore_touch (r : W64) (s : State) :
    Touch 0x1bb3cb6000 s (swapCore r s).1 := by
  unfold swapCore
  repeat' (first
    | with_reducible exact Touch.refl _ _
    | ((with_reducible apply Touch.ofP1 (by assumption) (lockRefusal_touch _ _ _)); decide)
    | ((with_reducible apply Touch.via (lockTake_touch _ _ _)); decide)
    | ((with_reducible apply Touch.via (markCore_touch _ _ _)); decide)
    | ((with_reducible apply Touch.via (takeoverNow_touch _ _ _ _)); decide) | extract_lets | split)

theorem swapChan_touch (r : W64) (s : State) :
    Touch 0x202000000 s (swapChan r s).1 := by
  unfold swapChan
  repeat' (first
    | with_reducible exact Touch.refl _ _ | ((with_reducible apply Touch.via (setStack_touch _ _ _)); decide)
    | ((with_reducible refine Touch.setFlash (by decide) ?_ ?_ ?_ ?_); exact rfl; exact rfl; exact rfl)
    | extract_lets | split)

theorem swapRx_touch (l n : Nat) (s : State) :
    TouchO 0x1000000000 s (swapRx l n s) := by
  unfold swapRx
  repeat' (first
    | with_reducible exact Touch.refl _ _ | with_reducible exact TouchO.none | with_reducible refine TouchO.some ?_
    | ((with_reducible apply Touch.via (sendControl_touch _ _ _ _)); decide) | split)

theorem swapLane_touch (r : W64) (s : State) :
    Touch 0x1bffcb6000 s (swapLane r s).1 := by
  have h : TouchO 0x1bffcb6000 s (match fld r 24 8 with
    | 0 => spareTx (fld r 40 8) (fld r 32 8) s
    | 1 => swapRx (fld r 40 8) (fld r 32 8) s
    | _ => (spareTx (fld r 40 8) (fld r 32 8) s).bind (swapRx (fld r 40 8) (fld r 32 8))) := by
    split
    · exact (spareTx_touch _ _ _).mono (by decide)
    · exact (swapRx_touch _ _ _).mono (by decide)
    · exact TouchP.bind (p := fun t => t) (q := fun t => t) ((spareTx_touch _ _ _).mono (by decide)) (fun x => (swapRx_touch _ _ _).mono (by decide))
  unfold swapLane
  dsimp only
  split
  · rename_i t e
    exact h t e
  · exact Touch.refl _ _

theorem swapLaser_touch (r : W64) (power low : Nat) (s : State) :
    Touch 0x984030000 s (swapLaser r power low s).1 := by
  unfold swapLaser
  repeat' (first
    | with_reducible exact Touch.refl _ _
    | ((with_reducible apply Touch.via (laserReplace_touch _ _ _ _ _)); decide)
    | ((with_reducible apply Touch.via (lockTake_touch _ _ _)); decide)
    | ((with_reducible apply Touch.via (setLaser_touch _ _ _)); decide) | extract_lets | split
    | with_reducible refine Touch.of_fst (by assumption) ?_)

theorem execSpareSwap_touch (c : Cmd) (power low : Nat) (s : State) :
    TouchR 0x1bffcb6000 s (execSpareSwap c power low s) := by
  unfold execSpareSwap
  repeat' (first
    | with_reducible exact Touch.refl _ _
    | (with_reducible refine runCmd_touch _ _ _ _ _ _ _ (by decide) (fun _ _ => ?_))
    | ((with_reducible apply Touch.via (swapChan_touch _ _)); decide)
    | ((with_reducible apply Touch.via (swapCore_touch _ _)); decide)
    | ((with_reducible apply Touch.via (swapLane_touch _ _)); decide)
    | ((with_reducible apply Touch.via (swapLaser_touch _ _ _ _)); decide) | split)

theorem strike_touch (d c k : Nat) (s : State) :
    Touch 0x1bb7cb6000 s (strike d c k s) := by
  unfold strike
  repeat' (first
    | with_reducible exact Touch.refl _ _ | ((with_reducible apply Touch.via (markAsk_touch _ _ _ _ _)); decide)
    | ((with_reducible refine Touch.setFlash (by decide) ?_ ?_ ?_ ?_); exact rfl; exact rfl; exact rfl)
    | extract_lets | split)

theorem noteCond_touch (key : Nat) (data : List W64) (s : State) :
    Touch 0x200000000 s (noteCond key data s) := by
  unfold noteCond
  repeat' (first
    | with_reducible exact Touch.refl _ _
    | ((with_reducible refine Touch.setFlash (by decide) ?_ ?_ ?_ ?_); exact rfl; exact rfl; exact rfl))

theorem execSentinelCheckDone_touch (d c k : Nat) (diff : Option DiffIn) (s : State) :
    TouchR 0x1bb7cb6000 s (execSentinelCheckDone d c k diff s) := by
  unfold execSentinelCheckDone
  repeat' (first
    | with_reducible exact Touch.refl _ _ | with_reducible refine TouchR.next ?_
    | ((with_reducible apply Touch.via (checksDrop_touch _ _)); decide)
    | ((with_reducible apply Touch.via (ctxAbort_touch _ _)); decide)
    | ((with_reducible apply Touch.via (logCtx_touch _ _ _ _ _)); decide)
    | ((with_reducible apply Touch.via (noteCond_touch _ _ _)); decide)
    | ((with_reducible apply Touch.via (strike_touch _ _ _ _)); decide)
    | ((with_reducible apply Touch.setRel); decide) | split)

theorem execStrikeExpiry_touch (s : State) :
    TouchR 0x200000000 s (execStrikeExpiry s) := by
  unfold execStrikeExpiry
  repeat' (first
    | with_reducible exact Touch.refl _ _ | with_reducible refine TouchR.next ?_
    | ((with_reducible refine Touch.setFlash (by decide) ?_ ?_ ?_ ?_); exact rfl; exact rfl; exact rfl))

theorem execLpxScrubSchedule_touch (d : Nat) (s : State) :
    TouchR 0x986030000 s (execLpxScrubSchedule d s) := by
  unfold execLpxScrubSchedule
  repeat' (first
    | with_reducible exact Touch.refl _ _ | with_reducible refine TouchR.next ?_
    | ((with_reducible apply Touch.via (askLock_touch _ _ _)); decide) | split)

theorem patrolGranule_touch (s : State) (g : Nat) :
    Touch 0x102830000 s (patrolGranule s g) := by
  unfold patrolGranule
  repeat' (first
    | with_reducible exact Touch.refl _ _ | (with_reducible assumption)
    | with_reducible refine Touch.foldl _ _ (fun _ _ => ?_) ?_
    | with_reducible refine Touch.foldl_pair _ _ _ (fun _ _ => ?_) ?_
    | with_reducible refine Touch.foldl_fst _ _ _ (fun _ _ => ?_) ?_
    | with_reducible refine Touch.foldl_trip _ _ _ (fun _ _ => ?_) ?_
    | with_reducible refine Touch.foldl_mid _ _ _ (fun _ _ => ?_) ?_
    | ((with_reducible apply Touch.via (granuleCheck_touch _ _)); decide)
    | with_reducible exact (granuleCheck_touch _ _).mono (by decide)
    | ((with_reducible refine Touch.setMem (by decide) ?_ ?_); · intro hw; rw [mem_wf_iff] at hw ⊢; obtain ⟨h1, h2, h3, h4, h5, h6, h7⟩ := hw; refine ⟨?_, ?_, ?_, ?_, ?_, ?_, ?_⟩ <;> repeat' (first | assumption | with_reducible apply tok_tset | with_reducible apply tok_tmod | with_reducible apply tok_tclear | with_reducible apply tok_tsetRun | with_reducible apply tok_filter | with_reducible apply tok_tmove | with_reducible apply tok_tmap | with_reducible apply tok_tdrop | with_reducible apply tok_drops | with_reducible refine tok_foldl _ _ (fun _ _ _ => ?_) _ _ ?_ | split))
    | extract_lets | split | with_reducible refine Touch.of_snd (by assumption) ?_
    | with_reducible refine Touch.of_fst (by assumption) ?_ | with_reducible refine Touch.of_snd₃ (by assumption) ?_
    | dsimp only | dsimp -zeta +zetaDelta only)

theorem execPatrolDone_touch (d : Nat) (errs : List (Nat × Nat)) (s : State) :
    TouchR 0x1182830000 s (execPatrolDone d errs s) := by
  unfold execPatrolDone
  repeat' (first
    | with_reducible exact Touch.refl _ _ | with_reducible refine Touch.foldl _ _ (fun _ _ => ?_) ?_
    | with_reducible refine TouchR.next ?_ | ((with_reducible apply Touch.via (applyErrs_touch _ _)); decide)
    | ((with_reducible apply Touch.via (lockDrop_touch _ _)); decide)
    | ((with_reducible apply Touch.via (patrolGranule_touch _ _)); decide)
    | ((with_reducible apply Touch.via (setScrub_touch _ _ _)); decide) | extract_lets | split)

theorem execWckTrackingLost_touch (n q : Nat) (s : State) :
    TouchR 0x102030000 s (execWckTrackingLost n q s) := by
  unfold execWckTrackingLost
  repeat' (first
    | with_reducible exact Touch.refl _ _ | with_reducible refine TouchR.next ?_
    | ((with_reducible apply Touch.via (chanFailing_touch _ _ _ _)); decide) | split)

theorem passStart_touch (s : State) :
    Touch 0x280000000 s (passStart s) := by
  unfold passStart
  exact Touch.setFlash (by decide) rfl rfl rfl (Touch.setRel (by decide) (Touch.refl _ _))

theorem execAutumnPass_touch (c : Cmd) (s : State) :
    TouchR 0x13c0036000 s (execAutumnPass c s) := by
  unfold execAutumnPass
  repeat' (first
    | with_reducible exact Touch.refl _ _ | ((with_reducible apply Touch.via (passStart_touch _)); decide)
    | (with_reducible refine runCmd_touch _ _ _ _ _ _ _ (by decide) (fun _ _ => ?_)) | split)

theorem execAutumnSchedule_touch (s : State) :
    TouchR 0x280000000 s (execAutumnSchedule s) := by
  unfold execAutumnSchedule
  repeat' (first
    | with_reducible exact Touch.refl _ _ | with_reducible refine TouchR.next ?_
    | ((with_reducible apply Touch.via (passStart_touch _)); decide) | split)

theorem replay_touch (d c : Nat) (s : State) (e : Nat × DiffIn) :
    Touch 0x1bb7cb6000 s (replay d c s e) := by
  unfold replay
  repeat' (first
    | with_reducible exact Touch.refl _ _ | ((with_reducible apply Touch.via (logMod_touch _ _ _ _)); decide)
    | ((with_reducible apply Touch.via (strike_touch _ _ _ _)); decide)
    | ((with_reducible apply Touch.setRel); decide) | extract_lets | split)

theorem sliceWork_touch (order : Nat) (r : W64) (i : SliceIn) (s : State) :
    Touch 0x1bb7cb6000 s (sliceWork order r i s) := by
  unfold sliceWork
  repeat' (first
    | with_reducible exact Touch.refl _ _ | with_reducible refine Touch.foldl _ _ (fun _ _ => ?_) ?_
    | ((with_reducible apply Touch.via (chanFailing_touch _ _ _ _)); decide)
    | ((with_reducible apply Touch.via (replay_touch _ _ _ _)); decide)
    | ((with_reducible apply Touch.setOpt); decide) | ((with_reducible apply Touch.setRel); decide) | split)

theorem excludeQuad_touch (n : Nat) (s : State) :
    Touch 0x1ffffffffe s (excludeQuad n s) := by
  unfold excludeQuad
  repeat' (first
    | with_reducible exact Touch.refl _ _ | with_reducible refine Touch.foldl _ _ (fun _ _ => ?_) ?_
    | ((with_reducible apply Touch.via (abortWhere_touch _ _)); decide)
    | ((with_reducible apply Touch.via (logMod_touch _ _ _ _)); decide)
    | ((with_reducible apply Touch.via (noteAborts_touch _ _ _)); decide)
    | ((with_reducible apply Touch.via (seqRun_touch _ _ _)); decide)
    | ((with_reducible apply Touch.via (setBlk_touch _ _ _)); decide)
    | ((with_reducible apply Touch.setPwait); decide) | extract_lets | split)

theorem laserTargets_touch (s : State) :
    Touch 0x904030000 s (laserTargets s) := by
  unfold laserTargets
  repeat' (first
    | with_reducible exact Touch.refl _ _ | (with_reducible assumption)
    | with_reducible refine Touch.foldl _ _ (fun _ _ => ?_) ?_
    | with_reducible refine Touch.foldl_pair _ _ _ (fun _ _ => ?_) ?_
    | with_reducible refine Touch.foldl_fst _ _ _ (fun _ _ => ?_) ?_
    | with_reducible refine Touch.foldl_trip _ _ _ (fun _ _ => ?_) ?_
    | with_reducible refine Touch.foldl_mid _ _ _ (fun _ _ => ?_) ?_
    | ((with_reducible apply Touch.via (biasSet_touch _ _ _)); decide) | extract_lets | split
    | with_reducible refine Touch.of_snd (by assumption) ?_ | with_reducible refine Touch.of_fst (by assumption) ?_
    | with_reducible refine Touch.of_snd₃ (by assumption) ?_ | dsimp only | dsimp -zeta +zetaDelta only)

theorem passCommit_touch (i : SliceIn) (s : State) :
    Touch 0x1ffffffffe s (passCommit i s) := by
  unfold passCommit
  repeat' (first
    | with_reducible exact Touch.refl _ _ | with_reducible refine Touch.foldl _ _ (fun _ _ => ?_) ?_
    | ((with_reducible apply Touch.via (excludeQuad_touch _ _)); decide)
    | ((with_reducible apply Touch.via (laserTargets_touch _)); decide)
    | ((with_reducible apply Touch.via (logMod_touch _ _ _ _)); decide)
    | ((with_reducible refine Touch.setFlash (by decide) ?_ ?_ ?_ ?_); exact rfl; exact rfl; exact rfl)
    | ((with_reducible apply Touch.setRel); decide) | split)

theorem execAutumnSlice_touch (order : Nat) (r : W64) (i : SliceIn) (s : State) :
    TouchR 0x1ffffffffe s (execAutumnSlice order r i s) := by
  unfold execAutumnSlice
  repeat' (first
    | with_reducible exact Touch.refl _ _ | with_reducible refine TouchR.next ?_
    | ((with_reducible apply Touch.via (askLock_touch _ _ _)); decide)
    | ((with_reducible apply Touch.via (passCommit_touch _ _)); decide)
    | ((with_reducible apply Touch.via (sliceWork_touch _ _ _ _)); decide)
    | ((with_reducible apply Touch.setRel); decide) | extract_lets | split | dsimp -zeta +zetaDelta only)

theorem execAutumnSliceDone_touch (r : W64) (s : State) :
    TouchR 0x1082000000 s (execAutumnSliceDone r s) := by
  unfold execAutumnSliceDone
  repeat' (first
    | with_reducible exact Touch.refl _ _ | with_reducible refine Touch.foldl _ _ (fun _ _ => ?_) ?_
    | with_reducible refine TouchR.next ?_ | ((with_reducible apply Touch.via (lockDrop_touch _ _)); decide)
    | ((with_reducible apply Touch.setRel); decide) | split)

theorem execClockReplanStep_touch (s : State) :
    TouchR 0x80000000 s (execClockReplanStep s) := by
  unfold execClockReplanStep
  repeat' (first
    | with_reducible exact Touch.refl _ _ | with_reducible refine TouchR.next ?_
    | ((with_reducible apply Touch.setRel); decide) | split)

theorem execMarginPlanRead_touch (c : Cmd) (s : State) :
    TouchR 0x1140036000 s (execMarginPlanRead c s) := by
  unfold execMarginPlanRead
  repeat' (first
    | with_reducible exact Touch.refl _ _ | ((with_reducible apply Touch.via (intoBuf_touch _ _ _ _)); decide)
    | (with_reducible refine runCmd_touch _ _ _ _ _ _ _ (by decide) (fun _ _ => ?_)))

/-! ### Events -/

theorem vector4_touch (e : Ev) (p : Nat) (s : State) :
    Touch 0x1000006000 s (vector4 e p s) := by
  unfold vector4
  repeat' (first
    | with_reducible exact Touch.refl _ _ | ((with_reducible apply Touch.via (msix_touch _ _ _)); decide)
    | extract_lets | split)

theorem logRecord_touch (s : State) (e0 : Ev) :
    Touch 0x1300006000 s (logRecord s e0) := by
  unfold logRecord
  extract_lets e _ s1 _ s2 s3 s4
  have h1 : Touch 0x1300006000 s s1 := Touch.setFlash_le (by decide) (fun h => h) (Nat.le_refl _) (Nat.le_succ _) (Touch.refl _ _)
  have h2 : Touch 0x1300006000 s s2 := by
    refine Touch.setMgt_le (by decide) (fun i => ⟨i.2.1, ?_, i.2.2.2.1⟩) h1
    simp only [List.length_take]
    omega
  have h3 : Touch 0x1300006000 s s3 := by
    show Touch 0x1300006000 s (if journalled e then journalAdd (fun _ => .event e) s2 else s2)
    split
    · exact Touch.via (journalAdd_touch _ _) (by decide) h2
    · exact h2
  have h4 : Touch 0x1300006000 s s4 := by
    show Touch 0x1300006000 s (match evAs 0 e with
      | some v => if 1 ≤ sevOfEv e then s3.setMgt (pldmQueue v s3.mgt) else s3
      | none => s3)
    split
    · split
      · refine Touch.setMgt_le (by decide) (fun i => ?_) h3
        unfold pldmQueue
        have hq := i.2.2.2.1
        split
        · rename_i hl
          refine ⟨i.2.1, i.2.2.1, ?_⟩
          simp only [List.length_append, List.length_cons, List.length_nil]
          omega
        · refine ⟨i.2.1, i.2.2.1, ?_⟩
          simp only [List.length_append, List.length_drop, List.length_cons, List.length_nil]
          omega
      · exact h3
    · exact h3
  exact Touch.via (vector4_touch _ _ _) (by decide) (Touch.via (vector4_touch _ _ _) (by decide) h4)

theorem moveEvents_touch (s : State) :
    Touch 0x1300036000 s (moveEvents s) := by
  unfold moveEvents
  repeat' (first
    | with_reducible exact Touch.refl _ _ | (with_reducible assumption)
    | with_reducible refine Touch.foldl _ _ (fun _ _ => ?_) ?_
    | with_reducible refine Touch.foldl_pair _ _ _ (fun _ _ => ?_) ?_
    | with_reducible refine Touch.foldl_fst _ _ _ (fun _ _ => ?_) ?_
    | with_reducible refine Touch.foldl_trip _ _ _ (fun _ _ => ?_) ?_
    | with_reducible refine Touch.foldl_mid _ _ _ (fun _ _ => ?_) ?_
    | ((with_reducible apply Touch.via (logMod_touch _ _ _ _)); decide)
    | ((with_reducible apply Touch.via (logRecord_touch _ _)); decide)
    | ((with_reducible refine Touch.setMgt (by decide) ?_ ?_ ?_ ?_); exact rfl; exact rfl; exact rfl)
    | ((with_reducible refine Touch.setMgt_le (by decide) (fun i => ⟨?_, ?_, ?_⟩) ?_); (first | exact i.2.1 | exact Nat.zero_le _); (first | exact i.2.2.1 | exact Nat.zero_le _ | (simp only [List.length_take]; omega)); (first | exact i.2.2.2.1 | exact Nat.zero_le _ | (simp only [List.length_drop, List.length_append, List.length_cons, List.length_nil]; omega) | (have := i.2.2.2.1; simp only [List.length_drop]; omega) | (have := i.2.2.2.1; split <;> (try simp only [List.length_drop]) <;> omega)))
    | extract_lets | split | with_reducible refine Touch.of_snd (by assumption) ?_
    | with_reducible refine Touch.of_fst (by assumption) ?_ | with_reducible refine Touch.of_snd₃ (by assumption) ?_
    | dsimp only | dsimp -zeta +zetaDelta only)

theorem execEventLogTransfer_touch (s : State) :
    TouchR 0x1300036000 s (execEventLogTransfer s) := by
  unfold execEventLogTransfer
  repeat' (first
    | with_reducible exact Touch.refl _ _ | with_reducible refine Touch.foldl _ _ (fun _ _ => ?_) ?_
    | with_reducible refine TouchR.next ?_ | ((with_reducible apply Touch.via (moveEvents_touch _)); decide)
    | extract_lets | split)

theorem execEventLogRead_touch (c : Cmd) (s : State) :
    TouchR 0x1140036000 s (execEventLogRead c s) := by
  unfold execEventLogRead
  repeat' (first
    | with_reducible exact Touch.refl _ _ | ((with_reducible apply Touch.via (intoBuf_touch _ _ _ _)); decide)
    | (with_reducible refine runCmd_touch _ _ _ _ _ _ _ (by decide) (fun _ _ => ?_)))

theorem gatherCnt_touch (i : TelIn) (s : State) :
    Touch 0x100000000 s (gatherCnt i s) := by
  unfold gatherCnt
  repeat' (first
    | with_reducible exact Touch.refl _ _
    | ((with_reducible refine Touch.setMgt (by decide) ?_ ?_ ?_ ?_); exact rfl; exact rfl; exact rfl) | extract_lets
    | split)

theorem gatherPower_touch (i : TelIn) (s : State) :
    Touch 0x100000000 s (gatherPower i s) := by
  unfold gatherPower
  repeat' (first
    | with_reducible exact Touch.refl _ _
    | ((with_reducible refine Touch.setMgt (by decide) ?_ ?_ ?_ ?_); exact rfl; exact rfl; exact rfl))

theorem execTelemetrySample_touch (i : TelIn) (s : State) :
    TouchR 0x100000404 s (execTelemetrySample i s) := by
  unfold execTelemetrySample
  repeat' (first
    | with_reducible exact Touch.refl _ _ | with_reducible refine TouchR.next ?_
    | ((with_reducible apply Touch.via (gatherCnt_touch _ _)); decide)
    | ((with_reducible apply Touch.via (gatherPower_touch _ _)); decide)
    | ((with_reducible apply Touch.via (noteHottest_touch _ _)); decide)
    | ((with_reducible apply Touch.via (setCoolant_touch _ _ _ _ _)); decide)
    | ((with_reducible apply Touch.via (setPins_touch _ _)); decide)
    | ((with_reducible refine Touch.setMgt (by decide) ?_ ?_ ?_ ?_); exact rfl; exact rfl; exact rfl) | split)

theorem execPowerWindowDelivery_touch (s : State) :
    TouchR 0x100000000 s (execPowerWindowDelivery s) := by
  unfold execPowerWindowDelivery
  repeat' (first
    | with_reducible exact Touch.refl _ _ | with_reducible refine TouchR.next ?_
    | ((with_reducible refine Touch.setMgt (by decide) ?_ ?_ ?_ ?_); exact rfl; exact rfl; exact rfl) | extract_lets
    | split)

theorem execTelemetryRead_touch (c : Cmd) (s : State) :
    TouchR 0x1140036000 s (execTelemetryRead c s) := by
  unfold execTelemetryRead
  repeat' (first
    | with_reducible exact Touch.refl _ _ | ((with_reducible apply Touch.via (intoBuf_touch _ _ _ _)); decide)
    | (with_reducible refine runCmd_touch _ _ _ _ _ _ _ (by decide) (fun _ _ => ?_)))

theorem execProfileStart_touch (c : Cmd) (s : State) :
    TouchR 0x1140036000 s (execProfileStart c s) := by
  unfold execProfileStart
  repeat' (first
    | with_reducible exact Touch.refl _ _
    | (with_reducible refine runCmd_touch _ _ _ _ _ _ _ (by decide) (fun _ _ => ?_))
    | ((with_reducible refine Touch.setMgt (by decide) ?_ ?_ ?_ ?_); exact rfl; exact rfl; exact rfl) | split)

theorem execProfileStop_touch (c : Cmd) (s : State) :
    TouchR 0x1140036000 s (execProfileStop c s) := by
  unfold execProfileStop
  repeat' (first
    | with_reducible exact Touch.refl _ _
    | (with_reducible refine runCmd_touch _ _ _ _ _ _ _ (by decide) (fun _ _ => ?_))
    | ((with_reducible refine Touch.setMgt (by decide) ?_ ?_ ?_ ?_); exact rfl; exact rfl; exact rfl) | split)

theorem execProfileSample_touch (p r : Nat) (data : List Byte) (s : State) :
    TouchR 0x1100000000 s (execProfileSample p r data s) := by
  unfold execProfileSample
  repeat' (first
    | with_reducible exact Touch.refl _ _ | with_reducible refine TouchR.next ?_
    | ((with_reducible apply Touch.via (emit_touch _ _)); decide)
    | ((with_reducible refine Touch.setMgt (by decide) ?_ ?_ ?_ ?_); exact rfl; exact rfl; exact rfl) | split)

theorem rxCounts_touch (n : Nat) (s : State) :
    Touch 0x100000000 s (rxCounts n s) := by
  unfold rxCounts
  repeat' (first
    | with_reducible exact Touch.refl _ _ | (with_reducible assumption)
    | with_reducible refine Touch.foldl _ _ (fun _ _ => ?_) ?_
    | with_reducible refine Touch.foldl_pair _ _ _ (fun _ _ => ?_) ?_
    | with_reducible refine Touch.foldl_fst _ _ _ (fun _ _ => ?_) ?_
    | with_reducible refine Touch.foldl_trip _ _ _ (fun _ _ => ?_) ?_
    | with_reducible refine Touch.foldl_mid _ _ _ (fun _ _ => ?_) ?_
    | ((with_reducible refine Touch.setMgt (by decide) ?_ ?_ ?_ ?_); exact rfl; exact rfl; exact rfl)
    | ((with_reducible refine Touch.setMgt_le (by decide) (fun i => ⟨?_, ?_, ?_⟩) ?_); (first | exact i.2.1 | exact Nat.zero_le _); (first | exact i.2.2.1 | exact Nat.zero_le _ | (simp only [List.length_take]; omega)); (first | exact i.2.2.2.1 | exact Nat.zero_le _ | (simp only [List.length_drop, List.length_append, List.length_cons, List.length_nil]; omega) | (have := i.2.2.2.1; simp only [List.length_drop]; omega) | (have := i.2.2.2.1; split <;> (try simp only [List.length_drop]) <;> omega)))
    | extract_lets | split | with_reducible refine Touch.of_snd (by assumption) ?_
    | with_reducible refine Touch.of_fst (by assumption) ?_ | with_reducible refine Touch.of_snd₃ (by assumption) ?_
    | dsimp only | dsimp -zeta +zetaDelta only)

theorem rxCount_touch (s : State) :
    Touch 0x100000000 s (rxCount s) := by
  unfold rxCount
  repeat' (first
    | with_reducible exact Touch.refl _ _ | ((with_reducible apply Touch.via (rxCounts_touch _ _)); decide))

theorem mctpControl_touch {m : Nat} (b cmd : Nat) (body : State → State × List Byte) (s : State) (hm : 0x1100000000 &&& m = 0x1100000000) (hb : ∀ t, Touch m t (body t).1) :
    TouchR m s (mctpControl b cmd body s) := by
  unfold mctpControl
  dsimp only
  split
  · exact TouchR.next (Touch.refl _ _)
  · exact TouchR.next (((rxCount_touch _).mono (sub_mono (by decide) hm)).trans ((hb _).trans ((emit_touch _ _).mono (sub_mono (by decide) hm))))

theorem execSetEndpointId_touch (b : Nat) (eid : Byte) (s : State) :
    TouchR 0x1100000000 s (execSetEndpointId b eid s) := by
  unfold execSetEndpointId
  repeat' (first
    | with_reducible exact Touch.refl _ _
    | (with_reducible refine mctpControl_touch _ _ _ _ (by decide) (fun _ => ?_))
    | ((with_reducible refine Touch.setMgt (by decide) ?_ ?_ ?_ ?_); exact rfl; exact rfl; exact rfl) | split)

theorem execGetEndpointId_touch (b : Nat) (s : State) :
    TouchR 0x1100000000 s (execGetEndpointId b s) := by
  unfold execGetEndpointId
  repeat' (first
    | with_reducible exact Touch.refl _ _
    | (with_reducible refine mctpControl_touch _ _ _ _ (by decide) (fun _ => ?_)))

theorem execGetEndpointUuid_touch (b : Nat) (s : State) :
    TouchR 0x1100000000 s (execGetEndpointUuid b s) := by
  unfold execGetEndpointUuid
  repeat' (first
    | with_reducible exact Touch.refl _ _
    | (with_reducible refine mctpControl_touch _ _ _ _ (by decide) (fun _ => ?_)))

theorem execGetMctpVersionSupport_touch (b : Nat) (typ : Byte) (s : State) :
    TouchR 0x1100000000 s (execGetMctpVersionSupport b typ s) := by
  unfold execGetMctpVersionSupport
  repeat' (first
    | with_reducible exact Touch.refl _ _
    | (with_reducible refine mctpControl_touch _ _ _ _ (by decide) (fun _ => ?_)))

theorem execGetMessageTypeSupport_touch (b : Nat) (s : State) :
    TouchR 0x1100000000 s (execGetMessageTypeSupport b s) := by
  unfold execGetMessageTypeSupport
  repeat' (first
    | with_reducible exact Touch.refl _ _
    | (with_reducible refine mctpControl_touch _ _ _ _ (by decide) (fun _ => ?_)))

theorem execGetVendorDefinedMessageSupport_touch (b : Nat) (s : State) :
    TouchR 0x1100000000 s (execGetVendorDefinedMessageSupport b s) := by
  unfold execGetVendorDefinedMessageSupport
  repeat' (first
    | with_reducible exact Touch.refl _ _
    | (with_reducible refine mctpControl_touch _ _ _ _ (by decide) (fun _ => ?_)))

theorem execBadPecPacket_touch (s : State) :
    TouchR 0x100000000 s (execBadPecPacket s) := by
  unfold execBadPecPacket
  repeat' (first
    | with_reducible exact Touch.refl _ _ | with_reducible refine TouchR.next ?_
    | ((with_reducible refine Touch.setMgt (by decide) ?_ ?_ ?_ ?_); exact rfl; exact rfl; exact rfl) | split)

theorem vendorRead_touch (b cmd : Nat) (served : Bool) (l : List (Nat × List Byte)) (start : Nat) (s : State) :
    TouchR 0x1100000000 s (vendorRead b cmd served l start s) := by
  unfold vendorRead
  repeat' (first
    | with_reducible exact Touch.refl _ _ | with_reducible refine TouchR.next ?_
    | ((with_reducible apply Touch.via (emit_touch _ _)); decide)
    | ((with_reducible apply Touch.via (rxCount_touch _)); decide) | extract_lets | split)

theorem execEventRead_touch (b : Nat) (start : W64) (s : State) :
    TouchR 0x1100000000 s (execEventRead b start s) := by
  unfold execEventRead
  repeat' (first | with_reducible exact (vendorRead_touch _ _ _ _ _ _).mono (by decide))

theorem execJournalRead_touch (b : Nat) (start : W64) (s : State) :
    TouchR 0x1100000000 s (execJournalRead b start s) := by
  unfold execJournalRead
  repeat' (first | with_reducible exact (vendorRead_touch _ _ _ _ _ _).mono (by decide))

theorem pldm_touch {m : Nat} (b typ cmd : Nat) (body : State → State × Nat × List Byte) (s : State) (hm : 0x1100000000 &&& m = 0x1100000000) (hb : ∀ t, Touch m t (body t).1) :
    TouchR m s (pldm b typ cmd body s) := by
  unfold pldm
  have hr := (rxCount_touch s).mono (n := m) (sub_mono (by decide) hm)
  have he : ∀ a t, Touch m t (emit a t) := fun a t => (emit_touch a t).mono (sub_mono (by decide) hm)
  dsimp only
  split
  · exact TouchR.next (Touch.refl _ _)
  · split
    · exact TouchR.next hr
    · exact TouchR.next (hr.trans ((hb _).trans (he _ _)))
    · exact TouchR.next (hr.trans (he _ _))

theorem execSetTid_touch (b : Nat) (tid : Byte) (s : State) :
    TouchR 0x1100000000 s (execSetTid b tid s) := by
  unfold execSetTid
  repeat' (first
    | with_reducible exact Touch.refl _ _ | (with_reducible refine pldm_touch _ _ _ _ _ (by decide) (fun _ => ?_))
    | ((with_reducible refine Touch.setMgt (by decide) ?_ ?_ ?_ ?_); exact rfl; exact rfl; exact rfl) | split)

theorem execGetTid_touch (b : Nat) (s : State) :
    TouchR 0x1100000000 s (execGetTid b s) := by
  unfold execGetTid
  repeat' (first
    | with_reducible exact Touch.refl _ _ | (with_reducible refine pldm_touch _ _ _ _ _ (by decide) (fun _ => ?_)))

theorem execGetPldmVersion_touch (b : Nat) (typ : Nat) (s : State) :
    TouchR 0x1100000000 s (execGetPldmVersion b typ s) := by
  unfold execGetPldmVersion
  repeat' (first
    | with_reducible exact Touch.refl _ _ | (with_reducible refine pldm_touch _ _ _ _ _ (by decide) (fun _ => ?_))
    | split)

theorem execGetPldmTypes_touch (b : Nat) (s : State) :
    TouchR 0x1100000000 s (execGetPldmTypes b s) := by
  unfold execGetPldmTypes
  repeat' (first
    | with_reducible exact Touch.refl _ _ | (with_reducible refine pldm_touch _ _ _ _ _ (by decide) (fun _ => ?_)))

theorem execGetPldmCommands_touch (b : Nat) (typ : Nat) (s : State) :
    TouchR 0x1100000000 s (execGetPldmCommands b typ s) := by
  unfold execGetPldmCommands
  repeat' (first
    | with_reducible exact Touch.refl _ _ | (with_reducible refine pldm_touch _ _ _ _ _ (by decide) (fun _ => ?_))
    | split)

theorem execPldmUnsupportedCommand_touch (b typ cmd : Nat) (s : State) :
    TouchR 0x1100000000 s (execPldmUnsupportedCommand b typ cmd s) := by
  unfold execPldmUnsupportedCommand
  repeat' (first
    | with_reducible exact Touch.refl _ _ | with_reducible refine TouchR.next ?_
    | (with_reducible refine pldm_touch _ _ _ _ _ (by decide) (fun _ => ?_)) | split)

theorem execGetPdrRepositoryInfo_touch (b : Nat) (s : State) :
    TouchR 0x1100000000 s (execGetPdrRepositoryInfo b s) := by
  unfold execGetPdrRepositoryInfo
  repeat' (first
    | with_reducible exact Touch.refl _ _ | (with_reducible refine pldm_touch _ _ _ _ _ (by decide) (fun _ => ?_)))

theorem execGetPdr_touch (b handle : Nat) (s : State) :
    TouchR 0x1100000000 s (execGetPdr b handle s) := by
  unfold execGetPdr
  repeat' (first
    | with_reducible exact Touch.refl _ _ | (with_reducible refine pldm_touch _ _ _ _ _ (by decide) (fun _ => ?_))
    | extract_lets | split)

theorem execGetSensorReading_touch (b id : Nat) (s : State) :
    TouchR 0x1100000000 s (execGetSensorReading b id s) := by
  unfold execGetSensorReading
  repeat' (first
    | with_reducible exact Touch.refl _ _ | (with_reducible refine pldm_touch _ _ _ _ _ (by decide) (fun _ => ?_))
    | split)

theorem execGetStateSensorReadings_touch (b id : Nat) (s : State) :
    TouchR 0x1100000000 s (execGetStateSensorReadings b id s) := by
  unfold execGetStateSensorReadings
  repeat' (first
    | with_reducible exact Touch.refl _ _ | (with_reducible refine pldm_touch _ _ _ _ _ (by decide) (fun _ => ?_))
    | split)

theorem execSetEventReceiver_touch (b : Nat) (eid : Option Byte) (s : State) :
    TouchR 0x1100000000 s (execSetEventReceiver b eid s) := by
  unfold execSetEventReceiver
  repeat' (first
    | with_reducible exact Touch.refl _ _ | (with_reducible refine pldm_touch _ _ _ _ _ (by decide) (fun _ => ?_))
    | ((with_reducible refine Touch.setMgt (by decide) ?_ ?_ ?_ ?_); exact rfl; exact rfl; exact rfl))

theorem execEventMessageSupported_touch (b : Nat) (s : State) :
    TouchR 0x1100000000 s (execEventMessageSupported b s) := by
  unfold execEventMessageSupported
  repeat' (first
    | with_reducible exact Touch.refl _ _ | (with_reducible refine pldm_touch _ _ _ _ _ (by decide) (fun _ => ?_)))

theorem execEventMessageBufferSize_touch (b : Nat) (n : W16) (s : State) :
    TouchR 0x1100000000 s (execEventMessageBufferSize b n s) := by
  unfold execEventMessageBufferSize
  repeat' (first
    | with_reducible exact Touch.refl _ _ | (with_reducible refine pldm_touch _ _ _ _ _ (by decide) (fun _ => ?_))
    | ((with_reducible refine Touch.setMgt (by decide) ?_ ?_ ?_ ?_); exact rfl; exact rfl; exact rfl))

theorem execPollForPlatformEventMessage_touch (b : Nat) (ack : Bool) (s : State) :
    TouchR 0x1100000000 s (execPollForPlatformEventMessage b ack s) := by
  unfold execPollForPlatformEventMessage
  repeat' (first
    | with_reducible exact Touch.refl _ _ | (with_reducible refine pldm_touch _ _ _ _ _ (by decide) (fun _ => ?_))
    | ((with_reducible refine Touch.setMgt_le (by decide) (fun i => ⟨?_, ?_, ?_⟩) ?_); (first | exact i.2.1 | exact Nat.zero_le _); (first | exact i.2.2.1 | exact Nat.zero_le _ | (simp only [List.length_take]; omega)); (first | exact i.2.2.2.1 | exact Nat.zero_le _ | (simp only [List.length_drop, List.length_append, List.length_cons, List.length_nil]; omega) | (have := i.2.2.2.1; simp only [List.length_drop]; omega) | (have := i.2.2.2.1; split <;> (try simp only [List.length_drop]) <;> omega)))
    | extract_lets | split | dsimp -zeta +zetaDelta only)

theorem execGetFruRecordTableMetadata_touch (b : Nat) (s : State) :
    TouchR 0x1100000000 s (execGetFruRecordTableMetadata b s) := by
  unfold execGetFruRecordTableMetadata
  repeat' (first
    | with_reducible exact Touch.refl _ _ | (with_reducible refine pldm_touch _ _ _ _ _ (by decide) (fun _ => ?_)))

theorem execGetFruRecordTable_touch (b : Nat) (s : State) :
    TouchR 0x1100000000 s (execGetFruRecordTable b s) := by
  unfold execGetFruRecordTable
  repeat' (first
    | with_reducible exact Touch.refl _ _ | (with_reducible refine pldm_touch _ _ _ _ _ (by decide) (fun _ => ?_)))

end Sys2Proof.Machine
end

