-- ==== Sys2Proof/Laws/TouchRest.lean ====
section
/-! SUPPORT. What each operation and command may touch (see Laws/Touch.lean): security, updates, sidebands and the rest. -/

set_option maxRecDepth 4000

namespace Sys2Proof.Machine

open Sys2Proof

/-! ### Secure -/

theorem signWith_touch (msg : List Byte) (s : State) :
    Touch 0x800000000 s (signWith msg s).2 := by
  unfold signWith
  repeat' (first | with_reducible exact Touch.refl _ _ | ((with_reducible apply Touch.via (fresh_touch _)); decide))

theorem signReport_touch (who : Nat) (clean : Bool) (nonce : List Byte) (s : State) :
    Touch 0xad2800000 s (signReport who clean nonce s).2 := by
  unfold signReport
  repeat' (first
    | with_reducible exact Touch.refl _ _ | ((with_reducible apply Touch.via (signWith_touch _ _)); decide)
    | ((with_reducible apply Touch.setSec); decide))

theorem execAttestReport_touch (c : Cmd) (s : State) :
    TouchR 0x1bd2836000 s (execAttestReport c s) := by
  unfold execAttestReport
  repeat' (first
    | with_reducible exact Touch.refl _ _ | ((with_reducible apply Touch.via (intoBuf_touch _ _ _ _)); decide)
    | (with_reducible refine runCmd_touch _ _ _ _ _ _ _ (by decide) (fun _ _ => ?_))
    | ((with_reducible apply Touch.via (setRealm_touch _ _ _)); decide)
    | ((with_reducible apply Touch.via (signReport_touch _ _ _ _)); decide) | split)

theorem execCertChainGet_touch (c : Cmd) (s : State) :
    TouchR 0x1140036000 s (execCertChainGet c s) := by
  unfold execCertChainGet
  repeat' (first
    | with_reducible exact Touch.refl _ _ | ((with_reducible apply Touch.via (intoBuf_touch _ _ _ _)); decide)
    | (with_reducible refine runCmd_touch _ _ _ _ _ _ _ (by decide) (fun _ _ => ?_)))

theorem execRealmOpen_touch (c : Cmd) (s : State) :
    TouchR 0x1140036000 s (execRealmOpen c s) := by
  unfold execRealmOpen
  repeat' (first
    | with_reducible exact Touch.refl _ _
    | (with_reducible refine runCmd_touch _ _ _ _ _ _ _ (by decide) (fun _ _ => ?_))
    | ((with_reducible apply Touch.via (setRealm_touch _ _ _)); decide) | split)

theorem execKeyDeliver_touch (c : Cmd) (s : State) :
    TouchR 0x1140036000 s (execKeyDeliver c s) := by
  unfold execKeyDeliver
  repeat' (first
    | with_reducible exact Touch.refl _ _
    | (with_reducible refine runCmd_touch _ _ _ _ _ _ _ (by decide) (fun _ _ => ?_))
    | ((with_reducible apply Touch.via (setRealm_touch _ _ _)); decide) | split)

theorem execKeyRotate_touch (c : Cmd) (s : State) :
    TouchR 0x1150036000 s (execKeyRotate c s) := by
  unfold execKeyRotate
  repeat' (first
    | with_reducible exact Touch.refl _ _ | ((with_reducible apply Touch.via (arm_touch _ _ _)); decide)
    | (with_reducible refine runCmd_touch _ _ _ _ _ _ _ (by decide) (fun _ _ => ?_))
    | ((with_reducible apply Touch.via (setRealm_touch _ _ _)); decide) | extract_lets | split)

theorem execKeySweepStart_touch (r : Nat) (s : State) :
    TouchR 0x40000000 s (execKeySweepStart r s) := by
  unfold execKeySweepStart
  repeat' (first
    | with_reducible exact Touch.refl _ _ | with_reducible refine TouchR.next ?_
    | ((with_reducible apply Touch.via (setRealm_touch _ _ _)); decide) | extract_lets | split)

theorem dropCounters_touch (p : Nat → Nat → Bool) (s : State) :
    Touch 0x40000000 s (dropCounters p s) := by
  unfold dropCounters
  repeat' (first | with_reducible exact Touch.refl _ _ | ((with_reducible apply Touch.setSec); decide))

theorem execKeySweepDone_touch (r : Nat) (s : State) :
    TouchR 0x140830000 s (execKeySweepDone r s) := by
  unfold execKeySweepDone
  repeat' (first
    | with_reducible exact Touch.refl _ _ | with_reducible refine Touch.foldl _ _ (fun _ _ => ?_) ?_
    | with_reducible refine TouchR.next ?_ | ((with_reducible apply Touch.via (dropCounters_touch _ _)); decide)
    | ((with_reducible apply Touch.via (logFold_touch _ _ _ _ _ _ _)); decide)
    | ((with_reducible apply Touch.via (movePage_touch _ _)); decide)
    | ((with_reducible apply Touch.via (setRealm_touch _ _ _)); decide) | extract_lets | split
    | dsimp -zeta +zetaDelta only)

theorem forceOut_touch (slot : Nat) (s : State) :
    Touch 0x3b3cb6000 s (forceOut slot s) := by
  unfold forceOut
  repeat' (first
    | with_reducible exact Touch.refl _ _ | ((with_reducible apply Touch.via (commandAbort_touch _ _)); decide)
    | ((with_reducible apply Touch.via (setJobAt_touch _ _ _)); decide)
    | ((with_reducible apply Touch.via (withdrawJob_touch _ _)); decide) | extract_lets | split
    | dsimp -zeta +zetaDelta only)

theorem stopMaintenance_touch (s : State) :
    Touch 0x1182036000 s (stopMaintenance s) := by
  unfold stopMaintenance
  dsimp only
  refine Touch.foldl _ _ (fun t p => Touch.foldl _ _ (fun u e => (endCmd_touch _ _ _ _ _).mono (by decide)) (Touch.refl _ _)) ?_
  refine Touch.setMgt (by decide) rfl rfl rfl (Touch.setRel (by decide) ?_)
  exact Touch.foldl _ _ (fun t x => (lockDrop_touch _ _).mono (by decide)) (Touch.setRel (by decide) (Touch.refl _ _))

theorem flushEvents_touch (s : State) :
    Touch 0x1300036000 s (flushEvents s) := by
  unfold flushEvents
  repeat' (first
    | with_reducible exact Touch.refl _ _ | (with_reducible assumption)
    | with_reducible refine Touch.foldl _ _ (fun _ _ => ?_) ?_
    | with_reducible refine Touch.foldl_pair _ _ _ (fun _ _ => ?_) ?_
    | with_reducible refine Touch.foldl_fst _ _ _ (fun _ _ => ?_) ?_
    | with_reducible refine Touch.foldl_trip _ _ _ (fun _ _ => ?_) ?_
    | with_reducible refine Touch.foldl_mid _ _ _ (fun _ _ => ?_) ?_
    | ((with_reducible apply Touch.via (moveEvents_touch _)); decide) | extract_lets | split
    | with_reducible refine Touch.of_snd (by assumption) ?_ | with_reducible refine Touch.of_fst (by assumption) ?_
    | with_reducible refine Touch.of_snd₃ (by assumption) ?_ | dsimp only | dsimp -zeta +zetaDelta only)

theorem shutGo_touch (n : Nat) (s : State) :
    Touch 0x13c2036100 s (shutGo n s) := by
  induction n generalizing s with
  | zero => exact Touch.refl _ _
  | succ n ih =>
    unfold shutGo
    split
    · exact Touch.refl _ _
    · rename_i h _
      extract_lets goto enter t3 t5 u
      have hg : ∀ k t, Touch 0x13c2036100 t (goto k t) := fun k t => Touch.setShut (by decide) (Touch.refl _ _)
      have hw : ∀ r t, Touch 0x13c2036100 t (if (realmOf t r).st == .opened || (realmOf t r).st == .keyed then startWinter r t else t) := by
        intro r t
        split
        · exact (startWinter_touch _ _).mono (by decide)
        · exact Touch.refl _ _
      split
      · split
        · exact Touch.refl _ _
        · exact (hg _ _).trans (ih _)
      · exact ((stopMaintenance_touch _).mono (by decide)).trans ((hg _ _).trans (ih _))
      · have ht : Touch 0x13c2036100 s t3 := (hw 1 s).trans (hw 2 _)
        split
        · exact ht
        · exact ht.trans ((hg _ _).trans (ih _))
      · split
        · exact ((flushEvents_touch _).mono (by decide)).trans ((hg _ _).trans (ih _))
        · exact Touch.refl _ _
      · have ht : Touch 0x13c2036100 s t5 := by
          show Touch 0x13c2036100 s (match shutEntry s h with | some (p, e) => endCmd p 0 e ok s | none => s)
          split
          · exact (endCmd_touch _ _ _ _ _).mono (by decide)
          · exact Touch.refl _ _
        refine ht.trans ((hg 6 t5).trans (Touch.foldl _ _ (fun v p => (sendPlain_touch _ _ _).mono (by decide)) ?_))
        exact (emit_touch _ _).mono (by decide)
      · exact Touch.refl _ _

theorem shutAdvance_touch (s : State) :
    Touch 0x13c2036100 s (shutAdvance s) := by
  unfold shutAdvance
  repeat' (first
    | with_reducible exact Touch.refl _ _ | ((with_reducible apply Touch.via (shutGo_touch _ _)); decide))

theorem shutStart_touch (target : ShutTarget) (force : Bool) (port : Option Nat) (no : Nat) (s : State) :
    Touch 0x13f3cb6102 s (shutStart target force port no s) := by
  unfold shutStart
  repeat' (first
    | with_reducible exact Touch.refl _ _ | ((with_reducible apply Touch.via (forceOut_touch _ _)); decide)
    | ((with_reducible apply Touch.via (shutAdvance_touch _)); decide)
    | ((with_reducible apply Touch.setPhase); decide) | ((with_reducible apply Touch.setShut); decide) | split)

theorem execShutdown_touch (c : Cmd) (s : State) :
    TouchR 0x13f3cb6102 s (execShutdown c s) := by
  unfold execShutdown
  repeat' (first
    | with_reducible exact Touch.refl _ _
    | (with_reducible refine runCmd_touch _ _ _ _ _ _ _ (by decide) (fun _ _ => ?_))
    | ((with_reducible apply Touch.via (shutStart_touch _ _ _ _ _)); decide))

theorem execDeparturePhaseEnd_touch (s : State) :
    TouchR 0x1ffffffffe s (execDeparturePhaseEnd s) := by
  unfold execDeparturePhaseEnd
  repeat' (first
    | with_reducible exact Touch.refl _ _ | with_reducible refine TouchR.next ?_
    | ((with_reducible apply Touch.via (seqRun_touch _ _ _)); decide)
    | ((with_reducible apply Touch.setPseq); decide) | ((with_reducible apply Touch.setPwait); decide)
    | ((with_reducible apply Touch.setShut); decide) | split)

theorem execRealmClose_touch (c : Cmd) (s : State) :
    TouchR 0x1bf3cb6000 s (execRealmClose c s) := by
  unfold execRealmClose
  repeat' (first
    | with_reducible exact Touch.refl _ _ | with_reducible refine Touch.foldl _ _ (fun _ _ => ?_) ?_
    | ((with_reducible apply Touch.via (forceOut_touch _ _)); decide)
    | ((with_reducible apply Touch.via (fresh_touch _)); decide)
    | (with_reducible refine runCmd_touch _ _ _ _ _ _ _ (by decide) (fun _ _ => ?_))
    | ((with_reducible apply Touch.via (setRealm_touch _ _ _)); decide)
    | ((with_reducible apply Touch.via (startWinter_touch _ _)); decide) | split | dsimp -zeta +zetaDelta only)

theorem unmapRealm_touch (r : Nat) (s : State) :
    Touch 0x6000 s (unmapRealm r s) := by
  unfold unmapRealm
  repeat' (first
    | with_reducible exact Touch.refl _ _ | ((with_reducible apply Touch.setFn0); decide)
    | ((with_reducible apply Touch.setFn1); decide))

theorem flushSlot_touch (slot : Nat) (s : State) :
    Touch 0x680000 s (flushSlot slot s) := by
  unfold flushSlot
  repeat' (first
    | with_reducible exact Touch.refl _ _ | ((with_reducible apply Touch.via (slotContexts_touch _ _)); decide)
    | ((with_reducible apply Touch.setCmp); decide))

theorem scrubPages_touch (r : Nat) (s : State) :
    Touch 0x800000 s (scrubPages r s) := by
  unfold scrubPages
  repeat' (first
    | with_reducible exact Touch.refl _ _
    | ((with_reducible refine Touch.setMem (by decide) ?_ ?_); · intro hw; rw [mem_wf_iff] at hw ⊢; obtain ⟨h1, h2, h3, h4, h5, h6, h7⟩ := hw; refine ⟨?_, ?_, ?_, ?_, ?_, ?_, ?_⟩ <;> repeat' (first | assumption | with_reducible apply tok_tset | with_reducible apply tok_tmod | with_reducible apply tok_tclear | with_reducible apply tok_tsetRun | with_reducible apply tok_filter | with_reducible apply tok_tmove | with_reducible apply tok_tmap | with_reducible apply tok_tdrop | with_reducible apply tok_drops | with_reducible refine tok_foldl _ _ (fun _ _ _ => ?_) _ _ ?_ | split)))

theorem destroyKeys_touch (r : Nat) (s : State) :
    Touch 0x50000000 s (destroyKeys r s) := by
  unfold destroyKeys
  repeat' (first
    | with_reducible exact Touch.refl _ _ | ((with_reducible apply Touch.via (dropCounters_touch _ _)); decide)
    | ((with_reducible apply Touch.via (setRealm_touch _ _ _)); decide)
    | ((with_reducible apply Touch.setRtb); decide) | split)

theorem winterEnd_touch (r : Nat) (s : State) :
    Touch 0x1bd2876100 s (winterEnd r s) := by
  unfold winterEnd
  repeat' (first
    | with_reducible exact Touch.refl _ _ | ((with_reducible apply Touch.via (emit_touch _ _)); decide)
    | ((with_reducible apply Touch.via (finishCmd_touch _ _ _ _ _ _)); decide)
    | ((with_reducible apply Touch.via (logFold_touch _ _ _ _ _ _ _)); decide)
    | ((with_reducible apply Touch.via (setRealm_touch _ _ _)); decide)
    | ((with_reducible apply Touch.via (shutAdvance_touch _)); decide)
    | ((with_reducible apply Touch.via (signReport_touch _ _ _ _)); decide)
    | ((with_reducible apply Touch.setJobIds); decide)
    | ((with_reducible refine Touch.setMgt (by decide) ?_ ?_ ?_ ?_); exact rfl; exact rfl; exact rfl) | split)

theorem execWinterStepDone_touch (r k : Nat) (s : State) :
    TouchR 0x1bd2ef6100 s (execWinterStepDone r k s) := by
  unfold execWinterStepDone
  repeat' (first
    | with_reducible exact Touch.refl _ _ | with_reducible refine Touch.foldl _ _ (fun _ _ => ?_) ?_
    | with_reducible refine TouchR.next ?_ | ((with_reducible apply Touch.via (destroyKeys_touch _ _)); decide)
    | ((with_reducible apply Touch.via (flushSlot_touch _ _)); decide)
    | ((with_reducible apply Touch.via (scrubPages_touch _ _)); decide)
    | ((with_reducible apply Touch.via (setBind_touch _ _ _)); decide)
    | ((with_reducible apply Touch.via (setRealm_touch _ _ _)); decide)
    | ((with_reducible apply Touch.via (slotTags_touch _ _)); decide)
    | ((with_reducible apply Touch.via (unmapRealm_touch _ _)); decide)
    | ((with_reducible apply Touch.via (winterEnd_touch _ _)); decide) | extract_lets | split)

theorem execDebugEnter_touch (c : Cmd) (s : State) :
    TouchR 0x1140036000 s (execDebugEnter c s) := by
  unfold execDebugEnter
  repeat' (first
    | with_reducible exact Touch.refl _ _ | ((with_reducible apply Touch.via (logMod_touch _ _ _ _)); decide)
    | (with_reducible refine runCmd_touch _ _ _ _ _ _ _ (by decide) (fun _ _ => ?_))
    | ((with_reducible apply Touch.setSec); decide) | split)

theorem dropApertures_touch (s : State) :
    Touch 0x6000 s (dropApertures s) := by
  unfold dropApertures
  repeat' (first
    | with_reducible exact Touch.refl _ _ | ((with_reducible apply Touch.setFn0); decide)
    | ((with_reducible apply Touch.setFn1); decide))

theorem execDebugExit_touch (c : Cmd) (s : State) :
    TouchR 0x1140036000 s (execDebugExit c s) := by
  unfold execDebugExit
  repeat' (first
    | with_reducible exact Touch.refl _ _ | ((with_reducible apply Touch.via (dropApertures_touch _)); decide)
    | ((with_reducible apply Touch.via (logMod_touch _ _ _ _)); decide)
    | (with_reducible refine runCmd_touch _ _ _ _ _ _ _ (by decide) (fun _ _ => ?_))
    | ((with_reducible apply Touch.setSec); decide))

theorem spdmError_touch (code data : Nat) (s : State) :
    Touch 0x1100000000 s (spdmError code data s) := by
  unfold spdmError
  repeat' (first | with_reducible exact Touch.refl _ _ | ((with_reducible apply Touch.via (emit_touch _ _)); decide))

theorem spdm_touch {m : Nat} (b stage : Nat) (body : State → State) (s : State) (hm : 0x1100000000 &&& m = 0x1100000000) (hb : ∀ t, Touch m t (body t)) :
    TouchR m s (spdm b stage body s) := by
  unfold spdm
  have hr := (rxCount_touch s).mono (n := m) (sub_mono (by decide) hm)
  have he : ∀ a b t, Touch m t (spdmError a b t) := fun a b t => (spdmError_touch a b t).mono (sub_mono (by decide) hm)
  dsimp only
  split
  · exact TouchR.next (Touch.refl _ _)
  · split
    · exact TouchR.next (hr.trans (he _ _ _))
    · split
      · exact TouchR.next hr
      · split
        · exact TouchR.next (hr.trans (he _ _ _))
        · exact TouchR.next (hr.trans (hb _))

theorem execGetVersion_touch (b : Nat) (s : State) :
    TouchR 0x1100000000 s (execGetVersion b s) := by
  unfold execGetVersion
  repeat' (first
    | with_reducible exact Touch.refl _ _ | ((with_reducible apply Touch.via (emit_touch _ _)); decide)
    | (with_reducible refine spdm_touch _ _ _ _ (by decide) (fun _ => ?_))
    | ((with_reducible refine Touch.setMgt (by decide) ?_ ?_ ?_ ?_); exact rfl; exact rfl; exact rfl))

theorem execGetCapabilities_touch (b : Nat) (s : State) :
    TouchR 0x1100000000 s (execGetCapabilities b s) := by
  unfold execGetCapabilities
  repeat' (first
    | with_reducible exact Touch.refl _ _ | ((with_reducible apply Touch.via (emit_touch _ _)); decide)
    | (with_reducible refine spdm_touch _ _ _ _ (by decide) (fun _ => ?_))
    | ((with_reducible refine Touch.setMgt (by decide) ?_ ?_ ?_ ?_); exact rfl; exact rfl; exact rfl))

theorem execNegotiateAlgorithms_touch (b : Nat) (asym hash : W32) (s : State) :
    TouchR 0x1100000000 s (execNegotiateAlgorithms b asym hash s) := by
  unfold execNegotiateAlgorithms
  repeat' (first
    | with_reducible exact Touch.refl _ _ | ((with_reducible apply Touch.via (emit_touch _ _)); decide)
    | (with_reducible refine spdm_touch _ _ _ _ (by decide) (fun _ => ?_))
    | ((with_reducible refine Touch.setMgt (by decide) ?_ ?_ ?_ ?_); exact rfl; exact rfl; exact rfl))

theorem execGetDigests_touch (b : Nat) (s : State) :
    TouchR 0x1100000000 s (execGetDigests b s) := by
  unfold execGetDigests
  repeat' (first
    | with_reducible exact Touch.refl _ _ | ((with_reducible apply Touch.via (emit_touch _ _)); decide)
    | (with_reducible refine spdm_touch _ _ _ _ (by decide) (fun _ => ?_)))

theorem execGetCertificate_touch (b slot off len : Nat) (s : State) :
    TouchR 0x1100000000 s (execGetCertificate b slot off len s) := by
  unfold execGetCertificate
  repeat' (first
    | with_reducible exact Touch.refl _ _ | ((with_reducible apply Touch.via (emit_touch _ _)); decide)
    | (with_reducible refine spdm_touch _ _ _ _ (by decide) (fun _ => ?_))
    | ((with_reducible apply Touch.via (spdmError_touch _ _ _)); decide) | extract_lets | split)

theorem measure_touch (nonce : List Byte) (s : State) :
    Touch 0xad2800000 s (measure nonce s).2 := by
  unfold measure
  repeat' (first
    | with_reducible exact Touch.refl _ _ | ((with_reducible apply Touch.via (signReport_touch _ _ _ _)); decide))

theorem spdmAnswer_touch (q : SpdmReq) (s : State) :
    Touch 0x1bd2800000 s (spdmAnswer q s) := by
  unfold spdmAnswer
  repeat' (first
    | with_reducible exact Touch.refl _ _ | ((with_reducible apply Touch.via (emit_touch _ _)); decide)
    | ((with_reducible apply Touch.via (fresh_touch _)); decide)
    | ((with_reducible apply Touch.via (measure_touch _ _)); decide)
    | ((with_reducible apply Touch.via (signWith_touch _ _)); decide) | split
    | with_reducible refine Touch.of_snd (by assumption) ?_ | dsimp -zeta +zetaDelta only)

theorem notReady_touch (q : SpdmReq) (s : State) :
    Touch 0x1900000000 s (notReady q s) := by
  unfold notReady
  repeat' (first
    | with_reducible exact Touch.refl _ _ | ((with_reducible apply Touch.via (emit_touch _ _)); decide)
    | ((with_reducible apply Touch.via (fresh_touch _)); decide)
    | ((with_reducible refine Touch.setMgt (by decide) ?_ ?_ ?_ ?_); exact rfl; exact rfl; exact rfl))

theorem spdmSigned_touch (q : SpdmReq) (later : Bool) (s : State) :
    Touch 0x1bd2800000 s (spdmSigned q later s) := by
  unfold spdmSigned
  repeat' (first
    | with_reducible exact Touch.refl _ _ | ((with_reducible apply Touch.via (fresh_touch _)); decide)
    | ((with_reducible apply Touch.via (notReady_touch _ _)); decide)
    | ((with_reducible apply Touch.via (spdmAnswer_touch _ _)); decide)
    | ((with_reducible apply Touch.via (spdmError_touch _ _ _)); decide) | split)

theorem execChallenge_touch (b slot summary : Nat) (nonce : List Byte) (later : Bool) (s : State) :
    TouchR 0x1bd2800000 s (execChallenge b slot summary nonce later s) := by
  unfold execChallenge
  repeat' (first
    | with_reducible exact Touch.refl _ _ | (with_reducible refine spdm_touch _ _ _ _ (by decide) (fun _ => ?_))
    | ((with_reducible apply Touch.via (spdmError_touch _ _ _)); decide)
    | ((with_reducible apply Touch.via (spdmSigned_touch _ _ _)); decide) | split)

theorem execGetMeasurements_touch (b index : Nat) (sign : Bool) (nonce : List Byte) (later : Bool) (s : State) :
    TouchR 0x1bd2800000 s (execGetMeasurements b index sign nonce later s) := by
  unfold execGetMeasurements
  repeat' (first
    | with_reducible exact Touch.refl _ _ | (with_reducible refine spdm_touch _ _ _ _ (by decide) (fun _ => ?_))
    | ((with_reducible apply Touch.via (spdmError_touch _ _ _)); decide)
    | ((with_reducible apply Touch.via (spdmSigned_touch _ _ _)); decide) | split)

theorem execRespondIfReady_touch (b code token : Nat) (later : Bool) (s : State) :
    TouchR 0x1bd2800000 s (execRespondIfReady b code token later s) := by
  unfold execRespondIfReady
  repeat' (first
    | with_reducible exact Touch.refl _ _ | ((with_reducible apply Touch.via (notReady_touch _ _)); decide)
    | (with_reducible refine spdm_touch _ _ _ _ (by decide) (fun _ => ?_))
    | ((with_reducible apply Touch.via (spdmAnswer_touch _ _)); decide)
    | ((with_reducible apply Touch.via (spdmError_touch _ _ _)); decide)
    | ((with_reducible refine Touch.setMgt (by decide) ?_ ?_ ?_ ?_); exact rfl; exact rfl; exact rfl) | split)

theorem execSpdmUnsupportedRequest_touch (b code : Nat) (s : State) :
    TouchR 0x1100000000 s (execSpdmUnsupportedRequest b code s) := by
  unfold execSpdmUnsupportedRequest
  repeat' (first
    | with_reducible exact Touch.refl _ _ | with_reducible refine TouchR.next ?_
    | (with_reducible refine spdm_touch _ _ _ _ (by decide) (fun _ => ?_))
    | ((with_reducible apply Touch.via (spdmError_touch _ _ _)); decide) | split)

/-! ### Update -/

theorem stageDiscard_touch (s : State) :
    Touch 0x200000000 s (stageDiscard s) := by
  unfold stageDiscard
  repeat' (first
    | with_reducible exact Touch.refl _ _ | ((with_reducible apply Touch.via (setFwSlot_touch _ _ _)); decide)
    | ((with_reducible refine Touch.setFlash (by decide) ?_ ?_ ?_ ?_); exact rfl; exact rfl; exact rfl) | split)

theorem fwRejected_touch (comp check : Nat) (s : State) :
    Touch 0x100030000 s (fwRejected comp check s) := by
  unfold fwRejected
  repeat' (first
    | with_reducible exact Touch.refl _ _ | ((with_reducible apply Touch.via (logMod_touch _ _ _ _)); decide))

theorem fwStaged_touch (image : Option FwSlot) (profiles : Option (List (List Byte))) (path : Nat) (s : State) :
    Touch 0x300030000 s (fwStaged image profiles path s).1 := by
  unfold fwStaged
  repeat' (first
    | with_reducible exact Touch.refl _ _ | ((with_reducible apply Touch.via (logMod_touch _ _ _ _)); decide)
    | ((with_reducible refine Touch.setFlash (by decide) ?_ ?_ ?_ ?_); exact rfl; exact rfl; exact rfl))

theorem stageUnlock_touch (s : State) :
    Touch 0x1082000000 s (stageUnlock s) := by
  unfold stageUnlock
  repeat' (first
    | with_reducible exact Touch.refl _ _ | ((with_reducible apply Touch.via (lockDrop_touch _ _)); decide) | split)

theorem stagePackage_touch (g : PkgIn) (s : State) :
    Touch 0x300030000 s (stagePackage g s).1 := by
  unfold stagePackage
  repeat' (first
    | with_reducible exact Touch.refl _ _ | ((with_reducible apply Touch.via (fwStaged_touch _ _ _ _)); decide)
    | ((with_reducible apply Touch.via (setFwSlot_touch _ _ _)); decide) | extract_lets | split
    | dsimp -zeta +zetaDelta only)

theorem stageEnd_touch (g : PkgIn) (s : State) :
    Touch 0x1382030000 s (stageEnd g s).1 := by
  unfold stageEnd
  repeat' (first
    | with_reducible exact Touch.refl _ _ | ((with_reducible apply Touch.via (fwRejected_touch _ _ _)); decide)
    | ((with_reducible apply Touch.via (stagePackage_touch _ _)); decide)
    | ((with_reducible apply Touch.via (stageUnlock_touch _)); decide) | extract_lets | split)

theorem execFwVerifyStage_touch (c : Cmd) (g : PkgIn) (part : Bool) (s : State) :
    TouchR 0x1bc2036000 s (execFwVerifyStage c g part s) := by
  unfold execFwVerifyStage
  repeat' (first
    | with_reducible exact Touch.refl _ _ | ((with_reducible apply Touch.via (lockTake_touch _ _ _)); decide)
    | (with_reducible refine runCmd_touch _ _ _ _ _ _ _ (by decide) (fun _ _ => ?_))
    | ((with_reducible apply Touch.via (stageDiscard_touch _)); decide)
    | ((with_reducible apply Touch.via (stageEnd_touch _ _)); decide) | extract_lets | split)

theorem activateStaged_touch (x : Staged) (s : State) :
    Touch 0x300030000 s (activateStaged x s) := by
  unfold activateStaged
  repeat' (first
    | with_reducible exact Touch.refl _ _ | ((with_reducible apply Touch.via (logMod_touch _ _ _ _)); decide)
    | ((with_reducible refine Touch.setFlash (by decide) ?_ ?_ ?_ ?_); exact rfl; exact rfl; exact rfl))

theorem execFwActivate_touch (c : Cmd) (s : State) :
    TouchR 0x13f3cb6102 s (execFwActivate c s) := by
  unfold execFwActivate
  repeat' (first
    | with_reducible exact Touch.refl _ _ | ((with_reducible apply Touch.via (activateStaged_touch _ _)); decide)
    | (with_reducible refine runCmd_touch _ _ _ _ _ _ _ (by decide) (fun _ _ => ?_))
    | ((with_reducible apply Touch.via (shutStart_touch _ _ _ _ _)); decide) | split)

theorem setUpd_touch (s : State) (u : Upd) :
    Touch 0x100000000 s (setUpd s u) := by
  unfold setUpd
  repeat' (first
    | with_reducible exact Touch.refl _ _
    | ((with_reducible refine Touch.setMgt (by decide) ?_ ?_ ?_ ?_); exact rfl; exact rfl; exact rfl))

theorem updTo_touch (st : UpdSt) (s : State) :
    Touch 0x100000000 s (updTo st s) := by
  unfold updTo
  repeat' (first
    | with_reducible exact Touch.refl _ _ | ((with_reducible apply Touch.via (setUpd_touch _ _)); decide))

theorem updEnd_touch (reason : Nat) (s : State) :
    Touch 0x1182000000 s (updEnd reason s) := by
  unfold updEnd
  repeat' (first
    | with_reducible exact Touch.refl _ _ | ((with_reducible apply Touch.via (setUpd_touch _ _)); decide)
    | ((with_reducible apply Touch.via (stageUnlock_touch _)); decide) | split)

theorem execQueryDeviceIdentifiers_touch (b : Nat) (s : State) :
    TouchR 0x1100000000 s (execQueryDeviceIdentifiers b s) := by
  unfold execQueryDeviceIdentifiers
  repeat' (first
    | with_reducible exact Touch.refl _ _ | (with_reducible refine pldm_touch _ _ _ _ _ (by decide) (fun _ => ?_)))

theorem execGetFirmwareParameters_touch (b : Nat) (s : State) :
    TouchR 0x1100000000 s (execGetFirmwareParameters b s) := by
  unfold execGetFirmwareParameters
  repeat' (first
    | with_reducible exact Touch.refl _ _ | (with_reducible refine pldm_touch _ _ _ _ _ (by decide) (fun _ => ?_)))

theorem updIn_touch {m : Nat} (sts : List UpdSt) (body : State → State × Nat × List Byte) (t : State) (hm : 0x292800000 &&& m = 0x292800000) (hb : ∀ t, Touch m t (body t).1) :
    Touch m t (updIn sts body t).1 := by
  unfold updIn
  split
  · exact Touch.refl _ _
  · split
    · exact hb _
    · exact Touch.refl _ _

theorem execRequestUpdate_touch (b maxLen : Nat) (s : State) :
    TouchR 0x1b92800000 s (execRequestUpdate b maxLen s) := by
  unfold execRequestUpdate
  repeat' (first
    | with_reducible exact Touch.refl _ _ | ((with_reducible apply Touch.via (estimate_touch _)); decide)
    | ((with_reducible apply Touch.via (idle_touch _)); decide)
    | ((with_reducible apply Touch.via (lockAdd_touch _ _ _ _ _ _)); decide)
    | (with_reducible refine pldm_touch _ _ _ _ _ (by decide) (fun _ => ?_))
    | ((with_reducible apply Touch.via (setUpd_touch _ _)); decide)
    | ((with_reducible apply Touch.via (stageDiscard_touch _)); decide) | split)

theorem execPassComponentTable_touch (b : Nat) (comps : List Nat) (s : State) :
    TouchR 0x1392800000 s (execPassComponentTable b comps s) := by
  unfold execPassComponentTable
  repeat' (first
    | with_reducible exact Touch.refl _ _ | (with_reducible refine pldm_touch _ _ _ _ _ (by decide) (fun _ => ?_))
    | ((with_reducible apply Touch.via (setUpd_touch _ _)); decide)
    | (with_reducible refine updIn_touch _ _ _ (by decide) (fun _ => ?_))
    | ((with_reducible apply Touch.via (updTo_touch _ _)); decide) | extract_lets | split)

theorem askData_touch (s : State) :
    Touch 0x1100000000 s (askData s) := by
  unfold askData
  repeat' (first | with_reducible exact Touch.refl _ _ | ((with_reducible apply Touch.via (emit_touch _ _)); decide))

theorem execUpdateComponent_touch (b comp size : Nat) (s : State) :
    TouchR 0x1392800000 s (execUpdateComponent b comp size s) := by
  unfold execUpdateComponent
  repeat' (first
    | with_reducible exact Touch.refl _ _ | ((with_reducible apply Touch.via (askData_touch _)); decide)
    | (with_reducible refine pldm_touch _ _ _ _ _ (by decide) (fun _ => ?_))
    | ((with_reducible apply Touch.via (setFwSlot_touch _ _ _)); decide)
    | ((with_reducible apply Touch.via (setUpd_touch _ _)); decide)
    | (with_reducible refine updIn_touch _ _ _ (by decide) (fun _ => ?_)) | extract_lets | split
    | dsimp -zeta +zetaDelta only)

theorem execRequestFirmwareData_touch (data : List Byte) (s : State) :
    TouchR 0x1100000000 s (execRequestFirmwareData data s) := by
  unfold execRequestFirmwareData
  repeat' (first
    | with_reducible exact Touch.refl _ _ | with_reducible refine TouchR.next ?_
    | ((with_reducible apply Touch.via (askData_touch _)); decide)
    | ((with_reducible apply Touch.via (rxCounts_touch _ _)); decide)
    | ((with_reducible apply Touch.via (setUpd_touch _ _)); decide) | extract_lets | split)

theorem execTransferComplete_touch (s : State) :
    TouchR 0x1100000000 s (execTransferComplete s) := by
  unfold execTransferComplete
  repeat' (first
    | with_reducible exact Touch.refl _ _ | with_reducible refine TouchR.next ?_
    | ((with_reducible apply Touch.via (emit_touch _ _)); decide)
    | ((with_reducible apply Touch.via (updTo_touch _ _)); decide) | extract_lets | split)

theorem execVerifyComplete_touch (x : FwSlot) (s : State) :
    TouchR 0x1382030000 s (execVerifyComplete x s) := by
  unfold execVerifyComplete
  repeat' (first
    | with_reducible exact Touch.refl _ _ | with_reducible refine TouchR.next ?_
    | ((with_reducible apply Touch.via (emit_touch _ _)); decide)
    | ((with_reducible apply Touch.via (fwRejected_touch _ _ _)); decide)
    | ((with_reducible apply Touch.via (fwStaged_touch _ _ _ _)); decide)
    | ((with_reducible apply Touch.via (setFwSlot_touch _ _ _)); decide)
    | ((with_reducible apply Touch.via (setUpd_touch _ _)); decide)
    | ((with_reducible apply Touch.via (stageUnlock_touch _)); decide) | extract_lets | split
    | dsimp -zeta +zetaDelta only)

theorem execApplyComplete_touch (s : State) :
    TouchR 0x1100000000 s (execApplyComplete s) := by
  unfold execApplyComplete
  repeat' (first
    | with_reducible exact Touch.refl _ _ | with_reducible refine TouchR.next ?_
    | ((with_reducible apply Touch.via (emit_touch _ _)); decide)
    | ((with_reducible apply Touch.via (setUpd_touch _ _)); decide)
    | ((with_reducible apply Touch.via (updTo_touch _ _)); decide) | split)

theorem execActivateFirmware_touch (b : Nat) (s : State) :
    TouchR 0x17fffffffe s (execActivateFirmware b s) := by
  unfold execActivateFirmware
  repeat' (first
    | with_reducible exact Touch.refl _ _ | ((with_reducible apply Touch.via (activateStaged_touch _ _)); decide)
    | (with_reducible refine pldm_touch _ _ _ _ _ (by decide) (fun _ => ?_))
    | ((with_reducible apply Touch.via (shutStart_touch _ _ _ _ _)); decide)
    | ((with_reducible apply Touch.via (startSpring_touch _ _)); decide)
    | ((with_reducible apply Touch.via (updEnd_touch _ _)); decide) | split)

theorem execGetStatus_touch (b : Nat) (s : State) :
    TouchR 0x1392800000 s (execGetStatus b s) := by
  unfold execGetStatus
  repeat' (first
    | with_reducible exact Touch.refl _ _ | (with_reducible refine pldm_touch _ _ _ _ _ (by decide) (fun _ => ?_)))

theorem execCancelUpdateComponent_touch (b : Nat) (s : State) :
    TouchR 0x1392800000 s (execCancelUpdateComponent b s) := by
  unfold execCancelUpdateComponent
  repeat' (first
    | with_reducible exact Touch.refl _ _ | (with_reducible refine pldm_touch _ _ _ _ _ (by decide) (fun _ => ?_))
    | ((with_reducible apply Touch.via (setUpd_touch _ _)); decide)
    | (with_reducible refine updIn_touch _ _ _ (by decide) (fun _ => ?_))
    | ((with_reducible apply Touch.via (updTo_touch _ _)); decide))

theorem execCancelUpdate_touch (b : Nat) (s : State) :
    TouchR 0x1392800000 s (execCancelUpdate b s) := by
  unfold execCancelUpdate
  repeat' (first
    | with_reducible exact Touch.refl _ _ | (with_reducible refine pldm_touch _ _ _ _ _ (by decide) (fun _ => ?_))
    | ((with_reducible apply Touch.via (updEnd_touch _ _)); decide)
    | (with_reducible refine updIn_touch _ _ _ (by decide) (fun _ => ?_)))

/-! ### Late -/

theorem transferStops_touch (p r : Nat) (e : InFlight) (s0 : State) :
    Touch 0x18a2830000 s0 (transferStops p r e s0) := by
  unfold transferStops
  repeat' (first
    | with_reducible exact Touch.refl _ _ | (with_reducible assumption)
    | with_reducible refine Touch.foldl _ _ (fun _ _ => ?_) ?_
    | with_reducible refine Touch.foldl_pair _ _ _ (fun _ _ => ?_) ?_
    | with_reducible refine Touch.foldl_fst _ _ _ (fun _ _ => ?_) ?_
    | with_reducible refine Touch.foldl_trip _ _ _ (fun _ _ => ?_) ?_
    | with_reducible refine Touch.foldl_mid _ _ _ (fun _ _ => ?_) ?_
    | ((with_reducible apply Touch.via (addCapture_touch _ _ _)); decide)
    | ((with_reducible apply Touch.via (copyLoaded_touch _ _ _)); decide)
    | ((with_reducible apply Touch.via (pullDrop_touch _ _ _ _)); decide)
    | ((with_reducible apply Touch.via (restoreFailed_touch _ _)); decide)
    | ((with_reducible apply Touch.via (stageUnlock_touch _)); decide) | extract_lets | split
    | with_reducible refine Touch.of_snd (by assumption) ?_ | with_reducible refine Touch.of_fst (by assumption) ?_
    | with_reducible refine Touch.of_snd₃ (by assumption) ?_ | dsimp only | dsimp -zeta +zetaDelta only)

theorem ringAgain_touch (p r : Nat) (s : State) :
    Touch 0x18a2836000 s (ringAgain p r s) := by
  unfold ringAgain
  repeat' (first
    | with_reducible exact Touch.refl _ _ | with_reducible refine Touch.foldl _ _ (fun _ _ => ?_) ?_
    | ((with_reducible apply Touch.via (putEntry_touch _ _ _ _ _)); decide)
    | ((with_reducible apply Touch.via (transferStops_touch _ _ _ _)); decide))

theorem updDiscard_touch (s : State) :
    Touch 0x1392800000 s (updDiscard s) := by
  unfold updDiscard
  repeat' (first
    | with_reducible exact Touch.refl _ _ | ((with_reducible apply Touch.via (idle_touch _)); decide)
    | ((with_reducible apply Touch.via (updEnd_touch _ _)); decide) | split)

theorem cpRestart_touch (cause : Nat) (pc : W64) (s : State) :
    Touch 0x19a2836000 s (cpRestart cause pc s) := by
  unfold cpRestart
  repeat' (first
    | with_reducible exact Touch.refl _ _ | with_reducible refine Touch.foldl _ _ (fun _ _ => ?_) ?_
    | ((with_reducible apply Touch.via (gateHeld_touch _ _)); decide)
    | ((with_reducible apply Touch.via (ringAgain_touch _ _ _)); decide)
    | ((with_reducible apply Touch.via (setJobAt_touch _ _ _)); decide)
    | ((with_reducible apply Touch.setRel); decide) | split)

theorem execCpWatchdogExpiry_touch (pc : W64) (s : State) :
    TouchR 0x19a2836000 s (execCpWatchdogExpiry pc s) := by
  unfold execCpWatchdogExpiry
  repeat' (first
    | with_reducible exact Touch.refl _ _ | with_reducible refine TouchR.next ?_
    | ((with_reducible apply Touch.via (cpRestart_touch _ _ _)); decide))

theorem execContainedRestartTrigger_touch (cause : Nat) (pc : W64) (s : State) :
    TouchR 0x19a2836000 s (execContainedRestartTrigger cause pc s) := by
  unfold execContainedRestartTrigger
  repeat' (first
    | with_reducible exact Touch.refl _ _ | with_reducible refine TouchR.next ?_
    | ((with_reducible apply Touch.via (cpRestart_touch _ _ _)); decide)
    | ((with_reducible apply Touch.via (logMod_touch _ _ _ _)); decide) | split)

theorem ringWake_touch (p r : Nat) (s : State) :
    Touch 0x6000 s (ringWake p r s) := by
  unfold ringWake
  repeat' (first
    | with_reducible exact Touch.refl _ _ | ((with_reducible apply Touch.via (setRing_touch _ _ _ _)); decide)
    | extract_lets | split)

theorem spareLocksEnd_touch (s : State) :
    Touch 0x1082000000 s (spareLocksEnd s) := by
  unfold spareLocksEnd
  repeat' (first
    | with_reducible exact Touch.refl _ _ | (with_reducible assumption)
    | with_reducible refine Touch.foldl _ _ (fun _ _ => ?_) ?_
    | with_reducible refine Touch.foldl_pair _ _ _ (fun _ _ => ?_) ?_
    | with_reducible refine Touch.foldl_fst _ _ _ (fun _ _ => ?_) ?_
    | with_reducible refine Touch.foldl_trip _ _ _ (fun _ _ => ?_) ?_
    | with_reducible refine Touch.foldl_mid _ _ _ (fun _ _ => ?_) ?_
    | ((with_reducible apply Touch.via (lockDrop_touch _ _)); decide) | extract_lets | split
    | with_reducible refine Touch.of_snd (by assumption) ?_ | with_reducible refine Touch.of_fst (by assumption) ?_
    | with_reducible refine Touch.of_snd₃ (by assumption) ?_ | dsimp only | dsimp -zeta +zetaDelta only)

theorem execCpRestartDone_touch (s : State) :
    TouchR 0x13d2836100 s (execCpRestartDone s) := by
  unfold execCpRestartDone
  repeat' (first
    | with_reducible exact Touch.refl _ _ | with_reducible refine Touch.foldl _ _ (fun _ _ => ?_) ?_
    | with_reducible refine TouchR.next ?_ | ((with_reducible apply Touch.via (logMod_touch _ _ _ _)); decide)
    | ((with_reducible apply Touch.via (ringWake_touch _ _ _)); decide)
    | ((with_reducible apply Touch.via (shutAdvance_touch _)); decide)
    | ((with_reducible apply Touch.via (spareLocksEnd_touch _)); decide)
    | ((with_reducible apply Touch.via (updDiscard_touch _)); decide)
    | ((with_reducible apply Touch.setRel); decide) | split | dsimp -zeta +zetaDelta only)

theorem execCpRestartTimeout_touch (s : State) :
    TouchR 0x280000000 s (execCpRestartTimeout s) := by
  unfold execCpRestartTimeout
  repeat' (first
    | with_reducible exact Touch.refl _ _ | with_reducible refine TouchR.next ?_
    | ((with_reducible apply Touch.via (journalAdd_touch _ _)); decide)
    | ((with_reducible refine Touch.setFlash_le (by decide) ?_ ?_ ?_ ?_); exact (fun h => h); exact Nat.le_refl _; exact Nat.le_succ _)
    | ((with_reducible apply Touch.setRel); decide) | split)

theorem laserDead_touch (n : Nat) (s : State) :
    Touch 0x904030000 s (laserDead n s) := by
  unfold laserDead
  repeat' (first
    | with_reducible exact Touch.refl _ _ | (with_reducible assumption)
    | with_reducible refine Touch.foldl _ _ (fun _ _ => ?_) ?_
    | with_reducible refine Touch.foldl_pair _ _ _ (fun _ _ => ?_) ?_
    | with_reducible refine Touch.foldl_fst _ _ _ (fun _ _ => ?_) ?_
    | with_reducible refine Touch.foldl_trip _ _ _ (fun _ _ => ?_) ?_
    | with_reducible refine Touch.foldl_mid _ _ _ (fun _ _ => ?_) ?_
    | ((with_reducible apply Touch.via (fresh_touch _)); decide)
    | ((with_reducible apply Touch.via (laserReplace_touch _ _ _ _ _)); decide)
    | ((with_reducible apply Touch.via (setLaser_touch _ _ _)); decide)
    | ((with_reducible apply TouchO.get (by assumption) (startSpare_touch _ _ _)); decide)
    | with_reducible refine Touch.getD (startSpare_touch _ _ _) (by decide) ?_ ?_
    | with_reducible exact TouchO.getD ((startSpare_touch _ _ _).mono (by decide)) | extract_lets | split
    | with_reducible refine Touch.of_snd (by assumption) ?_ | with_reducible refine Touch.of_fst (by assumption) ?_
    | with_reducible refine Touch.of_snd₃ (by assumption) ?_ | dsimp only | dsimp -zeta +zetaDelta only)

theorem parityHit_touch (off : Nat) (s : State) :
    Touch 0x1bbfcb6800 s (parityHit off s) := by
  unfold parityHit
  repeat' (first
    | with_reducible exact Touch.refl _ _ | (with_reducible assumption)
    | with_reducible refine Touch.foldl _ _ (fun _ _ => ?_) ?_
    | with_reducible refine Touch.foldl_pair _ _ _ (fun _ _ => ?_) ?_
    | with_reducible refine Touch.foldl_fst _ _ _ (fun _ _ => ?_) ?_
    | with_reducible refine Touch.foldl_trip _ _ _ (fun _ _ => ?_) ?_
    | with_reducible refine Touch.foldl_mid _ _ _ (fun _ _ => ?_) ?_
    | ((with_reducible apply Touch.via (cpRestart_touch _ _ _)); decide)
    | ((with_reducible apply Touch.via (laserDead_touch _ _)); decide)
    | ((with_reducible apply Touch.via (logMod_touch _ _ _ _)); decide)
    | ((with_reducible apply Touch.via (parityFault_touch _ _ _)); decide) | extract_lets | split
    | with_reducible refine Touch.of_snd (by assumption) ?_ | with_reducible refine Touch.of_fst (by assumption) ?_
    | with_reducible refine Touch.of_snd₃ (by assumption) ?_ | dsimp only | dsimp -zeta +zetaDelta only)

theorem ringParity_touch (p o : Nat) (s : State) :
    Touch 0x100036000 s (ringParity p o s) := by
  unfold ringParity
  repeat' (first
    | with_reducible exact Touch.refl _ _ | (with_reducible assumption)
    | with_reducible refine Touch.foldl _ _ (fun _ _ => ?_) ?_
    | with_reducible refine Touch.foldl_pair _ _ _ (fun _ _ => ?_) ?_
    | with_reducible refine Touch.foldl_fst _ _ _ (fun _ _ => ?_) ?_
    | with_reducible refine Touch.foldl_trip _ _ _ (fun _ _ => ?_) ?_
    | with_reducible refine Touch.foldl_mid _ _ _ (fun _ _ => ?_) ?_
    | ((with_reducible apply Touch.via (logMod_touch _ _ _ _)); decide)
    | ((with_reducible apply Touch.via (ringFault_touch _ _ _ _)); decide) | extract_lets | split
    | with_reducible refine Touch.of_snd (by assumption) ?_ | with_reducible refine Touch.of_fst (by assumption) ?_
    | with_reducible refine Touch.of_snd₃ (by assumption) ?_ | dsimp only | dsimp -zeta +zetaDelta only)

theorem execConfigParitySweep_touch (off : Nat) (bad : Option Nat) (s : State) :
    TouchR 0x1bbfcb6800 s (execConfigParitySweep off bad s) := by
  unfold execConfigParitySweep
  repeat' (first
    | with_reducible exact Touch.refl _ _ | with_reducible refine TouchR.next ?_
    | ((with_reducible apply Touch.via (parityHit_touch _ _)); decide)
    | ((with_reducible apply Touch.via (ringParity_touch _ _ _)); decide) | split)

theorem bar0Read_touch (who off : Nat) (bad : Bool) (s : State) :
    Touch 0x1bbfcb6800 s (bar0Read who off bad s).2 := by
  unfold bar0Read
  repeat' (first
    | with_reducible exact Touch.refl _ _ | ((with_reducible apply Touch.via (barDenied_touch _ _ _)); decide)
    | ((with_reducible apply Touch.via (parityHit_touch _ _)); decide)
    | ((with_reducible apply Touch.via (regRead_touch _ _)); decide) | split)

theorem answer_touch (who bar off : Nat) (v : W32) (s : State) :
    Touch 0x1000000000 s (answer who bar off v s) := by
  unfold answer
  repeat' (first
    | with_reducible exact Touch.refl _ _ | (with_reducible assumption)
    | with_reducible refine Touch.foldl _ _ (fun _ _ => ?_) ?_
    | with_reducible refine Touch.foldl_pair _ _ _ (fun _ _ => ?_) ?_
    | with_reducible refine Touch.foldl_fst _ _ _ (fun _ _ => ?_) ?_
    | with_reducible refine Touch.foldl_trip _ _ _ (fun _ _ => ?_) ?_
    | with_reducible refine Touch.foldl_mid _ _ _ (fun _ _ => ?_) ?_
    | ((with_reducible apply Touch.via (emit_touch _ _)); decide) | extract_lets | split
    | with_reducible refine Touch.of_snd (by assumption) ?_ | with_reducible refine Touch.of_fst (by assumption) ?_
    | with_reducible refine Touch.of_snd₃ (by assumption) ?_ | dsimp only | dsimp -zeta +zetaDelta only)

theorem execCrossingTimeout_touch (who off : Nat) (isRead : Bool) (s : State) :
    TouchR 0x1100030000 s (execCrossingTimeout who off isRead s) := by
  unfold execCrossingTimeout
  repeat' (first
    | with_reducible exact Touch.refl _ _ | with_reducible refine TouchR.next ?_
    | ((with_reducible apply Touch.via (answer_touch _ _ _ _ _)); decide)
    | ((with_reducible apply Touch.via (barDenied_touch _ _ _)); decide)
    | ((with_reducible apply Touch.via (logFold_touch _ _ _ _ _ _ _)); decide) | split)

theorem execRegisterRead_touch (who bar off n mask : Nat) (bad : List Nat) (s : State) :
    TouchR 0x1bbfcb6800 s (execRegisterRead who bar off n mask bad s) := by
  unfold execRegisterRead
  repeat' (first
    | with_reducible exact Touch.refl _ _ | with_reducible refine Touch.foldl _ _ (fun _ _ => ?_) ?_
    | with_reducible refine TouchR.next ?_ | ((with_reducible apply Touch.via (answer_touch _ _ _ _ _)); decide)
    | ((with_reducible apply Touch.via (bar0Read_touch _ _ _ _)); decide)
    | ((with_reducible apply Touch.via (ringParity_touch _ _ _)); decide) | split | dsimp -zeta +zetaDelta only)

theorem bar2Denied_touch (p off : Nat) (s : State) :
    Touch 0x100030000 s (bar2Denied p off s) := by
  unfold bar2Denied
  repeat' (first
    | with_reducible exact Touch.refl _ _ | ((with_reducible apply Touch.via (barDenied_touch _ _ _)); decide))

theorem bar2Zero_touch (p off len : Nat) (write : Bool) (s : State) :
    Touch 0x1000000000 s (bar2Zero p off len write s) := by
  unfold bar2Zero
  repeat' (first
    | with_reducible exact Touch.refl _ _ | ((with_reducible apply Touch.via (emit_touch _ _)); decide) | split)

theorem execBar2Access_touch (p off len : Nat) (data : Option (List Byte)) (errs : List (Nat × Nat)) (s : State) :
    TouchR 0x1bb3cb6800 s (execBar2Access p off len data errs s) := by
  unfold execBar2Access
  repeat' (first
    | with_reducible exact Touch.refl _ _ | with_reducible refine TouchR.next ?_
    | ((with_reducible apply Touch.via (applyErrs_touch _ _)); decide)
    | ((with_reducible apply Touch.via (bar2Denied_touch _ _ _)); decide)
    | ((with_reducible apply Touch.via (bar2Zero_touch _ _ _ _ _)); decide)
    | ((with_reducible apply Touch.via (emit_touch _ _)); decide)
    | ((with_reducible apply Touch.via (fresh_touch _)); decide)
    | ((with_reducible apply Touch.via (loadNotes_touch _ _ _ _)); decide)
    | ((with_reducible apply Touch.via (memRead_touch _ _ _ _)); decide)
    | ((with_reducible apply Touch.via (memWrite_touch _ _ _ _)); decide) | extract_lets | split)

theorem transferEnd_touch (p r : Nat) (e : InFlight) (data : List Byte) (pkg : PkgIn) (s : State) :
    TouchP (fun x => x.1) 0x1bb7fb6800 s (transferEnd p r e data pkg s) := by
  unfold transferEnd
  repeat' (first
    | with_reducible exact Touch.refl _ _ | with_reducible exact TouchP.none | with_reducible refine TouchP.some ?_
    | ((with_reducible apply Touch.via (addCapture_touch _ _ _)); decide)
    | ((with_reducible apply Touch.via (copyEnd_touch _ _ _ _ _ _)); decide)
    | ((with_reducible apply Touch.via (imageEnd_touch _ _ _ _)); decide)
    | ((with_reducible apply Touch.via (pushEnd_touch _ _ _ _)); decide)
    | ((with_reducible apply Touch.via (restoreEnd_touch _ _ _ _)); decide)
    | ((with_reducible apply Touch.via (stageEnd_touch _ _)); decide) | extract_lets | split
    | dsimp -zeta +zetaDelta only)

theorem execCommandComplete_touch (p r : Nat) (tag : W16) (nth : Nat) (data : List Byte) (errs : List (Nat × Nat)) (pkg : PkgIn) (s : State) :
    TouchR 0x1bf7fb6900 s (execCommandComplete p r tag nth data errs pkg s) := by
  unfold execCommandComplete
  repeat' (first
    | with_reducible exact Touch.refl _ _ | with_reducible refine TouchR.next ?_
    | ((with_reducible apply Touch.via (applyErrs_touch _ _)); decide)
    | ((with_reducible apply Touch.via (endCmd_touch _ _ _ _ _)); decide)
    | ((with_reducible apply Touch.via (shutAdvance_touch _)); decide)
    | ((with_reducible apply Touch.ofP1 (by assumption) (transferEnd_touch _ _ _ _ _ _)); decide)
    | ((with_reducible apply Touch.ofPx1 (by assumption) (transferEnd_touch _ _ _ _ _ _)); decide)
    | ((with_reducible apply Touch.via (transferStops_touch _ _ _ _)); decide) | split)

theorem fnLost_touch (p : Nat) (s : State) :
    Touch 0x19a2836000 s (fnLost p s) := by
  unfold fnLost
  repeat' (first
    | with_reducible exact Touch.refl _ _ | (with_reducible assumption)
    | with_reducible refine Touch.foldl _ _ (fun _ _ => ?_) ?_
    | with_reducible refine Touch.foldl_pair _ _ _ (fun _ _ => ?_) ?_
    | with_reducible refine Touch.foldl_fst _ _ _ (fun _ _ => ?_) ?_
    | with_reducible refine Touch.foldl_trip _ _ _ (fun _ _ => ?_) ?_
    | with_reducible refine Touch.foldl_mid _ _ _ (fun _ _ => ?_) ?_
    | ((with_reducible apply Touch.via (endCmd_touch _ _ _ _ _)); decide)
    | ((with_reducible apply Touch.via (fnReset_touch _ _)); decide)
    | ((with_reducible apply Touch.via (transferStops_touch _ _ _ _)); decide) | extract_lets | split
    | with_reducible refine Touch.of_snd (by assumption) ?_ | with_reducible refine Touch.of_fst (by assumption) ?_
    | with_reducible refine Touch.of_snd₃ (by assumption) ?_ | dsimp only | dsimp -zeta +zetaDelta only)

theorem linkGone_touch (p : Nat) (s : State) :
    Touch 0x19a2836000 s (linkGone p s) := by
  unfold linkGone
  repeat' (first
    | with_reducible exact Touch.refl _ _ | ((with_reducible apply Touch.via (fnLost_touch _ _)); decide)
    | ((with_reducible apply Touch.via (setFn_touch _ _ _)); decide) | split)

theorem execPerstAssert_touch (p : Nat) (s : State) :
    TouchR 0x19a2836000 s (execPerstAssert p s) := by
  unfold execPerstAssert
  repeat' (first
    | with_reducible exact Touch.refl _ _ | with_reducible refine TouchR.next ?_
    | ((with_reducible apply Touch.via (linkGone_touch _ _)); decide)
    | ((with_reducible apply Touch.via (setFn_touch _ _ _)); decide) | split)

theorem execLinkDown_touch (p : Nat) (s : State) :
    TouchR 0x19a2836000 s (execLinkDown p s) := by
  unfold execLinkDown
  repeat' (first
    | with_reducible exact Touch.refl _ _ | with_reducible refine TouchR.next ?_
    | ((with_reducible apply Touch.via (linkGone_touch _ _)); decide)
    | ((with_reducible apply Touch.via (setFn_touch _ _ _)); decide) | split)

theorem execFunctionLevelReset_touch (p : Nat) (s : State) :
    TouchR 0x19a2836000 s (execFunctionLevelReset p s) := by
  unfold execFunctionLevelReset
  repeat' (first
    | with_reducible exact Touch.refl _ _ | with_reducible refine TouchR.next ?_
    | ((with_reducible apply Touch.via (fnLost_touch _ _)); decide)
    | ((with_reducible apply Touch.via (setFn_touch _ _ _)); decide) | split)

theorem execHostReadFail_touch (p r : Nat) (tag : Option W16) (cause : Nat) (s : State) :
    TouchR 0x19a2836000 s (execHostReadFail p r tag cause s) := by
  unfold execHostReadFail
  repeat' (first
    | with_reducible exact Touch.refl _ _ | with_reducible refine TouchR.next ?_
    | ((with_reducible apply Touch.via (endCmd_touch _ _ _ _ _)); decide)
    | ((with_reducible apply Touch.via (putEntry_touch _ _ _ _ _)); decide)
    | ((with_reducible apply Touch.via (ringFault_touch _ _ _ _)); decide)
    | ((with_reducible apply Touch.via (transferStops_touch _ _ _ _)); decide) | extract_lets | split)

theorem instantActs_touch (s : State) (x : Instant) :
    Touch 0x60030000 s (instantActs s x) := by
  unfold instantActs
  repeat' (first
    | with_reducible exact Touch.refl _ _ | ((with_reducible apply Touch.via (addDeferred_touch _ _ _)); decide)
    | ((with_reducible apply Touch.via (setJobAt_touch _ _ _)); decide)
    | ((with_reducible apply Touch.via (setRealm_touch _ _ _)); decide)
    | ((with_reducible apply Touch.setFab); decide) | split)

theorem execInstantFires_touch (s : State) :
    TouchR 0x70030000 s (execInstantFires s) := by
  unfold execInstantFires
  repeat' (first
    | with_reducible exact Touch.refl _ _ | with_reducible refine Touch.foldl _ _ (fun _ _ => ?_) ?_
    | with_reducible refine TouchR.next ?_ | ((with_reducible apply Touch.via (instantActs_touch _ _)); decide)
    | ((with_reducible apply Touch.via (setRtb_touch _ _)); decide) | split)

end Sys2Proof.Machine
end

