-- ==== Sys2Proof/WellFormed.lean ====
section
/-! DEFINITION. Which commands are well formed. -/

namespace Sys2Proof

open Sys2Proof.Machine

/-- A command whose operands lie in the ranges the spec gives the objects they name. -/
def Instr.wf : Instr → Bool
  | .pwrEnRise vin => decide (vin < 100000)
  | .pwrEnFall => true
  | .pwrEnHoldExpiry => true
  | .inputLockout vin => decide (vin < 100000)
  | .inputRelease vin => decide (vin < 100000)
  | .wakeNAssert => true
  | .perstAssert p => decide (p < 2)
  | .perstDeassert p => decide (p < 2)
  | .linkTrainingDone p => decide (p < 2)
  | .linkDown p => decide (p < 2)
  | .functionLevelReset p => decide (p < 2)
  | .d3hotEntry p => decide (p < 2)
  | .stewardFailover => true
  | .thermTripNLow => true
  | .thermTripNHigh => true
  | .junctionTrip _ => true
  | .tripRelease _ => true
  | .droopDetect d q => decide (d < 8 ∧ q < 4)
  | .droopEnd d q => decide (d < 8 ∧ q < 4)
  | .thermalPointReached d q _ => decide (d < 8 ∧ q < 4)
  | .throttleStep d _ => decide (d < 8)
  | .throttleReleaseTimer d _ => decide (d < 8)
  | .powerSample _ _ => true
  | .powerCapLoopStep => true
  | .powerCapUnmetTimer => true
  | .currentLimitRailOff => true
  | .coolantLossTimer _ _ _ _ => true
  | .coolantClearTimer _ _ _ _ => true
  | .coolantFlowTrip _ _ => true
  | .springCoolantResume _ _ _ _ => true
  | .lpxTempRead n _ => decide (n < 40)
  | .domainRailFault n cause => decide (n < 80 ∧ 1 ≤ cause ∧ cause ≤ 3)
  | .domainTransitionDone n => decide (n < 80)
  | .lpxInitDone d i => decide (d < 8) && i.failed.all (fun q => decide (q < 80)) && i.margins.all (fun q => decide (q.1 < 80))
  | .springStepDone k _ => decide (1 ≤ k ∧ k ≤ 11)
  | .attestKeyCheckDone _ => true
  | .springStepTimeout k => decide (1 ≤ k ∧ k ≤ 10)
  | .blkCtlWrite who off _ => decide (who < 3 ∧ off < 0x4000000 ∧ off % 4 = 0)
  | .blockDisableDone off => (ringNamed off).isSome || (frameAt off).any (fun f => f.base == off)
  | .blockEnableDone off => (ringNamed off).isSome || (frameAt off).any (fun f => f.base == off)
  | .configParitySweep _ _ => true
  | .cfgParityRecovery off => (frameAt off).any (fun f => f.base == off)
  | .registerWrite who bar off _ _ => decide (who < 3 ∧ off < 0x4000000 ∧ off % 4 = 0 ∧ (bar = 0 ∨ bar = 4))
  | .rwbWrite who off _ => decide (who < 3 ∧ off < 0x4000000 ∧ off % 4 = 0)
  | .glbUpdate who _ => decide (who < 3)
  | .crossingTimeout who off _ => decide (who < 3 ∧ off < 0x4000000 ∧ off % 4 = 0)
  | .bar2Access p off len data _ => decide (p < 2 ∧ 1 ≤ (data.map (·.length)).getD len ∧ off % 0x200000 + (data.map (·.length)).getD len ≤ 0x200000 ∧ off < 0x1000000000)
  | .ringCtlWrite p r _ => decide (p < 2 ∧ r < 4)
  | .ringDoorbell p r _ => decide (p < 2 ∧ r < 4)
  | .ringFetchResume p r _ => decide (p < 2 ∧ r < 4)
  | .hostReadFail p r _ cause => decide (p < 2 ∧ r < 4 ∧ 1 ≤ cause ∧ cause ≤ 4)
  | .commandComplete p r _ _ _ _ _ => decide (p < 2 ∧ r < 4)
  | .undefinedOpcodeCommand c => decide (c.port < 2 ∧ c.ring < 4)
  | .deviceInfo c => decide (c.port < 2 ∧ c.ring < 4)
  | .profileSelect c => decide (c.port < 2 ∧ c.ring < 4)
  | .stewardTransfer c => decide (c.port < 2 ∧ c.ring < 4)
  | .rtLoad c => decide (c.port < 2 ∧ c.ring < 4)
  | .powerCapSet c => decide (c.port < 2 ∧ c.ring < 4)
  | .domainControl c => decide (c.port < 2 ∧ c.ring < 4)
  | .shutdown c => decide (c.port < 2 ∧ c.ring < 4)
  | .departurePhaseEnd => true
  | .realmOpen c => decide (c.port < 2 ∧ c.ring < 4)
  | .realmClose c => decide (c.port < 2 ∧ c.ring < 4)
  | .winterStepDone realm k => decide ((realm = 1 ∨ realm = 2) ∧ 1 ≤ k ∧ k ≤ 6)
  | .jobAdmit c => decide (c.port < 2 ∧ c.ring < 4)
  | .imageLoad c _ => decide (c.port < 2 ∧ c.ring < 4)
  | .jobStart c => decide (c.port < 2 ∧ c.ring < 4)
  | .jobPair c => decide (c.port < 2 ∧ c.ring < 4)
  | .stepControl c => decide (c.port < 2 ∧ c.ring < 4)
  | .jobAbort c => decide (c.port < 2 ∧ c.ring < 4)
  | .jobStatus c => decide (c.port < 2 ∧ c.ring < 4)
  | .regionMap c => decide (c.port < 2 ∧ c.ring < 4)
  | .dmaCopy c _ _ => decide (c.port < 2 ∧ c.ring < 4)
  | .checkpointPush c _ _ => decide (c.port < 2 ∧ c.ring < 4)
  | .checkpointRestore c _ _ => decide (c.port < 2 ∧ c.ring < 4)
  | .buddyReserve c => decide (c.port < 2 ∧ c.ring < 4)
  | .scrubStatus c => decide (c.port < 2 ∧ c.ring < 4)
  | .planLoad _ => true
  | .portDivide _ => true
  | .lightPlanLoad _ => true
  | .portStatus _ => true
  | .partitionSet _ => true
  | .discoveryReport _ => true
  | .attestReport c => decide (c.port < 2 ∧ c.ring < 4)
  | .keyDeliver c => decide (c.port < 2 ∧ c.ring < 4)
  | .keyRotate c => decide (c.port < 2 ∧ c.ring < 4)
  | .certChainGet c => decide (c.port < 2 ∧ c.ring < 4)
  | .fwVerifyStage c _ _ => decide (c.port < 2 ∧ c.ring < 4)
  | .maintRequest c => decide (c.port < 2 ∧ c.ring < 4)
  | .maintRelease c => decide (c.port < 2 ∧ c.ring < 4)
  | .autumnPass c => decide (c.port < 2 ∧ c.ring < 4)
  | .spareSwap c _ _ => decide (c.port < 2 ∧ c.ring < 4)
  | .fwActivate c => decide (c.port < 2 ∧ c.ring < 4)
  | .telemetryRead c => decide (c.port < 2 ∧ c.ring < 4)
  | .watchRead c => decide (c.port < 2 ∧ c.ring < 4)
  | .barrierLogRead c => decide (c.port < 2 ∧ c.ring < 4)
  | .eventLogRead c => decide (c.port < 2 ∧ c.ring < 4)
  | .marginPlanRead c => decide (c.port < 2 ∧ c.ring < 4)
  | .profileStart c => decide (c.port < 2 ∧ c.ring < 4)
  | .profileStop c => decide (c.port < 2 ∧ c.ring < 4)
  | .profileSample p ring _ => decide (p < 2 ∧ ring < 4)
  | .debugEnter c => decide (c.port < 2 ∧ c.ring < 4)
  | .debugExit c => decide (c.port < 2 ∧ c.ring < 4)
  | .cpWatchdogExpiry _ => true
  | .containedRestartTrigger cause _ => decide (cause ≤ 5 ∧ cause ≠ 1)
  | .cpRestartDone => true
  | .cpRestartTimeout => true
  | .tileNop d c k _ => decide (d < 8 ∧ c < 48 ∧ k < 25)
  | .tileEnd d c k _ => decide (d < 8 ∧ c < 48 ∧ k < 25)
  | .seta d c k _ => decide (d < 8 ∧ c < 48 ∧ k < 25)
  | .adda d c k _ => decide (d < 8 ∧ c < 48 ∧ k < 25)
  | .loop d c k _ => decide (d < 8 ∧ c < 48 ∧ k < 25)
  | .endl d c k _ => decide (d < 8 ∧ c < 48 ∧ k < 25)
  | .scl d c k _ _ => decide (d < 8 ∧ c < 48 ∧ k < 25)
  | .wld d c k _ => decide (d < 8 ∧ c < 48 ∧ k < 25)
  | .mma d c k _ => decide (d < 8 ∧ c < 48 ∧ k < 25)
  | .drn d c k _ => decide (d < 8 ∧ c < 48 ∧ k < 25)
  | .sync d c k _ => decide (d < 8 ∧ c < 48 ∧ k < 25)
  | .wldStart d c k => decide (d < 8 ∧ c < 48 ∧ k < 25)
  | .wldDone d c k _ => decide (d < 8 ∧ c < 48 ∧ k < 25)
  | .mmaStart d c k _ => decide (d < 8 ∧ c < 48 ∧ k < 25)
  | .mmaDone d c k => decide (d < 8 ∧ c < 48 ∧ k < 25)
  | .drnStart d c k => decide (d < 8 ∧ c < 48 ∧ k < 25)
  | .drnDone d c k _ => decide (d < 8 ∧ c < 48 ∧ k < 25)
  | .tileTaskDone d c k => decide (d < 8 ∧ c < 48 ∧ k < 25)
  | .coreSlotSwitch d c k => decide (d < 8 ∧ c < 48 ∧ k < 25)
  | .idleGatingRestore d q => decide (d < 8 ∧ q < 4)
  | .cccNop d c slot _ => decide (d < 8 ∧ c < 48 ∧ slot < 2)
  | .cccEnd d c slot _ => decide (d < 8 ∧ c < 48 ∧ slot < 2)
  | .cccAlu d c slot _ => decide (d < 8 ∧ c < 48 ∧ slot < 2)
  | .cccAddi d c slot _ => decide (d < 8 ∧ c < 48 ∧ slot < 2)
  | .cccLui d c slot _ => decide (d < 8 ∧ c < 48 ∧ slot < 2)
  | .cccOri d c slot _ => decide (d < 8 ∧ c < 48 ∧ slot < 2)
  | .cccLd d c slot _ _ => decide (d < 8 ∧ c < 48 ∧ slot < 2)
  | .cccSt d c slot _ => decide (d < 8 ∧ c < 48 ∧ slot < 2)
  | .cccBeq d c slot _ => decide (d < 8 ∧ c < 48 ∧ slot < 2)
  | .cccBne d c slot _ => decide (d < 8 ∧ c < 48 ∧ slot < 2)
  | .cccBlt d c slot _ => decide (d < 8 ∧ c < 48 ∧ slot < 2)
  | .cccBltu d c slot _ => decide (d < 8 ∧ c < 48 ∧ slot < 2)
  | .bflt d c slot _ => decide (d < 8 ∧ c < 48 ∧ slot < 2)
  | .jal d c slot _ => decide (d < 8 ∧ c < 48 ∧ slot < 2)
  | .jalr d c slot _ => decide (d < 8 ∧ c < 48 ∧ slot < 2)
  | .task d c slot _ => decide (d < 8 ∧ c < 48 ∧ slot < 2)
  | .vrun d c slot _ => decide (d < 8 ∧ c < 48 ∧ slot < 2)
  | .cccDma d c slot _ => decide (d < 8 ∧ c < 48 ∧ slot < 2)
  | .cccWait d c slot _ => decide (d < 8 ∧ c < 48 ∧ slot < 2)
  | .cccBusy d c slot _ => decide (d < 8 ∧ c < 48 ∧ slot < 2)
  | .cccRdrt d c slot _ => decide (d < 8 ∧ c < 48 ∧ slot < 2)
  | .cccStallEnd d c slot => decide (d < 8 ∧ c < 48 ∧ slot < 2)
  | .clusterTaskDone d c slot => decide (d < 8 ∧ c < 48 ∧ slot < 2)
  | .vnop d c slot _ => decide (d < 8 ∧ c < 48 ∧ slot < 2)
  | .vend d c slot _ => decide (d < 8 ∧ c < 48 ∧ slot < 2)
  | .vloop d c slot _ => decide (d < 8 ∧ c < 48 ∧ slot < 2)
  | .vendl d c slot _ => decide (d < 8 ∧ c < 48 ∧ slot < 2)
  | .vsetvl d c slot _ => decide (d < 8 ∧ c < 48 ∧ slot < 2)
  | .vadda d c slot _ => decide (d < 8 ∧ c < 48 ∧ slot < 2)
  | .vaddr d c slot _ => decide (d < 8 ∧ c < 48 ∧ slot < 2)
  | .vli d c slot _ => decide (d < 8 ∧ c < 48 ∧ slot < 2)
  | .vld d c slot _ _ => decide (d < 8 ∧ c < 48 ∧ slot < 2)
  | .vst d c slot _ => decide (d < 8 ∧ c < 48 ∧ slot < 2)
  | .vldx d c slot _ _ => decide (d < 8 ∧ c < 48 ∧ slot < 2)
  | .vstx d c slot _ => decide (d < 8 ∧ c < 48 ∧ slot < 2)
  | .vldb d c slot _ _ => decide (d < 8 ∧ c < 48 ∧ slot < 2)
  | .vari d c slot _ => decide (d < 8 ∧ c < 48 ∧ slot < 2)
  | .vfma d c slot _ => decide (d < 8 ∧ c < 48 ∧ slot < 2)
  | .vun d c slot _ => decide (d < 8 ∧ c < 48 ∧ slot < 2)
  | .vcmp d c slot _ => decide (d < 8 ∧ c < 48 ∧ slot < 2)
  | .vmsk d c slot _ => decide (d < 8 ∧ c < 48 ∧ slot < 2)
  | .vsel d c slot _ => decide (d < 8 ∧ c < 48 ∧ slot < 2)
  | .vcvt d c slot _ => decide (d < 8 ∧ c < 48 ∧ slot < 2)
  | .vred d c slot _ => decide (d < 8 ∧ c < 48 ∧ slot < 2)
  | .vsum d c slot _ => decide (d < 8 ∧ c < 48 ∧ slot < 2)
  | .vtid d c slot _ => decide (d < 8 ∧ c < 48 ∧ slot < 2)
  | .vqnt d c slot _ _ => decide (d < 8 ∧ c < 48 ∧ slot < 2)
  | .vdq d c slot _ _ => decide (d < 8 ∧ c < 48 ∧ slot < 2)
  | .vloss d c slot _ => decide (d < 8 ∧ c < 48 ∧ slot < 2)
  | .veProgramDone d c slot => decide (d < 8 ∧ c < 48 ∧ slot < 2)
  | .dmaTransferStart d c slot queue _ => decide (d < 8 ∧ c < 48 ∧ slot < 2 ∧ queue < 2)
  | .dmaTransferDone d c slot queue => decide (d < 8 ∧ c < 48 ∧ slot < 2 ∧ queue < 2)
  | .wckTrackingLost n q => decide (n < 40 ∧ q < 16)
  | .instanceDispatch slot tbl _ m => decide (slot < 2 ∧ tbl < 3 ∧ m < 1024)
  | .instanceSignalRelease slot tbl _ m => decide (slot < 2 ∧ tbl < 3 ∧ m < 1024)
  | .signalApply _ => true
  | .taskTimeout d c slot => decide (d < 8 ∧ c < 48 ∧ slot < 2)
  | .stepAbortReported slot => decide (slot < 2)
  | .abortQuietEnd slot => decide (slot < 2)
  | .stepStallLimit slot => decide (slot < 2)
  | .stepBegin slot => decide (slot < 2)
  | .equinoxTurn => true
  | .lateTurn d => decide (d < 8)
  | .loneTurn d => decide (d < 8)
  | .closingRoundStart slot => decide (slot < 2)
  | .closingRoundDone slot => decide (slot < 2)
  | .solsticeGatePass slot => decide (slot < 2)
  | .beginRecordProgrammed slot => decide (slot < 2)
  | .solsticePhaseDone slot => decide (slot < 2)
  | .endRecordProgrammed slot => decide (slot < 2)
  | .keySweepStart realm => decide (realm = 1 ∨ realm = 2)
  | .keySweepDone realm => decide (realm = 1 ∨ realm = 2)
  | .lpxScrubSchedule d => decide (d < 8)
  | .patrolDone d _ => decide (d < 8)
  | .remoteRequest chip slot realm wr off len data _ => decide (chip < 65536 ∧ slot < 2 ∧ realm < 3 ∧ off < 2 ^ 48 ∧ 0 < len ∧ len ≤ 4096) && (!wr || data.length == len)
  | .laserFailure n _ _ => decide (n < 10)
  | .spareLaserStarted n _ _ => decide (n < 10)
  | .lockLoopSample d _ => decide (d < 8)
  | .ringLockLoss d ix => decide (d < 8 ∧ ix < 224)
  | .holdLightReturn d ix _ => decide (d < 8 ∧ ix < 224)
  | .ringSweepDone d ix _ => decide (d < 8 ∧ ix < 224)
  | .forecastWord d => decide (d < 8)
  | .lseqNop d _ => decide (d < 8)
  | .halt d _ => decide (d < 8)
  | .lseqAlu d _ => decide (d < 8)
  | .lseqAddi d _ => decide (d < 8)
  | .lseqLui d _ => decide (d < 8)
  | .br d _ => decide (d < 8)
  | .lseqWait d _ => decide (d < 8)
  | .lseqWaitEnd d => decide (d < 8)
  | .rdmon d _ _ => decide (d < 8)
  | .rdhtr d _ => decide (d < 8)
  | .wrhtr d _ => decide (d < 8)
  | .setst d _ => decide (d < 8)
  | .rdst d _ => decide (d < 8)
  | .rdcal d _ => decide (d < 8)
  | .wrcal d _ => decide (d < 8)
  | .wrff d _ => decide (d < 8)
  | .rdlas d _ => decide (d < 8)
  | .wrbias d _ => decide (d < 8)
  | .rdtmp d _ _ => decide (d < 8)
  | .lseqRdrt d _ => decide (d < 8)
  | .post d _ => decide (d < 8)
  | .lightPlanSwitch => true
  | .matrixSettled => true
  | .dataFrame l _ => decide (l < 96)
  | .reductionFrame l _ => decide (l < 96)
  | .idleFrame l _ => decide (l < 96)
  | .nak l _ _ => decide (l < 96)
  | .lanesetRequest l _ _ cause => decide (l < 96 ∧ cause ≤ 5)
  | .lanesetCommit l _ _ _ => decide (l < 96)
  | .resweep l _ p line => decide (l < 96 ∧ p < 10 ∧ line < 12)
  | .train l _ _ _ => decide (l < 96)
  | .spare l _ n => decide (l < 96 ∧ n < 8)
  | .replayTimeout l => decide (l < 96)
  | .laneDropCondition l p cause _ => decide (l < 96 ∧ p < 10 ∧ 1 ≤ cause ∧ cause ≤ 5)
  | .lanesetRequestRepeat l => decide (l < 96)
  | .lanePrbsDone l p _ => decide (l < 96 ∧ p < 10)
  | .commonModeOutage l => decide (l < 96)
  | .commonModeHoldExpiry l => decide (l < 96)
  | .rtbSyncPulse _ => true
  | .slewAdjust _ => true
  | .rtbClkLoss => true
  | .rtbClkRelock => true
  | .rtbSyncLossTimeout => true
  | .timestampSend port _ => decide (port < 32)
  | .timestampFrame port _ part _ _ _ _ flags dist => decide (port < 32 ∧ part < 4096 ∧ flags < 16 ∧ dist < 256)
  | .instantFires => true
  | .windowEndReached d slot op m => decide (d < 8 ∧ slot < 2 ∧ op < 256 ∧ m < 1024)
  | .portLightDetected p => decide (p < 32)
  | .portTrainingDone p _ _ _ => decide (p < 32)
  | .identitySend p => decide (p < 32)
  | .identityFrame p _ => decide (p < 32)
  | .quarantineDarkTimer p => decide (p < 32)
  | .discoveryTimeout => true
  | .write l => decide (l ≤ 96)
  | .writeAck l => decide (l ≤ 96)
  | .read l _ => decide (l ≤ 96)
  | .readData l _ => decide (l ≤ 96)
  | .signal l => decide (l ≤ 96)
  | .reduce l _ => decide (l ≤ 96)
  | .nack l => decide (l ≤ 96)
  | .barrier l => decide (l ≤ 96)
  | .count l => decide (l ≤ 96)
  | .packetForward l => decide (l ≤ 96)
  | .remoteTransactionTimeout _ => true
  | .colRs d slot op m _ => decide (d < 8 ∧ slot < 2 ∧ op < 256 ∧ m < 1024)
  | .colAg d slot op m _ => decide (d < 8 ∧ slot < 2 ∧ op < 256 ∧ m < 1024)
  | .colA2a d slot op m _ => decide (d < 8 ∧ slot < 2 ∧ op < 256 ∧ m < 1024)
  | .colSend d slot op m _ => decide (d < 8 ∧ slot < 2 ∧ op < 256 ∧ m < 1024)
  | .colRing d slot op m _ => decide (d < 8 ∧ slot < 2 ∧ op < 256 ∧ m < 1024)
  | .colBarrier d slot op m => decide (d < 8 ∧ slot < 2 ∧ op < 256 ∧ m < 1024)
  | .colBuddy d slot op m _ => decide (d < 8 ∧ slot < 2 ∧ op < 256 ∧ m < 1024)
  | .colOpDone d slot op m _ => decide (d < 8 ∧ slot < 2 ∧ op < 256 ∧ m < 1024)
  | .sentinelCheckDone d c k _ => decide (d < 8 ∧ c < 48 ∧ k < 25)
  | .strikeExpiry => true
  | .coreTakeover d c k => decide (d < 8 ∧ c < 48 ∧ k < 25)
  | .autumnSchedule => true
  | .autumnSlice order _ _ => decide (1 ≤ order ∧ order ≤ 8)
  | .autumnSliceDone _ => true
  | .clockReplanStep => true
  | .maintLockExpiry k => decide (k < 16)
  | .maintQueuedGrant => true
  | .maintActivityEnd k => decide (k < 16)
  | .getVersion b => decide (b < 3)
  | .getCapabilities b => decide (b < 3)
  | .negotiateAlgorithms b _ _ => decide (b < 3)
  | .getDigests b => decide (b < 3)
  | .getCertificate b _ _ _ => decide (b < 3)
  | .challenge b _ _ nonce _ => decide (b < 3 ∧ nonce.length = 32)
  | .getMeasurements b _ sign nonce _ => decide (b < 3) && (!sign || nonce.length == 32)
  | .respondIfReady b _ _ _ => decide (b < 3)
  | .spdmUnsupportedRequest b _ => decide (b < 3)
  | .setEndpointId b _ => decide (b < 3)
  | .getEndpointId b => decide (b < 3)
  | .getEndpointUuid b => decide (b < 3)
  | .getMctpVersionSupport b _ => decide (b < 3)
  | .getMessageTypeSupport b => decide (b < 3)
  | .getVendorDefinedMessageSupport b => decide (b < 3)
  | .setTid b _ => decide (b < 3)
  | .getTid b => decide (b < 3)
  | .getPldmVersion b _ => decide (b < 3)
  | .getPldmTypes b => decide (b < 3)
  | .getPldmCommands b _ => decide (b < 3)
  | .getPdrRepositoryInfo b => decide (b < 3)
  | .getPdr b _ => decide (b < 3)
  | .getSensorReading b _ => decide (b < 3)
  | .getStateSensorReadings b _ => decide (b < 3)
  | .setEventReceiver b _ => decide (b < 3)
  | .eventMessageSupported b => decide (b < 3)
  | .eventMessageBufferSize b _ => decide (b < 3)
  | .pollForPlatformEventMessage b _ => decide (b < 3)
  | .getFruRecordTableMetadata b => decide (b < 3)
  | .getFruRecordTable b => decide (b < 3)
  | .queryDeviceIdentifiers b => decide (b < 3)
  | .getFirmwareParameters b => decide (b < 3)
  | .requestUpdate b _ => decide (b < 3)
  | .passComponentTable b _ => decide (b < 3)
  | .updateComponent b _ _ => decide (b < 3)
  | .requestFirmwareData _ => true
  | .transferComplete => true
  | .verifyComplete _ => true
  | .applyComplete => true
  | .activateFirmware b => decide (b < 3)
  | .getStatus b => decide (b < 3)
  | .cancelUpdateComponent b => decide (b < 3)
  | .cancelUpdate b => decide (b < 3)
  | .pldmUnsupportedCommand b _ _ => decide (b < 3)
  | .eventRead b _ => decide (b < 3)
  | .journalRead b _ => decide (b < 3)
  | .telemetrySample _ => true
  | .powerWindowDelivery => true
  | .eventLogTransfer => true
  | .registerRead who bar off n mask _ => decide (who < 3 ∧ (bar = 0 ∨ bar = 4) ∧ off % 4 = 0 ∧ 1 ≤ n ∧ mask < 16 ∧ (n = 1 ∨ mask = 15))
  | .badPecPacket => true

end Sys2Proof
end

