-- ==== Sys2Proof/Tests/Slice0.lean ====
section
/-! SUPPORT. Tests: ill-formed commands are refused, single steps on small states, and a witness for each statement. -/

namespace Sys2Proof.Tests

open Sys2Proof Sys2Proof.Machine

set_option Elab.async false

/-! ### Ill-formed commands, one for each check -/

theorem wellFormed_refuses_pwrEnRise_to_lpxInitDone :
    (Instr.wf (.pwrEnRise 100000) = false)
    ∧ (Instr.wf (.inputLockout 100000) = false)
    ∧ (Instr.wf (.inputRelease 100000) = false)
    ∧ (Instr.wf (.perstAssert 2) = false)
    ∧ (Instr.wf (.perstDeassert 2) = false)
    ∧ (Instr.wf (.linkTrainingDone 2) = false)
    ∧ (Instr.wf (.linkDown 2) = false)
    ∧ (Instr.wf (.functionLevelReset 2) = false)
    ∧ (Instr.wf (.d3hotEntry 2) = false)
    ∧ (Instr.wf (.droopDetect 8 0) = false)
    ∧ (Instr.wf (.droopDetect 0 4) = false)
    ∧ (Instr.wf (.droopEnd 8 0) = false)
    ∧ (Instr.wf (.droopEnd 0 4) = false)
    ∧ (∀ x, Instr.wf (.thermalPointReached 8 0 x) = false)
    ∧ (∀ x, Instr.wf (.thermalPointReached 0 4 x) = false)
    ∧ (∀ x, Instr.wf (.throttleStep 8 x) = false)
    ∧ (∀ x, Instr.wf (.throttleReleaseTimer 8 x) = false)
    ∧ (∀ x, Instr.wf (.lpxTempRead 40 x) = false)
    ∧ (Instr.wf (.domainRailFault 80 1) = false)
    ∧ (Instr.wf (.domainRailFault 0 (3 + 1)) = false)
    ∧ (Instr.wf (.domainRailFault 0 0) = false)
    ∧ (Instr.wf (.domainTransitionDone 80) = false)
    ∧ (∀ x, Instr.wf (.lpxInitDone 8 x) = false)
    ∧ (Instr.wf (.lpxInitDone 0 { failed := [80] }) = false) := by
  and_intros <;> intros <;> rfl

theorem wellFormed_refuses_lpxInitDone_to_bar2Access :
    (Instr.wf (.lpxInitDone 0 { margins := [(80, [])] }) = false)
    ∧ (∀ x, Instr.wf (.springStepDone (11 + 1) x) = false)
    ∧ (∀ x, Instr.wf (.springStepDone 0 x) = false)
    ∧ (Instr.wf (.springStepTimeout (10 + 1)) = false)
    ∧ (Instr.wf (.springStepTimeout 0) = false)
    ∧ (∀ x, Instr.wf (.blkCtlWrite 3 0 x) = false)
    ∧ (∀ x, Instr.wf (.blkCtlWrite 0 0x4000000 x) = false)
    ∧ (∀ x, Instr.wf (.blkCtlWrite 0 2 x) = false)
    ∧ (Instr.wf (.blockDisableDone 1) = false)
    ∧ (Instr.wf (.blockEnableDone 1) = false)
    ∧ (Instr.wf (.cfgParityRecovery 1) = false)
    ∧ (∀ x y, Instr.wf (.registerWrite 3 0 0 x y) = false)
    ∧ (∀ x y, Instr.wf (.registerWrite 0 0 0x4000000 x y) = false)
    ∧ (∀ x y, Instr.wf (.registerWrite 0 0 2 x y) = false)
    ∧ (∀ x y, Instr.wf (.registerWrite 0 1 0 x y) = false)
    ∧ (∀ x, Instr.wf (.rwbWrite 3 0 x) = false)
    ∧ (∀ x, Instr.wf (.rwbWrite 0 0x4000000 x) = false)
    ∧ (∀ x, Instr.wf (.rwbWrite 0 2 x) = false)
    ∧ (∀ x, Instr.wf (.glbUpdate 3 x) = false)
    ∧ (∀ x, Instr.wf (.crossingTimeout 3 0 x) = false)
    ∧ (∀ x, Instr.wf (.crossingTimeout 0 0x4000000 x) = false)
    ∧ (∀ x, Instr.wf (.crossingTimeout 0 2 x) = false)
    ∧ (∀ x, Instr.wf (.bar2Access 2 0 1 none x) = false)
    ∧ (∀ x, Instr.wf (.bar2Access 0 0x1000000000 1 none x) = false) := by
  and_intros <;> intros <;> rfl

theorem wellFormed_refuses_bar2Access_to_rtLoad :
    (∀ x, Instr.wf (.bar2Access 0 0 0 none x) = false)
    ∧ (∀ x, Instr.wf (.bar2Access 0 0x1FFFFF 2 none x) = false)
    ∧ (∀ x, Instr.wf (.ringCtlWrite 2 0 x) = false)
    ∧ (∀ x, Instr.wf (.ringCtlWrite 0 4 x) = false)
    ∧ (∀ x, Instr.wf (.ringDoorbell 2 0 x) = false)
    ∧ (∀ x, Instr.wf (.ringDoorbell 0 4 x) = false)
    ∧ (∀ x, Instr.wf (.ringFetchResume 2 0 x) = false)
    ∧ (∀ x, Instr.wf (.ringFetchResume 0 4 x) = false)
    ∧ (∀ x, Instr.wf (.hostReadFail 2 0 x 1) = false)
    ∧ (∀ x, Instr.wf (.hostReadFail 0 4 x 1) = false)
    ∧ (∀ x, Instr.wf (.hostReadFail 0 0 x (4 + 1)) = false)
    ∧ (∀ x, Instr.wf (.hostReadFail 0 0 x 0) = false)
    ∧ (∀ x y z u v, Instr.wf (.commandComplete 2 0 x y z u v) = false)
    ∧ (∀ x y z u v, Instr.wf (.commandComplete 0 4 x y z u v) = false)
    ∧ (∀ (c : Cmd), Instr.wf (.undefinedOpcodeCommand { c with port := 2, ring := 0 }) = false)
    ∧ (∀ (c : Cmd), Instr.wf (.undefinedOpcodeCommand { c with port := 0, ring := 4 }) = false)
    ∧ (∀ (c : Cmd), Instr.wf (.deviceInfo { c with port := 2, ring := 0 }) = false)
    ∧ (∀ (c : Cmd), Instr.wf (.deviceInfo { c with port := 0, ring := 4 }) = false)
    ∧ (∀ (c : Cmd), Instr.wf (.profileSelect { c with port := 2, ring := 0 }) = false)
    ∧ (∀ (c : Cmd), Instr.wf (.profileSelect { c with port := 0, ring := 4 }) = false)
    ∧ (∀ (c : Cmd), Instr.wf (.stewardTransfer { c with port := 2, ring := 0 }) = false)
    ∧ (∀ (c : Cmd), Instr.wf (.stewardTransfer { c with port := 0, ring := 4 }) = false)
    ∧ (∀ (c : Cmd), Instr.wf (.rtLoad { c with port := 2, ring := 0 }) = false)
    ∧ (∀ (c : Cmd), Instr.wf (.rtLoad { c with port := 0, ring := 4 }) = false) := by
  and_intros <;> intros <;> rfl

theorem wellFormed_refuses_powerCapSet_to_jobAbort :
    (∀ (c : Cmd), Instr.wf (.powerCapSet { c with port := 2, ring := 0 }) = false)
    ∧ (∀ (c : Cmd), Instr.wf (.powerCapSet { c with port := 0, ring := 4 }) = false)
    ∧ (∀ (c : Cmd), Instr.wf (.domainControl { c with port := 2, ring := 0 }) = false)
    ∧ (∀ (c : Cmd), Instr.wf (.domainControl { c with port := 0, ring := 4 }) = false)
    ∧ (∀ (c : Cmd), Instr.wf (.shutdown { c with port := 2, ring := 0 }) = false)
    ∧ (∀ (c : Cmd), Instr.wf (.shutdown { c with port := 0, ring := 4 }) = false)
    ∧ (∀ (c : Cmd), Instr.wf (.realmOpen { c with port := 2, ring := 0 }) = false)
    ∧ (∀ (c : Cmd), Instr.wf (.realmOpen { c with port := 0, ring := 4 }) = false)
    ∧ (∀ (c : Cmd), Instr.wf (.realmClose { c with port := 2, ring := 0 }) = false)
    ∧ (∀ (c : Cmd), Instr.wf (.realmClose { c with port := 0, ring := 4 }) = false)
    ∧ (Instr.wf (.winterStepDone 1 (6 + 1)) = false)
    ∧ (Instr.wf (.winterStepDone 1 0) = false)
    ∧ (Instr.wf (.winterStepDone 3 1) = false)
    ∧ (∀ (c : Cmd), Instr.wf (.jobAdmit { c with port := 2, ring := 0 }) = false)
    ∧ (∀ (c : Cmd), Instr.wf (.jobAdmit { c with port := 0, ring := 4 }) = false)
    ∧ (∀ (c : Cmd) x, Instr.wf (.imageLoad { c with port := 2, ring := 0 } x) = false)
    ∧ (∀ (c : Cmd) x, Instr.wf (.imageLoad { c with port := 0, ring := 4 } x) = false)
    ∧ (∀ (c : Cmd), Instr.wf (.jobStart { c with port := 2, ring := 0 }) = false)
    ∧ (∀ (c : Cmd), Instr.wf (.jobStart { c with port := 0, ring := 4 }) = false)
    ∧ (∀ (c : Cmd), Instr.wf (.jobPair { c with port := 2, ring := 0 }) = false)
    ∧ (∀ (c : Cmd), Instr.wf (.jobPair { c with port := 0, ring := 4 }) = false)
    ∧ (∀ (c : Cmd), Instr.wf (.stepControl { c with port := 2, ring := 0 }) = false)
    ∧ (∀ (c : Cmd), Instr.wf (.stepControl { c with port := 0, ring := 4 }) = false)
    ∧ (∀ (c : Cmd), Instr.wf (.jobAbort { c with port := 2, ring := 0 }) = false) := by
  and_intros <;> intros <;> rfl

theorem wellFormed_refuses_jobAbort_to_fwVerifyStage :
    (∀ (c : Cmd), Instr.wf (.jobAbort { c with port := 0, ring := 4 }) = false)
    ∧ (∀ (c : Cmd), Instr.wf (.jobStatus { c with port := 2, ring := 0 }) = false)
    ∧ (∀ (c : Cmd), Instr.wf (.jobStatus { c with port := 0, ring := 4 }) = false)
    ∧ (∀ (c : Cmd), Instr.wf (.regionMap { c with port := 2, ring := 0 }) = false)
    ∧ (∀ (c : Cmd), Instr.wf (.regionMap { c with port := 0, ring := 4 }) = false)
    ∧ (∀ (c : Cmd) x y, Instr.wf (.dmaCopy { c with port := 2, ring := 0 } x y) = false)
    ∧ (∀ (c : Cmd) x y, Instr.wf (.dmaCopy { c with port := 0, ring := 4 } x y) = false)
    ∧ (∀ (c : Cmd) x y, Instr.wf (.checkpointPush { c with port := 2, ring := 0 } x y) = false)
    ∧ (∀ (c : Cmd) x y, Instr.wf (.checkpointPush { c with port := 0, ring := 4 } x y) = false)
    ∧ (∀ (c : Cmd) x y, Instr.wf (.checkpointRestore { c with port := 2, ring := 0 } x y) = false)
    ∧ (∀ (c : Cmd) x y, Instr.wf (.checkpointRestore { c with port := 0, ring := 4 } x y) = false)
    ∧ (∀ (c : Cmd), Instr.wf (.buddyReserve { c with port := 2, ring := 0 }) = false)
    ∧ (∀ (c : Cmd), Instr.wf (.buddyReserve { c with port := 0, ring := 4 }) = false)
    ∧ (∀ (c : Cmd), Instr.wf (.scrubStatus { c with port := 2, ring := 0 }) = false)
    ∧ (∀ (c : Cmd), Instr.wf (.scrubStatus { c with port := 0, ring := 4 }) = false)
    ∧ (∀ (c : Cmd), Instr.wf (.attestReport { c with port := 2, ring := 0 }) = false)
    ∧ (∀ (c : Cmd), Instr.wf (.attestReport { c with port := 0, ring := 4 }) = false)
    ∧ (∀ (c : Cmd), Instr.wf (.keyDeliver { c with port := 2, ring := 0 }) = false)
    ∧ (∀ (c : Cmd), Instr.wf (.keyDeliver { c with port := 0, ring := 4 }) = false)
    ∧ (∀ (c : Cmd), Instr.wf (.keyRotate { c with port := 2, ring := 0 }) = false)
    ∧ (∀ (c : Cmd), Instr.wf (.keyRotate { c with port := 0, ring := 4 }) = false)
    ∧ (∀ (c : Cmd), Instr.wf (.certChainGet { c with port := 2, ring := 0 }) = false)
    ∧ (∀ (c : Cmd), Instr.wf (.certChainGet { c with port := 0, ring := 4 }) = false)
    ∧ (∀ (c : Cmd) x y, Instr.wf (.fwVerifyStage { c with port := 2, ring := 0 } x y) = false) := by
  and_intros <;> intros <;> rfl

theorem wellFormed_refuses_fwVerifyStage_to_profileStop :
    (∀ (c : Cmd) x y, Instr.wf (.fwVerifyStage { c with port := 0, ring := 4 } x y) = false)
    ∧ (∀ (c : Cmd), Instr.wf (.maintRequest { c with port := 2, ring := 0 }) = false)
    ∧ (∀ (c : Cmd), Instr.wf (.maintRequest { c with port := 0, ring := 4 }) = false)
    ∧ (∀ (c : Cmd), Instr.wf (.maintRelease { c with port := 2, ring := 0 }) = false)
    ∧ (∀ (c : Cmd), Instr.wf (.maintRelease { c with port := 0, ring := 4 }) = false)
    ∧ (∀ (c : Cmd), Instr.wf (.autumnPass { c with port := 2, ring := 0 }) = false)
    ∧ (∀ (c : Cmd), Instr.wf (.autumnPass { c with port := 0, ring := 4 }) = false)
    ∧ (∀ (c : Cmd) x y, Instr.wf (.spareSwap { c with port := 2, ring := 0 } x y) = false)
    ∧ (∀ (c : Cmd) x y, Instr.wf (.spareSwap { c with port := 0, ring := 4 } x y) = false)
    ∧ (∀ (c : Cmd), Instr.wf (.fwActivate { c with port := 2, ring := 0 }) = false)
    ∧ (∀ (c : Cmd), Instr.wf (.fwActivate { c with port := 0, ring := 4 }) = false)
    ∧ (∀ (c : Cmd), Instr.wf (.telemetryRead { c with port := 2, ring := 0 }) = false)
    ∧ (∀ (c : Cmd), Instr.wf (.telemetryRead { c with port := 0, ring := 4 }) = false)
    ∧ (∀ (c : Cmd), Instr.wf (.watchRead { c with port := 2, ring := 0 }) = false)
    ∧ (∀ (c : Cmd), Instr.wf (.watchRead { c with port := 0, ring := 4 }) = false)
    ∧ (∀ (c : Cmd), Instr.wf (.barrierLogRead { c with port := 2, ring := 0 }) = false)
    ∧ (∀ (c : Cmd), Instr.wf (.barrierLogRead { c with port := 0, ring := 4 }) = false)
    ∧ (∀ (c : Cmd), Instr.wf (.eventLogRead { c with port := 2, ring := 0 }) = false)
    ∧ (∀ (c : Cmd), Instr.wf (.eventLogRead { c with port := 0, ring := 4 }) = false)
    ∧ (∀ (c : Cmd), Instr.wf (.marginPlanRead { c with port := 2, ring := 0 }) = false)
    ∧ (∀ (c : Cmd), Instr.wf (.marginPlanRead { c with port := 0, ring := 4 }) = false)
    ∧ (∀ (c : Cmd), Instr.wf (.profileStart { c with port := 2, ring := 0 }) = false)
    ∧ (∀ (c : Cmd), Instr.wf (.profileStart { c with port := 0, ring := 4 }) = false)
    ∧ (∀ (c : Cmd), Instr.wf (.profileStop { c with port := 2, ring := 0 }) = false) := by
  and_intros <;> intros <;> rfl

theorem wellFormed_refuses_profileStop_to_loop :
    (∀ (c : Cmd), Instr.wf (.profileStop { c with port := 0, ring := 4 }) = false)
    ∧ (∀ x, Instr.wf (.profileSample 2 0 x) = false)
    ∧ (∀ x, Instr.wf (.profileSample 0 4 x) = false)
    ∧ (∀ (c : Cmd), Instr.wf (.debugEnter { c with port := 2, ring := 0 }) = false)
    ∧ (∀ (c : Cmd), Instr.wf (.debugEnter { c with port := 0, ring := 4 }) = false)
    ∧ (∀ (c : Cmd), Instr.wf (.debugExit { c with port := 2, ring := 0 }) = false)
    ∧ (∀ (c : Cmd), Instr.wf (.debugExit { c with port := 0, ring := 4 }) = false)
    ∧ (∀ x, Instr.wf (.containedRestartTrigger (5 + 1) x) = false)
    ∧ (∀ x, Instr.wf (.containedRestartTrigger 1 x) = false)
    ∧ (∀ x, Instr.wf (.tileNop 8 0 0 x) = false)
    ∧ (∀ x, Instr.wf (.tileNop 0 48 0 x) = false)
    ∧ (∀ x, Instr.wf (.tileNop 0 0 25 x) = false)
    ∧ (∀ x, Instr.wf (.tileEnd 8 0 0 x) = false)
    ∧ (∀ x, Instr.wf (.tileEnd 0 48 0 x) = false)
    ∧ (∀ x, Instr.wf (.tileEnd 0 0 25 x) = false)
    ∧ (∀ x, Instr.wf (.seta 8 0 0 x) = false)
    ∧ (∀ x, Instr.wf (.seta 0 48 0 x) = false)
    ∧ (∀ x, Instr.wf (.seta 0 0 25 x) = false)
    ∧ (∀ x, Instr.wf (.adda 8 0 0 x) = false)
    ∧ (∀ x, Instr.wf (.adda 0 48 0 x) = false)
    ∧ (∀ x, Instr.wf (.adda 0 0 25 x) = false)
    ∧ (∀ x, Instr.wf (.loop 8 0 0 x) = false)
    ∧ (∀ x, Instr.wf (.loop 0 48 0 x) = false)
    ∧ (∀ x, Instr.wf (.loop 0 0 25 x) = false) := by
  and_intros <;> intros <;> rfl

theorem wellFormed_refuses_endl_to_wldDone :
    (∀ x, Instr.wf (.endl 8 0 0 x) = false)
    ∧ (∀ x, Instr.wf (.endl 0 48 0 x) = false)
    ∧ (∀ x, Instr.wf (.endl 0 0 25 x) = false)
    ∧ (∀ x y, Instr.wf (.scl 8 0 0 x y) = false)
    ∧ (∀ x y, Instr.wf (.scl 0 48 0 x y) = false)
    ∧ (∀ x y, Instr.wf (.scl 0 0 25 x y) = false)
    ∧ (∀ x, Instr.wf (.wld 8 0 0 x) = false)
    ∧ (∀ x, Instr.wf (.wld 0 48 0 x) = false)
    ∧ (∀ x, Instr.wf (.wld 0 0 25 x) = false)
    ∧ (∀ x, Instr.wf (.mma 8 0 0 x) = false)
    ∧ (∀ x, Instr.wf (.mma 0 48 0 x) = false)
    ∧ (∀ x, Instr.wf (.mma 0 0 25 x) = false)
    ∧ (∀ x, Instr.wf (.drn 8 0 0 x) = false)
    ∧ (∀ x, Instr.wf (.drn 0 48 0 x) = false)
    ∧ (∀ x, Instr.wf (.drn 0 0 25 x) = false)
    ∧ (∀ x, Instr.wf (.sync 8 0 0 x) = false)
    ∧ (∀ x, Instr.wf (.sync 0 48 0 x) = false)
    ∧ (∀ x, Instr.wf (.sync 0 0 25 x) = false)
    ∧ (Instr.wf (.wldStart 8 0 0) = false)
    ∧ (Instr.wf (.wldStart 0 48 0) = false)
    ∧ (Instr.wf (.wldStart 0 0 25) = false)
    ∧ (∀ x, Instr.wf (.wldDone 8 0 0 x) = false)
    ∧ (∀ x, Instr.wf (.wldDone 0 48 0 x) = false)
    ∧ (∀ x, Instr.wf (.wldDone 0 0 25 x) = false) := by
  and_intros <;> intros <;> rfl

theorem wellFormed_refuses_mmaStart_to_cccEnd :
    (∀ x, Instr.wf (.mmaStart 8 0 0 x) = false)
    ∧ (∀ x, Instr.wf (.mmaStart 0 48 0 x) = false)
    ∧ (∀ x, Instr.wf (.mmaStart 0 0 25 x) = false)
    ∧ (Instr.wf (.mmaDone 8 0 0) = false)
    ∧ (Instr.wf (.mmaDone 0 48 0) = false)
    ∧ (Instr.wf (.mmaDone 0 0 25) = false)
    ∧ (Instr.wf (.drnStart 8 0 0) = false)
    ∧ (Instr.wf (.drnStart 0 48 0) = false)
    ∧ (Instr.wf (.drnStart 0 0 25) = false)
    ∧ (∀ x, Instr.wf (.drnDone 8 0 0 x) = false)
    ∧ (∀ x, Instr.wf (.drnDone 0 48 0 x) = false)
    ∧ (∀ x, Instr.wf (.drnDone 0 0 25 x) = false)
    ∧ (Instr.wf (.tileTaskDone 8 0 0) = false)
    ∧ (Instr.wf (.tileTaskDone 0 48 0) = false)
    ∧ (Instr.wf (.tileTaskDone 0 0 25) = false)
    ∧ (Instr.wf (.coreSlotSwitch 8 0 0) = false)
    ∧ (Instr.wf (.coreSlotSwitch 0 48 0) = false)
    ∧ (Instr.wf (.coreSlotSwitch 0 0 25) = false)
    ∧ (Instr.wf (.idleGatingRestore 8 0) = false)
    ∧ (Instr.wf (.idleGatingRestore 0 4) = false)
    ∧ (∀ x, Instr.wf (.cccNop 8 0 0 x) = false)
    ∧ (∀ x, Instr.wf (.cccNop 0 48 0 x) = false)
    ∧ (∀ x, Instr.wf (.cccNop 0 0 2 x) = false)
    ∧ (∀ x, Instr.wf (.cccEnd 8 0 0 x) = false) := by
  and_intros <;> intros <;> rfl

theorem wellFormed_refuses_cccEnd_to_cccBne :
    (∀ x, Instr.wf (.cccEnd 0 48 0 x) = false)
    ∧ (∀ x, Instr.wf (.cccEnd 0 0 2 x) = false)
    ∧ (∀ x, Instr.wf (.cccAlu 8 0 0 x) = false)
    ∧ (∀ x, Instr.wf (.cccAlu 0 48 0 x) = false)
    ∧ (∀ x, Instr.wf (.cccAlu 0 0 2 x) = false)
    ∧ (∀ x, Instr.wf (.cccAddi 8 0 0 x) = false)
    ∧ (∀ x, Instr.wf (.cccAddi 0 48 0 x) = false)
    ∧ (∀ x, Instr.wf (.cccAddi 0 0 2 x) = false)
    ∧ (∀ x, Instr.wf (.cccLui 8 0 0 x) = false)
    ∧ (∀ x, Instr.wf (.cccLui 0 48 0 x) = false)
    ∧ (∀ x, Instr.wf (.cccLui 0 0 2 x) = false)
    ∧ (∀ x, Instr.wf (.cccOri 8 0 0 x) = false)
    ∧ (∀ x, Instr.wf (.cccOri 0 48 0 x) = false)
    ∧ (∀ x, Instr.wf (.cccOri 0 0 2 x) = false)
    ∧ (∀ x y, Instr.wf (.cccLd 8 0 0 x y) = false)
    ∧ (∀ x y, Instr.wf (.cccLd 0 48 0 x y) = false)
    ∧ (∀ x y, Instr.wf (.cccLd 0 0 2 x y) = false)
    ∧ (∀ x, Instr.wf (.cccSt 8 0 0 x) = false)
    ∧ (∀ x, Instr.wf (.cccSt 0 48 0 x) = false)
    ∧ (∀ x, Instr.wf (.cccSt 0 0 2 x) = false)
    ∧ (∀ x, Instr.wf (.cccBeq 8 0 0 x) = false)
    ∧ (∀ x, Instr.wf (.cccBeq 0 48 0 x) = false)
    ∧ (∀ x, Instr.wf (.cccBeq 0 0 2 x) = false)
    ∧ (∀ x, Instr.wf (.cccBne 8 0 0 x) = false) := by
  and_intros <;> intros <;> rfl

theorem wellFormed_refuses_cccBne_to_cccDma :
    (∀ x, Instr.wf (.cccBne 0 48 0 x) = false)
    ∧ (∀ x, Instr.wf (.cccBne 0 0 2 x) = false)
    ∧ (∀ x, Instr.wf (.cccBlt 8 0 0 x) = false)
    ∧ (∀ x, Instr.wf (.cccBlt 0 48 0 x) = false)
    ∧ (∀ x, Instr.wf (.cccBlt 0 0 2 x) = false)
    ∧ (∀ x, Instr.wf (.cccBltu 8 0 0 x) = false)
    ∧ (∀ x, Instr.wf (.cccBltu 0 48 0 x) = false)
    ∧ (∀ x, Instr.wf (.cccBltu 0 0 2 x) = false)
    ∧ (∀ x, Instr.wf (.bflt 8 0 0 x) = false)
    ∧ (∀ x, Instr.wf (.bflt 0 48 0 x) = false)
    ∧ (∀ x, Instr.wf (.bflt 0 0 2 x) = false)
    ∧ (∀ x, Instr.wf (.jal 8 0 0 x) = false)
    ∧ (∀ x, Instr.wf (.jal 0 48 0 x) = false)
    ∧ (∀ x, Instr.wf (.jal 0 0 2 x) = false)
    ∧ (∀ x, Instr.wf (.jalr 8 0 0 x) = false)
    ∧ (∀ x, Instr.wf (.jalr 0 48 0 x) = false)
    ∧ (∀ x, Instr.wf (.jalr 0 0 2 x) = false)
    ∧ (∀ x, Instr.wf (.task 8 0 0 x) = false)
    ∧ (∀ x, Instr.wf (.task 0 48 0 x) = false)
    ∧ (∀ x, Instr.wf (.task 0 0 2 x) = false)
    ∧ (∀ x, Instr.wf (.vrun 8 0 0 x) = false)
    ∧ (∀ x, Instr.wf (.vrun 0 48 0 x) = false)
    ∧ (∀ x, Instr.wf (.vrun 0 0 2 x) = false)
    ∧ (∀ x, Instr.wf (.cccDma 8 0 0 x) = false) := by
  and_intros <;> intros <;> rfl

theorem wellFormed_refuses_cccDma_to_vloop :
    (∀ x, Instr.wf (.cccDma 0 48 0 x) = false)
    ∧ (∀ x, Instr.wf (.cccDma 0 0 2 x) = false)
    ∧ (∀ x, Instr.wf (.cccWait 8 0 0 x) = false)
    ∧ (∀ x, Instr.wf (.cccWait 0 48 0 x) = false)
    ∧ (∀ x, Instr.wf (.cccWait 0 0 2 x) = false)
    ∧ (∀ x, Instr.wf (.cccBusy 8 0 0 x) = false)
    ∧ (∀ x, Instr.wf (.cccBusy 0 48 0 x) = false)
    ∧ (∀ x, Instr.wf (.cccBusy 0 0 2 x) = false)
    ∧ (∀ x, Instr.wf (.cccRdrt 8 0 0 x) = false)
    ∧ (∀ x, Instr.wf (.cccRdrt 0 48 0 x) = false)
    ∧ (∀ x, Instr.wf (.cccRdrt 0 0 2 x) = false)
    ∧ (Instr.wf (.cccStallEnd 8 0 0) = false)
    ∧ (Instr.wf (.cccStallEnd 0 48 0) = false)
    ∧ (Instr.wf (.cccStallEnd 0 0 2) = false)
    ∧ (Instr.wf (.clusterTaskDone 8 0 0) = false)
    ∧ (Instr.wf (.clusterTaskDone 0 48 0) = false)
    ∧ (Instr.wf (.clusterTaskDone 0 0 2) = false)
    ∧ (∀ x, Instr.wf (.vnop 8 0 0 x) = false)
    ∧ (∀ x, Instr.wf (.vnop 0 48 0 x) = false)
    ∧ (∀ x, Instr.wf (.vnop 0 0 2 x) = false)
    ∧ (∀ x, Instr.wf (.vend 8 0 0 x) = false)
    ∧ (∀ x, Instr.wf (.vend 0 48 0 x) = false)
    ∧ (∀ x, Instr.wf (.vend 0 0 2 x) = false)
    ∧ (∀ x, Instr.wf (.vloop 8 0 0 x) = false) := by
  and_intros <;> intros <;> rfl

theorem wellFormed_refuses_vloop_to_vldx :
    (∀ x, Instr.wf (.vloop 0 48 0 x) = false)
    ∧ (∀ x, Instr.wf (.vloop 0 0 2 x) = false)
    ∧ (∀ x, Instr.wf (.vendl 8 0 0 x) = false)
    ∧ (∀ x, Instr.wf (.vendl 0 48 0 x) = false)
    ∧ (∀ x, Instr.wf (.vendl 0 0 2 x) = false)
    ∧ (∀ x, Instr.wf (.vsetvl 8 0 0 x) = false)
    ∧ (∀ x, Instr.wf (.vsetvl 0 48 0 x) = false)
    ∧ (∀ x, Instr.wf (.vsetvl 0 0 2 x) = false)
    ∧ (∀ x, Instr.wf (.vadda 8 0 0 x) = false)
    ∧ (∀ x, Instr.wf (.vadda 0 48 0 x) = false)
    ∧ (∀ x, Instr.wf (.vadda 0 0 2 x) = false)
    ∧ (∀ x, Instr.wf (.vaddr 8 0 0 x) = false)
    ∧ (∀ x, Instr.wf (.vaddr 0 48 0 x) = false)
    ∧ (∀ x, Instr.wf (.vaddr 0 0 2 x) = false)
    ∧ (∀ x, Instr.wf (.vli 8 0 0 x) = false)
    ∧ (∀ x, Instr.wf (.vli 0 48 0 x) = false)
    ∧ (∀ x, Instr.wf (.vli 0 0 2 x) = false)
    ∧ (∀ x y, Instr.wf (.vld 8 0 0 x y) = false)
    ∧ (∀ x y, Instr.wf (.vld 0 48 0 x y) = false)
    ∧ (∀ x y, Instr.wf (.vld 0 0 2 x y) = false)
    ∧ (∀ x, Instr.wf (.vst 8 0 0 x) = false)
    ∧ (∀ x, Instr.wf (.vst 0 48 0 x) = false)
    ∧ (∀ x, Instr.wf (.vst 0 0 2 x) = false)
    ∧ (∀ x y, Instr.wf (.vldx 8 0 0 x y) = false) := by
  and_intros <;> intros <;> rfl

theorem wellFormed_refuses_vldx_to_vsel :
    (∀ x y, Instr.wf (.vldx 0 48 0 x y) = false)
    ∧ (∀ x y, Instr.wf (.vldx 0 0 2 x y) = false)
    ∧ (∀ x, Instr.wf (.vstx 8 0 0 x) = false)
    ∧ (∀ x, Instr.wf (.vstx 0 48 0 x) = false)
    ∧ (∀ x, Instr.wf (.vstx 0 0 2 x) = false)
    ∧ (∀ x y, Instr.wf (.vldb 8 0 0 x y) = false)
    ∧ (∀ x y, Instr.wf (.vldb 0 48 0 x y) = false)
    ∧ (∀ x y, Instr.wf (.vldb 0 0 2 x y) = false)
    ∧ (∀ x, Instr.wf (.vari 8 0 0 x) = false)
    ∧ (∀ x, Instr.wf (.vari 0 48 0 x) = false)
    ∧ (∀ x, Instr.wf (.vari 0 0 2 x) = false)
    ∧ (∀ x, Instr.wf (.vfma 8 0 0 x) = false)
    ∧ (∀ x, Instr.wf (.vfma 0 48 0 x) = false)
    ∧ (∀ x, Instr.wf (.vfma 0 0 2 x) = false)
    ∧ (∀ x, Instr.wf (.vun 8 0 0 x) = false)
    ∧ (∀ x, Instr.wf (.vun 0 48 0 x) = false)
    ∧ (∀ x, Instr.wf (.vun 0 0 2 x) = false)
    ∧ (∀ x, Instr.wf (.vcmp 8 0 0 x) = false)
    ∧ (∀ x, Instr.wf (.vcmp 0 48 0 x) = false)
    ∧ (∀ x, Instr.wf (.vcmp 0 0 2 x) = false)
    ∧ (∀ x, Instr.wf (.vmsk 8 0 0 x) = false)
    ∧ (∀ x, Instr.wf (.vmsk 0 48 0 x) = false)
    ∧ (∀ x, Instr.wf (.vmsk 0 0 2 x) = false)
    ∧ (∀ x, Instr.wf (.vsel 8 0 0 x) = false) := by
  and_intros <;> intros <;> rfl

theorem wellFormed_refuses_vsel_to_veProgramDone :
    (∀ x, Instr.wf (.vsel 0 48 0 x) = false)
    ∧ (∀ x, Instr.wf (.vsel 0 0 2 x) = false)
    ∧ (∀ x, Instr.wf (.vcvt 8 0 0 x) = false)
    ∧ (∀ x, Instr.wf (.vcvt 0 48 0 x) = false)
    ∧ (∀ x, Instr.wf (.vcvt 0 0 2 x) = false)
    ∧ (∀ x, Instr.wf (.vred 8 0 0 x) = false)
    ∧ (∀ x, Instr.wf (.vred 0 48 0 x) = false)
    ∧ (∀ x, Instr.wf (.vred 0 0 2 x) = false)
    ∧ (∀ x, Instr.wf (.vsum 8 0 0 x) = false)
    ∧ (∀ x, Instr.wf (.vsum 0 48 0 x) = false)
    ∧ (∀ x, Instr.wf (.vsum 0 0 2 x) = false)
    ∧ (∀ x, Instr.wf (.vtid 8 0 0 x) = false)
    ∧ (∀ x, Instr.wf (.vtid 0 48 0 x) = false)
    ∧ (∀ x, Instr.wf (.vtid 0 0 2 x) = false)
    ∧ (∀ x y, Instr.wf (.vqnt 8 0 0 x y) = false)
    ∧ (∀ x y, Instr.wf (.vqnt 0 48 0 x y) = false)
    ∧ (∀ x y, Instr.wf (.vqnt 0 0 2 x y) = false)
    ∧ (∀ x y, Instr.wf (.vdq 8 0 0 x y) = false)
    ∧ (∀ x y, Instr.wf (.vdq 0 48 0 x y) = false)
    ∧ (∀ x y, Instr.wf (.vdq 0 0 2 x y) = false)
    ∧ (∀ x, Instr.wf (.vloss 8 0 0 x) = false)
    ∧ (∀ x, Instr.wf (.vloss 0 48 0 x) = false)
    ∧ (∀ x, Instr.wf (.vloss 0 0 2 x) = false)
    ∧ (Instr.wf (.veProgramDone 8 0 0) = false) := by
  and_intros <;> intros <;> rfl

theorem wellFormed_refuses_veProgramDone_to_stepStallLimit :
    (Instr.wf (.veProgramDone 0 48 0) = false)
    ∧ (Instr.wf (.veProgramDone 0 0 2) = false)
    ∧ (∀ x, Instr.wf (.dmaTransferStart 8 0 0 0 x) = false)
    ∧ (∀ x, Instr.wf (.dmaTransferStart 0 48 0 0 x) = false)
    ∧ (∀ x, Instr.wf (.dmaTransferStart 0 0 2 0 x) = false)
    ∧ (∀ x, Instr.wf (.dmaTransferStart 0 0 0 2 x) = false)
    ∧ (Instr.wf (.dmaTransferDone 8 0 0 0) = false)
    ∧ (Instr.wf (.dmaTransferDone 0 48 0 0) = false)
    ∧ (Instr.wf (.dmaTransferDone 0 0 2 0) = false)
    ∧ (Instr.wf (.dmaTransferDone 0 0 0 2) = false)
    ∧ (Instr.wf (.wckTrackingLost 40 0) = false)
    ∧ (Instr.wf (.wckTrackingLost 0 16) = false)
    ∧ (∀ x, Instr.wf (.instanceDispatch 2 0 x 0) = false)
    ∧ (∀ x, Instr.wf (.instanceDispatch 0 3 x 0) = false)
    ∧ (∀ x, Instr.wf (.instanceDispatch 0 0 x 1024) = false)
    ∧ (∀ x, Instr.wf (.instanceSignalRelease 2 0 x 0) = false)
    ∧ (∀ x, Instr.wf (.instanceSignalRelease 0 3 x 0) = false)
    ∧ (∀ x, Instr.wf (.instanceSignalRelease 0 0 x 1024) = false)
    ∧ (Instr.wf (.taskTimeout 8 0 0) = false)
    ∧ (Instr.wf (.taskTimeout 0 48 0) = false)
    ∧ (Instr.wf (.taskTimeout 0 0 2) = false)
    ∧ (Instr.wf (.stepAbortReported 2) = false)
    ∧ (Instr.wf (.abortQuietEnd 2) = false)
    ∧ (Instr.wf (.stepStallLimit 2) = false) := by
  and_intros <;> intros <;> rfl

theorem wellFormed_refuses_stepBegin_to_ringLockLoss :
    (Instr.wf (.stepBegin 2) = false)
    ∧ (Instr.wf (.lateTurn 8) = false)
    ∧ (Instr.wf (.loneTurn 8) = false)
    ∧ (Instr.wf (.closingRoundStart 2) = false)
    ∧ (Instr.wf (.closingRoundDone 2) = false)
    ∧ (Instr.wf (.solsticeGatePass 2) = false)
    ∧ (Instr.wf (.beginRecordProgrammed 2) = false)
    ∧ (Instr.wf (.solsticePhaseDone 2) = false)
    ∧ (Instr.wf (.endRecordProgrammed 2) = false)
    ∧ (Instr.wf (.keySweepStart 3) = false)
    ∧ (Instr.wf (.keySweepDone 3) = false)
    ∧ (Instr.wf (.lpxScrubSchedule 8) = false)
    ∧ (∀ x, Instr.wf (.patrolDone 8 x) = false)
    ∧ (∀ x y z, Instr.wf (.remoteRequest 65536 0 0 x 0 1 y z) = false)
    ∧ (∀ x y z, Instr.wf (.remoteRequest 0 2 0 x 0 1 y z) = false)
    ∧ (∀ x y z, Instr.wf (.remoteRequest 0 0 3 x 0 1 y z) = false)
    ∧ (∀ x y z, Instr.wf (.remoteRequest 0 0 0 x (2 ^ 48) 1 y z) = false)
    ∧ (∀ x y z, Instr.wf (.remoteRequest 0 0 0 x 0 (4096 + 1) y z) = false)
    ∧ (∀ x y z, Instr.wf (.remoteRequest 0 0 0 x 0 0 y z) = false)
    ∧ (∀ x y, Instr.wf (.laserFailure 10 x y) = false)
    ∧ (∀ x y, Instr.wf (.spareLaserStarted 10 x y) = false)
    ∧ (∀ x, Instr.wf (.lockLoopSample 8 x) = false)
    ∧ (Instr.wf (.ringLockLoss 8 0) = false)
    ∧ (Instr.wf (.ringLockLoss 0 224) = false) := by
  and_intros <;> intros <;> rfl

theorem wellFormed_refuses_holdLightReturn_to_rdtmp :
    (∀ x, Instr.wf (.holdLightReturn 8 0 x) = false)
    ∧ (∀ x, Instr.wf (.holdLightReturn 0 224 x) = false)
    ∧ (∀ x, Instr.wf (.ringSweepDone 8 0 x) = false)
    ∧ (∀ x, Instr.wf (.ringSweepDone 0 224 x) = false)
    ∧ (Instr.wf (.forecastWord 8) = false)
    ∧ (∀ x, Instr.wf (.lseqNop 8 x) = false)
    ∧ (∀ x, Instr.wf (.halt 8 x) = false)
    ∧ (∀ x, Instr.wf (.lseqAlu 8 x) = false)
    ∧ (∀ x, Instr.wf (.lseqAddi 8 x) = false)
    ∧ (∀ x, Instr.wf (.lseqLui 8 x) = false)
    ∧ (∀ x, Instr.wf (.br 8 x) = false)
    ∧ (∀ x, Instr.wf (.lseqWait 8 x) = false)
    ∧ (Instr.wf (.lseqWaitEnd 8) = false)
    ∧ (∀ x y, Instr.wf (.rdmon 8 x y) = false)
    ∧ (∀ x, Instr.wf (.rdhtr 8 x) = false)
    ∧ (∀ x, Instr.wf (.wrhtr 8 x) = false)
    ∧ (∀ x, Instr.wf (.setst 8 x) = false)
    ∧ (∀ x, Instr.wf (.rdst 8 x) = false)
    ∧ (∀ x, Instr.wf (.rdcal 8 x) = false)
    ∧ (∀ x, Instr.wf (.wrcal 8 x) = false)
    ∧ (∀ x, Instr.wf (.wrff 8 x) = false)
    ∧ (∀ x, Instr.wf (.rdlas 8 x) = false)
    ∧ (∀ x, Instr.wf (.wrbias 8 x) = false)
    ∧ (∀ x y, Instr.wf (.rdtmp 8 x y) = false) := by
  and_intros <;> intros <;> rfl

theorem wellFormed_refuses_lseqRdrt_to_commonModeOutage :
    (∀ x, Instr.wf (.lseqRdrt 8 x) = false)
    ∧ (∀ x, Instr.wf (.post 8 x) = false)
    ∧ (∀ x, Instr.wf (.dataFrame 96 x) = false)
    ∧ (∀ x, Instr.wf (.reductionFrame 96 x) = false)
    ∧ (∀ x, Instr.wf (.idleFrame 96 x) = false)
    ∧ (∀ x y, Instr.wf (.nak 96 x y) = false)
    ∧ (∀ x y, Instr.wf (.lanesetRequest 96 x y 0) = false)
    ∧ (∀ x y, Instr.wf (.lanesetRequest 0 x y (5 + 1)) = false)
    ∧ (∀ x y z, Instr.wf (.lanesetCommit 96 x y z) = false)
    ∧ (∀ x, Instr.wf (.resweep 96 x 0 0) = false)
    ∧ (∀ x, Instr.wf (.resweep 0 x 10 0) = false)
    ∧ (∀ x, Instr.wf (.resweep 0 x 0 12) = false)
    ∧ (∀ x y z, Instr.wf (.train 96 x y z) = false)
    ∧ (∀ x, Instr.wf (.spare 96 x 0) = false)
    ∧ (∀ x, Instr.wf (.spare 0 x 8) = false)
    ∧ (Instr.wf (.replayTimeout 96) = false)
    ∧ (∀ x, Instr.wf (.laneDropCondition 96 0 1 x) = false)
    ∧ (∀ x, Instr.wf (.laneDropCondition 0 10 1 x) = false)
    ∧ (∀ x, Instr.wf (.laneDropCondition 0 0 (5 + 1) x) = false)
    ∧ (∀ x, Instr.wf (.laneDropCondition 0 0 0 x) = false)
    ∧ (Instr.wf (.lanesetRequestRepeat 96) = false)
    ∧ (∀ x, Instr.wf (.lanePrbsDone 96 0 x) = false)
    ∧ (∀ x, Instr.wf (.lanePrbsDone 0 10 x) = false)
    ∧ (Instr.wf (.commonModeOutage 96) = false) := by
  and_intros <;> intros <;> rfl

theorem wellFormed_refuses_commonModeHoldExpiry_to_count :
    (Instr.wf (.commonModeHoldExpiry 96) = false)
    ∧ (∀ x, Instr.wf (.timestampSend 32 x) = false)
    ∧ (∀ x y z u v, Instr.wf (.timestampFrame 32 x 0 y z u v 0 0) = false)
    ∧ (∀ x y z u v, Instr.wf (.timestampFrame 0 x 4096 y z u v 0 0) = false)
    ∧ (∀ x y z u v, Instr.wf (.timestampFrame 0 x 0 y z u v 16 0) = false)
    ∧ (∀ x y z u v, Instr.wf (.timestampFrame 0 x 0 y z u v 0 256) = false)
    ∧ (Instr.wf (.windowEndReached 8 0 0 0) = false)
    ∧ (Instr.wf (.windowEndReached 0 2 0 0) = false)
    ∧ (Instr.wf (.windowEndReached 0 0 256 0) = false)
    ∧ (Instr.wf (.windowEndReached 0 0 0 1024) = false)
    ∧ (Instr.wf (.portLightDetected 32) = false)
    ∧ (∀ x y z, Instr.wf (.portTrainingDone 32 x y z) = false)
    ∧ (Instr.wf (.identitySend 32) = false)
    ∧ (∀ x, Instr.wf (.identityFrame 32 x) = false)
    ∧ (Instr.wf (.quarantineDarkTimer 32) = false)
    ∧ (Instr.wf (.write (96 + 1)) = false)
    ∧ (Instr.wf (.writeAck (96 + 1)) = false)
    ∧ (∀ x, Instr.wf (.read (96 + 1) x) = false)
    ∧ (∀ x, Instr.wf (.readData (96 + 1) x) = false)
    ∧ (Instr.wf (.signal (96 + 1)) = false)
    ∧ (∀ x, Instr.wf (.reduce (96 + 1) x) = false)
    ∧ (Instr.wf (.nack (96 + 1)) = false)
    ∧ (Instr.wf (.barrier (96 + 1)) = false)
    ∧ (Instr.wf (.count (96 + 1)) = false) := by
  and_intros <;> intros <;> rfl

theorem wellFormed_refuses_packetForward_to_colBarrier :
    (Instr.wf (.packetForward (96 + 1)) = false)
    ∧ (∀ x, Instr.wf (.colRs 8 0 0 0 x) = false)
    ∧ (∀ x, Instr.wf (.colRs 0 2 0 0 x) = false)
    ∧ (∀ x, Instr.wf (.colRs 0 0 256 0 x) = false)
    ∧ (∀ x, Instr.wf (.colRs 0 0 0 1024 x) = false)
    ∧ (∀ x, Instr.wf (.colAg 8 0 0 0 x) = false)
    ∧ (∀ x, Instr.wf (.colAg 0 2 0 0 x) = false)
    ∧ (∀ x, Instr.wf (.colAg 0 0 256 0 x) = false)
    ∧ (∀ x, Instr.wf (.colAg 0 0 0 1024 x) = false)
    ∧ (∀ x, Instr.wf (.colA2a 8 0 0 0 x) = false)
    ∧ (∀ x, Instr.wf (.colA2a 0 2 0 0 x) = false)
    ∧ (∀ x, Instr.wf (.colA2a 0 0 256 0 x) = false)
    ∧ (∀ x, Instr.wf (.colA2a 0 0 0 1024 x) = false)
    ∧ (∀ x, Instr.wf (.colSend 8 0 0 0 x) = false)
    ∧ (∀ x, Instr.wf (.colSend 0 2 0 0 x) = false)
    ∧ (∀ x, Instr.wf (.colSend 0 0 256 0 x) = false)
    ∧ (∀ x, Instr.wf (.colSend 0 0 0 1024 x) = false)
    ∧ (∀ x, Instr.wf (.colRing 8 0 0 0 x) = false)
    ∧ (∀ x, Instr.wf (.colRing 0 2 0 0 x) = false)
    ∧ (∀ x, Instr.wf (.colRing 0 0 256 0 x) = false)
    ∧ (∀ x, Instr.wf (.colRing 0 0 0 1024 x) = false)
    ∧ (Instr.wf (.colBarrier 8 0 0 0) = false)
    ∧ (Instr.wf (.colBarrier 0 2 0 0) = false)
    ∧ (Instr.wf (.colBarrier 0 0 256 0) = false) := by
  and_intros <;> intros <;> rfl

theorem wellFormed_refuses_colBarrier_to_getCertificate :
    (Instr.wf (.colBarrier 0 0 0 1024) = false)
    ∧ (∀ x, Instr.wf (.colBuddy 8 0 0 0 x) = false)
    ∧ (∀ x, Instr.wf (.colBuddy 0 2 0 0 x) = false)
    ∧ (∀ x, Instr.wf (.colBuddy 0 0 256 0 x) = false)
    ∧ (∀ x, Instr.wf (.colBuddy 0 0 0 1024 x) = false)
    ∧ (∀ x, Instr.wf (.colOpDone 8 0 0 0 x) = false)
    ∧ (∀ x, Instr.wf (.colOpDone 0 2 0 0 x) = false)
    ∧ (∀ x, Instr.wf (.colOpDone 0 0 256 0 x) = false)
    ∧ (∀ x, Instr.wf (.colOpDone 0 0 0 1024 x) = false)
    ∧ (∀ x, Instr.wf (.sentinelCheckDone 8 0 0 x) = false)
    ∧ (∀ x, Instr.wf (.sentinelCheckDone 0 48 0 x) = false)
    ∧ (∀ x, Instr.wf (.sentinelCheckDone 0 0 25 x) = false)
    ∧ (Instr.wf (.coreTakeover 8 0 0) = false)
    ∧ (Instr.wf (.coreTakeover 0 48 0) = false)
    ∧ (Instr.wf (.coreTakeover 0 0 25) = false)
    ∧ (∀ x y, Instr.wf (.autumnSlice (8 + 1) x y) = false)
    ∧ (∀ x y, Instr.wf (.autumnSlice 0 x y) = false)
    ∧ (Instr.wf (.maintLockExpiry 16) = false)
    ∧ (Instr.wf (.maintActivityEnd 16) = false)
    ∧ (Instr.wf (.getVersion 3) = false)
    ∧ (Instr.wf (.getCapabilities 3) = false)
    ∧ (∀ x y, Instr.wf (.negotiateAlgorithms 3 x y) = false)
    ∧ (Instr.wf (.getDigests 3) = false)
    ∧ (∀ x y z, Instr.wf (.getCertificate 3 x y z) = false) := by
  and_intros <;> intros <;> rfl

theorem wellFormed_refuses_challenge_to_getFruRecordTableMetadata :
    (∀ x y z u, Instr.wf (.challenge 3 x y z u) = false)
    ∧ (∀ x y z u, Instr.wf (.getMeasurements 3 x y z u) = false)
    ∧ (∀ x y z, Instr.wf (.respondIfReady 3 x y z) = false)
    ∧ (∀ x, Instr.wf (.spdmUnsupportedRequest 3 x) = false)
    ∧ (∀ x, Instr.wf (.setEndpointId 3 x) = false)
    ∧ (Instr.wf (.getEndpointId 3) = false)
    ∧ (Instr.wf (.getEndpointUuid 3) = false)
    ∧ (∀ x, Instr.wf (.getMctpVersionSupport 3 x) = false)
    ∧ (Instr.wf (.getMessageTypeSupport 3) = false)
    ∧ (Instr.wf (.getVendorDefinedMessageSupport 3) = false)
    ∧ (∀ x, Instr.wf (.setTid 3 x) = false)
    ∧ (Instr.wf (.getTid 3) = false)
    ∧ (∀ x, Instr.wf (.getPldmVersion 3 x) = false)
    ∧ (Instr.wf (.getPldmTypes 3) = false)
    ∧ (∀ x, Instr.wf (.getPldmCommands 3 x) = false)
    ∧ (Instr.wf (.getPdrRepositoryInfo 3) = false)
    ∧ (∀ x, Instr.wf (.getPdr 3 x) = false)
    ∧ (∀ x, Instr.wf (.getSensorReading 3 x) = false)
    ∧ (∀ x, Instr.wf (.getStateSensorReadings 3 x) = false)
    ∧ (∀ x, Instr.wf (.setEventReceiver 3 x) = false)
    ∧ (Instr.wf (.eventMessageSupported 3) = false)
    ∧ (∀ x, Instr.wf (.eventMessageBufferSize 3 x) = false)
    ∧ (∀ x, Instr.wf (.pollForPlatformEventMessage 3 x) = false)
    ∧ (Instr.wf (.getFruRecordTableMetadata 3) = false) := by
  and_intros <;> intros <;> rfl

theorem wellFormed_refuses_getFruRecordTable_to_registerRead :
    (Instr.wf (.getFruRecordTable 3) = false)
    ∧ (Instr.wf (.queryDeviceIdentifiers 3) = false)
    ∧ (Instr.wf (.getFirmwareParameters 3) = false)
    ∧ (∀ x, Instr.wf (.requestUpdate 3 x) = false)
    ∧ (∀ x, Instr.wf (.passComponentTable 3 x) = false)
    ∧ (∀ x y, Instr.wf (.updateComponent 3 x y) = false)
    ∧ (Instr.wf (.activateFirmware 3) = false)
    ∧ (Instr.wf (.getStatus 3) = false)
    ∧ (Instr.wf (.cancelUpdateComponent 3) = false)
    ∧ (Instr.wf (.cancelUpdate 3) = false)
    ∧ (∀ x y, Instr.wf (.pldmUnsupportedCommand 3 x y) = false)
    ∧ (∀ x, Instr.wf (.eventRead 3 x) = false)
    ∧ (∀ x, Instr.wf (.journalRead 3 x) = false)
    ∧ (∀ x, Instr.wf (.registerRead 3 0 0 1 0 x) = false)
    ∧ (∀ x, Instr.wf (.registerRead 0 0 0 1 16 x) = false)
    ∧ (∀ x, Instr.wf (.registerRead 0 0 0 0 0 x) = false)
    ∧ (∀ x, Instr.wf (.registerRead 0 1 0 1 0 x) = false)
    ∧ (∀ x, Instr.wf (.registerRead 0 0 2 1 0 x) = false) := by
  and_intros <;> intros <;> rfl

/-- Every power domain On. -/
def allOn : Tbl Dom := (List.range 80).map fun n => (n, { st := .on })

/-- A block that is On. -/
def onBlk : Blk := { st := .on, en := true }

/-- The blocks that the witnesses need, On: those of the services, of every die, of the links, and of clusters 0 and 47 of dies 0
and 7. -/
def someOn : Tbl Blk :=
  ([baseGLB, baseCORE 7 47 23, baseRTB, baseMGT, baseAGE, baseSNT, baseMNT, baseMBX, baseTHM, baseSEC, baseATT, baseCP, basePHL]
    ++ (List.range 8).flatMap (fun d => [baseDSC d, baseCOL d, baseDFB d, baseSRM d, baseSCB d, baseLCK d])
    ++ (List.range 40).map baseLPX ++ (List.range 10).map baseLAS
    ++ (List.range 32).flatMap (fun l => [baseLNK l, 0x3060000 + l * 0x1000])
    ++ [(0, 0), (0, 47), (7, 0), (7, 47)].flatMap fun e => [baseCLU e.1 e.2, baseVE e.1 e.2, baseCCC e.1 e.2, baseWAT e.1 e.2,
      baseCORE e.1 e.2 0, baseARR e.1 e.2 0, baseCORE e.1 e.2 24, baseARR e.1 e.2 24]).map fun b => (b, onBlk)

/-- A module in service: powered, Spring complete, both links up, host 0 the steward. -/
def svc : State :=
  { phase := .running, sup := { good := true, pins := { pwrEn := true } }, doms := allOn
    spring := { started := [1, 2, 3, 4, 5, 6, 7, 8, 9, 10, 11], done := [1, 2, 3, 4, 5, 6, 7, 8, 9, 10, 11],
                mbxReady := true, discDone := true }
    fn0 := { linkUp := true, perstLow := false }, fn1 := { linkUp := true, perstLow := false }, steward := some 0
    blks := someOn }

/-- A module in Spring, at the steps given. -/
def springing (started done : List Nat) : State :=
  { svc with phase := .spring, spring := { started, done } }

/-- The state with one domain changed. -/
def domAs (n : Nat) (x : Life) (s : State) : State := setDom s n { st := x }

/-- A fetched command. -/
def entryOf (op realm : Nat) (args : List Nat) (flags : Nat := 0) (rtAt : Nat := 0) : InFlight :=
  { desc := { opcode := BitVec.ofNat 16 op, tag := 5, realm := BitVec.ofNat 8 realm, flags := BitVec.ofNat 8 flags, rsvd := 0
              rtAt := BitVec.ofNat 64 rtAt, a0 := BitVec.ofNat 64 (args.getD 0 0), a1 := BitVec.ofNat 64 (args.getD 1 0)
              a2 := BitVec.ofNat 64 (args.getD 2 0), a3 := BitVec.ofNat 64 (args.getD 3 0)
              a4 := BitVec.ofNat 64 (args.getD 4 0), a5 := BitVec.ofNat 64 (args.getD 5 0) }
    rt := 0, steward := true }

/-- Its command on ring `r` of host 0. -/
def cmdOf (r : Nat) (e : InFlight) (buf : List Byte := []) : Cmd := { port := 0, ring := r, desc := e.desc, buf }

/-- The state with the command next on that ring. -/
def withCmd (r : Nat) (e : InFlight) (s : State) : State :=
  setRing s 0 r { ring s 0 r with st := .on, inflight := [e] }

/-- A tenant realm 1 of host 0. -/
def keyed (s : State) : State := { s with sec := { s.sec with r1 := { st := .keyed, owner := some 0 } } }

/-- An admission of one die. -/
def adm0 : Adm :=
  { ratio := 1, idle := 0, deepOk := false, microBatches := 1, tokens := 1, dieMask := 1, stallMs := 1, taskBound := 1000
    need := [1], persist := 0, staging := 0, spill := 0, satLimit := 1, lossTid := none, lossEnable := false
    lossSkip := false, k := 0, alpha := 0, warmup := 0 }

/-- A job of the operator's in slot A, in a step. -/
def job0 : Job := { id := 1, realm := 0, slot := 0, adm := adm0, state := .inStep, step := some {} }

/-- A profile. -/
def prof0 (two compat : Bool) : Profile :=
  { number := 0, twoRealm := two, compat, cap := 400, marginSlot := 0, stewardPort := 0, link0 := 0, link1 := 0
    division := List.replicate 32 0 }

/-- In service under a profile. -/
def svcP (two compat : Bool) : State := { svc with prof := some (prof0 two compat) }

/-- The state with one block as given. -/
def blkAs (b : Nat) (x : Blk) (s : State) : State := setBlk s b x

/-- The frame at a BAR0 offset. -/
def frm (a : Nat) : Frame0 := (frameAt a).getD ⟨0, 0, 0, 0, 0, 0, 0⟩

/-- The state with ring `r` of host 0 as given. -/
def ringAs (r : Nat) (x : Ring) (s : State) : State := setRing s 0 r x

/-- Pages from a device offset, given to an owner. -/
def paged (off n owner : Nat) (s : State) : State :=
  { s with mem := { s.mem with page := (List.range n).map fun i => (off / 0x200000 + i, some (owner, 0)) } }

/-- An admission record of R246: one die, one cluster, persist bytes as given. -/
def admRec (persist : Nat) : List Byte :=
  [1, 0, 1, 0, 1, 0, 1, 0, 1, 0, 0, 0, 1, 0, 0, 0] ++ [1, 0, 0, 0, 0, 0, 0, 0] ++ leBytes 8 persist
    ++ List.replicate 32 0 ++ [0, 4, 0xFF, 0] ++ leBytes 4 0x40000000 ++ leBytes 4 0x3F000000 ++ List.replicate 52 0

/-- A profile record of R72 for slot `n`, with its digest given. -/
def profRec (n : Byte) (digest : Nat) : List Byte :=
  [1, 0, n, 2] ++ leBytes 2 480 ++ [3, 1] ++ leBytes 2 0x245 ++ leBytes 2 0x31 ++ List.replicate 4 0
    ++ ([1, 0] ++ List.replicate 62 0) ++ List.replicate 112 0 ++ leBytes 64 digest

/-- The SHA-512 digests of those records, as little-endian numbers (computed outside the model). -/
def profDigests : List Nat :=
  [0xf136556cc18400bc6c017e2f30509313dd60cb79aa51fc62f120c11ed828a386c0cf5a26e6d9727dce158c57b9aae54a1d1c3619fc84875033ef4078b1cf1ccc,
   0xd1b73df42e6e8fc79a7c15ff5ded3ea76005c18d36c19abbdbfb73eccfe672642a2bd2b66ea10b11a3279d65a718776e96713d6182546b5cf8ecc05842f277d7,
   0x9c96b1471a830dd0b857b39225a61a46cd03866cce988be6527852da1672c8685b769431aa0bd8e06e971cb57e5e38b9bb740450ab3d2bdda8148b54162a72bd,
   0x9d5fbe5e17dfff53487ea345ad5351b8723fde68b43a0f6650a553459de3474e06ad4a9813e935210660d9853e5cb9e1b36720e6a1f3a704a54533f3b06f3bf8]

/-- The four profile records of a sound set. -/
def profSet : List Byte := (List.range 4).flatMap fun n => profRec (BitVec.ofNat 8 n) (profDigests.getD n 0)

/-- An empty fabric plan. -/
def planRec : List Byte := [1, 0, 0, 0, 0, 0, 1, 0] ++ List.replicate 8 0 ++ leBytes 8 1 ++ [0, 0, 0xFF, 0xFF]
  ++ List.replicate 100 0

/-- A light plan that routes nothing. -/
def lightRec : List Byte := [1] ++ List.replicate 31 0 ++ List.replicate 96 0xFF

/-- An image without tasks. -/
def img0 : Image := { digest := [], tasks := [], deep := [], tokens := [], col := [], ranges := [] }

/-- An admitted job of the operator's. -/
def jobAd : Job := { job0 with state := .admitted, step := none }

/-- A FILL image of one empty TASKS section; its SHA-512 digest was computed outside the model. -/
def fillImage : List Byte :=
  leBytes 4 0x5446414B ++ [1, 0, 2, 1] ++ leBytes 8 192 ++ [1, 0] ++ List.replicate 14 0
    ++ leBytes 64 0xcfa9ab03c331d25ac4830fe1a8867df3323451dc34ed7d548fc0c6b8a0aa87adda59d5687b7a9cf315ed24c3bc7ba0db132189dd1b93596b5858ce5254924447
    ++ List.replicate 32 0 ++ [5, 0xFF, 0, 0, 0, 0, 0, 0] ++ leBytes 8 192 ++ List.replicate 48 0

/-- A job with one page of PERSIST on die 0. -/
def jobPersist : Job := { jobAd with adm := { adm0 with persist := 1 }, persist := { runs := [(0, 0, 1)] } }

/-- The first 64 bytes of a checkpoint's header for `jobAd`, and its body. -/
def ckptTop : List Byte :=
  leBytes 4 0x54504B43 ++ [1, 0, 0, 1] ++ List.replicate 24 0 ++ leBytes 8 65536 ++ List.replicate 24 0

/-- The body of that checkpoint. -/
def ckptZero : List Byte := zeros 65536

/-- The end of its header. -/
def ckptTail : List Byte := zeros 128

/-- The root of that checkpoint. -/
def ckptSum : List Byte := sha512 (ckptTop ++ [ckptZero].flatMap sha512)

/-- That checkpoint. -/
def ckptImage : List Byte := ckptTop ++ (ckptSum ++ (ckptTail ++ ckptZero))

/-- A task of a core. -/
def ctask0 : CoreTask := { tag := 0, entry := 0, ars := [], outTid := none, logical := 0 }

/-- The last core of the last cluster, as given, at an instruction of slot B. -/
def tiled (w : W32) (x : Core) : State :=
  { svc with cmp := { core := [(coreKey 7 47 24, { x with slot := 1, task := some ctask0 })] }
             prg := { tile := [((2 * 31 + 1) * 1024 + x.pc, w)] } }

/-- The last cluster's context B, with its CCC at an instruction. -/
def cccd (w : W32) (x : Ccc) : State :=
  { svc with cmp := { ccc := [(ctxKey 7 47 1, { x with task := some (0, 0, 0, 0) })] }
             prg := { ccc := [((2 * 31 + 1) * 2048 + x.pc, w)] } }

/-- The last cluster's context B, with its vector engine at an instruction. -/
def ved (w : W32) (v : Ve) : State :=
  { svc with cmp := { ve := [(ctxKey 7 47 1, { v with run := true })] }, prg := { ve := [((2 * 31 + 1) * 2048 + v.pc, w)] } }

/-- The lock sequencer of the last die at an instruction. -/
def seqd (w : W32) (x : Seq) : State :=
  { svc with opt := { seq := [(7, { x with run := true })] }, prg := { seq := [(4096 * 7 + x.pc, w)] } }

/-- A forward task of logical cluster 47 on die 0. -/
def task0 : Task :=
  { tag := 3, phase := 1, perMb := true, idleArg := false, die := 0, lcluster := 47, entry := 0, bound := 0, argStep := 0
    argMb := 0, waits := [], sigs := [], args := [] }

/-- A started job in a step, with the tasks given. -/
def jobRun (tasks : List Task) (st : Sys2Proof.Machine.Step) : Job :=
  { job0 with started := true, main := some { img0 with tasks }, cmap := [(47, some 47)], step := some st }

/-- That job in slot A, in its forward half. -/
def svcJ (j : Job) : State := { svc with jobA := some j, dsc := [(0, { phA := 1 })] }

/-- A cluster DMA transfer of nothing. -/
def xfer0 : Xfer :=
  { sfmt := 0, dfmt := 0, tid := 0, src := 0, dst := 0, elems := 0, rows := 0, sstride := 0, dstride := 0, sscale := 0
    dscale := 0, ibase := 0 }

/-- A B16 tensor, number 9. -/
def tensor0 : Tensor :=
  { tid := 9, cls := 0, format := 2, stoch := false, watch := false, consensus := false, scaleMode := 1
    initScale := 0x3F800000, history := 1, headroom := 0, pairTid := 0, seed := 0, rank := 1, axis := 0, dims := [1] }

/-- A lit link with everything else as given. -/
def litAs (l : Nat) (x : Link) (s : State) : State := { s with links := [(l, x)] }

/-- The state with port 31 fed from die 7's port transmit group 3, four of whose rings are locked. -/
def fourRings (s : State) : State :=
  { s with fab := { s.fab with plans := [(0, some { portSrc := List.replicate 31 none ++ [some (7, 3)], pkgDst := [] })] }
           opt := { s.opt with ring := (List.range 4).map fun i => (1598 + i, { st := .locked }) } }

/-- A packet for this module, at the last granule of the first LPDDR5X page. -/
def pkt0 (kind : Nat) : Packet :=
  { kind, hops := 0, dst := 0xFFFF, src := 5, offset := 0x3FFFC0, tag := 9, step := 0, slot := 0, die := 0, aux := 0
    aux2 := 0, len := 64, payload := [] }

/-- That packet as link 31 delivered it. -/
def rx0 (kind : Nat) : RxPkt :=
  { pkt := pkt0 kind, link := 31, realm := 0, opened := true, red := false, nf := false, stamp := 0 }

/-- The state with packets delivered. -/
def inboxed (l : List RxPkt) (s : State) : State := { s with fab := { s.fab with inbox := l } }

/-- A collective op over group 0. -/
def colOp0 (op : Nat) : ColOp :=
  { op, dtype := 1, group := 0, perMb := false, shard := false, acc := false, tid := 0, peer := 1
    src := 0x08005F000000, dst := if op = 7 then 0xFFFF08005F000100 else 0x08005F000100, stage := 0x08005F000200, mbStride := 0, len := 8, counts := []
    wait := none, sig := none, rsig := none, wstart := 0xFFFFFFFF, wlen := 0 }

/-- A job on dies 0 and 1 whose die 0 has one collective op, of members on both dies. -/
def colJob (op : Nat) : Job :=
  let p : ColProg := { groups := [[⟨0xFFFF, 0, 1⟩, ⟨0xFFFF, 1, 1⟩]], ops := [colOp0 op], consensus := none }
  { job0 with slot := 1, adm := { adm0 with dieMask := 3 }, started := true
              main := some { img0 with col := [(0, p), (1, p)] } }

/-- That job in slot B, with the shared memory it reads valid. -/
def colS (op : Nat) : State :=
  { sramWrite 0 0x08005F000000 (List.replicate 256 0) svc with
    jobB := some (colJob op), sec := { svc.sec with bindB := some 0 } }

/-- Its op 0 on die 0. -/
def colX (op : Nat) : ColCtx :=
  { j := colJob op, st := {}, o := colOp0 op, g := [⟨0xFFFF, 0, 1⟩, ⟨0xFFFF, 1, 1⟩], r := 0 }

/-- The run of that op for micro-batch 0. -/
def colY : ColRun := { die := 0, slot := 1, op := 0, m := 0, window := none }

/-- The state in which it has begun. -/
def colT (s : State) : State :=
  let u := takeWaits 0 1 0 [] (applyErrs [] s)
  setJobAt { u with fab := { u.fab with runs := u.fab.runs ++ [colY] } } 1
    ((jobAt u 1).map fun j => { j with progress := rtNow u })

/-- The state that an outcome answers. -/
def after (o : Host.Outcome State Fault Refusal) : State := match o with | .next t => t | _ => svc

theorem leBytes_length (k v : Nat) : (leBytes k v).length = k := by
  induction k generalizing v with
  | zero => rfl
  | succ k ih => simp [leBytes, ih]

theorem sha512_length (m : List Byte) : (sha512 m).length = 64 := by simp [sha512, beBytes, leBytes_length]

/-- A field at or past 0x80 of a checkpoint's header lies past its root. -/
theorem leAt_past (h r t : List Byte) (o n : Nat) (hh : h.length = 64) (hr : r.length = 64) :
    leAt (h ++ (r ++ t)) (128 + o) n = leAt t o n := by
  simp only [leAt, slice]
  rw [show 128 + o = 64 + (64 + o) by omega, ← List.drop_drop, ← List.drop_drop,
    List.drop_left' hh, List.drop_left' hr]

/-- A field below 0x40 of that header lies before its root. -/
theorem leAt_before (h x : List Byte) (o n : Nat) (hh : h.length = 64) (ho : o + n ≤ 64) :
    leAt (h ++ x) o n = leAt h o n := by
  simp only [leAt, slice]
  rw [List.drop_append_of_le_length (by omega), List.take_append_of_le_length (by simp; omega)]

theorem mid_false {α β : Type} (x : α × Bool × β) (h : x.2.1 = false) : x = (x.1, false, x.2.2) :=
  Prod.ext rfl (Prod.ext h rfl)

theorem fst_false {α β : Type} (x : Bool × α × β) (h : x.1 = false) : x = (false, x.2.1, x.2.2) :=
  Prod.ext h rfl

theorem some_getD1 {α : Type} (x : Option α) (d : α) (h : x.isSome = true) : x = some (x.getD d) := by
  cases x with
  | none => cases h
  | some v => rfl

theorem some_getD2 {α β : Type} (x : Option (α × β)) (d : α × β) (h : x.isSome = true) :
    x = some ((x.getD d).1, (x.getD d).2) := some_getD1 x d h

theorem setFault_mgt (s : State) (m : Mgt) (ps : List (List Byte)) : setFault { s with mgt := m } ps = setFault s ps := rfl

theorem profSet_sound : setFault svc (setRecords profSet) = none := by decide +kernel

theorem ckptTop_length : ckptTop.length = 64 := by decide +kernel

theorem ckptTail_length : ckptTail.length = 128 := List.length_replicate

theorem ckptZero_length : ckptZero.length = 65536 := List.length_replicate

theorem ckptImage_eq : ckptImage = (ckptTop ++ (ckptSum ++ ckptTail)) ++ ckptZero := by
  rw [ckptImage, List.append_assoc, List.append_assoc]

theorem ckptHead_length : (ckptTop ++ (ckptSum ++ ckptTail)).length = 256 := by
  rw [List.length_append, List.length_append, ckptTop_length, ckptTail_length, ckptSum, sha512_length]

theorem ckptImage_fit : fit 256 ckptImage = ckptTop ++ (ckptSum ++ ckptTail) := by
  rw [fit, ckptImage_eq, List.take_left' ckptHead_length, List.length_append, ckptHead_length, ckptZero_length]
  exact List.append_nil _

theorem ckptImage_drop : ckptImage.drop 256 = ckptZero := by
  rw [ckptImage_eq, List.drop_left' ckptHead_length]

theorem ckptImage_head (s : State) : headOk s jobAd (fit 256 ckptImage) = true := by
  have past : ∀ i : Nat, leAt (ckptTop ++ (ckptSum ++ ckptTail)) (0x80 + 8 * i) 8 = leAt ckptTail (8 * i) 8 :=
    fun i => leAt_past _ _ _ _ _ ckptTop_length (sha512_length _)
  have h : ∀ o n, o + n ≤ 64 → leAt (ckptTop ++ (ckptSum ++ ckptTail)) o n = leAt ckptTop o n :=
    fun o n ho => leAt_before _ _ _ _ ckptTop_length ho
  rw [ckptImage_fit, headOk]
  simp only [h 7 1 (by decide), h 0 4 (by decide), h 4 2 (by decide), h 6 1 (by decide), h 0x20 8 (by decide), past]
  rw [show (jobAd.realm == 0) = true from rfl, Bool.true_or]
  decide +kernel

theorem ckptImage_body (s : State) : openBody s jobAd (fit 256 ckptImage) (ckptImage.drop 256)
    (leAt (fit 256 ckptImage) 0x20 8) = some [ckptZero] := by
  have h : leAt (fit 256 ckptImage) 0x20 8 = 65536 := by
    rw [ckptImage_fit, leAt_before _ _ _ _ ckptTop_length (by decide)]; decide +kernel
  have hc : chunksOf 65536 = [(0, 65536)] := by decide +kernel
  rw [h, ckptImage_drop, openBody, if_pos (by rfl), ckptZero_length, if_neg (by decide), splitChunks,
    List.take_of_length_le (Nat.le_of_eq ckptZero_length), ckptZero_length, hc, List.map_cons, List.map_nil, slice,
    Nat.mul_zero, List.drop_zero, List.take_of_length_le (Nat.le_of_eq ckptZero_length)]

theorem ckptImage_root : ckptRootOf (fit 256 ckptImage) [ckptZero] = slice (fit 256 ckptImage) 0x40 64 := by
  rw [ckptImage_fit, ckptRootOf, List.take_left' ckptTop_length, slice, List.drop_left' ckptTop_length,
    List.take_left' (show ckptSum.length = 64 from sha512_length _), ckptSum]

theorem ckptBody_poison (s : State) (h : (lpxFaultOn s 0 && (unitsOf 0 0x200000 64).any (granFault s 0)) = true)
    (hp : placeOf s 0 = .lpx 0) : (ckptBody jobPersist s).2.1 = true := by
  have hs : shares jobPersist = [(0, 0x200000)] := by decide +kernel
  simp only [ckptBody, hs, List.foldl_cons, List.foldl_nil, if_neg (show ¬ (0x200000 = 0) by decide), memRead]
  rw [show placeOf s 0 = .lpx 0 from hp]
  simp [h]

theorem pair2 {α : Type} (x : α × Option Nat) (h : x.2 = none) : x = (x.1, none) := Prod.ext rfl h

theorem pair3 {α β : Type} (x : α × β × Option Nat) (h : x.2.2 = none) : x = (x.1, x.2.1, none) :=
  Prod.ext rfl (Prod.ext rfl h)


/-- Operands and states that meet the hypotheses of `Obligations.SupplyPinsStartAndStopTheModule`, clause by clause. -/
theorem meets_SupplyPinsStartAndStopTheModule :
    (∃ (s : State) (vin : Nat),
      s.sup.pins.pwrEn = false
      ∧ s.sup.pins.inputOk = true
      ∧ 29500 < vin
      ∧ vin < 41000
      ∧ s.sup.hold = false)
    ∧ (∃ (s : State) (vin : Nat),
      s.sup.pins.pwrEn = false
      ∧ s.sup.pins.inputOk = true
      ∧ 29500 < vin
      ∧ vin < 41000
      ∧ s.sup.hold = true)
    ∧ (∃ (s : State),
      s.sup.hold = true
      ∧ s.sup.riseHeld = true
      ∧ s.sup.pins.pwrEn = true
      ∧ s.sup.pins.inputOk = true)
    ∧ (∃ (s : State),
      s.sup.hold = true
      ∧ s.sup.riseHeld = false)
    ∧ (∃ (_s : State) (vin : Nat),
      (vin < 28500 ∨ 42000 < vin))
    ∧ (∃ (s : State) (vin : Nat),
      s.sup.pins.inputOk = false
      ∧ 29500 < vin
      ∧ vin < 41000
      ∧ s.sup.pins.pwrEn = true
      ∧ s.sup.hold = false)
    ∧ (∃ (s : State),
      s.phase = .dormant
      ∧ s.sup.pins.pwrEn = true
      ∧ s.sup.pins.inputOk = true)
    ∧ (∃ (s : State),
      s.phase = .running)
    ∧ (∃ (s : State) (vin : Nat),
      s.sup.pins.pwrEn = false
      ∧ s.sup.pins.inputOk = true
      ∧ (vin ≤ 29500 ∨ 41000 ≤ vin))
    ∧ (∃ (s : State) (h : Shutdown),
      s.phase = .shutting
      ∧ s.shut = some h
      ∧ h.target = .dormant
      ∧ 7 ≤ h.item) := by
  refine ⟨⟨State.reset, 29501, ?_⟩,
    ⟨{ State.reset with sup := { hold := true } }, 40999, ?_⟩,
    ⟨{ State.reset with sup := { hold := true, riseHeld := true, pins := { pwrEn := true } } }, ?_⟩,
    ⟨{ State.reset with sup := { hold := true } }, ?_⟩,
    ⟨svc, 28499, ?_⟩,
    ⟨{ State.reset with sup := { pins := { pwrEn := true, inputOk := false } } }, 29501, ?_⟩,
    ⟨{ svc with phase := .dormant }, ?_⟩,
    ⟨svc, ?_⟩,
    ⟨State.reset, 29500, ?_⟩,
    ⟨{ svc with phase := .shutting, shut := some { target := .dormant, item := 7, force := false, port := none, no := 0 } },
      { target := .dormant, item := 7, force := false, port := none, no := 0 }, ?_⟩⟩ <;>
    repeat' (first | with_reducible rfl | (with_reducible refine some_getD1 _ _ ?_) | (with_reducible refine some_getD2 _ _ ?_) | (with_reducible refine mid_false _ ?_) | (with_reducible refine fst_false _ ?_) | refine And.intro ?_ ?_ | decide +kernel | rfl | refine Or.inl ?_ | (rintro _ (rfl | rfl) <;> decide +kernel) | (intros; simp))

/-- Operands and states that meet the hypotheses of `Obligations.ThermalTripThrottlingAndDroop`, clause by clause. -/
theorem meets_ThermalTripThrottlingAndDroop :
    (∃ (s : State),
      s.sup.good = true
      ∧ domOn s 79 = true)
    ∧ (∃ (s : State),
      s.thm.tripDrv = false)
    ∧ (∃ (s : State),
      inService s = false)
    ∧ (∃ (s : State),
      s.thm.tripDrv = true)
    ∧ (∃ (s : State) (u : State) (temp : Int),
      s.sup.good = true
      ∧ domOn s 79 = true
      ∧ 10500 ≤ temp
      ∧ s.thm.tripDrv = false
      ∧ u = noteHot { s with thm := { s.thm with other := temp } })
    ∧ (∃ (s : State) (temp : Int) (j : Job) (st : Sys2Proof.Machine.Step),
      s.sup.good = true
      ∧ domOn s 79 = true
      ∧ 10500 ≤ temp
      ∧ s.thm.tripDrv = false
      ∧ s.jobA = some j
      ∧ j.step = some st
      ∧ (j.sol = .none ∨ j.sol = .closing)
      ∧ j.aborting = false)
    ∧ (∃ (s : State) (f0 : Nat) (f1 : Nat),
      s.phase = .running
      ∧ (f0 * 4 < (minFlow s).1 ∨ f1 * 4 < (minFlow s).2)
      ∧ s.thm.tripDrv = false)
    ∧ (∃ (s : State) (hot : Int),
      s.thm.tripDrv = true
      ∧ hot ≤ 9000
      ∧ (minFlow s).1 ≤ s.sup.pins.flow0
      ∧ (minFlow s).2 ≤ s.sup.pins.flow1)
    ∧ (∃ (s : State) (d : Nat) (q : Nat) (temp : Int),
      domOn s (8 * d + q) = true
      ∧ q < 4
      ∧ (thmPoint s * 100 : Nat) ≤ temp
      ∧ (dieThm s d).throttled = false)
    ∧ (∃ (s : State) (d : Nat) (temps : List Int),
      (dieThm s d).throttled = true
      ∧ (dieThm s d).rising = false
      ∧ d < dies s
      ∧ (∃ x ∈ temps, ((thmPoint s - 2) * 100 : Nat) < x))
    ∧ (∃ (s : State) (d : Nat) (temps : List Int),
      (dieThm s d).throttled = true
      ∧ d < dies s
      ∧ (∀ x ∈ temps, x ≤ (thmRelease s * 100 : Nat))
      ∧ (dieThm s d).clock + 100 < declaredMhz s)
    ∧ (∃ (s : State) (d : Nat) (q : Nat),
      domOn s (8 * d + q) = true
      ∧ q < 4)
    ∧ (∃ (s : State) (n : Nat) (temp : Int),
      domOn s (8 * (n / 5) + 7) = true
      ∧ 9500 < temp
      ∧ (stack s n).throttle = false) := by
  refine ⟨⟨svc, ?_⟩,
    ⟨svc, ?_⟩,
    ⟨State.reset, ?_⟩,
    ⟨{ svc with thm := { tripDrv := true } }, ?_⟩,
    ⟨svc, noteHot { svc with thm := { svc.thm with other := 10500 } }, 10500, ?_⟩,
    ⟨{ svc with jobA := some { job0 with sol := .closing } }, 10500, { job0 with sol := .closing }, {}, ?_⟩,
    ⟨svc, 0, 0, ?_⟩,
    ⟨{ svc with thm := { tripDrv := true, stopped := true }, sup := { svc.sup with pins := { svc.sup.pins with flow0 := 600, flow1 := 200 } } },
      9000, ?_⟩,
    ⟨svc, 7, 3, thmPoint svc * 100, ?_⟩,
    ⟨{ svc with thm := { dies := [(7, { throttled := true })] } }, 7, [thmPoint svc * 100], ?_⟩,
    ⟨{ svc with thm := { dies := [(7, { throttled := true, clock := 1600 })] } }, 7, [thmRelease svc * 100], ?_⟩,
    ⟨svc, 7, 3, ?_⟩,
    ⟨svc, 39, 9501, ?_⟩⟩ <;>
    repeat' (first | with_reducible rfl | (with_reducible refine some_getD1 _ _ ?_) | (with_reducible refine some_getD2 _ _ ?_) | (with_reducible refine mid_false _ ?_) | (with_reducible refine fst_false _ ?_) | refine And.intro ?_ ?_ | decide +kernel | rfl | refine Or.inl ?_ | (rintro _ (rfl | rfl) <;> decide +kernel) | (intros; simp))

/-- Operands and states that meet the hypotheses of `Obligations.PowerCapLoopAndCoolantCap`, clause by clause. -/
theorem meets_PowerCapLoopAndCoolantCap :
    (∃ (s : State) (_w : Nat) (_a : Nat),
      s.sup.good = true)
    ∧ (∃ (s : State),
      s.sup.good = true
      ∧ s.cap.samples ≠ []
      ∧ s.cap.active = true
      ∧ 600 < s.cap.clock
      ∧ s.cap.clock ≤ othersMhz s
      ∧ capW s < avgOf s.cap.samples
      ∧ avgOf s.cap.amps ≤ 160000)
    ∧ (∃ (s : State),
      s.sup.good = true
      ∧ s.cap.samples ≠ []
      ∧ s.cap.active = true
      ∧ s.cap.clock = 600
      ∧ 600 ≤ othersMhz s
      ∧ capW s < avgOf s.cap.samples
      ∧ avgOf s.cap.amps ≤ 160000
      ∧ s.cap.duty < 3)
    ∧ (∃ (s : State),
      s.cap.duty = 3
      ∧ s.cap.unmet = false
      ∧ (capW s < avgOf s.cap.samples ∨ 160000 < avgOf s.cap.amps))
    ∧ (∃ (s : State),
      s.cap.duty = 3
      ∧ s.cap.unmet = true
      ∧ 160000 < avgOf s.cap.amps)
    ∧ (∃ (s : State),
      s.cap.railOffDue = true
      ∧ s.phase = .running
      ∧ s.spring.discDone = true
      ∧ s.pseq = none
      ∧ s.pwait = [])
    ∧ (∃ (s : State) (f0 : Nat) (f1 : Nat) (t0 : Int) (t1 : Int),
      s.phase = .running
      ∧ s.thm.coolantFault = false
      ∧ (f0 < (minFlow s).1 ∨ f1 < (minFlow s).2 ∨ 4000 < t0 ∨ 4000 < t1))
    ∧ (∃ (s : State) (f0 : Nat) (f1 : Nat) (t0 : Int) (t1 : Int),
      s.phase = .running
      ∧ s.thm.coolantFault = true
      ∧ (minFlow s).1 ≤ f0
      ∧ (minFlow s).2 ≤ f1
      ∧ t0 ≤ 4000
      ∧ t1 ≤ 4000) := by
  refine ⟨⟨svc, 700, 20000, ?_⟩,
    ⟨{ svc with cap := { active := true, clock := 601, samples := [20001], amps := [160000] } }, ?_⟩,
    ⟨{ svc with cap := { active := true, clock := 600, samples := [20001], amps := [160000], duty := 2 } }, ?_⟩,
    ⟨{ svc with cap := { duty := 3, samples := [20001] } }, ?_⟩,
    ⟨{ svc with cap := { duty := 3, unmet := true, samples := [1], amps := [160001] } }, ?_⟩,
    ⟨{ svc with cap := { railOffDue := true } }, ?_⟩,
    ⟨svc, 0, 200, 4000, 4000, ?_⟩,
    ⟨{ svc with thm := { coolantFault := true } }, (minFlow svc).1, (minFlow svc).2, 4000, 4000, ?_⟩⟩ <;>
    repeat' (first | with_reducible rfl | (with_reducible refine some_getD1 _ _ ?_) | (with_reducible refine some_getD2 _ _ ?_) | (with_reducible refine mid_false _ ?_) | (with_reducible refine fst_false _ ?_) | refine And.intro ?_ ?_ | decide +kernel | rfl | refine Or.inl ?_ | (rintro _ (rfl | rfl) <;> decide +kernel) | (intros; simp))

/-- Operands and states that meet the hypotheses of `Obligations.SpringStepsAndDomainTransitions`, clause by clause. -/
theorem meets_SpringStepsAndDomainTransitions :
    (∃ (s : State) (f0 : Nat) (f1 : Nat) (t0 : Int) (t1 : Int),
      s.spring.coolantWait = true
      ∧ (minFlow s).1 ≤ f0
      ∧ (minFlow s).2 ≤ f1
      ∧ t0 ≤ 4000
      ∧ t1 ≤ 4000)
    ∧ (∃ (s : State) (n : Nat) (cause : Nat),
      domOn s n = true
      ∧ 0 < cause
      ∧ cause ≤ 3
      ∧ s.phase = .running
      ∧ s.spring.discDone = true
      ∧ s.pseq = none
      ∧ s.pwait = [])
    ∧ (∃ (s : State) (n : Nat),
      domPresent s n = true
      ∧ (dom s n).st = .enabling
      ∧ s.pseq = none)
    ∧ (∃ (s : State) (n : Nat),
      domPresent s n = true
      ∧ (dom s n).st = .disabling
      ∧ s.pseq = none)
    ∧ (∃ (s : State) (n : Nat) (m : Nat) (rest : List Nat) (w : SeqWhy),
      domPresent s n = true
      ∧ (dom s n).st = .enabling
      ∧ s.pseq = some { up := true, todo := n :: m :: rest, why := w }
      ∧ m ≠ n
      ∧ (dom s m).st = .off)
    ∧ (∃ (s : State) (d : Nat) (_i : TrainIn),
      domOn s (8 * d + 7) = true
      ∧ ((stack s (5 * d)).training = true ∨ (stack s (5 * d)).initializing = true))
    ∧ (∃ (s : State) (_i : SpringIn),
      s.phase = .spring
      ∧ s.spring.started.contains 6 = true
      ∧ s.spring.done.contains 6 = false
      ∧ s.pseq = none)
    ∧ (∃ (s : State) (_g : Bool),
      s.phase = .spring
      ∧ s.spring.started.contains 5 = true
      ∧ s.spring.keyCheck = .running
      ∧ s.spring.done.contains 7 = false
      ∧ s.flash.akDigest = some (bootedSlot s).cpDigest)
    ∧ (∃ (s : State),
      s.phase = .spring
      ∧ s.spring.started.contains 5 = true
      ∧ s.spring.keyCheck = .running
      ∧ s.spring.done.contains 7 = false
      ∧ s.flash.akDigest ≠ some (bootedSlot s).cpDigest)
    ∧ (∃ (s : State) (k : Nat),
      s.phase = .spring
      ∧ s.spring.started.contains k = true
      ∧ s.spring.done.contains k = false
      ∧ k ≤ 10) := by
  refine ⟨⟨{ springing [1, 2, 3, 4, 5] [1, 2, 3, 4] with spring := { coolantWait := true } }, 600, 600, 4000, 4000,
      ?_⟩,
    ⟨svc, 79, 3, ?_⟩,
    ⟨domAs 63 .enabling svc, 63, ?_⟩,
    ⟨domAs 0 .disabling svc, 0, ?_⟩,
    ⟨{ domAs 0 .enabling (domAs 1 .off svc) with pseq := some { up := true, todo := [0, 1], why := .springStep } },
      0, 1, [], .springStep, ?_⟩,
    ⟨{ svc with stk := [(35, { initializing := true })] }, 7, { failed := [79] }, ?_⟩,
    ⟨{ springing [1, 2, 3, 4, 5, 6] [1, 2, 3, 4, 5] with spring := { started := [6] } }, {}, ?_⟩,
    ⟨{ springing [1, 2, 3, 4, 5] [1, 2, 3, 4] with spring := { started := [5], keyCheck := .running }, flash := { akDigest := some [] } },
      true, ?_⟩,
    ⟨{ springing [1, 2, 3, 4, 5] [1, 2, 3, 4] with spring := { started := [5], keyCheck := .running } }, ?_⟩,
    ⟨springing [1, 10] [1], 10, ?_⟩⟩ <;>
    repeat' (first | with_reducible rfl | (with_reducible refine some_getD1 _ _ ?_) | (with_reducible refine some_getD2 _ _ ?_) | (with_reducible refine mid_false _ ?_) | (with_reducible refine fst_false _ ?_) | refine And.intro ?_ ?_ | decide +kernel | rfl | refine Or.inl ?_ | (rintro _ (rfl | rfl) <;> decide +kernel) | (intros; simp))

/-- Operands and states that meet the hypotheses of `Obligations.PcieLinksResetsAndStewardship`, clause by clause. -/
theorem meets_PcieLinksResetsAndStewardship :
    (∃ (s : State) (p : Nat),
      p < 2
      ∧ (fn s p).linkUp = true)
    ∧ (∃ (s : State) (p : Nat),
      p < 2
      ∧ domOn s (74 + p) = true
      ∧ (fn s p).linkUp = false)
    ∧ (∃ (s : State) (p : Nat),
      p < 2
      ∧ (fn s p).training = true
      ∧ (fn s p).perstLow = false
      ∧ domOn s (74 + p) = true
      ∧ s.steward = some p)
    ∧ (∃ (s : State) (p : Nat),
      p < 2
      ∧ (fn s p).training = true
      ∧ (fn s p).perstLow = false
      ∧ domOn s (74 + p) = true
      ∧ s.steward = some (1 - p)
      ∧ (fn s (1 - p)).overdue = true
      ∧ s.spring.mbxReady = true)
    ∧ (∃ (s : State) (p : Nat),
      p < 2
      ∧ (fn s p).linkUp = true
      ∧ domOn s (74 + p) = true
      ∧ (fn s p).perstLow = false)
    ∧ (∃ (s : State) (p : Nat),
      p < 2
      ∧ (fn s p).linkUp = true)
    ∧ (∃ (s : State) (p : Nat),
      p < 2
      ∧ (fn s p).linkUp = true)
    ∧ (∃ (s : State) (p : Nat),
      p < 2
      ∧ s.steward = some p
      ∧ (fn s p).linkUp = false
      ∧ (fn s (1 - p)).linkUp = true
      ∧ s.spring.mbxReady = true) := by
  refine ⟨⟨svc, 1, ?_⟩,
    ⟨{ svc with fn1 := {} }, 1, ?_⟩,
    ⟨{ svc with fn0 := { training := true, perstLow := false } }, 0, ?_⟩,
    ⟨{ svc with fn0 := { overdue := true }, fn1 := { training := true, perstLow := false } }, 1, ?_⟩,
    ⟨svc, 1, ?_⟩,
    ⟨svc, 1, ?_⟩,
    ⟨svc, 1, ?_⟩,
    ⟨{ svc with fn0 := {} }, 0, ?_⟩⟩ <;>
    repeat' (first | with_reducible rfl | (with_reducible refine some_getD1 _ _ ?_) | (with_reducible refine some_getD2 _ _ ?_) | (with_reducible refine mid_false _ ?_) | (with_reducible refine fst_false _ ?_) | refine And.intro ?_ ?_ | decide +kernel | rfl | refine Or.inl ?_ | (rintro _ (rfl | rfl) <;> decide +kernel) | (intros; simp))

/-- Operands and states that meet the hypotheses of `Obligations.BlockLifeCycleAndParity`, clause by clause. -/
theorem meets_BlockLifeCycleAndParity :
    (∃ (s : State) (who : Nat) (v : W32) (f : Frame0),
      frameAt f.base = some f
      ∧ whoUp s who = true
      ∧ mayWrite s who f f.base = true
      ∧ frameAbsent s f = false
      ∧ domOn s f.dom = true
      ∧ f.code ≠ 0x12
      ∧ cpBarred s who f = false
      ∧ (blk s f.base).st = .off
      ∧ bit v 0 = true)
    ∧ (∃ (s : State) (who : Nat) (v : W32) (f : Frame0),
      frameAt f.base = some f
      ∧ whoUp s who = true
      ∧ mayWrite s who f f.base = true
      ∧ frameAbsent s f = false
      ∧ domOn s f.dom = true
      ∧ f.code ≠ 0x12
      ∧ cpBarred s who f = false
      ∧ (blk s f.base).st = .on
      ∧ bit v 0 = false)
    ∧ (∃ (s : State) (who : Nat) (_v : W32) (f : Frame0),
      frameAt f.base = some f
      ∧ whoUp s who = true
      ∧ mayWrite s who f f.base = true
      ∧ cpBarred s who f = true)
    ∧ (∃ (s : State) (who : Nat) (_v : W32) (f : Frame0),
      frameAt f.base = some f
      ∧ whoUp s who = true
      ∧ mayWrite s who f f.base = false)
    ∧ (∃ (s : State) (f : Frame0),
      ringNamed f.base = none
      ∧ frameAt f.base = some f
      ∧ domOn s f.dom = true
      ∧ (blk s f.base).st = .disabling
      ∧ (blk s f.base).recovering = false
      ∧ (blk s f.base).enPend = false
      ∧ drained f s = true)
    ∧ (∃ (s : State) (f : Frame0),
      ringNamed f.base = none
      ∧ frameAt f.base = some f
      ∧ (blk s f.base).st = .disabling
      ∧ drained f s = false)
    ∧ (∃ (s : State) (p : Nat) (r : Nat),
      p < 2
      ∧ r < 4
      ∧ (ring s p r).st = .disabling
      ∧ (ring s p r).enPend = false)
    ∧ (∃ (s : State) (f : Frame0),
      ringNamed f.base = none
      ∧ frameAt f.base = some f
      ∧ domOn s f.dom = true
      ∧ f.code ≠ 0x16
      ∧ (blk s f.base).st = .enabling
      ∧ (blk s f.base).en = true
      ∧ (blk s f.base).updPend = false)
    ∧ (∃ (s : State) (p : Nat) (r : Nat),
      p < 2
      ∧ r < 4
      ∧ (ring s p r).st = .enabling
      ∧ (ring s p r).en = true)
    ∧ (∃ (s : State) (f : Frame0),
      frameAt f.base = some f
      ∧ frameAbsent s f = false
      ∧ domOn s f.dom = true
      ∧ 0 < f.size
      ∧ f.code ≠ 0x1B)
    ∧ (∃ (s : State) (p : Nat) (r : Nat),
      p < 2
      ∧ r < 4
      ∧ domOn s (74 + p) = true)
    ∧ (∃ (s : State) (f : Frame0),
      frameAt f.base = some f
      ∧ domOn s f.dom = true
      ∧ 0 < f.size
      ∧ f.code = 0x1B
      ∧ frameAbsent s f = false
      ∧ cpUp s = true)
    ∧ (∃ (s : State) (f : Frame0),
      frameAt f.base = some f
      ∧ domOn s f.dom = true
      ∧ s.rel.restarting = false
      ∧ s.rel.held = false
      ∧ (blk s f.base).recovering = true
      ∧ (blk s f.base).st = .off
      ∧ blkOn s baseSEC = true) := by
  refine ⟨⟨blkAs 0x40000 {} svc, 0, 0xFFFFFFFF, frm 0x40000, ?_⟩,
    ⟨svcP true true, 0, 0xFFFFFFFE, frm 0x40000, ?_⟩,
    ⟨blkAs baseSEC {} svc, 0, 1, frm 0x40000, ?_⟩,
    ⟨svc, 1, 1, frm 0x40000, ?_⟩,
    ⟨blkAs 0x40000 { st := .disabling } svc, frm 0x40000, ?_⟩,
    ⟨blkAs 0x60000 { st := .disabling } { svc with rel := { checks := [{ die := 0, cluster := 0, core := 0, checker := 1, slot := 0, tag := 0, job := 1, rt := 0 }] } },
      frm 0x60000, ?_⟩,
    ⟨ringAs 3 { st := .disabling } svc, 0, 3, ?_⟩,
    ⟨blkAs 0x40000 { st := .enabling, en := true } svc, frm 0x40000, ?_⟩,
    ⟨ringAs 3 { st := .enabling, en := true } svc, 0, 3, ?_⟩,
    ⟨svc, frm 0x40000, ?_⟩,
    ⟨svc, 1, 3, ?_⟩,
    ⟨svc, frm 0x3820000, ?_⟩,
    ⟨blkAs 0x40000 { recovering := true } svc, frm 0x40000, ?_⟩⟩ <;>
    repeat' (first | with_reducible rfl | (with_reducible refine some_getD1 _ _ ?_) | (with_reducible refine some_getD2 _ _ ?_) | (with_reducible refine mid_false _ ?_) | (with_reducible refine fst_false _ ?_) | refine And.intro ?_ ?_ | decide +kernel | rfl | refine Or.inl ?_ | (rintro _ (rfl | rfl) <;> decide +kernel) | (intros; simp))

/-- Operands and states that meet the hypotheses of `Obligations.RegisterWritesShadowsAndUpdates`, clause by clause. -/
theorem meets_RegisterWritesShadowsAndUpdates :
    (∃ (s : State) (p : Nat) (r : Nat) (_v : W32),
      p < 2
      ∧ r < 4
      ∧ (fn s p).linkUp = true
      ∧ (ring s p r).st = .off)
    ∧ (∃ (s : State) (p : Nat) (_off : Nat) (_v : W32),
      p < 2
      ∧ (fn s p).linkUp = true)
    ∧ (∃ (s : State) (who : Nat) (_v : W32) (f : Frame0),
      frameAt (f.base + 0x20) = some f
      ∧ (rwbReset f.code).isSome = true
      ∧ whoUp s who = true
      ∧ mayWrite s who f (f.base + 0x20) = true
      ∧ cpBarred s who f = false
      ∧ frameAbsent s f = false
      ∧ domOn s f.dom = true
      ∧ compat s = true
      ∧ (blk s f.base).st = .on)
    ∧ (∃ (s : State) (who : Nat) (_v : W32) (f : Frame0),
      frameAt (f.base + 0x20) = some f
      ∧ (rwbReset f.code).isSome = true
      ∧ whoUp s who = true
      ∧ mayWrite s who f (f.base + 0x20) = true
      ∧ cpBarred s who f = false
      ∧ frameAbsent s f = false
      ∧ domOn s f.dom = true
      ∧ (blk s f.base).st = .off)
    ∧ (∃ (s : State) (v : W32) (b : Nat) (f : Frame0),
      whoUp s 0 = true
      ∧ domOn s 76 = true
      ∧ compat s = true
      ∧ blkOn s baseSEC = true
      ∧ blkOn s baseGLB = true
      ∧ b ∈ updFrames s v
      ∧ frameAt b = some f
      ∧ (blk s f.base).st = .on)
    ∧ (∃ (s : State) (p : Nat) (off : Nat) (f : Frame0),
      p < 2
      ∧ regAt off = some f
      ∧ (fn s p).linkUp = true
      ∧ frameAbsent s f = false
      ∧ mayRead s (p + 1) f off = true)
    ∧ (∃ (s : State) (p : Nat) (off : Nat) (f : Frame0),
      p < 2
      ∧ regAt off = some f
      ∧ (fn s p).linkUp = true
      ∧ frameAbsent s f = false
      ∧ mayRead s (p + 1) f off = false) := by
  refine ⟨⟨svc, 1, 3, 0xFFFFFFFF, ?_⟩,
    ⟨svc, 1, 0xFFFFFC, 7, ?_⟩,
    ⟨svcP false true, 0, 7, frm 0x40000, ?_⟩,
    ⟨blkAs 0x40000 {} (svcP false true), 0, 7, frm 0x40000, ?_⟩,
    ⟨svcP false true, 0x101, baseWAT 0 0, frm (baseWAT 0 0), ?_⟩,
    ⟨svc, 0, 0x30, frm 0x30, ?_⟩,
    ⟨svc, 0, 0x40020, frm 0x40020, ?_⟩⟩ <;>
    repeat' (first | with_reducible rfl | (with_reducible refine some_getD1 _ _ ?_) | (with_reducible refine some_getD2 _ _ ?_) | (with_reducible refine mid_false _ ?_) | (with_reducible refine fst_false _ ?_) | refine And.intro ?_ ?_ | decide +kernel | rfl | refine Or.inl ?_ | (rintro _ (rfl | rfl) <;> decide +kernel) | (intros; simp))

abbrev registerAndBarTwoAccesses1 : State := { svc with fn0 := { svc.fn0 with maps := [(7, some { target := 0x200000, read := true, write := false, realm := 0 })] } }

/-- Operands and states that meet the hypotheses of `Obligations.RegisterAndBarTwoAccesses`, clause by clause. -/
theorem meets_RegisterAndBarTwoAccesses :
    (∃ (s : State) (p : Nat) (_bar : Nat) (_off : Nat) (_n : Nat) (_mask : Nat),
      p < 2
      ∧ (fn s p).linkUp = true)
    ∧ (∃ (s : State) (p : Nat) (_off : Nat),
      p < 2
      ∧ (fn s p).linkUp = true)
    ∧ (∃ (s : State) (p : Nat) (off : Nat) (f : Frame0),
      p < 2
      ∧ (fn s p).linkUp = true
      ∧ regAt off = some f
      ∧ mayRead s (p + 1) f off = false)
    ∧ (∃ (s : State) (p : Nat) (off : Nat),
      p < 2
      ∧ (fn s p).linkUp = true
      ∧ regAt off = none)
    ∧ (∃ (s : State) (p : Nat) (_off : Nat) (_len : Nat),
      p < 2
      ∧ (fn s p).linkUp = true
      ∧ winterRuns s = true)
    ∧ (∃ (s : State) (p : Nat) (off : Nat) (_len : Nat),
      p < 2
      ∧ (fn s p).linkUp = true
      ∧ winterRuns s = false
      ∧ tget none (fn s p).maps (off / 0x200000) = none)
    ∧ (∃ (s : State) (p : Nat) (off : Nat) (_b : List Byte) (m : BarMap),
      p < 2
      ∧ (fn s p).linkUp = true
      ∧ winterRuns s = false
      ∧ tget none (fn s p).maps (off / 0x200000) = some m
      ∧ m.write = false)
    ∧ (∃ (s : State) (p : Nat) (off : Nat) (len : Nat) (m : BarMap),
      p < 2
      ∧ (fn s p).linkUp = true
      ∧ winterRuns s = false
      ∧ tget none (fn s p).maps (off / 0x200000) = some m
      ∧ m.read = true
      ∧ m.target < 2 ^ 63
      ∧ checkRange m.realm .host false (m.target + off % 0x200000) len s = none)
    ∧ (∃ (s : State) (p : Nat) (off : Nat) (b : List Byte) (m : BarMap),
      p < 2
      ∧ (fn s p).linkUp = true
      ∧ winterRuns s = false
      ∧ tget none (fn s p).maps (off / 0x200000) = some m
      ∧ m.write = true
      ∧ m.target < 2 ^ 63
      ∧ checkRange m.realm .host true (m.target + off % 0x200000) b.length s = none) := by
  refine ⟨⟨svc, 0, 2, 0xFFFFFFFF, 8, 3, ?_⟩,
    ⟨svc, 1, 0xFFFFFF, ?_⟩,
    ⟨svc, 1, 0x40020, frm 0x40020, ?_⟩,
    ⟨svc, 1, 0x40044, ?_⟩,
    ⟨{ svc with sec := { r1 := { st := .winter } } }, 0, 0, 64, ?_⟩,
    ⟨svc, 0, 0x1FFFFF, 64, ?_⟩,
    ⟨registerAndBarTwoAccesses1, 0, 7 * 0x200000, [1], { target := 0x200000, read := true, write := false, realm := 0 },
      ?_⟩,
    ⟨paged 0x200000 1 0 registerAndBarTwoAccesses1, 0, 7 * 0x200000 + 0x1FFFC0, 64, { target := 0x200000, read := true, write := false, realm := 0 },
      ?_⟩,
    ⟨paged 0x200000 1 0 ({ svc with fn0 := { svc.fn0 with maps := [(7, some { target := 0x200000, read := true, write := true, realm := 0 })] } }),
      0, 7 * 0x200000 + 0x1FFFC0, List.replicate 64 5, { target := 0x200000, read := true, write := true, realm := 0 },
      ?_⟩⟩ <;>
    repeat' (first | with_reducible rfl | (with_reducible refine some_getD1 _ _ ?_) | (with_reducible refine some_getD2 _ _ ?_) | (with_reducible refine mid_false _ ?_) | (with_reducible refine fst_false _ ?_) | refine And.intro ?_ ?_ | decide +kernel | rfl | refine Or.inl ?_ | (rintro _ (rfl | rfl) <;> decide +kernel) | (intros; simp))

abbrev ringsFetchAndComplete1 : State := ringAs 3 { st := .on, en := true, descBase := 1, cplBase := 2 } svc

/-- Operands and states that meet the hypotheses of `Obligations.RingsFetchAndComplete`, clause by clause. -/
theorem meets_RingsFetchAndComplete :
    (∃ (s : State) (p : Nat) (r : Nat) (v : W32),
      p < 2
      ∧ r < 4
      ∧ (fn s p).linkUp = true
      ∧ (ring s p r).st = .off
      ∧ bit v 0 = true
      ∧ (ring s p r).descBase ≠ 0
      ∧ (ring s p r).cplBase ≠ 0
      ∧ 4 ≤ fld v 12 4
      ∧ fld v 12 4 ≤ 12)
    ∧ (∃ (s : State) (p : Nat) (r : Nat) (v : W32),
      p < 2
      ∧ r < 4
      ∧ (fn s p).linkUp = true
      ∧ (ring s p r).st = .off
      ∧ bit v 0 = true
      ∧ (ring s p r).descBase = 0)
    ∧ (∃ (s : State) (p : Nat) (r : Nat) (v : W32),
      p < 2
      ∧ r < 4
      ∧ (fn s p).linkUp = true
      ∧ (ring s p r).st = .on
      ∧ bit v 0 = false)
    ∧ (∃ (s : State) (p : Nat) (r : Nat) (v : W32),
      p < 2
      ∧ r < 4
      ∧ (fn s p).linkUp = true
      ∧ (ring s p r).st = .fault
      ∧ bit v 0 = false)
    ∧ (∃ (s : State) (p : Nat) (r : Nat) (d : Desc),
      p < 2
      ∧ r < 4
      ∧ (fn s p).linkUp = true
      ∧ (ring s p r).st = .on
      ∧ mbxServed s = true
      ∧ (ring s p r).fetching = false
      ∧ (ring s p r).rekick = false
      ∧ inflight (ring s p r) < 16
      ∧ bit d.flags 7 = ((ring s p r).fetchNo / 2 ^ (ring s p r).entries.toNat % 2 == 0))
    ∧ (∃ (s : State) (p : Nat) (r : Nat) (_ds : List Desc),
      p < 2
      ∧ r < 4
      ∧ (fn s p).linkUp = true
      ∧ (ring s p r).st = .on
      ∧ mbxServed s = false)
    ∧ (∃ (s : State) (p : Nat) (r : Nat) (d : Desc),
      p < 2
      ∧ r < 4
      ∧ (ring s p r).st = .on
      ∧ mbxServed s = true
      ∧ (ring s p r).fetching = true
      ∧ (ring s p r).rekick = false
      ∧ inflight (ring s p r) < 16
      ∧ bit d.flags 7 = ((ring s p r).fetchNo / 2 ^ (ring s p r).entries.toNat % 2 == 0))
    ∧ (∃ (s : State) (p : Nat) (r : Nat) (_cause : Nat),
      p < 2
      ∧ r < 4
      ∧ (ring s p r).st = .on
      ∧ mbxServed s = true)
    ∧ (∃ (s : State) (p : Nat) (r : Nat) (e : InFlight),
      p < 2
      ∧ r < 4
      ∧ mbxServed s = true
      ∧ (∀ x ∈ (ring s p r).inflight, inTransfer x = false)
      ∧ firstWaiting (ring s p r).inflight = some e
      ∧ fenceOpen (ring s p r).inflight e = true
      ∧ hostReads e.desc = true)
    ∧ (∃ (s : State) (p : Nat) (r : Nat) (e : InFlight),
      p < 2
      ∧ r < 4
      ∧ (ring s p r).inflight.find? (fun x => inTransfer x && x.desc.tag == e.desc.tag && hostReads x.desc) = some e)
    ∧ (∃ (s : State) (p : Nat) (r : Nat) (nth : Nat) (e : InFlight) (x : Result),
      p < 2
      ∧ r < 4
      ∧ cpRuns s = true
      ∧ s.spring.mbxReady = true
      ∧ startedCmd s p r e.desc.tag nth = some e
      ∧ e.result = some x
      ∧ e.dropped = false
      ∧ (ring s p r).irqEn = false
      ∧ bit e.desc.flags 2 = false) := by
  refine ⟨⟨ringAs 3 { descBase := 1, cplBase := 2 } svc, 0, 3, 0xC001, ?_⟩,
    ⟨svc, 1, 3, 0x4001, ?_⟩,
    ⟨ringsFetchAndComplete1, 0, 3, 0, ?_⟩,
    ⟨ringAs 3 { st := .fault } svc, 0, 3, 0, ?_⟩,
    ⟨ringsFetchAndComplete1, 0, 3, (entryOf 0x0101 0 [] 0x80).desc, ?_⟩,
    ⟨{ ringsFetchAndComplete1 with phase := .spring }, 0, 3, [(entryOf 0x0101 0 [] 0).desc], ?_⟩,
    ⟨ringAs 3 { st := .on, en := true, descBase := 1, cplBase := 2, fetching := true, fetchNo := 16 } svc, 0, 3,
      (entryOf 0x0101 0 [] 0).desc, ?_⟩,
    ⟨ringsFetchAndComplete1, 0, 3, 1, ?_⟩,
    ⟨withCmd 1 (entryOf 0x0502 1 []) (keyed svc), 0, 1, entryOf 0x0502 1 [], ?_⟩,
    ⟨withCmd 1 { entryOf 0x0302 1 [64, 64, 64] with started := true } (keyed svc), 0, 1, { entryOf 0x0302 1 [64, 64, 64] with started := true },
      ?_⟩,
    ⟨withCmd 0 { entryOf 0x0101 0 [] with started := true, result := some { status := 0 } } svc, 0, 0, 0,
      { entryOf 0x0101 0 [] with started := true, result := some { status := 0 } }, { status := 0 }, ?_⟩⟩ <;>
    repeat' (first | with_reducible rfl | (with_reducible refine some_getD1 _ _ ?_) | (with_reducible refine some_getD2 _ _ ?_) | (with_reducible refine mid_false _ ?_) | (with_reducible refine fst_false _ ?_) | refine And.intro ?_ ?_ | decide +kernel | rfl | refine Or.inl ?_ | (rintro _ (rfl | rfl) <;> decide +kernel) | (intros; simp))

/-- Operands and states that meet the hypotheses of `Obligations.InformationAndSettingsCommands`, clause by clause. -/
theorem meets_InformationAndSettingsCommands :
    (∃ (s : State) (c : Cmd) (e : InFlight),
      nextCmd c s = some e
      ∧ knownOps.contains e.desc.opcode.toNat = false)
    ∧ (∃ (s : State) (c : Cmd) (e : InFlight),
      (FromOperator 0x0101 3 c e s ∨ FromTelemetry 0x0101 3 c e s ∨ FromOpen c.ring 0x0101 3 c e s)
      ∧ badBuf e.desc 0 4096 = none)
    ∧ (∃ (s : State) (c : Cmd) (e : InFlight),
      FromSteward 0x0102 1 c e s
      ∧ e.desc.a0.toNat < 4
      ∧ blkOn s baseSEC = true
      ∧ profileFault s e.desc.a0.toNat (storedProfile s e.desc.a0.toNat) = none)
    ∧ (∃ (s : State) (c : Cmd) (e : InFlight),
      FromSteward 0x0102 1 c e s
      ∧ e.desc.a0 = 7
      ∧ blkOn s baseSEC = true)
    ∧ (∃ (s : State) (c : Cmd) (e : InFlight) (p : Nat),
      FromSteward 0x0103 0 c e s
      ∧ s.steward = some p
      ∧ (fn s (1 - p)).linkUp = true
      ∧ (ring s (1 - p) 0).st = .on)
    ∧ (∃ (s : State) (c : Cmd) (e : InFlight),
      FromSteward 0x0104 1 c e s
      ∧ fld e.desc.a0 0 20 = 0
      ∧ anyJob s = false
      ∧ s.rtb.armed = []
      ∧ s.rtb.load = none)
    ∧ (∃ (s : State) (c : Cmd) (e : InFlight),
      FromSteward 0x0105 1 c e s
      ∧ (capRange s).1 ≤ e.desc.a0.toNat
      ∧ e.desc.a0.toNat ≤ (capRange s).2
      ∧ blkOn s baseSEC = true)
    ∧ (∃ (s : State) (c : Cmd) (e : InFlight),
      FromSteward 0x0105 1 c e s
      ∧ blkOn s baseSEC = false) := by
  refine ⟨⟨withCmd 0 (entryOf 0xffff 0 []) (svc), cmdOf 0 (entryOf 0xffff 0 []), entryOf 0xffff 0 [], ?_⟩,
    ⟨withCmd 0 (entryOf 0x101 0 [64, 4096]) (svc), cmdOf 0 (entryOf 0x101 0 [64, 4096]), entryOf 0x101 0 [64,
      4096], ?_⟩,
    ⟨withCmd 0 (entryOf 0x102 0 [3]) ({ svc with flash := { svc.flash with profiles := [(3, profRec 3 (profDigests.getD 3 0))] } }),
      cmdOf 0 (entryOf 0x102 0 [3]), entryOf 0x102 0 [3], ?_⟩,
    ⟨withCmd 0 (entryOf 0x102 0 [7]) (svc), cmdOf 0 (entryOf 0x102 0 [7]), entryOf 0x102 0 [7], ?_⟩,
    ⟨withCmd 0 (entryOf 0x103 0 []) (setRing svc 1 0 { st := .on }), cmdOf 0 (entryOf 0x103 0 []),
      entryOf 0x103 0 [], 0, ?_⟩,
    ⟨withCmd 0 (entryOf 0x104 0 [0xFFF00000]) (svc), cmdOf 0 (entryOf 0x104 0 [0xFFF00000]),
      entryOf 0x104 0 [0xFFF00000], ?_⟩,
    ⟨withCmd 0 (entryOf 0x105 0 [480]) (svc), cmdOf 0 (entryOf 0x105 0 [480]), entryOf 0x105 0 [480], ?_⟩,
    ⟨withCmd 0 (entryOf 0x105 0 [480]) (blkAs baseSEC {} svc), cmdOf 0 (entryOf 0x105 0 [480]),
      entryOf 0x105 0 [480], ?_⟩⟩ <;>
    repeat' (first | with_reducible rfl | (with_reducible refine some_getD1 _ _ ?_) | (with_reducible refine some_getD2 _ _ ?_) | (with_reducible refine mid_false _ ?_) | (with_reducible refine fst_false _ ?_) | refine And.intro ?_ ?_ | decide +kernel | rfl | refine Or.inl ?_ | (rintro _ (rfl | rfl) <;> decide +kernel) | (intros; simp))

/-- Operands and states that meet the hypotheses of `Obligations.DomainControlAndShutdown`, clause by clause. -/
theorem meets_DomainControlAndShutdown :
    (∃ (s : State) (c : Cmd) (e : InFlight),
      FromSteward 0x0106 7 c e s
      ∧ blkOn s baseSEC = true
      ∧ e.desc.a1.toNat < 2 ^ 16
      ∧ e.desc.a2 = 1
      ∧ (∀ n ∈ namedDoms e.desc, controllable s n = true ∧ domOn s n = true))
    ∧ (∃ (s : State) (c : Cmd) (e : InFlight) (n : Nat),
      FromSteward 0x0106 7 c e s
      ∧ blkOn s baseSEC = true
      ∧ e.desc.a1.toNat < 2 ^ 16
      ∧ e.desc.a2 = 1
      ∧ namedDoms e.desc = [n]
      ∧ controllable s n = true
      ∧ (dom s n).st = .off
      ∧ (∀ m ∈ domReq n, domOn s m = true)
      ∧ s.pseq = none)
    ∧ (∃ (s : State) (c : Cmd) (e : InFlight) (n : Nat),
      FromSteward 0x0106 7 c e s
      ∧ blkOn s baseSEC = true
      ∧ e.desc.a1.toNat < 2 ^ 16
      ∧ e.desc.a2 = 0
      ∧ n ∈ namedDoms e.desc
      ∧ (dom s n).st = .fault
      ∧ domInUse s n = true
      ∧ (∀ m ∈ namedDoms e.desc, controllable s m = true))
    ∧ (∃ (s : State) (c : Cmd) (e : InFlight) (n : Nat),
      FromSteward 0x0106 7 c e s
      ∧ blkOn s baseSEC = true
      ∧ e.desc.a1.toNat < 2 ^ 16
      ∧ e.desc.a2 = 0
      ∧ namedDoms e.desc = [n]
      ∧ controllable s n = true
      ∧ n < 68
      ∧ (dom s n).st = .on
      ∧ (∀ m < 80, n ∈ domReq m → (dom s m).st = .off)
      ∧ domInUse s n = false
      ∧ s.pseq = none)
    ∧ (∃ (s : State) (c : Cmd) (e : InFlight),
      FromSteward 0x0107 1 c e s
      ∧ e.desc.a0.toNat < 2
      ∧ anyJob s = false
      ∧ heldLocks s = []
      ∧ tenantOpen s = false
      ∧ cpRuns s = true)
    ∧ (∃ (s : State) (c : Cmd) (e : InFlight),
      FromSteward 0x0107 1 c e s
      ∧ e.desc.a0.toNat < 2
      ∧ anyJob s = false
      ∧ heldLocks s = []
      ∧ (realmOf s 1).st = .keyed)
    ∧ (∃ (s : State) (h : Shutdown) (n : Nat) (ns : List Nat),
      s.shut = some h
      ∧ h.item = 6
      ∧ (powerOrder s).reverse = n :: ns
      ∧ (dom s n).st = .on) := by
  refine ⟨⟨withCmd 0 (entryOf 0x106 0 [0xFF, 0x60, 1]) (svc), cmdOf 0 (entryOf 0x106 0 [0xFF, 0x60, 1]),
      entryOf 0x106 0 [0xFF, 0x60, 1], ?_⟩,
    ⟨withCmd 0 (entryOf 0x106 0 [0, 8, 1]) (domAs 67 .off svc), cmdOf 0 (entryOf 0x106 0 [0, 8, 1]),
      entryOf 0x106 0 [0, 8, 1], 67, ?_⟩,
    ⟨withCmd 0 (entryOf 0x106 0 [16, 0, 0]) (domAs 4 .fault { svc with jobA := some jobAd }),
      cmdOf 0 (entryOf 0x106 0 [16, 0, 0]), entryOf 0x106 0 [16, 0, 0], 4, ?_⟩,
    ⟨withCmd 0 (entryOf 0x106 0 [1, 0, 0]) (svc), cmdOf 0 (entryOf 0x106 0 [1, 0, 0]), entryOf 0x106 0 [1, 0, 0],
      0, ?_⟩,
    ⟨withCmd 0 (entryOf 0x107 0 [1]) (svc), cmdOf 0 (entryOf 0x107 0 [1]), entryOf 0x107 0 [1], ?_⟩,
    ⟨withCmd 0 (entryOf 0x107 0 [1]) (keyed svc), cmdOf 0 (entryOf 0x107 0 [1]), entryOf 0x107 0 [1], ?_⟩,
    ⟨{ svc with shut := some { target := .dormant, force := false, port := none, no := 0, item := 6 } },
      { target := .dormant, force := false, port := none, no := 0, item := 6 }, 67,
      (powerOrder svc).reverse.tail, ?_⟩⟩ <;>
    repeat' (first | with_reducible rfl | (with_reducible refine some_getD1 _ _ ?_) | (with_reducible refine some_getD2 _ _ ?_) | (with_reducible refine mid_false _ ?_) | (with_reducible refine fst_false _ ?_) | refine And.intro ?_ ?_ | decide +kernel | rfl | refine Or.inl ?_ | (rintro _ (rfl | rfl) <;> decide +kernel) | (intros; simp))

/-- Operands and states that meet the hypotheses of `Obligations.RealmsOpenAndTakeKeys`, clause by clause. -/
theorem meets_RealmsOpenAndTakeKeys :
    (∃ (s : State) (c : Cmd) (e : InFlight),
      CallReady 0x0201 3 c e s
      ∧ (c.ring = 1 ∨ c.ring = 2 ∧ twoRealm s = true)
      ∧ e.desc.realm.toNat = c.ring
      ∧ e.desc.rtAt = 0
      ∧ (realmOf s c.ring).st = .closed
      ∧ (realmOf s c.ring).owner = none
      ∧ s.sec.dbgOpen = false
      ∧ e.desc.a0.toNat % 64 = 0
      ∧ e.desc.a1 = 64
      ∧ requestOk c.ring (bufAt c 0 64) = true)
    ∧ (∃ (s : State) (c : Cmd) (e : InFlight),
      CallReady 0x0201 3 c e s
      ∧ c.ring = 2
      ∧ twoRealm s = false
      ∧ e.desc.realm = 2
      ∧ e.desc.rtAt = 0
      ∧ (realmOf s 2).st = .closed
      ∧ (realmOf s 2).owner = none
      ∧ s.sec.dbgOpen = false
      ∧ e.desc.a0.toNat % 64 = 0
      ∧ e.desc.a1 = 64
      ∧ requestOk 2 (bufAt c 0 64) = true)
    ∧ (∃ (s : State) (c : Cmd) (e : InFlight),
      CallReady 0x0502 3 c e s
      ∧ (c.ring = 1 ∨ c.ring = 2)
      ∧ e.desc.realm.toNat = c.ring
      ∧ e.desc.rtAt = 0
      ∧ (realmOf s c.ring).st = .opened
      ∧ (realmOf s c.ring).owner = some c.port
      ∧ blkOn s baseSEC = true
      ∧ badRec e.desc 0 512 = none)
    ∧ (∃ (s : State) (c : Cmd) (e : InFlight),
      FromRealm c.ring 0x0503 3 c e s
      ∧ blkOn s baseSEC = true
      ∧ badRec e.desc 0 512 = none
      ∧ rtRefused s = false
      ∧ (realmOf s c.ring).two = false
      ∧ armFull s = false) := by
  refine ⟨⟨withCmd 1 (entryOf 0x201 1 [64, 64]) (svc), cmdOf 1 (entryOf 0x201 1 [64, 64]) ([1, 0, 1, 15]),
      entryOf 0x201 1 [64, 64], ?_⟩,
    ⟨withCmd 2 (entryOf 0x201 2 [64, 64]) (svcP false false), cmdOf 2 (entryOf 0x201 2 [64, 64]) ([1, 0, 2, 15]),
      entryOf 0x201 2 [64, 64], ?_⟩,
    ⟨withCmd 1 (entryOf 0x502 1 [64, 512]) ({ svc with sec := { svc.sec with r1 := { st := .opened, owner := some 0 } } }),
      cmdOf 1 (entryOf 0x502 1 [64, 512]), entryOf 0x502 1 [64, 512], ?_⟩,
    ⟨withCmd 1 (entryOf 0x503 1 [64, 512]) (keyed ({ svc with rtb := { svc.rtb with valid := true, raw := 2500000 } })),
      cmdOf 1 (entryOf 0x503 1 [64, 512]), entryOf 0x503 1 [64, 512], ?_⟩⟩ <;>
    repeat' (first | with_reducible rfl | (with_reducible refine some_getD1 _ _ ?_) | (with_reducible refine some_getD2 _ _ ?_) | (with_reducible refine mid_false _ ?_) | (with_reducible refine fst_false _ ?_) | refine And.intro ?_ ?_ | decide +kernel | rfl | refine Or.inl ?_ | (rintro _ (rfl | rfl) <;> decide +kernel) | (intros; simp))

abbrev epochSweepAndAttestation1 : State := { svc with rtb := { svc.rtb with valid := true, raw := 2500000 } }

/-- Operands and states that meet the hypotheses of `Obligations.EpochSweepAndAttestation`, clause by clause. -/
theorem meets_EpochSweepAndAttestation :
    (∃ (s : State) (r : Nat),
      (r = 1 ∨ r = 2)
      ∧ (realmOf s r).st = .keyed
      ∧ (realmOf s r).two = true
      ∧ (realmOf s r).linkNew = true
      ∧ (realmOf s r).sweeping = false
      ∧ blkOn s baseSEC = true
      ∧ (realmOf s r).linkAt.toNat + 2500000 ≤ (rtNow s).toNat)
    ∧ (∃ (s : State) (r : Nat),
      (r = 1 ∨ r = 2)
      ∧ (realmOf s r).sweeping = true
      ∧ blkOn s baseSEC = true)
    ∧ (∃ (s : State) (c : Cmd) (e : InFlight),
      FromOperator 0x0501 63 c e s
      ∧ blkOn s baseATT = true
      ∧ badBuf e.desc 4 1536 = none)
    ∧ (∃ (s : State) (c : Cmd) (e : InFlight),
      FromOpen c.ring 0x0501 63 c e s
      ∧ blkOn s baseATT = true
      ∧ badBuf e.desc 4 1536 = none)
    ∧ (∃ (s : State) (c : Cmd) (e : InFlight),
      (FromOperator 0x0504 3 c e s ∨ FromTelemetry 0x0504 3 c e s ∨ FromRealm c.ring 0x0504 3 c e s)
      ∧ e.desc.a0.toNat % 64 = 0
      ∧ e.desc.a1.toNat % 64 = 0) := by
  refine ⟨⟨{ epochSweepAndAttestation1 with sec := { svc.sec with r1 := { st := .keyed, owner := some 0, two := true, linkNew := true } } },
      1, ?_⟩,
    ⟨{ epochSweepAndAttestation1 with sec := { svc.sec with r1 := { st := .keyed, owner := some 0, sweeping := true } } },
      1, ?_⟩,
    ⟨withCmd 0 (entryOf 0x501 0 [1, 2, 3, 4, 64, 1536]) (svc), cmdOf 0 (entryOf 0x501 0 [1, 2, 3, 4, 64, 1536]),
      entryOf 0x501 0 [1, 2, 3, 4, 64, 1536], ?_⟩,
    ⟨withCmd 1 (entryOf 0x501 1 [1, 2, 3, 4, 64, 1536]) ({ svc with sec := { svc.sec with r1 := { st := .opened, owner := some 0 } } }),
      cmdOf 1 (entryOf 0x501 1 [1, 2, 3, 4, 64, 1536]), entryOf 0x501 1 [1, 2, 3, 4, 64, 1536], ?_⟩,
    ⟨withCmd 0 (entryOf 0x504 0 [64, 128]) (svc), cmdOf 0 (entryOf 0x504 0 [64, 128]), entryOf 0x504 0 [64, 128],
      ?_⟩⟩ <;>
    repeat' (first | with_reducible rfl | (with_reducible refine some_getD1 _ _ ?_) | (with_reducible refine some_getD2 _ _ ?_) | (with_reducible refine mid_false _ ?_) | (with_reducible refine fst_false _ ?_) | refine And.intro ?_ ?_ | decide +kernel | rfl | refine Or.inl ?_ | (rintro _ (rfl | rfl) <;> decide +kernel) | (intros; simp))

abbrev realmsCloseThroughWinter1 : State := { svc with sec := { svc.sec with r1 := { st := .opened, owner := some 0 } } }

/-- Operands and states that meet the hypotheses of `Obligations.RealmsCloseThroughWinter`, clause by clause. -/
theorem meets_RealmsCloseThroughWinter :
    (∃ (s : State) (c : Cmd) (e : InFlight),
      FromOpen c.ring 0x0202 3 c e s
      ∧ badBuf e.desc 0 1536 = none
      ∧ realmJobs s c.ring = [])
    ∧ (∃ (s : State) (c : Cmd) (e : InFlight) (j : Job),
      FromOpen c.ring 0x0202 3 c e s
      ∧ badBuf e.desc 0 1536 = none
      ∧ forced e.desc = true
      ∧ s.jobA = some j
      ∧ j.realm = c.ring
      ∧ j.step = none
      ∧ j.sol = .none
      ∧ s.jobB = none)
    ∧ (∃ (s : State) (c : Cmd) (e : InFlight),
      FromSteward 0x0202 3 c e s
      ∧ forced e.desc = true
      ∧ badBuf e.desc 0 1536 = none
      ∧ ((realmOf s 1).st = .opened ∨ (realmOf s 1).st = .keyed)
      ∧ (realmOf s 2).st = .closed
      ∧ realmJobs s 1 = [])
    ∧ (∃ (s : State) (r : Nat),
      (r = 1 ∨ r = 2)
      ∧ (realmOf s r).st = .winter
      ∧ (realmOf s r).winterStep = some 1
      ∧ blkOn s baseSEC = true
      ∧ blkOn s baseATT = true
      ∧ realmJobs s r = [])
    ∧ (∃ (s : State) (r : Nat),
      (r = 1 ∨ r = 2)
      ∧ (realmOf s r).st = .winter
      ∧ (realmOf s r).winterStep = some 2
      ∧ blkOn s baseSEC = true
      ∧ blkOn s baseATT = true)
    ∧ (∃ (s : State) (r : Nat),
      (r = 1 ∨ r = 2)
      ∧ (realmOf s r).st = .winter
      ∧ (realmOf s r).winterStep = some 3
      ∧ blkOn s baseSEC = true
      ∧ blkOn s baseATT = true)
    ∧ (∃ (s : State) (r : Nat),
      (r = 1 ∨ r = 2)
      ∧ (realmOf s r).st = .winter
      ∧ (realmOf s r).winterStep = some 4
      ∧ blkOn s baseSEC = true
      ∧ blkOn s baseATT = true)
    ∧ (∃ (s : State) (r : Nat),
      (r = 1 ∨ r = 2)
      ∧ (realmOf s r).st = .winter
      ∧ (realmOf s r).winterStep = some 5
      ∧ blkOn s baseSEC = true
      ∧ blkOn s baseATT = true)
    ∧ (∃ (s : State) (r : Nat),
      (r = 1 ∨ r = 2)
      ∧ (realmOf s r).st = .winter
      ∧ (realmOf s r).winterStep = some 6
      ∧ blkOn s baseSEC = true
      ∧ blkOn s baseATT = true
      ∧ s.shut = none) := by
  refine ⟨⟨withCmd 1 (entryOf 0x202 1 [64, 1536]) realmsCloseThroughWinter1, cmdOf 1 (entryOf 0x202 1 [64, 1536]),
      entryOf 0x202 1 [64, 1536], ?_⟩,
    ⟨withCmd 1 (entryOf 0x202 1 [64, 1536] 1) ({ svc with jobA := some { job0 with realm := 1, step := none }, sec := { svc.sec with r1 := { st := .opened, owner := some 0 } } }),
      cmdOf 1 (entryOf 0x202 1 [64, 1536] 1), entryOf 0x202 1 [64, 1536] 1, { job0 with realm := 1, step := none },
      ?_⟩,
    ⟨withCmd 0 (entryOf 0x202 0 [64, 1536] 1) realmsCloseThroughWinter1, cmdOf 0 (entryOf 0x202 0 [64, 1536] 1),
      entryOf 0x202 0 [64, 1536] 1, ?_⟩,
    ⟨{ svc with sec := { svc.sec with r2 := { st := .winter, winterStep := some 1 } } }, 2, ?_⟩,
    ⟨{ svc with sec := { svc.sec with r2 := { st := .winter, winterStep := some 2 } } }, 2, ?_⟩,
    ⟨{ svc with sec := { svc.sec with r2 := { st := .winter, winterStep := some 3 } } }, 2, ?_⟩,
    ⟨{ svc with sec := { svc.sec with r2 := { st := .winter, winterStep := some 4 } } }, 2, ?_⟩,
    ⟨{ svc with sec := { svc.sec with r2 := { st := .winter, winterStep := some 5 } } }, 2, ?_⟩,
    ⟨{ svc with sec := { svc.sec with r2 := { st := .winter, winterStep := some 6 } } }, 2, ?_⟩⟩ <;>
    repeat' (first | with_reducible rfl | (with_reducible refine some_getD1 _ _ ?_) | (with_reducible refine some_getD2 _ _ ?_) | (with_reducible refine mid_false _ ?_) | (with_reducible refine fst_false _ ?_) | refine And.intro ?_ ?_ | decide +kernel | rfl | refine Or.inl ?_ | (rintro _ (rfl | rfl) <;> decide +kernel) | (intros; simp))

abbrev jobsAreAdmittedAndLoaded1 : State := taken (cmdOf 0 (entryOf 0x203 0 [64, 128, 0]) (admRec 1)) (entryOf 0x203 0 [64, 128, 0]) (withCmd 0 (entryOf 0x203 0 [64, 128, 0]) (svc))
abbrev jobsAreAdmittedAndLoaded2 : State := withCmd 0 (entryOf 0x204 0 [64, 128, 1]) ({ svc with jobA := some jobAd, sec := { svc.sec with bindA := some 0 } })

/-- Operands and states that meet the hypotheses of `Obligations.JobsAreAdmittedAndLoaded`, clause by clause. -/
theorem meets_JobsAreAdmittedAndLoaded :
    (∃ (s : State) (c : Cmd) (e : InFlight) (r : Nat) (slot : Nat) (a : Adm) (g : Region × Region × Region) (s1 : State),
      FromHost r 0x0203 7 c e s
      ∧ blkOn s baseSEC = true
      ∧ badRec e.desc 0 128 = none
      ∧ admOk s (bufAt c 0 128) = true
      ∧ a = admOf (bufAt c 0 128)
      ∧ slot = e.desc.a2.toNat
      ∧ slot < 2
      ∧ (twoRealm s = true → r ≠ 0 → slot = r - 1)
      ∧ (∀ x ∈ admSlots a slot, slotTaken s x r = false ∧ slotHeld s x = false)
      ∧ admFits s a = true
      ∧ placeJob (taken c e s) a slot r (epochOf s r) = some (g, s1))
    ∧ (∃ (s : State) (c : Cmd) (e : InFlight) (r : Nat) (slot : Nat) (a : Adm),
      FromHost r 0x0203 7 c e s
      ∧ blkOn s baseSEC = true
      ∧ badRec e.desc 0 128 = none
      ∧ admOk s (bufAt c 0 128) = true
      ∧ a = admOf (bufAt c 0 128)
      ∧ slot = e.desc.a2.toNat
      ∧ slot < 2
      ∧ (twoRealm s = true → r ≠ 0 → slot = r - 1)
      ∧ admFits s a = false)
    ∧ (∃ (s : State) (c : Cmd) (e : InFlight) (r : Nat) (slot : Nat) (j : Job),
      FromHost r 0x0204 7 c e s
      ∧ blkOn s baseSEC = true
      ∧ badBuf e.desc 0 0 = none
      ∧ jobOf c.ring e.desc.a2 s = some slot
      ∧ jobAt s slot = some j
      ∧ bindOf s slot = some r
      ∧ imageWrong j (leAt c.buf 6 1) = false)
    ∧ (∃ (s : State) (c : Cmd) (e : InFlight) (r : Nat) (slot : Nat) (j : Job),
      FromHost r 0x0204 7 c e s
      ∧ blkOn s baseSEC = true
      ∧ badBuf e.desc 0 0 = none
      ∧ jobOf c.ring e.desc.a2 s = some slot
      ∧ jobAt s slot = some j
      ∧ bindOf s slot = some r
      ∧ imageWrong j 1 = false
      ∧ leAt c.buf 6 1 = 1)
    ∧ (∃ (s : State) (c : Cmd) (e : InFlight) (r : Nat) (slot : Nat) (j : Job),
      FromHost r 0x0204 7 c e s
      ∧ blkOn s baseSEC = true
      ∧ badBuf e.desc 0 0 = none
      ∧ jobOf c.ring e.desc.a2 s = some slot
      ∧ jobAt s slot = some j
      ∧ bindOf s slot = some r
      ∧ imageWrong j 2 = false
      ∧ fillOverlaps s slot j c.buf = false
      ∧ leAt c.buf 6 1 = 2
      ∧ imageOk j.adm (imageTensors j.main) e.desc.a1.toNat c.buf = true)
    ∧ (∃ (s : State) (c : Cmd) (e : InFlight) (r : Nat) (slot : Nat) (j : Job) (_part : Bool),
      FromHost r 0x0204 7 c e s
      ∧ blkOn s baseSEC = true
      ∧ jobOf c.ring e.desc.a2 s = some slot
      ∧ jobAt s slot = some j
      ∧ bindOf s slot ≠ some r) := by
  refine ⟨⟨withCmd 0 (entryOf 0x203 0 [64, 128, 0]) (svc), cmdOf 0 (entryOf 0x203 0 [64, 128, 0]) (admRec 1),
      entryOf 0x203 0 [64, 128, 0], 0, 0, admOf (bufAt (cmdOf 0 (entryOf 0x203 0 [64, 128,
      0]) (admRec 1)) 0 128), ((placeJob jobsAreAdmittedAndLoaded1 (admOf (bufAt (cmdOf 0 (entryOf 0x203 0 [64,
      128, 0]) (admRec 1)) 0 128)) 0 0 (epochOf (withCmd 0 (entryOf 0x203 0 [64, 128, 0]) (svc)) 0)).getD (({},
      {}, {}), svc)).1, ((placeJob jobsAreAdmittedAndLoaded1 (admOf (bufAt (cmdOf 0 (entryOf 0x203 0 [64, 128,
      0]) (admRec 1)) 0 128)) 0 0 (epochOf (withCmd 0 (entryOf 0x203 0 [64, 128, 0]) (svc)) 0)).getD (({}, {},
      {}), svc)).2, ?_⟩,
    ⟨withCmd 0 (entryOf 0x203 0 [64, 128, 0]) (domAs 6 .fault svc), cmdOf 0 (entryOf 0x203 0 [64, 128,
      0]) (admRec 0), entryOf 0x203 0 [64, 128, 0], 0, 0, admOf (bufAt (cmdOf 0 (entryOf 0x203 0 [64, 128,
      0]) (admRec 0)) 0 128), ?_⟩,
    ⟨jobsAreAdmittedAndLoaded2, cmdOf 0 (entryOf 0x204 0 [64, 128, 1]) ([0, 0, 0, 0, 0, 0, 1]),
      entryOf 0x204 0 [64, 128, 1], 0, 0, jobAd, ?_⟩,
    ⟨jobsAreAdmittedAndLoaded2, cmdOf 0 (entryOf 0x204 0 [64, 128, 1]) ([0, 0, 0, 0, 0, 0, 1]),
      entryOf 0x204 0 [64, 128, 1], 0, 0, jobAd, ?_⟩,
    ⟨withCmd 0 (entryOf 0x204 0 [64, 192, 1]) ({ svc with jobA := some { jobAd with main := some img0, adm := { adm0 with idle := 1 } }, sec := { svc.sec with bindA := some 0 } }),
      cmdOf 0 (entryOf 0x204 0 [64, 192, 1]) (fillImage), entryOf 0x204 0 [64, 192, 1], 0, 0,
      { jobAd with main := some img0, adm := { adm0 with idle := 1 } }, ?_⟩,
    ⟨withCmd 0 (entryOf 0x204 0 [64, 128, 1]) ({ svc with jobA := some jobAd }), cmdOf 0 (entryOf 0x204 0 [64,
      128, 1]), entryOf 0x204 0 [64, 128, 1], 0, 0, jobAd, false, ?_⟩⟩ <;>
    repeat' (first | with_reducible rfl | (with_reducible refine some_getD1 _ _ ?_) | (with_reducible refine some_getD2 _ _ ?_) | (with_reducible refine mid_false _ ?_) | (with_reducible refine fst_false _ ?_) | refine And.intro ?_ ?_ | decide +kernel | rfl | refine Or.inl ?_ | (rintro _ (rfl | rfl) <;> decide +kernel) | (intros; simp))

/-- Operands and states that meet the hypotheses of `Obligations.JobsStartPairAndStop`, clause by clause. -/
theorem meets_JobsStartPairAndStop :
    (∃ (s : State) (c : Cmd) (e : InFlight) (r : Nat) (slot : Nat) (j : Job),
      FromHost r 0x0205 1 c e s
      ∧ s.spring.discDone = true
      ∧ jobOf c.ring e.desc.a0 s = some slot
      ∧ jobAt s slot = some j
      ∧ j.slot = slot
      ∧ shortfall s = false
      ∧ j.main.isSome = true
      ∧ j.state = .admitted
      ∧ restores s slot = 0
      ∧ (∀ k, jobAt s (1 - slot) = some k → k.started = true → j.pair.isSome = true ∧ k.pair.isSome = true))
    ∧ (∃ (s : State) (c : Cmd) (e : InFlight) (ja : Job) (jb : Job),
      CallReady 0x0206 15 c e s
      ∧ c.ring = 0
      ∧ e.steward = true
      ∧ e.desc.realm = 0
      ∧ e.desc.rtAt ≠ 0
      ∧ e.rt.toNat + tick2ms ≤ e.desc.rtAt.toNat
      ∧ rtRefused s = false
      ∧ jobAny 0 e.desc.a0 s = some 0
      ∧ jobAny 0 e.desc.a1 s = some 1
      ∧ s.jobA = some ja
      ∧ s.jobB = some jb
      ∧ ja.adm.ratio = jb.adm.ratio
      ∧ badRec e.desc 2 64 = none
      ∧ schedOk (bufAt c 0 64) = true
      ∧ namesWinter 0 e.desc.a0 s = false
      ∧ namesWinter 0 e.desc.a1 s = false
      ∧ (∀ j, j = ja ∨ j = jb → j.adm.idle ≠ 1 ∧ j.pair = none ∧ j.started = false ∧ j.state = .admitted)
      ∧ armFull s = false)
    ∧ (∃ (s : State) (c : Cmd) (e : InFlight) (r : Nat) (slot : Nat) (j : Job),
      FromHost r 0x0207 7 c e s
      ∧ s.spring.discDone = true
      ∧ jobOf c.ring e.desc.a0 s = some slot
      ∧ jobAt s slot = some j
      ∧ 1 ≤ e.desc.a1.toNat
      ∧ e.desc.a1.toNat ≤ 3
      ∧ (e.desc.a1 ≠ 1 → e.desc.a2 = 0)
      ∧ j.started = true
      ∧ j.state ≠ .aborted
      ∧ inSolstice j = false
      ∧ (e.desc.a1 ≠ 2 → restores s j.slot = 0))
    ∧ (∃ (s : State) (c : Cmd) (e : InFlight) (r : Nat) (slot : Nat) (j : Job),
      FromHost r 0x0207 7 c e s
      ∧ s.spring.discDone = true
      ∧ jobOf c.ring e.desc.a0 s = some slot
      ∧ jobAt s slot = some j
      ∧ 1 ≤ e.desc.a1.toNat
      ∧ e.desc.a1.toNat ≤ 3
      ∧ (e.desc.a1 ≠ 1 → e.desc.a2 = 0)
      ∧ j.started = true
      ∧ j.state ≠ .aborted
      ∧ inSolstice j = true
      ∧ (e.desc.a1 ≠ 2 → restores s j.slot = 0))
    ∧ (∃ (s : State) (c : Cmd) (e : InFlight) (slot : Nat) (j : Job),
      CallReady 0x0207 7 c e s
      ∧ c.ring = 0
      ∧ e.steward = true
      ∧ e.desc.realm = 0
      ∧ e.desc.rtAt ≠ 0
      ∧ e.rt.toNat + tick2ms ≤ e.desc.rtAt.toNat
      ∧ rtRefused s = false
      ∧ armFull s = false
      ∧ s.spring.discDone = true
      ∧ jobOf 0 e.desc.a0 s = some slot
      ∧ jobAt s slot = some j
      ∧ 1 ≤ e.desc.a1.toNat
      ∧ e.desc.a1.toNat ≤ 3
      ∧ (e.desc.a1 ≠ 1 → e.desc.a2 = 0)
      ∧ j.started = true
      ∧ j.state ≠ .aborted
      ∧ restores s j.slot = 0)
    ∧ (∃ (s : State) (c : Cmd) (e : InFlight) (r : Nat) (slot : Nat) (j : Job),
      FromHost r 0x0208 1 c e s
      ∧ namesWinter c.ring e.desc.a0 s = false
      ∧ jobAny c.ring e.desc.a0 s = some slot
      ∧ jobAt s slot = some j
      ∧ j.step = none
      ∧ j.sol = .none
      ∧ (∀ k, jobAt s (1 - slot) = some k → ¬ (k.realm = j.realm ∧ k.id = j.id)))
    ∧ (∃ (s : State) (c : Cmd) (e : InFlight) (r : Nat) (slot : Nat) (j : Job) (st : Sys2Proof.Machine.Step),
      FromHost r 0x0208 1 c e s
      ∧ namesWinter c.ring e.desc.a0 s = false
      ∧ jobAny c.ring e.desc.a0 s = some slot
      ∧ jobAt s slot = some j
      ∧ j.step = some st
      ∧ (j.sol = .none ∨ j.sol = .closing)
      ∧ j.aborting = false
      ∧ (∀ k, jobAt s (1 - slot) = some k → ¬ (k.realm = j.realm ∧ k.id = j.id)))
    ∧ (∃ (s : State) (c : Cmd) (e : InFlight) (r : Nat) (slot : Nat) (j : Job),
      FromHost r 0x0209 1 c e s
      ∧ jobOf c.ring e.desc.a0 s = some slot
      ∧ jobAt s slot = some j) := by
  refine ⟨⟨withCmd 0 (entryOf 0x205 0 [1]) ({ svc with jobA := some { jobAd with main := some img0 } }),
      cmdOf 0 (entryOf 0x205 0 [1]), entryOf 0x205 0 [1], 0, 0, { jobAd with main := some img0 }, ?_⟩,
    ⟨withCmd 0 (entryOf 0x206 0 [1, 2, 64, 64] 0 2500000) ({ svc with jobA := some jobAd, jobB := some { jobAd with id := 2, slot := 1 }, rtb := { svc.rtb with valid := true } }),
      cmdOf 0 (entryOf 0x206 0 [1, 2, 64, 64] 0 2500000) ([1, 0, 0, 0, 0, 0, 0,
      0] ++ leBytes 8 12500 ++ leBytes 8 (2 ^ 40)), entryOf 0x206 0 [1, 2, 64, 64] 0 2500000, jobAd,
      { jobAd with id := 2, slot := 1 }, ?_⟩,
    ⟨withCmd 0 (entryOf 0x207 0 [1, 3, 0]) ({ svc with jobA := some { jobAd with started := true, state := .held } }),
      cmdOf 0 (entryOf 0x207 0 [1, 3, 0]), entryOf 0x207 0 [1, 3, 0], 0, 0, { jobAd with started := true, state := .held },
      ?_⟩,
    ⟨withCmd 0 (entryOf 0x207 0 [1, 1, 7]) ({ svc with jobA := some { jobAd with started := true, sol := .run } }),
      cmdOf 0 (entryOf 0x207 0 [1, 1, 7]), entryOf 0x207 0 [1, 1, 7], 0, 0, { jobAd with started := true, sol := .run },
      ?_⟩,
    ⟨withCmd 0 (entryOf 0x207 0 [1, 3, 0] 0 2500000) ({ svc with jobA := some { jobAd with started := true, state := .held }, rtb := { svc.rtb with valid := true } }),
      cmdOf 0 (entryOf 0x207 0 [1, 3, 0] 0 2500000), entryOf 0x207 0 [1, 3, 0] 0 2500000, 0,
      { jobAd with started := true, state := .held }, ?_⟩,
    ⟨withCmd 0 (entryOf 0x208 0 [1]) ({ svc with jobA := some jobAd }), cmdOf 0 (entryOf 0x208 0 [1]),
      entryOf 0x208 0 [1], 0, 0, jobAd, ?_⟩,
    ⟨withCmd 0 (entryOf 0x208 0 [1]) ({ svc with jobA := some job0 }), cmdOf 0 (entryOf 0x208 0 [1]),
      entryOf 0x208 0 [1], 0, 0, job0, {}, ?_⟩,
    ⟨withCmd 0 (entryOf 0x209 0 [1]) ({ svc with jobA := some jobAd }), cmdOf 0 (entryOf 0x209 0 [1]),
      entryOf 0x209 0 [1], 0, 0, jobAd, ?_⟩⟩ <;>
    repeat' (first | with_reducible rfl | (with_reducible refine some_getD1 _ _ ?_) | (with_reducible refine some_getD2 _ _ ?_) | (with_reducible refine mid_false _ ?_) | (with_reducible refine fst_false _ ?_) | refine And.intro ?_ ?_ | decide +kernel | rfl | refine Or.inl ?_ | (rintro _ (rfl | rfl) <;> decide +kernel) | (intros; simp))

abbrev mappingsCopiesAndBuddies1 : State := taken (cmdOf 0 (entryOf 0x302 0 [0x200000, 0x400000, 64, 1])) (entryOf 0x302 0 [0x200000, 0x400000, 64, 1]) (withCmd 0 (entryOf 0x302 0 [0x200000, 0x400000, 64, 1]) (paged 0x200000 2 0 svc))
abbrev mappingsCopiesAndBuddies2 : State := taken (cmdOf 0 (entryOf 0x302 0 [0x200000, 0x400000, 64, 2])) (entryOf 0x302 0 [0x200000, 0x400000, 64, 2]) (withCmd 0 (entryOf 0x302 0 [0x200000, 0x400000, 64, 2]) (paged 0x200000 2 0 svc))
abbrev mappingsCopiesAndBuddies3 : State := taken (cmdOf 0 (entryOf 0x305 0 [0xFFFF, 1])) (entryOf 0x305 0 [0xFFFF, 1]) (withCmd 0 (entryOf 0x305 0 [0xFFFF, 1]) (svc))

/-- Operands and states that meet the hypotheses of `Obligations.MappingsCopiesAndBuddies`, clause by clause. -/
theorem meets_MappingsCopiesAndBuddies :
    (∃ (s : State) (c : Cmd) (e : InFlight) (r : Nat) (n : Nat),
      FromHost r 0x0301 15 c e s
      ∧ blkOn s baseSEC = true
      ∧ aperture c.ring e.desc s = false
      ∧ (e.desc.a3 = 1 ∨ e.desc.a3 = 2 ∨ e.desc.a3 = 3)
      ∧ e.desc.a0.toNat % 0x200000 = 0
      ∧ 0 < n
      ∧ e.desc.a1.toNat = n * 0x200000
      ∧ e.desc.a2.toNat % 0x200000 = 0
      ∧ e.desc.a2.toNat + e.desc.a1.toNat ≤ 0x1000000000
      ∧ (∀ i < n, mapCheck s r (e.desc.a0.toNat + i * 0x200000) = none))
    ∧ (∃ (s : State) (c : Cmd) (e : InFlight) (r : Nat) (n : Nat),
      FromHost r 0x0301 15 c e s
      ∧ blkOn s baseSEC = true
      ∧ e.desc.a3 = 4
      ∧ 0 < n
      ∧ e.desc.a1.toNat = n * 0x200000
      ∧ e.desc.a2.toNat % 0x200000 = 0
      ∧ e.desc.a2.toNat + e.desc.a1.toNat ≤ 0x1000000000)
    ∧ (∃ (s : State) (c : Cmd) (e : InFlight) (r : Nat) (_errs : List (Nat × Nat)),
      FromHost r 0x0302 15 c e s
      ∧ sealed e.desc = false
      ∧ e.desc.a3 = 0
      ∧ e.desc.a2.toNat % 64 = 0
      ∧ e.desc.a2 ≠ 0
      ∧ copySide s r 1 true false e.desc.a1.toNat e.desc.a2.toNat = none
      ∧ copyFenced s r e.desc = false)
    ∧ (∃ (s : State) (c : Cmd) (e : InFlight) (r : Nat) (errs : List (Nat × Nat)) (b : List Byte) (poison : Bool) (s1 : State),
      FromHost r 0x0302 15 c e s
      ∧ sealed e.desc = false
      ∧ e.desc.a3 = 1
      ∧ e.desc.a2.toNat % 64 = 0
      ∧ e.desc.a2 ≠ 0
      ∧ copySide s r 0 false false e.desc.a0.toNat e.desc.a2.toNat = none
      ∧ hostSideRead r e.desc.a0.toNat e.desc.a2.toNat (applyErrs errs (taken c e s)) = (b, poison, s1))
    ∧ (∃ (s : State) (c : Cmd) (e : InFlight) (r : Nat) (errs : List (Nat × Nat)) (b : List Byte) (poison : Bool) (s1 : State),
      FromHost r 0x0302 15 c e s
      ∧ sealed e.desc = false
      ∧ e.desc.a3 = 2
      ∧ e.desc.a2.toNat % 64 = 0
      ∧ e.desc.a2 ≠ 0
      ∧ copySide s r 0 false false e.desc.a0.toNat e.desc.a2.toNat = none
      ∧ copySide s r 1 true false e.desc.a1.toNat e.desc.a2.toNat = none
      ∧ copyFenced s r e.desc = false
      ∧ hostSideRead r e.desc.a0.toNat e.desc.a2.toNat (applyErrs errs (taken c e s)) = (b, poison, s1))
    ∧ (∃ (s : State) (c : Cmd) (e : InFlight) (_errs : List (Nat × Nat)),
      FromRealm c.ring 0x0302 15 c e s
      ∧ sealed e.desc = true
      ∧ e.xfer = none
      ∧ e.desc.a3 = 0
      ∧ e.desc.a2.toNat % 64 = 0
      ∧ copySide s c.ring 1 true true e.desc.a1.toNat e.desc.a2.toNat = none
      ∧ copyFenced s c.ring e.desc = false)
    ∧ (∃ (s : State) (c : Cmd) (e : InFlight) (b : Buddy),
      FromSteward 0x0305 3 c e s
      ∧ blkOn s baseSEC = true
      ∧ e.desc.a0.toNat < 2 ^ 16
      ∧ e.desc.a1 = 0
      ∧ tget none s.buddies e.desc.a0.toNat = some b)
    ∧ (∃ (s : State) (c : Cmd) (e : InFlight) (g : Region) (s1 : State),
      FromSteward 0x0305 3 c e s
      ∧ blkOn s baseSEC = true
      ∧ e.desc.a0.toNat < 2 ^ 16
      ∧ e.desc.a1 ≠ 0
      ∧ tget none s.buddies e.desc.a0.toNat = none
      ∧ placeRegion (taken c e s) (List.range (dies s)) (if twoRealm s = true then [some 0, some 1] else [none]) 0 0 ((e.desc.a1.toNat + 0x3FFFFF) / 0x400000 * 0x400000) = some (g, s1))
    ∧ (∃ (s : State) (c : Cmd) (e : InFlight),
      (FromOperator 0x0306 0 c e s ∨ FromTelemetry 0x0306 0 c e s ∨ FromRealm c.ring 0x0306 0 c e s)
      ∧ s.sec.r1.winterStep = none
      ∧ s.sec.r2.winterStep = none)
    ∧ (∃ (s : State) (c : Cmd) (e : InFlight) (k : Nat),
      (FromOperator 0x0306 0 c e s ∨ FromTelemetry 0x0306 0 c e s ∨ FromRealm c.ring 0x0306 0 c e s)
      ∧ s.sec.r1.winterStep = some k) := by
  refine ⟨⟨withCmd 0 (entryOf 0x301 0 [0x200000, 0x400000, 0xFFFC00000, 3]) (paged 0x200000 2 0 svc),
      cmdOf 0 (entryOf 0x301 0 [0x200000, 0x400000, 0xFFFC00000, 3]), entryOf 0x301 0 [0x200000, 0x400000,
      0xFFFC00000, 3], 0, 2, ?_⟩,
    ⟨withCmd 0 (entryOf 0x301 0 [0x200000, 0x200000, 0xFFFE00000, 4]) (svc), cmdOf 0 (entryOf 0x301 0 [0x200000,
      0x200000, 0xFFFE00000, 4]), entryOf 0x301 0 [0x200000, 0x200000, 0xFFFE00000, 4], 0, 1, ?_⟩,
    ⟨withCmd 0 (entryOf 0x302 0 [0x200000, 0x400000, 64, 0]) (paged 0x200000 2 0 svc),
      cmdOf 0 (entryOf 0x302 0 [0x200000, 0x400000, 64, 0]), entryOf 0x302 0 [0x200000, 0x400000, 64, 0], 0, [],
      ?_⟩,
    ⟨withCmd 0 (entryOf 0x302 0 [0x200000, 0x400000, 64, 1]) (paged 0x200000 2 0 svc),
      cmdOf 0 (entryOf 0x302 0 [0x200000, 0x400000, 64, 1]), entryOf 0x302 0 [0x200000, 0x400000, 64, 1], 0, [],
      (hostSideRead 0 (entryOf 0x302 0 [0x200000, 0x400000, 64, 1]).desc.a0.toNat (entryOf 0x302 0 [0x200000,
      0x400000, 64, 1]).desc.a2.toNat (applyErrs [] mappingsCopiesAndBuddies1)).1,
      (hostSideRead 0 (entryOf 0x302 0 [0x200000, 0x400000, 64, 1]).desc.a0.toNat (entryOf 0x302 0 [0x200000,
      0x400000, 64, 1]).desc.a2.toNat (applyErrs [] mappingsCopiesAndBuddies1)).2.1,
      (hostSideRead 0 (entryOf 0x302 0 [0x200000, 0x400000, 64, 1]).desc.a0.toNat (entryOf 0x302 0 [0x200000,
      0x400000, 64, 1]).desc.a2.toNat (applyErrs [] mappingsCopiesAndBuddies1)).2.2, ?_⟩,
    ⟨withCmd 0 (entryOf 0x302 0 [0x200000, 0x400000, 64, 2]) (paged 0x200000 2 0 svc),
      cmdOf 0 (entryOf 0x302 0 [0x200000, 0x400000, 64, 2]), entryOf 0x302 0 [0x200000, 0x400000, 64, 2], 0, [],
      (hostSideRead 0 (entryOf 0x302 0 [0x200000, 0x400000, 64, 2]).desc.a0.toNat (entryOf 0x302 0 [0x200000,
      0x400000, 64, 2]).desc.a2.toNat (applyErrs [] mappingsCopiesAndBuddies2)).1,
      (hostSideRead 0 (entryOf 0x302 0 [0x200000, 0x400000, 64, 2]).desc.a0.toNat (entryOf 0x302 0 [0x200000,
      0x400000, 64, 2]).desc.a2.toNat (applyErrs [] mappingsCopiesAndBuddies2)).2.1,
      (hostSideRead 0 (entryOf 0x302 0 [0x200000, 0x400000, 64, 2]).desc.a0.toNat (entryOf 0x302 0 [0x200000,
      0x400000, 64, 2]).desc.a2.toNat (applyErrs [] mappingsCopiesAndBuddies2)).2.2, ?_⟩,
    ⟨withCmd 1 (entryOf 0x302 1 [0x200000, 0x400000, 64, 0] 8) (keyed (paged 0x200000 2 1 svc)),
      cmdOf 1 (entryOf 0x302 1 [0x200000, 0x400000, 64, 0] 8), entryOf 0x302 1 [0x200000, 0x400000, 64, 0] 8, [],
      ?_⟩,
    ⟨withCmd 0 (entryOf 0x305 0 [0xFFFF, 0]) ({ svc with buddies := [(0xFFFF, some { partner := 0xFFFF, region := {}, bytes := 0 })] }),
      cmdOf 0 (entryOf 0x305 0 [0xFFFF, 0]), entryOf 0x305 0 [0xFFFF, 0], { partner := 0xFFFF, region := {}, bytes := 0 },
      ?_⟩,
    ⟨withCmd 0 (entryOf 0x305 0 [0xFFFF, 1]) (svc), cmdOf 0 (entryOf 0x305 0 [0xFFFF, 1]),
      entryOf 0x305 0 [0xFFFF, 1],
      ((placeRegion mappingsCopiesAndBuddies3 (List.range (dies (withCmd 0 (entryOf 0x305 0 [0xFFFF,
      1]) (svc)))) (if twoRealm (withCmd 0 (entryOf 0x305 0 [0xFFFF, 1]) (svc)) = true then [some 0,
      some 1] else [none]) 0 0 (((entryOf 0x305 0 [0xFFFF,
      1]).desc.a1.toNat + 0x3FFFFF) / 0x400000 * 0x400000)).getD ({}, svc)).1,
      ((placeRegion mappingsCopiesAndBuddies3 (List.range (dies (withCmd 0 (entryOf 0x305 0 [0xFFFF,
      1]) (svc)))) (if twoRealm (withCmd 0 (entryOf 0x305 0 [0xFFFF, 1]) (svc)) = true then [some 0,
      some 1] else [none]) 0 0 (((entryOf 0x305 0 [0xFFFF,
      1]).desc.a1.toNat + 0x3FFFFF) / 0x400000 * 0x400000)).getD ({}, svc)).2, ?_⟩,
    ⟨withCmd 0 (entryOf 0x306 0 []) (svc), cmdOf 0 (entryOf 0x306 0 []), entryOf 0x306 0 [], ?_⟩,
    ⟨withCmd 0 (entryOf 0x306 0 []) ({ svc with sec := { r1 := { st := .winter, winterStep := some 1 } } }),
      cmdOf 0 (entryOf 0x306 0 []), entryOf 0x306 0 [], 1, ?_⟩⟩ <;>
    repeat' (first | with_reducible rfl | (with_reducible refine some_getD1 _ _ ?_) | (with_reducible refine some_getD2 _ _ ?_) | (with_reducible refine mid_false _ ?_) | (with_reducible refine fst_false _ ?_) | refine And.intro ?_ ?_ | decide +kernel | rfl | refine Or.inl ?_ | (rintro _ (rfl | rfl) <;> decide +kernel) | (intros; simp))

abbrev checkpointsPushAndRestore1 : State := withCmd 0 (entryOf 0x304 0 [1, 0, 65535, 0]) ({ svc with jobA := some jobAd })
abbrev checkpointsPushAndRestore2 : State := withCmd 0 (entryOf 0x304 0 [1, 1, 64, 256]) ({ svc with jobA := some jobAd })
abbrev checkpointsPushAndRestore3 : State := withCmd 0 (entryOf 0x303 0 [1, 64, 65792]) ({ svc with jobA := some jobAd })

/-- Operands and states that meet the hypotheses of `Obligations.CheckpointsPushAndRestore`, clause by clause. -/
theorem meets_CheckpointsPushAndRestore :
    (∃ (s : State) (c : Cmd) (e : InFlight) (r : Nat) (slot : Nat) (j : Job) (errs : List (Nat × Nat)),
      FromHost r 0x0303 7 c e s
      ∧ jobOf c.ring e.desc.a0 s = some slot
      ∧ jobAt s slot = some j
      ∧ badBuf e.desc 1 (ckptLen j) = none
      ∧ j.state ≠ .aborted
      ∧ inSolstice j = false
      ∧ (ckptBody j (applyErrs errs (taken c e s))).2.1 = false)
    ∧ (∃ (s : State) (c : Cmd) (e : InFlight) (r : Nat) (slot : Nat) (j : Job) (errs : List (Nat × Nat)),
      FromHost r 0x0303 7 c e s
      ∧ jobOf c.ring e.desc.a0 s = some slot
      ∧ jobAt s slot = some j
      ∧ badBuf e.desc 1 (ckptLen j) = none
      ∧ j.state ≠ .aborted
      ∧ inSolstice j = false
      ∧ (ckptBody j (applyErrs errs (taken c e s))).2.1 = true)
    ∧ (∃ (s : State) (c : Cmd) (e : InFlight) (r : Nat) (slot : Nat) (j : Job) (_errs : List (Nat × Nat)),
      FromHost r 0x0303 7 c e s
      ∧ jobOf c.ring e.desc.a0 s = some slot
      ∧ jobAt s slot = some j
      ∧ badBuf e.desc 1 (ckptLen j) = none
      ∧ j.state ≠ .aborted
      ∧ inSolstice j = false)
    ∧ (∃ (s : State) (c : Cmd) (e : InFlight) (r : Nat) (slot : Nat) (j : Job) (_part : Bool) (_errs : List (Nat × Nat)),
      FromHost r 0x0303 7 c e s
      ∧ jobOf c.ring e.desc.a0 s = some slot
      ∧ jobAt s slot = some j
      ∧ badBuf e.desc 1 (ckptLen j) = none
      ∧ j.state ≠ .aborted
      ∧ inSolstice j = true)
    ∧ (∃ (s : State) (c : Cmd) (e : InFlight) (r : Nat) (slot : Nat) (j : Job) (_errs : List (Nat × Nat)) (cs : List (List Byte)),
      FromHost r 0x0304 15 c e s
      ∧ jobOf c.ring e.desc.a0 s = some slot
      ∧ jobAt s slot = some j
      ∧ e.desc.a1 = 1
      ∧ badBuf e.desc 2 0 = none
      ∧ jobRuns j = false
      ∧ restores (taken c e s) slot ≤ 1
      ∧ headOk s j (fit 256 c.buf) = true
      ∧ openBody s j (fit 256 c.buf) (c.buf.drop 256) (leAt (fit 256 c.buf) 0x20 8) = some cs
      ∧ ckptRootOf (fit 256 c.buf) cs = slice (fit 256 c.buf) 0x40 64)
    ∧ (∃ (s : State) (c : Cmd) (e : InFlight) (r : Nat) (slot : Nat) (j : Job) (_errs : List (Nat × Nat)),
      FromHost r 0x0304 15 c e s
      ∧ jobOf c.ring e.desc.a0 s = some slot
      ∧ jobAt s slot = some j
      ∧ e.desc.a1 = 1
      ∧ badBuf e.desc 2 0 = none
      ∧ jobRuns j = false
      ∧ restores (taken c e s) slot ≤ 1
      ∧ headOk s j (fit 256 c.buf) = false)
    ∧ (∃ (s : State) (c : Cmd) (e : InFlight) (r : Nat) (slot : Nat) (j : Job) (_errs : List (Nat × Nat)),
      FromHost r 0x0304 15 c e s
      ∧ jobOf c.ring e.desc.a0 s = some slot
      ∧ jobAt s slot = some j
      ∧ e.desc.a1 = 1
      ∧ badBuf e.desc 2 0 = none
      ∧ jobRuns j = false
      ∧ restores (taken c e s) slot ≤ 1)
    ∧ (∃ (s : State) (u : State) (c : Cmd) (e : InFlight) (r : Nat) (slot : Nat) (j : Job) (_errs : List (Nat × Nat)) (_part : Bool) (q : Pull),
      FromHost r 0x0304 15 c e s
      ∧ jobOf c.ring e.desc.a0 s = some slot
      ∧ jobAt s slot = some j
      ∧ e.desc.a1 = 0
      ∧ e.desc.a2.toNat < 2 ^ 16
      ∧ jobRuns j = false
      ∧ restores (taken c e s) slot ≤ 1
      ∧ q = { port := c.port, ring := c.ring, no := e.no, slot, chip := e.desc.a2.toNat, base := e.desc.a3.toNat }
      ∧ (pullRead q 0 256 (fun _ => 0) ((taken c e s).setFab { s.fab with pulls := s.fab.pulls ++ [q] })).bind (pullRead q (Config.buddySlot (q.chip * 2 ^ 48 + q.base)) 256 (fun _ => 1)) = some u)
    ∧ (∃ (s : State) (c : Cmd) (e : InFlight) (r : Nat) (slot : Nat) (j : Job) (_errs : List (Nat × Nat)) (_part : Bool) (q : Pull),
      FromHost r 0x0304 15 c e s
      ∧ jobOf c.ring e.desc.a0 s = some slot
      ∧ jobAt s slot = some j
      ∧ e.desc.a1 = 0
      ∧ e.desc.a2.toNat < 2 ^ 16
      ∧ jobRuns j = false
      ∧ restores (taken c e s) slot ≤ 1
      ∧ q = { port := c.port, ring := c.ring, no := e.no, slot, chip := e.desc.a2.toNat, base := e.desc.a3.toNat }
      ∧ (pullRead q 0 256 (fun _ => 0) ((taken c e s).setFab { s.fab with pulls := s.fab.pulls ++ [q] })).bind (pullRead q (Config.buddySlot (q.chip * 2 ^ 48 + q.base)) 256 (fun _ => 1)) = none) := by
  refine ⟨⟨checkpointsPushAndRestore3, cmdOf 0 (entryOf 0x303 0 [1, 64, 65792]), entryOf 0x303 0 [1, 64, 65792], 0, 0,
      jobAd, [], ?_⟩,
    ⟨withCmd 0 (entryOf 0x303 0 [1, 64,
      2162944]) (blkAs (baseLPX 0) { st := .fault } { svc with jobA := some jobPersist }),
      cmdOf 0 (entryOf 0x303 0 [1, 64, 2162944]), entryOf 0x303 0 [1, 64, 2162944], 0, 0, jobPersist, [],by
      refine ⟨by repeat' (first | with_reducible rfl | refine And.intro ?_ ?_ | refine Or.inl ?_ | decide +kernel),
      by decide +kernel, rfl, by decide +kernel, by decide +kernel, by decide +kernel,?_⟩
      exact ckptBody_poison _ (by decide +kernel) (by decide +kernel)⟩,
    ⟨checkpointsPushAndRestore3, cmdOf 0 (entryOf 0x303 0 [1, 64, 65792]), entryOf 0x303 0 [1, 64, 65792], 0, 0,
      jobAd, [], ?_⟩,
    ⟨withCmd 0 (entryOf 0x303 0 [1, 64, 65792]) ({ svc with jobA := some { jobAd with sol := .run } }),
      cmdOf 0 (entryOf 0x303 0 [1, 64, 65792]), entryOf 0x303 0 [1, 64, 65792], 0, 0, { jobAd with sol := .run },
      true, [], ?_⟩,
    ⟨withCmd 0 (entryOf 0x304 0 [1, 1, 64, 66048]) ({ svc with jobA := some jobAd }),
      cmdOf 0 (entryOf 0x304 0 [1, 1, 64, 66048]) (ckptImage), entryOf 0x304 0 [1, 1, 64, 66048], 0, 0, jobAd,
      [], [ckptZero],by
      refine ⟨by repeat' (first | with_reducible rfl | refine And.intro ?_ ?_ | refine Or.inl ?_ | decide +kernel),
      by decide +kernel, rfl, rfl, by decide +kernel, by decide +kernel, by decide +kernel, ?_, ?_,?_⟩
      · exact ckptImage_head _
      · exact ckptImage_body _
      · exact ckptImage_root⟩,
    ⟨checkpointsPushAndRestore2, cmdOf 0 (entryOf 0x304 0 [1, 1, 64, 256]), entryOf 0x304 0 [1, 1, 64, 256], 0,
      0, jobAd, [], ?_⟩,
    ⟨checkpointsPushAndRestore2, cmdOf 0 (entryOf 0x304 0 [1, 1, 64, 256]), entryOf 0x304 0 [1, 1, 64, 256], 0,
      0, jobAd, [], ?_⟩,
    ⟨checkpointsPushAndRestore1, ((pullRead ({ port := 0, ring := 0, no := (entryOf 0x304 0 [1, 0, 65535, 0]).no, slot := 0, chip := 65535, base := 0 }) 0 256 (fun _ => 0) ((taken (cmdOf 0 (entryOf 0x304 0 [1,
      0, 65535, 0])) (entryOf 0x304 0 [1, 0, 65535,
      0]) checkpointsPushAndRestore1).setFab { svc.fab with pulls := svc.fab.pulls ++ [{ port := 0, ring := 0, no := (entryOf 0x304 0 [1, 0, 65535, 0]).no, slot := 0, chip := 65535, base := 0 }] })).bind (pullRead ({ port := 0, ring := 0, no := (entryOf 0x304 0 [1, 0, 65535, 0]).no, slot := 0, chip := 65535, base := 0 }) (Config.buddySlot (({ port := 0, ring := 0, no := (entryOf 0x304 0 [1, 0, 65535, 0]).no, slot := 0, chip := 65535, base := 0 } : Pull).chip * 2 ^ 48 + ({ port := 0, ring := 0, no := (entryOf 0x304 0 [1, 0, 65535, 0]).no, slot := 0, chip := 65535, base := 0 } : Pull).base)) 256 (fun _ => 1))).getD svc,
      cmdOf 0 (entryOf 0x304 0 [1, 0, 65535, 0]), entryOf 0x304 0 [1, 0, 65535, 0], 0, 0, jobAd, [], true,
      { port := 0, ring := 0, no := (entryOf 0x304 0 [1, 0, 65535, 0]).no, slot := 0, chip := 65535, base := 0 },
      ?_⟩,
    ⟨withCmd 0 (entryOf 0x304 0 [1, 0, 5, 0]) ({ svc with jobA := some jobAd }), cmdOf 0 (entryOf 0x304 0 [1, 0,
      5, 0]), entryOf 0x304 0 [1, 0, 5, 0], 0, 0, jobAd, [], true, { port := 0, ring := 0, no := (entryOf 0x304 0 [1, 0, 5, 0]).no, slot := 0, chip := 5, base := 0 },
      ?_⟩⟩ <;>
    repeat' (first | with_reducible rfl | (with_reducible refine some_getD1 _ _ ?_) | (with_reducible refine some_getD2 _ _ ?_) | (with_reducible refine mid_false _ ?_) | (with_reducible refine fst_false _ ?_) | refine And.intro ?_ ?_ | decide +kernel | rfl | refine Or.inl ?_ | (rintro _ (rfl | rfl) <;> decide +kernel) | (intros; simp))

/-- Operands and states that meet the hypotheses of `Obligations.FabricCommands`, clause by clause. -/
theorem meets_FabricCommands :
    (∃ (s : State) (c : Cmd) (e : InFlight) (b : List Byte),
      FromSteward 0x0401 3 c e s
      ∧ e.desc.a0.toNat % 64 = 0
      ∧ b = bufAt c 0 e.desc.a1.toNat
      ∧ 128 ≤ e.desc.a1.toNat
      ∧ e.desc.a1.toNat = planLen b
      ∧ planOk s b = true
      ∧ anyStarted s = false)
    ∧ (∃ (s : State) (c : Cmd) (e : InFlight) (p : Nat) (new : List Byte),
      FromSteward 0x0402 1 c e s
      ∧ blkOn s baseSEC = true
      ∧ e.desc.a0.toNat % 64 = 0
      ∧ divisionOk s (bufAt c 0 64) = true
      ∧ anyJob s = false
      ∧ s.fab.disc.running = false
      ∧ new = slice (bufAt c 0 64) 8 32
      ∧ p < 32
      ∧ new.getD p 0 ≠ s.fab.division.getD p 0
      ∧ (new.getD p 0).toNat / 64 ≠ 0
      ∧ (∀ q < 32, new.getD q 0 ≠ s.fab.division.getD q 0 → portInUse s q = true → 4 ≤ lanesUnder s new q))
    ∧ (∃ (s : State) (c : Cmd) (e : InFlight) (p : Nat),
      FromSteward 0x0402 1 c e s
      ∧ blkOn s baseSEC = true
      ∧ e.desc.a0.toNat % 64 = 0
      ∧ divisionOk s (bufAt c 0 64) = true
      ∧ p < 32
      ∧ (slice (bufAt c 0 64) 8 32).getD p 0 ≠ s.fab.division.getD p 0
      ∧ portInUse s p = true
      ∧ lanesUnder s (slice (bufAt c 0 64) 8 32) p < 4)
    ∧ (∃ (s : State) (c : Cmd) (e : InFlight),
      FromSteward 0x0405 1 c e s
      ∧ e.desc.a0.toNat < 4096
      ∧ anyJob s = false)
    ∧ (∃ (s : State) (c : Cmd) (e : InFlight),
      FromSteward 0x0403 7 c e s
      ∧ e.desc.a0.toNat < 8
      ∧ blkOn s baseSEC = true
      ∧ (e.desc.a1 ≠ 0 ∨ e.desc.a2 ≠ 0)
      ∧ badRec e.desc 1 128 = none
      ∧ lightOk s (bufAt c 0 128) = true
      ∧ e.desc.a0.toNat ≠ s.fab.planNo
      ∧ (∀ a ∈ armedSwitches s, a.2 ≠ e.desc.a0.toNat)
      ∧ e.desc.a0.toNat ∉ s.fab.due)
    ∧ (∃ (s : State) (c : Cmd) (e : InFlight),
      CallReady 0x0403 7 c e s
      ∧ c.ring = 0
      ∧ e.steward = true
      ∧ e.desc.realm = 0
      ∧ e.desc.a0.toNat < 8
      ∧ blkOn s baseSEC = true
      ∧ e.desc.a1 = 0
      ∧ e.desc.a2 = 0
      ∧ e.desc.rtAt ≠ 0
      ∧ e.rt.toNat + tick2ms ≤ e.desc.rtAt.toNat
      ∧ rtRefused s = false
      ∧ (tget none s.fab.plans e.desc.a0.toNat).isSome = true
      ∧ armedSwitches s = []
      ∧ armFull s = false)
    ∧ (∃ (s : State) (c : Cmd) (e : InFlight),
      (FromOperator 0x0404 3 c e s ∨ FromTelemetry 0x0404 3 c e s ∨ FromRealm c.ring 0x0404 3 c e s)
      ∧ badBuf e.desc 0 1024 = none)
    ∧ (∃ (s : State) (c : Cmd) (e : InFlight),
      (FromOperator 0x0406 3 c e s ∨ FromTelemetry 0x0406 3 c e s)
      ∧ badBuf e.desc 0 1344 = none) := by
  refine ⟨⟨withCmd 0 (entryOf 0x401 0 [64, 128]) (svc), cmdOf 0 (entryOf 0x401 0 [64, 128]) (planRec),
      entryOf 0x401 0 [64, 128], planRec, ?_⟩,
    ⟨withCmd 0 (entryOf 0x402 0 [64]) (svc), cmdOf 0 (entryOf 0x402 0 [64]) ([1, 0, 0, 0, 0, 0, 0,
      0] ++ List.replicate 31 0 ++ [0x80]), entryOf 0x402 0 [64], 31,
      slice (bufAt (cmdOf 0 (entryOf 0x402 0 [64]) ([1, 0, 0, 0, 0, 0, 0,
      0] ++ List.replicate 31 0 ++ [0x80])) 0 64) 8 32, ?_⟩,
    ⟨withCmd 0 (entryOf 0x402 0 [64]) (litAs 31 { pst := .up, txSet := 7, rxSet := 15 } { svc with jobA := some jobAd }),
      cmdOf 0 (entryOf 0x402 0 [64]) ([1, 0, 0, 0, 0, 0, 0, 0] ++ List.replicate 31 0 ++ [0x80]),
      entryOf 0x402 0 [64], 31, ?_⟩,
    ⟨withCmd 0 (entryOf 0x405 0 [4095]) (svc), cmdOf 0 (entryOf 0x405 0 [4095]), entryOf 0x405 0 [4095], ?_⟩,
    ⟨withCmd 0 (entryOf 0x403 0 [7, 64, 128]) (svc), cmdOf 0 (entryOf 0x403 0 [7, 64, 128]) (lightRec),
      entryOf 0x403 0 [7, 64, 128], ?_⟩,
    ⟨withCmd 0 (entryOf 0x403 0 [7, 0, 0] 0 2500000) ({ svc with fab := { svc.fab with plans := [(7, some { portSrc := [], pkgDst := [] })] }, rtb := { svc.rtb with valid := true } }),
      cmdOf 0 (entryOf 0x403 0 [7, 0, 0] 0 2500000), entryOf 0x403 0 [7, 0, 0] 0 2500000, ?_⟩,
    ⟨withCmd 0 (entryOf 0x404 0 [64, 1024]) (svc), cmdOf 0 (entryOf 0x404 0 [64, 1024]), entryOf 0x404 0 [64,
      1024], ?_⟩,
    ⟨withCmd 0 (entryOf 0x406 0 [64, 1344]) (svc), cmdOf 0 (entryOf 0x406 0 [64, 1344]), entryOf 0x406 0 [64,
      1344], ?_⟩⟩ <;>
    repeat' (first | with_reducible rfl | (with_reducible refine some_getD1 _ _ ?_) | (with_reducible refine some_getD2 _ _ ?_) | (with_reducible refine mid_false _ ?_) | (with_reducible refine fst_false _ ?_) | refine And.intro ?_ ?_ | decide +kernel | rfl | refine Or.inl ?_ | (rintro _ (rfl | rfl) <;> decide +kernel) | (intros; simp))

/-- Operands and states that meet the hypotheses of `Obligations.MaintenanceCommands`, clause by clause. -/
theorem meets_MaintenanceCommands :
    (∃ (s : State) (c : Cmd) (e : InFlight),
      FromSteward 0x0601 7 c e s
      ∧ e.desc.a0.toNat ≤ 5
      ∧ resOk s e.desc.a1 = true
      ∧ (classKinds e.desc.a0.toNat).contains (fld e.desc.a1 56 8) = true
      ∧ 1 ≤ e.desc.a2.toNat
      ∧ e.desc.a2.toNat ≤ maxHours s * 3600 * 1000000
      ∧ mntGrants s = true
      ∧ lockClash e.desc.a0.toNat e.desc.a1 s = none
      ∧ (heldLocks s).length < 16)
    ∧ (∃ (s : State) (c : Cmd) (e : InFlight) (l : Lock),
      FromSteward 0x0601 7 c e s
      ∧ e.desc.a0.toNat ≤ 5
      ∧ resOk s e.desc.a1 = true
      ∧ (classKinds e.desc.a0.toNat).contains (fld e.desc.a1 56 8) = true
      ∧ 1 ≤ e.desc.a2.toNat
      ∧ e.desc.a2.toNat ≤ maxHours s * 3600 * 1000000
      ∧ mntGrants s = true
      ∧ lockClash e.desc.a0.toNat e.desc.a1 s = some l)
    ∧ (∃ (s : State) (c : Cmd) (e : InFlight) (l : Lock),
      FromSteward 0x0602 1 c e s
      ∧ e.desc.a0.toNat < 16
      ∧ lockAt s e.desc.a0.toNat = some l
      ∧ l.request = true)
    ∧ (∃ (s : State) (c : Cmd) (e : InFlight),
      FromSteward 0x0603 0 c e s
      ∧ blkOn s baseAGE = true
      ∧ s.rel.autumn.running = false)
    ∧ (∃ (s : State) (c : Cmd) (e : InFlight),
      FromSteward 0x0603 0 c e s
      ∧ blkOn s baseAGE = true
      ∧ s.rel.autumn.running = true)
    ∧ (∃ (s : State) (c : Cmd) (e : InFlight) (_power : Nat) (_low : Nat) (d : Nat) (cl : Nat) (k : Nat),
      FromSteward 0x0604 3 c e s
      ∧ e.desc.a0 = 1
      ∧ d < dies s
      ∧ cl < 48
      ∧ k < 25
      ∧ e.desc.a1 = resCore d cl k
      ∧ mntGrants s = true
      ∧ lockClash 5 (resCluster d cl) s = none
      ∧ (heldLocks s).length < 16
      ∧ coreMarked s (coreKey d cl k) = false
      ∧ (Machine.core s d cl k).retired = false
      ∧ (∀ m ∈ s.flash.retired, m.1 ≠ coreKey d cl k)
      ∧ dieStarted s d (fun _ => true) = true)
    ∧ (∃ (s : State) (c : Cmd) (e : InFlight) (_power : Nat) (_low : Nat) (n : Nat) (q : Nat),
      FromSteward 0x0604 3 c e s
      ∧ e.desc.a0 = 2
      ∧ n < 40
      ∧ n / 5 < dies s
      ∧ q < 16
      ∧ e.desc.a1 = resChan n q
      ∧ tget .present (stack s n).chans q ≠ .retired)
    ∧ (∃ (s : State) (c : Cmd) (e : InFlight) (_power : Nat) (_low : Nat) (p : Nat) (l : Nat),
      FromSteward 0x0604 3 c e s
      ∧ e.desc.a0 = 3
      ∧ p < ports s
      ∧ l < 8
      ∧ e.desc.a1 = resLane p l 0)
    ∧ (∃ (s : State) (c : Cmd) (e : InFlight) (_power : Nat) (_low : Nat) (n : Nat) (m : Nat) (b : Nat),
      FromSteward 0x0604 3 c e s
      ∧ e.desc.a0 = 4
      ∧ n < 10
      ∧ e.desc.a1 = resLaser n
      ∧ mntGrants s = true
      ∧ lockClash 4 (resLaser n) s = none
      ∧ (heldLocks s).length < 16
      ∧ (laser s n).bus = some b
      ∧ hotSpare s n = some m
      ∧ m ≠ n) := by
  refine ⟨⟨withCmd 0 (entryOf 0x601 0 [0, (resId 1 0xFF 0 0 0).toNat, 86400000000]) (svc), cmdOf 0 (entryOf 0x601 0 [0,
      (resId 1 0xFF 0 0 0).toNat, 86400000000]), entryOf 0x601 0 [0, (resId 1 0xFF 0 0 0).toNat, 86400000000],
      ?_⟩,
    ⟨withCmd 0 (entryOf 0x601 0 [4, (resLaser 9).toNat, 1]) ({ svc with rel := { svc.rel with locks := [(15, some { cls := 4, host := true, request := true, res := resLaser 9, grantRt := 0, expect := 1000, covers := [] })] } }),
      cmdOf 0 (entryOf 0x601 0 [4, (resLaser 9).toNat, 1]), entryOf 0x601 0 [4, (resLaser 9).toNat, 1],
      { cls := 4, host := true, request := true, res := resLaser 9, grantRt := 0, expect := 1000, covers := [] },
      ?_⟩,
    ⟨withCmd 0 (entryOf 0x602 0 [15]) ({ svc with rel := { svc.rel with locks := [(15, some { cls := 0, host := true, request := true, res := resId 1 0xFF 0 0 0, grantRt := 0, expect := 1000, covers := [] })] } }),
      cmdOf 0 (entryOf 0x602 0 [15]), entryOf 0x602 0 [15], { cls := 0, host := true, request := true, res := resId 1 0xFF 0 0 0, grantRt := 0, expect := 1000, covers := [] },
      ?_⟩,
    ⟨withCmd 0 (entryOf 0x603 0 []) (svc), cmdOf 0 (entryOf 0x603 0 []), entryOf 0x603 0 [], ?_⟩,
    ⟨withCmd 0 (entryOf 0x603 0 []) ({ svc with rel := { svc.rel with autumn := { running := true } } }),
      cmdOf 0 (entryOf 0x603 0 []), entryOf 0x603 0 [], ?_⟩,
    ⟨withCmd 0 (entryOf 0x604 0 [1,
      (resCore 7 47 24).toNat]) ({ svc with jobA := some { job0 with started := true, adm := { adm0 with dieMask := 0x80 } } }),
      cmdOf 0 (entryOf 0x604 0 [1, (resCore 7 47 24).toNat]), entryOf 0x604 0 [1, (resCore 7 47 24).toNat], 0, 0,
      7, 47, 24, ?_⟩,
    ⟨withCmd 0 (entryOf 0x604 0 [2, (resChan 39 15).toNat]) (svc), cmdOf 0 (entryOf 0x604 0 [2,
      (resChan 39 15).toNat]), entryOf 0x604 0 [2, (resChan 39 15).toNat], 0, 0, 39, 15, ?_⟩,
    ⟨withCmd 0 (entryOf 0x604 0 [3, (resLane 31 7 0).toNat]) (svc), cmdOf 0 (entryOf 0x604 0 [3,
      (resLane 31 7 0).toNat]), entryOf 0x604 0 [3, (resLane 31 7 0).toNat], 0, 0, 31, 7, ?_⟩,
    ⟨withCmd 0 (entryOf 0x604 0 [4, (resLaser 9).toNat]) ({ svc with opt := { las := [(8, { hot := true }), (9, { bus := some 7 })] } }),
      cmdOf 0 (entryOf 0x604 0 [4, (resLaser 9).toNat]), entryOf 0x604 0 [4, (resLaser 9).toNat], 0, 0, 9, 8, 7,
      ?_⟩⟩ <;>
    repeat' (first | with_reducible rfl | (with_reducible refine some_getD1 _ _ ?_) | (with_reducible refine some_getD2 _ _ ?_) | (with_reducible refine mid_false _ ?_) | (with_reducible refine fst_false _ ?_) | refine And.intro ?_ ?_ | decide +kernel | rfl | refine Or.inl ?_ | (rintro _ (rfl | rfl) <;> decide +kernel) | (intros; simp))

/-- Operands and states that meet the hypotheses of `Obligations.FirmwareStagesAndActivates`, clause by clause. -/
theorem meets_FirmwareStagesAndActivates :
    (∃ (s : State) (c : Cmd) (e : InFlight) (_g : PkgIn),
      FromSteward 0x0505 3 c e s
      ∧ badBuf e.desc 0 0 = none
      ∧ mntGrants s = true
      ∧ lockClash 2 resStore s = none
      ∧ (heldLocks s).length < 16)
    ∧ (∃ (s : State) (c : Cmd) (e : InFlight) (g : PkgIn),
      FromSteward 0x0505 3 c e s
      ∧ badBuf e.desc 0 0 = none
      ∧ mntGrants s = true
      ∧ lockClash 2 resStore s = none
      ∧ (heldLocks s).length < 16
      ∧ g.parsed = false)
    ∧ (∃ (s : State) (c : Cmd) (e : InFlight) (g : PkgIn) (x : FwSlot) (k : Nat),
      FromSteward 0x0505 3 c e s
      ∧ badBuf e.desc 0 0 = none
      ∧ mntGrants s = true
      ∧ lockClash 2 resStore s = none
      ∧ (heldLocks s).length < 16
      ∧ g.parsed = true
      ∧ g.image = some x
      ∧ imageFault s x g.imageLen = some k)
    ∧ (∃ (s : State) (c : Cmd) (e : InFlight) (g : PkgIn) (x : FwSlot),
      FromSteward 0x0505 3 c e s
      ∧ badBuf e.desc 0 0 = none
      ∧ mntGrants s = true
      ∧ lockClash 2 resStore s = none
      ∧ (heldLocks s).length < 16
      ∧ g.parsed = true
      ∧ g.image = some x
      ∧ imageFault s x g.imageLen = none
      ∧ g.profiles = none)
    ∧ (∃ (s : State) (c : Cmd) (e : InFlight) (x : Staged),
      FromSteward 0x0605 0 c e s
      ∧ s.flash.staged = some x
      ∧ anyJob s = false
      ∧ heldLocks s = []
      ∧ tenantOpen s = false
      ∧ cpRuns s = true) := by
  refine ⟨⟨withCmd 0 (entryOf 0x505 0 [64, 64]) (svc), cmdOf 0 (entryOf 0x505 0 [64, 64]), entryOf 0x505 0 [64, 64],
      { parsed := true }, ?_⟩,
    ⟨withCmd 0 (entryOf 0x505 0 [64, 64]) (svc), cmdOf 0 (entryOf 0x505 0 [64, 64]), entryOf 0x505 0 [64, 64],
      { parsed := false }, ?_⟩,
    ⟨withCmd 0 (entryOf 0x505 0 [64, 64]) (svc), cmdOf 0 (entryOf 0x505 0 [64, 64]), entryOf 0x505 0 [64, 64],
      { image := some {}, imageLen := 1 }, {}, 5, ?_⟩,
    ⟨withCmd 0 (entryOf 0x505 0 [64, 64]) (svc), cmdOf 0 (entryOf 0x505 0 [64, 64]), entryOf 0x505 0 [64, 64],
      { image := some { present := true, headerOk := true, chainOk := true, sigOk := true }, imageLen := 28 * mib },
      { present := true, headerOk := true, chainOk := true, sigOk := true }, ?_⟩,
    ⟨withCmd 0 (entryOf 0x605 0 []) ({ svc with flash := { svc.flash with staged := some { image := true, slotB := true, svn := 0, profiles := none } } }),
      cmdOf 0 (entryOf 0x605 0 []), entryOf 0x605 0 [], { image := true, slotB := true, svn := 0, profiles := none },
      ?_⟩⟩ <;>
    repeat' (first | with_reducible rfl | (with_reducible refine some_getD1 _ _ ?_) | (with_reducible refine some_getD2 _ _ ?_) | (with_reducible refine mid_false _ ?_) | (with_reducible refine fst_false _ ?_) | refine And.intro ?_ ?_ | decide +kernel | rfl | refine Or.inl ?_ | (rintro _ (rfl | rfl) <;> decide +kernel) | (intros; simp))

/-- Operands and states that meet the hypotheses of `Obligations.RestartsAndArmedInstants`, clause by clause. -/
theorem meets_RestartsAndArmedInstants :
    (∃ (s : State) (_pc : W64),
      cpUp s = true)
    ∧ (∃ (s : State) (cause : Nat) (_pc : W64),
      2 ≤ cause
      ∧ cause ≤ 5
      ∧ cpUp s = true)
    ∧ (∃ (s : State) (_pc : W64),
      cpUp s = true)
    ∧ (∃ (s : State),
      s.rel.restarting = true
      ∧ s.rel.held = false
      ∧ s.rel.restarts.length < 4
      ∧ s.shut = none
      ∧ s.spring.mbxReady = true)
    ∧ (∃ (s : State),
      s.rel.restarting = true
      ∧ s.rel.held = false
      ∧ 4 ≤ s.rel.restarts.length)
    ∧ (∃ (s : State),
      s.rel.restarting = true
      ∧ s.rel.held = false)
    ∧ (∃ (s : State),
      rtbServes s = true)
    ∧ (∃ (s : State) (x : W64) (n : Nat),
      rtbServes s = true
      ∧ s.rtb.armed = [(x, .lightSwitch n)]
      ∧ x.toNat ≤ (rtNow s).toNat)
    ∧ (∃ (s : State) (x : W64) (slot : Nat) (j : Job),
      rtbServes s = true
      ∧ s.rtb.armed = [(x, .jobStart slot)]
      ∧ x.toNat ≤ (rtNow s).toNat
      ∧ jobAt s slot = some j)
    ∧ (∃ (s : State) (x : W64) (slot : Nat) (action : Nat) (n : Nat) (j : Job),
      rtbServes s = true
      ∧ s.rtb.armed = [(x, .stepControl slot action n)]
      ∧ x.toNat ≤ (rtNow s).toNat
      ∧ jobAt s slot = some j
      ∧ j.state ≠ .aborted)
    ∧ (∃ (s : State) (x : W64) (r : Nat),
      rtbServes s = true
      ∧ s.rtb.armed = [(x, .linkEpoch r)]
      ∧ x.toNat ≤ (rtNow s).toNat) := by
  refine ⟨⟨svc, 0, ?_⟩,
    ⟨svc, 5, 0, ?_⟩,
    ⟨svc, 0, ?_⟩,
    ⟨{ svc with rel := { svc.rel with restarting := true } }, ?_⟩,
    ⟨{ svc with rel := { svc.rel with restarting := true, restarts := [1, 2, 3, 4] } }, ?_⟩,
    ⟨{ svc with rel := { svc.rel with restarting := true } }, ?_⟩,
    ⟨{ svc with rtb := { svc.rtb with valid := true, raw := 2500000 } }, ?_⟩,
    ⟨{ svc with rtb := { svc.rtb with valid := true, raw := 9, armed := [(9, .lightSwitch 7)] } }, 9, 7, ?_⟩,
    ⟨{ { svc with jobA := some jobAd } with rtb := { { svc with jobA := some jobAd }.rtb with valid := true, raw := 9, armed := [(9, .jobStart 0)] } },
      9, 0, jobAd, ?_⟩,
    ⟨{ { svc with jobA := some jobAd } with rtb := { { svc with jobA := some jobAd }.rtb with valid := true, raw := 9, armed := [(9, .stepControl 0 3 0)] } },
      9, 0, 3, 0, jobAd, ?_⟩,
    ⟨{ svc with rtb := { svc.rtb with valid := true, raw := 9, armed := [(9, .linkEpoch 2)] } }, 9, 2, ?_⟩⟩ <;>
    repeat' (first | with_reducible rfl | (with_reducible refine some_getD1 _ _ ?_) | (with_reducible refine some_getD2 _ _ ?_) | (with_reducible refine mid_false _ ?_) | (with_reducible refine fst_false _ ?_) | refine And.intro ?_ ?_ | decide +kernel | rfl | refine Or.inl ?_ | (rintro _ (rfl | rfl) <;> decide +kernel) | (intros; simp))

abbrev tileInstructionsIssue1 : State := sramWrite 0 (lineAddr 7 47 24 1 20479 + 28) (List.replicate 4 7) (tiled 0x1b800007 { pc := 1022, ar := [(7, 20479)] })

/-- Operands and states that meet the hypotheses of `Obligations.TileInstructionsIssue`, clause by clause. -/
theorem meets_TileInstructionsIssue :
    (∃ (s : State) (d : Nat) (c : Nat) (k : Nat) (w : W32) (x : Core),
      TileAt 0 0 d c k w x s)
    ∧ (∃ (s : State) (d : Nat) (c : Nat) (k : Nat) (w : W32),
      coreIssues s d c k = true
      ∧ tileWord s d c k = w
      ∧ (fld w 26 6 = 7 ∨ 0xC ≤ fld w 26 6))
    ∧ (∃ (s : State) (d : Nat) (c : Nat) (k : Nat) (w : W32) (x : Core),
      TileAt 1 0 d c k w x s
      ∧ x.undrained = false)
    ∧ (∃ (s : State) (d : Nat) (c : Nat) (k : Nat) (w : W32) (x : Core),
      TileAt 1 0 d c k w x s
      ∧ x.undrained = true)
    ∧ (∃ (s : State) (d : Nat) (c : Nat) (k : Nat) (w : W32) (x : Core),
      TileAt 2 0x380FFFF d c k w x s)
    ∧ (∃ (s : State) (d : Nat) (c : Nat) (k : Nat) (w : W32) (x : Core),
      TileAt 3 0x380FFFF d c k w x s)
    ∧ (∃ (s : State) (d : Nat) (c : Nat) (k : Nat) (w : W32) (x : Core),
      TileAt 4 0x3000FFF d c k w x s
      ∧ x.loops.length < 4
      ∧ (∀ e ∈ x.loops, e.1 ≠ fld w 24 2))
    ∧ (∃ (s : State) (d : Nat) (c : Nat) (k : Nat) (w : W32) (x : Core) (back : Nat) (rest : List (Nat × Nat)),
      TileAt 5 0x3000000 d c k w x s
      ∧ x.loops = (fld w 24 2, back) :: rest)
    ∧ (∃ (s : State) (s1 : State) (d : Nat) (c : Nat) (k : Nat) (w : W32) (x : Core) (errs : List (Nat × Nat)) (b : List Byte),
      TileAt 6 0x3800007 d c k w x s
      ∧ (∀ l a rows, QEntry.drn .waiting l a rows ∉ x.queue ∧ QEntry.drn .running l a rows ∉ x.queue)
      ∧ (tget 0 x.ar (fld w 23 3)).toNat < 20480
      ∧ memRead (slotRealm s x.slot) (lineAddr d c k x.slot (tget 0 x.ar (fld w 23 3)).toNat + 4 * fld w 0 3) 4 (applyErrs errs s) = (b, false, s1))
    ∧ (∃ (s : State) (d : Nat) (c : Nat) (k : Nat) (w : W32) (x : Core),
      TileAt 0xB 0 d c k w x s)
    ∧ (∃ (s : State) (d : Nat) (c : Nat) (k : Nat) (n : Nat) (a : Nat) (f : BFmt) (w : W32) (x : Core),
      TileAt 8 0x3F8000F d c k w x s
      ∧ fld w 20 2 < 3
      ∧ f = fmtOf (fld w 20 2)
      ∧ n = fld w 0 4 + 1
      ∧ a = (tget 0 x.ar (fld w 23 3)).toNat
      ∧ x.queue.length < 8
      ∧ a + n * wldLines f ≤ 20480
      ∧ n ≤ bankTiles f
      ∧ blkOn s (baseARR d c k) = true)
    ∧ (∃ (s : State) (d : Nat) (c : Nat) (k : Nat) (n : Nat) (a : Nat) (f : BFmt) (w : W32) (x : Core),
      TileAt 9 0x3FCF0FF d c k w x s
      ∧ fld w 20 2 < 3
      ∧ f = fmtOf (fld w 20 2)
      ∧ n = fld w 0 4 + 1
      ∧ a = (tget 0 x.ar (fld w 23 3)).toNat
      ∧ x.queue.length < 8
      ∧ (∀ l ∈ mmaReads f n (bitsOf 4 (fld w 12 4)), a + l < 20480)
      ∧ fld w 4 4 + n ≤ (bankTilesFor x (fld w 22 1)).1
      ∧ x.undrained = false
      ∧ blkOn s (baseARR d c k) = true)
    ∧ (∃ (s : State) (d : Nat) (c : Nat) (k : Nat) (a : Nat) (w : W32) (x : Core),
      TileAt 0xA 0x3E00000 d c k w x s
      ∧ a = (tget 0 x.ar (fld w 23 3)).toNat
      ∧ x.queue.length < 8
      ∧ x.undrained = true
      ∧ (∀ v ∈ drnArrays x, a + 4 * v + 4 ≤ 20480)
      ∧ blkOn s (baseARR d c k) = true) := by
  refine ⟨⟨tiled 0 { pc := 1022 }, 7, 47, 24, 0, { pc := 1022, slot := 1, task := some ctask0 }, ?_⟩,
    ⟨tiled 0x1c000000 { pc := 1022 }, 7, 47, 24, 0x1c000000, ?_⟩,
    ⟨tiled 0x4000000 { pc := 1022 }, 7, 47, 24, 0x4000000, { pc := 1022, slot := 1, task := some ctask0 }, ?_⟩,
    ⟨tiled 0x4000000 { pc := 1022, undrained := true }, 7, 47, 24, 0x4000000, { pc := 1022, undrained := true, slot := 1, task := some ctask0 },
      ?_⟩,
    ⟨tiled 0xb80ffff { pc := 1022 }, 7, 47, 24, 0xb80ffff, { pc := 1022, slot := 1, task := some ctask0 }, ?_⟩,
    ⟨tiled 0xf80ffff { pc := 1022, ar := [(7, 65535)] }, 7, 47, 24, 0xf80ffff, { pc := 1022, ar := [(7, 65535)], slot := 1, task := some ctask0 },
      ?_⟩,
    ⟨tiled 0x13000fff { pc := 1022, loops := [(0, 1), (1, 1), (2, 1)] }, 7, 47, 24, 0x13000fff, { pc := 1022, loops := [(0, 1), (1, 1), (2, 1)], slot := 1, task := some ctask0 },
      ?_⟩,
    ⟨tiled 0x17000000 { pc := 1022, loops := [(3, 5)], lc := [(3, 1)] }, 7, 47, 24, 0x17000000, { pc := 1022, loops := [(3, 5)], lc := [(3, 1)], slot := 1, task := some ctask0 },
      5, [], ?_⟩,
    ⟨tileInstructionsIssue1,
      (memRead (slotRealm tileInstructionsIssue1 1) (lineAddr 7 47 24 1 20479 + 28) 4 (applyErrs [] tileInstructionsIssue1)).2.2,
      7, 47, 24, 0x1b800007, { pc := 1022, ar := [(7, 20479)], slot := 1, task := some ctask0 }, [],
      (memRead (slotRealm tileInstructionsIssue1 1) (lineAddr 7 47 24 1 20479 + 28) 4 (applyErrs [] tileInstructionsIssue1)).1,
      ?_⟩,
    ⟨tiled 0x2c000000 { pc := 1022 }, 7, 47, 24, 0x2c000000, { pc := 1022, slot := 1, task := some ctask0 }, ?_⟩,
    ⟨tiled 0x23a00000 { pc := 1022, ar := [(7, 20415)] }, 7, 47, 24, 1, 20415, .b16, 0x23a00000, { pc := 1022, ar := [(7, 20415)], slot := 1, task := some ctask0 },
      ?_⟩,
    ⟨tiled 0x27c0f0f0 { pc := 1022, ar := [(7, 20477)], queue := [.wld .waiting 0 1 .b4 16] }, 7, 47, 24, 1,
      20477, .b4, 0x27c0f0f0, { pc := 1022, ar := [(7, 20477)], queue := [.wld .waiting 0 1 .b4 16], slot := 1, task := some ctask0 },
      ?_⟩,
    ⟨tiled 0x2ba00000 { pc := 1022, ar := [(7, 20464)], undrained := true, queue := [.mma .waiting 0 0 .b4 0 1 15 false 0] },
      7, 47, 24, 20464, 0x2ba00000, { pc := 1022, ar := [(7, 20464)], undrained := true, queue := [.mma .waiting 0 0 .b4 0 1 15 false 0], slot := 1, task := some ctask0 },
      ?_⟩⟩ <;>
    repeat' (first | with_reducible rfl | (with_reducible refine some_getD1 _ _ ?_) | (with_reducible refine some_getD2 _ _ ?_) | (with_reducible refine mid_false _ ?_) | (with_reducible refine fst_false _ ?_) | refine And.intro ?_ ?_ | decide +kernel | rfl | refine Or.inl ?_ | (rintro _ (rfl | rfl) <;> decide +kernel) | (intros; simp))

abbrev matrixQueueRuns1 : State := sramWrite 0 (lineAddr 7 47 24 1 5) (List.replicate 96 0) (tiled 0 { pc := 0, queue := [.mma .waiting 5 1 .b4 0 1 15 false 0x3F800000] })
abbrev matrixQueueRuns2 : State := tiled 0 { pc := 0, queue := [.drn .running 9 false [(0, List.replicate 32 0x3F800000)]] }

/-- Operands and states that meet the hypotheses of `Obligations.MatrixQueueRuns`, clause by clause. -/
theorem meets_MatrixQueueRuns :
    (∃ (s : State) (d : Nat) (c : Nat) (k : Nat) (a : Nat) (b : Nat) (n : Nat) (f : BFmt) (x : Core) (pre : List QEntry) (post : List QEntry),
      arrRuns s d c k = true
      ∧ Machine.core s d c k = x
      ∧ x.queue = pre ++ .wld .waiting a b f n :: post
      ∧ x.queue.any (isWld .running) = false
      ∧ pre.any (isWld .waiting) = false
      ∧ mmaOn pre b = false
      ∧ drnMeets pre a (n * wldLines f) = false)
    ∧ (∃ (s : State) (s1 : State) (d : Nat) (c : Nat) (k : Nat) (a : Nat) (b : Nat) (n : Nat) (f : BFmt) (x : Core) (pre : List QEntry) (post : List QEntry) (errs : List (Nat × Nat)) (bytes : List Byte) (poison : Bool),
      arrRuns s d c k = true
      ∧ Machine.core s d c k = x
      ∧ x.queue = pre ++ .wld .running a b f n :: post
      ∧ pre.any (isWld .running) = false
      ∧ readLines d c k x.slot a (n * wldLines f) (applyErrs errs s) = (bytes, poison, s1))
    ∧ (∃ (s : State) (s1 : State) (d : Nat) (c : Nat) (k : Nat) (a : Nat) (b : Nat) (first : Nat) (n : Nat) (f : BFmt) (am : BitVec 4) (ns : Bool) (sc : F32) (x : Core) (pre : List QEntry) (post : List QEntry) (errs : List (Nat × Nat)) (bytes : List Byte),
      arrRuns s d c k = true
      ∧ Machine.core s d c k = x
      ∧ x.queue = pre ++ .mma .waiting a b f first n am ns sc :: post
      ∧ x.queue.any (isMma .running) = false
      ∧ pre.any (isMma .waiting) = false
      ∧ wldOn pre b = false
      ∧ drnMeets pre a (groupLines f n) = false
      ∧ readGroup d c k x.slot a (groupLines f n) (mmaReads f n (bitsOf 4 am.toNat)) (applyErrs errs s) = (bytes, false, s1))
    ∧ (∃ (s : State) (d : Nat) (c : Nat) (k : Nat) (x : Core) (e : QEntry) (pre : List QEntry) (post : List QEntry),
      arrRuns s d c k = true
      ∧ Machine.core s d c k = x
      ∧ x.latch = none
      ∧ x.queue = pre ++ e :: post
      ∧ isMma .running e = true
      ∧ pre.any (isMma .running) = false)
    ∧ (∃ (s : State) (d : Nat) (c : Nat) (k : Nat) (a : Nat) (m : Bool) (x : Core) (rows : List (Nat × List F32)) (old : List (Nat × List F32)) (pre : List QEntry) (post : List QEntry),
      arrRuns s d c k = true
      ∧ Machine.core s d c k = x
      ∧ x.latch = some rows
      ∧ x.queue = pre ++ .drn .waiting a m old :: post
      ∧ x.queue.any (isDrn .running) = false
      ∧ pre.any (isDrn .waiting) = false
      ∧ pre.any (fun e => isMma .waiting e || isMma .running e) = false)
    ∧ (∃ (s : State) (s1 : State) (d : Nat) (c : Nat) (k : Nat) (a : Nat) (m : Bool) (x : Core) (rows : List (Nat × List F32)) (pre : List QEntry) (post : List QEntry) (errs : List (Nat × Nat)) (vals : List F32),
      arrRuns s d c k = true
      ∧ Machine.core s d c k = x
      ∧ x.queue = pre ++ .drn .running a m rows :: post
      ∧ pre.any (isDrn .running) = false
      ∧ rows.foldl (drnRow d c k x.slot a m) (false, [], applyErrs errs s) = (false, vals, s1))
    ∧ (∃ (s : State) (d : Nat) (c : Nat) (k : Nat) (x : Core),
      Machine.core s d c k = x
      ∧ x.task.isSome = true
      ∧ x.ending = true
      ∧ x.queue = []
      ∧ clocksRun s = true
      ∧ domOn s (quadDom d c) = true
      ∧ x.pendTask = none)
    ∧ (∃ (s : State) (d : Nat) (c : Nat) (k : Nat) (x : Core) (p : CoreTask),
      Machine.core s d c k = x
      ∧ x.task.isSome = true
      ∧ x.ending = true
      ∧ x.queue = []
      ∧ clocksRun s = true
      ∧ domOn s (quadDom d c) = true
      ∧ x.pendTask = some p
      ∧ x.checking = false)
    ∧ (∃ (s : State) (d : Nat) (c : Nat) (k : Nat) (slot : Nat) (x : Core),
      Machine.core s d c k = x
      ∧ x.switchTo = some slot
      ∧ x.task = none
      ∧ x.checking = false
      ∧ x.pendTask = none
      ∧ clocksRun s = true
      ∧ domOn s (quadDom d c) = true)
    ∧ (∃ (s : State) (d : Nat) (c : Nat) (k : Nat) (slot : Nat) (x : Core) (p : CoreTask),
      Machine.core s d c k = x
      ∧ x.switchTo = some slot
      ∧ x.task = none
      ∧ x.checking = false
      ∧ x.pendTask = some p
      ∧ clocksRun s = true
      ∧ domOn s (quadDom d c) = true)
    ∧ (∃ (s : State) (d : Nat) (q : Nat),
      domOn s (8 * d + q) = true
      ∧ q < 4) := by
  refine ⟨⟨tiled 0 { pc := 0, queue := [.wld .waiting 5 1 .b16 1] }, 7, 47, 24, 5, 1, 1, .b16, { pc := 0, queue := [.wld .waiting 5 1 .b16 1], slot := 1, task := some ctask0 },
      [], [], ?_⟩,
    ⟨tiled 0 { pc := 0, queue := [.wld .running 5 1 .b16 1] },
      (readLines 7 47 24 1 5 (1 * wldLines .b16) (applyErrs [] (tiled 0 { pc := 0, queue := [.wld .running 5 1 .b16 1] }))).2.2,
      7, 47, 24, 5, 1, 1, .b16, { pc := 0, queue := [.wld .running 5 1 .b16 1], slot := 1, task := some ctask0 },
      [], [], [], (readLines 7 47 24 1 5 (1 * wldLines .b16) (applyErrs [] (tiled 0 { pc := 0, queue := [.wld .running 5 1 .b16 1] }))).1,
      (readLines 7 47 24 1 5 (1 * wldLines .b16) (applyErrs [] (tiled 0 { pc := 0, queue := [.wld .running 5 1 .b16 1] }))).2.1,
      ?_⟩,
    ⟨matrixQueueRuns1,
      (readGroup 7 47 24 1 5 (groupLines .b4 1) (mmaReads .b4 1 (bitsOf 4 15)) (applyErrs [] matrixQueueRuns1)).2.2,
      7, 47, 24, 5, 1, 0, 1, .b4, 15, false, 0x3F800000, { pc := 0, queue := [.mma .waiting 5 1 .b4 0 1 15 false 0x3F800000], slot := 1, task := some ctask0 },
      [], [], [],
      (readGroup 7 47 24 1 5 (groupLines .b4 1) (mmaReads .b4 1 (bitsOf 4 15)) (applyErrs [] matrixQueueRuns1)).1,
      ?_⟩,
    ⟨tiled 0 { pc := 0, queue := [.mma .running 5 1 .b4 0 1 15 false 0x3F800000] }, 7, 47, 24, { pc := 0, queue := [.mma .running 5 1 .b4 0 1 15 false 0x3F800000], slot := 1, task := some ctask0 },
      .mma .running 5 1 .b4 0 1 15 false 0x3F800000, [], [], ?_⟩,
    ⟨tiled 0 { latch := some [(0, [])], queue := [.drn .waiting 9 true []] }, 7, 47, 24, 9, true,
      { latch := some [(0, [])], queue := [.drn .waiting 9 true []], slot := 1, task := some ctask0 }, [(0, [])],
      [], [], [], ?_⟩,
    ⟨matrixQueueRuns2, ([(0, List.replicate 32 0x3F800000)].foldl (drnRow 7 47 24 1 9 false) (false, [],
      applyErrs [] matrixQueueRuns2)).2.2, 7, 47, 24, 9, false, { pc := 0, queue := [.drn .running 9 false [(0, List.replicate 32 0x3F800000)]], slot := 1, task := some ctask0 },
      [(0, List.replicate 32 0x3F800000)], [], [], [], ([(0,
      List.replicate 32 0x3F800000)].foldl (drnRow 7 47 24 1 9 false) (false, [],
      applyErrs [] matrixQueueRuns2)).2.1, ?_⟩,
    ⟨tiled 0 { ending := true }, 7, 47, 24, { ending := true, slot := 1, task := some ctask0 }, ?_⟩,
    ⟨tiled 0 { ending := true, pendTask := some ctask0 }, 7, 47, 24, { ending := true, pendTask := some ctask0, slot := 1, task := some ctask0 },
      ctask0, ?_⟩,
    ⟨{ svc with cmp := { core := [(coreKey 7 47 24, { switchTo := some 1 })] } }, 7, 47, 24, 1,
      { switchTo := some 1 }, ?_⟩,
    ⟨{ svc with cmp := { core := [(coreKey 7 47 24, { switchTo := some 1, pendTask := some ctask0 })] } }, 7, 47,
      24, 1, { switchTo := some 1, pendTask := some ctask0 }, ctask0, ?_⟩,
    ⟨svc, 7, 3, ?_⟩⟩ <;>
    repeat' (first | with_reducible rfl | (with_reducible refine some_getD1 _ _ ?_) | (with_reducible refine some_getD2 _ _ ?_) | (with_reducible refine mid_false _ ?_) | (with_reducible refine fst_false _ ?_) | refine And.intro ?_ ?_ | decide +kernel | rfl | refine Or.inl ?_ | (rintro _ (rfl | rfl) <;> decide +kernel) | (intros; simp))

/-- Operands and states that meet the hypotheses of `Obligations.ControlCoreComputes`, clause by clause. -/
theorem meets_ControlCoreComputes :
    (∃ (s : State) (d : Nat) (c : Nat) (sl : Nat) (w : W32) (x : Ccc),
      CccAt 0 0 [] d c sl w x s)
    ∧ (∃ (s : State) (d : Nat) (c : Nat) (sl : Nat) (w : W32),
      cccIssues s d c sl = true
      ∧ cccWord s d c sl = w
      ∧ (fld w 26 6 = 0xF ∨ 0x16 ≤ fld w 26 6))
    ∧ (∃ (s : State) (d : Nat) (c : Nat) (sl : Nat) (w : W32) (x : Ccc),
      CccAt 2 0x3FFFFFF [cD w, cA w, cB w] d c sl w x s)
    ∧ (∃ (s : State) (d : Nat) (c : Nat) (sl : Nat) (w : W32) (x : Ccc),
      CccAt 3 0x3FFFFFF [cD w, cA w] d c sl w x s)
    ∧ (∃ (s : State) (d : Nat) (c : Nat) (sl : Nat) (w : W32) (x : Ccc),
      CccAt 4 0x3E0FFFF [cD w] d c sl w x s)
    ∧ (∃ (s : State) (d : Nat) (c : Nat) (sl : Nat) (w : W32) (x : Ccc),
      CccAt 5 0x3FFFFFF [cD w, cA w] d c sl w x s)
    ∧ (∃ (s : State) (d : Nat) (c : Nat) (sl : Nat) (a : Nat) (w : W32) (x : Ccc) (_errs : List (Nat × Nat)),
      CccAt 6 0x3FFFFFF [cD w, cA w] d c sl w x s
      ∧ cccAddr w x = a)
    ∧ (∃ (s : State) (d : Nat) (c : Nat) (sl : Nat) (a : Nat) (w : W32) (x : Ccc),
      CccAt 7 0x3FFFFFF [cD w, cA w] d c sl w x s
      ∧ cccAddr w x = a)
    ∧ (∃ (s : State) (d : Nat) (c : Nat) (sl : Nat) (w : W32) (x : Ccc),
      CccAt 0x14 0x3E00000 [cD w] d c sl w x s)
    ∧ (∃ (s : State) (d : Nat) (c : Nat) (sl : Nat) (w : W32) (x : Ccc),
      CccAt 0x15 0x3E00000 [cD w] d c sl w x s)
    ∧ (∃ (s : State) (d : Nat) (c : Nat) (sl : Nat) (w : W32),
      cccIssues s d c sl = true
      ∧ cccWord s d c sl = w
      ∧ fld w 26 6 = 5
      ∧ (24 ≤ cD w ∨ 24 ≤ cA w)
      ∧ (ve s d c sl).run = true) := by
  refine ⟨⟨cccd 0 { pc := 2046 }, 7, 47, 1, 0, { pc := 2046, task := some (0, 0, 0, 0) }, ?_⟩,
    ⟨cccd 0x3c000000 { pc := 2046 }, 7, 47, 1, 0x3c000000, ?_⟩,
    ⟨cccd 0xbfff805 { pc := 2046 }, 7, 47, 1, 0xbfff805, { pc := 2046, task := some (0, 0, 0, 0) }, ?_⟩,
    ⟨cccd 0xfe11800 { pc := 2046 }, 7, 47, 1, 0xfe11800, { pc := 2046, task := some (0, 0, 0, 0) }, ?_⟩,
    ⟨cccd 0x13e0ffff { pc := 2046 }, 7, 47, 1, 0x13e0ffff, { pc := 2046, task := some (0, 0, 0, 0) }, ?_⟩,
    ⟨cccd 0x17ffffff { pc := 2046 }, 7, 47, 1, 0x17ffffff, { pc := 2046, task := some (0, 0, 0, 0) }, ?_⟩,
    ⟨cccd 0x1bff8000 { pc := 2046, s := [(31, 0x80000008000)] }, 7, 47, 1, 0x80000000000, 0x1bff8000,
      { pc := 2046, s := [(31, 0x80000008000)], task := some (0, 0, 0, 0) }, [], ?_⟩,
    ⟨cccd 0x1fff8000 { pc := 2046, s := [(31, 0x80000008000)] }, 7, 47, 1, 0x80000000000, 0x1fff8000,
      { pc := 2046, s := [(31, 0x80000008000)], task := some (0, 0, 0, 0) }, ?_⟩,
    ⟨cccd 0x53e00000 { pc := 2046 }, 7, 47, 1, 0x53e00000, { pc := 2046, task := some (0, 0, 0, 0) }, ?_⟩,
    ⟨cccd 0x57e00000 { pc := 2046 }, 7, 47, 1, 0x57e00000, { pc := 2046, task := some (0, 0, 0, 0) }, ?_⟩,
    ⟨{ cccd 0x17000000 {} with cmp := { (cccd 0x17000000 {}).cmp with ve := [(ctxKey 7 47 1, { run := true })] } },
      7, 47, 1, 0x17000000, ?_⟩⟩ <;>
    repeat' (first | with_reducible rfl | (with_reducible refine some_getD1 _ _ ?_) | (with_reducible refine some_getD2 _ _ ?_) | (with_reducible refine mid_false _ ?_) | (with_reducible refine fst_false _ ?_) | refine And.intro ?_ ?_ | decide +kernel | rfl | refine Or.inl ?_ | (rintro _ (rfl | rfl) <;> decide +kernel) | (intros; simp))

/-- Operands and states that meet the hypotheses of `Obligations.ControlCoreBranches`, clause by clause. -/
theorem meets_ControlCoreBranches :
    (∃ (s : State) (d : Nat) (c : Nat) (sl : Nat) (w : W32) (x : Ccc),
      CccAt 8 0x3FFFFFF [cD w, cA w] d c sl w x s)
    ∧ (∃ (s : State) (d : Nat) (c : Nat) (sl : Nat) (w : W32) (x : Ccc),
      CccAt 9 0x3FFFFFF [cD w, cA w] d c sl w x s)
    ∧ (∃ (s : State) (d : Nat) (c : Nat) (sl : Nat) (w : W32) (x : Ccc),
      CccAt 0xA 0x3FFFFFF [cD w, cA w] d c sl w x s)
    ∧ (∃ (s : State) (d : Nat) (c : Nat) (sl : Nat) (w : W32) (x : Ccc),
      CccAt 0xB 0x3FFFFFF [cD w, cA w] d c sl w x s)
    ∧ (∃ (s : State) (d : Nat) (c : Nat) (sl : Nat) (w : W32) (x : Ccc),
      CccAt 0xC 0x3FFFFFF [cD w, cA w] d c sl w x s)
    ∧ (∃ (s : State) (d : Nat) (c : Nat) (sl : Nat) (w : W32) (x : Ccc),
      CccAt 0xD 0x3FFFFFF [cD w] d c sl w x s)
    ∧ (∃ (s : State) (d : Nat) (c : Nat) (sl : Nat) (w : W32) (x : Ccc) (t : W64),
      CccAt 0xE 0x3FFFFFF [cD w, cA w] d c sl w x s
      ∧ t = sReg x (cA w) + BitVec.ofInt 64 (sfld w 0 16))
    ∧ (∃ (s : State) (d : Nat) (c : Nat) (sl : Nat) (w : W32) (x : Ccc),
      CccAt 1 0 [] d c sl w x s)
    ∧ (∃ (s : State) (d : Nat) (c : Nat) (sl : Nat) (w : W32) (x : Ccc) (cores : BitVec 24),
      CccAt 0x13 0x1F0007 [cA w] d c sl w x s
      ∧ cores = BitVec.ofNat 24 (sReg x (cA w)).toNat) := by
  refine ⟨⟨cccd 0x23ffffff { pc := 2046 }, 7, 47, 1, 0x23ffffff, { pc := 2046, task := some (0, 0, 0, 0) }, ?_⟩,
    ⟨cccd 0x27ffffff { pc := 2046 }, 7, 47, 1, 0x27ffffff, { pc := 2046, task := some (0, 0, 0, 0) }, ?_⟩,
    ⟨cccd 0x2bffffff { pc := 2046 }, 7, 47, 1, 0x2bffffff, { pc := 2046, task := some (0, 0, 0, 0) }, ?_⟩,
    ⟨cccd 0x2fffffff { pc := 2046 }, 7, 47, 1, 0x2fffffff, { pc := 2046, task := some (0, 0, 0, 0) }, ?_⟩,
    ⟨cccd 0x33ffffff { pc := 2046 }, 7, 47, 1, 0x33ffffff, { pc := 2046, task := some (0, 0, 0, 0) }, ?_⟩,
    ⟨cccd 0x37ffffff { pc := 2046 }, 7, 47, 1, 0x37ffffff, { pc := 2046, task := some (0, 0, 0, 0) }, ?_⟩,
    ⟨cccd 0x3bff7fff { pc := 2046 }, 7, 47, 1, 0x3bff7fff, { pc := 2046, task := some (0, 0, 0, 0) }, 0x7FFF,
      ?_⟩,
    ⟨cccd 0x4000000 { pc := 2046 }, 7, 47, 1, 0x4000000, { pc := 2046, task := some (0, 0, 0, 0) }, ?_⟩,
    ⟨cccd 0x4c1f0007 { pc := 2046 }, 7, 47, 1, 0x4c1f0007, { pc := 2046, task := some (0, 0, 0, 0) },
      BitVec.ofNat 24 (sReg { pc := 2046, task := some (0, 0, 0, 0) } 31).toNat, ?_⟩⟩ <;>
    repeat' (first | with_reducible rfl | (with_reducible refine some_getD1 _ _ ?_) | (with_reducible refine some_getD2 _ _ ?_) | (with_reducible refine mid_false _ ?_) | (with_reducible refine fst_false _ ?_) | refine And.intro ?_ ?_ | decide +kernel | rfl | refine Or.inl ?_ | (rintro _ (rfl | rfl) <;> decide +kernel) | (intros; simp))

abbrev controlCoreStartsWork1 : State := cccd 0 { pc := 2046, stall := some (.wait 7 true false false) }

/-- Operands and states that meet the hypotheses of `Obligations.ControlCoreStartsWork`, clause by clause. -/
theorem meets_ControlCoreStartsWork :
    (∃ (s : State) (d : Nat) (c : Nat) (sl : Nat) (k : Nat) (w : W32) (x : Ccc) (t : CoreTask) (y : Core),
      CccAt 0x10 0x3FFFFFF [cA w, cB w, cB w + 1, cD w] d c sl w x s
      ∧ fld w 0 11 = 0
      ∧ cB w ≠ 0
      ∧ cB w ≠ 31
      ∧ t = taskOf x (cA w) (cB w) (cD w)
      ∧ k = physCore s d c t.logical
      ∧ y = Machine.core s d c k
      ∧ t.logical < 24
      ∧ (clu s d c).lost ≠ k
      ∧ blkOn s (baseCORE d c k) = true)
    ∧ (∃ (s : State) (d : Nat) (c : Nat) (sl : Nat) (w : W32) (x : Ccc),
      CccAt 0x10 0x3FFFFFF [cA w, cB w, cB w + 1, cD w] d c sl w x s
      ∧ fld w 0 11 = 0
      ∧ cB w ≠ 0
      ∧ cB w ≠ 31
      ∧ 24 ≤ fld (sReg x (cA w)) 0 5)
    ∧ (∃ (s : State) (d : Nat) (c : Nat) (sl : Nat) (w : W32) (x : Ccc) (v : Ve),
      CccAt 0x11 0x1F07FF ((List.range 4).map (cA w + ·)) d c sl w x s
      ∧ v = ve s d c sl
      ∧ blkOn s (baseVE d c) = true)
    ∧ (∃ (s : State) (d : Nat) (c : Nat) (sl : Nat) (w : W32) (x : Ccc),
      CccAt 0x11 0x1F07FF ((List.range 4).map (cA w + ·)) d c sl w x s
      ∧ blkOn s (baseVE d c) = false)
    ∧ (∃ (s : State) (d : Nat) (c : Nat) (sl : Nat) (w : W32) (x : Ccc) (q : Dma),
      CccAt 0x12 0x3FFFFC0 ((List.range 7).map (cD w + ·)) d c sl w x s
      ∧ q = dma s d c sl
      ∧ blkOn s (baseCLU d c) = true)
    ∧ (∃ (s : State) (d : Nat) (c : Nat) (sl : Nat) (x : Ccc),
      ccc s d c sl = x
      ∧ x.task.isSome = true
      ∧ x.faulted = false
      ∧ clocksRun s = true
      ∧ domOn s (quadDom d c) = true
      ∧ blkOn s (baseCCC d c) = true
      ∧ x.pc < 2047)
    ∧ (∃ (s : State) (d : Nat) (c : Nat) (sl : Nat) (x : Ccc),
      ccc s d c sl = x
      ∧ x.task.isSome = true
      ∧ x.faulted = false
      ∧ clocksRun s = true
      ∧ domOn s (quadDom d c) = true
      ∧ blkOn s (baseCCC d c) = true
      ∧ x.pc < 2047
      ∧ x.stall = some .summary)
    ∧ (∃ (s : State) (d : Nat) (c : Nat) (sl : Nat) (x : Ccc) (m : _) (v : _) (q0 : _) (q1 : _),
      ccc s d c sl = x
      ∧ x.task.isSome = true
      ∧ x.faulted = false
      ∧ clocksRun s = true
      ∧ domOn s (quadDom d c) = true
      ∧ blkOn s (baseCCC d c) = true
      ∧ x.pc < 2047
      ∧ x.stall = some (.wait m v q0 q1)
      ∧ waitOver s d c sl m v q0 q1 = true)
    ∧ (∃ (s : State) (d : Nat) (c : Nat) (sl : Nat) (x : Ccc) (m : _) (v : _) (q0 : _) (q1 : _),
      ccc s d c sl = x
      ∧ x.task.isSome = true
      ∧ x.faulted = false
      ∧ clocksRun s = true
      ∧ domOn s (quadDom d c) = true
      ∧ blkOn s (baseCCC d c) = true
      ∧ x.pc < 2047
      ∧ x.stall = some (.wait m v q0 q1)
      ∧ waitOver s d c sl m v q0 q1 = false)
    ∧ (∃ (s : State) (d : Nat) (c : Nat) (sl : Nat) (x : Ccc) (w : _),
      ccc s d c sl = x
      ∧ x.task.isSome = true
      ∧ x.faulted = false
      ∧ clocksRun s = true
      ∧ domOn s (quadDom d c) = true
      ∧ blkOn s (baseCCC d c) = true
      ∧ x.pc < 2047
      ∧ x.stall = some (.dma w)
      ∧ blkOn s (baseCLU d c) = true
      ∧ xferGood x w = true
      ∧ bit w 6 = false
      ∧ (dma s d c sl).q0.length < 4) := by
  refine ⟨⟨cccd 0x43c5e800 { pc := 2046, s := [(5, 23), (30, 0x1FF000003FF)] }, 7, 47, 1, 23, 0x43c5e800, { pc := 2046, s := [(5, 23), (30, 0x1FF000003FF)], task := some (0, 0, 0, 0) },
      taskOf { pc := 2046, s := [(5, 23), (30, 0x1FF000003FF)] } 5 29 30, {}, ?_⟩,
    ⟨cccd 0x43c5e800 { pc := 2046, s := [(5, 24)] }, 7, 47, 1, 0x43c5e800, { pc := 2046, s := [(5, 24)], task := some (0, 0, 0, 0) },
      ?_⟩,
    ⟨cccd 0x440407ff { pc := 2046 }, 7, 47, 1, 0x440407ff, { pc := 2046, task := some (0, 0, 0, 0) }, {}, ?_⟩,
    ⟨blkAs (baseVE 7 47) {} (cccd 0x440407ff { pc := 2046 }), 7, 47, 1, 0x440407ff, { pc := 2046, task := some (0, 0, 0, 0) },
      ?_⟩,
    ⟨cccd 0x4a9fffc0 { pc := 2046 }, 7, 47, 1, 0x4a9fffc0, { pc := 2046, task := some (0, 0, 0, 0) }, {}, ?_⟩,
    ⟨cccd 0 { pc := 2046 }, 7, 47, 1, { pc := 2046, task := some (0, 0, 0, 0) }, ?_⟩,
    ⟨cccd 0 { pc := 2046, stall := some .summary }, 7, 47, 1, { pc := 2046, stall := some .summary, task := some (0, 0, 0, 0) },
      ?_⟩,
    ⟨controlCoreStartsWork1, 7, 47, 1, { pc := 2046, stall := some (.wait 7 true false false), task := some (0, 0, 0, 0) },
      7, true, false, false, ?_⟩,
    ⟨{ controlCoreStartsWork1 with cmp := { controlCoreStartsWork1.cmp with ve := [(ctxKey 7 47 1, { run := true })] } },
      7, 47, 1, { pc := 2046, stall := some (.wait 7 true false false), task := some (0, 0, 0, 0) }, 7, true,
      false, false, ?_⟩,
    ⟨cccd 0 { pc := 2046, s := [(3, 1)], stall := some (.dma 0x48200000) }, 7, 47, 1, { pc := 2046, s := [(3, 1)], stall := some (.dma 0x48200000), task := some (0, 0, 0, 0) },
      0x48200000, ?_⟩⟩ <;>
    repeat' (first | with_reducible rfl | (with_reducible refine some_getD1 _ _ ?_) | (with_reducible refine some_getD2 _ _ ?_) | (with_reducible refine mid_false _ ?_) | (with_reducible refine fst_false _ ?_) | refine And.intro ?_ ?_ | decide +kernel | rfl | refine Or.inl ?_ | (rintro _ (rfl | rfl) <;> decide +kernel) | (intros; simp))

/-- Operands and states that meet the hypotheses of `Obligations.VectorControlAndSummaries`, clause by clause. -/
theorem meets_VectorControlAndSummaries :
    (∃ (s : State) (d : Nat) (c : Nat) (sl : Nat) (w : W32) (v : Ve),
      VeAt 0 0 d c sl w v s)
    ∧ (∃ (s : State) (d : Nat) (c : Nat) (sl : Nat) (w : W32),
      veIssues s d c sl = true
      ∧ veWord s d c sl = w
      ∧ (fld w 26 6 ∈ [0xD, 0xE, 0xF, 0x17, 0x1A, 0x1B] ∨ 0x20 ≤ fld w 26 6))
    ∧ (∃ (s : State) (d : Nat) (c : Nat) (sl : Nat) (w : W32) (v : Ve),
      VeAt 1 0 d c sl w v s)
    ∧ (∃ (s : State) (d : Nat) (c : Nat) (sl : Nat) (n : Nat) (w : W32) (v : Ve),
      VeAt 2 0x39C0FFF d c sl w v s
      ∧ n = (if bit w 23 = true then (vaOf v (fVA w)).toNat else fld w 0 12 + 1))
    ∧ (∃ (s : State) (d : Nat) (c : Nat) (sl : Nat) (m : Nat) (back : Nat) (w : W32) (v : Ve) (rest : List (Nat × Nat)),
      VeAt 3 0x3000000 d c sl w v s
      ∧ v.loops = (m, back) :: rest)
    ∧ (∃ (s : State) (d : Nat) (c : Nat) (sl : Nat) (w : W32) (v : Ve),
      VeAt 4 0x1C00C0 d c sl w v s
      ∧ fTY w ≠ 3)
    ∧ (∃ (s : State) (d : Nat) (c : Nat) (sl : Nat) (w : W32) (v : Ve),
      VeAt 5 0x1CFFFF d c sl w v s)
    ∧ (∃ (s : State) (d : Nat) (c : Nat) (sl : Nat) (w : W32) (v : Ve),
      VeAt 6 0x1F8000 d c sl w v s)
    ∧ (∃ (s : State) (d : Nat) (c : Nat) (sl : Nat) (n : Nat) (w : W32) (v : Ve),
      VeAt 0x13 0x3FFFFFF d c sl w v s
      ∧ fTY w ≠ 3
      ∧ fFN w ≤ 4
      ∧ 1 ≤ fD w
      ∧ fD w < 8
      ∧ n = min v.vlen (if fTY w = 0 then 128 else 256))
    ∧ (∃ (s : State) (d : Nat) (c : Nat) (sl : Nat) (w : W32) (v : Ve),
      VeAt 0x14 0x3FFF83F d c sl w v s
      ∧ fFN w ≤ 3
      ∧ 1 ≤ fD w
      ∧ fD w < 8
      ∧ fA w < 8
      ∧ fB w < 8)
    ∧ (∃ (s : State) (d : Nat) (c : Nat) (sl : Nat) (w : W32) (v : Ve),
      VeAt 0x18 0x3FF07FF d c sl w v s
      ∧ fTY w = 0
      ∧ fFN w ≤ 2)
    ∧ (∃ (s : State) (d : Nat) (c : Nat) (sl : Nat) (w : W32) (v : Ve),
      VeAt 0x19 0x3FF07FF d c sl w v s
      ∧ fTY w = 0
      ∧ fFN w ≤ 4
      ∧ fD w < 8)
    ∧ (∃ (s : State) (d : Nat) (c : Nat) (sl : Nat) (w : W32) (v : Ve),
      VeAt 0x1C 0xFF d c sl w v s)
    ∧ (∃ (s : State) (d : Nat) (c : Nat) (sl : Nat) (v : Ve),
      ve s d c sl = v
      ∧ v.run = true
      ∧ v.ending = true
      ∧ clocksRun s = true
      ∧ domOn s (quadDom d c) = true) := by
  refine ⟨⟨ved 0 { pc := 2046 }, 7, 47, 1, 0, { pc := 2046, run := true }, ?_⟩,
    ⟨ved 0x6c000000 { pc := 2046 }, 7, 47, 1, 0x6c000000, ?_⟩,
    ⟨ved 0x4000000 { pc := 2046 }, 7, 47, 1, 0x4000000, { pc := 2046, run := true }, ?_⟩,
    ⟨ved 0xb9c0fff { pc := 2046, va := [(7, 3)] }, 7, 47, 1, 3, 0xb9c0fff, { pc := 2046, va := [(7, 3)], run := true },
      ?_⟩,
    ⟨ved 0xf000000 { pc := 2046, loops := [(3, 5)], vl := [(3, 1)] }, 7, 47, 1, 3, 5, 0xf000000, { pc := 2046, loops := [(3, 5)], vl := [(3, 1)], run := true },
      [], ?_⟩,
    ⟨ved 0x101c0080 { pc := 2046 }, 7, 47, 1, 0x101c0080, { pc := 2046, run := true }, ?_⟩,
    ⟨ved 0x141cffff { pc := 2046 }, 7, 47, 1, 0x141cffff, { pc := 2046, run := true }, ?_⟩,
    ⟨ved 0x181f8000 { pc := 2046 }, 7, 47, 1, 0x181f8000, { pc := 2046, run := true }, ?_⟩,
    ⟨ved 0x4cffff84 { pc := 2046, vlen := 256 }, 7, 47, 1, 256, 0x4cffff84, { pc := 2046, vlen := 256, run := true },
      ?_⟩,
    ⟨ved 0x50e73803 { pc := 2046 }, 7, 47, 1, 0x50e73803, { pc := 2046, run := true }, ?_⟩,
    ⟨ved 0x63ff0702 { pc := 2046 }, 7, 47, 1, 0x63ff0702, { pc := 2046, run := true }, ?_⟩,
    ⟨ved 0x64ff0704 { pc := 2046 }, 7, 47, 1, 0x64ff0704, { pc := 2046, run := true }, ?_⟩,
    ⟨ved 0x700000ff { pc := 2046 }, 7, 47, 1, 0x700000ff, { pc := 2046, run := true }, ?_⟩,
    ⟨{ svc with cmp := { ve := [(ctxKey 7 47 1, { run := true, ending := true })] } }, 7, 47, 1, { run := true, ending := true },
      ?_⟩⟩ <;>
    repeat' (first | with_reducible rfl | (with_reducible refine some_getD1 _ _ ?_) | (with_reducible refine some_getD2 _ _ ?_) | (with_reducible refine mid_false _ ?_) | (with_reducible refine fst_false _ ?_) | refine And.intro ?_ ?_ | decide +kernel | rfl | refine Or.inl ?_ | (rintro _ (rfl | rfl) <;> decide +kernel) | (intros; simp))

abbrev vectorElements1 : State := { sramWrite 0 (sramBase 7 + 0x5F000000 + 0x2000) (List.replicate 32 0) (sramWrite 0 (sramBase 7 + 0x5F000000) (List.replicate 32 0) (sramWrite 0 (sramBase 7 + 0x5F000000 + 4064) (List.replicate 64 0) (ved 0x7bf5a000 { pc := 2046, vlen := 32, tid := 9, va := [(2, 0x80002000), (3, 63), (5, 0x80000000)] }))) with jobB := some { job0 with slot := 1, tensors := [tensor0] } }
abbrev vectorElements2 : State := { sramWrite 0 (sramBase 7 + 0x5F000000 + 0x2000) (List.replicate 32 0) (sramWrite 0 (sramBase 7 + 0x5F000000) (List.replicate 32 0) (sramWrite 0 (sramBase 7 + 0x5F000000 + 4064) (List.replicate 64 0) (ved 0x77f5a000 { pc := 2046, vlen := 32, tid := 9, va := [(2, 0x80002000), (3, 63), (5, 0x80000000)] }))) with jobB := some { job0 with slot := 1, tensors := [tensor0] } }
abbrev vectorElements3 : State := sramWrite 0 (sramBase 7 + 0x5F7FFFE0) (List.replicate 32 1) (ved 0x23f40000 { pc := 2046, vlen := 2, va := [(5, 0x807FFFF8)] })
abbrev vectorElements4 : State := sramWrite 0 (sramBase 7 + 0x5F7FFFE0) (List.replicate 32 1) (ved 0x2bf43800 { pc := 2046, vlen := 2, va := [(5, 0x807FFFF8)] })
abbrev vectorElements5 : State := sramWrite 0 (sramBase 7 + 0x5F7FFFE0) (List.replicate 32 1) (ved 0x33f40000 { pc := 2046, vlen := 2, va := [(5, 0x807FFFF8)] })
abbrev vectorElements6 : State := sramWrite 0 (sramBase 7 + 0x5F7FFFE0) (List.replicate 32 1) (ved 0 { vlen := 2 })

/-- Operands and states that meet the hypotheses of `Obligations.VectorElements`, clause by clause. -/
theorem meets_VectorElements :
    (∃ (s : State) (d : Nat) (c : Nat) (sl : Nat) (w : W32) (v : Ve),
      VeAt 7 0x3E3FFFF d c sl w v s
      ∧ fld w 16 2 ≠ 3)
    ∧ (∃ (s : State) (d : Nat) (c : Nat) (sl : Nat) (ty : Nat) (w : W32) (v : Ve),
      ty = fTY w
      ∧ ty ≠ 3
      ∧ VeAt 0x10 0x3FFFFFF d c sl w v s
      ∧ fFN w ≤ 5)
    ∧ (∃ (s : State) (d : Nat) (c : Nat) (sl : Nat) (ty : Nat) (w : W32) (v : Ve) (f : FFmt),
      ty = fTY w
      ∧ ty ≠ 3
      ∧ f = tyFmt ty
      ∧ VeAt 0x11 0x3FFFFFF d c sl w v s
      ∧ fFN w ≤ 1)
    ∧ (∃ (s : State) (d : Nat) (c : Nat) (sl : Nat) (ty : Nat) (w : W32) (v : Ve),
      ty = fTY w
      ∧ ty ≠ 3
      ∧ VeAt 0x12 0x3FF07FF d c sl w v s
      ∧ (fFN w < 3 ∨ fFN w ≤ 7 ∧ ty = 0))
    ∧ (∃ (s : State) (d : Nat) (c : Nat) (sl : Nat) (ty : Nat) (w : W32) (v : Ve),
      ty = fTY w
      ∧ ty ≠ 3
      ∧ VeAt 0x15 0x3FFFFC0 d c sl w v s)
    ∧ (∃ (s : State) (d : Nat) (c : Nat) (sl : Nat) (src : Nat) (ty : Nat) (w : W32) (v : Ve),
      ty = fTY w
      ∧ ty ≠ 3
      ∧ src = fld w 0 2
      ∧ src ≠ 3
      ∧ VeAt 0x16 0x3FF07C7 d c sl w v s)
    ∧ (∃ (s : State) (s1 : State) (d : Nat) (c : Nat) (sl : Nat) (ty : Nat) (w : W32) (v : Ve) (vals : List Nat) (errs : List (Nat × Nat)) (addr : Nat → W32) (els : List Nat),
      ty = fTY w
      ∧ els = active v ty (fMK w)
      ∧ veAddrBad s d c sl (tyBytes ty) (els.map addr) = none
      ∧ veReads d c sl (tyBytes ty) (els.map addr) (applyErrs errs s) = (vals, false, s1))
    ∧ (∃ (s : State) (d : Nat) (c : Nat) (sl : Nat) (ty : Nat) (w : W32) (v : Ve) (addr : Nat → W32) (els : List Nat),
      ty = fTY w
      ∧ els = active v ty (fMK w)
      ∧ veAddrBad s d c sl (tyBytes ty) (els.map addr) = none)
    ∧ (∃ (s : State) (s0 : State) (d : Nat) (c : Nat) (sl : Nat) (k : Nat) (b : Nat) (e : Nat) (len : Nat) (n : Nat) (ho : Nat) (bo : Nat) (wo : Nat) (w : W32) (v : Ve) (errs : List (Nat × Nat)) (j : Job) (x : Tensor) (hdr : List Byte) (s1 : State),
      VeAt 0x1D 0x3FFFE00 d c sl w v s
      ∧ s0 = applyErrs errs s
      ∧ ctxJob s0 sl = some j
      ∧ tensorOn j d v.tid = some x
      ∧ isB x.format = true
      ∧ x.cls ≠ 5
      ∧ k = (vaOf v (fld w 15 3)).toNat
      ∧ n = fld w 9 3 + 1
      ∧ len = seqLen v n
      ∧ b = (len + 31) / 32
      ∧ e = blockBytes x.format
      ∧ k + b ≤ 64
      ∧ blkOn s0 (baseWAT d c) = true
      ∧ fD w + n ≤ 32
      ∧ (vaOf v (fld w 12 3)).toNat % 4 = 0
      ∧ (x.format = 2 → (vaOf v (fVA w)).toNat % 2 = 0)
      ∧ veAddr s0 d c sl (vaOf v (fVA w) + BitVec.ofNat 32 (k / 2)) ((k + b + 1) / 2 - k / 2) = some ho
      ∧ veAddr s0 d c sl (vaOf v (fVA w) + BitVec.ofNat 32 (32 + k * e)) (b * e) = some bo
      ∧ veAddr s0 d c sl (vaOf v (fld w 12 3)) 4 = some wo
      ∧ memRead (slotRealm s0 sl) ho ((k + b + 1) / 2 - k / 2) s0 = (hdr, false, s1))
    ∧ (∃ (s : State) (s0 : State) (s1 : State) (s2 : State) (s3 : State) (d : Nat) (c : Nat) (sl : Nat) (k : Nat) (b : Nat) (e : Nat) (len : Nat) (n : Nat) (ho : Nat) (bo : Nat) (wo : Nat) (w : W32) (v : Ve) (errs : List (Nat × Nat)) (j : Job) (x : Tensor) (hdr : List Byte) (body : List Byte) (sc : List Byte),
      VeAt 0x1E 0x3FFFE00 d c sl w v s
      ∧ s0 = applyErrs errs s
      ∧ ctxJob s0 sl = some j
      ∧ tensorOn j d v.tid = some x
      ∧ isB x.format = true
      ∧ k = (vaOf v (fld w 15 3)).toNat
      ∧ n = fld w 9 3 + 1
      ∧ len = seqLen v n
      ∧ b = (len + 31) / 32
      ∧ e = blockBytes x.format
      ∧ k + b ≤ 64
      ∧ fD w + n ≤ 32
      ∧ (vaOf v (fld w 12 3)).toNat % 4 = 0
      ∧ (x.format = 2 → (vaOf v (fVA w)).toNat % 2 = 0)
      ∧ veAddr s0 d c sl (vaOf v (fVA w) + BitVec.ofNat 32 (k / 2)) ((k + b + 1) / 2 - k / 2) = some ho
      ∧ veAddr s0 d c sl (vaOf v (fVA w) + BitVec.ofNat 32 (32 + k * e)) (b * e) = some bo
      ∧ veAddr s0 d c sl (vaOf v (fld w 12 3)) 4 = some wo
      ∧ memRead (slotRealm s0 sl) ho ((k + b + 1) / 2 - k / 2) s0 = (hdr, false, s1)
      ∧ memRead (slotRealm s0 sl) bo (b * e) s1 = (body, false, s2)
      ∧ memRead (slotRealm s0 sl) wo 4 s2 = (sc, false, s3))
    ∧ (∃ (s : State) (d : Nat) (c : Nat) (sl : Nat) (tid : Nat) (tbl : Nat) (i : Nat) (m : Nat) (tag : W16) (w : W32) (v : Ve) (j : Job),
      VeAt 0x1F 0x1F0000 d c sl w v s
      ∧ ctxJob s sl = some j
      ∧ j.adm.lossTid = some tid
      ∧ (ccc s d c sl).task = some (tbl, i, m, tag))
    ∧ (∃ (s : State) (s1 : State) (d : Nat) (c : Nat) (sl : Nat) (ty : Nat) (w : W32) (v : Ve) (vals : List Nat) (errs : List (Nat × Nat)) (addr : Nat → W32) (els : List Nat),
      ty = fTY w
      ∧ els = active v ty (fMK w)
      ∧ veAddrBad s d c sl (tyBytes ty) (els.map addr) = none
      ∧ veReads d c sl (tyBytes ty) (els.map addr) (applyErrs errs s) = (vals, false, s1)
      ∧ VeAt 8 0x3FE07C0 d c sl w v s
      ∧ ty ≠ 3
      ∧ addr = seqAddr w v)
    ∧ (∃ (s : State) (s1 : State) (d : Nat) (c : Nat) (sl : Nat) (ty : Nat) (w : W32) (v : Ve) (vals : List Nat) (errs : List (Nat × Nat)) (addr : Nat → W32) (els : List Nat),
      ty = fTY w
      ∧ els = active v ty (fMK w)
      ∧ veAddrBad s d c sl (tyBytes ty) (els.map addr) = none
      ∧ veReads d c sl (tyBytes ty) (els.map addr) (applyErrs errs s) = (vals, false, s1)
      ∧ VeAt 0xA 0x3FEFFC0 d c sl w v s
      ∧ ty = 0
      ∧ addr = idxAddr w v)
    ∧ (∃ (s : State) (s1 : State) (d : Nat) (c : Nat) (sl : Nat) (ty : Nat) (w : W32) (v : Ve) (vals : List Nat) (errs : List (Nat × Nat)) (addr : Nat → W32) (els : List Nat),
      ty = fTY w
      ∧ els = active v ty (fMK w)
      ∧ veAddrBad s d c sl (tyBytes ty) (els.map addr) = none
      ∧ veReads d c sl (tyBytes ty) (els.map addr) (applyErrs errs s) = (vals, false, s1)
      ∧ VeAt 0xC 0x3FE07C0 d c sl w v s
      ∧ ty ≠ 3
      ∧ (∀ i, addr i = vaOf v (fVA w)))
    ∧ (∃ (s : State) (d : Nat) (c : Nat) (sl : Nat) (ty : Nat) (w : W32) (v : Ve) (addr : Nat → W32) (els : List Nat),
      ty = fTY w
      ∧ els = active v ty (fMK w)
      ∧ veAddrBad s d c sl (tyBytes ty) (els.map addr) = none
      ∧ VeAt 9 0x3FE07C0 d c sl w v s
      ∧ ty ≠ 3
      ∧ addr = seqAddr w v)
    ∧ (∃ (s : State) (d : Nat) (c : Nat) (sl : Nat) (ty : Nat) (w : W32) (v : Ve) (addr : Nat → W32) (els : List Nat),
      ty = fTY w
      ∧ els = active v ty (fMK w)
      ∧ veAddrBad s d c sl (tyBytes ty) (els.map addr) = none
      ∧ VeAt 0xB 0x3FEFFC0 d c sl w v s
      ∧ ty = 0
      ∧ addr = idxAddr w v) := by
  refine ⟨⟨ved 0x1fe2ffff { pc := 2046 }, 7, 47, 1, 0x1fe2ffff, { pc := 2046, run := true }, ?_⟩,
    ⟨ved 0x43ffff85 { pc := 2046 }, 7, 47, 1, 2, 0x43ffff85, { pc := 2046, run := true }, ?_⟩,
    ⟨ved 0x47ffff81 { pc := 2046 }, 7, 47, 1, 2, 0x47ffff81, { pc := 2046, run := true }, tyFmt 2, ?_⟩,
    ⟨ved 0x4bff0707 { pc := 2046 }, 7, 47, 1, 0, 0x4bff0707, { pc := 2046, run := true }, ?_⟩,
    ⟨ved 0x57ffff40 { pc := 2046 }, 7, 47, 1, 1, 0x57ffff40, { pc := 2046, run := true }, ?_⟩,
    ⟨ved 0x5bff0781 { pc := 2046 }, 7, 47, 1, 1, 2, 0x5bff0781, { pc := 2046, run := true }, ?_⟩,
    ⟨vectorElements6, (veReads 7 47 1 (tyBytes 0) ((active { vlen := 2, run := true } 0 0).map (fun i => BitVec.ofNat 32 (0x807FFFF8 + 4 * i))) (applyErrs [] vectorElements6)).2.2,
      7, 47, 1, 0, 0x40000000, { vlen := 2, run := true }, (veReads 7 47 1 (tyBytes 0) ((active { vlen := 2, run := true } 0 0).map (fun i => BitVec.ofNat 32 (0x807FFFF8 + 4 * i))) (applyErrs [] vectorElements6)).1,
      [], fun i => BitVec.ofNat 32 (0x807FFFF8 + 4 * i), active { vlen := 2, run := true } 0 0, ?_⟩,
    ⟨vectorElements6, 7, 47, 1, 0, 0x40000000, { vlen := 2, run := true },
      fun i => BitVec.ofNat 32 (0x807FFFF8 + 4 * i), active { vlen := 2, run := true } 0 0, ?_⟩,
    ⟨vectorElements2, applyErrs [] vectorElements2, 7, 47, 1, 63, 1, 64, 32, 1, sramBase 7 + 0x5F000000 + 31,
      sramBase 7 + 0x5F000000 + 4064, sramBase 7 + 0x5F002000, 0x77f5a000, { pc := 2046, vlen := 32, tid := 9, va := [(2, 0x80002000), (3, 63), (5, 0x80000000)], run := true },
      [], { job0 with slot := 1, tensors := [tensor0] }, tensor0,
      (memRead 0 (sramBase 7 + 0x5F000000 + 31) 1 vectorElements2).1,
      (memRead 0 (sramBase 7 + 0x5F000000 + 31) 1 vectorElements2).2.2, ?_⟩,
    ⟨vectorElements1, applyErrs [] vectorElements1,
      (memRead 0 (sramBase 7 + 0x5F000000 + 31) 1 vectorElements1).2.2,
      (memRead 0 (sramBase 7 + 0x5F000000 + 4064) 64 (memRead 0 (sramBase 7 + 0x5F000000 + 31) 1 vectorElements1).2.2).2.2,
      (memRead 0 (sramBase 7 + 0x5F002000) 4 (memRead 0 (sramBase 7 + 0x5F000000 + 4064) 64 (memRead 0 (sramBase 7 + 0x5F000000 + 31) 1 vectorElements1).2.2).2.2).2.2,
      7, 47, 1, 63, 1, 64, 32, 1, sramBase 7 + 0x5F000000 + 31, sramBase 7 + 0x5F000000 + 4064,
      sramBase 7 + 0x5F002000, 0x7bf5a000, { pc := 2046, vlen := 32, tid := 9, va := [(2, 0x80002000), (3, 63), (5, 0x80000000)], run := true },
      [], { job0 with slot := 1, tensors := [tensor0] }, tensor0,
      (memRead 0 (sramBase 7 + 0x5F000000 + 31) 1 vectorElements1).1,
      (memRead 0 (sramBase 7 + 0x5F000000 + 4064) 64 (memRead 0 (sramBase 7 + 0x5F000000 + 31) 1 vectorElements1).2.2).1,
      (memRead 0 (sramBase 7 + 0x5F002000) 4 (memRead 0 (sramBase 7 + 0x5F000000 + 4064) 64 (memRead 0 (sramBase 7 + 0x5F000000 + 31) 1 vectorElements1).2.2).2.2).1,
      ?_⟩,
    ⟨{ ved 0x7c1f0000 { pc := 2046 } with jobB := some { job0 with adm := { adm0 with lossTid := some 9 } }, cmp := { (ved 0x7c1f0000 { pc := 2046 }).cmp with ccc := [(ctxKey 7 47 1, { task := some (0, 0, 0, 5) })] } },
      7, 47, 1, 9, 0, 0, 0, 5, 0x7c1f0000, { pc := 2046, run := true },
      { job0 with adm := { adm0 with lossTid := some 9 } }, ?_⟩,
    ⟨vectorElements3, (veReads 7 47 1 (tyBytes 0) ((active { pc := 2046, vlen := 2, va := [(5, 0x807FFFF8)], run := true } 0 0).map (seqAddr 0x23f40000 { pc := 2046, vlen := 2, va := [(5, 0x807FFFF8)], run := true })) (applyErrs [] vectorElements3)).2.2,
      7, 47, 1, 0, 0x23f40000, { pc := 2046, vlen := 2, va := [(5, 0x807FFFF8)], run := true },
      (veReads 7 47 1 (tyBytes 0) ((active { pc := 2046, vlen := 2, va := [(5, 0x807FFFF8)], run := true } 0 0).map (seqAddr 0x23f40000 { pc := 2046, vlen := 2, va := [(5, 0x807FFFF8)], run := true })) (applyErrs [] vectorElements3)).1,
      [], seqAddr 0x23f40000 { pc := 2046, vlen := 2, va := [(5, 0x807FFFF8)], run := true },
      active { pc := 2046, vlen := 2, va := [(5, 0x807FFFF8)], run := true } 0 0, ?_⟩,
    ⟨vectorElements4, (veReads 7 47 1 (tyBytes 0) ((active { pc := 2046, vlen := 2, va := [(5, 0x807FFFF8)], run := true } 0 0).map (idxAddr 0x2bf43800 { pc := 2046, vlen := 2, va := [(5, 0x807FFFF8)], run := true })) (applyErrs [] vectorElements4)).2.2,
      7, 47, 1, 0, 0x2bf43800, { pc := 2046, vlen := 2, va := [(5, 0x807FFFF8)], run := true },
      (veReads 7 47 1 (tyBytes 0) ((active { pc := 2046, vlen := 2, va := [(5, 0x807FFFF8)], run := true } 0 0).map (idxAddr 0x2bf43800 { pc := 2046, vlen := 2, va := [(5, 0x807FFFF8)], run := true })) (applyErrs [] vectorElements4)).1,
      [], idxAddr 0x2bf43800 { pc := 2046, vlen := 2, va := [(5, 0x807FFFF8)], run := true },
      active { pc := 2046, vlen := 2, va := [(5, 0x807FFFF8)], run := true } 0 0, ?_⟩,
    ⟨vectorElements5, (veReads 7 47 1 (tyBytes 0) ((active { pc := 2046, vlen := 2, va := [(5, 0x807FFFF8)], run := true } 0 0).map (fun _ => vaOf { pc := 2046, vlen := 2, va := [(5, 0x807FFFF8)], run := true } (fVA 0x33f40000))) (applyErrs [] vectorElements5)).2.2,
      7, 47, 1, 0, 0x33f40000, { pc := 2046, vlen := 2, va := [(5, 0x807FFFF8)], run := true },
      (veReads 7 47 1 (tyBytes 0) ((active { pc := 2046, vlen := 2, va := [(5, 0x807FFFF8)], run := true } 0 0).map (fun _ => vaOf { pc := 2046, vlen := 2, va := [(5, 0x807FFFF8)], run := true } (fVA 0x33f40000))) (applyErrs [] vectorElements5)).1,
      [], fun _ => vaOf { pc := 2046, vlen := 2, va := [(5, 0x807FFFF8)], run := true } (fVA 0x33f40000),
      active { pc := 2046, vlen := 2, va := [(5, 0x807FFFF8)], run := true } 0 0, ?_⟩,
    ⟨sramWrite 0 (sramBase 7 + 0x5F7FFFE0) (List.replicate 32 1) (ved 0x27f40000 { pc := 2046, vlen := 2, va := [(5, 0x807FFFF8)] }),
      7, 47, 1, 0, 0x27f40000, { pc := 2046, vlen := 2, va := [(5, 0x807FFFF8)], run := true },
      seqAddr 0x27f40000 { pc := 2046, vlen := 2, va := [(5, 0x807FFFF8)], run := true }, active { pc := 2046, vlen := 2, va := [(5, 0x807FFFF8)], run := true } 0 0,
      ?_⟩,
    ⟨sramWrite 0 (sramBase 7 + 0x5F7FFFE0) (List.replicate 32 1) (ved 0x2ff43800 { pc := 2046, vlen := 2, va := [(5, 0x807FFFF8)] }),
      7, 47, 1, 0, 0x2ff43800, { pc := 2046, vlen := 2, va := [(5, 0x807FFFF8)], run := true },
      idxAddr 0x2ff43800 { pc := 2046, vlen := 2, va := [(5, 0x807FFFF8)], run := true }, active { pc := 2046, vlen := 2, va := [(5, 0x807FFFF8)], run := true } 0 0,
      ?_⟩⟩ <;>
    repeat' (first | with_reducible rfl | (with_reducible refine some_getD1 _ _ ?_) | (with_reducible refine some_getD2 _ _ ?_) | (with_reducible refine mid_false _ ?_) | (with_reducible refine fst_false _ ?_) | refine And.intro ?_ ?_ | decide +kernel | rfl | refine Or.inl ?_ | (rintro _ (rfl | rfl) <;> decide +kernel) | (intros; simp))

abbrev transfersRunAndStepsTimeOut1 : State := { svc with cmp := { dma := [(ctxKey 7 47 1, { q1 := [{ xfer0 with sfmt := 4, dfmt := 5, tid := 9, src := 0xFFFF000000000000, elems := 1, rows := 1 }] })] }, jobB := some { job0 with slot := 1, tensors := [{ tensor0 with format := 17 }] } }
abbrev transfersRunAndStepsTimeOut2 : State := { svc with cmp := { dma := [(ctxKey 7 47 1, { q1 := [{ xfer0 with src := 0xFFFF000000000000, elems := 1, rows := 1 }] })] } }
abbrev transfersRunAndStepsTimeOut3 : State := { svc with cmp := { dma := [(ctxKey 7 47 1, { q1 := [{ xfer0 with sfmt := 1, dfmt := 2 }] })] } }
abbrev transfersRunAndStepsTimeOut4 : State := { svc with cmp := { dma := [(ctxKey 7 47 1, { q1 := [xfer0] })] } }
abbrev transfersRunAndStepsTimeOut5 : State := { svc with jobB := some { job0 with aborting := true, slot := 1 } }

/-- Operands and states that meet the hypotheses of `Obligations.TransfersRunAndStepsTimeOut`, clause by clause. -/
theorem meets_TransfersRunAndStepsTimeOut :
    (∃ (s : State) (s1 : State) (d : Nat) (c : Nat) (sl : Nat) (qn : Nat) (x : Xfer) (y : Xfer) (rest : List Xfer) (errs : List (Nat × Nat)),
      (if qn = 0 then (dma s d c sl).q0 else (dma s d c sl).q1) = x :: rest
      ∧ x.running = false
      ∧ clocksRun s = true
      ∧ domOn s (quadDom d c) = true
      ∧ blkOn s (baseCLU d c) = true
      ∧ y = { x with running := true, moved := false, got := [] }
      ∧ s1 = dmaSetHead d c sl qn y (txnsDrop (dmaWho d c sl qn) (applyErrs errs s)))
    ∧ (∃ (s : State) (d : Nat) (c : Nat) (sl : Nat) (qn : Nat) (x : Xfer) (rest : List Xfer),
      qn < 2
      ∧ (if qn = 0 then (dma s d c sl).q0 else (dma s d c sl).q1) = x :: rest
      ∧ x.running = true
      ∧ x.moved = true
      ∧ clocksRun s = true
      ∧ txnsOf s (dmaWho d c sl qn) = [])
    ∧ (∃ (s : State) (d : Nat) (c : Nat) (sl : Nat) (tbl : Nat) (i : Nat) (m : Nat) (tag : W16),
      (ccc s d c sl).task = some (tbl, i, m, tag)
      ∧ (ccc s d c sl).faulted = false
      ∧ blkOn s (baseDSC d) = true
      ∧ clocksRun s = true)
    ∧ (∃ (s : State) (d : Nat) (c : Nat) (sl : Nat) (tbl : Nat) (i : Nat) (m : Nat) (tag : W16) (j : Job) (st : Sys2Proof.Machine.Step),
      (ccc s d c sl).task = some (tbl, i, m, tag)
      ∧ tbl < 2
      ∧ (ccc s d c sl).faulted = false
      ∧ blkOn s (baseDSC d) = true
      ∧ clocksRun s = true
      ∧ sl < 2
      ∧ jobAt s sl = some j
      ∧ j.step = some st
      ∧ j.sol = .none
      ∧ j.aborting = false)
    ∧ (∃ (s : State) (sl : Nat) (j : Job) (st : Sys2Proof.Machine.Step),
      jobAt s sl = some j
      ∧ j.step = some st
      ∧ j.aborting = true
      ∧ anyRunning st = false)
    ∧ (∃ (s : State) (sl : Nat) (j : Job) (q : W64),
      jobAt s sl = some j
      ∧ j.quietFrom = some q)
    ∧ (∃ (s : State) (sl : Nat) (j : Job) (st : Sys2Proof.Machine.Step),
      sl < 2
      ∧ jobAt s sl = some j
      ∧ j.step = some st
      ∧ j.aborting = false
      ∧ j.adm.stallMs ≠ 0
      ∧ anyRunning st = false
      ∧ colMoves s sl = false
      ∧ (j.sol = .none ∨ j.sol = .closing))
    ∧ (∃ (s : State) (s1 : State) (d : Nat) (c : Nat) (sl : Nat) (qn : Nat) (x : Xfer) (y : Xfer) (rest : List Xfer) (errs : List (Nat × Nat)),
      (if qn = 0 then (dma s d c sl).q0 else (dma s d c sl).q1) = x :: rest
      ∧ x.running = false
      ∧ clocksRun s = true
      ∧ domOn s (quadDom d c) = true
      ∧ blkOn s (baseCLU d c) = true
      ∧ y = { x with running := true, moved := false, got := [] }
      ∧ s1 = dmaSetHead d c sl qn y (txnsDrop (dmaWho d c sl qn) (applyErrs errs s))
      ∧ quantBars s1 d c sl y = true)
    ∧ (∃ (s : State) (s1 : State) (d : Nat) (c : Nat) (sl : Nat) (qn : Nat) (x : Xfer) (y : Xfer) (rest : List Xfer) (errs : List (Nat × Nat)),
      (if qn = 0 then (dma s d c sl).q0 else (dma s d c sl).q1) = x :: rest
      ∧ x.running = false
      ∧ clocksRun s = true
      ∧ domOn s (quadDom d c) = true
      ∧ blkOn s (baseCLU d c) = true
      ∧ y = { x with running := true, moved := false, got := [] }
      ∧ s1 = dmaSetHead d c sl qn y (txnsDrop (dmaWho d c sl qn) (applyErrs errs s))
      ∧ quantBars s1 d c sl y = false
      ∧ dmaRemote s1 y = []
      ∧ txnsOf s1 (dmaWho d c sl qn) = []
      ∧ x.sfmt = x.dfmt)
    ∧ (∃ (s : State) (s1 : State) (d : Nat) (c : Nat) (sl : Nat) (qn : Nat) (x : Xfer) (y : Xfer) (rest : List Xfer) (errs : List (Nat × Nat)),
      (if qn = 0 then (dma s d c sl).q0 else (dma s d c sl).q1) = x :: rest
      ∧ x.running = false
      ∧ clocksRun s = true
      ∧ domOn s (quadDom d c) = true
      ∧ blkOn s (baseCLU d c) = true
      ∧ y = { x with running := true, moved := false, got := [] }
      ∧ s1 = dmaSetHead d c sl qn y (txnsDrop (dmaWho d c sl qn) (applyErrs errs s))
      ∧ quantBars s1 d c sl y = false
      ∧ dmaRemote s1 y = []
      ∧ txnsOf s1 (dmaWho d c sl qn) = []
      ∧ x.sfmt ≠ x.dfmt)
    ∧ (∃ (s : State) (sl : Nat) (j : Job) (st : Sys2Proof.Machine.Step),
      jobAt s sl = some j
      ∧ j.step = some st
      ∧ j.aborting = true
      ∧ anyRunning st = false
      ∧ j.withdraw = false
      ∧ j.deferred = []) := by
  refine ⟨⟨transfersRunAndStepsTimeOut4, dmaSetHead 7 47 1 1 ({ xfer0 with running := true, moved := false, got := [] }) (txnsDrop (dmaWho 7 47 1 1) (applyErrs [] transfersRunAndStepsTimeOut4)),
      7, 47, 1, 1, xfer0, { xfer0 with running := true, moved := false, got := [] }, [], [], ?_⟩,
    ⟨{ svc with cmp := { dma := [(ctxKey 7 47 1, { q1 := [{ xfer0 with running := true, moved := true }] })] } },
      7, 47, 1, 1, { xfer0 with running := true, moved := true }, [], ?_⟩,
    ⟨{ svc with cmp := { ccc := [(ctxKey 7 47 1, { task := some (2, 0, 0, 5) })] } }, 7, 47, 1, 2, 0, 0, 5, ?_⟩,
    ⟨{ svc with cmp := { ccc := [(ctxKey 7 47 1, { task := some (1, 0, 0, 5) })] }, jobB := some { job0 with slot := 1 } },
      7, 47, 1, 1, 0, 0, 5, { job0 with slot := 1 }, {}, ?_⟩,
    ⟨transfersRunAndStepsTimeOut5, 1, { job0 with aborting := true, slot := 1 }, {}, ?_⟩,
    ⟨{ svc with jobA := some { job0 with quietFrom := some 0 } }, 0, { job0 with quietFrom := some 0 }, 0, ?_⟩,
    ⟨{ svc with jobA := some job0 }, 0, job0, {}, ?_⟩,
    ⟨transfersRunAndStepsTimeOut3, dmaSetHead 7 47 1 1 ({ xfer0 with sfmt := 1, dfmt := 2, running := true, moved := false, got := [] }) (txnsDrop (dmaWho 7 47 1 1) (applyErrs [] transfersRunAndStepsTimeOut3)),
      7, 47, 1, 1, { xfer0 with sfmt := 1, dfmt := 2 }, { xfer0 with sfmt := 1, dfmt := 2, running := true, moved := false, got := [] },
      [], [], ?_⟩,
    ⟨transfersRunAndStepsTimeOut2, dmaSetHead 7 47 1 1 ({ xfer0 with src := 0xFFFF000000000000, elems := 1, rows := 1, running := true, moved := false, got := [] }) (txnsDrop (dmaWho 7 47 1 1) (applyErrs [] transfersRunAndStepsTimeOut2)),
      7, 47, 1, 1, { xfer0 with src := 0xFFFF000000000000, elems := 1, rows := 1 },
      { xfer0 with src := 0xFFFF000000000000, elems := 1, rows := 1, running := true, moved := false, got := [] },
      [], [], ?_⟩,
    ⟨transfersRunAndStepsTimeOut1, dmaSetHead 7 47 1 1 ({ xfer0 with sfmt := 4, dfmt := 5, tid := 9, src := 0xFFFF000000000000, elems := 1, rows := 1, running := true, moved := false, got := [] }) (txnsDrop (dmaWho 7 47 1 1) (applyErrs [] transfersRunAndStepsTimeOut1)),
      7, 47, 1, 1, { xfer0 with sfmt := 4, dfmt := 5, tid := 9, src := 0xFFFF000000000000, elems := 1, rows := 1 },
      { xfer0 with sfmt := 4, dfmt := 5, tid := 9, src := 0xFFFF000000000000, elems := 1, rows := 1, running := true, moved := false, got := [] },
      [], [], ?_⟩,
    ⟨transfersRunAndStepsTimeOut5, 1, { job0 with aborting := true, slot := 1 }, {}, ?_⟩⟩ <;>
    repeat' (first | with_reducible rfl | (with_reducible refine some_getD1 _ _ ?_) | (with_reducible refine some_getD2 _ _ ?_) | (with_reducible refine mid_false _ ?_) | (with_reducible refine fst_false _ ?_) | refine And.intro ?_ ?_ | decide +kernel | rfl | refine Or.inl ?_ | (rintro _ (rfl | rfl) <;> decide +kernel) | (intros; simp))

/-- Operands and states that meet the hypotheses of `Obligations.InstancesAndTokens`, clause by clause. -/
theorem meets_InstancesAndTokens :
    (∃ (s : State) (sl : Nat) (tbl : Nat) (i : Nat) (m : Nat) (c : Nat) (j : Job) (st : Sys2Proof.Machine.Step) (t : Task),
      jobAt s sl = some j
      ∧ tbl < 2
      ∧ j.step = some st
      ∧ ctxDesc s sl tbl i = some t
      ∧ instReady s sl tbl i m = true
      ∧ instBefore s sl tbl i m t j = false
      ∧ physOf j t.die t.lcluster = some c
      ∧ (stashChecked j st t m = true → stashNeed s t.die sl m ≤ stashRoom s t.die sl))
    ∧ (∃ (s : State) (sl : Nat) (tbl : Nat) (i : Nat) (m : Nat),
      (instReady s sl tbl i m = false))
    ∧ (∃ (s : State) (sl : Nat) (tbl : Nat) (i : Nat) (m : Nat) (j : Job) (st : Sys2Proof.Machine.Step) (t : Task),
      jobAt s sl = some j
      ∧ tbl < 2
      ∧ j.step = some st
      ∧ ctxDesc s sl tbl i = some t
      ∧ instReady s sl tbl i m = true
      ∧ instBefore s sl tbl i m t j = false
      ∧ stashChecked j st t m = true
      ∧ stashRoom s t.die sl < stashNeed s t.die sl m)
    ∧ (∃ (s : State) (i : Nat) (g : Sig) (j : Job),
      s.fab.sigs[i]? = some g
      ∧ scbServes s g.die = true
      ∧ g.fill = false
      ∧ jobAt s g.slot = some j
      ∧ j.sigDrop = false)
    ∧ (∃ (s : State) (d : Nat) (c : Nat) (sl : Nat) (tbl : Nat) (i : Nat) (m : Nat) (tag : W16) (x : Ccc) (t : Task) (j : Job) (st : Sys2Proof.Machine.Step),
      ccc s d c sl = x
      ∧ x.task = some (tbl, i, m, tag)
      ∧ tbl < 2
      ∧ x.faulted = false
      ∧ x.stall = some .ending
      ∧ agentsDone s d c sl = true
      ∧ clocksRun s = true
      ∧ blkOn s (baseCCC d c) = true
      ∧ ctxDesc s sl tbl i = some t
      ∧ jobAt s sl = some j
      ∧ j.step = some st)
    ∧ (∃ (s : State) (i : Nat) (g : Sig) (j : Job),
      s.fab.sigs[i]? = some g
      ∧ scbServes s g.die = true
      ∧ g.fill = false
      ∧ jobAt s g.slot = some j
      ∧ j.sigDrop = false
      ∧ g.step = BitVec.ofNat 8 (curStep s g.slot).toNat
      ∧ scbCount s (4096 * g.die + 2048 * g.slot + g.entry) + g.amount ≤ 65535)
    ∧ (∃ (s : State) (i : Nat) (g : Sig) (j : Job),
      s.fab.sigs[i]? = some g
      ∧ scbServes s g.die = true
      ∧ g.fill = false
      ∧ jobAt s g.slot = some j
      ∧ j.sigDrop = false
      ∧ g.step ≠ BitVec.ofNat 8 (curStep s g.slot).toNat
      ∧ g.step = BitVec.ofNat 8 ((curStep s g.slot).toNat + 1)
      ∧ pendCount s g.die g.slot < 256)
    ∧ (∃ (s : State) (i : Nat) (g : Sig) (j : Job),
      s.fab.sigs[i]? = some g
      ∧ scbServes s g.die = true
      ∧ g.fill = false
      ∧ jobAt s g.slot = some j
      ∧ j.sigDrop = false
      ∧ (if g.step = BitVec.ofNat 8 (curStep s g.slot).toNat then 65535 < scbCount s (4096 * g.die + 2048 * g.slot + g.entry) + g.amount else g.step ≠ BitVec.ofNat 8 ((curStep s g.slot).toNat + 1))) := by
  refine ⟨⟨svcJ (jobRun [task0] {}), 0, 0, 0, 0, 47, jobRun [task0] {}, {}, task0, ?_⟩,
    ⟨svc, 0, 0, 0, 0, ?_⟩,
    ⟨{ svcJ ({ jobRun [task0] { insts := [(instKey 0 0 0, .running)] } with adm := { adm0 with microBatches := 2 } }) with srm := [(0, { peak := [(0, 0, 1000000)] })] },
      0, 0, 0, 1, { jobRun [task0] { insts := [(instKey 0 0 0, .running)] } with adm := { adm0 with microBatches := 2 } },
      { insts := [(instKey 0 0 0, .running)] }, task0, ?_⟩,
    ⟨{ svcJ (jobRun [task0] {}) with fab := { sigs := [{ slot := 0, die := 0, entry := 2047, amount := 16, step := 0, fill := false, src := (0, 0, 0) }] } },
      0, { slot := 0, die := 0, entry := 2047, amount := 16, step := 0, fill := false, src := (0, 0, 0) },
      jobRun [task0] {}, ?_⟩,
    ⟨{ svcJ (jobRun [task0] {}) with cmp := { ccc := [(ctxKey 0 47 0, { task := some (0, 0, 0, 5), stall := some .ending })] } },
      0, 47, 0, 0, 0, 0, 5, { task := some (0, 0, 0, 5), stall := some .ending }, task0, jobRun [task0] {}, {},
      ?_⟩,
    ⟨{ svcJ (jobRun [task0] {}) with fab := { sigs := [{ slot := 0, die := 0, entry := 2047, amount := 16, step := 0, fill := false, src := (0, 0, 0) }] }, scb := [(2047, 65519)] },
      0, { slot := 0, die := 0, entry := 2047, amount := 16, step := 0, fill := false, src := (0, 0, 0) },
      jobRun [task0] {}, ?_⟩,
    ⟨{ svcJ (jobRun [task0] {}) with fab := { sigs := [{ slot := 0, die := 0, entry := 2047, amount := 16, step := 1, fill := false, src := (0, 0, 0) }] } },
      0, { slot := 0, die := 0, entry := 2047, amount := 16, step := 1, fill := false, src := (0, 0, 0) },
      jobRun [task0] {}, ?_⟩,
    ⟨{ svcJ (jobRun [task0] {}) with fab := { sigs := [{ slot := 0, die := 0, entry := 2047, amount := 16, step := 0, fill := false, src := (0, 0, 0) }] }, scb := [(2047, 65520)] },
      0, { slot := 0, die := 0, entry := 2047, amount := 16, step := 0, fill := false, src := (0, 0, 0) },
      jobRun [task0] {}, ?_⟩⟩ <;>
    repeat' (first | with_reducible rfl | (with_reducible refine some_getD1 _ _ ?_) | (with_reducible refine some_getD2 _ _ ?_) | (with_reducible refine mid_false _ ?_) | (with_reducible refine fst_false _ ?_) | refine And.intro ?_ ?_ | decide +kernel | rfl | refine Or.inl ?_ | (rintro _ (rfl | rfl) <;> decide +kernel) | (intros; simp))

abbrev stepsBeginAndHalvesTurn1 : State := { svcJ ({ jobRun [] {} with pair := some (0, 12500, 12500), step := none }) with jobB := some { { jobRun [] {} with pair := some (0, 12500, 12500), step := none } with slot := 1 }, dsc := [(0, { eqx := some 5 })], rtb := { raw := 5 } }

/-- Operands and states that meet the hypotheses of `Obligations.StepsBeginAndHalvesTurn`, clause by clause. -/
theorem meets_StepsBeginAndHalvesTurn :
    (∃ (s : State) (sl : Nat) (j : Job),
      sl < 2
      ∧ j.slot = sl
      ∧ jobAt s sl = some j
      ∧ mayBegin s sl j = true
      ∧ (∀ d l c, physOf j d l = some c → clusterUsable s d c = true)
      ∧ (∀ d < 8, ∀ e ∈ (tget {} s.dsc d).pend, e.1 ≠ sl)
      ∧ (∀ d, (tokensOf j.main d).length ≤ 2048))
    ∧ (∃ (s : State) (sl : Nat) (j : Job),
      jobAt s sl = some j
      ∧ mayBegin s sl j = false)
    ∧ (∃ (s : State) (p : W64 × Nat × Nat),
      pairOf s = some p
      ∧ (∀ sl < 2, ∃ j, jobAt s sl = some j ∧ j.pair.isSome = true)
      ∧ (∀ d ∈ pairDies s, dscServes s d = true ∧ coresIdle s d = true ∧ (tget {} s.dsc d).late = none ∧ ∃ t, (tget {} s.dsc d).eqx = some t ∧ t.toNat ≤ (rtNow s).toNat ∧ lateSlots s d (tget {} s.dsc d).eqxNo t.toNat = 0))
    ∧ (∃ (s : State) (p : W64 × Nat × Nat) (d : Nat) (x : Dsc) (t : W64),
      pairOf s = some p
      ∧ pairDies s = [d]
      ∧ dscServes s d = true
      ∧ tget {} s.dsc d = x
      ∧ x.eqx = some t
      ∧ t.toNat ≤ (rtNow s).toNat
      ∧ x.late = none
      ∧ (lateSlots s d x.eqxNo t.toNat ≠ 0 ∨ coresIdle s d = false))
    ∧ (∃ (s : State) (d : Nat) (x : Dsc) (l : W64),
      tget {} s.dsc d = x
      ∧ x.late = some l
      ∧ dscServes s d = true)
    ∧ (∃ (s : State) (d : Nat) (sl : Nat) (half : Nat) (j : Job) (st : Sys2Proof.Machine.Step),
      loneSlot s = some sl
      ∧ jobAt s sl = some j
      ∧ j.step = some st
      ∧ d ∈ jobDies j
      ∧ dscServes s d = true
      ∧ coresIdle s d = true
      ∧ j.adm.idle = 0
      ∧ halfOf s d sl = half
      ∧ (half = 1 ∨ half = 2)
      ∧ (∀ q < 4, (dom s (8 * d + q)).gated = false)
      ∧ (half = 1 → j.aborting = false ∧ d ∉ st.turned ∧ phaseDone j st d 1 = true)
      ∧ (half = 2 → j.aborting = true ∨ phaseDone j st d 2 = true))
    ∧ (∃ (s : State) (d : Nat) (x : Dsc) (l : W64),
      tget {} s.dsc d = x
      ∧ x.late = some l
      ∧ dscServes s d = true
      ∧ coresIdle s d = true
      ∧ x.missed = true)
    ∧ (∃ (s : State) (d : Nat) (x : Dsc) (l : W64),
      tget {} s.dsc d = x
      ∧ x.late = some l
      ∧ dscServes s d = true
      ∧ coresIdle s d = true
      ∧ x.missed = false
      ∧ lateSlots s d (x.eqxNo - 1) l.toNat = 0)
    ∧ (∃ (s : State) (d : Nat) (x : Dsc) (l : W64),
      tget {} s.dsc d = x
      ∧ x.late = some l
      ∧ dscServes s d = true
      ∧ coresIdle s d = true
      ∧ x.missed = false
      ∧ lateSlots s d (x.eqxNo - 1) l.toNat ≠ 0)
    ∧ (∃ (s : State) (d : Nat) (x : Dsc) (l : W64),
      tget {} s.dsc d = x
      ∧ x.late = some l
      ∧ dscServes s d = true
      ∧ coresIdle s d = false) := by
  refine ⟨⟨svcJ ({ jobRun [task0] {} with step := none, state := .started }), 0, { jobRun [task0] {} with step := none, state := .started },by
      refine ⟨by decide, rfl, rfl, by decide +kernel, ?_, by decide +kernel,?_⟩
      · intro d l c h
        have hk : 48 * d + l = 47 ∧ c = 47 := by
          simp only [physOf, jobRun,tget] at h
          split at h
          · simp_all
          · simp at h
        have hd : d = 0 := by omega
        subst hd
        rw [hk.2]
        decide +kernel
      · intro d
        simp [tokensOf, jobRun, img0]⟩,
    ⟨svcJ (jobRun [task0] {}), 0, jobRun [task0] {}, ?_⟩,
    ⟨stepsBeginAndHalvesTurn1, (0, 12500, 12500),by
      refine ⟨by decide +kernel, ?_,fun d hd => ?_⟩
      · intro sl hs
        match sl,hs with
        | 0, _ => exact ⟨_, rfl,rfl⟩
        | 1, _ => exact ⟨_, rfl,rfl⟩
      · have h0 : ∀ d ∈ pairDies stepsBeginAndHalvesTurn1,d = 0 := by decide +kernel
        rw [h0 d hd]
        exact ⟨by decide +kernel, by decide +kernel, by decide +kernel, 5, by decide +kernel, by decide +kernel,
      by decide +kernel⟩⟩,
    ⟨{ svcJ ({ jobRun [task0] {} with pair := some (0, 12500, 12500) }) with dsc := [(0, { eqx := some 5, eqxNo := 1 })], rtb := { raw := 5 } },
      (0, 12500, 12500), 0, { eqx := some 5, eqxNo := 1 }, 5, ?_⟩,
    ⟨{ svc with dsc := [(7, { late := some 5 })] }, 7, { late := some 5 }, 5, ?_⟩,
    ⟨svcJ (jobRun [task0, { task0 with phase := 2 }] { insts := [(instKey 0 0 0, .done)] }), 0, 0, 1,
      jobRun [task0, { task0 with phase := 2 }] { insts := [(instKey 0 0 0, .done)] },
      { insts := [(instKey 0 0 0, .done)] }, ?_⟩,
    ⟨{ svc with dsc := [(7, { late := some 5, missed := true })] }, 7, { late := some 5, missed := true }, 5,
      ?_⟩,
    ⟨{ svc with dsc := [(7, { late := some 5 })] }, 7, { late := some 5 }, 5, ?_⟩,
    ⟨{ svcJ (jobRun [task0] {}) with dsc := [(0, { late := some 5, eqxNo := 2 })] }, 0, { late := some 5, eqxNo := 2 },
      5, ?_⟩,
    ⟨{ tiled 0 {} with dsc := [(7, { late := some 5 })] }, 7, { late := some 5 }, 5, ?_⟩⟩ <;>
    repeat' (first | with_reducible rfl | (with_reducible refine some_getD1 _ _ ?_) | (with_reducible refine some_getD2 _ _ ?_) | (with_reducible refine mid_false _ ?_) | (with_reducible refine fst_false _ ?_) | refine And.intro ?_ ?_ | decide +kernel | rfl | refine Or.inl ?_ | (rintro _ (rfl | rfl) <;> decide +kernel) | (intros; simp))

abbrev closingRoundAndSolstice1 : State := svcJ ({ jobRun [task0] { localFlag := true } with sol := .closing, captures := 0 })
abbrev closingRoundAndSolstice2 : State := svcJ ({ jobRun [task0] {} with sol := .closing, captures := 0 })
abbrev closingRoundAndSolstice3 : State := svcJ ({ jobRun [task0] {} with sol := .closing, captures := 1 })
abbrev closingRoundAndSolstice4 : State := svcJ ({ jobRun [task0] {} with sol := .begun 5, captures := 0 })

/-- Operands and states that meet the hypotheses of `Obligations.ClosingRoundAndSolstice`, clause by clause. -/
theorem meets_ClosingRoundAndSolstice :
    (∃ (s : State) (sl : Nat) (j : Job) (st : Sys2Proof.Machine.Step),
      jobAt s sl = some j
      ∧ j.step = some st
      ∧ j.sol = .none
      ∧ j.aborting = false
      ∧ colServes s (lowDie j) = true
      ∧ (∀ x ∈ stepInsts j st (fun t => t.phase == 1 || t.phase == 2 || t.phase == 3), instOf st x.1 x.2.1 x.2.2 = .done))
    ∧ (∃ (s : State) (s1 : State) (sl : Nat) (j : Job) (j1 : Job) (st : Sys2Proof.Machine.Step) (agg : Bool),
      jobAt s sl = some j
      ∧ j.step = some st
      ∧ j.sol = .closing
      ∧ rounds (consensusOf j).length ≤ st.closeRound
      ∧ agg = (st.localFlag || st.rxFlag)
      ∧ j1 = { j with state := .solstice, sol := .gate agg, step := some { st with aggFlag := agg } }
      ∧ s1 = barrierLog j 2 0xFFFF (max 1 (consensusOf j).length) st.num st.closeOwn st.closeLatest (setJobAt s sl (some j1)))
    ∧ (∃ (s : State) (sl : Nat) (j : Job) (st : Sys2Proof.Machine.Step),
      jobAt s sl = some j
      ∧ j.step = some st)
    ∧ (∃ (s : State) (sl : Nat) (j : Job) (st : Sys2Proof.Machine.Step),
      jobAt s sl = some j
      ∧ j.step = some st
      ∧ j.sol = .run
      ∧ clocksRun s = true
      ∧ (∀ x ∈ stepInsts j st (fun t => t.phase == 4), instOf st x.1 x.2.1 x.2.2 = .done))
    ∧ (∃ (s : State) (sl : Nat) (j : Job) (st : Sys2Proof.Machine.Step),
      jobAt s sl = some j
      ∧ j.step = some st
      ∧ j.sol = .ending
      ∧ openBegin s.flash.journal j.realm j.id st.num = false
      ∧ j.deferred = []
      ∧ j.withdraw = false)
    ∧ (∃ (s : State) (sl : Nat) (j : Job) (st : Sys2Proof.Machine.Step),
      jobAt s sl = some j
      ∧ j.step = some st
      ∧ j.sol = .ending
      ∧ openBegin s.flash.journal j.realm j.id st.num = true
      ∧ cpRuns s = false)
    ∧ (∃ (s : State) (sl : Nat) (j : Job) (st : Sys2Proof.Machine.Step),
      jobAt s sl = some j
      ∧ j.step = some st
      ∧ j.sol = .none
      ∧ j.aborting = false
      ∧ colServes s (lowDie j) = true
      ∧ (∀ x ∈ stepInsts j st (fun t => t.phase == 1 || t.phase == 2 || t.phase == 3), instOf st x.1 x.2.1 x.2.2 = .done)
      ∧ consensusOf j = []
      ∧ s.fab.early = []
      ∧ tget none st.closeRx st.closeRound = none)
    ∧ (∃ (s : State) (sl : Nat) (j : Job) (st : Sys2Proof.Machine.Step),
      jobAt s sl = some j
      ∧ j.step = some st
      ∧ j.sol = .none
      ∧ j.aborting = false
      ∧ colServes s (lowDie j) = true
      ∧ (∀ x ∈ stepInsts j st (fun t => t.phase == 1 || t.phase == 2 || t.phase == 3), instOf st x.1 x.2.1 x.2.2 = .done)
      ∧ consensusOf j ≠ []
      ∧ rankOf s (consensusOf j) (lowDie j) sl = none)
    ∧ (∃ (s : State) (s1 : State) (sl : Nat) (j : Job) (j1 : Job) (st : Sys2Proof.Machine.Step) (agg : Bool),
      jobAt s sl = some j
      ∧ j.step = some st
      ∧ j.sol = .closing
      ∧ rounds (consensusOf j).length ≤ st.closeRound
      ∧ agg = (st.localFlag || st.rxFlag)
      ∧ j1 = { j with state := .solstice, sol := .gate agg, step := some { st with aggFlag := agg } }
      ∧ s1 = barrierLog j 2 0xFFFF (max 1 (consensusOf j).length) st.num st.closeOwn st.closeLatest (setJobAt s sl (some j1))
      ∧ gateHolds s j = true
      ∧ agg = false)
    ∧ (∃ (s : State) (s1 : State) (sl : Nat) (j : Job) (j1 : Job) (st : Sys2Proof.Machine.Step) (agg : Bool),
      jobAt s sl = some j
      ∧ j.step = some st
      ∧ j.sol = .closing
      ∧ rounds (consensusOf j).length ≤ st.closeRound
      ∧ agg = (st.localFlag || st.rxFlag)
      ∧ j1 = { j with state := .solstice, sol := .gate agg, step := some { st with aggFlag := agg } }
      ∧ s1 = barrierLog j 2 0xFFFF (max 1 (consensusOf j).length) st.num st.closeOwn st.closeLatest (setJobAt s sl (some j1))
      ∧ gateHolds s j = false)
    ∧ (∃ (s : State) (s1 : State) (sl : Nat) (j : Job) (j1 : Job) (st : Sys2Proof.Machine.Step) (agg : Bool),
      jobAt s sl = some j
      ∧ j.step = some st
      ∧ j.sol = .closing
      ∧ rounds (consensusOf j).length ≤ st.closeRound
      ∧ agg = (st.localFlag || st.rxFlag)
      ∧ j1 = { j with state := .solstice, sol := .gate agg, step := some { st with aggFlag := agg } }
      ∧ s1 = barrierLog j 2 0xFFFF (max 1 (consensusOf j).length) st.num st.closeOwn st.closeLatest (setJobAt s sl (some j1))
      ∧ gateHolds s j = true
      ∧ agg = true
      ∧ j.deferred = []
      ∧ j.withdraw = false)
    ∧ (∃ (s : State) (sl : Nat) (j : Job) (st : Sys2Proof.Machine.Step),
      jobAt s sl = some j
      ∧ j.step = some st
      ∧ j.sol = .gate false
      ∧ gateHolds s j = true)
    ∧ (∃ (s : State) (sl : Nat) (j : Job) (st : Sys2Proof.Machine.Step) (skip : _),
      jobAt s sl = some j
      ∧ j.step = some st
      ∧ j.sol = .gate skip
      ∧ gateHolds s j = false)
    ∧ (∃ (s : State) (sl : Nat) (j : Job) (st : Sys2Proof.Machine.Step) (t : _),
      jobAt s sl = some j
      ∧ j.step = some st
      ∧ j.sol = .begun t
      ∧ cpRuns s = true)
    ∧ (∃ (s : State) (sl : Nat) (j : Job) (st : Sys2Proof.Machine.Step) (t : _),
      jobAt s sl = some j
      ∧ j.step = some st
      ∧ j.sol = .begun t
      ∧ cpRuns s = false) := by
  refine ⟨⟨svcJ (jobRun [task0] { insts := [(instKey 0 0 0, .done)] }), 0, jobRun [task0] { insts := [(instKey 0 0 0, .done)] },
      { insts := [(instKey 0 0 0, .done)] }, ?_⟩,
    ⟨svcJ ({ jobRun [task0] {} with sol := .closing }),
      barrierLog ({ jobRun [task0] {} with sol := .closing }) 2 0xFFFF (max 1 (consensusOf ({ jobRun [task0] {} with sol := .closing })).length) 0 0 (0,
      0,
      0) (setJobAt (svcJ ({ jobRun [task0] {} with sol := .closing })) 0 (some { { jobRun [task0] {} with sol := .closing } with state := .solstice, sol := .gate false, step := some { ({} : Sys2Proof.Machine.Step) with aggFlag := false } })),
      0, { jobRun [task0] {} with sol := .closing },
      { { jobRun [task0] {} with sol := .closing } with state := .solstice, sol := .gate false, step := some { ({} : Sys2Proof.Machine.Step) with aggFlag := false } },
      {}, false, ?_⟩,
    ⟨svcJ (jobRun [task0] {}), 0, jobRun [task0] {}, {}, ?_⟩,
    ⟨svcJ { jobRun [{ task0 with phase := 4 }] { insts := [(instKey 0 0 0, .done)] } with sol := .run }, 0,
      { jobRun [{ task0 with phase := 4 }] { insts := [(instKey 0 0 0, .done)] } with sol := .run },
      { insts := [(instKey 0 0 0, .done)] }, ?_⟩,
    ⟨svcJ { jobRun [] {} with sol := .ending }, 0, { jobRun [] {} with sol := .ending }, {}, ?_⟩,
    ⟨{ svcJ { jobRun [] {} with sol := .ending } with flash := { svc.flash with journal := [.begin 0 1 0 0 0] }, rel := { svc.rel with restarting := true } },
      0, { jobRun [] {} with sol := .ending }, {}, ?_⟩,
    ⟨svcJ (jobRun [task0] { insts := [(instKey 0 0 0, .done)] }), 0, jobRun [task0] { insts := [(instKey 0 0 0, .done)] },
      { insts := [(instKey 0 0 0, .done)] }, ?_⟩,
    ⟨svcJ ({ jobRun [task0] { insts := [(instKey 0 0 0, .done)] } with main := some { img0 with col := [(0, { groups := [[⟨0xFFFF, 1, 0⟩]], ops := [], consensus := some 0 })] } }),
      0, { jobRun [task0] { insts := [(instKey 0 0 0, .done)] } with main := some { img0 with col := [(0, { groups := [[⟨0xFFFF, 1, 0⟩]], ops := [], consensus := some 0 })] } },
      { insts := [(instKey 0 0 0, .done)] }, ?_⟩,
    ⟨closingRoundAndSolstice2, barrierLog ({ jobRun [task0] {} with sol := .closing, captures := 0 }) 2 0xFFFF (max 1 (consensusOf ({ jobRun [task0] {} with sol := .closing, captures := 0 })).length) 0 0 (0,
      0, 0) (setJobAt closingRoundAndSolstice2 0 (some { { jobRun [task0] {} with sol := .closing, captures := 0 } with state := .solstice, sol := .gate false, step := some { ({} : Sys2Proof.Machine.Step) with aggFlag := false } })),
      0, { jobRun [task0] {} with sol := .closing, captures := 0 }, { { jobRun [task0] {} with sol := .closing, captures := 0 } with state := .solstice, sol := .gate false, step := some { ({} : Sys2Proof.Machine.Step) with aggFlag := false } },
      {}, false, ?_⟩,
    ⟨closingRoundAndSolstice3, barrierLog ({ jobRun [task0] {} with sol := .closing, captures := 1 }) 2 0xFFFF (max 1 (consensusOf ({ jobRun [task0] {} with sol := .closing, captures := 1 })).length) 0 0 (0,
      0, 0) (setJobAt closingRoundAndSolstice3 0 (some { { jobRun [task0] {} with sol := .closing, captures := 1 } with state := .solstice, sol := .gate false, step := some { ({} : Sys2Proof.Machine.Step) with aggFlag := false } })),
      0, { jobRun [task0] {} with sol := .closing, captures := 1 }, { { jobRun [task0] {} with sol := .closing, captures := 1 } with state := .solstice, sol := .gate false, step := some { ({} : Sys2Proof.Machine.Step) with aggFlag := false } },
      {}, false, ?_⟩,
    ⟨closingRoundAndSolstice1, barrierLog ({ jobRun [task0] { localFlag := true } with sol := .closing, captures := 0 }) 2 0xFFFF (max 1 (consensusOf ({ jobRun [task0] { localFlag := true } with sol := .closing, captures := 0 })).length) 0 0 (0,
      0,
      0) (setJobAt closingRoundAndSolstice1 0 (some { { jobRun [task0] { localFlag := true } with sol := .closing, captures := 0 } with state := .solstice, sol := .gate true, step := some { ({ localFlag := true } : Sys2Proof.Machine.Step) with aggFlag := true } })),
      0, { jobRun [task0] { localFlag := true } with sol := .closing, captures := 0 },
      { { jobRun [task0] { localFlag := true } with sol := .closing, captures := 0 } with state := .solstice, sol := .gate true, step := some { ({ localFlag := true } : Sys2Proof.Machine.Step) with aggFlag := true } },
      { localFlag := true }, true, ?_⟩,
    ⟨svcJ ({ jobRun [task0] {} with sol := .gate false, captures := 0 }), 0,
      { jobRun [task0] {} with sol := .gate false, captures := 0 }, {}, ?_⟩,
    ⟨svcJ ({ jobRun [task0] {} with sol := .gate true, captures := 1 }), 0,
      { jobRun [task0] {} with sol := .gate true, captures := 1 }, {}, true, ?_⟩,
    ⟨closingRoundAndSolstice4, 0, { jobRun [task0] {} with sol := .begun 5, captures := 0 }, {}, 5, ?_⟩,
    ⟨{ closingRoundAndSolstice4 with rel := { svc.rel with restarting := true } }, 0,
      { jobRun [task0] {} with sol := .begun 5, captures := 0 }, {}, 5, ?_⟩⟩ <;>
    repeat' (first | with_reducible rfl | (with_reducible refine some_getD1 _ _ ?_) | (with_reducible refine some_getD2 _ _ ?_) | (with_reducible refine mid_false _ ?_) | (with_reducible refine fst_false _ ?_) | refine And.intro ?_ ?_ | decide +kernel | rfl | refine Or.inl ?_ | (rintro _ (rfl | rfl) <;> decide +kernel) | (intros; simp))

/-- Operands and states that meet the hypotheses of `Obligations.SramWritesTagTheirLines`, clause by clause. -/
theorem meets_SramWritesTagTheirLines :
    (∃ (s : State) (t : State) (r : Nat) (off : Nat) (data : List Byte),
      t = sramWrite r off data s
      ∧ data ≠ [])
    ∧ (∃ (s : State) (t : State) (r : Nat) (off : Nat) (data : List Byte) (l : _),
      t = sramWrite r off data s
      ∧ data ≠ []
      ∧ off / 32 ≤ l
      ∧ l ≤ (off + data.length - 1) / 32)
    ∧ (∃ (s : State) (t : State) (r : Nat) (off : Nat) (data : List Byte) (l : _),
      t = sramWrite r off data s
      ∧ data ≠ []
      ∧ (l < off / 32 ∨ (off + data.length - 1) / 32 < l))
    ∧ (∃ (s : State) (t : State) (r : Nat) (off : Nat) (data : List Byte) (w : _),
      t = sramWrite r off data s
      ∧ data ≠ []
      ∧ off / 8 ≤ w
      ∧ w ≤ (off + data.length - 1) / 8)
    ∧ (∃ (s : State) (t : State) (r : Nat) (off : Nat) (data : List Byte) (w : _) (a : _) (x : _),
      t = sramWrite r off data s
      ∧ data ≠ []
      ∧ a / 8 = w
      ∧ (a < off ∨ off + data.length ≤ a)
      ∧ off / 8 ≤ w
      ∧ w ≤ (off + data.length - 1) / 8
      ∧ (tget none s.mem.line (w / 4)).isSome = true
      ∧ sramFound s w = (.correctable, x))
    ∧ (∃ (s : State) (t : State) (r : Nat) (off : Nat) (data : List Byte) (a : _),
      t = sramWrite r off data s
      ∧ data ≠ []
      ∧ off / 32 ≤ a / 32
      ∧ a / 32 ≤ (off + data.length - 1) / 32
      ∧ (a < off ∨ off + data.length ≤ a)
      ∧ tget none s.mem.line (a / 32) = none
      ∧ tget 0 s.mem.sram a = 0)
    ∧ (∃ (s : State) (t : State) (r : Nat) (off : Nat) (data : List Byte) (q : _) (a : _),
      t = sramWrite r off data s
      ∧ data ≠ []
      ∧ q ≠ r
      ∧ off / 32 ≤ a / 32
      ∧ a / 32 ≤ (off + data.length - 1) / 32)
    ∧ (∃ (s : State) (t : State) (r : Nat) (off : Nat) (data : List Byte),
      t = sramWrite r off data s
      ∧ data ≠ []
      ∧ tget 0 s.mem.sramEcc (off / 8) = 0
      ∧ tget 0 s.mem.sramEcc ((off + data.length - 1) / 8) = 0) := by
  refine ⟨⟨svc, sramWrite 1 0x080000000000 [7] svc, 1, 0x080000000000, [7], ?_⟩,
    ⟨svc, sramWrite 1 0x08000000001F (List.replicate 2 7) svc, 1, 0x08000000001F, List.replicate 2 7,
      0x08000000001F / 32 + 1, ?_⟩,
    ⟨svc, sramWrite 1 0x08000000001F (List.replicate 2 7) svc, 1, 0x08000000001F, List.replicate 2 7,
      0x08000000001F / 32 + 2, ?_⟩,
    ⟨svc, sramWrite 1 0x08000000001F (List.replicate 2 7) svc, 1, 0x08000000001F, List.replicate 2 7,
      0x080000000027 / 8, ?_⟩,
    ⟨applyErrs [(0x080000000018, 4)] (sramWrite 0 0x080000000000 (List.replicate 32 9) svc),
      sramWrite 1 0x08000000001F (List.replicate 2 7) (applyErrs [(0x080000000018,
      4)] (sramWrite 0 0x080000000000 (List.replicate 32 9) svc)), 1, 0x08000000001F, List.replicate 2 7,
      0x080000000018 / 8, 0x08000000001E,
      (sramFound (sramWrite 0 0x080000000000 (List.replicate 32 9) svc) (0x080000000018 / 8)).2, ?_⟩,
    ⟨svc, sramWrite 1 0x08000000001F (List.replicate 2 7) svc, 1, 0x08000000001F, List.replicate 2 7,
      0x080000000021, ?_⟩,
    ⟨svc, sramWrite 1 0x08000000001F (List.replicate 2 7) svc, 1, 0x08000000001F, List.replicate 2 7, 0,
      0x080000000000, ?_⟩,
    ⟨svc, sramWrite 1 0x08000000001F (List.replicate 2 7) svc, 1, 0x08000000001F, List.replicate 2 7, ?_⟩⟩ <;>
    repeat' (first | with_reducible rfl | (with_reducible refine some_getD1 _ _ ?_) | (with_reducible refine some_getD2 _ _ ?_) | (with_reducible refine mid_false _ ?_) | (with_reducible refine fst_false _ ?_) | refine And.intro ?_ ?_ | decide +kernel | rfl | refine Or.inl ?_ | (rintro _ (rfl | rfl) <;> decide +kernel) | (intros; simp))

/-- Operands and states that meet the hypotheses of `Obligations.MemoryIsScrubbedAndServed`, clause by clause. -/
theorem meets_MemoryIsScrubbedAndServed :
    (∃ (s : State) (t : State) (off : Nat) (data : List Byte),
      t = lpxWrite off data s)
    ∧ (∃ (s : State) (d : Nat),
      d < dies s
      ∧ domOn s (8 * d + 7) = true
      ∧ cpRuns s = true)
    ∧ (∃ (s : State) (d : Nat) (i : Nat),
      i < 5
      ∧ (stack s (5 * d + i)).scrub = true
      ∧ cpRuns s = true)
    ∧ (∃ (s : State) (g : Nat),
      granuleEcc (tget 0 s.mem.lpxEcc g) = .correctable)
    ∧ (∃ (s : State) (n : Nat) (_q : Nat),
      domOn s (8 * (n / 5) + 7) = true)
    ∧ (∃ (s : State) (chip : Nat) (_sl : Nat) (realm : Nat) (off : Nat) (len : Nat) (k : Nat) (wr : Bool) (data : List Byte),
      dfbGrants s off = true
      ∧ isOwn s chip = false
      ∧ (∀ o, placeOf s off ≠ .window o)
      ∧ refusal (.remote chip) realm wr (behind s (.remote chip) realm off (if wr = true then data.length else len)) s = some k)
    ∧ (∃ (s : State) (chip : Nat) (_sl : Nat) (realm : Nat) (off : Nat) (_len : Nat) (data : List Byte),
      dfbGrants s off = true
      ∧ isOwn s chip = false
      ∧ behind s (.remote chip) realm off data.length = [(off, data.length)]
      ∧ checkRange realm (.remote chip) true off data.length s = none)
    ∧ (∃ (s : State) (t : State) (chip : Nat) (_sl : Nat) (realm : Nat) (off : Nat) (len : Nat) (_data : List Byte) (b : List Byte) (poison : Bool),
      dfbGrants s off = true
      ∧ isOwn s chip = false
      ∧ (∀ o, placeOf s off ≠ .window o)
      ∧ behind s (.remote chip) realm off len = [(off, len)]
      ∧ checkRange realm (.remote chip) false off len s = none
      ∧ memRead realm off len s = (b, poison, t))
    ∧ (∃ (s : State) (chip : Nat) (sl : Nat) (realm : Nat) (off : Nat) (_len : Nat) (data : List Byte),
      dfbGrants s off = true
      ∧ isOwn s chip = true
      ∧ checkRange realm (.agent sl (((jobAt s sl).map fun j => j.sol == .run).getD false)) true off data.length s = some 5)
    ∧ (∃ (s : State) (t : State) (off : Nat) (data : List Byte) (a : _),
      t = lpxWrite off data s
      ∧ (a < off ∨ off + data.length ≤ a)) := by
  refine ⟨⟨svc, lpxWrite 64 (List.replicate 64 1) svc, 64, List.replicate 64 1, ?_⟩,
    ⟨svc, 7, ?_⟩,
    ⟨{ svc with stk := [(39, { scrub := true })] }, 7, 4, ?_⟩,
    ⟨{ svc with mem := { lpxEcc := [(3, 1)] } }, 3, ?_⟩,
    ⟨svc, 39, 15, ?_⟩,
    ⟨svc, 5, 0, 0, 0x3FFFC0, 64, 3, false, [],by
      refine ⟨by decide +kernel, by decide +kernel, fun o h => ?_,by decide +kernel⟩
      have hp : placeOf (svc) 0x3FFFC0 = .lpx 0 := by decide +kernel
      rw [hp] at h
      cases h⟩,
    ⟨paged 0x200000 1 0 svc, 5, 0, 0, 0x3FFFC0, 64, List.replicate 64 1, ?_⟩,
    ⟨paged 0x200000 1 0 svc, (memRead 0 0x3FFFC0 64 (paged 0x200000 1 0 svc)).2.2, 5, 0, 0, 0x3FFFC0, 64, [],
      (memRead 0 0x3FFFC0 64 (paged 0x200000 1 0 svc)).1, (memRead 0 0x3FFFC0 64 (paged 0x200000 1 0 svc)).2.1,by
      refine ⟨by decide +kernel, by decide +kernel, fun o h => ?_, by decide +kernel, by decide +kernel,rfl⟩
      have hp : placeOf (paged 0x200000 1 0 svc) 0x3FFFC0 = .lpx 0 := by decide +kernel
      rw [hp] at h
      cases h⟩,
    ⟨{ paged 0x200000 1 0 svc with jobA := some { job0 with persist := { bytes := 1, runs := [(0, 0x200000, 1)] } } },
      0xFFFF, 0, 0, 0x200000, 64, List.replicate 64 1, ?_⟩,
    ⟨svc, lpxWrite 64 (List.replicate 64 1) svc, 64, List.replicate 64 1, 128, ?_⟩⟩ <;>
    repeat' (first | with_reducible rfl | (with_reducible refine some_getD1 _ _ ?_) | (with_reducible refine some_getD2 _ _ ?_) | (with_reducible refine mid_false _ ?_) | (with_reducible refine fst_false _ ?_) | refine And.intro ?_ ?_ | decide +kernel | rfl | refine Or.inl ?_ | (rintro _ (rfl | rfl) <;> decide +kernel) | (intros; simp))

/-- Operands and states that meet the hypotheses of `Obligations.LasersRingsAndLightPlans`, clause by clause. -/
theorem meets_LasersRingsAndLightPlans :
    (∃ (s : State) (n : Nat) (b : Nat) (_power : Nat) (_low : Nat) (k : Nat),
      (laser s n).bus = some b
      ∧ domOn s (laserDom n) = true
      ∧ hotSpare s n = some k
      ∧ k ≠ n)
    ∧ (∃ (s : State) (n : Nat) (b : Nat) (_power : Nat) (_low : Nat),
      (laser s n).bus = some b
      ∧ domOn s (laserDom n) = true
      ∧ (∀ k, k < 10 → k ≠ n → (laser s k).hot = false))
    ∧ (∃ (s : State) (n : Nat) (_power : Nat) (_low : Nat),
      (laser s n).bus = none
      ∧ (laser s n).hot = true
      ∧ domOn s (laserDom n) = true)
    ∧ (∃ (s : State) (n : Nat) (_power : Nat) (_low : Nat),
      (laser s n).starting = some none)
    ∧ (∃ (s : State) (n : Nat) (b : Nat) (old : Nat) (_power : Nat) (_low : Nat),
      (laser s n).starting = some (some (b, old)))
    ∧ (∃ (s : State) (d : Nat) (i : Nat) (_v : W16),
      d < dies s
      ∧ domOn s 71 = true
      ∧ i < 224
      ∧ (optRing s (224 * d + i)).st = .locked)
    ∧ (∃ (s : State) (d : Nat) (i : Nat) (k : Nat),
      d < dies s
      ∧ domOn s 71 = true
      ∧ i < 224
      ∧ k = 224 * d + i
      ∧ (optRing s k).st = .locked
      ∧ linkOfRing s k = none)
    ∧ (∃ (s : State) (d : Nat) (i : Nat) (k : Nat) (l : Nat) (p : Nat),
      d < dies s
      ∧ domOn s 71 = true
      ∧ i < 224
      ∧ k = 224 * d + i
      ∧ (optRing s k).st = .locked
      ∧ linkOfRing s k = some (l, p))
    ∧ (∃ (s : State) (d : Nat) (i : Nat) (k : Nat),
      d < dies s
      ∧ domOn s 71 = true
      ∧ i < 224
      ∧ k = 224 * d + i
      ∧ (optRing s k).st = .hold)
    ∧ (∃ (s : State) (d : Nat) (i : Nat) (k : Nat),
      lckServes s d = true
      ∧ i < 224
      ∧ k = 224 * d + i
      ∧ (optRing s k).st = .sweep)
    ∧ (∃ (s : State) (d : Nat),
      lckServes s d = true
      ∧ domOn s (8 * d + 6) = true
      ∧ blkOn s (baseDSC d) = true
      ∧ tok {} s.opt.ring = true)
    ∧ (∃ (s : State) (n : Nat) (rest : List Nat) (a : LightPlan) (b : LightPlan),
      s.fab.due = n :: rest
      ∧ s.fab.switching = false
      ∧ tget none s.fab.plans s.fab.planNo = some a
      ∧ tget none s.fab.plans n = some b
      ∧ domOn s 68 = true
      ∧ blkOn s basePHL = true)
    ∧ (∃ (s : State) (n : Nat) (rest : List Nat),
      s.fab.due = n :: rest
      ∧ s.fab.switching = false
      ∧ (domOn s 68 = false ∨ blkOn s basePHL = false ∨ tget none s.fab.plans n = none))
    ∧ (∃ (s : State),
      s.fab.switching = true)
    ∧ (∃ (s : State) (l : Nat),
      (lnk s l).pst = .switching
      ∧ lanesEnough { lnk s l with txSet := BitVec.ofNat 10 (lockedTx s l), mapTx := mapOf [] (BitVec.ofNat 10 (lockedTx s l)), sparesTx := [] } = false)
    ∧ (∃ (s : State) (d : Nat) (i : Nat) (k : Nat) (line : _),
      lckServes s d = true
      ∧ i < 224
      ∧ k = 224 * d + i
      ∧ (optRing s k).st = .sweep
      ∧ line ∈ (List.range 10).map lineOf
      ∧ (optRing s k).excl.contains line = false) := by
  refine ⟨⟨{ svc with opt := { las := [(8, { hot := true }), (9, { bus := some 7 })] } }, 9, 7, 0, 0, 8, ?_⟩,
    ⟨{ svc with opt := { las := [(9, { bus := some 7 })] } }, 9, 7, 0, 0, ?_⟩,
    ⟨{ svc with opt := { las := [(9, { hot := true })] } }, 9, 0, 0, ?_⟩,
    ⟨{ svc with opt := { las := [(9, { starting := some none })] } }, 9, 0, 0, ?_⟩,
    ⟨{ svc with opt := { las := [(9, { starting := some (some (7, 8)) })] } }, 9, 7, 8, 0, 0, ?_⟩,
    ⟨{ svc with opt := { ring := [(1791, { st := .locked })] } }, 7, 223, 0, ?_⟩,
    ⟨{ svc with opt := { ring := [(1607, { st := .locked })] } }, 7, 39, 1607, ?_⟩,
    ⟨{ svc with opt := { ring := [(1719, { st := .locked })] }, fab := { svc.fab with plans := [(0, some { portSrc := List.replicate 31 none ++ [some (7, 3)], pkgDst := [] })] } },
      7, 151, 1719, 31, 9, ?_⟩,
    ⟨{ svc with opt := { ring := [(1791, { st := .hold })] } }, 7, 223, 1791, ?_⟩,
    ⟨{ svc with opt := { ring := [(1791, { st := .sweep })] } }, 7, 223, 1791, ?_⟩,
    ⟨{ svc with opt := { ring := [(1791, { st := .sweep })] } }, 7, ?_⟩,
    ⟨{ svc with fab := { svc.fab with due := [7], plans := [(0, some { portSrc := [], pkgDst := [] }), (7, some { portSrc := List.replicate 31 none ++ [some (7, 3)], pkgDst := [] })] } },
      7, [], { portSrc := [], pkgDst := [] }, { portSrc := List.replicate 31 none ++ [some (7, 3)], pkgDst := [] },
      ?_⟩,
    ⟨{ svc with fab := { svc.fab with due := [7] } }, 7, [], ?_⟩,
    ⟨{ svc with fab := { svc.fab with switching := true } }, ?_⟩,
    ⟨{ svc with links := [(31, { pst := .switching })] }, 31, ?_⟩,
    ⟨{ svc with opt := { ring := [(1791, { st := .sweep })] } }, 7, 223, 1791, 14, ?_⟩⟩ <;>
    repeat' (first | with_reducible rfl | (with_reducible refine some_getD1 _ _ ?_) | (with_reducible refine some_getD2 _ _ ?_) | (with_reducible refine mid_false _ ?_) | (with_reducible refine fst_false _ ?_) | refine And.intro ?_ ?_ | decide +kernel | rfl | refine Or.inl ?_ | (rintro _ (rfl | rfl) <;> decide +kernel) | (intros; simp))

/-- Operands and states that meet the hypotheses of `Obligations.LockSequencerInstructions`, clause by clause. -/
theorem meets_LockSequencerInstructions :
    (∃ (s : State) (d : Nat) (w : W32) (x : Seq),
      seqr s d = x
      ∧ x.run = true
      ∧ x.waiting = none
      ∧ domOn s 71 = true
      ∧ blkOn s (baseLCK d) = true
      ∧ seqWord s d = w
      ∧ 0x12 < fld w 26 6)
    ∧ (∃ (s : State) (d : Nat) (n : Nat) (x : Seq),
      seqr s d = x
      ∧ x.run = true
      ∧ x.waiting = some n
      ∧ domOn s 71 = true
      ∧ blkOn s (baseLCK d) = true
      ∧ x.pc < 4095)
    ∧ (∃ (s : State) (d : Nat) (w : W32) (x : Seq) (a : W32) (b : W32) (go : Bool) (t : Int),
      SeqAt 5 0xFFFFFF d w x s
      ∧ a = gReg x (qB w)
      ∧ b = gReg x (qC w)
      ∧ t = x.pc + qImm w
      ∧ (go = true ↔ (fld w 22 2 = 0 ∧ a = b) ∨ (fld w 22 2 = 1 ∧ a ≠ b) ∨ (fld w 22 2 = 2 ∧ a.toInt < b.toInt) ∨ (fld w 22 2 = 3 ∧ a.toNat < b.toNat)))
    ∧ (∃ (s : State) (d : Nat) (i : Nat) (k : Nat) (w : W32) (x : Seq) (_v : W16) (y : OptRing),
      SeqRing d w x i s
      ∧ k = 224 * d + i
      ∧ y = optRing s k)
    ∧ (∃ (_s : State) (_d : Nat) (w : W32) (x : Seq),
      224 ≤ (gReg x (qB w)).toNat)
    ∧ (∃ (s : State) (d : Nat) (w : W32) (x : Seq),
      SeqAt 0 0 d w x s)
    ∧ (∃ (s : State) (d : Nat) (w : W32) (x : Seq),
      SeqAt 1 0 d w x s)
    ∧ (∃ (s : State) (d : Nat) (w : W32) (x : Seq),
      SeqAt 2 0x3FFC00F d w x s
      ∧ fld w 0 4 ≤ 9)
    ∧ (∃ (s : State) (d : Nat) (w : W32) (x : Seq),
      SeqAt 3 0x3FC3FFF d w x s)
    ∧ (∃ (s : State) (d : Nat) (w : W32) (x : Seq),
      SeqAt 4 0x3C3FFFF d w x s)
    ∧ (∃ (s : State) (d : Nat) (w : W32) (x : Seq),
      SeqAt 6 0x3FFF d w x s)
    ∧ (∃ (s : State) (d : Nat) (w : W32) (x : Seq),
      SeqAt 0x11 0x3C00000 d w x s)
    ∧ (∃ (s : State) (d : Nat) (w : W32) (x : Seq),
      SeqAt 0x12 0x3FFFFF d w x s)
    ∧ (∃ (s : State) (d : Nat) (w : W32) (x : Seq) (a : W32) (b : W32) (go : Bool) (t : Int),
      SeqAt 5 0xFFFFFF d w x s
      ∧ a = gReg x (qB w)
      ∧ b = gReg x (qC w)
      ∧ t = x.pc + qImm w
      ∧ (go = true ↔ (fld w 22 2 = 0 ∧ a = b) ∨ (fld w 22 2 = 1 ∧ a ≠ b) ∨ (fld w 22 2 = 2 ∧ a.toInt < b.toInt) ∨ (fld w 22 2 = 3 ∧ a.toNat < b.toNat))
      ∧ go = false)
    ∧ (∃ (s : State) (d : Nat) (w : W32) (x : Seq) (a : W32) (b : W32) (go : Bool) (t : Int),
      SeqAt 5 0xFFFFFF d w x s
      ∧ a = gReg x (qB w)
      ∧ b = gReg x (qC w)
      ∧ t = x.pc + qImm w
      ∧ (go = true ↔ (fld w 22 2 = 0 ∧ a = b) ∨ (fld w 22 2 = 1 ∧ a ≠ b) ∨ (fld w 22 2 = 2 ∧ a.toInt < b.toInt) ∨ (fld w 22 2 = 3 ∧ a.toNat < b.toNat))
      ∧ go = true
      ∧ 0 ≤ t
      ∧ t < 4096)
    ∧ (∃ (s : State) (d : Nat) (w : W32) (x : Seq) (a : W32) (b : W32) (go : Bool) (t : Int),
      SeqAt 5 0xFFFFFF d w x s
      ∧ a = gReg x (qB w)
      ∧ b = gReg x (qC w)
      ∧ t = x.pc + qImm w
      ∧ (go = true ↔ (fld w 22 2 = 0 ∧ a = b) ∨ (fld w 22 2 = 1 ∧ a ≠ b) ∨ (fld w 22 2 = 2 ∧ a.toInt < b.toInt) ∨ (fld w 22 2 = 3 ∧ a.toNat < b.toNat))
      ∧ go = true
      ∧ (t < 0 ∨ 4096 ≤ t))
    ∧ (∃ (s : State) (d : Nat) (i : Nat) (k : Nat) (w : W32) (x : Seq) (_v : W16) (y : OptRing),
      SeqRing d w x i s
      ∧ k = 224 * d + i
      ∧ y = optRing s k
      ∧ SeqAt 7 0x3FC0000 d w x s)
    ∧ (∃ (s : State) (d : Nat) (i : Nat) (k : Nat) (w : W32) (x : Seq) (_v : W16) (y : OptRing),
      SeqRing d w x i s
      ∧ k = 224 * d + i
      ∧ y = optRing s k
      ∧ SeqAt 8 0x3FC0000 d w x s)
    ∧ (∃ (s : State) (d : Nat) (i : Nat) (k : Nat) (w : W32) (x : Seq) (_v : W16) (y : OptRing),
      SeqRing d w x i s
      ∧ k = 224 * d + i
      ∧ y = optRing s k
      ∧ SeqAt 9 0x3FC000 d w x s)
    ∧ (∃ (s : State) (d : Nat) (i : Nat) (k : Nat) (w : W32) (x : Seq) (_v : W16) (y : OptRing),
      SeqRing d w x i s
      ∧ k = 224 * d + i
      ∧ y = optRing s k
      ∧ SeqAt 0xA 0x3FC007 d w x s
      ∧ fld w 0 3 ≤ 3)
    ∧ (∃ (s : State) (d : Nat) (i : Nat) (k : Nat) (w : W32) (x : Seq) (_v : W16) (y : OptRing),
      SeqRing d w x i s
      ∧ k = 224 * d + i
      ∧ y = optRing s k
      ∧ SeqAt 0xB 0x3FC0000 d w x s)
    ∧ (∃ (s : State) (d : Nat) (i : Nat) (k : Nat) (w : W32) (x : Seq) (_v : W16) (y : OptRing),
      SeqRing d w x i s
      ∧ k = 224 * d + i
      ∧ y = optRing s k
      ∧ SeqAt 0xD 0x3FC003 d w x s)
    ∧ (∃ (s : State) (d : Nat) (w : W32) (x : Seq),
      224 ≤ (gReg x (qB w)).toNat
      ∧ SeqAt 8 0x3FC0000 d w x s)
    ∧ (∃ (s : State) (d : Nat) (w : W32) (x : Seq),
      224 ≤ (gReg x (qB w)).toNat
      ∧ SeqAt 9 0x3FC000 d w x s)
    ∧ (∃ (s : State) (d : Nat) (w : W32) (x : Seq),
      SeqAt 0xC 0x3FC0000 d w x s
      ∧ bit w 0 = false)
    ∧ (∃ (s : State) (d : Nat) (w : W32) (x : Seq),
      SeqAt 0xC 0x3FC001 d w x s
      ∧ bit w 0 = true)
    ∧ (∃ (s : State) (d : Nat) (w : W32) (x : Seq),
      SeqAt 0xE 0x3C00001 d w x s
      ∧ bit w 0 = false)
    ∧ (∃ (s : State) (d : Nat) (w : W32) (x : Seq) (n : _),
      SeqAt 0xE 0x3C00001 d w x s
      ∧ bit w 0 = true
      ∧ feeding s d = some n)
    ∧ (∃ (s : State) (d : Nat) (w : W32) (x : Seq) (n : _),
      SeqAt 0xF 0x3C0000 d w x s
      ∧ feeding s d = some n)
    ∧ (∃ (s : State) (d : Nat) (w : W32) (x : Seq),
      SeqAt 0x10 0x3C00000 d w x s) := by
  refine ⟨⟨seqd 0x4c000000 { pc := 4094 }, 7, 0x4c000000, { pc := 4094, run := true }, ?_⟩,
    ⟨{ svc with opt := { seq := [(7, { run := true, waiting := some 16383, pc := 4094 })] } }, 7, 16383,
      { run := true, waiting := some 16383, pc := 4094 }, ?_⟩,
    ⟨seqd 0x14bb4005 { pc := 4094 }, 7, 0x14bb4005, { pc := 4094, run := true }, 0, 0, false, 4094 + 5, ?_⟩,
    ⟨svc, 7, 223, 1791, 0x1ffb4000, { g := [(14, 223)] }, 3, {}, ?_⟩,
    ⟨svc, 7, 0x23fb4000, { g := [(14, 224)] }, ?_⟩,
    ⟨seqd 0 { pc := 4094 }, 7, 0, { pc := 4094, run := true }, ?_⟩,
    ⟨seqd 0x4000000 { pc := 4094 }, 7, 0x4000000, { pc := 4094, run := true }, ?_⟩,
    ⟨seqd 0xbfb4009 { pc := 4094 }, 7, 0xbfb4009, { pc := 4094, run := true }, ?_⟩,
    ⟨seqd 0xff82000 { pc := 4094 }, 7, 0xff82000, { pc := 4094, run := true }, ?_⟩,
    ⟨seqd 0x13c3ffff { pc := 4094 }, 7, 0x13c3ffff, { pc := 4094, run := true }, ?_⟩,
    ⟨seqd 0x18003fff { pc := 4094 }, 7, 0x18003fff, { pc := 4094, run := true }, ?_⟩,
    ⟨seqd 0x47c00000 { pc := 4094 }, 7, 0x47c00000, { pc := 4094, run := true }, ?_⟩,
    ⟨seqd 0x483b7fff { pc := 4094 }, 7, 0x483b7fff, { pc := 4094, run := true }, ?_⟩,
    ⟨seqd 0x14bb4005 { pc := 4094 }, 7, 0x14bb4005, { pc := 4094, run := true }, 0, 0, false, 4094 + 5, ?_⟩,
    ⟨seqd 0x143b4001 { pc := 4094 }, 7, 0x143b4001, { pc := 4094, run := true }, 0, 0, true, 4094 + 1, ?_⟩,
    ⟨seqd 0x143b4002 { pc := 4094 }, 7, 0x143b4002, { pc := 4094, run := true }, 0, 0, true, 4094 + 2, ?_⟩,
    ⟨seqd 0x1ff80000 { pc := 4094, g := [(13, 9), (14, 223)] }, 7, 223, 1791, 0x1ff80000, { pc := 4094, g := [(13, 9), (14, 223)], run := true },
      3, {}, ?_⟩,
    ⟨seqd 0x23f80000 { pc := 4094, g := [(13, 9), (14, 223)] }, 7, 223, 1791, 0x23f80000, { pc := 4094, g := [(13, 9), (14, 223)], run := true },
      3, {}, ?_⟩,
    ⟨seqd 0x243b4000 { pc := 4094, g := [(13, 9), (14, 223)] }, 7, 223, 1791, 0x243b4000, { pc := 4094, g := [(13, 9), (14, 223)], run := true },
      3, {}, ?_⟩,
    ⟨seqd 0x283b4003 { pc := 4094, g := [(13, 9), (14, 223)] }, 7, 223, 1791, 0x283b4003, { pc := 4094, g := [(13, 9), (14, 223)], run := true },
      3, {}, ?_⟩,
    ⟨seqd 0x2ff80000 { pc := 4094, g := [(13, 9), (14, 223)] }, 7, 223, 1791, 0x2ff80000, { pc := 4094, g := [(13, 9), (14, 223)], run := true },
      3, {}, ?_⟩,
    ⟨seqd 0x343b4003 { pc := 4094, g := [(13, 9), (14, 223)] }, 7, 223, 1791, 0x343b4003, { pc := 4094, g := [(13, 9), (14, 223)], run := true },
      3, {}, ?_⟩,
    ⟨seqd 0x23f80000 { pc := 4094, g := [(13, 9), (14, 224)] }, 7, 0x23f80000, { pc := 4094, g := [(13, 9), (14, 224)], run := true },
      ?_⟩,
    ⟨seqd 0x243b4000 { pc := 4094, g := [(13, 9), (14, 224)] }, 7, 0x243b4000, { pc := 4094, g := [(13, 9), (14, 224)], run := true },
      ?_⟩,
    ⟨seqd 0x33f80000 { pc := 4094 }, 7, 0x33f80000, { pc := 4094, run := true }, ?_⟩,
    ⟨seqd 0x303b4001 { pc := 4094 }, 7, 0x303b4001, { pc := 4094, run := true }, ?_⟩,
    ⟨seqd 0x3bc00000 { pc := 4094 }, 7, 0x3bc00000, { pc := 4094, run := true }, ?_⟩,
    ⟨{ seqd 0x3bc00001 { pc := 4094 } with opt := { (seqd 0x3bc00001 { pc := 4094 }).opt with las := [(9, { bus := some 7 })] } },
      7, 0x3bc00001, { pc := 4094, run := true }, 9, ?_⟩,
    ⟨{ seqd 0x3c380000 { pc := 4094 } with opt := { (seqd 0x3c380000 { pc := 4094 }).opt with las := [(9, { bus := some 7 })] } },
      7, 0x3c380000, { pc := 4094, run := true }, 9, ?_⟩,
    ⟨seqd 0x43c00000 { pc := 4094 }, 7, 0x43c00000, { pc := 4094, run := true }, ?_⟩⟩ <;>
    repeat' (first | with_reducible rfl | (with_reducible refine some_getD1 _ _ ?_) | (with_reducible refine some_getD2 _ _ ?_) | (with_reducible refine mid_false _ ?_) | (with_reducible refine fst_false _ ?_) | refine And.intro ?_ ?_ | decide +kernel | rfl | refine Or.inl ?_ | (rintro _ (rfl | rfl) <;> decide +kernel) | (intros; simp))

abbrev framesAreCheckedDeliveredAndReplayed1 : State := litAs 31 { pst := .up, rxSeq := 7, rxSet := 0x3FF, txSet := 0x3FF } svc
abbrev framesAreCheckedDeliveredAndReplayed2 : State := litAs 31 { pst := .up, rxSeq := 7, rxSet := 0x3FF, txSet := 0x3FF } (svcJ (jobRun [task0] {}))
abbrev framesAreCheckedDeliveredAndReplayed3 : State := litAs 31 { pst := .up, rxSeq := 7, fresh := false } ({ svc with sec := { svc.sec with r2 := { st := .keyed, secrets := [(0, [1])] } } })
abbrev framesAreCheckedDeliveredAndReplayed4 : State := litAs 31 { pst := .up, unacked := [({ typ := 1 }, 0), ({ typ := 1, seqNo := 8 }, 3)] } svc

/-- Operands and states that meet the hypotheses of `Obligations.FramesAreCheckedDeliveredAndReplayed`, clause by clause. -/
theorem meets_FramesAreCheckedDeliveredAndReplayed :
    (∃ (s : State) (l : Nat) (i : FrameIn),
      rxFail l i = 0
      ∧ (i.f.typ = 0 ∨ i.f.typ = 4 ∨ i.f.partition = s.fab.partition)
      ∧ i.f.realm ≠ 3
      ∧ i.f.ack = none)
    ∧ (∃ (_s : State) (l : Nat) (i : FrameIn),
      rxFail l i ≠ 0)
    ∧ (∃ (s : State) (l : Nat) (i : FrameIn),
      rxFail l i = 0
      ∧ i.f.typ ≠ 0
      ∧ i.f.typ ≠ 4
      ∧ i.f.partition ≠ s.fab.partition)
    ∧ (∃ (s : State) (l : Nat) (i : FrameIn),
      linkLit s l = true
      ∧ i.f.typ = 0)
    ∧ (∃ (s : State) (s1 : State) (l : Nat) (i : FrameIn),
      linkLit s l = true
      ∧ rxChecks l i s = (false, s1))
    ∧ (∃ (s : State) (s1 : State) (s2 : State) (l : Nat) (i : FrameIn) (ps : List Packet) (opened : Bool),
      linkLit s l = true
      ∧ rxChecks l i s = (true, s1)
      ∧ (lnk s1 l).pst = .up
      ∧ i.f.seqNo = (lnk s1 l).rxSeq
      ∧ openFrame l i.f s1 = some (ps, opened, s2))
    ∧ (∃ (s : State) (s1 : State) (l : Nat) (i : FrameIn),
      linkLit s l = true
      ∧ rxChecks l i s = (true, s1)
      ∧ (lnk s1 l).pst = .up
      ∧ i.f.typ = 1)
    ∧ (∃ (s : State) (s1 : State) (l : Nat) (i : FrameIn) (_n : W16),
      linkLit s l = true
      ∧ i.f.typ = 3
      ∧ rxChecks l i s = (true, s1))
    ∧ (∃ (s : State) (l : Nat) (n : Nat) (f : Frame) (rest : List (Frame × Nat)),
      linkOpen s l = true
      ∧ (lnk s l).unacked = (f, n) :: rest)
    ∧ (∃ (s : State) (l : Nat) (c : Nat) (f : Frame) (pre : List (Frame × Nat)) (post : List (Frame × Nat)),
      linkOpen s l = true
      ∧ (lnk s l).unacked = pre ++ (f, c) :: post
      ∧ (∀ e ∈ pre, e.1.seqNo ≠ f.seqNo))
    ∧ (∃ (s : State) (l : Nat) (f : Frame) (pos : List Nat) (syms : List Nat),
      pos = bitsOf 10 (lnk s l).txSet.toNat
      ∧ pos ≠ []
      ∧ syms = frameSymbols (l < 32) f.cw (frameBytes (lnk s l) f))
    ∧ (∃ (_ext : Bool) (cw : Nat) (k : Nat) (j : Nat) (_data : List Byte),
      k < cw
      ∧ j < 256)
    ∧ (∃ (s : State) (s1 : State) (l : Nat) (i : FrameIn),
      linkLit s l = true
      ∧ rxChecks l i s = (false, s1)
      ∧ i.f.typ = 1)
    ∧ (∃ (s : State) (s1 : State) (l : Nat) (i : FrameIn),
      linkLit s l = true
      ∧ rxChecks l i s = (false, s1)
      ∧ i.f.typ = 2)
    ∧ (∃ (s : State) (s1 : State) (l : Nat) (i : FrameIn),
      linkLit s l = true
      ∧ rxChecks l i s = (false, s1)
      ∧ i.f.typ = 3)
    ∧ (∃ (s : State) (s1 : State) (s2 : State) (l : Nat) (i : FrameIn) (ps : List Packet) (opened : Bool),
      linkLit s l = true
      ∧ rxChecks l i s = (true, s1)
      ∧ (lnk s1 l).pst = .up
      ∧ i.f.seqNo = (lnk s1 l).rxSeq
      ∧ openFrame l i.f s1 = some (ps, opened, s2)
      ∧ i.f.typ = 1)
    ∧ (∃ (s : State) (s1 : State) (s2 : State) (l : Nat) (i : FrameIn) (ps : List Packet) (opened : Bool),
      linkLit s l = true
      ∧ rxChecks l i s = (true, s1)
      ∧ (lnk s1 l).pst = .up
      ∧ i.f.seqNo = (lnk s1 l).rxSeq
      ∧ openFrame l i.f s1 = some (ps, opened, s2)
      ∧ i.f.typ = 2)
    ∧ (∃ (s : State) (s1 : State) (s2 : State) (l : Nat) (i : FrameIn) (ps : List Packet) (opened : Bool) (p : _) (j : _) (st : _),
      linkLit s l = true
      ∧ rxChecks l i s = (true, s1)
      ∧ (lnk s1 l).pst = .up
      ∧ i.f.seqNo = (lnk s1 l).rxSeq
      ∧ openFrame l i.f s1 = some (ps, opened, s2)
      ∧ p ∈ ps
      ∧ i.f.nf = true
      ∧ opened = true
      ∧ p.dst = ownChip s2
      ∧ p.slot < 2
      ∧ jobAt s2 p.slot = some j
      ∧ j.step = some st
      ∧ p.step = BitVec.ofNat 8 st.num.toNat
      ∧ j.realm = i.f.realm)
    ∧ (∃ (s : State) (s1 : State) (s2 : State) (l : Nat) (i : FrameIn) (ps : List Packet) (opened : Bool),
      linkLit s l = true
      ∧ rxChecks l i s = (true, s1)
      ∧ (lnk s1 l).pst = .up
      ∧ i.f.seqNo = (lnk s1 l).rxSeq
      ∧ openFrame l i.f s1 = some (ps, opened, s2)
      ∧ i.f.nf = false)
    ∧ (∃ (s : State) (s1 : State) (l : Nat) (i : FrameIn),
      linkLit s l = true
      ∧ rxChecks l i s = (true, s1)
      ∧ (lnk s1 l).pst = .up
      ∧ i.f.typ = 1
      ∧ i.f.seqNo = (lnk s1 l).rxSeq
      ∧ openFrame l i.f s1 = none)
    ∧ (∃ (s : State) (s1 : State) (l : Nat) (i : FrameIn),
      linkLit s l = true
      ∧ rxChecks l i s = (true, s1)
      ∧ (lnk s1 l).pst = .up
      ∧ i.f.typ = 1
      ∧ i.f.seqNo ≠ (lnk s1 l).rxSeq)
    ∧ (∃ (s : State) (l : Nat) (c : Nat) (f : Frame) (pre : List (Frame × Nat)) (post : List (Frame × Nat)),
      linkOpen s l = true
      ∧ (lnk s l).unacked = pre ++ (f, c) :: post
      ∧ (∀ e ∈ pre, e.1.seqNo ≠ f.seqNo)
      ∧ (∀ e ∈ (f, c) :: post, e.2 < 8))
    ∧ (∃ (s : State) (l : Nat) (c : Nat) (f : Frame) (pre : List (Frame × Nat)) (post : List (Frame × Nat)),
      linkOpen s l = true
      ∧ (lnk s l).unacked = pre ++ (f, c) :: post
      ∧ (∀ e ∈ pre, e.1.seqNo ≠ f.seqNo)
      ∧ (∃ e ∈ (f, c) :: post, 8 ≤ e.2)) := by
  refine ⟨⟨svc, 31, { f := { typ := 1, realm := 2, partition := 0xFFF }, fail := 0 }, ?_⟩,
    ⟨svc, 31, { f := { typ := 1 }, fail := 4 }, ?_⟩,
    ⟨svc, 31, { f := { typ := 1, partition := 1 }, fail := 0 }, ?_⟩,
    ⟨framesAreCheckedDeliveredAndReplayed1, 31, { f := { typ := 0 }, fail := 0 }, ?_⟩,
    ⟨framesAreCheckedDeliveredAndReplayed1, (rxChecks 31 { f := { typ := 1 }, fail := 1 } framesAreCheckedDeliveredAndReplayed1).2,
      31, { f := { typ := 1 }, fail := 1 }, ?_⟩,
    ⟨framesAreCheckedDeliveredAndReplayed1, (rxChecks 31 { f := { typ := 1, seqNo := 7, partition := 0xFFF }, fail := 0 } framesAreCheckedDeliveredAndReplayed1).2,
      (rxChecks 31 { f := { typ := 1, seqNo := 7, partition := 0xFFF }, fail := 0 } framesAreCheckedDeliveredAndReplayed1).2,
      31, { f := { typ := 1, seqNo := 7, partition := 0xFFF }, fail := 0 }, [], true, ?_⟩,
    ⟨framesAreCheckedDeliveredAndReplayed1, (rxChecks 31 { f := { typ := 1, seqNo := 7, partition := 0xFFF }, fail := 0 } framesAreCheckedDeliveredAndReplayed1).2,
      31, { f := { typ := 1, seqNo := 7, partition := 0xFFF }, fail := 0 }, ?_⟩,
    ⟨framesAreCheckedDeliveredAndReplayed1, (rxChecks 31 { f := { typ := 3, partition := 0xFFF }, fail := 0 } framesAreCheckedDeliveredAndReplayed1).2,
      31, { f := { typ := 3, partition := 0xFFF }, fail := 0 }, 3, ?_⟩,
    ⟨litAs 31 { pst := .up, unacked := [({ typ := 1, seqNo := 8 }, 3)] } svc, 31, 3, { typ := 1, seqNo := 8 },
      [], ?_⟩,
    ⟨framesAreCheckedDeliveredAndReplayed4, 31, 3, { typ := 1, seqNo := 8 }, [({ typ := 1 }, 0)], [], ?_⟩,
    ⟨litAs 31 { txSet := 0x3FF } svc, 31, { typ := 0 }, [0, 1, 2, 3, 4, 5, 6, 7, 8, 9],
      frameSymbols (31 < 32) 1 (frameBytes (lnk (litAs 31 { txSet := 0x3FF } svc) 31) { typ := 0 }), ?_⟩,
    ⟨true, 1, 0, 255, [], ?_⟩,
    ⟨framesAreCheckedDeliveredAndReplayed1, (rxChecks 31 { f := { typ := 1 }, fail := 1 } framesAreCheckedDeliveredAndReplayed1).2,
      31, { f := { typ := 1 }, fail := 1 }, ?_⟩,
    ⟨framesAreCheckedDeliveredAndReplayed1, (rxChecks 31 { f := { typ := 2 }, fail := 1 } framesAreCheckedDeliveredAndReplayed1).2,
      31, { f := { typ := 2 }, fail := 1 }, ?_⟩,
    ⟨framesAreCheckedDeliveredAndReplayed1, (rxChecks 31 { f := { typ := 3 }, fail := 1 } framesAreCheckedDeliveredAndReplayed1).2,
      31, { f := { typ := 3 }, fail := 1 }, ?_⟩,
    ⟨framesAreCheckedDeliveredAndReplayed1, (rxChecks 31 { f := { typ := 1, seqNo := 7, partition := 0xFFF }, fail := 0 } framesAreCheckedDeliveredAndReplayed1).2,
      (rxChecks 31 { f := { typ := 1, seqNo := 7, partition := 0xFFF }, fail := 0 } framesAreCheckedDeliveredAndReplayed1).2,
      31, { f := { typ := 1, seqNo := 7, partition := 0xFFF }, fail := 0 }, [], true, ?_⟩,
    ⟨framesAreCheckedDeliveredAndReplayed1, (rxChecks 31 { f := { typ := 2, seqNo := 7, partition := 0xFFF }, fail := 0 } framesAreCheckedDeliveredAndReplayed1).2,
      (rxChecks 31 { f := { typ := 2, seqNo := 7, partition := 0xFFF }, fail := 0 } framesAreCheckedDeliveredAndReplayed1).2,
      31, { f := { typ := 2, seqNo := 7, partition := 0xFFF }, fail := 0 }, [], true, ?_⟩,
    ⟨framesAreCheckedDeliveredAndReplayed2, (rxChecks 31 { f := { typ := 2, seqNo := 7, partition := 0xFFF, nf := true, packets := [{ pkt0 6 with step := 0, slot := 0 }] }, fail := 0 } framesAreCheckedDeliveredAndReplayed2).2,
      (rxChecks 31 { f := { typ := 2, seqNo := 7, partition := 0xFFF, nf := true, packets := [{ pkt0 6 with step := 0, slot := 0 }] }, fail := 0 } framesAreCheckedDeliveredAndReplayed2).2,
      31, { f := { typ := 2, seqNo := 7, partition := 0xFFF, nf := true, packets := [{ pkt0 6 with step := 0, slot := 0 }] }, fail := 0 },
      [{ pkt0 6 with step := 0, slot := 0 }], true, { pkt0 6 with step := 0, slot := 0 }, jobRun [task0] {}, {},
      ?_⟩,
    ⟨framesAreCheckedDeliveredAndReplayed1, (rxChecks 31 { f := { typ := 1, seqNo := 7, partition := 0xFFF }, fail := 0 } framesAreCheckedDeliveredAndReplayed1).2,
      (rxChecks 31 { f := { typ := 1, seqNo := 7, partition := 0xFFF }, fail := 0 } framesAreCheckedDeliveredAndReplayed1).2,
      31, { f := { typ := 1, seqNo := 7, partition := 0xFFF }, fail := 0 }, [], true, ?_⟩,
    ⟨framesAreCheckedDeliveredAndReplayed3, (rxChecks 31 { f := { typ := 1, seqNo := 7, partition := 0xFFF, realm := 2 }, fail := 0 } framesAreCheckedDeliveredAndReplayed3).2,
      31, { f := { typ := 1, seqNo := 7, partition := 0xFFF, realm := 2 }, fail := 0 }, ?_⟩,
    ⟨framesAreCheckedDeliveredAndReplayed1, (rxChecks 31 { f := { typ := 1, seqNo := 8, partition := 0xFFF }, fail := 0 } framesAreCheckedDeliveredAndReplayed1).2,
      31, { f := { typ := 1, seqNo := 8, partition := 0xFFF }, fail := 0 }, ?_⟩,
    ⟨framesAreCheckedDeliveredAndReplayed4, 31, 3, { typ := 1, seqNo := 8 }, [({ typ := 1 }, 0)], [], ?_⟩,
    ⟨litAs 31 { pst := .up, unacked := [({ typ := 1 }, 0), ({ typ := 1, seqNo := 8 }, 8)] } svc, 31, 8,
      { typ := 1, seqNo := 8 }, [({ typ := 1 }, 0)], [], ?_⟩⟩ <;>
    repeat' (first | with_reducible rfl | (with_reducible refine some_getD1 _ _ ?_) | (with_reducible refine some_getD2 _ _ ?_) | (with_reducible refine mid_false _ ?_) | (with_reducible refine fst_false _ ?_) | refine And.intro ?_ ?_ | decide +kernel | rfl | refine Or.inl ?_ | (rintro _ (rfl | rfl) <;> decide +kernel) | (intros; simp))

abbrev lanesDropRestoreAndSpare1 : State := litAs 31 { pst := .up, rxSeq := 7, rxSet := 0x3FF, txSet := 0x3FF } svc
abbrev lanesDropRestoreAndSpare2 : State := litAs 31 { pst := .up, rxSet := 0x3FF, txSet := 0x3FF, trainMask := 0x200 } svc
abbrev lanesDropRestoreAndSpare3 : State := litAs 31 { pst := .up, rxSet := 0x007, txSet := 0x3FF, trainMask := 0x200 } svc

/-- Operands and states that meet the hypotheses of `Obligations.LanesDropRestoreAndSpare`, clause by clause. -/
theorem meets_LanesDropRestoreAndSpare :
    (∃ (s : State) (l : Nat) (p : Nat) (cause : Nat) (x : Link) (m : BitVec 10),
      linkLit s l = true
      ∧ lnk s l = x
      ∧ x.rxSet.getLsbD p = true
      ∧ x.pst = .up
      ∧ x.wantRx = none
      ∧ (cause = 1 ∨ cause = 3 ∨ cause = 4 ∨ cause = 5)
      ∧ m = x.rxSet &&& ~~~(BitVec.ofNat 10 (2 ^ p)))
    ∧ (∃ (s : State) (l : Nat) (p : Nat) (_found : Nat),
      linkLit s l = true
      ∧ (lnk s l).rxSet.getLsbD p = true
      ∧ (lnk s l).pst = .up)
    ∧ (∃ (s : State) (l : Nat) (c : Nat) (m : BitVec 10),
      linkLit s l = true
      ∧ (lnk s l).wantRx = some (m, c))
    ∧ (∃ (s : State) (s1 : State) (l : Nat) (i : FrameIn),
      linkLit s l = true
      ∧ i.f.typ = 3
      ∧ rxChecks l i s = (true, s1))
    ∧ (∃ (s : State) (l : Nat) (p : Nat) (x : Link),
      linkLit s l = true
      ∧ lnk s l = x
      ∧ x.trainMask.getLsbD p = true
      ∧ p < linkPositions l)
    ∧ (∃ (s : State) (l : Nat) (x : Link),
      linkLit s l = true
      ∧ lnk s l = x
      ∧ x.pst = .up)
    ∧ (∃ (s : State) (l : Nat),
      (lnk s l).pst = .hold)
    ∧ (∃ (s : State) (s1 : State) (l : Nat) (i : FrameIn),
      linkLit s l = true
      ∧ i.f.typ = 3
      ∧ rxChecks l i s = (true, s1)
      ∧ (lnk s1 l).pst = .up)
    ∧ (∃ (s : State) (s1 : State) (l : Nat) (i : FrameIn),
      linkLit s l = true
      ∧ i.f.typ = 3
      ∧ rxChecks l i s = (true, s1)
      ∧ (lnk s1 l).pst = .up)
    ∧ (∃ (s : State) (s1 : State) (l : Nat) (i : FrameIn) (n : _),
      linkLit s l = true
      ∧ i.f.typ = 3
      ∧ rxChecks l i s = (true, s1)
      ∧ n < 8)
    ∧ (∃ (s : State) (s1 : State) (l : Nat) (i : FrameIn) (n : _),
      linkLit s l = true
      ∧ i.f.typ = 3
      ∧ rxChecks l i s = (true, s1)
      ∧ 8 ≤ n)
    ∧ (∃ (s : State) (l : Nat) (p : Nat) (x : Link),
      linkLit s l = true
      ∧ lnk s l = x
      ∧ x.trainMask.getLsbD p = true
      ∧ p < linkPositions l
      ∧ x.pst = .up
      ∧ linkLocked s [3] l = false
      ∧ autoRestores s l p = false)
    ∧ (∃ (s : State) (l : Nat) (p : Nat) (x : Link) (m : _),
      linkLit s l = true
      ∧ lnk s l = x
      ∧ x.trainMask.getLsbD p = true
      ∧ p < linkPositions l
      ∧ x.pst = .up
      ∧ linkLocked s [3] l = false
      ∧ autoRestores s l p = true
      ∧ m = (x.wantRx.map (·.1)).getD x.rxSet ||| BitVec.ofNat 10 (2 ^ p)
      ∧ 4 ≤ popcount 10 m.toNat)
    ∧ (∃ (s : State) (l : Nat) (p : Nat) (x : Link) (m : _),
      linkLit s l = true
      ∧ lnk s l = x
      ∧ x.trainMask.getLsbD p = true
      ∧ p < linkPositions l
      ∧ x.pst = .up
      ∧ linkLocked s [3] l = true
      ∧ m = (x.wantRx.map (·.1)).getD x.rxSet ||| BitVec.ofNat 10 (2 ^ p)
      ∧ 4 ≤ popcount 10 m.toNat) := by
  refine ⟨⟨lanesDropRestoreAndSpare2, 31, 9, 5, { pst := .up, rxSet := 0x3FF, txSet := 0x3FF, trainMask := 0x200 },
      0x1FF, ?_⟩,
    ⟨lanesDropRestoreAndSpare2, 31, 9, 2, ?_⟩,
    ⟨litAs 31 { pst := .up, wantRx := some (0xFF, 3) } svc, 31, 3, 0xFF, ?_⟩,
    ⟨lanesDropRestoreAndSpare1, (rxChecks 31 { f := { typ := 3, partition := 0xFFF }, fail := 0 } lanesDropRestoreAndSpare1).2,
      31, { f := { typ := 3, partition := 0xFFF }, fail := 0 }, ?_⟩,
    ⟨lanesDropRestoreAndSpare2, 31, 9, { pst := .up, rxSet := 0x3FF, txSet := 0x3FF, trainMask := 0x200 }, ?_⟩,
    ⟨lanesDropRestoreAndSpare2, 31, { pst := .up, rxSet := 0x3FF, txSet := 0x3FF, trainMask := 0x200 }, ?_⟩,
    ⟨litAs 31 { pst := .hold } svc, 31, ?_⟩,
    ⟨lanesDropRestoreAndSpare1, (rxChecks 31 { f := { typ := 3, partition := 0xFFF }, fail := 0 } lanesDropRestoreAndSpare1).2,
      31, { f := { typ := 3, partition := 0xFFF }, fail := 0 }, ?_⟩,
    ⟨lanesDropRestoreAndSpare1, (rxChecks 31 { f := { typ := 3, partition := 0xFFF }, fail := 0 } lanesDropRestoreAndSpare1).2,
      31, { f := { typ := 3, partition := 0xFFF }, fail := 0 }, ?_⟩,
    ⟨lanesDropRestoreAndSpare1, (rxChecks 31 { f := { typ := 3, partition := 0xFFF }, fail := 0 } lanesDropRestoreAndSpare1).2,
      31, { f := { typ := 3, partition := 0xFFF }, fail := 0 }, 7, ?_⟩,
    ⟨lanesDropRestoreAndSpare1, (rxChecks 31 { f := { typ := 3, partition := 0xFFF }, fail := 0 } lanesDropRestoreAndSpare1).2,
      31, { f := { typ := 3, partition := 0xFFF }, fail := 0 }, 8, ?_⟩,
    ⟨litAs 31 { pst := .up, rxSet := 0x1FF, txSet := 0x3FF, trainMask := 0x200, stuck := [9] } svc, 31, 9,
      { pst := .up, rxSet := 0x1FF, txSet := 0x3FF, trainMask := 0x200, stuck := [9] }, ?_⟩,
    ⟨lanesDropRestoreAndSpare3, 31, 9, { pst := .up, rxSet := 0x007, txSet := 0x3FF, trainMask := 0x200 }, 0x207,
      ?_⟩,
    ⟨{ lanesDropRestoreAndSpare3 with rel := { svc.rel with locks := [(15, some { cls := 3, host := true, request := true, res := linkUnit 31, grantRt := 0, expect := 1000, covers := [] })] } },
      31, 9, { pst := .up, rxSet := 0x007, txSet := 0x3FF, trainMask := 0x200 }, 0x207, ?_⟩⟩ <;>
    repeat' (first | with_reducible rfl | (with_reducible refine some_getD1 _ _ ?_) | (with_reducible refine some_getD2 _ _ ?_) | (with_reducible refine mid_false _ ?_) | (with_reducible refine fst_false _ ?_) | refine And.intro ?_ ?_ | decide +kernel | rfl | refine Or.inl ?_ | (rintro _ (rfl | rfl) <;> decide +kernel) | (intros; simp))

abbrev rackTimeAndItsPorts1 : State := litAs 31 { pst := .up } { svc with phase := .shutting, rtb := { svc.rtb with valid := true }, fab := { svc.fab with plan := some { adopt := false, timeRoot := false, sameRack0 := false, sameRack1 := false, chip := 3, minProto := 1, serial := 0, fabricId := 1, globalMin := 0, timePort0 := some 30, timePort1 := some 29, nbrs := [], routes := [], digest := [] } } }
abbrev rackTimeAndItsPorts2 : State := litAs 31 { pst := .up } { svc with phase := .shutting, rtb := { svc.rtb with valid := true }, fab := { svc.fab with plan := some { adopt := false, timeRoot := false, sameRack0 := false, sameRack1 := false, chip := 3, minProto := 1, serial := 0, fabricId := 1, globalMin := 0, timePort0 := some 31, timePort1 := none, nbrs := [], routes := [], digest := [] } } }
abbrev rackTimeAndItsPorts3 : State := litAs 31 { pst := .up } { svc with phase := .shutting, rtb := { svc.rtb with valid := true }, fab := { svc.fab with plan := some { adopt := false, timeRoot := false, sameRack0 := false, sameRack1 := false, chip := 3, minProto := 1, serial := 0, fabricId := 1, globalMin := 0, timePort0 := none, timePort1 := some 31, nbrs := [], routes := [], digest := [] } } }
abbrev rackTimeAndItsPorts4 : State := litAs 31 { pst := .up } { svc with phase := .shutting, rtb := { svc.rtb with valid := true }, fab := { svc.fab with plan := some { adopt := false, timeRoot := true, sameRack0 := false, sameRack1 := false, chip := 3, minProto := 1, serial := 0, fabricId := 1, globalMin := 0, timePort0 := none, timePort1 := none, nbrs := [], routes := [], digest := [] } } }
abbrev rackTimeAndItsPorts5 : State := { svc with phase := .shutting, rtb := { svc.rtb with valid := true, holdover := false } }
abbrev rackTimeAndItsPorts6 : State := { svc with jobB := some { colJob 2 with main := some { img0 with col := [(0, { groups := [[⟨0xFFFF, 0, 1⟩, ⟨0xFFFF, 1, 1⟩]], ops := [{ colOp0 2 with wstart := 5, wlen := 3 }], consensus := none })] }, pair := some (0, 12500, 12500) }, rtb := { svc.rtb with raw := 30000 } }
abbrev rackTimeAndItsPorts7 : State := { passTicks 0 (litAs 31 { pst := .up } rackTimeAndItsPorts5) with rtb := { (passTicks 0 (litAs 31 { pst := .up } rackTimeAndItsPorts5)).rtb with echo := tset (0, 0) (passTicks 0 (litAs 31 { pst := .up } rackTimeAndItsPorts5)).rtb.echo 31 (3, rtNow (passTicks 0 (litAs 31 { pst := .up } rackTimeAndItsPorts5))) } }
abbrev rackTimeAndItsPorts8 : State := { svc with phase := .shutting, rtb := { svc.rtb with valid := true, firstSync := true, raw := 0x17FFFF - 5, unconfirmed := some 524286 } }
abbrev rackTimeAndItsPorts9 : State := { svc with phase := .shutting, rtb := { svc.rtb with valid := true, firstSync := true, raw := 0x100001 - 5 } }
abbrev rackTimeAndItsPorts10 : State := { svc with phase := .shutting, rtb := { svc.rtb with valid := true, firstSync := true, raw := 0x100002 - 5 } }
abbrev rackTimeAndItsPorts11 : State := { svc with phase := .shutting, rtb := { svc.rtb with valid := true, firstSync := true, syncBad := true } }
abbrev rackTimeAndItsPorts12 : State := { svc with phase := .shutting, rtb := { svc.rtb with valid := true, slewRaw := -1, slewCorr := 1 } }
abbrev rackTimeAndItsPorts13 : State := { svc with phase := .shutting, rtb := { svc.rtb with valid := true, load := some (5, 1, 7) } }
abbrev rackTimeAndItsPorts14 : State := { svc with phase := .shutting, rtb := { svc.rtb with valid := true, firstSync := false } }
abbrev rackTimeAndItsPorts15 : State := { svc with phase := .shutting, rtb := { svc.rtb with valid := true, slewRaw := -1 } }
abbrev rackTimeAndItsPorts16 : State := { svc with phase := .shutting, rtb := { svc.rtb with valid := true, slewCorr := 1 } }

/-- Operands and states that meet the hypotheses of `Obligations.RackTimeAndItsPorts`, clause by clause. -/
theorem meets_RackTimeAndItsPorts :
    (∃ (s : State) (u : State) (n : Nat),
      u = passTicks n s
      ∧ rtbServes u = true
      ∧ u.rtb.holdover = false)
    ∧ (∃ (s : State) (n : Nat),
      (passTicks n s).rtb.holdover = true)
    ∧ (∃ (s : State) (u : State) (n : Nat),
      u = passTicks n s
      ∧ 0 < n)
    ∧ (∃ (s : State),
      domOn s 77 = true)
    ∧ (∃ (s : State) (u : State) (port : Nat) (n : Nat),
      u = passTicks n s
      ∧ rtbServes u = true
      ∧ u.rtb.valid = true
      ∧ port < 32
      ∧ linkUpAt u port = true)
    ∧ (∃ (s : State) (u : State) (u1 : State) (port : Nat) (n : Nat) (_part : Nat) (_dist : Nat) (_flags : Nat) (tx : W64) (_echoTx : W64) (_echoRx : W64) (_corr : W64),
      u = passTicks n s
      ∧ rtbServes u = true
      ∧ u.rtb.valid = true
      ∧ port < 32
      ∧ linkUpAt u port = true
      ∧ u1 = { u with rtb := { u.rtb with echo := tset (0, 0) u.rtb.echo port (tx, rtNow u) } })
    ∧ (∃ (s : State) (i : Nat) (_port : Nat) (dist : Nat) (flags : Nat) (tx : W64) (echoTx : W64) (echoRx : W64) (corr : W64) (t4 : W64) (x : TimePort) (theta2 : Int) (delta : Int),
      i < 2
      ∧ x = { timePort s i with dist := dist, peerCorr := corr, usable := flags % 4 == 3 }
      ∧ theta2 = (echoRx - echoTx).toInt + (tx - t4).toInt
      ∧ delta = (t4 - echoTx).toInt - (tx - echoRx).toInt)
    ∧ (∃ (x : TimePort) (_rtt : Nat) (_delta : Int),
      x.first = none)
    ∧ (∃ (s : State) (d : Nat) (sl : Nat) (op : Nat) (m : Nat) (bytes : Nat) (a : W64) (b : W64) (j : Job) (st : Sys2Proof.Machine.Step) (o : ColOp × List Member),
      jobAt s sl = some j
      ∧ j.step = some st
      ∧ opOn j d op = some o
      ∧ j.aborting = false
      ∧ m < colInsts j o.1
      ∧ lateOf s sl d op m = some (a, b, bytes))
    ∧ (∃ (s : State) (u : State) (n : Nat) (v : _) (p : _) (tag : _),
      u = passTicks n s
      ∧ rtbServes u = true
      ∧ u.rtb.holdover = false
      ∧ u.rtb.load = some (v, p, tag))
    ∧ (∃ (s : State) (u : State) (n : Nat),
      u = passTicks n s
      ∧ rtbServes u = true
      ∧ u.rtb.holdover = false
      ∧ u.rtb.load = none
      ∧ u.rtb.firstSync = false)
    ∧ (∃ (s : State) (u : State) (n : Nat),
      u = passTicks n s
      ∧ rtbServes u = true
      ∧ u.rtb.holdover = false
      ∧ u.rtb.load = none
      ∧ u.rtb.firstSync = true
      ∧ u.rtb.syncBad = true)
    ∧ (∃ (s : State) (u : State) (n : Nat) (d : _),
      u = passTicks n s
      ∧ rtbServes u = true
      ∧ u.rtb.holdover = false
      ∧ u.rtb.load = none
      ∧ u.rtb.firstSync = true
      ∧ u.rtb.syncBad = false
      ∧ d = syncOffset u
      ∧ d.natAbs ≤ 1)
    ∧ (∃ (s : State) (u : State) (n : Nat) (d : _),
      u = passTicks n s
      ∧ rtbServes u = true
      ∧ u.rtb.holdover = false
      ∧ u.rtb.load = none
      ∧ u.rtb.firstSync = true
      ∧ u.rtb.syncBad = false
      ∧ d = syncOffset u
      ∧ 1 < d.natAbs
      ∧ (∀ e, u.rtb.unconfirmed = some e → 1 < (d - e).natAbs))
    ∧ (∃ (s : State) (u : State) (n : Nat) (d : _) (e : _),
      u = passTicks n s
      ∧ rtbServes u = true
      ∧ u.rtb.holdover = false
      ∧ u.rtb.load = none
      ∧ u.rtb.firstSync = true
      ∧ u.rtb.syncBad = false
      ∧ d = syncOffset u
      ∧ 1 < d.natAbs
      ∧ u.rtb.unconfirmed = some e
      ∧ (d - e).natAbs ≤ 1)
    ∧ (∃ (s : State) (u : State) (n : Nat),
      u = passTicks n s
      ∧ 0 < n
      ∧ u.rtb.slewRaw ≠ 0
      ∧ u.rtb.slewCorr = 0)
    ∧ (∃ (s : State) (u : State) (n : Nat),
      u = passTicks n s
      ∧ 0 < n
      ∧ u.rtb.slewRaw = 0
      ∧ u.rtb.slewCorr ≠ 0)
    ∧ (∃ (s : State) (u : State) (n : Nat),
      u = passTicks n s
      ∧ 0 < n
      ∧ u.rtb.slewRaw ≠ 0
      ∧ u.rtb.slewCorr ≠ 0)
    ∧ (∃ (s : State) (u : State) (n : Nat),
      u = passTicks n s
      ∧ 0 < n
      ∧ u.rtb.slewRaw = 0
      ∧ u.rtb.slewCorr = 0)
    ∧ (∃ (s : State),
      domOn s 77 = true
      ∧ s.rtb.holdover = false)
    ∧ (∃ (s : State),
      domOn s 77 = true
      ∧ s.rtb.holdover = false
      ∧ s.rtb.syncLost = false)
    ∧ (∃ (s : State) (u : State) (u1 : State) (port : Nat) (n : Nat) (part : Nat) (_dist : Nat) (_flags : Nat) (tx : W64) (_echoTx : W64) (_echoRx : W64) (_corr : W64),
      u = passTicks n s
      ∧ rtbServes u = true
      ∧ u.rtb.valid = true
      ∧ port < 32
      ∧ linkUpAt u port = true
      ∧ u1 = { u with rtb := { u.rtb with echo := tset (0, 0) u.rtb.echo port (tx, rtNow u) } }
      ∧ part ≠ u.fab.partition)
    ∧ (∃ (s : State) (u : State) (u1 : State) (port : Nat) (n : Nat) (part : Nat) (_dist : Nat) (_flags : Nat) (tx : W64) (_echoTx : W64) (_echoRx : W64) (_corr : W64),
      u = passTicks n s
      ∧ rtbServes u = true
      ∧ u.rtb.valid = true
      ∧ port < 32
      ∧ linkUpAt u port = true
      ∧ u1 = { u with rtb := { u.rtb with echo := tset (0, 0) u.rtb.echo port (tx, rtNow u) } }
      ∧ part = u.fab.partition
      ∧ isRoot u = true)
    ∧ (∃ (s : State) (u : State) (u1 : State) (port : Nat) (n : Nat) (part : Nat) (_dist : Nat) (_flags : Nat) (tx : W64) (_echoTx : W64) (_echoRx : W64) (_corr : W64),
      u = passTicks n s
      ∧ rtbServes u = true
      ∧ u.rtb.valid = true
      ∧ port < 32
      ∧ linkUpAt u port = true
      ∧ u1 = { u with rtb := { u.rtb with echo := tset (0, 0) u.rtb.echo port (tx, rtNow u) } }
      ∧ part = u.fab.partition
      ∧ isRoot u = false
      ∧ timePortNo u 0 = some port)
    ∧ (∃ (s : State) (u : State) (u1 : State) (port : Nat) (n : Nat) (part : Nat) (_dist : Nat) (_flags : Nat) (tx : W64) (_echoTx : W64) (_echoRx : W64) (_corr : W64),
      u = passTicks n s
      ∧ rtbServes u = true
      ∧ u.rtb.valid = true
      ∧ port < 32
      ∧ linkUpAt u port = true
      ∧ u1 = { u with rtb := { u.rtb with echo := tset (0, 0) u.rtb.echo port (tx, rtNow u) } }
      ∧ part = u.fab.partition
      ∧ isRoot u = false
      ∧ timePortNo u 0 ≠ some port
      ∧ timePortNo u 1 = some port)
    ∧ (∃ (s : State) (u : State) (u1 : State) (port : Nat) (n : Nat) (part : Nat) (_dist : Nat) (_flags : Nat) (tx : W64) (_echoTx : W64) (_echoRx : W64) (_corr : W64),
      u = passTicks n s
      ∧ rtbServes u = true
      ∧ u.rtb.valid = true
      ∧ port < 32
      ∧ linkUpAt u port = true
      ∧ u1 = { u with rtb := { u.rtb with echo := tset (0, 0) u.rtb.echo port (tx, rtNow u) } }
      ∧ part = u.fab.partition
      ∧ timePortNo u 0 ≠ some port
      ∧ timePortNo u 1 ≠ some port) := by
  refine ⟨⟨rackTimeAndItsPorts5, passTicks 5 rackTimeAndItsPorts5, 5, ?_⟩,
    ⟨{ svc with phase := .shutting, rtb := { svc.rtb with holdover := true } }, 0, ?_⟩,
    ⟨rackTimeAndItsPorts5, passTicks 1 rackTimeAndItsPorts5, 1, ?_⟩,
    ⟨svc, ?_⟩,
    ⟨litAs 31 { pst := .up } rackTimeAndItsPorts5, passTicks 0 (litAs 31 { pst := .up } rackTimeAndItsPorts5),
      31, 0, ?_⟩,
    ⟨litAs 31 { pst := .up } rackTimeAndItsPorts5, passTicks 0 (litAs 31 { pst := .up } rackTimeAndItsPorts5),
      rackTimeAndItsPorts7, 31, 0, 0, 0, 0, 3, 0, 0, 0, ?_⟩,
    ⟨svc, 1, 31, 0, 3, 20, 5, 9, 0, 30, { timePort svc 1 with dist := 0, peerCorr := 0, usable := true },
      (9 - 5 : W64).toInt + (20 - 30 : W64).toInt, (30 - 5 : W64).toInt - (20 - 9 : W64).toInt, ?_⟩,
    ⟨{}, 0, 5, ?_⟩,
    ⟨rackTimeAndItsPorts6, 0, 1, 0, 0, ((lateOf rackTimeAndItsPorts6 1 0 0 0).getD (0, 0, 0)).2.2,
      ((lateOf rackTimeAndItsPorts6 1 0 0 0).getD (0, 0, 0)).1, ((lateOf rackTimeAndItsPorts6 1 0 0 0).getD (0,
      0, 0)).2.1, { colJob 2 with main := some { img0 with col := [(0, { groups := [[⟨0xFFFF, 0, 1⟩, ⟨0xFFFF, 1, 1⟩]], ops := [{ colOp0 2 with wstart := 5, wlen := 3 }], consensus := none })] }, pair := some (0, 12500, 12500) },
      {}, ({ colOp0 2 with wstart := 5, wlen := 3 }, [⟨0xFFFF, 0, 1⟩, ⟨0xFFFF, 1, 1⟩]), ?_⟩,
    ⟨rackTimeAndItsPorts13, passTicks 5 rackTimeAndItsPorts13, 5, 5, 1, 7, ?_⟩,
    ⟨rackTimeAndItsPorts14, passTicks 5 rackTimeAndItsPorts14, 5, ?_⟩,
    ⟨rackTimeAndItsPorts11, passTicks 5 rackTimeAndItsPorts11, 5, ?_⟩,
    ⟨rackTimeAndItsPorts9, passTicks 5 rackTimeAndItsPorts9, 5, 1, ?_⟩,
    ⟨rackTimeAndItsPorts10, passTicks 5 rackTimeAndItsPorts10, 5, 2,by
      refine ⟨rfl, by decide +kernel, by decide +kernel, by decide +kernel, by decide +kernel, by decide +kernel,
      by decide +kernel, by decide,?_⟩
      intro e h
      cases h⟩,
    ⟨rackTimeAndItsPorts8, passTicks 5 rackTimeAndItsPorts8, 5, 524287, 524286, ?_⟩,
    ⟨rackTimeAndItsPorts15, passTicks 1 rackTimeAndItsPorts15, 1, ?_⟩,
    ⟨rackTimeAndItsPorts16, passTicks 1 rackTimeAndItsPorts16, 1, ?_⟩,
    ⟨rackTimeAndItsPorts12, passTicks 1 rackTimeAndItsPorts12, 1, ?_⟩,
    ⟨rackTimeAndItsPorts5, passTicks 1 rackTimeAndItsPorts5, 1, ?_⟩,
    ⟨svc, ?_⟩,
    ⟨svc, ?_⟩,
    ⟨litAs 31 { pst := .up } rackTimeAndItsPorts5, passTicks 0 (litAs 31 { pst := .up } rackTimeAndItsPorts5),
      rackTimeAndItsPorts7, 31, 0, 0xFFE, 0, 0, 3, 0, 0, 0, ?_⟩,
    ⟨rackTimeAndItsPorts4, passTicks 0 rackTimeAndItsPorts4,
      { passTicks 0 rackTimeAndItsPorts4 with rtb := { (passTicks 0 rackTimeAndItsPorts4).rtb with echo := tset (0, 0) (passTicks 0 rackTimeAndItsPorts4).rtb.echo 31 (3, rtNow (passTicks 0 rackTimeAndItsPorts4)) } },
      31, 0, 0xFFF, 0, 0, 3, 0, 0, 0, ?_⟩,
    ⟨rackTimeAndItsPorts2, passTicks 0 rackTimeAndItsPorts2,
      { passTicks 0 rackTimeAndItsPorts2 with rtb := { (passTicks 0 rackTimeAndItsPorts2).rtb with echo := tset (0, 0) (passTicks 0 rackTimeAndItsPorts2).rtb.echo 31 (3, rtNow (passTicks 0 rackTimeAndItsPorts2)) } },
      31, 0, 0xFFF, 0, 0, 3, 0, 0, 0, ?_⟩,
    ⟨rackTimeAndItsPorts3, passTicks 0 rackTimeAndItsPorts3,
      { passTicks 0 rackTimeAndItsPorts3 with rtb := { (passTicks 0 rackTimeAndItsPorts3).rtb with echo := tset (0, 0) (passTicks 0 rackTimeAndItsPorts3).rtb.echo 31 (3, rtNow (passTicks 0 rackTimeAndItsPorts3)) } },
      31, 0, 0xFFF, 0, 0, 3, 0, 0, 0, ?_⟩,
    ⟨rackTimeAndItsPorts1, passTicks 0 rackTimeAndItsPorts1,
      { passTicks 0 rackTimeAndItsPorts1 with rtb := { (passTicks 0 rackTimeAndItsPorts1).rtb with echo := tset (0, 0) (passTicks 0 rackTimeAndItsPorts1).rtb.echo 31 (3, rtNow (passTicks 0 rackTimeAndItsPorts1)) } },
      31, 0, 0xFFF, 0, 0, 3, 0, 0, 0, ?_⟩⟩ <;>
    repeat' (first | with_reducible rfl | (with_reducible refine some_getD1 _ _ ?_) | (with_reducible refine some_getD2 _ _ ?_) | (with_reducible refine mid_false _ ?_) | (with_reducible refine fst_false _ ?_) | refine And.intro ?_ ?_ | decide +kernel | rfl | refine Or.inl ?_ | (rintro _ (rfl | rfl) <;> decide +kernel) | (intros; simp))

abbrev discoveryJudgesPorts1 : State := { svc with fab := { svc.fab with partition := 5, division := [0, 0, 0, 0, 0, 0, 0, 0, 0, 0, 0, 0, 0, 0, 0, 0, 0, 0, 0, 0, 0, 0, 0, 0, 0, 0, 0, 0, 0, 0, 0, 0x41], plan := some { adopt := false, timeRoot := false, sameRack0 := false, sameRack1 := false, chip := 3, minProto := 1, serial := 0, fabricId := 1, globalMin := 0, timePort0 := none, timePort1 := none, nbrs := [{ index := 1, minPorts := 1, chip := 9, serial := 0, remotePort := List.replicate 32 0xFF }], routes := [], digest := [] } } }
abbrev discoveryJudgesPorts2 : State := { litAs 31 { pst := .training } svc with fab := { svc.fab with ports := [(31, { light := true })] } }
abbrev discoveryJudgesPorts3 : State := { litAs 31 { pst := .training } svc with fab := { svc.fab with ports := [(31, { trained := true })] } }
abbrev discoveryJudgesPorts4 : State := { svc with fab := { svc.fab with partition := 5, division := [0, 0, 0, 0, 0, 0, 0, 0, 0, 0, 0, 0, 0, 0, 0, 0, 0, 0, 0, 0, 0, 0, 0, 0, 0, 0, 0, 0, 0, 0, 0, 0x41], plan := none } }
abbrev discoveryJudgesPorts5 : State := { svc with fab := { svc.fab with division := [0, 0, 0, 0, 0, 0, 0, 0, 0, 0, 0, 0, 0, 0, 0, 0, 0, 0, 0, 0, 0, 0, 0, 0, 0, 0, 0, 0, 0, 0, 0, 0x41] } }

/-- Operands and states that meet the hypotheses of `Obligations.DiscoveryJudgesPorts`, clause by clause. -/
theorem meets_DiscoveryJudgesPorts :
    (∃ (s : State) (p : Nat),
      p < ports s
      ∧ linkServes s p = true
      ∧ 4 ≤ ringsLocked s p false)
    ∧ (∃ (s : State) (p : Nat),
      ringsLocked s p false < 4)
    ∧ (∃ (s : State) (p : Nat) (tx : BitVec 10) (rx : BitVec 10) (rtt : W16) (z : Link),
      p < 32
      ∧ linkServes s p = true
      ∧ (lnk s p).pst = .training
      ∧ (port s p).light = true
      ∧ (port s p).trained = false
      ∧ z = { lnk s p with txSet := tx, rxSet := rx, mapTx := mapOf (lnk s p).sparesTx tx, mapRx := mapOf (lnk s p).sparesRx rx, rtt, trainMask := 0 })
    ∧ (∃ (s : State) (p : Nat),
      p < 32
      ∧ linkServes s p = true
      ∧ (port s p).trained = true
      ∧ (lnk s p).pst ≠ .dark)
    ∧ (∃ (s : State) (s1 : State) (p : Nat) (i : FrameIn),
      p < 32
      ∧ linkServes s p = true
      ∧ i.f.typ = 4
      ∧ (port s p).trained = true
      ∧ (lnk s p).pst ≠ .dark
      ∧ rxChecks p i s = (true, s1)
      ∧ leAt i.f.body 0 2 = 1)
    ∧ (∃ (s : State) (p : Nat) (q : Peer) (x : PortRec),
      port s p = x
      ∧ x.judged = none
      ∧ q.refuse = false
      ∧ q.accept = false)
    ∧ (∃ (s : State) (p : Nat),
      p < 32
      ∧ (port s p).out = .quarantined
      ∧ (port s p).trained = true)
    ∧ (∃ (s : State),
      s.fab.disc.running = true)
    ∧ (∃ (s : State) (c : Nat × Nat × Nat),
      s.fab.disc.cmd = some c)
    ∧ (∃ (s : State) (_timeout : Bool),
      s.fab.disc.cmd = none
      ∧ (s.spring.started.contains 11 = false ∨ s.spring.done.contains 11 = true))
    ∧ (∃ (s : State) (p : Nat),
      p < ports s
      ∧ linkServes s p = true
      ∧ 4 ≤ ringsLocked s p false
      ∧ inDivision s p = false)
    ∧ (∃ (s : State) (p : Nat),
      p < ports s
      ∧ linkServes s p = true
      ∧ 4 ≤ ringsLocked s p false
      ∧ inDivision s p = true
      ∧ ((lnk s p).pst = .dark ∨ (lnk s p).pst = .quarantined))
    ∧ (∃ (s : State) (p : Nat),
      p < ports s
      ∧ linkServes s p = true
      ∧ 4 ≤ ringsLocked s p false
      ∧ inDivision s p = true
      ∧ (lnk s p).pst ≠ .dark
      ∧ (lnk s p).pst ≠ .quarantined)
    ∧ (∃ (s : State) (p : Nat) (q : Peer) (x : PortRec),
      port s p = x
      ∧ x.judged = none
      ∧ q.refuse = false
      ∧ q.accept = false
      ∧ q.heard = false)
    ∧ (∃ (s : State) (p : Nat) (q : Peer) (x : PortRec) (k : _),
      port s p = x
      ∧ x.judged = none
      ∧ q.refuse = false
      ∧ q.accept = false
      ∧ q.heard = true
      ∧ judge s p q = .quarantine k)
    ∧ (∃ (s : State) (p : Nat) (q : Peer) (x : PortRec),
      port s p = x
      ∧ x.judged = none
      ∧ q.refuse = false
      ∧ q.accept = false
      ∧ q.heard = true
      ∧ judge s p q = .accept)
    ∧ (∃ (s : State) (p : Nat) (q : Peer) (x : PortRec) (n : _),
      port s p = x
      ∧ x.judged = none
      ∧ q.refuse = false
      ∧ q.accept = false
      ∧ q.heard = true
      ∧ judge s p q = .remap n)
    ∧ (∃ (s : State) (p : Nat) (q : Peer) (x : PortRec),
      port s p = x
      ∧ x.judged = none
      ∧ q.refuse = false
      ∧ q.accept = false
      ∧ q.heard = true
      ∧ judge s p q = .noPlan)
    ∧ (∃ (s : State) (_p : Nat) (q : Peer),
      q.serial = s.flash.serial)
    ∧ (∃ (s : State) (_p : Nat) (q : Peer),
      q.serial ≠ s.flash.serial
      ∧ (s.fab.partition = 0xFFF ∨ q.partition ≠ s.fab.partition))
    ∧ (∃ (s : State) (_p : Nat) (q : Peer),
      q.serial ≠ s.flash.serial
      ∧ s.fab.partition ≠ 0xFFF
      ∧ q.partition = s.fab.partition
      ∧ s.fab.plan = none)
    ∧ (∃ (s : State) (_p : Nat) (q : Peer) (pl : _),
      q.serial ≠ s.flash.serial
      ∧ s.fab.partition ≠ 0xFFF
      ∧ q.partition = s.fab.partition
      ∧ s.fab.plan = some pl) := by
  refine ⟨⟨fourRings svc, 31, ?_⟩,
    ⟨svc, 31, ?_⟩,
    ⟨discoveryJudgesPorts2, 31, 0x3FF, 0x3FF, 7, { lnk discoveryJudgesPorts2 31 with txSet := 0x3FF, rxSet := 0x3FF, mapTx := mapOf (lnk discoveryJudgesPorts2 31).sparesTx 0x3FF, mapRx := mapOf (lnk discoveryJudgesPorts2 31).sparesRx 0x3FF, rtt := 7, trainMask := 0 },
      ?_⟩,
    ⟨discoveryJudgesPorts3, 31, ?_⟩,
    ⟨discoveryJudgesPorts3, (rxChecks 31 { f := { typ := 4, body := [1, 0] }, fail := 0 } discoveryJudgesPorts3).2,
      31, { f := { typ := 4, body := [1, 0] }, fail := 0 }, ?_⟩,
    ⟨svc, 31, { port := 0, variant := 0, chip := 0, partition := 0, serial := 0, fw := 0, protoMin := 1, protoMax := 1, fabricId := 0, heard := true, accept := false, refuse := false, noPlan := false },
      {}, ?_⟩,
    ⟨{ litAs 31 { pst := .quarantined } svc with fab := { svc.fab with ports := [(31, { out := .quarantined, trained := true })] } },
      31, ?_⟩,
    ⟨{ svc with fab := { svc.fab with disc := { running := true } } }, ?_⟩,
    ⟨{ svc with fab := { svc.fab with disc := { running := true, cmd := some (0, 0, 0) } } }, (0, 0, 0), ?_⟩,
    ⟨springing [1] [1], true, ?_⟩,
    ⟨fourRings svc, 31, ?_⟩,
    ⟨litAs 31 { pst := .dark } (fourRings discoveryJudgesPorts5), 31, ?_⟩,
    ⟨litAs 31 { pst := .up } (fourRings discoveryJudgesPorts5), 31, ?_⟩,
    ⟨svc, 31, { port := 0, variant := 0, chip := 9, partition := 5, serial := 7, fw := 0, protoMin := 1, protoMax := 1, fabricId := 1, heard := false, accept := false, refuse := false, noPlan := false },
      {}, ?_⟩,
    ⟨svc, 31, { port := 0, variant := 0, chip := 9, partition := 5, serial := 0, fw := 0, protoMin := 1, protoMax := 1, fabricId := 1, heard := true, accept := false, refuse := false, noPlan := false },
      {}, 5, ?_⟩,
    ⟨discoveryJudgesPorts1, 31, { port := 0, variant := 0, chip := 9, partition := 5, serial := 7, fw := 0, protoMin := 1, protoMax := 1, fabricId := 1, heard := true, accept := false, refuse := false, noPlan := false },
      {}, ?_⟩,
    ⟨{ svc with fab := { svc.fab with partition := 5, division := [0, 0, 0, 0, 0, 0, 0, 0, 0, 0, 0, 0, 0, 0, 0, 0, 0, 0, 0, 0, 0, 0, 0, 0, 0, 0, 0, 0, 0, 0, 0, 0x42], plan := some { adopt := true, timeRoot := false, sameRack0 := false, sameRack1 := false, chip := 3, minProto := 1, serial := 0, fabricId := 1, globalMin := 0, timePort0 := none, timePort1 := none, nbrs := [{ index := 1, minPorts := 1, chip := 9, serial := 0, remotePort := List.replicate 32 0xFF }], routes := [], digest := [] } } },
      31, { port := 0, variant := 0, chip := 9, partition := 5, serial := 7, fw := 0, protoMin := 1, protoMax := 1, fabricId := 1, heard := true, accept := false, refuse := false, noPlan := false },
      {}, 1, ?_⟩,
    ⟨discoveryJudgesPorts4, 31, { port := 0, variant := 0, chip := 9, partition := 5, serial := 7, fw := 0, protoMin := 1, protoMax := 1, fabricId := 1, heard := true, accept := false, refuse := false, noPlan := false },
      {}, ?_⟩,
    ⟨svc, 31, { port := 0, variant := 0, chip := 9, partition := 5, serial := 0, fw := 0, protoMin := 1, protoMax := 1, fabricId := 1, heard := true, accept := false, refuse := false, noPlan := false },
      ?_⟩,
    ⟨svc, 31, { port := 0, variant := 0, chip := 9, partition := 5, serial := 7, fw := 0, protoMin := 1, protoMax := 1, fabricId := 1, heard := true, accept := false, refuse := false, noPlan := false },
      ?_⟩,
    ⟨discoveryJudgesPorts4, 31, { port := 0, variant := 0, chip := 9, partition := 5, serial := 7, fw := 0, protoMin := 1, protoMax := 1, fabricId := 1, heard := true, accept := false, refuse := false, noPlan := false },
      ?_⟩,
    ⟨discoveryJudgesPorts1, 31, { port := 0, variant := 0, chip := 9, partition := 5, serial := 7, fw := 0, protoMin := 1, protoMax := 1, fabricId := 1, heard := true, accept := false, refuse := false, noPlan := false },
      { adopt := false, timeRoot := false, sameRack0 := false, sameRack1 := false, chip := 3, minProto := 1, serial := 0, fabricId := 1, globalMin := 0, timePort0 := none, timePort1 := none, nbrs := [{ index := 1, minPorts := 1, chip := 9, serial := 0, remotePort := List.replicate 32 0xFF }], routes := [], digest := [] },
      ?_⟩⟩ <;>
    repeat' (first | with_reducible rfl | (with_reducible refine some_getD1 _ _ ?_) | (with_reducible refine some_getD2 _ _ ?_) | (with_reducible refine mid_false _ ?_) | (with_reducible refine fst_false _ ?_) | refine And.intro ?_ ?_ | decide +kernel | rfl | refine Or.inl ?_ | (rintro _ (rfl | rfl) <;> decide +kernel) | (intros; simp))

abbrev packetsAreServedAnsweredAndForwarded1 : State := { svc with fab := { svc.fab with txns := [{ tag := 9, who := .dma 7 47 1 1, dst := 5, port := none, into := none, bytes := 64, issued := 0 }] } }
abbrev packetsAreServedAnsweredAndForwarded2 : State := inboxed [{ rx0 1 with pkt := { pkt0 1 with dst := 5, hops := 2 } }] (litAs 31 { pst := .up } { svc with fab := { svc.fab with plan := some { adopt := false, timeRoot := false, sameRack0 := false, sameRack1 := false, chip := 3, minProto := 1, serial := 0, fabricId := 1, globalMin := 0, timePort0 := none, timePort1 := none, nbrs := [], routes := [], digest := [] }, ports := [(31, { out := .accepted, peerChip := 5, opened := true, judged := some true })] } })
abbrev packetsAreServedAnsweredAndForwarded3 : State := { svc with fab := { svc.fab with txns := [{ tag := 9, who := .pull 0 1 7, dst := 5, port := none, into := none, bytes := 64, issued := 0 }] } }
abbrev packetsAreServedAnsweredAndForwarded4 : State := inboxed [{ rx0 1 with pkt := { pkt0 1 with payload := List.replicate 64 7 } }] (paged 0x200000 1 0 svc)
abbrev packetsAreServedAnsweredAndForwarded5 : State := inboxed [{ rx0 1 with pkt := { pkt0 1 with payload := List.replicate 64 7 } }] (svc)
abbrev packetsAreServedAnsweredAndForwarded6 : State := inboxed [{ rx0 5 with pkt := { pkt0 5 with aux2 := 0xFF0007FF } }] { svc with sec := { svc.sec with bindA := some 0 }, doms := tset {} svc.doms 62 { st := .off } }
abbrev packetsAreServedAnsweredAndForwarded7 : State := inboxed [{ rx0 5 with pkt := { pkt0 5 with aux2 := 0xFF0007FF } }] { svc with sec := { svc.sec with bindA := some 0 } }
abbrev packetsAreServedAnsweredAndForwarded8 : State := inboxed [{ rx0 5 with pkt := { pkt0 5 with aux2 := 0xFF0007FF } }] { svc with sec := { svc.sec with bindA := some 1 } }
abbrev packetsAreServedAnsweredAndForwarded9 : State := inboxed [{ rx0 1 with pkt := { pkt0 1 with dst := 5, hops := 2 } }] (svc)
abbrev packetsAreServedAnsweredAndForwarded10 : State := inboxed [{ rx0 1 with pkt := { pkt0 1 with dst := 5, hops := 1 } }] (svc)

/-- Operands and states that meet the hypotheses of `Obligations.PacketsAreServedAnsweredAndForwarded`, clause by clause. -/
theorem meets_PacketsAreServedAnsweredAndForwarded :
    (∃ (s : State) (_u : State) (l : Nat) (q : RxPkt),
      PktAt 1 l q s
      ∧ dfbGrants s q.pkt.offset = true)
    ∧ (∃ (s : State) (_u : State) (l : Nat) (q : RxPkt) (_errs : List (Nat × Nat)),
      PktAt 3 l q s
      ∧ dfbGrants s q.pkt.offset = true)
    ∧ (∃ (s : State) (l : Nat) (q : RxPkt),
      inFirst s l = some q
      ∧ q.pkt.kind = 1
      ∧ isOwn s q.pkt.dst = true
      ∧ q.opened = false)
    ∧ (∃ (s : State) (l : Nat) (d : Nat) (c : Nat) (sl : Nat) (qn : Nat) (q : RxPkt) (x : Txn),
      q.opened = true
      ∧ inFirst s l = some q
      ∧ isOwn s q.pkt.dst = true
      ∧ txnOf (inPop q s) q.pkt.tag = some x
      ∧ x.who = .dma d c sl qn)
    ∧ (∃ (s : State) (l : Nat) (p : Nat) (r : Nat) (no : Nat) (q : RxPkt) (x : Txn),
      q.opened = true
      ∧ inFirst s l = some q
      ∧ isOwn s q.pkt.dst = true
      ∧ txnOf (inPop q s) q.pkt.tag = some x
      ∧ x.who = .pull p r no)
    ∧ (∃ (s : State) (l : Nat) (q : RxPkt),
      inFirst s l = some q
      ∧ isOwn s q.pkt.dst = true
      ∧ txnOf (inPop q s) q.pkt.tag = none
      ∧ q.opened = true)
    ∧ (∃ (s : State) (_u : State) (l : Nat) (q : RxPkt) (g : Sig) (w : Nat),
      PktAt 5 l q s
      ∧ w = q.pkt.aux2.toNat % 2 ^ 32
      ∧ g = { slot := q.pkt.slot, die := if w.testBit 31 = true then w / 2 ^ 28 % 8 else q.pkt.die, entry := w % 2048, amount := w / 2 ^ 24 % 16 + 1, step := q.pkt.step, fill := false, src := (3, 0, 0) })
    ∧ (∃ (s : State) (_u : State) (l : Nat) (q : RxPkt) (_port : Option Nat),
      inFirst s l = some q
      ∧ isOwn s q.pkt.dst = false
      ∧ q.opened = true)
    ∧ (∃ (s : State) (tag : W32) (x : Txn),
      txnOf s tag = some x
      ∧ x.port = none)
    ∧ (∃ (s : State) (tag : W32) (x : Txn) (l : Nat),
      txnOf s tag = some x
      ∧ x.port = some l
      ∧ carries s l x = true
      ∧ (∀ op sl d m, x.who ≠ .col d sl op m)
      ∧ (∀ p r no, x.who ≠ .pull p r no)
      ∧ (∀ d c sl qn, x.who = .dma d c sl qn → dmaHead s d c sl qn = none))
    ∧ (∃ (s : State) (u : State) (l : Nat) (q : RxPkt),
      PktAt 1 l q s
      ∧ dfbGrants s q.pkt.offset = true
      ∧ targetWrite (packetSrc s q) q.realm q.pkt.offset q.pkt.payload (inPop q s) = (.ack, u))
    ∧ (∃ (s : State) (u : State) (l : Nat) (q : RxPkt) (k : _),
      PktAt 1 l q s
      ∧ dfbGrants s q.pkt.offset = true
      ∧ targetWrite (packetSrc s q) q.realm q.pkt.offset q.pkt.payload (inPop q s) = (.nack k, u))
    ∧ (∃ (s : State) (u : State) (l : Nat) (q : RxPkt) (errs : List (Nat × Nat)) (b : _) (p : _),
      PktAt 3 l q s
      ∧ dfbGrants s q.pkt.offset = true
      ∧ targetRead (packetSrc s q) q.realm q.pkt.offset q.pkt.len (applyErrs errs (inPop q s)) = (.data b p, u))
    ∧ (∃ (s : State) (u : State) (l : Nat) (q : RxPkt) (errs : List (Nat × Nat)) (k : _),
      PktAt 3 l q s
      ∧ dfbGrants s q.pkt.offset = true
      ∧ targetRead (packetSrc s q) q.realm q.pkt.offset q.pkt.len (applyErrs errs (inPop q s)) = (.nack k, u))
    ∧ (∃ (s : State) (l : Nat) (d : Nat) (c : Nat) (sl : Nat) (qn : Nat) (q : RxPkt) (x : Txn),
      q.opened = true
      ∧ inFirst s l = some q
      ∧ isOwn s q.pkt.dst = true
      ∧ txnOf (inPop q s) q.pkt.tag = some x
      ∧ x.who = .dma d c sl qn
      ∧ q.pkt.kind = 2)
    ∧ (∃ (s : State) (l : Nat) (d : Nat) (c : Nat) (sl : Nat) (qn : Nat) (q : RxPkt) (x : Txn),
      q.opened = true
      ∧ inFirst s l = some q
      ∧ isOwn s q.pkt.dst = true
      ∧ txnOf (inPop q s) q.pkt.tag = some x
      ∧ x.who = .dma d c sl qn
      ∧ q.pkt.kind = 4)
    ∧ (∃ (s : State) (l : Nat) (d : Nat) (c : Nat) (sl : Nat) (qn : Nat) (q : RxPkt) (x : Txn),
      q.opened = true
      ∧ inFirst s l = some q
      ∧ isOwn s q.pkt.dst = true
      ∧ txnOf (inPop q s) q.pkt.tag = some x
      ∧ x.who = .dma d c sl qn
      ∧ q.pkt.kind = 7
      ∧ (dmaHead (txnEnd x (inPop q s)) d c sl qn).isSome = true)
    ∧ (∃ (s : State) (l : Nat) (d : Nat) (c : Nat) (sl : Nat) (qn : Nat) (q : RxPkt) (x : Txn),
      q.opened = true
      ∧ inFirst s l = some q
      ∧ isOwn s q.pkt.dst = true
      ∧ txnOf (inPop q s) q.pkt.tag = some x
      ∧ x.who = .dma d c sl qn
      ∧ q.pkt.kind = 7
      ∧ dmaHead (txnEnd x (inPop q s)) d c sl qn = none)
    ∧ (∃ (s : State) (l : Nat) (p : Nat) (r : Nat) (no : Nat) (q : RxPkt) (x : Txn),
      q.opened = true
      ∧ inFirst s l = some q
      ∧ isOwn s q.pkt.dst = true
      ∧ txnOf (inPop q s) q.pkt.tag = some x
      ∧ x.who = .pull p r no
      ∧ q.pkt.kind = 2)
    ∧ (∃ (s : State) (l : Nat) (p : Nat) (r : Nat) (no : Nat) (q : RxPkt) (x : Txn),
      q.opened = true
      ∧ inFirst s l = some q
      ∧ isOwn s q.pkt.dst = true
      ∧ txnOf (inPop q s) q.pkt.tag = some x
      ∧ x.who = .pull p r no
      ∧ q.pkt.kind = 4)
    ∧ (∃ (s : State) (l : Nat) (p : Nat) (r : Nat) (no : Nat) (q : RxPkt) (x : Txn) (y : _),
      q.opened = true
      ∧ inFirst s l = some q
      ∧ isOwn s q.pkt.dst = true
      ∧ txnOf (inPop q s) q.pkt.tag = some x
      ∧ x.who = .pull p r no
      ∧ q.pkt.kind = 7
      ∧ pullOf s p r no = some y)
    ∧ (∃ (s : State) (l : Nat) (q : RxPkt),
      inFirst s l = some q
      ∧ isOwn s q.pkt.dst = true
      ∧ txnOf (inPop q s) q.pkt.tag = none
      ∧ q.opened = true
      ∧ q.pkt.kind = 2)
    ∧ (∃ (s : State) (l : Nat) (q : RxPkt),
      inFirst s l = some q
      ∧ isOwn s q.pkt.dst = true
      ∧ txnOf (inPop q s) q.pkt.tag = none
      ∧ q.opened = true
      ∧ q.pkt.kind = 7)
    ∧ (∃ (s : State) (u : State) (l : Nat) (q : RxPkt) (g : Sig) (w : Nat),
      PktAt 5 l q s
      ∧ w = q.pkt.aux2.toNat % 2 ^ 32
      ∧ g = { slot := q.pkt.slot, die := if w.testBit 31 = true then w / 2 ^ 28 % 8 else q.pkt.die, entry := w % 2048, amount := w / 2 ^ 24 % 16 + 1, step := q.pkt.step, fill := false, src := (3, 0, 0) }
      ∧ bindOf s q.pkt.slot = some q.realm
      ∧ sigTake g s = some u)
    ∧ (∃ (s : State) (_u : State) (l : Nat) (q : RxPkt) (g : Sig) (w : Nat),
      PktAt 5 l q s
      ∧ w = q.pkt.aux2.toNat % 2 ^ 32
      ∧ g = { slot := q.pkt.slot, die := if w.testBit 31 = true then w / 2 ^ 28 % 8 else q.pkt.die, entry := w % 2048, amount := w / 2 ^ 24 % 16 + 1, step := q.pkt.step, fill := false, src := (3, 0, 0) }
      ∧ bindOf s q.pkt.slot = some q.realm
      ∧ sigTake g s = none)
    ∧ (∃ (s : State) (_u : State) (l : Nat) (q : RxPkt) (g : Sig) (w : Nat),
      PktAt 5 l q s
      ∧ w = q.pkt.aux2.toNat % 2 ^ 32
      ∧ g = { slot := q.pkt.slot, die := if w.testBit 31 = true then w / 2 ^ 28 % 8 else q.pkt.die, entry := w % 2048, amount := w / 2 ^ 24 % 16 + 1, step := q.pkt.step, fill := false, src := (3, 0, 0) }
      ∧ bindOf s q.pkt.slot ≠ some q.realm)
    ∧ (∃ (s : State) (u : State) (l : Nat) (q : RxPkt) (port : Option Nat),
      inFirst s l = some q
      ∧ isOwn s q.pkt.dst = false
      ∧ q.opened = true
      ∧ 2 ≤ q.pkt.hops
      ∧ sendPacket { q.pkt with hops := q.pkt.hops - 1 } q.realm q.red q.nf (inPop q s) = some (port, u))
    ∧ (∃ (s : State) (_u : State) (l : Nat) (q : RxPkt) (_port : Option Nat),
      inFirst s l = some q
      ∧ isOwn s q.pkt.dst = false
      ∧ q.opened = true
      ∧ 2 ≤ q.pkt.hops
      ∧ sendPacket { q.pkt with hops := q.pkt.hops - 1 } q.realm q.red q.nf (inPop q s) = none)
    ∧ (∃ (s : State) (_u : State) (l : Nat) (q : RxPkt) (_port : Option Nat),
      inFirst s l = some q
      ∧ isOwn s q.pkt.dst = false
      ∧ q.opened = true
      ∧ q.pkt.hops ≤ 1) := by
  refine ⟨⟨inboxed [rx0 1] svc, svc, 31, rx0 1, ?_⟩,
    ⟨inboxed [rx0 3] svc, svc, 31, rx0 3, [], ?_⟩,
    ⟨inboxed [{ rx0 1 with opened := false }] svc, 31, { rx0 1 with opened := false }, ?_⟩,
    ⟨inboxed [rx0 2] packetsAreServedAnsweredAndForwarded1, 31, 7, 47, 1, 1, rx0 2, { tag := 9, who := .dma 7 47 1 1, dst := 5, port := none, into := none, bytes := 64, issued := 0 },
      ?_⟩,
    ⟨inboxed [rx0 2] packetsAreServedAnsweredAndForwarded3, 31, 0, 1, 7, rx0 2, { tag := 9, who := .pull 0 1 7, dst := 5, port := none, into := none, bytes := 64, issued := 0 },
      ?_⟩,
    ⟨inboxed [rx0 2] svc, 31, rx0 2, ?_⟩,
    ⟨inboxed [{ rx0 5 with pkt := { pkt0 5 with aux2 := 0xFF0007FF } }] svc, svc, 31,
      { rx0 5 with pkt := { pkt0 5 with aux2 := 0xFF0007FF } }, { slot := 0, die := 7, entry := 2047, amount := 16, step := 0, fill := false, src := (3, 0, 0) },
      0xFF0007FF, ?_⟩,
    ⟨inboxed [{ rx0 1 with pkt := { pkt0 1 with dst := 5 } }] svc, svc, 31,
      { rx0 1 with pkt := { pkt0 1 with dst := 5 } }, some 31, ?_⟩,
    ⟨packetsAreServedAnsweredAndForwarded1, 9, { tag := 9, who := .dma 7 47 1 1, dst := 5, port := none, into := none, bytes := 64, issued := 0 },
      ?_⟩,
    ⟨litAs 31 { pst := .up, unacked := [({ typ := 1, packets := [{ pkt0 1 with src := 0xFFFF }] }, 0)] } ({ svc with fab := { svc.fab with txns := [{ tag := 9, who := .dma 7 47 1 1, dst := 5, port := some 31, into := none, bytes := 64, issued := 0 }] } }),
      9, { tag := 9, who := .dma 7 47 1 1, dst := 5, port := some 31, into := none, bytes := 64, issued := 0 },
      31,by
      refine ⟨by decide +kernel, rfl, by decide +kernel, by intros; simp, by intros; simp,?_⟩
      intro d c sl qn h
      cases h
      decide +kernel⟩,
    ⟨packetsAreServedAnsweredAndForwarded4,
      (targetWrite (packetSrc packetsAreServedAnsweredAndForwarded4 ({ rx0 1 with pkt := { pkt0 1 with payload := List.replicate 64 7 } })) 0 0x3FFFC0 (List.replicate 64 7) (inPop ({ rx0 1 with pkt := { pkt0 1 with payload := List.replicate 64 7 } }) packetsAreServedAnsweredAndForwarded4)).2,
      31, { rx0 1 with pkt := { pkt0 1 with payload := List.replicate 64 7 } },by
      refine ⟨⟨rfl, rfl, rfl, rfl⟩, by decide +kernel, Prod.ext (by decide +kernel) rfl⟩⟩,
    ⟨packetsAreServedAnsweredAndForwarded5,
      (targetWrite (packetSrc packetsAreServedAnsweredAndForwarded5 ({ rx0 1 with pkt := { pkt0 1 with payload := List.replicate 64 7 } })) 0 0x3FFFC0 (List.replicate 64 7) (inPop ({ rx0 1 with pkt := { pkt0 1 with payload := List.replicate 64 7 } }) packetsAreServedAnsweredAndForwarded5)).2,
      31, { rx0 1 with pkt := { pkt0 1 with payload := List.replicate 64 7 } }, 3,by
      refine ⟨⟨rfl, rfl, rfl, rfl⟩, by decide +kernel, Prod.ext (by decide +kernel) rfl⟩⟩,
    ⟨inboxed [rx0 3] (paged 0x200000 1 0 svc),
      (memRead 0 0x3FFFC0 64 (applyErrs [] (inPop (rx0 3) (inboxed [rx0 3] (paged 0x200000 1 0 svc))))).2.2, 31,
      rx0 3, [],
      (memRead 0 0x3FFFC0 64 (applyErrs [] (inPop (rx0 3) (inboxed [rx0 3] (paged 0x200000 1 0 svc))))).1,
      (memRead 0 0x3FFFC0 64 (applyErrs [] (inPop (rx0 3) (inboxed [rx0 3] (paged 0x200000 1 0 svc))))).2.1,by
      refine ⟨⟨rfl, rfl, rfl, rfl⟩, by decide +kernel, Prod.ext rfl rfl⟩⟩,
    ⟨inboxed [rx0 3] (svc),
      (targetRead (packetSrc (inboxed [rx0 3] (svc)) (rx0 3)) 0 0x3FFFC0 64 (applyErrs [] (inPop (rx0 3) (inboxed [rx0 3] (svc))))).2,
      31, rx0 3, [], 3,by
      refine ⟨⟨rfl, rfl, rfl, rfl⟩, by decide +kernel, Prod.ext (by decide +kernel) rfl⟩⟩,
    ⟨inboxed [rx0 2] packetsAreServedAnsweredAndForwarded1, 31, 7, 47, 1, 1, rx0 2, { tag := 9, who := .dma 7 47 1 1, dst := 5, port := none, into := none, bytes := 64, issued := 0 },
      ?_⟩,
    ⟨inboxed [rx0 4] packetsAreServedAnsweredAndForwarded1, 31, 7, 47, 1, 1, rx0 4, { tag := 9, who := .dma 7 47 1 1, dst := 5, port := none, into := none, bytes := 64, issued := 0 },
      ?_⟩,
    ⟨inboxed [rx0 7] { packetsAreServedAnsweredAndForwarded1 with cmp := { dma := [(ctxKey 7 47 1, { q1 := [{ xfer0 with running := true }] })] } },
      31, 7, 47, 1, 1, rx0 7, { tag := 9, who := .dma 7 47 1 1, dst := 5, port := none, into := none, bytes := 64, issued := 0 },
      ?_⟩,
    ⟨inboxed [rx0 7] packetsAreServedAnsweredAndForwarded1, 31, 7, 47, 1, 1, rx0 7, { tag := 9, who := .dma 7 47 1 1, dst := 5, port := none, into := none, bytes := 64, issued := 0 },
      ?_⟩,
    ⟨inboxed [rx0 2] packetsAreServedAnsweredAndForwarded3, 31, 0, 1, 7, rx0 2, { tag := 9, who := .pull 0 1 7, dst := 5, port := none, into := none, bytes := 64, issued := 0 },
      ?_⟩,
    ⟨inboxed [rx0 4] packetsAreServedAnsweredAndForwarded3, 31, 0, 1, 7, rx0 4, { tag := 9, who := .pull 0 1 7, dst := 5, port := none, into := none, bytes := 64, issued := 0 },
      ?_⟩,
    ⟨inboxed [rx0 7] ({ svc with fab := { svc.fab with txns := [{ tag := 9, who := .pull 0 1 7, dst := 5, port := none, into := none, bytes := 64, issued := 0 }], pulls := [{ port := 0, ring := 1, no := 7, slot := 0, chip := 5, base := 0 }] } }),
      31, 0, 1, 7, rx0 7, { tag := 9, who := .pull 0 1 7, dst := 5, port := none, into := none, bytes := 64, issued := 0 },
      { port := 0, ring := 1, no := 7, slot := 0, chip := 5, base := 0 }, ?_⟩,
    ⟨inboxed [rx0 2] svc, 31, rx0 2, ?_⟩,
    ⟨inboxed [rx0 7] svc, 31, rx0 7, ?_⟩,
    ⟨packetsAreServedAnsweredAndForwarded7, (sigTake { slot := 0, die := 7, entry := 2047, amount := 16, step := 0, fill := false, src := (3, 0, 0) } packetsAreServedAnsweredAndForwarded7).getD svc,
      31, { rx0 5 with pkt := { pkt0 5 with aux2 := 0xFF0007FF } }, { slot := 0, die := 7, entry := 2047, amount := 16, step := 0, fill := false, src := (3, 0, 0) },
      0xFF0007FF, ?_⟩,
    ⟨packetsAreServedAnsweredAndForwarded6, (sigTake { slot := 0, die := 7, entry := 2047, amount := 16, step := 0, fill := false, src := (3, 0, 0) } packetsAreServedAnsweredAndForwarded6).getD svc,
      31, { rx0 5 with pkt := { pkt0 5 with aux2 := 0xFF0007FF } }, { slot := 0, die := 7, entry := 2047, amount := 16, step := 0, fill := false, src := (3, 0, 0) },
      0xFF0007FF, ?_⟩,
    ⟨packetsAreServedAnsweredAndForwarded8, (sigTake { slot := 0, die := 7, entry := 2047, amount := 16, step := 0, fill := false, src := (3, 0, 0) } packetsAreServedAnsweredAndForwarded8).getD svc,
      31, { rx0 5 with pkt := { pkt0 5 with aux2 := 0xFF0007FF } }, { slot := 0, die := 7, entry := 2047, amount := 16, step := 0, fill := false, src := (3, 0, 0) },
      0xFF0007FF, ?_⟩,
    ⟨packetsAreServedAnsweredAndForwarded2, ((sendPacket { ({ pkt0 1 with dst := 5, hops := 2 } : Packet) with hops := 1 } 0 false false (inPop { rx0 1 with pkt := { pkt0 1 with dst := 5, hops := 2 } } packetsAreServedAnsweredAndForwarded2)).getD (none,
      svc)).2, 31, { rx0 1 with pkt := { pkt0 1 with dst := 5, hops := 2 } }, some 31, ?_⟩,
    ⟨packetsAreServedAnsweredAndForwarded9, ((sendPacket { ({ pkt0 1 with dst := 5, hops := 2 } : Packet) with hops := 1 } 0 false false (inPop { rx0 1 with pkt := { pkt0 1 with dst := 5, hops := 2 } } packetsAreServedAnsweredAndForwarded9)).getD (none,
      svc)).2, 31, { rx0 1 with pkt := { pkt0 1 with dst := 5, hops := 2 } }, none, ?_⟩,
    ⟨packetsAreServedAnsweredAndForwarded10, ((sendPacket { ({ pkt0 1 with dst := 5, hops := 1 } : Packet) with hops := 0 } 0 false false (inPop { rx0 1 with pkt := { pkt0 1 with dst := 5, hops := 1 } } packetsAreServedAnsweredAndForwarded10)).getD (none,
      svc)).2, 31, { rx0 1 with pkt := { pkt0 1 with dst := 5, hops := 1 } }, none, ?_⟩⟩ <;>
    repeat' (first | with_reducible rfl | (with_reducible refine some_getD1 _ _ ?_) | (with_reducible refine some_getD2 _ _ ?_) | (with_reducible refine mid_false _ ?_) | (with_reducible refine fst_false _ ?_) | refine And.intro ?_ ?_ | decide +kernel | rfl | refine Or.inl ?_ | (rintro _ (rfl | rfl) <;> decide +kernel) | (intros; simp))

abbrev collectivePacketsJoinTheirInstances1 : State := inboxed [rx0 6] ({ svc with sec := { svc.sec with bindA := some 0 } })
abbrev collectivePacketsJoinTheirInstances2 : State := inboxed [rx0 8] ({ svc with sec := { svc.sec with bindA := some 0 } })
abbrev collectivePacketsJoinTheirInstances3 : State := inboxed [rx0 9] ({ svc with sec := { svc.sec with bindA := some 0 } })

/-- Operands and states that meet the hypotheses of `Obligations.CollectivePacketsJoinTheirInstances`, clause by clause. -/
theorem meets_CollectivePacketsJoinTheirInstances :
    (∃ (s : State) (_l : Nat) (q : RxPkt) (_errs : List (Nat × Nat)) (_u : State),
      colWorks s q.pkt.die = true
      ∧ bindOf s q.pkt.slot = some q.realm)
    ∧ (∃ (s : State) (_l : Nat) (q : RxPkt),
      colWorks s q.pkt.die = true
      ∧ bindOf s q.pkt.slot ≠ some q.realm)
    ∧ (∃ (s : State) (q : RxPkt) (j : Job),
      jobAt s q.pkt.slot = some j)
    ∧ (∃ (s : State) (l : Nat) (q : RxPkt) (errs : List (Nat × Nat)) (u : State),
      colWorks s q.pkt.die = true
      ∧ bindOf s q.pkt.slot = some q.realm
      ∧ PktAt 6 l q s
      ∧ u = colTake q (applyErrs errs (inPop q s)))
    ∧ (∃ (s : State) (l : Nat) (q : RxPkt) (_errs : List (Nat × Nat)) (_u : State),
      colWorks s q.pkt.die = true
      ∧ bindOf s q.pkt.slot = some q.realm
      ∧ PktAt 8 l q s)
    ∧ (∃ (s : State) (l : Nat) (q : RxPkt) (_errs : List (Nat × Nat)) (_u : State),
      colWorks s q.pkt.die = true
      ∧ bindOf s q.pkt.slot = some q.realm
      ∧ PktAt 9 l q s)
    ∧ (∃ (s : State) (l : Nat) (q : RxPkt),
      colWorks s q.pkt.die = true
      ∧ bindOf s q.pkt.slot ≠ some q.realm
      ∧ PktAt 6 l q s)
    ∧ (∃ (s : State) (l : Nat) (q : RxPkt),
      colWorks s q.pkt.die = true
      ∧ bindOf s q.pkt.slot ≠ some q.realm
      ∧ PktAt 8 l q s)
    ∧ (∃ (s : State) (l : Nat) (q : RxPkt),
      colWorks s q.pkt.die = true
      ∧ bindOf s q.pkt.slot ≠ some q.realm
      ∧ PktAt 9 l q s)
    ∧ (∃ (s : State) (q : RxPkt) (j : Job),
      jobAt s q.pkt.slot = some j
      ∧ (j.sigDrop = true ∨ j.aborting = true))
    ∧ (∃ (s : State) (q : RxPkt) (j : Job),
      jobAt s q.pkt.slot = some j
      ∧ j.sigDrop = false
      ∧ j.aborting = false
      ∧ q.pkt.step = BitVec.ofNat 8 ((curStep s q.pkt.slot).toNat + 1))
    ∧ (∃ (s : State) (q : RxPkt) (j : Job),
      jobAt s q.pkt.slot = some j
      ∧ j.sigDrop = false
      ∧ j.aborting = false
      ∧ q.pkt.step ≠ BitVec.ofNat 8 (curStep s q.pkt.slot).toNat
      ∧ q.pkt.step ≠ BitVec.ofNat 8 ((curStep s q.pkt.slot).toNat + 1))
    ∧ (∃ (s : State) (q : RxPkt) (j : Job) (st : _),
      jobAt s q.pkt.slot = some j
      ∧ j.sigDrop = false
      ∧ j.aborting = false
      ∧ j.step = some st
      ∧ q.pkt.step = BitVec.ofNat 8 st.num.toNat) := by
  refine ⟨⟨{ svc with sec := { svc.sec with bindA := some 0 } }, 31, rx0 6, [], svc, ?_⟩,
    ⟨{ svc with sec := { svc.sec with bindA := some 1 } }, 31, rx0 6, ?_⟩,
    ⟨svcJ (jobRun [task0] {}), rx0 6, jobRun [task0] {}, ?_⟩,
    ⟨collectivePacketsJoinTheirInstances1, 31, rx0 6, [],
      colTake (rx0 6) (applyErrs [] (inPop (rx0 6) collectivePacketsJoinTheirInstances1)), ?_⟩,
    ⟨collectivePacketsJoinTheirInstances2, 31, rx0 8, [],
      colTake (rx0 8) (applyErrs [] (inPop (rx0 8) collectivePacketsJoinTheirInstances2)), ?_⟩,
    ⟨collectivePacketsJoinTheirInstances3, 31, rx0 9, [],
      colTake (rx0 9) (applyErrs [] (inPop (rx0 9) collectivePacketsJoinTheirInstances3)), ?_⟩,
    ⟨inboxed [rx0 6] ({ svc with sec := { svc.sec with bindA := some 1 } }), 31, rx0 6, ?_⟩,
    ⟨inboxed [rx0 8] ({ svc with sec := { svc.sec with bindA := some 1 } }), 31, rx0 8, ?_⟩,
    ⟨inboxed [rx0 9] ({ svc with sec := { svc.sec with bindA := some 1 } }), 31, rx0 9, ?_⟩,
    ⟨svcJ { jobRun [task0] {} with aborting := true }, rx0 6, { jobRun [task0] {} with aborting := true }, ?_⟩,
    ⟨svcJ (jobRun [task0] {}), { rx0 6 with pkt := { pkt0 6 with step := 1 } }, jobRun [task0] {}, ?_⟩,
    ⟨svcJ (jobRun [task0] {}), { rx0 6 with pkt := { pkt0 6 with step := 2 } }, jobRun [task0] {}, ?_⟩,
    ⟨svcJ (jobRun [task0] {}), rx0 6, jobRun [task0] {}, {}, ?_⟩⟩ <;>
    repeat' (first | with_reducible rfl | (with_reducible refine some_getD1 _ _ ?_) | (with_reducible refine some_getD2 _ _ ?_) | (with_reducible refine mid_false _ ?_) | (with_reducible refine fst_false _ ?_) | refine And.intro ?_ ?_ | decide +kernel | rfl | refine Or.inl ?_ | (rintro _ (rfl | rfl) <;> decide +kernel) | (intros; simp))

abbrev collectiveInstancesRun1 : State := { colS 3 with jobB := some { colJob 3 with main := some { img0 with col := [(0, { groups := [[⟨0xFFFF, 0, 1⟩]], ops := [colOp0 3], consensus := none })] } } }
abbrev collectiveInstancesRun2 : State := { colS 3 with jobB := some { colJob 3 with main := some { img0 with col := [(0, { groups := [[⟨0xFFFF, 0, 1⟩, ⟨0xFFFF, 1, 1⟩]], ops := [{ colOp0 3 with counts := [8, 8, 4, 8] }], consensus := none })] } } }
abbrev collectiveInstancesRun3 : State := { colS 1 with jobB := some { colJob 1 with main := some { img0 with col := [(0, { groups := [[⟨0xFFFF, 1, 1⟩]], ops := [colOp0 1], consensus := none })] } } }
abbrev collectiveInstancesRun4 : State := { colS 2 with jobB := some { colJob 2 with main := some { img0 with col := [(0, { groups := [[⟨0xFFFF, 1, 1⟩]], ops := [colOp0 2], consensus := none })] } } }
abbrev collectiveInstancesRun5 : State := { colS 3 with jobB := some { colJob 3 with main := some { img0 with col := [(0, { groups := [[⟨0xFFFF, 1, 1⟩]], ops := [colOp0 3], consensus := none })] } } }

/-- Operands and states that meet the hypotheses of `Obligations.CollectiveInstancesRun`, clause by clause. -/
theorem meets_CollectiveInstancesRun :
    (∃ (_s : State) (_t : State) (_d : Nat) (_sl : Nat) (_op : Nat) (_m : Nat) (_errs : List (Nat × Nat)) (x : ColCtx) (_y : ColRun),
      x.g.length ≤ x.r)
    ∧ (∃ (s : State) (t : State) (t1 : State) (t2 : State) (d : Nat) (sl : Nat) (op : Nat) (m : Nat) (errs : List (Nat × Nat)) (x : ColCtx) (y : ColRun),
      ColAt 1 d sl op m errs x y t s
      ∧ x.r < x.g.length
      ∧ chunksGood x.o x.g.length = true
      ∧ runAll (others x) (fun k u => thenRun (colRead x d (mbAddr x.o x.o.src m + chunkOff x.o k.1) (colBytes x.o.dtype (countAt x.o k.1)) u).2 (colSendReduce x y k.2 (colRead x d (mbAddr x.o x.o.src m + chunkOff x.o k.1) (colBytes x.o.dtype (countAt x.o k.1)) u).1)) t = (t1, none)
      ∧ rsAdvance x (x.g.length + 1) { y with sent := true } t1 = (t2, none))
    ∧ (∃ (s : State) (t : State) (t1 : State) (t2 : State) (t3 : State) (d : Nat) (sl : Nat) (op : Nat) (m : Nat) (errs : List (Nat × Nat)) (x : ColCtx) (y : ColRun) (b : List Byte),
      ColAt 2 d sl op m errs x y t s
      ∧ x.r < x.g.length
      ∧ chunksGood x.o x.g.length = true
      ∧ colRead x d (mbAddr x.o x.o.src m) (colBytes x.o.dtype (countAt x.o x.r)) t = (b, t1, none)
      ∧ runAll (others x) (fun k v => colSendWrites y x.j.realm k.2.chip (dstOn v k.2 op m + chunkOff x.o x.r) b none v) t1 = (t2, none)
      ∧ colWrite x d (mbAddr x.o x.o.dst m + chunkOff x.o x.r) b t2 = (t3, none))
    ∧ (∃ (s : State) (t : State) (d : Nat) (sl : Nat) (op : Nat) (m : Nat) (errs : List (Nat × Nat)) (x : ColCtx) (y : ColRun),
      ColAt 3 d sl op m errs x y t s
      ∧ x.r < x.g.length
      ∧ chunksGood x.o x.g.length = true)
    ∧ (∃ (_s : State) (_t : State) (_t1 : State) (_t2 : State) (_d : Nat) (_sl : Nat) (_op : Nat) (_m : Nat) (_errs : List (Nat × Nat)) (x : ColCtx) (_y : ColRun),
      x.r < x.g.length
      ∧ chunksGood x.o x.g.length = true)
    ∧ (∃ (s : State) (t : State) (t1 : State) (d : Nat) (sl : Nat) (op : Nat) (m : Nat) (x : ColCtx) (y : ColRun) (z : ColRun),
      ColAt 6 d sl op m [] x y t s
      ∧ x.r < x.g.length
      ∧ chunksGood x.o x.g.length = true
      ∧ z = { y with own := rtNow t, latest := (rtNow t, ownChip t, d), sent := true }
      ∧ barSend x z t = (t1, none))
    ∧ (∃ (s : State) (t : State) (t1 : State) (d : Nat) (sl : Nat) (op : Nat) (m : Nat) (errs : List (Nat × Nat)) (x : ColCtx) (y : ColRun),
      ColAt 7 d sl op m errs x y t s
      ∧ (d, op, m) ∉ x.j.pushes
      ∧ x.r < x.g.length
      ∧ chunksGood x.o x.g.length = true
      ∧ buddyBegin x { y with sent := true } (setRun { y with sent := true } (addCapture sl true t)) = (t1, none))
    ∧ (∃ (s : State) (d : Nat) (sl : Nat) (op : Nat) (m : Nat) (_errs : List (Nat × Nat)) (x : ColCtx),
      colCtx s d sl op = some x
      ∧ x.o.op = 7
      ∧ (d, op, m) ∈ x.j.pushes
      ∧ x.j.sol = .none
      ∧ x.j.aborting = false
      ∧ colServes s d = true
      ∧ runAt s d sl op m = none)
    ∧ (∃ (s : State) (d : Nat) (sl : Nat) (op : Nat) (m : Nat) (x : ColCtx) (y : ColRun),
      runAt s d sl op m = some y
      ∧ colCtx s d sl op = some x
      ∧ colWorks s d = true
      ∧ colComplete s x y = true
      ∧ y.held = false
      ∧ x.o.shard = false
      ∧ (x.o.op = 1 ∨ x.o.op = 2 ∨ x.o.op = 3 ∨ x.o.op = 4 ∨ x.o.op = 5))
    ∧ (∃ (s : State) (d : Nat) (sl : Nat) (op : Nat) (m : Nat) (x : ColCtx) (y : ColRun) (_errs : List (Nat × Nat)),
      runAt s d sl op m = some y
      ∧ colCtx s d sl op = some x
      ∧ colComplete s x y = false)
    ∧ (∃ (s : State) (t : State) (d : Nat) (sl : Nat) (op : Nat) (m : Nat) (errs : List (Nat × Nat)) (x : ColCtx) (y : ColRun),
      x.g.length ≤ x.r
      ∧ ColAt 1 d sl op m errs x y t s)
    ∧ (∃ (s : State) (t : State) (d : Nat) (sl : Nat) (op : Nat) (m : Nat) (errs : List (Nat × Nat)) (x : ColCtx) (y : ColRun),
      x.g.length ≤ x.r
      ∧ ColAt 2 d sl op m errs x y t s)
    ∧ (∃ (s : State) (t : State) (d : Nat) (sl : Nat) (op : Nat) (m : Nat) (errs : List (Nat × Nat)) (x : ColCtx) (y : ColRun),
      x.g.length ≤ x.r
      ∧ ColAt 3 d sl op m errs x y t s)
    ∧ (∃ (s : State) (t : State) (d : Nat) (sl : Nat) (op : Nat) (m : Nat) (errs : List (Nat × Nat)) (x : ColCtx) (y : ColRun),
      ColAt 3 d sl op m errs x y t s
      ∧ x.r < x.g.length
      ∧ chunksGood x.o x.g.length = true
      ∧ countAt x.o x.r ≠ countFrom x.o x.g.length x.r)
    ∧ (∃ (s : State) (t : State) (d : Nat) (sl : Nat) (op : Nat) (m : Nat) (errs : List (Nat × Nat)) (x : ColCtx) (y : ColRun) (t1 : _) (b : _) (t2 : _),
      ColAt 3 d sl op m errs x y t s
      ∧ x.r < x.g.length
      ∧ chunksGood x.o x.g.length = true
      ∧ x.g.length = 1
      ∧ countAt x.o 0 = countFrom x.o 1 0
      ∧ x.r = 0
      ∧ colRead x d (mbAddr x.o x.o.src m) (colBytes x.o.dtype (countAt x.o 0)) t = (b, t1, none)
      ∧ colWrite x d (mbAddr x.o x.o.dst m) b t1 = (t2, none))
    ∧ (∃ (s : State) (t : State) (t1 : State) (t2 : State) (d : Nat) (sl : Nat) (op : Nat) (m : Nat) (errs : List (Nat × Nat)) (x : ColCtx) (y : ColRun),
      x.r < x.g.length
      ∧ chunksGood x.o x.g.length = true
      ∧ ColAt 4 d sl op m errs x y t s
      ∧ sendTo x y (peerRank x) x.o.len t = (t1, none)
      ∧ t2 = takeEarly d sl op m x.st.num t1.fab.early t1)
    ∧ (∃ (s : State) (t : State) (t1 : State) (t2 : State) (d : Nat) (sl : Nat) (op : Nat) (m : Nat) (errs : List (Nat × Nat)) (x : ColCtx) (y : ColRun),
      x.r < x.g.length
      ∧ chunksGood x.o x.g.length = true
      ∧ ColAt 5 d sl op m errs x y t s
      ∧ sendTo x y (peerRank x) (countAt x.o x.r) t = (t1, none)
      ∧ t2 = takeEarly d sl op m x.st.num t1.fab.early t1) := by
  refine ⟨⟨colS 2, colT (colS 2), 0, 1, 0, 0, [], { colX 2 with r := 2 }, colY, ?_⟩,
    ⟨colS 1, colT (colS 1),
      (runAll (others (colX 1)) (fun k u => thenRun (colRead (colX 1) 0 (mbAddr (colX 1).o (colX 1).o.src 0 + chunkOff (colX 1).o k.1) (colBytes (colX 1).o.dtype (countAt (colX 1).o k.1)) u).2 (colSendReduce (colX 1) colY k.2 (colRead (colX 1) 0 (mbAddr (colX 1).o (colX 1).o.src 0 + chunkOff (colX 1).o k.1) (colBytes (colX 1).o.dtype (countAt (colX 1).o k.1)) u).1)) (colT (colS 1))).1,
      (rsAdvance (colX 1) 3 { colY with sent := true } (runAll (others (colX 1)) (fun k u => thenRun (colRead (colX 1) 0 (mbAddr (colX 1).o (colX 1).o.src 0 + chunkOff (colX 1).o k.1) (colBytes (colX 1).o.dtype (countAt (colX 1).o k.1)) u).2 (colSendReduce (colX 1) colY k.2 (colRead (colX 1) 0 (mbAddr (colX 1).o (colX 1).o.src 0 + chunkOff (colX 1).o k.1) (colBytes (colX 1).o.dtype (countAt (colX 1).o k.1)) u).1)) (colT (colS 1))).1).1,
      0, 1, 0, 0, [], colX 1, colY,by
      refine ⟨⟨rfl, rfl, by decide +kernel, by decide +kernel, rfl, _, rfl, rfl⟩, by decide +kernel,
      by decide +kernel, pair2 _ (by decide +kernel), pair2 _ (by decide +kernel)⟩⟩,
    ⟨colS 2, colT (colS 2),
      (colRead (colX 2) 0 (mbAddr (colX 2).o (colX 2).o.src 0) (colBytes (colX 2).o.dtype (countAt (colX 2).o (colX 2).r)) (colT (colS 2))).2.1,
      (runAll (others (colX 2)) (fun k v => colSendWrites colY (colX 2).j.realm k.2.chip (dstOn v k.2 0 0 + chunkOff (colX 2).o (colX 2).r) (colRead (colX 2) 0 (mbAddr (colX 2).o (colX 2).o.src 0) (colBytes (colX 2).o.dtype (countAt (colX 2).o (colX 2).r)) (colT (colS 2))).1 none v) (colRead (colX 2) 0 (mbAddr (colX 2).o (colX 2).o.src 0) (colBytes (colX 2).o.dtype (countAt (colX 2).o (colX 2).r)) (colT (colS 2))).2.1).1,
      (colWrite (colX 2) 0 (mbAddr (colX 2).o (colX 2).o.dst 0 + chunkOff (colX 2).o (colX 2).r) (colRead (colX 2) 0 (mbAddr (colX 2).o (colX 2).o.src 0) (colBytes (colX 2).o.dtype (countAt (colX 2).o (colX 2).r)) (colT (colS 2))).1 (runAll (others (colX 2)) (fun k v => colSendWrites colY (colX 2).j.realm k.2.chip (dstOn v k.2 0 0 + chunkOff (colX 2).o (colX 2).r) (colRead (colX 2) 0 (mbAddr (colX 2).o (colX 2).o.src 0) (colBytes (colX 2).o.dtype (countAt (colX 2).o (colX 2).r)) (colT (colS 2))).1 none v) (colRead (colX 2) 0 (mbAddr (colX 2).o (colX 2).o.src 0) (colBytes (colX 2).o.dtype (countAt (colX 2).o (colX 2).r)) (colT (colS 2))).2.1).1).1,
      0, 1, 0, 0, [], colX 2, colY,
      (colRead (colX 2) 0 (mbAddr (colX 2).o (colX 2).o.src 0) (colBytes (colX 2).o.dtype (countAt (colX 2).o (colX 2).r)) (colT (colS 2))).1,by
      refine ⟨⟨rfl, rfl, by decide +kernel, by decide +kernel, rfl, _, rfl, rfl⟩, by decide +kernel,
      by decide +kernel, ?_, ?_,?_⟩
      · refine pair3 _ ?_
        decide +kernel
      · refine pair2 _ ?_
        decide +kernel
      · refine pair2 _ ?_
        decide +kernel⟩,
    ⟨colS 3, colT (colS 3), 0, 1, 0, 0, [], colX 3, colY,by
      refine ⟨⟨rfl, rfl, by decide +kernel, by decide +kernel, rfl, _, rfl, rfl⟩, by decide +kernel,
      by decide +kernel⟩⟩,
    ⟨colS 5, colT (colS 5), svc, svc, 0, 1, 0, 0, [], colX 5, colY, ?_⟩,
    ⟨colS 6, colT (colS 6), (barSend (colX 6) ({ colY with own := rtNow (colT (colS 6)), latest := (rtNow (colT (colS 6)), ownChip (colT (colS 6)), 0), sent := true }) (colT (colS 6))).1,
      0, 1, 0, 0, colX 6, colY, { colY with own := rtNow (colT (colS 6)), latest := (rtNow (colT (colS 6)), ownChip (colT (colS 6)), 0), sent := true },by
      refine ⟨⟨rfl, rfl, by decide +kernel, by decide +kernel, rfl, _, rfl, rfl⟩, by decide +kernel,
      by decide +kernel, rfl, pair2 _ (by decide +kernel)⟩⟩,
    ⟨colS 7, colT (colS 7),
      (buddyBegin (colX 7) { colY with sent := true } (setRun { colY with sent := true } (addCapture 1 true (colT (colS 7))))).1,
      0, 1, 0, 0, [], colX 7, colY,by
      refine ⟨⟨rfl, rfl, by decide +kernel, by decide +kernel, rfl, _, rfl, rfl⟩, by decide +kernel,
      by decide +kernel, by decide +kernel, pair2 _ (by decide +kernel)⟩⟩,
    ⟨{ colS 7 with jobB := some { colJob 7 with pushes := [(0, 0, 0)] } }, 0, 1, 0, 0, [],
      { colX 7 with j := { colJob 7 with pushes := [(0, 0, 0)] } }, ?_⟩,
    ⟨{ colS 1 with fab := { svc.fab with runs := [{ colY with sent := true, nextRank := 2 }] } }, 0, 1, 0, 0,
      colX 1, { colY with sent := true, nextRank := 2 },by
      exact ⟨by decide +kernel, rfl, by decide +kernel, by decide +kernel, rfl, rfl, Or.inl rfl⟩⟩,
    ⟨{ colS 2 with fab := { svc.fab with runs := [colY] } }, 0, 1, 0, 0, colX 2, colY, [],by
      exact ⟨by decide +kernel, rfl, by decide +kernel⟩⟩,
    ⟨collectiveInstancesRun3, colT collectiveInstancesRun3, 0, 1, 0, 0, [],
      { colX 1 with j := { colJob 1 with main := some { img0 with col := [(0, { groups := [[⟨0xFFFF, 1, 1⟩]], ops := [colOp0 1], consensus := none })] } }, g := [⟨0xFFFF, 1, 1⟩], r := 1 },
      colY,by
      refine ⟨by decide, ⟨rfl, rfl, by decide +kernel, by decide +kernel, rfl, _, rfl, rfl⟩⟩⟩,
    ⟨collectiveInstancesRun4, colT collectiveInstancesRun4, 0, 1, 0, 0, [],
      { colX 2 with j := { colJob 2 with main := some { img0 with col := [(0, { groups := [[⟨0xFFFF, 1, 1⟩]], ops := [colOp0 2], consensus := none })] } }, g := [⟨0xFFFF, 1, 1⟩], r := 1 },
      colY,by
      refine ⟨by decide, ⟨rfl, rfl, by decide +kernel, by decide +kernel, rfl, _, rfl, rfl⟩⟩⟩,
    ⟨collectiveInstancesRun5, colT collectiveInstancesRun5, 0, 1, 0, 0, [],
      { colX 3 with j := { colJob 3 with main := some { img0 with col := [(0, { groups := [[⟨0xFFFF, 1, 1⟩]], ops := [colOp0 3], consensus := none })] } }, g := [⟨0xFFFF, 1, 1⟩], r := 1 },
      colY,by
      refine ⟨by decide, ⟨rfl, rfl, by decide +kernel, by decide +kernel, rfl, _, rfl, rfl⟩⟩⟩,
    ⟨collectiveInstancesRun2, colT collectiveInstancesRun2, 0, 1, 0, 0, [],
      { colX 3 with j := { colJob 3 with main := some { img0 with col := [(0, { groups := [[⟨0xFFFF, 0, 1⟩, ⟨0xFFFF, 1, 1⟩]], ops := [{ colOp0 3 with counts := [8, 8, 4, 8] }], consensus := none })] } }, o := { colOp0 3 with counts := [8, 8, 4, 8] }, g := [⟨0xFFFF, 0, 1⟩, ⟨0xFFFF, 1, 1⟩], r := 0 },
      colY,by
      refine ⟨⟨rfl, rfl, by decide +kernel, by decide +kernel, rfl, _, rfl, rfl⟩, by decide, by decide,
      by decide⟩⟩,
    ⟨collectiveInstancesRun1, colT collectiveInstancesRun1, 0, 1, 0, 0, [],
      { colX 3 with j := { colJob 3 with main := some { img0 with col := [(0, { groups := [[⟨0xFFFF, 0, 1⟩]], ops := [colOp0 3], consensus := none })] } }, o := colOp0 3, g := [⟨0xFFFF, 0, 1⟩], r := 0 },
      colY, (colRead ({ colX 3 with j := { colJob 3 with main := some { img0 with col := [(0, { groups := [[⟨0xFFFF, 0, 1⟩]], ops := [colOp0 3], consensus := none })] } }, o := colOp0 3, g := [⟨0xFFFF, 0, 1⟩], r := 0 }) 0 (mbAddr ({ colX 3 with j := { colJob 3 with main := some { img0 with col := [(0, { groups := [[⟨0xFFFF, 0, 1⟩]], ops := [colOp0 3], consensus := none })] } }, o := colOp0 3, g := [⟨0xFFFF, 0, 1⟩], r := 0 }).o ({ colX 3 with j := { colJob 3 with main := some { img0 with col := [(0, { groups := [[⟨0xFFFF, 0, 1⟩]], ops := [colOp0 3], consensus := none })] } }, o := colOp0 3, g := [⟨0xFFFF, 0, 1⟩], r := 0 }).o.src 0) (colBytes ({ colX 3 with j := { colJob 3 with main := some { img0 with col := [(0, { groups := [[⟨0xFFFF, 0, 1⟩]], ops := [colOp0 3], consensus := none })] } }, o := colOp0 3, g := [⟨0xFFFF, 0, 1⟩], r := 0 }).o.dtype (countAt ({ colX 3 with j := { colJob 3 with main := some { img0 with col := [(0, { groups := [[⟨0xFFFF, 0, 1⟩]], ops := [colOp0 3], consensus := none })] } }, o := colOp0 3, g := [⟨0xFFFF, 0, 1⟩], r := 0 }).o 0)) (colT collectiveInstancesRun1)).2.1,
      (colRead ({ colX 3 with j := { colJob 3 with main := some { img0 with col := [(0, { groups := [[⟨0xFFFF, 0, 1⟩]], ops := [colOp0 3], consensus := none })] } }, o := colOp0 3, g := [⟨0xFFFF, 0, 1⟩], r := 0 }) 0 (mbAddr ({ colX 3 with j := { colJob 3 with main := some { img0 with col := [(0, { groups := [[⟨0xFFFF, 0, 1⟩]], ops := [colOp0 3], consensus := none })] } }, o := colOp0 3, g := [⟨0xFFFF, 0, 1⟩], r := 0 }).o ({ colX 3 with j := { colJob 3 with main := some { img0 with col := [(0, { groups := [[⟨0xFFFF, 0, 1⟩]], ops := [colOp0 3], consensus := none })] } }, o := colOp0 3, g := [⟨0xFFFF, 0, 1⟩], r := 0 }).o.src 0) (colBytes ({ colX 3 with j := { colJob 3 with main := some { img0 with col := [(0, { groups := [[⟨0xFFFF, 0, 1⟩]], ops := [colOp0 3], consensus := none })] } }, o := colOp0 3, g := [⟨0xFFFF, 0, 1⟩], r := 0 }).o.dtype (countAt ({ colX 3 with j := { colJob 3 with main := some { img0 with col := [(0, { groups := [[⟨0xFFFF, 0, 1⟩]], ops := [colOp0 3], consensus := none })] } }, o := colOp0 3, g := [⟨0xFFFF, 0, 1⟩], r := 0 }).o 0)) (colT collectiveInstancesRun1)).1,
      (colWrite ({ colX 3 with j := { colJob 3 with main := some { img0 with col := [(0, { groups := [[⟨0xFFFF, 0, 1⟩]], ops := [colOp0 3], consensus := none })] } }, o := colOp0 3, g := [⟨0xFFFF, 0, 1⟩], r := 0 }) 0 (mbAddr ({ colX 3 with j := { colJob 3 with main := some { img0 with col := [(0, { groups := [[⟨0xFFFF, 0, 1⟩]], ops := [colOp0 3], consensus := none })] } }, o := colOp0 3, g := [⟨0xFFFF, 0, 1⟩], r := 0 }).o ({ colX 3 with j := { colJob 3 with main := some { img0 with col := [(0, { groups := [[⟨0xFFFF, 0, 1⟩]], ops := [colOp0 3], consensus := none })] } }, o := colOp0 3, g := [⟨0xFFFF, 0, 1⟩], r := 0 }).o.dst 0) (colRead ({ colX 3 with j := { colJob 3 with main := some { img0 with col := [(0, { groups := [[⟨0xFFFF, 0, 1⟩]], ops := [colOp0 3], consensus := none })] } }, o := colOp0 3, g := [⟨0xFFFF, 0, 1⟩], r := 0 }) 0 (mbAddr ({ colX 3 with j := { colJob 3 with main := some { img0 with col := [(0, { groups := [[⟨0xFFFF, 0, 1⟩]], ops := [colOp0 3], consensus := none })] } }, o := colOp0 3, g := [⟨0xFFFF, 0, 1⟩], r := 0 }).o ({ colX 3 with j := { colJob 3 with main := some { img0 with col := [(0, { groups := [[⟨0xFFFF, 0, 1⟩]], ops := [colOp0 3], consensus := none })] } }, o := colOp0 3, g := [⟨0xFFFF, 0, 1⟩], r := 0 }).o.src 0) (colBytes ({ colX 3 with j := { colJob 3 with main := some { img0 with col := [(0, { groups := [[⟨0xFFFF, 0, 1⟩]], ops := [colOp0 3], consensus := none })] } }, o := colOp0 3, g := [⟨0xFFFF, 0, 1⟩], r := 0 }).o.dtype (countAt ({ colX 3 with j := { colJob 3 with main := some { img0 with col := [(0, { groups := [[⟨0xFFFF, 0, 1⟩]], ops := [colOp0 3], consensus := none })] } }, o := colOp0 3, g := [⟨0xFFFF, 0, 1⟩], r := 0 }).o 0)) (colT collectiveInstancesRun1)).1 (colRead ({ colX 3 with j := { colJob 3 with main := some { img0 with col := [(0, { groups := [[⟨0xFFFF, 0, 1⟩]], ops := [colOp0 3], consensus := none })] } }, o := colOp0 3, g := [⟨0xFFFF, 0, 1⟩], r := 0 }) 0 (mbAddr ({ colX 3 with j := { colJob 3 with main := some { img0 with col := [(0, { groups := [[⟨0xFFFF, 0, 1⟩]], ops := [colOp0 3], consensus := none })] } }, o := colOp0 3, g := [⟨0xFFFF, 0, 1⟩], r := 0 }).o ({ colX 3 with j := { colJob 3 with main := some { img0 with col := [(0, { groups := [[⟨0xFFFF, 0, 1⟩]], ops := [colOp0 3], consensus := none })] } }, o := colOp0 3, g := [⟨0xFFFF, 0, 1⟩], r := 0 }).o.src 0) (colBytes ({ colX 3 with j := { colJob 3 with main := some { img0 with col := [(0, { groups := [[⟨0xFFFF, 0, 1⟩]], ops := [colOp0 3], consensus := none })] } }, o := colOp0 3, g := [⟨0xFFFF, 0, 1⟩], r := 0 }).o.dtype (countAt ({ colX 3 with j := { colJob 3 with main := some { img0 with col := [(0, { groups := [[⟨0xFFFF, 0, 1⟩]], ops := [colOp0 3], consensus := none })] } }, o := colOp0 3, g := [⟨0xFFFF, 0, 1⟩], r := 0 }).o 0)) (colT collectiveInstancesRun1)).2.1).1,by
      refine ⟨⟨rfl, rfl, by decide +kernel, by decide +kernel, rfl, _, rfl, rfl⟩, by decide, by decide,
      by decide, by decide, rfl, pair3 _ (by decide +kernel), pair2 _ (by decide +kernel)⟩⟩,
    ⟨colS 4, colT (colS 4), (sendTo (colX 4) colY (peerRank (colX 4)) (colX 4).o.len (colT (colS 4))).1,
      takeEarly 0 1 0 0 (colX 4).st.num (sendTo (colX 4) colY (peerRank (colX 4)) (colX 4).o.len (colT (colS 4))).1.fab.early (sendTo (colX 4) colY (peerRank (colX 4)) (colX 4).o.len (colT (colS 4))).1,
      0, 1, 0, 0, [], colX 4, colY,by
      refine ⟨by decide, by decide, ⟨rfl, rfl, by decide +kernel, by decide +kernel, rfl, _, rfl, rfl⟩,
      pair2 _ (by decide +kernel), rfl⟩⟩,
    ⟨colS 5, colT (colS 5),
      (sendTo (colX 5) colY (peerRank (colX 5)) (countAt (colX 5).o (colX 5).r) (colT (colS 5))).1,
      takeEarly 0 1 0 0 (colX 5).st.num (sendTo (colX 5) colY (peerRank (colX 5)) (countAt (colX 5).o (colX 5).r) (colT (colS 5))).1.fab.early (sendTo (colX 5) colY (peerRank (colX 5)) (countAt (colX 5).o (colX 5).r) (colT (colS 5))).1,
      0, 1, 0, 0, [], colX 5, colY,by
      refine ⟨by decide, by decide, ⟨rfl, rfl, by decide +kernel, by decide +kernel, rfl, _, rfl, rfl⟩,
      pair2 _ (by decide +kernel), rfl⟩⟩⟩ <;>
    repeat' (first | with_reducible rfl | (with_reducible refine some_getD1 _ _ ?_) | (with_reducible refine some_getD2 _ _ ?_) | (with_reducible refine mid_false _ ?_) | (with_reducible refine fst_false _ ?_) | refine And.intro ?_ ?_ | decide +kernel | rfl | refine Or.inl ?_ | (rintro _ (rfl | rfl) <;> decide +kernel) | (intros; simp))

abbrev spdmRequestsAreAnswered1 : State := received ({ svc with mgt := { svc.mgt with spdmStage := 3 } })
abbrev spdmRequestsAreAnswered2 : State := { svc with mgt := { svc.mgt with spdmStage := 3, spdmWait := some { code := 131, param := 0, summary := 0, sign := true, nonce := [], token := 1 } } }
abbrev spdmRequestsAreAnswered3 : State := { svc with mgt := { svc.mgt with spdmStage := 3, spdmWait := some { code := 131, param := 0, summary := 0, sign := true, nonce := [], token := 0 } } }
abbrev spdmRequestsAreAnswered4 : State := received ({ svc with mgt := { svc.mgt with spdmStage := 0 } })
abbrev spdmRequestsAreAnswered5 : State := blkAs baseATT {} ({ svc with mgt := { svc.mgt with spdmStage := 3 } })
abbrev spdmRequestsAreAnswered6 : State := received ({ svc with mgt := { svc.mgt with spdmStage := 1 } })
abbrev spdmRequestsAreAnswered7 : State := received ({ svc with mgt := { svc.mgt with spdmStage := 2 } })

/-- Operands and states that meet the hypotheses of `Obligations.SpdmRequestsAreAnswered`, clause by clause. -/
theorem meets_SpdmRequestsAreAnswered :
    (∃ (s : State) (t : State) (_b : Nat),
      t = received s)
    ∧ (∃ (s : State) (t : State) (b : Nat),
      t = received s
      ∧ SpdmAt b 0 s)
    ∧ (∃ (s : State) (b : Nat),
      mctpServes s b = true
      ∧ cpAway s = true)
    ∧ (∃ (s : State) (t : State) (b : Nat) (_slot : Nat) (_summary : Nat) (_nonce : List Byte) (_later : Bool),
      t = received s
      ∧ SpdmAt b 3 s)
    ∧ (∃ (s : State) (t : State) (b : Nat) (_index : Nat) (_sign : Bool) (_later : Bool) (_nonce : List Byte),
      t = received s
      ∧ SpdmAt b 3 s)
    ∧ (∃ (s : State) (t : State) (b : Nat) (_code : Nat) (_token : Nat) (_later : Bool),
      t = received s
      ∧ SpdmAt b 3 s)
    ∧ (∃ (_s : State) (q : SpdmReq),
      q.code = 0xE0
      ∧ q.sign = false)
    ∧ (∃ (s : State) (t : State) (b : Nat),
      t = received s
      ∧ SpdmAt b 0 s)
    ∧ (∃ (s : State) (t : State) (b : Nat),
      t = received s
      ∧ SpdmAt b 1 s)
    ∧ (∃ (s : State) (t : State) (b : Nat),
      t = received s
      ∧ SpdmAt b 2 s)
    ∧ (∃ (s : State) (t : State) (b : Nat),
      t = received s
      ∧ SpdmAt b 3 s)
    ∧ (∃ (s : State) (t : State) (b : Nat),
      t = received s
      ∧ SpdmAt b 3 s)
    ∧ (∃ (s : State) (t : State) (b : Nat) (slot : _),
      t = received s
      ∧ SpdmAt b 3 s
      ∧ slot ≠ 0)
    ∧ (∃ (s : State) (t : State) (b : Nat) (code : _),
      t = received s
      ∧ SpdmAt b 0 s
      ∧ code ∉ [0x81, 0x82, 0x83, 0x84, 0xE0, 0xE1, 0xE3, 0xFF])
    ∧ (∃ (s : State) (t : State) (b : Nat),
      t = received s
      ∧ SpdmAt b 0 s
      ∧ s.mgt.spdmStage = 0)
    ∧ (∃ (s : State) (t : State) (b : Nat),
      t = received s
      ∧ SpdmAt b 0 s
      ∧ s.mgt.spdmStage < 2)
    ∧ (∃ (s : State) (t : State) (b : Nat),
      t = received s
      ∧ SpdmAt b 0 s
      ∧ s.mgt.spdmStage < 3)
    ∧ (∃ (s : State) (t : State) (b : Nat) (slot : Nat) (summary : Nat) (_nonce : List Byte) (_later : Bool),
      t = received s
      ∧ SpdmAt b 3 s
      ∧ slot = 0
      ∧ (summary = 0 ∨ summary = 1 ∨ summary = 0xFF)
      ∧ blkOn s baseATT = true)
    ∧ (∃ (s : State) (t : State) (b : Nat) (slot : Nat) (summary : Nat) (_nonce : List Byte) (_later : Bool),
      t = received s
      ∧ SpdmAt b 3 s
      ∧ (slot ≠ 0 ∨ (summary ≠ 0 ∧ summary ≠ 1 ∧ summary ≠ 0xFF)))
    ∧ (∃ (s : State) (t : State) (b : Nat) (slot : Nat) (summary : Nat) (_nonce : List Byte) (_later : Bool),
      t = received s
      ∧ SpdmAt b 3 s
      ∧ slot = 0
      ∧ summary = 0
      ∧ blkOn s baseATT = false)
    ∧ (∃ (s : State) (t : State) (b : Nat) (index : Nat) (_sign : Bool) (_later : Bool) (_nonce : List Byte),
      t = received s
      ∧ SpdmAt b 3 s
      ∧ (index ≤ 8 ∨ index = 0xFF)
      ∧ blkOn s baseATT = true)
    ∧ (∃ (s : State) (t : State) (b : Nat) (index : Nat) (_sign : Bool) (_later : Bool) (_nonce : List Byte),
      t = received s
      ∧ SpdmAt b 3 s
      ∧ 8 < index
      ∧ index ≠ 0xFF)
    ∧ (∃ (s : State) (t : State) (b : Nat) (_code : Nat) (_token : Nat) (_later : Bool),
      t = received s
      ∧ SpdmAt b 3 s
      ∧ s.mgt.spdmWait = none)
    ∧ (∃ (s : State) (t : State) (b : Nat) (code : Nat) (token : Nat) (_later : Bool) (q : _),
      t = received s
      ∧ SpdmAt b 3 s
      ∧ s.mgt.spdmWait = some q
      ∧ (q.code ≠ code ∨ q.token ≠ token))
    ∧ (∃ (s : State) (t : State) (b : Nat) (code : Nat) (token : Nat) (_later : Bool) (q : _),
      t = received s
      ∧ SpdmAt b 3 s
      ∧ s.mgt.spdmWait = some q
      ∧ q.code = code
      ∧ q.token = token
      ∧ blkOn s baseATT = true) := by
  refine ⟨⟨svc, received svc, 2, ?_⟩,
    ⟨svc, received svc, 2, ?_⟩,
    ⟨{ svc with rel := { svc.rel with restarting := true } }, 0, ?_⟩,
    ⟨{ svc with mgt := { svc.mgt with spdmStage := 3 } }, spdmRequestsAreAnswered1, 2, 0, 255,
      List.replicate 32 0, true, ?_⟩,
    ⟨{ svc with mgt := { svc.mgt with spdmStage := 3 } }, spdmRequestsAreAnswered1, 2, 255, true, true,
      List.replicate 32 0, ?_⟩,
    ⟨{ svc with mgt := { svc.mgt with spdmStage := 3 } }, spdmRequestsAreAnswered1, 2, 131, 0, false, ?_⟩,
    ⟨svc, { code := 0xE0, param := 0, summary := 0, sign := false, nonce := [] }, ?_⟩,
    ⟨{ svc with mgt := { svc.mgt with spdmStage := 0 } }, spdmRequestsAreAnswered4, 2, ?_⟩,
    ⟨{ svc with mgt := { svc.mgt with spdmStage := 1 } }, spdmRequestsAreAnswered6, 2, ?_⟩,
    ⟨{ svc with mgt := { svc.mgt with spdmStage := 2 } }, spdmRequestsAreAnswered7, 2, ?_⟩,
    ⟨{ svc with mgt := { svc.mgt with spdmStage := 3 } }, spdmRequestsAreAnswered1, 2, ?_⟩,
    ⟨{ svc with mgt := { svc.mgt with spdmStage := 3 } }, spdmRequestsAreAnswered1, 2, ?_⟩,
    ⟨{ svc with mgt := { svc.mgt with spdmStage := 3 } }, spdmRequestsAreAnswered1, 2, 1, ?_⟩,
    ⟨{ svc with mgt := { svc.mgt with spdmStage := 0 } }, spdmRequestsAreAnswered4, 2, 0x80, ?_⟩,
    ⟨{ svc with mgt := { svc.mgt with spdmStage := 0 } }, spdmRequestsAreAnswered4, 2, ?_⟩,
    ⟨{ svc with mgt := { svc.mgt with spdmStage := 1 } }, spdmRequestsAreAnswered6, 2, ?_⟩,
    ⟨{ svc with mgt := { svc.mgt with spdmStage := 2 } }, spdmRequestsAreAnswered7, 2, ?_⟩,
    ⟨{ svc with mgt := { svc.mgt with spdmStage := 3 } }, spdmRequestsAreAnswered1, 2, 0, 255,
      List.replicate 32 0, true, ?_⟩,
    ⟨{ svc with mgt := { svc.mgt with spdmStage := 3 } }, spdmRequestsAreAnswered1, 2, 1, 255,
      List.replicate 32 0, true, ?_⟩,
    ⟨spdmRequestsAreAnswered5, received spdmRequestsAreAnswered5, 2, 0, 0, List.replicate 32 0, true, ?_⟩,
    ⟨{ svc with mgt := { svc.mgt with spdmStage := 3 } }, spdmRequestsAreAnswered1, 2, 255, true, true,
      List.replicate 32 0, ?_⟩,
    ⟨{ svc with mgt := { svc.mgt with spdmStage := 3 } }, spdmRequestsAreAnswered1, 2, 9, true, true,
      List.replicate 32 0, ?_⟩,
    ⟨{ svc with mgt := { svc.mgt with spdmStage := 3 } }, spdmRequestsAreAnswered1, 2, 131, 0, false, ?_⟩,
    ⟨spdmRequestsAreAnswered2, received spdmRequestsAreAnswered2, 2, 131, 0, false, { code := 131, param := 0, summary := 0, sign := true, nonce := [], token := 1 },
      ?_⟩,
    ⟨spdmRequestsAreAnswered3, received spdmRequestsAreAnswered3, 2, 131, 0, false, { code := 131, param := 0, summary := 0, sign := true, nonce := [], token := 0 },
      ?_⟩⟩ <;>
    repeat' (first | with_reducible rfl | (with_reducible refine some_getD1 _ _ ?_) | (with_reducible refine some_getD2 _ _ ?_) | (with_reducible refine mid_false _ ?_) | (with_reducible refine fst_false _ ?_) | refine And.intro ?_ ?_ | decide +kernel | rfl | refine Or.inl ?_ | (rintro _ (rfl | rfl) <;> decide +kernel) | (intros; simp))

/-- Operands and states that meet the hypotheses of `Obligations.SidebandControlAndVendorMessages`, clause by clause. -/
theorem meets_SidebandControlAndVendorMessages :
    (∃ (s : State) (t : State) (b : Nat),
      t = received s
      ∧ mctpServes s b = true)
    ∧ (∃ (s : State) (b : Nat),
      mctpServes s b = false)
    ∧ (∃ (s : State),
      mctpServes s 0 = true)
    ∧ (∃ (s : State) (t : State) (b : Nat) (eid : _),
      t = received s
      ∧ mctpServes s b = true
      ∧ eid ≠ 0
      ∧ eid ≠ 0xFF)
    ∧ (∃ (s : State) (t : State) (b : Nat) (eid : _),
      t = received s
      ∧ mctpServes s b = true
      ∧ (eid = 0 ∨ eid = 0xFF))
    ∧ (∃ (s : State) (t : State) (b : Nat) (start : W64) (a : _) (l : _),
      t = received s
      ∧ mctpServes s b = true
      ∧ cpAway s = false
      ∧ (s.phase = .running ∨ s.phase = .shutting)
      ∧ a = max start.toNat (logOldest s)
      ∧ l = logFrom s 0 a 16)
    ∧ (∃ (s : State) (t : State) (b : Nat) (start : W64) (a : _) (l : _),
      t = received s
      ∧ mctpServes s b = true
      ∧ cpAway s = false
      ∧ a = max start.toNat (journalOldest s)
      ∧ l = journalFrom s 0 a 16)
    ∧ (∃ (s : State) (t : State) (b : Nat) (_start : W64),
      t = received s
      ∧ mctpServes s b = true
      ∧ cpAway s = true) := by
  refine ⟨⟨svc, received svc, 2, ?_⟩,
    ⟨svc, 3, ?_⟩,
    ⟨svc, ?_⟩,
    ⟨svc, received svc, 2, 0xFE, ?_⟩,
    ⟨svc, received svc, 2, 0xFF, ?_⟩,
    ⟨svc, received svc, 2, 3, max 3 (logOldest svc), logFrom svc 0 (max 3 (logOldest svc)) 16, ?_⟩,
    ⟨svc, received svc, 2, 3, max 3 (journalOldest svc), journalFrom svc 0 (max 3 (journalOldest svc)) 16, ?_⟩,
    ⟨{ svc with rel := { svc.rel with held := true } },
      received ({ svc with rel := { svc.rel with held := true } }), 2, 0, ?_⟩⟩ <;>
    repeat' (first | with_reducible rfl | (with_reducible refine some_getD1 _ _ ?_) | (with_reducible refine some_getD2 _ _ ?_) | (with_reducible refine mid_false _ ?_) | (with_reducible refine fst_false _ ?_) | refine And.intro ?_ ?_ | decide +kernel | rfl | refine Or.inl ?_ | (rintro _ (rfl | rfl) <;> decide +kernel) | (intros; simp))

abbrev pldmRequestsAreAnswered1 : State := { svc with mgt := { svc.mgt with evq := List.replicate 1 { code := 1, realm := 0, job := 0, count := 1, seqNo := 0, rt := 0, unit := 0, data := [] } } }
abbrev pldmRequestsAreAnswered2 : State := { svc with mgt := { svc.mgt with evq := List.replicate 2 { code := 1, realm := 0, job := 0, count := 1, seqNo := 0, rt := 0, unit := 0, data := [] } } }

/-- Operands and states that meet the hypotheses of `Obligations.PldmRequestsAreAnswered`, clause by clause. -/
theorem meets_PldmRequestsAreAnswered :
    (∃ (s : State) (t : State) (b : Nat),
      t = received s
      ∧ PldmAt b 0 s)
    ∧ (∃ (s : State) (t : State) (b : Nat) (typ : Nat) (_cmd : Nat),
      t = received s
      ∧ PldmAt b typ s)
    ∧ (∃ (s : State) (t : State) (b : Nat),
      t = received s
      ∧ PldmAt b 2 s)
    ∧ (∃ (s : State) (t : State) (b : Nat),
      t = received s
      ∧ PldmAt b 4 s)
    ∧ (∃ (s : State) (b : Nat),
      mctpServes s b = true
      ∧ cpAway s = true)
    ∧ (∃ (s : State) (t : State) (b : Nat) (tid : _),
      t = received s
      ∧ PldmAt b 0 s
      ∧ tid ≠ 0
      ∧ tid ≠ 0xFF)
    ∧ (∃ (s : State) (t : State) (b : Nat) (tid : _),
      t = received s
      ∧ PldmAt b 0 s
      ∧ (tid = 0 ∨ tid = 0xFF))
    ∧ (∃ (s : State) (t : State) (b : Nat) (typ : _),
      t = received s
      ∧ PldmAt b 0 s
      ∧ typ ∈ [0, 2, 4, 5])
    ∧ (∃ (s : State) (t : State) (b : Nat) (typ : _),
      t = received s
      ∧ PldmAt b 0 s
      ∧ typ ∉ [0, 2, 4, 5])
    ∧ (∃ (s : State) (t : State) (b : Nat) (typ : _) (l : _),
      t = received s
      ∧ PldmAt b 0 s
      ∧ pldmCommands typ = some l)
    ∧ (∃ (s : State) (t : State) (b : Nat) (typ : Nat) (cmd : Nat) (l : _),
      t = received s
      ∧ PldmAt b typ s
      ∧ pldmCommands typ = some l
      ∧ cmd ∉ l)
    ∧ (∃ (s : State) (t : State) (b : Nat) (typ : Nat) (_cmd : Nat),
      t = received s
      ∧ PldmAt b typ s
      ∧ pldmCommands typ = none)
    ∧ (∃ (s : State) (t : State) (b : Nat) (h : _),
      t = received s
      ∧ PldmAt b 2 s
      ∧ 1 ≤ h
      ∧ h ≤ 16)
    ∧ (∃ (s : State) (t : State) (b : Nat) (h : _),
      t = received s
      ∧ PldmAt b 2 s
      ∧ 16 < h)
    ∧ (∃ (s : State) (t : State) (b : Nat) (id : _),
      t = received s
      ∧ PldmAt b 2 s
      ∧ 1 ≤ id
      ∧ id ≤ 5)
    ∧ (∃ (s : State) (t : State) (b : Nat) (id : _),
      t = received s
      ∧ PldmAt b 2 s
      ∧ 6 ≤ id
      ∧ id ≤ 14)
    ∧ (∃ (s : State) (t : State) (b : Nat) (id : _),
      t = received s
      ∧ PldmAt b 2 s
      ∧ (id = 0 ∨ 14 < id))
    ∧ (∃ (s : State) (t : State) (b : Nat) (id : _),
      t = received s
      ∧ PldmAt b 2 s
      ∧ id ≠ 20
      ∧ id ≠ 21)
    ∧ (∃ (s : State) (t : State) (b : Nat),
      t = received s
      ∧ PldmAt b 2 s
      ∧ s.mgt.evq = [])
    ∧ (∃ (s : State) (t : State) (b : Nat) (e : _) (l : _),
      t = received s
      ∧ PldmAt b 2 s
      ∧ s.mgt.evq = e :: l)
    ∧ (∃ (s : State) (t : State) (b : Nat) (e : _) (e' : _) (l : _),
      t = received s
      ∧ PldmAt b 2 s
      ∧ s.mgt.evq = e :: e' :: l) := by
  refine ⟨⟨svc, received svc, 2, ?_⟩,
    ⟨svc, received svc, 2, 0, 0, ?_⟩,
    ⟨svc, received svc, 2, ?_⟩,
    ⟨svc, received svc, 2, ?_⟩,
    ⟨{ svc with rel := { svc.rel with held := true } }, 0, ?_⟩,
    ⟨svc, received svc, 2, 0xFE, ?_⟩,
    ⟨svc, received svc, 2, 0xFF, ?_⟩,
    ⟨svc, received svc, 2, 5, ?_⟩,
    ⟨svc, received svc, 2, 6, ?_⟩,
    ⟨svc, received svc, 2, 5, [0x01, 0x02, 0x10, 0x13, 0x14, 0x15, 0x16, 0x17, 0x18, 0x1A, 0x1B, 0x1C, 0x1D],
      ?_⟩,
    ⟨svc, received svc, 2, 0, 0, [1, 2, 3, 4, 5], ?_⟩,
    ⟨svc, received svc, 2, 6, 0, ?_⟩,
    ⟨svc, received svc, 2, 16, ?_⟩,
    ⟨svc, received svc, 2, 17, ?_⟩,
    ⟨svc, received svc, 2, 5, ?_⟩,
    ⟨svc, received svc, 2, 14, ?_⟩,
    ⟨svc, received svc, 2, 15, ?_⟩,
    ⟨svc, received svc, 2, 22, ?_⟩,
    ⟨svc, received svc, 2, ?_⟩,
    ⟨pldmRequestsAreAnswered1, received pldmRequestsAreAnswered1, 2, { code := 1, realm := 0, job := 0, count := 1, seqNo := 0, rt := 0, unit := 0, data := [] },
      [], ?_⟩,
    ⟨pldmRequestsAreAnswered2, received pldmRequestsAreAnswered2, 2, { code := 1, realm := 0, job := 0, count := 1, seqNo := 0, rt := 0, unit := 0, data := [] },
      { code := 1, realm := 0, job := 0, count := 1, seqNo := 0, rt := 0, unit := 0, data := [] }, [], ?_⟩⟩ <;>
    repeat' (first | with_reducible rfl | (with_reducible refine some_getD1 _ _ ?_) | (with_reducible refine some_getD2 _ _ ?_) | (with_reducible refine mid_false _ ?_) | (with_reducible refine fst_false _ ?_) | refine And.intro ?_ ?_ | decide +kernel | rfl | refine Or.inl ?_ | (rintro _ (rfl | rfl) <;> decide +kernel) | (intros; simp))

abbrev sidebandUpdateFlow1 : State := { svc with rel := { svc.rel with locks := [(15, some { cls := 2, host := true, request := false, res := resStore, grantRt := 0, expect := 1000, covers := [] })] } }
abbrev sidebandUpdateFlow2 : State := { svc with phase := .stopped, flash := { svc.flash with staged := some { image := true, slotB := true, svn := 0, profiles := none } } }
abbrev sidebandUpdateFlow3 : State := { svc with flash := { svc.flash with staged := some { image := true, slotB := true, svn := 0, profiles := none } } }
abbrev sidebandUpdateFlow4 : State := { svc with mgt := { svc.mgt with upd := { st := .ready, expect := [2] } } }
abbrev sidebandUpdateFlow5 : State := { svc with mgt := { svc.mgt with upd := { st := .ready, expect := [1] } } }
abbrev sidebandUpdateFlow6 : State := { svc with mgt := { svc.mgt with upd := { st := .download } } }

/-- Operands and states that meet the hypotheses of `Obligations.SidebandUpdateFlow`, clause by clause. -/
theorem meets_SidebandUpdateFlow :
    (∃ (s : State) (t : State) (b : Nat),
      t = received s
      ∧ PldmAt b 5 s)
    ∧ (∃ (s : State) (u : Upd),
      s.mgt.upd = u
      ∧ domOn s 77 = true
      ∧ cpAway s = false)
    ∧ (∃ (s : State) (t : State) (b : Nat),
      t = received s
      ∧ PldmAt b 5 s
      ∧ s.mgt.upd.st = .idle
      ∧ stageHeld s = false)
    ∧ (∃ (s : State) (t : State) (b : Nat) (n : _),
      t = received s
      ∧ PldmAt b 5 s
      ∧ 32 ≤ n
      ∧ s.phase = .running
      ∧ mntGrants s = true
      ∧ (heldLocks s).length < 16
      ∧ s.flash.staged = none)
    ∧ (∃ (s : State) (t : State) (b : Nat),
      t = received s
      ∧ PldmAt b 5 s
      ∧ (s.mgt.upd.st ≠ .idle ∨ stageHeld s = true))
    ∧ (∃ (s : State) (t : State) (b : Nat),
      t = received s
      ∧ PldmAt b 5 s
      ∧ s.mgt.upd.st = .idle)
    ∧ (∃ (s : State) (t : State) (b : Nat) (l : _),
      t = received s
      ∧ PldmAt b 5 s
      ∧ s.mgt.upd.st = .learn
      ∧ l ≠ []
      ∧ (∀ k ∈ l, k = 1 ∨ k = 2)
      ∧ l.Nodup)
    ∧ (∃ (s : State) (t : State) (b : Nat),
      t = received s
      ∧ PldmAt b 5 s
      ∧ s.mgt.upd.st = .ready
      ∧ 2 ∈ s.mgt.upd.expect
      ∧ 2 ∉ s.mgt.upd.done)
    ∧ (∃ (s : State) (t : State) (b : Nat) (n : _),
      t = received s
      ∧ PldmAt b 5 s
      ∧ s.mgt.upd.st = .ready
      ∧ 1 ∈ s.mgt.upd.expect
      ∧ 1 ∉ s.mgt.upd.done
      ∧ 0 < n
      ∧ n ≤ 28 * mib)
    ∧ (∃ (s : State) (t : State) (b : Nat),
      t = received s
      ∧ PldmAt b 5 s
      ∧ (s.mgt.upd.st = .download ∨ s.mgt.upd.st = .verify ∨ s.mgt.upd.st = .apply))
    ∧ (∃ (s : State) (t : State) (b : Nat),
      t = received s
      ∧ PldmAt b 5 s
      ∧ s.mgt.upd.st ≠ .idle
      ∧ s.mgt.upd.lock = none)
    ∧ (∃ (s : State) (t : State) (b : Nat),
      t = received s
      ∧ PldmAt b 5 s
      ∧ s.flash.staged = none)
    ∧ (∃ (s : State) (t : State) (b : Nat) (x : _),
      t = received s
      ∧ PldmAt b 5 s
      ∧ s.flash.staged = some x
      ∧ s.phase = .running
      ∧ shutBlocked s = false)
    ∧ (∃ (s : State) (t : State) (b : Nat) (x : _),
      t = received s
      ∧ PldmAt b 5 s
      ∧ s.flash.staged = some x
      ∧ s.phase = .stopped)
    ∧ (∃ (s : State) (u : Upd) (data : List Byte),
      s.mgt.upd = u
      ∧ domOn s 77 = true
      ∧ cpAway s = false
      ∧ u.st = .download
      ∧ u.data.length < u.size
      ∧ data.length = min u.chunk (u.size - u.data.length))
    ∧ (∃ (s : State) (u : Upd),
      s.mgt.upd = u
      ∧ domOn s 77 = true
      ∧ cpAway s = false
      ∧ u.st = .download
      ∧ u.size ≤ u.data.length)
    ∧ (∃ (s : State) (u : Upd) (k : _),
      s.mgt.upd = u
      ∧ domOn s 77 = true
      ∧ cpAway s = false
      ∧ u.st = .verify
      ∧ u.comp = 2
      ∧ setFault s (setRecords u.data) = some k)
    ∧ (∃ (s : State) (u : Upd) (x : _) (k : _),
      s.mgt.upd = u
      ∧ domOn s 77 = true
      ∧ cpAway s = false
      ∧ u.st = .verify
      ∧ u.comp = 1
      ∧ imageFault (setFwSlot s (stageSlot s) { x with unbootable := false }) x u.size = some k)
    ∧ (∃ (s : State) (u : Upd),
      s.mgt.upd = u
      ∧ domOn s 77 = true
      ∧ cpAway s = false
      ∧ u.st = .verify
      ∧ u.comp = 2
      ∧ setFault s (setRecords u.data) = none
      ∧ 1 ∈ u.expect
      ∧ 1 ∉ u.done)
    ∧ (∃ (s : State) (u : Upd),
      s.mgt.upd = u
      ∧ domOn s 77 = true
      ∧ cpAway s = false
      ∧ u.st = .verify
      ∧ u.comp = 2
      ∧ setFault s (setRecords u.data) = none
      ∧ u.expect = [2])
    ∧ (∃ (s : State) (u : Upd),
      s.mgt.upd = u
      ∧ domOn s 77 = true
      ∧ cpAway s = false
      ∧ u.st = .apply) := by
  refine ⟨⟨svc, received svc, 2, ?_⟩,
    ⟨svc, {}, ?_⟩,
    ⟨svc, received svc, 2, ?_⟩,
    ⟨svc, received svc, 2, 32, ?_⟩,
    ⟨sidebandUpdateFlow1, received sidebandUpdateFlow1, 2, ?_⟩,
    ⟨svc, received svc, 2, ?_⟩,
    ⟨{ svc with mgt := { svc.mgt with upd := { st := .learn } } },
      received ({ svc with mgt := { svc.mgt with upd := { st := .learn } } }), 2, [1, 2], ?_⟩,
    ⟨sidebandUpdateFlow4, received sidebandUpdateFlow4, 2, ?_⟩,
    ⟨sidebandUpdateFlow5, received sidebandUpdateFlow5, 2, 28 * mib, ?_⟩,
    ⟨sidebandUpdateFlow6, received sidebandUpdateFlow6, 2, ?_⟩,
    ⟨{ svc with mgt := { svc.mgt with upd := { st := .ready } } },
      received ({ svc with mgt := { svc.mgt with upd := { st := .ready } } }), 2, ?_⟩,
    ⟨svc, received svc, 2, ?_⟩,
    ⟨sidebandUpdateFlow3, received sidebandUpdateFlow3, 2, { image := true, slotB := true, svn := 0, profiles := none },
      ?_⟩,
    ⟨sidebandUpdateFlow2, received sidebandUpdateFlow2, 0, { image := true, slotB := true, svn := 0, profiles := none },
      ?_⟩,
    ⟨{ svc with mgt := { svc.mgt with upd := { st := .download, size := 64, chunk := 32 } } }, { st := .download, size := 64, chunk := 32 },
      List.replicate 32 0, ?_⟩,
    ⟨{ svc with mgt := { svc.mgt with upd := { st := .download, size := 0 } } }, { st := .download, size := 0 },
      ?_⟩,
    ⟨{ svc with mgt := { svc.mgt with upd := { st := .verify, comp := 2 } } }, { st := .verify, comp := 2 }, 0,
      ?_⟩,
    ⟨{ svc with mgt := { svc.mgt with upd := { st := .verify, comp := 1, size := 28 * mib + 1 } } },
      { st := .verify, comp := 1, size := 28 * mib + 1 }, {}, 6, ?_⟩,
    ⟨{ svc with mgt := { svc.mgt with upd := { st := .verify, comp := 2, expect := [1, 2], data := profSet } } },
      { st := .verify, comp := 2, expect := [1, 2], data := profSet },by
      exact ⟨rfl, by decide, by decide, rfl, rfl, (setFault_mgt _ _ _).trans profSet_sound, by decide,
      by decide⟩⟩,
    ⟨{ svc with mgt := { svc.mgt with upd := { st := .verify, comp := 2, expect := [2], data := profSet } } },
      { st := .verify, comp := 2, expect := [2], data := profSet },by
      exact ⟨rfl, by decide, by decide, rfl, rfl, (setFault_mgt _ _ _).trans profSet_sound, rfl⟩⟩,
    ⟨{ svc with mgt := { svc.mgt with upd := { st := .apply } } }, { st := .apply }, ?_⟩⟩ <;>
    repeat' (first | with_reducible rfl | (with_reducible refine some_getD1 _ _ ?_) | (with_reducible refine some_getD2 _ _ ?_) | (with_reducible refine mid_false _ ?_) | (with_reducible refine fst_false _ ?_) | refine And.intro ?_ ?_ | decide +kernel | rfl | refine Or.inl ?_ | (rintro _ (rfl | rfl) <;> decide +kernel) | (intros; simp))

abbrev telemetryAndTheEventLog1 : State := { svc with mgt := { svc.mgt with hwq := [{ code := 1, realm := 0, job := 0, count := 1, seqNo := 0, rt := 0, unit := 0, data := [] }] } }

/-- Operands and states that meet the hypotheses of `Obligations.TelemetryAndTheEventLog`, clause by clause. -/
theorem meets_TelemetryAndTheEventLog :
    (∃ (s : State) (_i : TelIn),
      domOn s 78 = true)
    ∧ (∃ (s : State),
      domOn s 78 = true
      ∧ s.mgt.windowCnt ≠ 0)
    ∧ (∃ (s : State),
      domOn s 78 = true
      ∧ s.mgt.windowCnt = 0)
    ∧ (∃ (s : State),
      cpRuns s = true
      ∧ domOn s 76 = true
      ∧ s.mgt.lost = 0
      ∧ s.mgt.log.length + s.mgt.hwq.length ≤ 8192)
    ∧ (∃ (s : State) (e : Ev),
      s.mgt.hwq = [e]
      ∧ s.mgt.lost = 0
      ∧ cpRuns s = true
      ∧ domOn s 76 = true)
    ∧ (∃ (s : State) (_i : TelIn),
      tenantOpen s = false)
    ∧ (∃ (s : State),
      domOn s 78 = true
      ∧ s.mgt.windowCnt ≠ 0
      ∧ powerCoarse s = false)
    ∧ (∃ (s : State),
      domOn s 78 = true
      ∧ s.mgt.windowCnt ≠ 0
      ∧ powerCoarse s = true) := by
  refine ⟨⟨svc, { vin := 36000 }, ?_⟩,
    ⟨{ svc with mgt := { svc.mgt with windowCnt := 100 } }, ?_⟩,
    ⟨svc, ?_⟩,
    ⟨telemetryAndTheEventLog1, ?_⟩,
    ⟨telemetryAndTheEventLog1, { code := 1, realm := 0, job := 0, count := 1, seqNo := 0, rt := 0, unit := 0, data := [] },
      ?_⟩,
    ⟨svc, { vin := 36000 }, ?_⟩,
    ⟨{ svc with mgt := { svc.mgt with windowCnt := 100 } }, ?_⟩,
    ⟨{ svc with mgt := { svc.mgt with windowCnt := 100 }, sec := { r1 := { st := .keyed }, r2 := { st := .opened } } },
      ?_⟩⟩ <;>
    repeat' (first | with_reducible rfl | (with_reducible refine some_getD1 _ _ ?_) | (with_reducible refine some_getD2 _ _ ?_) | (with_reducible refine mid_false _ ?_) | (with_reducible refine fst_false _ ?_) | refine And.intro ?_ ?_ | decide +kernel | rfl | refine Or.inl ?_ | (rintro _ (rfl | rfl) <;> decide +kernel) | (intros; simp))

/-- Operands and states that meet the hypotheses of `Obligations.ShutdownPowersOffInTheReverseOrder`, clause by clause. -/
theorem meets_ShutdownPowersOffInTheReverseOrder :
    (∃ (s : State) (h : Shutdown) (n : Nat) (ns : List Nat),
      s.shut = some h
      ∧ h.item = 6
      ∧ (powerOrder s).reverse = n :: ns
      ∧ (dom s n).st = .on)
    ∧ (∃ (s : State) (n : Nat) (m : Nat) (ns : List Nat),
      s.pseq = some { up := false, todo := n :: m :: ns, why := .shutdown }
      ∧ domPresent s n = true
      ∧ (dom s n).st = .disabling
      ∧ (dom s m).st = .on
      ∧ n ≠ m) := by
  refine ⟨⟨{ svc with shut := some { target := .dormant, force := false, port := none, no := 0, item := 6 } },
      { target := .dormant, force := false, port := none, no := 0, item := 6 }, 67,
      (powerOrder svc).reverse.tail, ?_⟩,
    ⟨{ domAs 67 .disabling svc with pseq := some { up := false, todo := [67, 66, 65], why := .shutdown } }, 67,
      66, [65], ?_⟩⟩ <;>
    repeat' (first | with_reducible rfl | (with_reducible refine some_getD1 _ _ ?_) | (with_reducible refine some_getD2 _ _ ?_) | (with_reducible refine mid_false _ ?_) | (with_reducible refine fst_false _ ?_) | refine And.intro ?_ ?_ | decide +kernel | rfl | refine Or.inl ?_ | (rintro _ (rfl | rfl) <;> decide +kernel) | (intros; simp))

/-- Operands and states that meet the hypotheses of `Obligations.DomainControlActsOnlyOnItsDomains`, clause by clause. -/
theorem meets_DomainControlActsOnlyOnItsDomains :
    (∃ (s : State) (c : Cmd) (e : InFlight) (n : Nat),
      FromSteward 0x0106 7 c e s
      ∧ blkOn s baseSEC = true
      ∧ e.desc.a1.toNat < 2 ^ 16
      ∧ e.desc.a2.toNat < 2
      ∧ n ∈ namedDoms e.desc
      ∧ 68 ≤ n
      ∧ n ≠ 69
      ∧ n ≠ 70)
    ∧ (∃ (s : State) (t : State) (c : Cmd) (n : Nat),
      s.pwait = []
      ∧ exec (.domainControl c) s = .next t
      ∧ 68 ≤ n
      ∧ n ≠ 69
      ∧ n ≠ 70) := by
  refine ⟨⟨withCmd 0 (entryOf 0x106 0 [0, 0x8010, 0]) (svc), cmdOf 0 (entryOf 0x106 0 [0, 0x8010, 0]),
      entryOf 0x106 0 [0, 0x8010, 0], 68, ?_⟩,
    ⟨withCmd 0 (entryOf 0x106 0 [0, 0x8008, 0]) (svc), after (exec (.domainControl (cmdOf 0 (entryOf 0x106 0 [0,
      0x8008, 0]))) (withCmd 0 (entryOf 0x106 0 [0, 0x8008, 0]) (svc))), cmdOf 0 (entryOf 0x106 0 [0, 0x8008,
      0]), 79,by
      refine ⟨by decide +kernel, rfl, by decide, by decide, by decide⟩⟩⟩ <;>
    repeat' (first | with_reducible rfl | (with_reducible refine some_getD1 _ _ ?_) | (with_reducible refine some_getD2 _ _ ?_) | (with_reducible refine mid_false _ ?_) | (with_reducible refine fst_false _ ?_) | refine And.intro ?_ ?_ | decide +kernel | rfl | refine Or.inl ?_ | (rintro _ (rfl | rfl) <;> decide +kernel) | (intros; simp))

abbrev eventsFoldIntoTheFirstRecord1 : State := { svc with mgt := { svc.mgt with hwq := [{ code := 1, realm := 0, job := 0, count := 1, seqNo := 0, rt := 0, unit := 0, data := [] }, { code := 7, realm := 0, job := 1, count := 1, seqNo := 0, rt := 0, unit := 9, data := [] }] } }
abbrev eventsFoldIntoTheFirstRecord2 : State := { svc with mgt := { svc.mgt with log := [{ code := 1, realm := 0, job := 0, count := 1, seqNo := 0, rt := 0, unit := 0, data := [] }, { code := 7, realm := 0, job := 1, count := 1, seqNo := 0, rt := 0, unit := 9, data := [] }] } }

/-- Operands and states that meet the hypotheses of `Obligations.EventsFoldIntoTheFirstRecord`, clause by clause. -/
theorem meets_EventsFoldIntoTheFirstRecord :
    (∃ (s : State) (t : State) (fold : Nat) (code : Nat) (realm : Byte) (job : W16) (unit : W64) (data : List W64) (hit : Ev → Prop),
      0 < fold
      ∧ t = logFold fold code realm job unit data s
      ∧ (∀ x, hit x ↔ x.code = BitVec.ofNat 16 code ∧ x.unit = unit ∧ x.job = job ∧ (rtNow s).toNat - fold ≤ x.rt.toNat))
    ∧ (∃ (s : State) (t : State) (fold : Nat) (code : Nat) (realm : Byte) (job : W16) (unit : W64) (data : List W64) (hit : Ev → Prop) (e : _) (pre : _) (post : _),
      0 < fold
      ∧ t = logFold fold code realm job unit data s
      ∧ (∀ x, hit x ↔ x.code = BitVec.ofNat 16 code ∧ x.unit = unit ∧ x.job = job ∧ (rtNow s).toNat - fold ≤ x.rt.toNat)
      ∧ s.mgt.hwq = pre ++ e :: post
      ∧ (∀ x ∈ pre, ¬hit x)
      ∧ hit e)
    ∧ (∃ (s : State) (t : State) (fold : Nat) (code : Nat) (realm : Byte) (job : W16) (unit : W64) (data : List W64) (hit : Ev → Prop) (e : _) (pre : _) (post : _),
      0 < fold
      ∧ t = logFold fold code realm job unit data s
      ∧ (∀ x, hit x ↔ x.code = BitVec.ofNat 16 code ∧ x.unit = unit ∧ x.job = job ∧ (rtNow s).toNat - fold ≤ x.rt.toNat)
      ∧ s.mgt.log = pre ++ e :: post
      ∧ (∀ x ∈ s.mgt.hwq ++ pre, ¬hit x)
      ∧ hit e)
    ∧ (∃ (s : State) (t : State) (fold : Nat) (code : Nat) (realm : Byte) (job : W16) (unit : W64) (data : List W64) (hit : Ev → Prop),
      0 < fold
      ∧ t = logFold fold code realm job unit data s
      ∧ (∀ x, hit x ↔ x.code = BitVec.ofNat 16 code ∧ x.unit = unit ∧ x.job = job ∧ (rtNow s).toNat - fold ≤ x.rt.toNat)
      ∧ (∀ x ∈ s.mgt.hwq ++ s.mgt.log, ¬hit x)
      ∧ s.mgt.hwq.length < 1024) := by
  refine ⟨⟨svc, logFold 5 7 0 1 9 [] svc, 5, 7, 0, 1, 9, [],
      fun x => x.code = 7 ∧ x.unit = 9 ∧ x.job = 1 ∧ (rtNow svc).toNat - 5 ≤ x.rt.toNat,by
      exact ⟨by decide, rfl, fun _ => Iff.rfl⟩⟩,
    ⟨eventsFoldIntoTheFirstRecord1, logFold 5 7 0 1 9 [] eventsFoldIntoTheFirstRecord1, 5, 7, 0, 1, 9, [],
      fun x => x.code = 7 ∧ x.unit = 9 ∧ x.job = 1 ∧ (rtNow eventsFoldIntoTheFirstRecord1).toNat - 5 ≤ x.rt.toNat,
      { code := 7, realm := 0, job := 1, count := 1, seqNo := 0, rt := 0, unit := 9, data := [] }, [{ code := 1, realm := 0, job := 0, count := 1, seqNo := 0, rt := 0, unit := 0, data := [] }],
      [],by
      exact ⟨by decide, rfl, fun _ => Iff.rfl, rfl, by simp, by decide⟩⟩,
    ⟨eventsFoldIntoTheFirstRecord2, logFold 5 7 0 1 9 [] eventsFoldIntoTheFirstRecord2, 5, 7, 0, 1, 9, [],
      fun x => x.code = 7 ∧ x.unit = 9 ∧ x.job = 1 ∧ (rtNow eventsFoldIntoTheFirstRecord2).toNat - 5 ≤ x.rt.toNat,
      { code := 7, realm := 0, job := 1, count := 1, seqNo := 0, rt := 0, unit := 9, data := [] }, [{ code := 1, realm := 0, job := 0, count := 1, seqNo := 0, rt := 0, unit := 0, data := [] }],
      [],by
      exact ⟨by decide, rfl, fun _ => Iff.rfl, rfl,(by
        intro x hx
        have h : x ∈ [({ code := 1, realm := 0, job := 0, count := 1, seqNo := 0, rt := 0, unit := 0,data := [] } : Ev)] := hx
        cases h with
        | head => decide
        | tail _ h => cases h), by decide⟩⟩,
    ⟨svc, logFold 5 7 0 1 9 [] (svc), 5, 7, 0, 1, 9, [],
      fun x => x.code = 7 ∧ x.unit = 9 ∧ x.job = 1 ∧ (rtNow (svc)).toNat - 5 ≤ x.rt.toNat,by
      exact ⟨by decide, rfl, fun _ => Iff.rfl, (by intro x h; cases h), by decide⟩⟩⟩

/-- Operands and states that meet the hypotheses of `Obligations.MemoryMapKeepsGranulesApart`, clause by clause. -/
theorem meets_MemoryMapKeepsGranulesApart :
    (∃ (s : State) (d : Nat) (o : Nat),
      o < 2 ^ 38
      ∧ (∀ q < 80, chanRetired s d q = false))
    ∧ (∃ (s : State) (d : Nat) (a : Nat) (b : Nat),
      a < 2 ^ 38
      ∧ b < 2 ^ 38
      ∧ backed s d a = true
      ∧ backed s d b = true
      ∧ rawPlace s d a = rawPlace s d b)
    ∧ (∃ (s : State) (d : Nat) (o : Nat) (stk : Nat) (ch : Nat) (raw : Nat),
      o < 2 ^ 38
      ∧ backed s d o = true
      ∧ rawPlace s d o = (stk, ch, raw)) := by
  refine ⟨⟨svc, 7, 2 ^ 38 - 1, ?_⟩,
    ⟨svc, 7, 64, 127,by
      refine ⟨by decide, by decide, by decide +kernel, by decide +kernel, by decide +kernel⟩⟩,
    ⟨svc, 7, 64, (rawPlace svc 7 64).1, (rawPlace svc 7 64).2.1, (rawPlace svc 7 64).2.2,by
      refine ⟨by decide, by decide +kernel, rfl⟩⟩⟩ <;>
    repeat' (first | with_reducible rfl | (with_reducible refine some_getD1 _ _ ?_) | (with_reducible refine some_getD2 _ _ ?_) | (with_reducible refine mid_false _ ?_) | (with_reducible refine fst_false _ ?_) | refine And.intro ?_ ?_ | decide +kernel | rfl | refine Or.inl ?_ | (rintro _ (rfl | rfl) <;> decide +kernel) | (intros; simp))

/-- Operands and states that meet the hypotheses of `Obligations.StepRunsTheFrontCommand`, clause by clause. -/
theorem meets_StepRunsTheFrontCommand :
    (∃ (c : Instr) (rest : List Instr) (s : State),
      s.pending = c :: rest)
    ∧ (∃ (s : State),
      s.pending = [])
    ∧ (∃ (s : State),
      (∀ r, (realmOf s r).sweeping = false)
      ∧ (∀ e ∈ s.stk, e.2.training = false)
      ∧ tok {} s.stk = true) := by
  refine ⟨⟨.tileNop 7 47 24 0, [], { tiled 0 { pc := 1022 } with pending := [.tileNop 7 47 24 0] }, ?_⟩,
    ⟨svc, ?_⟩,
    ⟨svc,by
      refine ⟨?_, ?_,rfl⟩
      · intro r
        simp only [realmOf]
        split <;> rfl
      · intro e h
        cases h⟩⟩ <;>
    repeat' (first | with_reducible rfl | (with_reducible refine some_getD1 _ _ ?_) | (with_reducible refine some_getD2 _ _ ?_) | (with_reducible refine mid_false _ ?_) | (with_reducible refine fst_false _ ?_) | refine And.intro ?_ ?_ | decide +kernel | rfl | refine Or.inl ?_ | (rintro _ (rfl | rfl) <;> decide +kernel) | (intros; simp))

abbrev everyStepKeepsTheInvariant1 : State := { tiled 0 { pc := 1022 } with pending := [.tileNop 7 47 24 0] }

/-- Operands and states that meet the hypotheses of `Obligations.EveryStepKeepsTheInvariant`, clause by clause. -/
theorem meets_EveryStepKeepsTheInvariant :
    (∃ (s : State) (t : State),
      Inv s
      ∧ step s = .next t) := by
  refine ⟨everyStepKeepsTheInvariant1,
      setCore { everyStepKeepsTheInvariant1 with pending := [] } 7 47 24 { pc := 1023, slot := 1, task := some ctask0 },by
      exact ⟨⟨by decide +kernel, by decide, by decide, by decide, by decide⟩, rfl⟩⟩

abbrev telemetryLogsProfilingAndDebug1 : State := { svc with mgt := { svc.mgt with sess := [{ port := 0, ring := 0, mask := 1, period := 1250, addr := 0, len := 64, written := 0, stepEnds := 1 }] } }
abbrev telemetryLogsProfilingAndDebug2 : State := withCmd 0 (entryOf 0x704 0 [2 ^ 63 + 2 ^ 32 - 1, 64, 192]) (svc)

/-- Operands and states that meet the hypotheses of `Obligations.TelemetryLogsProfilingAndDebug`, clause by clause. -/
theorem meets_TelemetryLogsProfilingAndDebug :
    (∃ (s : State) (c : Cmd) (e : InFlight) (n : Nat),
      (FromSteward 0x0701 7 c e s ∨ FromTelemetry 0x0701 7 c e s)
      ∧ [256, 1280, 256, 512, 1280, 1024, 288, 128][e.desc.a0.toNat]? = some n
      ∧ badBuf e.desc 1 n = none)
    ∧ (∃ (s : State) (c : Cmd) (e : InFlight) (slot : Nat) (j : Job) (x : Summary),
      FromRealm c.ring 0x0702 7 c e s
      ∧ jobOf c.ring e.desc.a0 s = some slot
      ∧ jobAt s slot = some j
      ∧ badBuf e.desc 1 8256 = none
      ∧ j.summary = some x)
    ∧ (∃ (s : State) (c : Cmd) (e : InFlight),
      (FromSteward 0x0703 7 c e s ∨ FromTelemetry 0x0703 7 c e s)
      ∧ e.desc.a0.toNat < 1024
      ∧ badBuf e.desc 1 0 = none)
    ∧ (∃ (s : State) (c : Cmd) (e : InFlight) (l : List (Nat × List Byte)),
      (FromOperator 0x0704 7 c e s ∨ FromTelemetry 0x0704 7 c e s ∨ FromRealm c.ring 0x0704 7 c e s)
      ∧ bit e.desc.a0 63 = false
      ∧ badBuf e.desc 1 192 = none
      ∧ l = logFrom s (ringRealm c.ring) (max e.desc.a0.toNat (logOldest s)) ((e.desc.a2.toNat - 64) / 128))
    ∧ (∃ (s : State) (c : Cmd) (e : InFlight) (l : List (Nat × List Byte)) (start : Nat),
      (FromOperator 0x0704 7 c e s ∨ FromTelemetry 0x0704 7 c e s ∨ FromRealm c.ring 0x0704 7 c e s)
      ∧ bit e.desc.a0 63 = true
      ∧ fld e.desc.a0 32 31 = 0
      ∧ badBuf e.desc 1 192 = none
      ∧ start = journalIndex s (fld e.desc.a0 0 32)
      ∧ l = journalFrom s (ringRealm c.ring) start ((e.desc.a2.toNat - 64) / 128))
    ∧ (∃ (s : State) (c : Cmd) (e : InFlight),
      (FromOperator 0x0705 7 c e s ∨ FromTelemetry 0x0705 7 c e s)
      ∧ e.desc.a0.toNat < 4
      ∧ badBuf e.desc 1 4096 = none)
    ∧ (∃ (s : State) (c : Cmd) (e : InFlight) (r : Nat),
      FromHost r 0x0801 15 c e s
      ∧ e.desc.a0 ≠ 0
      ∧ e.desc.a0.toNat < 256
      ∧ (r ≠ 0 → fld e.desc.a0 5 3 = 0)
      ∧ 1250 ≤ e.desc.a1.toNat
      ∧ badBuf e.desc 2 0 = none
      ∧ sessOf s c.port c.ring = none)
    ∧ (∃ (s : State) (c : Cmd) (e : InFlight) (r : Nat) (x : ProfSess),
      FromHost r 0x0801 15 c e s
      ∧ e.desc.a0 ≠ 0
      ∧ e.desc.a0.toNat < 256
      ∧ (r ≠ 0 → fld e.desc.a0 5 3 = 0)
      ∧ 1250 ≤ e.desc.a1.toNat
      ∧ badBuf e.desc 2 0 = none
      ∧ sessOf s c.port c.ring = some x)
    ∧ (∃ (s : State) (c : Cmd) (e : InFlight) (r : Nat) (x : ProfSess),
      FromHost r 0x0802 0 c e s
      ∧ sessOf s c.port c.ring = some x)
    ∧ (∃ (s : State) (p : Nat) (r : Nat) (data : List Byte) (x : ProfSess),
      sessOf s p r = some x
      ∧ (r = 0 → tenantOpen s = true → fld x.mask 0 5 ≠ 0 → x.stepEnds ≠ 0)
      ∧ x.written.toNat + data.length ≤ x.len.toNat)
    ∧ (∃ (s : State) (p : Nat) (r : Nat) (data : List Byte) (x : ProfSess),
      sessOf s p r = some x
      ∧ (r = 0 → tenantOpen s = true → fld x.mask 0 5 ≠ 0 → x.stepEnds ≠ 0)
      ∧ x.len.toNat < x.written.toNat + data.length)
    ∧ (∃ (s : State) (c : Cmd) (e : InFlight),
      FromSteward 0x0803 1 c e s
      ∧ blkOn s baseSEC = true
      ∧ e.desc.a0 ≠ 0
      ∧ e.desc.a0.toNat < 64
      ∧ tenantOpen s = false
      ∧ s.sec.dbgOpen = false)
    ∧ (∃ (s : State) (c : Cmd) (e : InFlight),
      FromSteward 0x0804 0 c e s
      ∧ blkOn s baseSEC = true
      ∧ s.sec.dbgOpen = true) := by
  refine ⟨⟨withCmd 0 (entryOf 0x701 0 [7, 64, 128]) (svc), cmdOf 0 (entryOf 0x701 0 [7, 64, 128]), entryOf 0x701 0 [7,
      64, 128], 128, ?_⟩,
    ⟨withCmd 1 (entryOf 0x702 1 [1, 64, 8256]) (keyed { svc with jobA := some { jobAd with realm := 1, summary := some { job := 1, outcome := 0, localFlag := false, aggFlag := false, spike := false, recompute := false, step := 0, loss := 0, ema := 0, entries := [], scales := [] } } }),
      cmdOf 1 (entryOf 0x702 1 [1, 64, 8256]), entryOf 0x702 1 [1, 64, 8256], 0, { jobAd with realm := 1, summary := some { job := 1, outcome := 0, localFlag := false, aggFlag := false, spike := false, recompute := false, step := 0, loss := 0, ema := 0, entries := [], scales := [] } },
      { job := 1, outcome := 0, localFlag := false, aggFlag := false, spike := false, recompute := false, step := 0, loss := 0, ema := 0, entries := [], scales := [] },
      ?_⟩,
    ⟨withCmd 0 (entryOf 0x703 0 [1023, 64, 0]) (svc), cmdOf 0 (entryOf 0x703 0 [1023, 64, 0]),
      entryOf 0x703 0 [1023, 64, 0], ?_⟩,
    ⟨withCmd 0 (entryOf 0x704 0 [0, 64, 192]) (svc), cmdOf 0 (entryOf 0x704 0 [0, 64, 192]), entryOf 0x704 0 [0,
      64, 192], logFrom (withCmd 0 (entryOf 0x704 0 [0, 64, 192]) (svc)) 0 0 1, ?_⟩,
    ⟨telemetryLogsProfilingAndDebug2, cmdOf 0 (entryOf 0x704 0 [2 ^ 63 + 2 ^ 32 - 1, 64, 192]),
      entryOf 0x704 0 [2 ^ 63 + 2 ^ 32 - 1, 64, 192],
      journalFrom telemetryLogsProfilingAndDebug2 0 (journalIndex telemetryLogsProfilingAndDebug2 0xFFFFFFFF) 1,
      journalIndex telemetryLogsProfilingAndDebug2 0xFFFFFFFF, ?_⟩,
    ⟨withCmd 0 (entryOf 0x705 0 [3, 64, 4096]) (svc), cmdOf 0 (entryOf 0x705 0 [3, 64, 4096]),
      entryOf 0x705 0 [3, 64, 4096], ?_⟩,
    ⟨withCmd 0 (entryOf 0x801 0 [255, 1250, 64, 64]) (svc), cmdOf 0 (entryOf 0x801 0 [255, 1250, 64, 64]),
      entryOf 0x801 0 [255, 1250, 64, 64], 0, ?_⟩,
    ⟨withCmd 0 (entryOf 0x801 0 [1, 1250, 64, 64]) telemetryLogsProfilingAndDebug1, cmdOf 0 (entryOf 0x801 0 [1,
      1250, 64, 64]), entryOf 0x801 0 [1, 1250, 64, 64], 0, { port := 0, ring := 0, mask := 1, period := 1250, addr := 0, len := 64, written := 0, stepEnds := 1 },
      ?_⟩,
    ⟨withCmd 0 (entryOf 0x802 0 []) telemetryLogsProfilingAndDebug1, cmdOf 0 (entryOf 0x802 0 []),
      entryOf 0x802 0 [], 0, { port := 0, ring := 0, mask := 1, period := 1250, addr := 0, len := 64, written := 0, stepEnds := 1 },
      ?_⟩,
    ⟨telemetryLogsProfilingAndDebug1, 0, 0, List.replicate 64 0, { port := 0, ring := 0, mask := 1, period := 1250, addr := 0, len := 64, written := 0, stepEnds := 1 },
      ?_⟩,
    ⟨telemetryLogsProfilingAndDebug1, 0, 0, List.replicate 65 0, { port := 0, ring := 0, mask := 1, period := 1250, addr := 0, len := 64, written := 0, stepEnds := 1 },
      ?_⟩,
    ⟨withCmd 0 (entryOf 0x803 0 [63]) (svc), cmdOf 0 (entryOf 0x803 0 [63]), entryOf 0x803 0 [63], ?_⟩,
    ⟨withCmd 0 (entryOf 0x804 0 []) ({ svc with sec := { svc.sec with dbgOpen := true } }),
      cmdOf 0 (entryOf 0x804 0 []), entryOf 0x804 0 [], ?_⟩⟩ <;>
    repeat' (first | with_reducible rfl | (with_reducible refine some_getD1 _ _ ?_) | (with_reducible refine some_getD2 _ _ ?_) | (with_reducible refine mid_false _ ?_) | (with_reducible refine fst_false _ ?_) | refine And.intro ?_ ?_ | decide +kernel | rfl | refine Or.inl ?_ | (rintro _ (rfl | rfl) <;> decide +kernel) | (intros; simp))

abbrev sentinelChecksAndTakeovers1 : State := { svc with rel := { svc.rel with locks := [(15, some { cls := 5, host := true, request := false, res := resCore 7 47 24, grantRt := 0, expect := 1000, covers := [] })] } }

/-- Operands and states that meet the hypotheses of `Obligations.SentinelChecksAndTakeovers`, clause by clause. -/
theorem meets_SentinelChecksAndTakeovers :
    (∃ (s : State) (d : Nat) (c : Nat) (k : Nat) (x : Check),
      s.rel.checks.find? (fun x => x.die == d && x.cluster == c && x.core == k && x.ended) = some x)
    ∧ (∃ (s : State) (d : Nat) (c : Nat) (k : Nat) (_diff : Option DiffIn),
      s.rel.checks.find? (fun x => x.die == d && x.cluster == c && x.core == k && x.ended) = none)
    ∧ (∃ (s : State) (d : Nat) (c : Nat) (k : Nat) (h : Nat),
      d < 8
      ∧ c < 48
      ∧ k < 25
      ∧ coreMarked s (coreKey d c k) = true
      ∧ spareLock s d c k = some h
      ∧ (Machine.core s d c k).task = none
      ∧ (Machine.core s d c k).pendTask = none
      ∧ (dieStarted s d (fun _ => true) = false ∨ dieTurns s d = true ∨ dieStarted s d inSolstice = true))
    ∧ (∃ (s : State) (d : Nat) (c : Nat) (k : Nat),
      d < 8
      ∧ c < 48
      ∧ k < 25
      ∧ coreMarked s (coreKey d c k) = true
      ∧ spareLock s d c k = none
      ∧ dieStarted s d (fun _ => true) = true)
    ∧ (∃ (s : State) (d : Nat) (c : Nat) (k : Nat) (h : Nat),
      coreMarked s (coreKey d c k) = true
      ∧ spareLock s d c k = some h
      ∧ dieStarted s d (fun _ => true) = true
      ∧ dieTurns s d = false
      ∧ dieStarted s d inSolstice = false)
    ∧ (∃ (s : State) (d : Nat) (c : Nat) (k : Nat),
      coreMarked s (coreKey d c k) = false)
    ∧ (∃ (s : State) (d : Nat) (c : Nat) (k : Nat) (h : Nat),
      d < 8
      ∧ c < 48
      ∧ k < 25
      ∧ coreMarked s (coreKey d c k) = true
      ∧ spareLock s d c k = some h
      ∧ (Machine.core s d c k).task = none
      ∧ (Machine.core s d c k).pendTask = none
      ∧ (dieStarted s d (fun _ => true) = false ∨ dieTurns s d = true ∨ dieStarted s d inSolstice = true)
      ∧ cpRuns s = true)
    ∧ (∃ (s : State) (d : Nat) (c : Nat) (k : Nat) (h : Nat),
      d < 8
      ∧ c < 48
      ∧ k < 25
      ∧ coreMarked s (coreKey d c k) = true
      ∧ spareLock s d c k = some h
      ∧ (Machine.core s d c k).task = none
      ∧ (Machine.core s d c k).pendTask = none
      ∧ (dieStarted s d (fun _ => true) = false ∨ dieTurns s d = true ∨ dieStarted s d inSolstice = true)
      ∧ cpRuns s = false) := by
  refine ⟨⟨{ svc with rel := { svc.rel with checks := [{ die := 7, cluster := 47, slot := 1, core := 23, checker := 24, tag := 0, job := 1, rt := 0, ended := true }] } },
      7, 47, 23, { die := 7, cluster := 47, slot := 1, core := 23, checker := 24, tag := 0, job := 1, rt := 0, ended := true },
      ?_⟩,
    ⟨svc, 7, 47, 23, none, ?_⟩,
    ⟨{ sentinelChecksAndTakeovers1 with flash := { svc.flash with marks := [(coreKey 7 47 24, 0)] } }, 7, 47, 24,
      15, ?_⟩,
    ⟨{ svc with flash := { svc.flash with marks := [(coreKey 7 47 24, 0)] }, jobA := some { jobAd with started := true, adm := { adm0 with dieMask := 128 } } },
      7, 47, 24, ?_⟩,
    ⟨{ { sentinelChecksAndTakeovers1 with flash := { svc.flash with marks := [(coreKey 7 47 24, 0)] } } with jobA := some { jobAd with started := true, adm := { adm0 with dieMask := 128 } } },
      7, 47, 24, 15, ?_⟩,
    ⟨svc, 7, 47, 24, ?_⟩,
    ⟨{ sentinelChecksAndTakeovers1 with flash := { svc.flash with marks := [(coreKey 7 47 24, 0)] } }, 7, 47, 24,
      15, ?_⟩,
    ⟨{ { sentinelChecksAndTakeovers1 with flash := { svc.flash with marks := [(coreKey 7 47 24, 0)] } } with rel := { ({ sentinelChecksAndTakeovers1 with flash := { svc.flash with marks := [(coreKey 7 47 24, 0)] } }).rel with restarting := true } },
      7, 47, 24, 15, ?_⟩⟩ <;>
    repeat' (first | with_reducible rfl | (with_reducible refine some_getD1 _ _ ?_) | (with_reducible refine some_getD2 _ _ ?_) | (with_reducible refine mid_false _ ?_) | (with_reducible refine fst_false _ ?_) | refine And.intro ?_ ?_ | decide +kernel | rfl | refine Or.inl ?_ | (rintro _ (rfl | rfl) <;> decide +kernel) | (intros; simp))

abbrev maintenanceLocksAndAutumnPasses1 : State := { svc with rel := { svc.rel with locks := [(15, some { cls := 0, host := true, request := true, res := resId 1 0xFF 0 0 0, grantRt := 0, expect := 1000, covers := [] })] } }
abbrev maintenanceLocksAndAutumnPasses2 : State := { svc with rel := { svc.rel with autumn := { running := true, slices := [(3, resLaser 9)] }, locks := [(15, some { cls := 0, host := false, request := false, res := resLaser 9, grantRt := 0, expect := 0, covers := [] })] } }
abbrev maintenanceLocksAndAutumnPasses3 : State := { svc with rel := { svc.rel with autumn := { running := true, slices := [(3, resLaser 9)] } } }
abbrev maintenanceLocksAndAutumnPasses4 : State := { svc with rel := { svc.rel with autumn := { running := true, order := 3 } } }
abbrev maintenanceLocksAndAutumnPasses5 : State := { svc with rel := { svc.rel with autumn := { stepMhz := some 1800 } } }

/-- Operands and states that meet the hypotheses of `Obligations.MaintenanceLocksAndAutumnPasses`, clause by clause. -/
theorem meets_MaintenanceLocksAndAutumnPasses :
    (∃ (s : State) (k : Nat) (l : Lock),
      lockAt s k = some l)
    ∧ (∃ (s : State) (k : Nat) (l : Lock),
      lockAt s k = some l
      ∧ l.cls ≠ 0
      ∧ l.cls ≠ 1
      ∧ l.cls ≠ 3)
    ∧ (∃ (s : State) (q : LockReq),
      mntGrants s = true
      ∧ cpRuns s = true
      ∧ (heldLocks s).length < 16
      ∧ q.cls ≠ 5
      ∧ s.rel.queue.head? = some q
      ∧ lockClash q.cls q.res s = none)
    ∧ (∃ (s : State) (t : State) (cls : Nat) (r : W64),
      mntGrants s = true
      ∧ cpRuns s = true
      ∧ (heldLocks s).length < 16
      ∧ lockClash cls r s = none
      ∧ ({ cls, res := r } : LockReq) ∉ s.rel.queue
      ∧ askLock cls r s = t)
    ∧ (∃ (s : State),
      cpRuns s = false)
    ∧ (∃ (s : State),
      agePeriod s ≠ 0
      ∧ s.rel.autumn.running = false
      ∧ blkOn s baseAGE = true
      ∧ s.phase = .running
      ∧ cpRuns s = true)
    ∧ (∃ (s : State) (order : Nat) (r : W64) (_i : SliceIn),
      s.rel.autumn.running = true
      ∧ cpRuns s = true
      ∧ blkOn s baseAGE = true
      ∧ sliceFits s order r = true
      ∧ s.rel.autumn.order ≤ order
      ∧ s.rel.autumn.slices = [])
    ∧ (∃ (s : State) (u : State) (r : W64) (order : Nat),
      cpRuns s = true
      ∧ s.rel.autumn.slices = [(order, r)]
      ∧ u = { s with rel := { s.rel with autumn := if order = 8 then { stepMhz := s.rel.autumn.stepMhz } else { s.rel.autumn with slices := [] } } })
    ∧ (∃ (s : State) (m : Nat) (target : Nat),
      s.rel.autumn.stepMhz = some m
      ∧ target = (planInForce s).clockKhz / 1000)
    ∧ (∃ (s : State) (k : Nat) (l : Lock),
      lockAt s k = some l
      ∧ l.request = true
      ∧ cpRuns s = true
      ∧ l.grantRt.toNat + maxHours s * 3600 * ticksSec ≤ (rtNow s).toNat)
    ∧ (∃ (s : State) (k : Nat) (l : Lock),
      lockAt s k = some l
      ∧ l.request = true
      ∧ (rtNow s).toNat < l.grantRt.toNat + maxHours s * 3600 * ticksSec)
    ∧ (∃ (s : State) (k : Nat) (l : Lock),
      lockAt s k = some l
      ∧ l.host = true
      ∧ l.request = false
      ∧ cpRuns s = true
      ∧ (l.cls ≠ 5 ∨ markedIn s l.res = false)
      ∧ s.mgt.upd.lock ≠ some k)
    ∧ (∃ (s : State) (k : Nat) (l : Lock),
      lockAt s k = some l
      ∧ cpRuns s = false)
    ∧ (∃ (s : State) (order : Nat) (r : W64) (_i : SliceIn),
      s.rel.autumn.running = true
      ∧ cpRuns s = true
      ∧ blkOn s baseAGE = true
      ∧ sliceFits s order r = true
      ∧ s.rel.autumn.order ≤ order
      ∧ s.rel.autumn.slices = []
      ∧ sweepLock s r = true)
    ∧ (∃ (s : State) (order : Nat) (r : W64) (_i : SliceIn) (s1 : _),
      s.rel.autumn.running = true
      ∧ cpRuns s = true
      ∧ blkOn s baseAGE = true
      ∧ sliceFits s order r = true
      ∧ s.rel.autumn.order ≤ order
      ∧ s.rel.autumn.slices = []
      ∧ sweepLock s r = false
      ∧ s1 = askLock 0 r s
      ∧ sweepLock s1 r = true)
    ∧ (∃ (s : State) (order : Nat) (r : W64) (_i : SliceIn),
      s.rel.autumn.running = true
      ∧ cpRuns s = true
      ∧ blkOn s baseAGE = true
      ∧ sliceFits s order r = true
      ∧ s.rel.autumn.order ≤ order
      ∧ s.rel.autumn.slices = []
      ∧ sweepLock s r = false
      ∧ sweepLock (askLock 0 r s) r = false)
    ∧ (∃ (s : State) (u : State) (r : W64) (order : Nat),
      cpRuns s = true
      ∧ s.rel.autumn.slices = [(order, r)]
      ∧ u = { s with rel := { s.rel with autumn := if order = 8 then { stepMhz := s.rel.autumn.stepMhz } else { s.rel.autumn with slices := [] } } }
      ∧ (∀ e ∈ heldLocks s, e.2.res ≠ r))
    ∧ (∃ (s : State) (u : State) (r : W64) (order : Nat) (k : _) (l : _),
      cpRuns s = true
      ∧ s.rel.autumn.slices = [(order, r)]
      ∧ u = { s with rel := { s.rel with autumn := if order = 8 then { stepMhz := s.rel.autumn.stepMhz } else { s.rel.autumn with slices := [] } } }
      ∧ heldLocks s = [(k, l)]
      ∧ l.cls = 0
      ∧ l.host = false
      ∧ l.res = r) := by
  refine ⟨⟨maintenanceLocksAndAutumnPasses1, 15, { cls := 0, host := true, request := true, res := resId 1 0xFF 0 0 0, grantRt := 0, expect := 1000, covers := [] },
      ?_⟩,
    ⟨{ svc with rel := { svc.rel with locks := [(15, some { cls := 4, host := true, request := true, res := resLaser 9, grantRt := 0, expect := 1000, covers := [] })] } },
      15, { cls := 4, host := true, request := true, res := resLaser 9, grantRt := 0, expect := 1000, covers := [] },
      ?_⟩,
    ⟨{ svc with rel := { svc.rel with queue := [{ cls := 0, res := resLaser 9 }] } }, { cls := 0, res := resLaser 9 },
      ?_⟩,
    ⟨svc, askLock 0 (resLaser 9) svc, 0, resLaser 9, ?_⟩,
    ⟨{ svc with rel := { svc.rel with restarting := true } }, ?_⟩,
    ⟨svc, ?_⟩,
    ⟨maintenanceLocksAndAutumnPasses4, 3, resLaser 9, {}, ?_⟩,
    ⟨maintenanceLocksAndAutumnPasses3,
      { maintenanceLocksAndAutumnPasses3 with rel := { svc.rel with autumn := { running := true } } },
      resLaser 9, 3, ?_⟩,
    ⟨maintenanceLocksAndAutumnPasses5, 1800, (planInForce maintenanceLocksAndAutumnPasses5).clockKhz / 1000, ?_⟩,
    ⟨{ maintenanceLocksAndAutumnPasses1 with rtb := { svc.rtb with raw := BitVec.ofNat 64 (24 * 3600 * ticksSec) } },
      15, { cls := 0, host := true, request := true, res := resId 1 0xFF 0 0 0, grantRt := 0, expect := 1000, covers := [] },
      ?_⟩,
    ⟨{ maintenanceLocksAndAutumnPasses1 with rtb := { svc.rtb with raw := BitVec.ofNat 64 (24 * 3600 * ticksSec - 1) } },
      15, { cls := 0, host := true, request := true, res := resId 1 0xFF 0 0 0, grantRt := 0, expect := 1000, covers := [] },
      ?_⟩,
    ⟨{ svc with rel := { svc.rel with locks := [(15, some { cls := 4, host := true, request := false, res := resLaser 9, grantRt := 0, expect := 1000, covers := [] })] } },
      15, { cls := 4, host := true, request := false, res := resLaser 9, grantRt := 0, expect := 1000, covers := [] },
      ?_⟩,
    ⟨{ maintenanceLocksAndAutumnPasses1 with rel := { maintenanceLocksAndAutumnPasses1.rel with restarting := true } },
      15, { cls := 0, host := true, request := true, res := resId 1 0xFF 0 0 0, grantRt := 0, expect := 1000, covers := [] },
      ?_⟩,
    ⟨{ svc with rel := { svc.rel with autumn := { running := true, order := 3 }, locks := [(15, some { cls := 0, host := false, request := false, res := resLaser 9, grantRt := 0, expect := 0, covers := [] })] } },
      3, resLaser 9, {}, ?_⟩,
    ⟨maintenanceLocksAndAutumnPasses4, 3, resLaser 9, {},
      askLock 0 (resLaser 9) maintenanceLocksAndAutumnPasses4, ?_⟩,
    ⟨{ svc with rel := { svc.rel with autumn := { running := true, order := 3 }, locks := [(15, some { cls := 0, host := true, request := true, res := resLaser 9, grantRt := 0, expect := 1000, covers := [] })] } },
      3, resLaser 9, {}, ?_⟩,
    ⟨maintenanceLocksAndAutumnPasses3,
      { maintenanceLocksAndAutumnPasses3 with rel := { svc.rel with autumn := { running := true } } },
      resLaser 9, 3, ?_⟩,
    ⟨maintenanceLocksAndAutumnPasses2,
      { maintenanceLocksAndAutumnPasses2 with rel := { maintenanceLocksAndAutumnPasses2.rel with autumn := { running := true } } },
      resLaser 9, 3, 15, { cls := 0, host := false, request := false, res := resLaser 9, grantRt := 0, expect := 0, covers := [] },
      ?_⟩⟩ <;>
    repeat' (first | with_reducible rfl | (with_reducible refine some_getD1 _ _ ?_) | (with_reducible refine some_getD2 _ _ ?_) | (with_reducible refine mid_false _ ?_) | (with_reducible refine fst_false _ ?_) | refine And.intro ?_ ?_ | decide +kernel | rfl | refine Or.inl ?_ | (rintro _ (rfl | rfl) <;> decide +kernel) | (intros; simp))



/-! ### Values worked out outside the model -/

-- The example of FIPS 180-4 for the message "abc".
theorem test_sha512_abc : sha512 (ascii "abc") = (List.range 64).map (fun i => BitVec.ofNat 8 (
    0xddaf35a193617abacc417349ae20413112e6fa4e89a97ea20a9eeee64b55d39a2192992a274fc1a836ba3c23a3feebbd454d4423643ce80e2a9ac94fa54ca49f
      / 256 ^ (63 - i))) := by decide +kernel

-- The usual check value of CRC-32 (R372): the digits 1 to 9.
theorem test_crc32_digits : crc32 (ascii "123456789") = 0xCBF43926 := by decide +kernel

-- IEEE 754 binary32 (R146): 1 + 2^-24 is a tie, which goes to the even 1; 1 + 3 × 2^-24 is one too, to 1 + 2^-22.
theorem test_fAdd_ties_to_even :
    fAdd 0x3F800000 0x33800000 = 0x3F800000 ∧ fAdd 0x3F800000 0x34400000 = 0x3F800002 := by decide +kernel

-- 1.5 × 1.5 = 2.25.
theorem test_fMul : fMul 0x3FC00000 0x3FC00000 = 0x40100000 := by decide +kernel

-- The example of chapter 04: the CORE and ARR blocks of CD3:C17.05.
theorem test_core_block_offset :
    baseCORE 3 17 5 = 0x01D8A400 ∧ baseARR 3 17 5 = 0x01D8A600 ∧ quadDom 3 17 = 25 := by decide

-- The example of chapter 10: die-local offset 1,000,000,000 of die 3, in single-realm and in two-realm mode.
theorem test_granule_places :
    rawPlace (svcP false false) 3 1000000000 = (17, 8, 13333248)
    ∧ rawPlace (svcP true false) 3 1000000000 = (15, 0, 26666624) := by decide +kernel

-- The example of chapter 13: an exchange with twice θ = 6,000 and δ = 250.
theorem test_time_exchange :
    (timePort (timeExchange 0 24 5010000 5000000 5003125 0 3 1 5007125 (litAs 24 { rtt := 125 } svc)) 0).kept
      = [(6000, 250)] := by decide +kernel

/-- Column 9 of the example of chapter 06: shift 1, rows 0 to 3 with 5, −3, 7 and −1. -/
def exampleTile : WTile :=
  { shifts := (List.replicate 32 0).set 9 1
    elems := ((((List.replicate 1024 0).set 9 5).set 41 0xB).set 73 7).set 105 9, mask := 0xF, nonfinite := false }

/-- Its activations: shift 2, +20, +100, −6 and +64 for array 0. -/
def exampleGroup : Group := { fmt := .b8, tiles := 1, bytes := 2 :: List.replicate 31 0 ++ ([20, 100, 0x86, 64] ++ List.replicate 124 0) }

-- Column 9 of array 0 holds −0.07470703125.
theorem test_tile_column : tileColumn .b4 exampleTile exampleGroup 0 0 9 0x40000000 false = 0xBD990000 := by decide +kernel

-- The example of chapter 07: S = 8 from the amaxes 5.2, 6.9, 6.1 and 5.8.
theorem test_predict : predict { tensor0 with format := 1, scaleMode := 0, history := 4 }
    [0x40A66666, 0x40DCCCCD, 0x40C33333, 0x40B9999A] = 0x41000000 := by decide +kernel

-- The same example's block: shift 2, bytes 0x53, 0x9A, 0x03, 0x00 and 0xC0, 28 zeros and amax 1.2999999523.
theorem test_quantise_block :
    encBlock 7 (recipOf 0x41000000) none
      (([0x3FA66666, 0xBECCCCCD, 0x3D4CCCCD, 0x38D1B717, 0xBF800000] ++ List.replicate 27 (0 : F32)).map fun v => some (v, 0))
      = (2, [0x53, 0x9A, 0x03, 0x00, 0xC0] ++ List.replicate 27 0, { zero := 28, amax := 0x3FA66666 }) := by decide +kernel

-- Test case 16 of the GCM submission to NIST: its tag, and the first bytes of its ciphertext.
theorem test_gcm :
    let key := beBytes 32 0xfeffe9928665731c6d6a8f9467308308feffe9928665731c6d6a8f9467308308
    let iv := beBytes 12 0xcafebabefacedbaddecaf888
    let pt := beBytes 60 (0xd9313225f88406e5a55909c5aff5269a86a7a9531534f7da2e4c303d8a318a72 * 256 ^ 28
      + 0x1c3c0c95956809532fcf0e2449a6b525b16aedf5aa0de657ba637b39)
    let ct := gcmXor key iv pt
    ct.take 8 = beBytes 8 0x522dc1f099567d07
    ∧ gcmTag key iv (beBytes 20 0xfeedfacedeadbeeffeedfacedeadbeefabaddad2) ct
      = beBytes 16 0x76fc6ece0f4e1768cddf8853bb2d551b := by decide +kernel

-- The root fractions that FIPS 180-4 builds its constants from, worked out for the first and the last prime of each table.
theorem test_sha512_constants :
    rootFraction 3 2 = 0x428a2f98d728ae22 ∧ rootFraction 3 409 = quadWord (shaCubes.getD 19 0) 3
    ∧ rootFraction 3 131 = quadWord (shaCubes.getD 7 0) 3 ∧ rootFraction 2 2 = 0x6a09e667f3bcc908
    ∧ rootFraction 2 19 = quadWord (shaSquares.getD 1 0) 3 := by decide +kernel

-- The AES tables are the affine map of the field's inverse, and its inverse.
theorem test_aes_tables :
    (List.range 256).all (fun n => aesSub (BitVec.ofNat 8 n) == aesSubRule (BitVec.ofNat 8 n)
      && aesBack (aesSub (BitVec.ofNat 8 n)) == BitVec.ofNat 8 n) = true := by decide +kernel

-- The generator with roots 1, 2, 4 and 8 over the field of 0x11D: x^4 + 15 x^3 + 54 x^2 + 120 x + 64.
theorem test_check_polynomial : checkPoly 8 0x11D 4 = [15, 54, 120, 64] := by decide +kernel

-- R286 and R290: any one flipped bit of a stored word is corrected, two are found.
theorem test_word_read :
    (List.range 72).all (fun i => wordRead 0x0123456789ABCDEF (2 ^ i) == (.correctable, 0x0123456789ABCDEF)) = true
    ∧ (wordRead 0x0123456789ABCDEF 3).1 = .uncorrectable ∧ (wordRead 0x0123456789ABCDEF (2 ^ 40 + 2 ^ 70)).1 = .uncorrectable := by
  decide +kernel

-- R368: on the set 0, 1, 3 symbol 4 travels on position 1; of 272 symbols position 3 carries 90 and two positions 91.
theorem test_symbol_positions :
    symbolPos [0, 1, 3] 4 = 1 ∧ symbolPos [0, 1, 3] 5 = 3
    ∧ (lanesOf [0, 1, 3] (List.range 272)).map (fun l => (l.1, l.2.length, (l.2.filter (·.isSome)).length))
      = [(0, 91, 91), (1, 91, 91), (3, 91, 90)] := by decide +kernel

end Sys2Proof.Tests
end

section
/-! SUPPORT. Proofs of the scope family: what every step does to the queue, the part number and the record numbers (R522,
R525), and which command a step runs. -/

namespace Sys2Proof.Machine

open Sys2Proof

/-! ### One step -/

/-- The rule of a step on a queue that holds a command. -/
theorem step_of_pending_cons {s : State} {c : Instr} {rest : List Instr} (h : s.pending = c :: rest) :
    step s = exec c (s.setPending rest) := by
  unfold step
  rw [h]

/-- The rule of a step on an empty queue. -/
theorem step_of_pending_nil {s : State} (h : s.pending = []) : step s = .next (idle s) := by
  unfold step
  rw [h]

/-- No command stops, writes the part number or the queue (bits 0 and 37, clear in the mask), or takes a number back: each arm of
the dispatch keeps to the frame of its own command. -/
theorem exec_touch (c : Instr) (s : State) : TouchR 0x1ffffffffe s (exec c s) :=
  match c with
  | .pwrEnRise _ => (execPwrEnRise_touch ..).mono rfl
  | .pwrEnFall => (execPwrEnFall_touch ..).mono rfl
  | .pwrEnHoldExpiry => (execPwrEnHoldExpiry_touch ..).mono rfl
  | .inputLockout _ => (execInputLockout_touch ..).mono rfl
  | .inputRelease _ => (execInputRelease_touch ..).mono rfl
  | .wakeNAssert => (execWakeNAssert_touch ..).mono rfl
  | .perstAssert _ => (execPerstAssert_touch ..).mono rfl
  | .perstDeassert _ => (execPerstDeassert_touch ..).mono rfl
  | .linkTrainingDone _ => (execLinkTrainingDone_touch ..).mono rfl
  | .linkDown _ => (execLinkDown_touch ..).mono rfl
  | .functionLevelReset _ => (execFunctionLevelReset_touch ..).mono rfl
  | .d3hotEntry _ => (execD3hotEntry_touch ..).mono rfl
  | .stewardFailover => (execStewardFailover_touch ..).mono rfl
  | .thermTripNLow => (execThermTripNLow_touch ..).mono rfl
  | .thermTripNHigh => (execThermTripNHigh_touch ..).mono rfl
  | .junctionTrip _ => (execJunctionTrip_touch ..).mono rfl
  | .tripRelease _ => (execTripRelease_touch ..).mono rfl
  | .droopDetect _ _ => (execDroopDetect_touch ..).mono rfl
  | .droopEnd _ _ => (execDroopEnd_touch ..).mono rfl
  | .thermalPointReached _ _ _ => (execThermalPointReached_touch ..).mono rfl
  | .throttleStep _ _ => (execThrottleStep_touch ..).mono rfl
  | .throttleReleaseTimer _ _ => (execThrottleReleaseTimer_touch ..).mono rfl
  | .powerSample _ _ => (execPowerSample_touch ..).mono rfl
  | .powerCapLoopStep => (execPowerCapLoopStep_touch ..).mono rfl
  | .powerCapUnmetTimer => (execPowerCapUnmetTimer_touch ..).mono rfl
  | .currentLimitRailOff => (execCurrentLimitRailOff_touch ..).mono rfl
  | .coolantLossTimer _ _ _ _ => (execCoolantLossTimer_touch ..).mono rfl
  | .coolantClearTimer _ _ _ _ => (execCoolantClearTimer_touch ..).mono rfl
  | .coolantFlowTrip _ _ => (execCoolantFlowTrip_touch ..).mono rfl
  | .springCoolantResume _ _ _ _ => (execSpringCoolantResume_touch ..).mono rfl
  | .lpxTempRead _ _ => (execLpxTempRead_touch ..).mono rfl
  | .domainRailFault _ _ => (execDomainRailFault_touch ..).mono rfl
  | .domainTransitionDone _ => (execDomainTransitionDone_touch ..).mono rfl
  | .lpxInitDone _ _ => (execLpxInitDone_touch ..).mono rfl
  | .springStepDone _ _ => (execSpringStepDone_touch ..).mono rfl
  | .attestKeyCheckDone _ => (execAttestKeyCheckDone_touch ..).mono rfl
  | .springStepTimeout _ => (execSpringStepTimeout_touch ..).mono rfl
  | .blkCtlWrite _ _ _ => (execBlkCtlWrite_touch ..).mono rfl
  | .blockDisableDone _ => (execBlockDisableDone_touch ..).mono rfl
  | .blockEnableDone _ => (execBlockEnableDone_touch ..).mono rfl
  | .configParitySweep _ _ => (execConfigParitySweep_touch ..).mono rfl
  | .cfgParityRecovery _ => (execCfgParityRecovery_touch ..).mono rfl
  | .registerWrite _ _ _ _ _ => (execRegisterWrite_touch ..).mono rfl
  | .rwbWrite _ _ _ => (execRwbWrite_touch ..).mono rfl
  | .glbUpdate _ _ => (execGlbUpdate_touch ..).mono rfl
  | .crossingTimeout _ _ _ => (execCrossingTimeout_touch ..).mono rfl
  | .bar2Access _ _ _ _ _ => (execBar2Access_touch ..).mono rfl
  | .ringCtlWrite _ _ _ => (execRingCtlWrite_touch ..).mono rfl
  | .ringDoorbell _ _ _ => (execRingDoorbell_touch ..).mono rfl
  | .ringFetchResume _ _ _ => (execRingFetchResume_touch ..).mono rfl
  | .hostReadFail _ _ _ _ => (execHostReadFail_touch ..).mono rfl
  | .commandComplete _ _ _ _ _ _ _ => (execCommandComplete_touch ..).mono rfl
  | .undefinedOpcodeCommand _ => (execUndefinedOpcodeCommand_touch ..).mono rfl
  | .deviceInfo _ => (execDeviceInfo_touch ..).mono rfl
  | .profileSelect _ => (execProfileSelect_touch ..).mono rfl
  | .stewardTransfer _ => (execStewardTransfer_touch ..).mono rfl
  | .rtLoad _ => (execRtLoad_touch ..).mono rfl
  | .powerCapSet _ => (execPowerCapSet_touch ..).mono rfl
  | .domainControl _ => (execDomainControl_touch ..).mono rfl
  | .shutdown _ => (execShutdown_touch ..).mono rfl
  | .departurePhaseEnd => (execDeparturePhaseEnd_touch ..).mono rfl
  | .realmOpen _ => (execRealmOpen_touch ..).mono rfl
  | .realmClose _ => (execRealmClose_touch ..).mono rfl
  | .winterStepDone _ _ => (execWinterStepDone_touch ..).mono rfl
  | .jobAdmit _ => (execJobAdmit_touch ..).mono rfl
  | .imageLoad _ _ => (execImageLoad_touch ..).mono rfl
  | .jobStart _ => (execJobStart_touch ..).mono rfl
  | .jobPair _ => (execJobPair_touch ..).mono rfl
  | .stepControl _ => (execStepControl_touch ..).mono rfl
  | .jobAbort _ => (execJobAbort_touch ..).mono rfl
  | .jobStatus _ => (execJobStatus_touch ..).mono rfl
  | .regionMap _ => (execRegionMap_touch ..).mono rfl
  | .dmaCopy _ _ _ => (execDmaCopy_touch ..).mono rfl
  | .checkpointPush _ _ _ => (execCheckpointPush_touch ..).mono rfl
  | .checkpointRestore _ _ _ => (execCheckpointRestore_touch ..).mono rfl
  | .buddyReserve _ => (execBuddyReserve_touch ..).mono rfl
  | .scrubStatus _ => (execScrubStatus_touch ..).mono rfl
  | .planLoad _ => (execPlanLoad_touch ..).mono rfl
  | .portDivide _ => (execPortDivide_touch ..).mono rfl
  | .lightPlanLoad _ => (execLightPlanLoad_touch ..).mono rfl
  | .portStatus _ => (execPortStatus_touch ..).mono rfl
  | .partitionSet _ => (execPartitionSet_touch ..).mono rfl
  | .discoveryReport _ => (execDiscoveryReport_touch ..).mono rfl
  | .attestReport _ => (execAttestReport_touch ..).mono rfl
  | .keyDeliver _ => (execKeyDeliver_touch ..).mono rfl
  | .keyRotate _ => (execKeyRotate_touch ..).mono rfl
  | .certChainGet _ => (execCertChainGet_touch ..).mono rfl
  | .fwVerifyStage _ _ _ => (execFwVerifyStage_touch ..).mono rfl
  | .maintRequest _ => (execMaintRequest_touch ..).mono rfl
  | .maintRelease _ => (execMaintRelease_touch ..).mono rfl
  | .autumnPass _ => (execAutumnPass_touch ..).mono rfl
  | .spareSwap _ _ _ => (execSpareSwap_touch ..).mono rfl
  | .fwActivate _ => (execFwActivate_touch ..).mono rfl
  | .telemetryRead _ => (execTelemetryRead_touch ..).mono rfl
  | .watchRead _ => (execWatchRead_touch ..).mono rfl
  | .barrierLogRead _ => (execBarrierLogRead_touch ..).mono rfl
  | .eventLogRead _ => (execEventLogRead_touch ..).mono rfl
  | .marginPlanRead _ => (execMarginPlanRead_touch ..).mono rfl
  | .profileStart _ => (execProfileStart_touch ..).mono rfl
  | .profileStop _ => (execProfileStop_touch ..).mono rfl
  | .profileSample _ _ _ => (execProfileSample_touch ..).mono rfl
  | .debugEnter _ => (execDebugEnter_touch ..).mono rfl
  | .debugExit _ => (execDebugExit_touch ..).mono rfl
  | .cpWatchdogExpiry _ => (execCpWatchdogExpiry_touch ..).mono rfl
  | .containedRestartTrigger _ _ => (execContainedRestartTrigger_touch ..).mono rfl
  | .cpRestartDone => (execCpRestartDone_touch ..).mono rfl
  | .cpRestartTimeout => (execCpRestartTimeout_touch ..).mono rfl
  | .tileNop _ _ _ _ => (execTileNop_touch ..).mono rfl
  | .tileEnd _ _ _ _ => (execTileEnd_touch ..).mono rfl
  | .seta _ _ _ _ => (execSeta_touch ..).mono rfl
  | .adda _ _ _ _ => (execAdda_touch ..).mono rfl
  | .loop _ _ _ _ => (execLoop_touch ..).mono rfl
  | .endl _ _ _ _ => (execEndl_touch ..).mono rfl
  | .scl _ _ _ _ _ => (execScl_touch ..).mono rfl
  | .wld _ _ _ _ => (execWld_touch ..).mono rfl
  | .mma _ _ _ _ => (execMma_touch ..).mono rfl
  | .drn _ _ _ _ => (execDrn_touch ..).mono rfl
  | .sync _ _ _ _ => (execSync_touch ..).mono rfl
  | .wldStart _ _ _ => (execWldStart_touch ..).mono rfl
  | .wldDone _ _ _ _ => (execWldDone_touch ..).mono rfl
  | .mmaStart _ _ _ _ => (execMmaStart_touch ..).mono rfl
  | .mmaDone _ _ _ => (execMmaDone_touch ..).mono rfl
  | .drnStart _ _ _ => (execDrnStart_touch ..).mono rfl
  | .drnDone _ _ _ _ => (execDrnDone_touch ..).mono rfl
  | .tileTaskDone _ _ _ => (execTileTaskDone_touch ..).mono rfl
  | .coreSlotSwitch _ _ _ => (execCoreSlotSwitch_touch ..).mono rfl
  | .idleGatingRestore _ _ => (execIdleGatingRestore_touch ..).mono rfl
  | .cccNop _ _ _ _ => (execCccNop_touch ..).mono rfl
  | .cccEnd _ _ _ _ => (execCccEnd_touch ..).mono rfl
  | .cccAlu _ _ _ _ => (execCccAlu_touch ..).mono rfl
  | .cccAddi _ _ _ _ => (execCccAddi_touch ..).mono rfl
  | .cccLui _ _ _ _ => (execCccLui_touch ..).mono rfl
  | .cccOri _ _ _ _ => (execCccOri_touch ..).mono rfl
  | .cccLd _ _ _ _ _ => (execCccLd_touch ..).mono rfl
  | .cccSt _ _ _ _ => (execCccSt_touch ..).mono rfl
  | .cccBeq _ _ _ _ => (execCccBeq_touch ..).mono rfl
  | .cccBne _ _ _ _ => (execCccBne_touch ..).mono rfl
  | .cccBlt _ _ _ _ => (execCccBlt_touch ..).mono rfl
  | .cccBltu _ _ _ _ => (execCccBltu_touch ..).mono rfl
  | .bflt _ _ _ _ => (execBflt_touch ..).mono rfl
  | .jal _ _ _ _ => (execJal_touch ..).mono rfl
  | .jalr _ _ _ _ => (execJalr_touch ..).mono rfl
  | .task _ _ _ _ => (execTask_touch ..).mono rfl
  | .vrun _ _ _ _ => (execVrun_touch ..).mono rfl
  | .cccDma _ _ _ _ => (execCccDma_touch ..).mono rfl
  | .cccWait _ _ _ _ => (execCccWait_touch ..).mono rfl
  | .cccBusy _ _ _ _ => (execCccBusy_touch ..).mono rfl
  | .cccRdrt _ _ _ _ => (execCccRdrt_touch ..).mono rfl
  | .cccStallEnd _ _ _ => (execCccStallEnd_touch ..).mono rfl
  | .clusterTaskDone _ _ _ => (execClusterTaskDone_touch ..).mono rfl
  | .vnop _ _ _ _ => (execVnop_touch ..).mono rfl
  | .vend _ _ _ _ => (execVend_touch ..).mono rfl
  | .vloop _ _ _ _ => (execVloop_touch ..).mono rfl
  | .vendl _ _ _ _ => (execVendl_touch ..).mono rfl
  | .vsetvl _ _ _ _ => (execVsetvl_touch ..).mono rfl
  | .vadda _ _ _ _ => (execVadda_touch ..).mono rfl
  | .vaddr _ _ _ _ => (execVaddr_touch ..).mono rfl
  | .vli _ _ _ _ => (execVli_touch ..).mono rfl
  | .vld _ _ _ _ _ => (execVld_touch ..).mono rfl
  | .vst _ _ _ _ => (execVst_touch ..).mono rfl
  | .vldx _ _ _ _ _ => (execVldx_touch ..).mono rfl
  | .vstx _ _ _ _ => (execVstx_touch ..).mono rfl
  | .vldb _ _ _ _ _ => (execVldb_touch ..).mono rfl
  | .vari _ _ _ _ => (execVari_touch ..).mono rfl
  | .vfma _ _ _ _ => (execVfma_touch ..).mono rfl
  | .vun _ _ _ _ => (execVun_touch ..).mono rfl
  | .vcmp _ _ _ _ => (execVcmp_touch ..).mono rfl
  | .vmsk _ _ _ _ => (execVmsk_touch ..).mono rfl
  | .vsel _ _ _ _ => (execVsel_touch ..).mono rfl
  | .vcvt _ _ _ _ => (execVcvt_touch ..).mono rfl
  | .vred _ _ _ _ => (execVred_touch ..).mono rfl
  | .vsum _ _ _ _ => (execVsum_touch ..).mono rfl
  | .vtid _ _ _ _ => (execVtid_touch ..).mono rfl
  | .vqnt _ _ _ _ _ => (execVqnt_touch ..).mono rfl
  | .vdq _ _ _ _ _ => (execVdq_touch ..).mono rfl
  | .vloss _ _ _ _ => (execVloss_touch ..).mono rfl
  | .veProgramDone _ _ _ => (execVeProgramDone_touch ..).mono rfl
  | .dmaTransferStart _ _ _ _ _ => (execDmaTransferStart_touch ..).mono rfl
  | .dmaTransferDone _ _ _ _ => (execDmaTransferDone_touch ..).mono rfl
  | .wckTrackingLost _ _ => (execWckTrackingLost_touch ..).mono rfl
  | .instanceDispatch _ _ _ _ => (execInstanceDispatch_touch ..).mono rfl
  | .instanceSignalRelease _ _ _ _ => (execInstanceSignalRelease_touch ..).mono rfl
  | .signalApply _ => (execSignalApply_touch ..).mono rfl
  | .taskTimeout _ _ _ => (execTaskTimeout_touch ..).mono rfl
  | .stepAbortReported _ => (execStepAbortReported_touch ..).mono rfl
  | .abortQuietEnd _ => (execAbortQuietEnd_touch ..).mono rfl
  | .stepStallLimit _ => (execStepStallLimit_touch ..).mono rfl
  | .stepBegin _ => (execStepBegin_touch ..).mono rfl
  | .equinoxTurn => (execEquinoxTurn_touch ..).mono rfl
  | .lateTurn _ => (execLateTurn_touch ..).mono rfl
  | .loneTurn _ => (execLoneTurn_touch ..).mono rfl
  | .closingRoundStart _ => (execClosingRoundStart_touch ..).mono rfl
  | .closingRoundDone _ => (execClosingRoundDone_touch ..).mono rfl
  | .solsticeGatePass _ => (execSolsticeGatePass_touch ..).mono rfl
  | .beginRecordProgrammed _ => (execBeginRecordProgrammed_touch ..).mono rfl
  | .solsticePhaseDone _ => (execSolsticePhaseDone_touch ..).mono rfl
  | .endRecordProgrammed _ => (execEndRecordProgrammed_touch ..).mono rfl
  | .keySweepStart _ => (execKeySweepStart_touch ..).mono rfl
  | .keySweepDone _ => (execKeySweepDone_touch ..).mono rfl
  | .lpxScrubSchedule _ => (execLpxScrubSchedule_touch ..).mono rfl
  | .patrolDone _ _ => (execPatrolDone_touch ..).mono rfl
  | .remoteRequest _ _ _ _ _ _ _ _ => (execRemoteRequest_touch ..).mono rfl
  | .laserFailure _ _ _ => (execLaserFailure_touch ..).mono rfl
  | .spareLaserStarted _ _ _ => (execSpareLaserStarted_touch ..).mono rfl
  | .lockLoopSample _ _ => (execLockLoopSample_touch ..).mono rfl
  | .ringLockLoss _ _ => (execRingLockLoss_touch ..).mono rfl
  | .holdLightReturn _ _ _ => (execHoldLightReturn_touch ..).mono rfl
  | .ringSweepDone _ _ _ => (execRingSweepDone_touch ..).mono rfl
  | .forecastWord _ => (execForecastWord_touch ..).mono rfl
  | .lseqNop _ _ => (execLseqNop_touch ..).mono rfl
  | .halt _ _ => (execHalt_touch ..).mono rfl
  | .lseqAlu _ _ => (execLseqAlu_touch ..).mono rfl
  | .lseqAddi _ _ => (execLseqAddi_touch ..).mono rfl
  | .lseqLui _ _ => (execLseqLui_touch ..).mono rfl
  | .br _ _ => (execBr_touch ..).mono rfl
  | .lseqWait _ _ => (execLseqWait_touch ..).mono rfl
  | .lseqWaitEnd _ => (execLseqWaitEnd_touch ..).mono rfl
  | .rdmon _ _ _ => (execRdmon_touch ..).mono rfl
  | .rdhtr _ _ => (execRdhtr_touch ..).mono rfl
  | .wrhtr _ _ => (execWrhtr_touch ..).mono rfl
  | .setst _ _ => (execSetst_touch ..).mono rfl
  | .rdst _ _ => (execRdst_touch ..).mono rfl
  | .rdcal _ _ => (execRdcal_touch ..).mono rfl
  | .wrcal _ _ => (execWrcal_touch ..).mono rfl
  | .wrff _ _ => (execWrff_touch ..).mono rfl
  | .rdlas _ _ => (execRdlas_touch ..).mono rfl
  | .wrbias _ _ => (execWrbias_touch ..).mono rfl
  | .rdtmp _ _ _ => (execRdtmp_touch ..).mono rfl
  | .lseqRdrt _ _ => (execLseqRdrt_touch ..).mono rfl
  | .post _ _ => (execPost_touch ..).mono rfl
  | .lightPlanSwitch => (execLightPlanSwitch_touch ..).mono rfl
  | .matrixSettled => (execMatrixSettled_touch ..).mono rfl
  | .dataFrame _ _ => (execDataFrame_touch ..).mono rfl
  | .reductionFrame _ _ => (execReductionFrame_touch ..).mono rfl
  | .idleFrame _ _ => (execIdleFrame_touch ..).mono rfl
  | .nak _ _ _ => (execNak_touch ..).mono rfl
  | .lanesetRequest _ _ _ _ => (execLanesetRequest_touch ..).mono rfl
  | .lanesetCommit _ _ _ _ => (execLanesetCommit_touch ..).mono rfl
  | .resweep _ _ _ _ => (execResweep_touch ..).mono rfl
  | .train l ix m passed => (execTrain_touch l ix m passed s).mono rfl
  | .spare _ _ _ => (execSpare_touch ..).mono rfl
  | .replayTimeout _ => (execReplayTimeout_touch ..).mono rfl
  | .laneDropCondition _ _ _ _ => (execLaneDropCondition_touch ..).mono rfl
  | .lanesetRequestRepeat _ => (execLanesetRequestRepeat_touch ..).mono rfl
  | .lanePrbsDone _ _ _ => (execLanePrbsDone_touch ..).mono rfl
  | .commonModeOutage _ => (execCommonModeOutage_touch ..).mono rfl
  | .commonModeHoldExpiry _ => (execCommonModeHoldExpiry_touch ..).mono rfl
  | .rtbSyncPulse _ => (execRtbSyncPulse_touch ..).mono rfl
  | .slewAdjust _ => (execSlewAdjust_touch ..).mono rfl
  | .rtbClkLoss => (execRtbClkLoss_touch ..).mono rfl
  | .rtbClkRelock => (execRtbClkRelock_touch ..).mono rfl
  | .rtbSyncLossTimeout => (execRtbSyncLossTimeout_touch ..).mono rfl
  | .timestampSend _ _ => (execTimestampSend_touch ..).mono rfl
  | .timestampFrame _ _ _ _ _ _ _ _ _ => (execTimestampFrame_touch ..).mono rfl
  | .instantFires => (execInstantFires_touch ..).mono rfl
  | .windowEndReached _ _ _ _ => (execWindowEndReached_touch ..).mono rfl
  | .portLightDetected _ => (execPortLightDetected_touch ..).mono rfl
  | .portTrainingDone _ _ _ _ => (execPortTrainingDone_touch ..).mono rfl
  | .identitySend _ => (execIdentitySend_touch ..).mono rfl
  | .identityFrame _ _ => (execIdentityFrame_touch ..).mono rfl
  | .quarantineDarkTimer _ => (execQuarantineDarkTimer_touch ..).mono rfl
  | .discoveryTimeout => (execDiscoveryTimeout_touch ..).mono rfl
  | .write _ => (execWrite_touch ..).mono rfl
  | .writeAck _ => (execWriteAck_touch ..).mono rfl
  | .read _ _ => (execRead_touch ..).mono rfl
  | .readData _ _ => (execReadData_touch ..).mono rfl
  | .signal _ => (execSignal_touch ..).mono rfl
  | .reduce _ _ => (execReduce_touch ..).mono rfl
  | .nack _ => (execNack_touch ..).mono rfl
  | .barrier _ => (execBarrier_touch ..).mono rfl
  | .count _ => (execCount_touch ..).mono rfl
  | .packetForward _ => (execPacketForward_touch ..).mono rfl
  | .remoteTransactionTimeout _ => (execRemoteTransactionTimeout_touch ..).mono rfl
  | .colRs _ _ _ _ _ => (execColRs_touch ..).mono rfl
  | .colAg _ _ _ _ _ => (execColAg_touch ..).mono rfl
  | .colA2a _ _ _ _ _ => (execColA2a_touch ..).mono rfl
  | .colSend _ _ _ _ _ => (execColSend_touch ..).mono rfl
  | .colRing _ _ _ _ _ => (execColRing_touch ..).mono rfl
  | .colBarrier _ _ _ _ => (execColBarrier_touch ..).mono rfl
  | .colBuddy _ _ _ _ _ => (execColBuddy_touch ..).mono rfl
  | .colOpDone _ _ _ _ _ => (execColOpDone_touch ..).mono rfl
  | .sentinelCheckDone _ _ _ _ => (execSentinelCheckDone_touch ..).mono rfl
  | .strikeExpiry => (execStrikeExpiry_touch ..).mono rfl
  | .coreTakeover _ _ _ => (execCoreTakeover_touch ..).mono rfl
  | .autumnSchedule => (execAutumnSchedule_touch ..).mono rfl
  | .autumnSlice _ _ _ => (execAutumnSlice_touch ..).mono rfl
  | .autumnSliceDone _ => (execAutumnSliceDone_touch ..).mono rfl
  | .clockReplanStep => (execClockReplanStep_touch ..).mono rfl
  | .maintLockExpiry _ => (execMaintLockExpiry_touch ..).mono rfl
  | .maintQueuedGrant => (execMaintQueuedGrant_touch ..).mono rfl
  | .maintActivityEnd _ => (execMaintActivityEnd_touch ..).mono rfl
  | .getVersion _ => (execGetVersion_touch ..).mono rfl
  | .getCapabilities _ => (execGetCapabilities_touch ..).mono rfl
  | .negotiateAlgorithms _ _ _ => (execNegotiateAlgorithms_touch ..).mono rfl
  | .getDigests _ => (execGetDigests_touch ..).mono rfl
  | .getCertificate _ _ _ _ => (execGetCertificate_touch ..).mono rfl
  | .challenge _ _ _ _ _ => (execChallenge_touch ..).mono rfl
  | .getMeasurements _ _ _ _ _ => (execGetMeasurements_touch ..).mono rfl
  | .respondIfReady _ _ _ _ => (execRespondIfReady_touch ..).mono rfl
  | .spdmUnsupportedRequest _ _ => (execSpdmUnsupportedRequest_touch ..).mono rfl
  | .setEndpointId _ _ => (execSetEndpointId_touch ..).mono rfl
  | .getEndpointId _ => (execGetEndpointId_touch ..).mono rfl
  | .getEndpointUuid _ => (execGetEndpointUuid_touch ..).mono rfl
  | .getMctpVersionSupport _ _ => (execGetMctpVersionSupport_touch ..).mono rfl
  | .getMessageTypeSupport _ => (execGetMessageTypeSupport_touch ..).mono rfl
  | .getVendorDefinedMessageSupport _ => (execGetVendorDefinedMessageSupport_touch ..).mono rfl
  | .setTid _ _ => (execSetTid_touch ..).mono rfl
  | .getTid _ => (execGetTid_touch ..).mono rfl
  | .getPldmVersion _ _ => (execGetPldmVersion_touch ..).mono rfl
  | .getPldmTypes _ => (execGetPldmTypes_touch ..).mono rfl
  | .getPldmCommands _ _ => (execGetPldmCommands_touch ..).mono rfl
  | .getPdrRepositoryInfo _ => (execGetPdrRepositoryInfo_touch ..).mono rfl
  | .getPdr _ _ => (execGetPdr_touch ..).mono rfl
  | .getSensorReading _ _ => (execGetSensorReading_touch ..).mono rfl
  | .getStateSensorReadings _ _ => (execGetStateSensorReadings_touch ..).mono rfl
  | .setEventReceiver _ _ => (execSetEventReceiver_touch ..).mono rfl
  | .eventMessageSupported _ => (execEventMessageSupported_touch ..).mono rfl
  | .eventMessageBufferSize _ _ => (execEventMessageBufferSize_touch ..).mono rfl
  | .pollForPlatformEventMessage _ _ => (execPollForPlatformEventMessage_touch ..).mono rfl
  | .getFruRecordTableMetadata _ => (execGetFruRecordTableMetadata_touch ..).mono rfl
  | .getFruRecordTable _ => (execGetFruRecordTable_touch ..).mono rfl
  | .queryDeviceIdentifiers _ => (execQueryDeviceIdentifiers_touch ..).mono rfl
  | .getFirmwareParameters _ => (execGetFirmwareParameters_touch ..).mono rfl
  | .requestUpdate _ _ => (execRequestUpdate_touch ..).mono rfl
  | .passComponentTable _ _ => (execPassComponentTable_touch ..).mono rfl
  | .updateComponent _ _ _ => (execUpdateComponent_touch ..).mono rfl
  | .requestFirmwareData _ => (execRequestFirmwareData_touch ..).mono rfl
  | .transferComplete => (execTransferComplete_touch ..).mono rfl
  | .verifyComplete _ => (execVerifyComplete_touch ..).mono rfl
  | .applyComplete => (execApplyComplete_touch ..).mono rfl
  | .activateFirmware _ => (execActivateFirmware_touch ..).mono rfl
  | .getStatus _ => (execGetStatus_touch ..).mono rfl
  | .cancelUpdateComponent _ => (execCancelUpdateComponent_touch ..).mono rfl
  | .cancelUpdate _ => (execCancelUpdate_touch ..).mono rfl
  | .pldmUnsupportedCommand _ _ _ => (execPldmUnsupportedCommand_touch ..).mono rfl
  | .eventRead _ _ => (execEventRead_touch ..).mono rfl
  | .journalRead _ _ => (execJournalRead_touch ..).mono rfl
  | .telemetrySample _ => (execTelemetrySample_touch ..).mono rfl
  | .powerWindowDelivery => (execPowerWindowDelivery_touch ..).mono rfl
  | .eventLogTransfer => (execEventLogTransfer_touch ..).mono rfl
  | .registerRead _ _ _ _ _ _ => (execRegisterRead_touch ..).mono rfl
  | .badPecPacket => (execBadPecPacket_touch ..).mono rfl

/-- A step takes the front command off the queue; all else it does stays inside the frame of the commands. -/
theorem step_touch (s : State) : TouchR 0x1ffffffffe (s.setPending s.pending.tail) (step s) := by
  cases h : s.pending with
  | nil =>
    have unchanged : s.setPending [] = s := by rw [← h]; rfl
    rw [step_of_pending_nil h, List.tail_nil, unchanged]
    exact TouchR.next ((idle_touch s).mono rfl)
  | cons c rest =>
    rw [step_of_pending_cons h]
    exact exec_touch c (s.setPending rest)

/-- Runs of every length are safe, since no step stops. -/
theorem safeRun_all (n : Nat) (s : State) : SafeRun n s := by
  induction n generalizing s with
  | zero => trivial
  | succ n ih =>
    obtain ⟨t, ht, -⟩ := step_touch s
    exact ⟨t, ht, ih t⟩

/-- Settles O60: every step keeps to the frame `step_touch`, and runs follow by induction on their length. That the part
stays what it is, and that commands come from one queue, are the model's choices (log entries 2 and 76). -/
theorem everyRunGoesOn : Obligations.EveryRunGoesOn := by
  refine ⟨fun s => ?_, safeRun_all⟩
  obtain ⟨t, ht, frame⟩ := step_touch s
  exact ⟨t, ht, frame.pending rfl, frame.variant rfl, frame.evSeq, frame.journalNo⟩

/-! ### The idle step -/

/-- A map that fixes every entry leaves a canonical table as it is. -/
theorem tmap_eq_self {α : Type} [DecidableEq α] {d : α} {f : Nat → α → α} {t : Tbl α} (ht : tok d t = true)
    (hf : ∀ e ∈ t, f e.1 e.2 = e.2) : tmap d f t = t := by
  obtain ⟨-, noDefault⟩ := (tok_iff d t).1 ht
  have mapped : t.map (fun e => (e.1, f e.1 e.2)) = t := calc
    t.map (fun e => (e.1, f e.1 e.2)) = t.map id := List.map_congr_left fun e he => Prod.ext rfl (hf e he)
    _ = t := List.map_id t
  rw [tmap, mapped, List.filter_eq_self]
  exact fun e he => decide_eq_true (noDefault e he)

/-- No stack trains: the stacks stay as they are. -/
theorem trainTick_eq_self {s : State} (hs : tok {} s.stk = true) (h : ∀ e ∈ s.stk, e.2.training = false) :
    trainTick s = s := by
  unfold trainTick
  rw [tmap_eq_self hs fun e he => by simp [h e he]]
  rfl

/-- No realm sweeps: memory stays as it is. -/
theorem sweepTick_eq_self {s : State} (h : ∀ r, (realmOf s r).sweeping = false) : sweepTick s = s := by
  simp [sweepTick, h]

/-- With no stack in training and no key sweep, an idle step is one tick of Rack Time. -/
theorem idle_eq_passTicks {s : State} (sweep : ∀ r, (realmOf s r).sweeping = false)
    (train : ∀ e ∈ s.stk, e.2.training = false) (hs : tok {} s.stk = true) : idle s = passTicks 1 s := by
  have frame := passTicks_touch 1 s
  have stk : (passTicks 1 s).stk = s.stk := frame.stk rfl
  have sec : (passTicks 1 s).sec = s.sec := frame.sec rfl
  rw [idle, trainTick_eq_self (by rwa [stk]) (by rwa [stk])]
  exact sweepTick_eq_self fun r => by simpa only [realmOf, sec] using sweep r

/-- Settles O57: by the rule of a step for either form of the queue. That commands come one by one from one queue, and what an
idle step does, are the model's choices (log entries 76 and 7). -/
theorem stepRunsTheFrontCommand : Obligations.StepRunsTheFrontCommand :=
  ⟨fun _ _ _ h => step_of_pending_cons h, fun _ _ => step_of_pending_cons rfl, fun _ h => step_of_pending_nil h,
    fun _ sweep train hs => idle_eq_passTicks sweep train hs⟩

end Sys2Proof.Machine
end

section
/-! SUPPORT. Proofs of the architecture family: contained restarts of the control processor and armed instants (R20, R395,
R396, R510 to R513). -/

namespace Sys2Proof.Machine

open Sys2Proof

/-! ### Frames -/

/-- The state that takes from `t` the fields whose bit `m` has, and the others from `s`. -/
def merge (m : Nat) (s t : State) : State where
  variant := bif m.testBit 0 then t.variant else s.variant
  phase := bif m.testBit 1 then t.phase else s.phase
  sup := bif m.testBit 2 then t.sup else s.sup
  doms := bif m.testBit 3 then t.doms else s.doms
  pseq := bif m.testBit 4 then t.pseq else s.pseq
  pwait := bif m.testBit 5 then t.pwait else s.pwait
  spring := bif m.testBit 6 then t.spring else s.spring
  prof := bif m.testBit 7 then t.prof else s.prof
  shut := bif m.testBit 8 then t.shut else s.shut
  cap := bif m.testBit 9 then t.cap else s.cap
  thm := bif m.testBit 10 then t.thm else s.thm
  blks := bif m.testBit 11 then t.blks else s.blks
  rwb := bif m.testBit 12 then t.rwb else s.rwb
  fn0 := bif m.testBit 13 then t.fn0 else s.fn0
  fn1 := bif m.testBit 14 then t.fn1 else s.fn1
  steward := bif m.testBit 15 then t.steward else s.steward
  jobA := bif m.testBit 16 then t.jobA else s.jobA
  jobB := bif m.testBit 17 then t.jobB else s.jobB
  jobIds := bif m.testBit 18 then t.jobIds else s.jobIds
  dsc := bif m.testBit 19 then t.dsc else s.dsc
  scb := bif m.testBit 20 then t.scb else s.scb
  prg := bif m.testBit 21 then t.prg else s.prg
  cmp := bif m.testBit 22 then t.cmp else s.cmp
  mem := bif m.testBit 23 then t.mem else s.mem
  srm := bif m.testBit 24 then t.srm else s.srm
  stk := bif m.testBit 25 then t.stk else s.stk
  opt := bif m.testBit 26 then t.opt else s.opt
  links := bif m.testBit 27 then t.links else s.links
  rtb := bif m.testBit 28 then t.rtb else s.rtb
  fab := bif m.testBit 29 then t.fab else s.fab
  sec := bif m.testBit 30 then t.sec else s.sec
  rel := bif m.testBit 31 then t.rel else s.rel
  mgt := bif m.testBit 32 then t.mgt else s.mgt
  flash := bif m.testBit 33 then t.flash else s.flash
  buddies := bif m.testBit 34 then t.buddies else s.buddies
  freeCtr := bif m.testBit 35 then t.freeCtr else s.freeCtr
  out := bif m.testBit 36 then t.out else s.out
  pending := bif m.testBit 37 then t.pending else s.pending

/-- A choice that a frame decides: the new value, or the old one where the frame keeps it. -/
theorem eq_cond_of_kept {α : Type} {b : Bool} {x y : α} (kept : b = false → x = y) : x = bif b then x else y := by
  cases b with
  | false => exact kept rfl
  | true => rfl

/-- A frame as one equation: outside its mask the new state is the old one. -/
theorem Touch.eq_merge {m : Nat} {s t : State} (h : Touch m s t) : t = merge m s t := by
  obtain ⟨variant, phase, sup, doms, pseq, pwait, spring, prof, shut, cap, thm, blks, rwb, fn0, fn1, steward, jobA, jobB,
    jobIds, dsc, scb, prg, cmp, mem, srm, stk, opt, links, rtb, fab, sec, rel, mgt, flash, buddies, freeCtr, out, pending,
    -, -, -⟩ := h
  cases t
  simp only [merge, State.mk.injEq]
  exact ⟨eq_cond_of_kept variant, eq_cond_of_kept phase, eq_cond_of_kept sup, eq_cond_of_kept doms, eq_cond_of_kept pseq,
    eq_cond_of_kept pwait, eq_cond_of_kept spring, eq_cond_of_kept prof, eq_cond_of_kept shut, eq_cond_of_kept cap,
    eq_cond_of_kept thm, eq_cond_of_kept blks, eq_cond_of_kept rwb, eq_cond_of_kept fn0, eq_cond_of_kept fn1,
    eq_cond_of_kept steward, eq_cond_of_kept jobA, eq_cond_of_kept jobB, eq_cond_of_kept jobIds, eq_cond_of_kept dsc,
    eq_cond_of_kept scb, eq_cond_of_kept prg, eq_cond_of_kept cmp, eq_cond_of_kept mem, eq_cond_of_kept srm,
    eq_cond_of_kept stk, eq_cond_of_kept opt, eq_cond_of_kept links, eq_cond_of_kept rtb, eq_cond_of_kept fab,
    eq_cond_of_kept sec, eq_cond_of_kept rel, eq_cond_of_kept mgt, eq_cond_of_kept flash, eq_cond_of_kept buddies,
    eq_cond_of_kept freeCtr, eq_cond_of_kept out, eq_cond_of_kept pending⟩

/-- A frame without the functions keeps every ring. -/
theorem Touch.ring {m : Nat} {s t : State} (h : Touch m s t) (h0 : m.testBit 13 = false) (h1 : m.testBit 14 = false)
    (p r : Nat) : ring t p r = ring s p r := by
  rw [Machine.ring, Machine.ring, fn, fn, h.fn0 h0, h.fn1 h1]

/-- A module event changes the management part only: it names no job. -/
theorem logMod_touch_mgt (code : Nat) (unit : W64) (data : List W64) (s : State) :
    Touch 0x100000000 s (logMod code unit data s) := by
  have eq : logMod code unit data s = s.setMgt (logMod code unit data s).mgt := rfl
  rw [eq]
  refine Touch.setMgt_le rfl (fun inv => ?_) (Touch.refl _ _)
  obtain ⟨-, hwq, log, evq, -⟩ := (logMod_touch code unit data s).inv inv
  exact ⟨hwq, log, evq⟩

/-- What a module event makes of the management part depends on that part and on Rack Time alone. -/
theorem logMod_mgt_congr (code : Nat) (unit : W64) (data : List W64) {s t : State} (mgt : s.mgt = t.mgt)
    (rtb : s.rtb = t.rtb) : (logMod code unit data s).mgt = (logMod code unit data t).mgt := by
  have now : rtNow s = rtNow t := by rw [rtNow, rtNow, rtb]
  simp only [logMod, logFold, logEv, now, mgt, if_true, State.setMgt_mgt]

/-! ### Rings -/

@[simp] theorem fn_setFn_same (s : State) (p : Nat) (f : Fn) : fn (setFn s p f) p = f := by
  unfold fn setFn
  split <;> rfl

theorem fn_setFn_ne (s : State) {p q : Nat} (f : Fn) (hp : p < 2) (hq : q < 2) (h : q ≠ p) :
    fn (setFn s p f) q = fn s q := by
  unfold fn setFn
  by_cases p0 : p = 0
  · rw [if_pos p0, if_neg (by omega), if_neg (by omega)]
    rfl
  · rw [if_neg p0, if_pos (by omega), if_pos (by omega)]
    rfl

/-- Rings differ in their reset value: what is written under one default leaves the other keys, read under another. -/
theorem tget_tset_ne_of_default {α : Type} [DecidableEq α] (d d' : α) (t : Tbl α) (k j : Nat) (v : α) (h : k ≠ j) :
    tget d (tset d' t j v) k = tget d t k := by
  unfold tset
  split
  · exact tget_tdrop_ne _ _ _ _ h
  · rw [tget_tins_ne _ _ _ _ _ h, tget_tdrop_ne _ _ _ _ h]

@[simp] theorem ring_setRing_same (s : State) (p r : Nat) (x : Ring) : ring (setRing s p r x) p r = x := by
  simp [ring, setRing]

theorem ring_setRing_ne (s : State) {p r q k : Nat} (x : Ring) (hp : p < 2) (hq : q < 2) (h : (q, k) ≠ (p, r)) :
    ring (setRing s p r x) q k = ring s q k := by
  unfold ring setRing
  by_cases same : q = p
  · subst same
    have hk : k ≠ r := fun e => h (by rw [e])
    rw [fn_setFn_same]
    exact tget_tset_ne_of_default _ _ _ _ _ _ hk
  · rw [fn_setFn_ne s _ hp hq same]

/-- The function and number of each ring. -/
def ringPlaces : List (Nat × Nat) := (List.range 2).flatMap fun p => (List.range 4).map fun r => (p, r)

theorem mem_ringPlaces {p r : Nat} : (p, r) ∈ ringPlaces ↔ p < 2 ∧ r < 4 := by
  simp only [ringPlaces, List.mem_flatMap, List.mem_map, List.mem_range, Prod.mk.injEq]
  constructor
  · rintro ⟨_, hp, _, hr, rfl, rfl⟩
    exact ⟨hp, hr⟩
  · rintro ⟨hp, hr⟩
    exact ⟨p, hp, r, hr, rfl, rfl⟩

/-- An operation carried out on each ring in turn. -/
def everyRing (f : Nat → Nat → State → State) (s : State) : State := ringPlaces.foldl (fun t x => f x.1 x.2 t) s

/-- The loop over functions and rings, as the model writes it. -/
theorem foldl_rings_eq_everyRing (f : Nat → Nat → State → State) (s : State) :
    [0, 1].foldl (fun t p => [0, 1, 2, 3].foldl (fun u r => f p r u) t) s = everyRing f s := rfl

theorem everyRing_touch {n : Nat} {f : Nat → Nat → State → State} (hf : ∀ p r s, Touch n s (f p r s)) (s : State) :
    Touch n s (everyRing f s) :=
  Touch.foldl _ _ (fun u x => hf x.1 x.2 u) (Touch.refl n s)

/-- The operation on one ring leaves every other ring. -/
def OneRing (f : Nat → Nat → State → State) : Prop :=
  ∀ (s : State) (p r q k : Nat), p < 2 → q < 2 → (q, k) ≠ (p, r) → ring (f p r s) q k = ring s q k

section
variable {f : Nat → Nat → State → State} (one : OneRing f)
include one

theorem OneRing.foldl_other {l : List (Nat × Nat)} (small : ∀ x ∈ l, x.1 < 2) {q k : Nat} (hq : q < 2) (h : (q, k) ∉ l)
    (s : State) : ring (l.foldl (fun t x => f x.1 x.2 t) s) q k = ring s q k := by
  induction l generalizing s with
  | nil => rfl
  | cons x l ih =>
    obtain ⟨hx, hl⟩ := List.forall_mem_cons.1 small
    obtain ⟨ne, notin⟩ := List.ne_and_not_mem_of_not_mem_cons h
    rw [List.foldl_cons, ih hl notin]
    exact one s x.1 x.2 q k hx hq ne

theorem OneRing.foldl_each {l : List (Nat × Nat)} (small : ∀ x ∈ l, x.1 < 2) (nd : l.Nodup) {R : Ring → Ring → Prop}
    (each : ∀ s p r, R (ring s p r) (ring (f p r s) p r)) {q k : Nat} (hq : q < 2) (h : (q, k) ∈ l) (s : State) :
    R (ring s q k) (ring (l.foldl (fun t x => f x.1 x.2 t) s) q k) := by
  induction l generalizing s with
  | nil => cases h
  | cons x l ih =>
    obtain ⟨hx, hl⟩ := List.forall_mem_cons.1 small
    obtain ⟨notin, ndl⟩ := List.nodup_cons.1 nd
    rw [List.foldl_cons]
    by_cases e : (q, k) = x
    · subst e
      rw [one.foldl_other hl hq notin]
      exact each s q k
    · rw [← one s x.1 x.2 q k hx hq e]
      exact ih hl ndl ((List.mem_cons.1 h).resolve_left e) _

/-- What the operation makes of its ring, the loop makes of each ring. -/
theorem OneRing.everyRing_each {R : Ring → Ring → Prop} (each : ∀ s p r, R (ring s p r) (ring (f p r s) p r)) (s : State)
    {p r : Nat} (hp : p < 2) (hr : r < 4) : R (ring s p r) (ring (everyRing f s) p r) :=
  one.foldl_each (fun _ hx => (mem_ringPlaces.1 hx).1) (by decide) each hp (mem_ringPlaces.2 ⟨hp, hr⟩) s

end

/-! ### Transfers that are served again (R512) -/

/-- What a stopping transfer other than a staging leaves behind spares the rings and the locks. -/
theorem transferStops_touch_of_ne_stage (p r : Nat) {e : InFlight} (h : e.desc.opcode ≠ 0x0505) (s : State) :
    Touch 0x820830000 s (transferStops p r e s) := by
  have ne : e.desc.opcode.toNat ≠ 0x0505 := fun n => h (BitVec.eq_of_toNat_eq n)
  have drop := (pullDrop_touch p r e.no s).mono (n := 0x820830000) rfl
  unfold transferStops
  dsimp only
  split
  · exact drop.trans ((copyLoaded_touch _ _ _).mono rfl)
  · split
    · exact drop.trans (Touch.ite ((addCapture_touch _ _ _).mono rfl) (Touch.refl _ _))
    · exact drop
  · split
    · exact drop.trans ((restoreFailed_touch _ _).mono rfl)
    · exact drop
  · exact absurd ‹_› ne
  · exact drop

/-- One command of a ring across the restart: a transfer under way goes back to its start, unless it stages firmware. -/
def serveAgain (p r : Nat) (s : State) (e : InFlight) : State :=
  if (inTransfer e && e.desc.opcode != 0x0505) = true then
    putEntry p r e { e with started := false, moved := 0 } (transferStops p r e s)
  else s

theorem ringAgain_eq_foldl (p r : Nat) (s : State) :
    ringAgain p r s = (ring s p r).inflight.foldl (serveAgain p r) s := List.foldl_filter

/-- The two outcomes for one command. -/
theorem serveAgain_cases (p r : Nat) (s : State) (e : InFlight) :
    (inTransfer e = true ∧ e.desc.opcode ≠ 0x0505
      ∧ serveAgain p r s e = putEntry p r e { e with started := false, moved := 0 } (transferStops p r e s))
    ∨ ((inTransfer e = true → e.desc.opcode = 0x0505) ∧ serveAgain p r s e = s) := by
  unfold serveAgain
  split
  · next c =>
    obtain ⟨transfer, notStage⟩ := Bool.and_eq_true_iff.1 c
    exact .inl ⟨transfer, by simpa using notStage, rfl⟩
  · next c => exact .inr ⟨fun transfer => by simpa [transfer] using c, rfl⟩

theorem serveAgain_touch (p r : Nat) (s : State) (e : InFlight) : Touch 0x820836000 s (serveAgain p r s e) := by
  obtain ⟨-, notStage, eq⟩ | ⟨-, eq⟩ := serveAgain_cases p r s e <;> rw [eq]
  · exact (putEntry_touch _ _ _ _ _).via rfl ((transferStops_touch_of_ne_stage p r notStage s).mono rfl)
  · exact Touch.refl _ _

theorem serveAgain_ring_ne (s : State) (e : InFlight) {p r q k : Nat} (hp : p < 2) (hq : q < 2) (h : (q, k) ≠ (p, r)) :
    ring (serveAgain p r s e) q k = ring s q k := by
  obtain ⟨-, notStage, eq⟩ | ⟨-, eq⟩ := serveAgain_cases p r s e <;> rw [eq]
  rw [putEntry, ring_setRing_ne _ _ hp hq h]
  exact (transferStops_touch_of_ne_stage p r notStage s).ring rfl rfl q k

/-- A transfer under way after `e` was served again was so before, and it is `e` only if it stages firmware. -/
theorem transfer_of_serveAgain {p r : Nat} {s : State} {e y : InFlight}
    (hy : y ∈ (ring (serveAgain p r s e) p r).inflight) (transfer : inTransfer y = true) :
    y ∈ (ring s p r).inflight ∧ (y = e → y.desc.opcode = 0x0505) := by
  obtain ⟨-, notStage, eq⟩ | ⟨stage, eq⟩ := serveAgain_cases p r s e <;> rw [eq] at hy
  · have rings := (transferStops_touch_of_ne_stage p r notStage s).ring rfl rfl p r
    rw [putEntry, ring_setRing_same, rings] at hy
    obtain ⟨z, hz, eq⟩ := List.mem_map.1 hy
    split at eq
    · subst eq
      cases transfer
    · next no =>
      subst eq
      exact ⟨hz, fun same => absurd (congrArg InFlight.no same) no⟩
  · exact ⟨hy, fun same => same ▸ stage (same ▸ transfer)⟩

theorem transfer_of_foldl_serveAgain {p r : Nat} {l : List InFlight} {s : State} {y : InFlight}
    (hy : y ∈ (ring (l.foldl (serveAgain p r) s) p r).inflight) (transfer : inTransfer y = true) :
    y ∈ (ring s p r).inflight ∧ (y ∈ l → y.desc.opcode = 0x0505) := by
  induction l generalizing s with
  | nil => exact ⟨hy, fun h => by cases h⟩
  | cons e l ih =>
    obtain ⟨later, stage⟩ := ih hy
    obtain ⟨before, stageHere⟩ := transfer_of_serveAgain later transfer
    exact ⟨before, fun h => (List.mem_cons.1 h).elim stageHere stage⟩

/-- The only transfers of the ring under way are stagings of firmware. -/
def OnlyStaging (x : Ring) : Prop := ∀ e ∈ x.inflight, inTransfer e = true → e.desc.opcode = 0x0505

theorem ringAgain_onlyStaging (s : State) (p r : Nat) : OnlyStaging (ring (ringAgain p r s) p r) := by
  intro e he transfer
  rw [ringAgain_eq_foldl] at he
  obtain ⟨before, stage⟩ := transfer_of_foldl_serveAgain he transfer
  exact stage before

theorem oneRing_ringAgain : OneRing ringAgain := by
  intro s p r q k hp hq h
  rw [ringAgain_eq_foldl]
  generalize (ring s p r).inflight = l
  induction l generalizing s with
  | nil => rfl
  | cons e l ih => rw [List.foldl_cons, ih, serveAgain_ring_ne s e hp hq h]

/-- Transfers that are served again keep the locks and with them the whole of `rel`. -/
theorem ringAgain_touch_keeps_rel (p r : Nat) (s : State) : Touch 0x820836000 s (ringAgain p r s) := by
  rw [ringAgain_eq_foldl]
  exact Touch.foldl _ _ (serveAgain_touch p r) (Touch.refl _ _)

/-! ### The start of a restart (R510, R511) -/

/-- `rel` of a CP that has gone into its restart. -/
def relRestarting (cause : Nat) (pc : W64) (s : State) : Rel :=
  { s.rel with restarting := true, cause, pc, restarts := rtNow s :: restartsKept s }

/-- After the rings, a restart only notes that the gates of Solstices are held. -/
theorem cpRestart_after_rings (cause : Nat) (pc : W64) {s : State} (up : cpUp s = true) :
    Touch 0x100030000 (everyRing ringAgain (s.setRel (relRestarting cause pc s))) (cpRestart cause pc s) := by
  rw [cpRestart, if_neg (by simp [up])]
  dsimp only
  rw [foldl_rings_eq_everyRing ringAgain]
  refine Touch.foldl _ _ (fun t slot => ?_) (Touch.refl _ _)
  split
  · split
    · exact gateHeld_touch _ _
    · exact (gateHeld_touch _ _).via rfl ((setJobAt_touch _ _ _).mono rfl)
    · exact Touch.refl _ _
  · exact Touch.refl _ _

/-- A restart notes its cause, PC and RT. -/
theorem cpRestart_rel (cause : Nat) (pc : W64) {s : State} (up : cpUp s = true) :
    (cpRestart cause pc s).rel = relRestarting cause pc s :=
  ((cpRestart_after_rings cause pc up).rel rfl).trans
    ((everyRing_touch ringAgain_touch_keeps_rel (s.setRel (relRestarting cause pc s))).rel rfl)

/-- A restart leaves no transfer under way but stagings of firmware (log entry 41). -/
theorem cpRestart_onlyStaging (cause : Nat) (pc : W64) {s : State} (up : cpUp s = true) {p r : Nat} (hp : p < 2)
    (hr : r < 4) : OnlyStaging (ring (cpRestart cause pc s) p r) := by
  rw [(cpRestart_after_rings cause pc up).ring rfl rfl p r]
  exact oneRing_ringAgain.everyRing_each (R := fun _ x => OnlyStaging x) ringAgain_onlyStaging _ hp hr

/-- What the two rows that start a restart have in common. -/
theorem cpRestart_starts {c : Instr} {cause : Nat} {pc : W64} {s : State} (up : cpUp s = true)
    (run : exec c s = .next (cpRestart cause pc s)) :
    ∃ t, exec c s = .next t ∧ t.rel.restarting = true ∧ t.rel.cause = cause ∧ t.rel.pc = pc
      ∧ t.rel.restarts = rtNow s :: restartsKept s
      ∧ (∀ p < 2, ∀ r < 4, ∀ e ∈ (ring t p r).inflight, inTransfer e = true → e.desc.opcode = 0x0505)
      ∧ t.cmp = s.cmp ∧ t.dsc = s.dsc ∧ t.links = s.links ∧ t.opt = s.opt ∧ t.rtb = s.rtb ∧ t.doms = s.doms := by
  have frame := cpRestart_touch cause pc s
  have rel := cpRestart_rel cause pc up
  exact ⟨_, run, by rw [rel]; rfl, by rw [rel]; rfl, by rw [rel]; rfl, by rw [rel]; rfl,
    fun p hp r hr => cpRestart_onlyStaging cause pc up hp hr,
    frame.cmp rfl, frame.dsc rfl, frame.links rfl, frame.opt rfl, frame.rtb rfl, frame.doms rfl⟩

/-! ### The end of a restart (R511, R513) -/

/-- Of `rel`, nothing but the table of locks differs. -/
def LocksOnly (s t : State) : Prop := t.rel = { s.rel with locks := t.rel.locks }

theorem LocksOnly.of_rel_eq {s t : State} (h : t.rel = s.rel) : LocksOnly s t := by
  rw [LocksOnly, h]

theorem LocksOnly.trans {s t u : State} (h : LocksOnly s t) (g : LocksOnly t u) : LocksOnly s u := by
  rw [LocksOnly] at h g ⊢
  rw [g, h]

theorem LocksOnly.foldl {β : Type} (f : State → β → State) (hf : ∀ t b, LocksOnly t (f t b)) (l : List β) (s : State) :
    LocksOnly s (l.foldl f s) := by
  induction l generalizing s with
  | nil => exact .of_rel_eq rfl
  | cons b l ih => exact (hf s b).trans (ih _)

/-- After its lock has left the table, a release ends scrubbing and moves lanes that waited. -/
theorem lockDrop_after_release {k : Nat} {s : State} {l : Lock} (h : lockAt s k = some l) :
    Touch 0x1002000000 (s.setRel { s.rel with locks := tset none s.rel.locks k none }) (lockDrop k s) := by
  rw [lockDrop, h]
  dsimp only
  have scrub := Touch.ite (c := l.cls = 1)
    ((setScrub_touch l.res false (s.setRel { s.rel with locks := tset none s.rel.locks k none })).mono (n := 0x1002000000) rfl)
    (Touch.refl _ _)
  exact Touch.ite (Touch.foldl _ _ (fun t p => Touch.ite ((moveStuck_touch p t).mono rfl) (Touch.refl _ _)) scrub) scrub

theorem lockDrop_locksOnly (k : Nat) (s : State) : LocksOnly s (lockDrop k s) := by
  cases h : lockAt s k with
  | none =>
    rw [lockDrop, h]
    exact .of_rel_eq rfl
  | some l =>
    have release : LocksOnly s (s.setRel { s.rel with locks := tset none s.rel.locks k none }) := rfl
    exact release.trans (.of_rel_eq ((lockDrop_after_release h).rel rfl))

theorem updDiscard_locksOnly (s : State) : LocksOnly s (updDiscard s) := by
  have unlock : LocksOnly s (stageUnlock s) := by
    unfold stageUnlock
    split
    · exact lockDrop_locksOnly _ _
    · exact .of_rel_eq rfl
  unfold updDiscard
  split
  · exact .of_rel_eq rfl
  · unfold updEnd
    dsimp only
    split
    · exact unlock.trans (.of_rel_eq rfl)
    · exact .of_rel_eq rfl

/-- Without an update flow there is nothing to discard. -/
theorem updDiscard_of_idle {s : State} (h : s.mgt.upd.st = .idle) : updDiscard s = s := by
  simp [updDiscard, h]

theorem spareLocksEnd_locksOnly (s : State) : LocksOnly s (spareLocksEnd s) :=
  LocksOnly.foldl _ (fun t e => by
    split
    · exact lockDrop_locksOnly _ _
    · exact .of_rel_eq rfl) _ _

theorem spareLocksEnd_of_no_locks {s : State} (h : heldLocks s = []) : spareLocksEnd s = s := by
  simp [spareLocksEnd, h]

theorem shutAdvance_of_no_shutdown {s : State} (h : s.shut = none) : shutAdvance s = s := by
  simp [shutAdvance, shutGo, h]

/-- A ring after its latched doorbell, if any, has been served. -/
def woken (x : Ring) : Ring := if x.latched = true then { x with latched := false, fetching := x.st == .on } else x

theorem ring_ringWake_same (s : State) (p r : Nat) : ring (ringWake p r s) p r = woken (ring s p r) := by
  unfold ringWake woken
  dsimp only
  split
  · rw [ring_setRing_same]
  · rfl

theorem oneRing_ringWake : OneRing ringWake := by
  intro s p r q k hp hq h
  unfold ringWake
  dsimp only
  split
  · exact ring_setRing_ne s _ hp hq h
  · rfl

/-- The restart is over. -/
def cpResumed (s : State) : State := s.setRel { s.rel with restarting := false }

theorem cpResumed_touch (s : State) : Touch 0x80000000 s (cpResumed s) := .setRel rfl (.refl _ _)

/-- The CP is back: a flow of the sideband is discarded, and takeovers that ended meanwhile give up their locks. -/
def cpBack (s : State) : State := spareLocksEnd (updDiscard (cpResumed s))

/-- The outcome is logged, and the rings serve again. -/
def cpServes (s : State) : State := everyRing ringWake (logMod 0x7007 0 (restartData s 0) (cpBack s))

theorem cpBack_locksOnly (s : State) : LocksOnly (cpResumed s) (cpBack s) :=
  (updDiscard_locksOnly _).trans (spareLocksEnd_locksOnly _)

theorem cpBack_touch (s : State) : Touch 0x1392800000 s (cpBack s) :=
  (spareLocksEnd_touch _).via rfl ((updDiscard_touch _).via rfl ((cpResumed_touch s).mono rfl))

theorem cpBack_touch_of_idle {s : State} (idle : s.mgt.upd.st = .idle) : Touch 0x1082000000 s (cpBack s) := by
  have resumed : (cpResumed s).mgt.upd.st = .idle := idle
  rw [cpBack, updDiscard_of_idle resumed]
  exact (spareLocksEnd_touch _).via rfl ((cpResumed_touch s).mono rfl)

/-- The rings serve, and the rest of the state is that of the log entry. -/
theorem cpServes_after_log (s : State) : Touch 0x6000 (logMod 0x7007 0 (restartData s 0) (cpBack s)) (cpServes s) :=
  everyRing_touch ringWake_touch _

theorem cpServes_touch (s : State) : Touch 0x1392806000 s (cpServes s) :=
  (cpServes_after_log s).via rfl ((logMod_touch_mgt _ _ _ _).via rfl ((cpBack_touch s).mono rfl))

theorem cpServes_touch_of_idle {s : State} (idle : s.mgt.upd.st = .idle) : Touch 0x1182006000 s (cpServes s) :=
  (cpServes_after_log s).via rfl ((logMod_touch_mgt _ _ _ _).via rfl ((cpBack_touch_of_idle idle).mono rfl))

theorem cpServes_rel (s : State) : (cpServes s).rel = (cpBack s).rel :=
  ((cpServes_after_log s).rel rfl).trans ((logMod_touch_mgt _ _ _ _).rel rfl)

theorem cpServes_locksOnly (s : State) : LocksOnly (cpResumed s) (cpServes s) :=
  (cpBack_locksOnly s).trans (.of_rel_eq (cpServes_rel s))

theorem cpServes_rel_of_idle {s : State} (idle : s.mgt.upd.st = .idle) (free : heldLocks s = []) :
    (cpServes s).rel = { s.rel with restarting := false } := by
  have resumed : (cpResumed s).mgt.upd.st = .idle := idle
  have noLocks : heldLocks (cpResumed s) = [] := free
  rw [cpServes_rel, cpBack, updDiscard_of_idle resumed, spareLocksEnd_of_no_locks noLocks]
  rfl

theorem cpServes_mgt_of_idle {s : State} (idle : s.mgt.upd.st = .idle) :
    (cpServes s).mgt = (logMod 0x7007 0 (restartData s 0) s).mgt := by
  have back := cpBack_touch_of_idle idle
  rw [(cpServes_after_log s).mgt rfl]
  exact logMod_mgt_congr _ _ _ (back.mgt rfl) (back.rtb rfl)

theorem ring_cpServes (s : State) {p r : Nat} (hp : p < 2) (hr : r < 4) : ring (cpServes s) p r = woken (ring s p r) := by
  have before : ring (logMod 0x7007 0 (restartData s 0) (cpBack s)) p r = ring s p r :=
    ((logMod_touch_mgt _ _ _ _).ring rfl rfl p r).trans ((cpBack_touch s).ring rfl rfl p r)
  rw [← before]
  exact oneRing_ringWake.everyRing_each (R := fun x y => y = woken x) ring_ringWake_same _ hp hr

/-- The end of a restart that is not the fourth in 24 h, outside a shutdown and after mailbox ready. -/
theorem execCpRestartDone_eq {s : State} (restarting : s.rel.restarting = true) (held : s.rel.held = false)
    (few : s.rel.restarts.length < 4) (shut : s.shut = none) (ready : s.spring.mbxReady = true) :
    execCpRestartDone s = .next (cpServes s) := by
  have noShutdown : (cpServes s).shut = none := ((cpServes_touch s).shut rfl).trans shut
  have readyStill : (logMod 0x7007 0 (restartData s 0) (cpBack s)).spring.mbxReady = true := by
    rw [(logMod_touch_mgt _ _ _ _).spring rfl, (cpBack_touch s).spring rfl, ready]
  have goesOn : ¬ ((!s.rel.restarting || s.rel.held || decide (4 ≤ s.rel.restarts.length)) = true) := by
    simp [restarting, held, few]
  rw [execCpRestartDone, if_neg goesOn]
  dsimp only
  rw [foldl_rings_eq_everyRing ringWake]
  split
  · exact congrArg Host.Outcome.next (shutAdvance_of_no_shutdown noShutdown)
  · exact absurd readyStill ‹_›

/-- The fourth restart within 24 h does not end (R513). -/
theorem execCpRestartDone_of_fourth {s : State} (many : 4 ≤ s.rel.restarts.length) : execCpRestartDone s = .next s := by
  rw [execCpRestartDone, if_pos (by simp [many])]

/-! ### Instants that fire (R396) -/

theorem execInstantFires_rtb {s : State} (serves : rtbServes s = true) :
    ∃ t, execInstantFires s = .next t
      ∧ t.rtb = { s.rtb with armed := s.rtb.armed.filter fun a => (rtNow s).toNat < a.1.toNat } := by
  rw [execInstantFires, if_neg (by simp [serves])]
  exact ⟨_, rfl, (Touch.foldl _ _ (fun t (a : W64 × Instant) => instantActs_touch t a.2) (Touch.refl _ _)).rtb rfl⟩

/-- One armed instant that RT has reached acts on a table that it has left. -/
theorem execInstantFires_single {s : State} {x : W64} {i : Instant} (serves : rtbServes s = true)
    (armed : s.rtb.armed = [(x, i)]) (reached : x.toNat ≤ (rtNow s).toNat) :
    execInstantFires s = .next (instantActs { s with rtb := { s.rtb with armed := [] } } i) := by
  have notFuture : ¬ (rtNow s).toNat < x.toNat := Nat.not_lt.2 reached
  rw [execInstantFires, if_neg (by simp [serves])]
  simp only [armed, List.filter_cons, List.filter_nil, reached, notFuture, decide_true, decide_false, if_true, if_false,
    Bool.false_eq_true, List.foldl_cons, List.foldl_nil, List.takeWhile_nil, List.dropWhile_nil, List.nil_append]
  rfl

theorem instantActs_jobStart {s : State} {slot : Nat} {j : Job} (h : jobAt s slot = some j) :
    instantActs s (.jobStart slot) = setJobAt s slot (some { j with startAt := none }) := by
  simp only [instantActs, h]

theorem instantActs_stepControl {s : State} {slot action n : Nat} {j : Job} (h : jobAt s slot = some j)
    (live : j.state ≠ .aborted) :
    instantActs s (.stepControl slot action n) = setJobAt s slot (some (if inSolstice j = true
      then { j with deferred := j.deferred ++ [.act action n] } else applyControl (rtNow s) action n j)) := by
  have notAborted : ¬ ((j.state == .aborted) = true) := by simpa using live
  simp only [instantActs, h, if_neg notAborted, addDeferred]
  split <;> rfl

/-- Settles O23: the start and the end of a restart go ring by ring, each loop judged by its rule for one ring, and a single
instant that fires acts on a table that it has left. What goes on across a restart, a staging of firmware among it, is the
model's choice (log entry 41). -/
theorem restartsAndArmedInstants : Obligations.RestartsAndArmedInstants := by
  refine ⟨⟨fun s pc up => cpRestart_starts up rfl, fun s cause pc low _ up => ?_, fun s pc up => ?_,
    fun s restarting held few shut ready => ?_, fun s _ _ many => execCpRestartDone_of_fourth many,
    fun s restarting held => ?_⟩, fun s serves => execInstantFires_rtb serves,
    fun s x n serves armed reached => execInstantFires_single serves armed reached,
    fun s x slot j serves armed reached job => ?_, fun s x slot action n j serves armed reached job live => ?_,
    fun s x r serves armed reached => execInstantFires_single serves armed reached⟩
  · exact cpRestart_starts up (if_neg (show cause ≠ 0 by omega))
  · exact congrArg Host.Outcome.next (if_pos up)
  · have rel := cpServes_locksOnly s
    have frame := cpServes_touch s
    refine ⟨cpServes s, execCpRestartDone_eq restarting held few shut ready, by rw [rel]; rfl, by rw [rel]; rfl,
      fun p hp r hr => ring_cpServes s hp hr, frame.cmp rfl, frame.links rfl, frame.doms rfl, fun idle => ?_,
      fun idle free => cpServes_rel_of_idle idle free⟩
    exact ⟨cpServes_mgt_of_idle idle, (cpServes_touch_of_idle idle).eq_merge⟩
  · exact ⟨_, if_neg (by simp [restarting, held]), rfl, rfl, rfl, rfl⟩
  · exact (execInstantFires_single serves armed reached).trans (congrArg Host.Outcome.next (instantActs_jobStart job))
  · exact (execInstantFires_single serves armed reached).trans
      (congrArg Host.Outcome.next (instantActs_stepControl job live))

end Sys2Proof.Machine
end

section
/-! SUPPORT. Proofs of the Spring family: functions and rings. What an operation on a ring leaves of its function, of the
other rings and of the other function (R105 to R124). -/

namespace Sys2Proof.Machine

open Sys2Proof

/-! ### Module events -/

/-- An event that names neither job nor realm changes the management part only. -/
theorem logFold_touch_mgt (fold code : Nat) (unit : W64) (data : List W64) (s : State) :
    Touch 0x100000000 s (logFold fold code 0xFF 0xFFFF unit data s) := by
  have eq : logFold fold code 0xFF 0xFFFF unit data s = s.setMgt (logFold fold code 0xFF 0xFFFF unit data s).mgt := rfl
  rw [eq]
  refine Touch.setMgt_le rfl (fun inv => ?_) (Touch.refl _ _)
  obtain ⟨-, hwq, log, evq, -⟩ := (logFold_touch fold code 0xFF 0xFFFF unit data s).inv inv
  exact ⟨hwq, log, evq⟩

theorem writeIgnored_touch_mgt (who off : Nat) (s : State) : Touch 0x100000000 s (writeIgnored who off s) :=
  logMod_touch_mgt _ _ _ _

theorem barDenied_touch_mgt (who off : Nat) (s : State) : Touch 0x100000000 s (barDenied who off s) :=
  logFold_touch_mgt _ _ _ _ _

/-! ### A function and its rings -/

/-- The number of a function is in range, as the rows test it. -/
theorem port_in_range {p : Nat} (hp : p < 2) : decide (2 ≤ p) = false := decide_eq_false (Nat.not_le.2 hp)

/-- So is the number of a ring. -/
theorem ring_in_range {r : Nat} (hr : r < 4) : decide (4 ≤ r) = false := decide_eq_false (Nat.not_le.2 hr)

/-- A row of a function goes past its guard when the link is up. -/
theorem port_reached {s : State} {p : Nat} (hp : p < 2) (up : (fn s p).linkUp = true) :
    ¬ ((decide (2 ≤ p) || !(fn s p).linkUp) = true) := by
  rw [port_in_range hp, up]
  exact Bool.false_ne_true

/-- A row of a ring goes past its guard when the link is up. -/
theorem ring_reached {s : State} {p r : Nat} (hp : p < 2) (hr : r < 4) (up : (fn s p).linkUp = true) :
    ¬ ((decide (2 ≤ p) || decide (4 ≤ r) || !(fn s p).linkUp) = true) := by
  rw [port_in_range hp, ring_in_range hr, up]
  exact Bool.false_ne_true

/-- A frame without the functions keeps them. -/
theorem Touch.fn {m : Nat} {s t : State} (h : Touch m s t) (h0 : m.testBit 13 = false) (h1 : m.testBit 14 = false)
    (p : Nat) : fn t p = fn s p := by
  rw [Machine.fn, Machine.fn, h.fn0 h0, h.fn1 h1]

theorem fn_setFn_other (s : State) {p : Nat} (f : Fn) (hp : p < 2) : fn (setFn s p f) (1 - p) = fn s (1 - p) :=
  fn_setFn_ne s f hp (by omega) (by omega)

/-- A write to a function that spares the rings. -/
theorem ring_setFn_of_rings_eq (s : State) {p : Nat} {f : Fn} (r : Nat) (h : f.rings = (fn s p).rings) :
    ring (setFn s p f) p r = ring s p r := by
  rw [ring, ring, fn_setFn_same, h]

theorem ring_emit (o : Out) (s : State) (p r : Nat) : ring (emit o s) p r = ring s p r :=
  (emit_touch o s).ring rfl rfl p r

/-- Fields of a function that are not its rings. -/
theorem d3hot_setRing (s : State) (p r : Nat) (x : Ring) : (fn (setRing s p r x) p).d3hot = (fn s p).d3hot := by
  rw [setRing, fn_setFn_same]

/-- A ring's Fault is its state and one module event. -/
theorem ringFault_touch_mgt (p r : Nat) (cause : List W64) (s : State) :
    Touch 0x100006000 s (ringFault p r cause s) :=
  (logMod_touch_mgt _ _ _ _).via rfl ((setRing_touch _ _ _ _).mono rfl)

theorem ring_ringFault (p r : Nat) (cause : List W64) (s : State) :
    ring (ringFault p r cause s) p r = { ring s p r with st := .fault, fetching := false, rekick := false } := by
  rw [ringFault, (logMod_touch_mgt _ _ _ _).ring rfl rfl, ring_setRing_same]

theorem ringFault_mgt (p r : Nat) (cause : List W64) (s : State) :
    (ringFault p r cause s).mgt = (logMod 0x9009 (resFn p) (dw r :: cause) s).mgt :=
  logMod_mgt_congr _ _ _ ((setRing_touch _ _ _ _).mgt rfl) ((setRing_touch _ _ _ _).rtb rfl)

end Sys2Proof.Machine
end

section
/-! SUPPORT. Proofs of the Spring family: command rings that are enabled, fetch, fail and complete (R83, R92, R107, R114 to
R124). -/

namespace Sys2Proof.Machine

open Sys2Proof

/-! ### RING_CTL (R83, R92, R117) -/

/-- The host has taken the function out of D3hot (log entry 47). -/
def awake (p : Nat) (s : State) : State := setFn s p { fn s p with d3hot := false }

theorem awake_touch (p : Nat) (s : State) : Touch 0x6000 s (awake p s) := setFn_touch _ _ _

theorem ring_awake (p r : Nat) (s : State) : ring (awake p s) p r = ring s p r := ring_setFn_of_rings_eq s r rfl

theorem d3hot_awake (p : Nat) (s : State) : (fn (awake p s) p).d3hot = false := by rw [awake, fn_setFn_same]

/-- The fields that RING_CTL writes at Off. -/
def withCtl (v : W32) (x : Ring) : Ring :=
  { x with entries := BitVec.ofNat 4 (fld v 12 4), vector := BitVec.ofNat 3 (fld v 8 3), irqEn := bit v 1 }

/-- The state in which a write of RING_CTL finds a ring that is not Off: a changed field is an ignored write. -/
def ctlIgnored (p r : Nat) (v : W32) (s : State) : State :=
  if withCtl v (ring s p r) = ring s p r then s else wrigRing p r (0x1000 * r + 4) (ring s p r) s

/-- Nothing of a ring but its note of ignored writes differs. -/
def WrigOnly (x y : Ring) : Prop :=
  y = { x with wrig := y.wrig, wrigCount := y.wrigCount, wrigSrc := y.wrigSrc, wrigAddr := y.wrigAddr }

theorem wrigRing_wrigOnly (p r off : Nat) (s : State) :
    WrigOnly (ring s p r) (ring (wrigRing p r off (ring s p r) s) p r) := by
  unfold wrigRing
  split
  · rw [ring_setRing_same]
    rfl
  · rw [(writeIgnored_touch_mgt _ _ _).ring rfl rfl, ring_setRing_same]
    rfl

theorem wrigRing_touch_mgt (p r off : Nat) (x : Ring) (s : State) : Touch 0x100006000 s (wrigRing p r off x s) := by
  unfold wrigRing
  split
  · exact (setRing_touch _ _ _ _).mono rfl
  · exact (writeIgnored_touch_mgt _ _ _).via rfl ((setRing_touch _ _ _ _).mono rfl)

theorem ctlIgnored_wrigOnly (p r : Nat) (v : W32) (s : State) : WrigOnly (ring s p r) (ring (ctlIgnored p r v s) p r) := by
  unfold ctlIgnored
  split
  · rfl
  · exact wrigRing_wrigOnly _ _ _ _

theorem ctlIgnored_touch (p r : Nat) (v : W32) (s : State) : Touch 0x100006000 s (ctlIgnored p r v s) :=
  Touch.ite (.refl _ _) (wrigRing_touch_mgt _ _ _ _ _)

theorem execRingCtlWrite_of_off {s : State} {p r : Nat} {v : W32} (hp : p < 2) (hr : r < 4) (up : (fn s p).linkUp = true)
    (off : (ring s p r).st = .off) (en : bit v 0 = true) :
    execRingCtlWrite p r v s = .next (ringEnable p r (withCtl v (ring s p r)) (awake p s)) := by
  rw [execRingCtlWrite, if_neg (ring_reached hp hr up), ← ring_awake p r s]
  extract_lets f t x
  have found : x.st = .off := (congrArg Ring.st (ring_awake p r s)).trans off
  rw [found]
  exact if_pos en

theorem execRingCtlWrite_of_cleared {s : State} {p r : Nat} {v : W32} (hp : p < 2) (hr : r < 4)
    (up : (fn s p).linkUp = true) (st : (ring s p r).st = .on ∨ (ring s p r).st = .fault) (en : bit v 0 = false) :
    execRingCtlWrite p r v s =
      .next (ringDisable p r (ring (ctlIgnored p r v (awake p s)) p r) (ctlIgnored p r v (awake p s))) := by
  rw [execRingCtlWrite, if_neg (ring_reached hp hr up), en]
  extract_lets f t x
  have same : x = ring s p r := ring_awake p r s
  obtain on | fault := st
  · have found : x.st = .on := by rw [same, on]
    rw [found]
    rfl
  · have found : x.st = .fault := by rw [same, fault]
    rw [found]
    rfl

/-- A ring as EN takes it from Off: its counts begin at 0. -/
def countsAtZero (x : Ring) : Ring :=
  { x with en := true, enPend := false, fetched := 0, fetchNo := 0, cplNo := 0, fetching := false, rekick := false }

/-- A ring with valid bases and size goes to Enabling. -/
theorem ringEnable_of_valid {p r : Nat} {x : Ring} (s : State) (desc : x.descBase ≠ 0) (cpl : x.cplBase ≠ 0)
    (lo : 4 ≤ x.entries.toNat) (hi : x.entries.toNat ≤ 12) :
    ringEnable p r x s = setRing s p r { countsAtZero x with st := .enabling } := by
  have size : ¬ (x.entries.toNat < 4 ∨ 12 < x.entries.toNat) := by omega
  simp only [ringEnable, ringCause, if_neg desc, if_neg cpl, if_neg size, countsAtZero]

/-- Without a base for its descriptors it goes to Fault with cause 1. -/
theorem ringEnable_of_no_descBase {p r : Nat} {x : Ring} (s : State) (desc : x.descBase = 0) :
    ringEnable p r x s = ringFault p r [dw 1] (setRing s p r (countsAtZero x)) := by
  simp only [ringEnable, ringCause, if_pos desc, countsAtZero]

theorem ringDisable_touch_fn (p r : Nat) (x : Ring) (s : State) : Touch 0x6000 s (ringDisable p r x s) :=
  setRing_touch _ _ _ _

theorem ring_ringDisable (p r : Nat) (x : Ring) (s : State) :
    ring (ringDisable p r x s) p r = { x with
      st := .disabling, en := false, fetching := false, rekick := false, latched := false
      inflight := x.inflight.map fun e => { e with dropped := true } } := ring_setRing_same _ _ _ _

theorem execRingCtlWrite_enables {s : State} {p r : Nat} {v : W32} (hp : p < 2) (hr : r < 4) (up : (fn s p).linkUp = true)
    (off : (ring s p r).st = .off) (en : bit v 0 = true) (desc : (ring s p r).descBase ≠ 0)
    (cpl : (ring s p r).cplBase ≠ 0) (lo : 4 ≤ fld v 12 4) (hi : fld v 12 4 ≤ 12) :
    ∃ t, execRingCtlWrite p r v s = .next t ∧ (ring t p r).st = .enabling ∧ (ring t p r).en = true
      ∧ (ring t p r).entries.toNat = fld v 12 4 ∧ (ring t p r).irqEn = bit v 1 ∧ (ring t p r).fetchNo = 0
      ∧ (ring t p r).cplNo = 0 ∧ (fn t p).d3hot = false ∧ t = { s with fn0 := t.fn0, fn1 := t.fn1 } := by
  have size : (withCtl v (ring s p r)).entries.toNat = fld v 12 4 :=
    (BitVec.toNat_ofNat _ _).trans (Nat.mod_eq_of_lt (by omega))
  have run := execRingCtlWrite_of_off hp hr up off en
  rw [ringEnable_of_valid (x := withCtl v (ring s p r)) _ desc cpl (by rw [size]; exact lo) (by rw [size]; exact hi)] at run
  have now := ring_setRing_same (awake p s) p r { countsAtZero (withCtl v (ring s p r)) with st := .enabling }
  exact ⟨_, run, congrArg Ring.st now, congrArg Ring.en now, (congrArg (·.entries.toNat) now).trans size,
    congrArg Ring.irqEn now, congrArg Ring.fetchNo now, congrArg Ring.cplNo now,
    (d3hot_setRing _ _ _ _).trans (d3hot_awake p s), ((setRing_touch _ _ _ _).via rfl (awake_touch p s)).eq_merge⟩

/-! ### Fetching (R120) -/

/-- One pass over a descriptor whose PHASE matches, on a ring with room for it and no further KICK. -/
theorem fetchGo_single (now : W64) (steward : Bool) {d : Desc} {x : Ring} (once : x.rekick = false) (room : inflight x < 16)
    (phase : bit d.flags 7 = (x.fetchNo / 2 ^ x.entries.toNat % 2 == 0)) :
    fetchGo now steward [d] x = { x with
      fetchNo := x.fetchNo + 1, fetched := x.fetched + 1, total := x.total + 1, fetching := false
      inflight := x.inflight ++ [{ desc := d, no := x.total, rt := now, steward }] } := by
  have matched : ¬ ((bit d.flags 7 != (x.fetchNo / 2 ^ x.entries.toNat % 2 == 0)) = true) := by
    rw [phase, bne_self_eq_false]
    exact Bool.false_ne_true
  simp only [fetchGo, if_neg (Nat.not_le.2 room), if_neg matched, once]

theorem execRingDoorbell_fetches {s : State} {p r : Nat} (ds : List Desc) (hp : p < 2) (hr : r < 4)
    (up : (fn s p).linkUp = true) (on : (ring s p r).st = .on) (served : mbxServed s = true)
    (free : (ring s p r).fetching = false) : execRingDoorbell p r ds s = .next (fetchPass p r ds s) := by
  rw [execRingDoorbell, if_neg (ring_reached hp hr up)]
  simp only [on, served, free, bne_self_eq_false, Bool.not_true, Bool.false_eq_true, if_false]

theorem execRingDoorbell_latches {s : State} {p r : Nat} (ds : List Desc) (hp : p < 2) (hr : r < 4)
    (up : (fn s p).linkUp = true) (on : (ring s p r).st = .on) (served : mbxServed s = false) :
    execRingDoorbell p r ds s = .next (setRing s p r { ring s p r with latched := true }) := by
  rw [execRingDoorbell, if_neg (ring_reached hp hr up)]
  simp only [on, served, bne_self_eq_false, Bool.not_false, Bool.false_eq_true, if_false, if_true]

theorem execRingFetchResume_fetches {s : State} {p r : Nat} (ds : List Desc) (hp : p < 2) (hr : r < 4)
    (on : (ring s p r).st = .on) (served : mbxServed s = true) (busy : (ring s p r).fetching = true)
    (room : inflight (ring s p r) < 16) : execRingFetchResume p r ds s = .next (fetchPass p r ds s) := by
  simp only [execRingFetchResume, port_in_range hp, ring_in_range hr, on, served, busy, decide_eq_false (Nat.not_le.2 room),
    bne_self_eq_false, Bool.not_true, Bool.or_self, Bool.false_eq_true, if_false]

theorem fetchPass_touch_fn (p r : Nat) (ds : List Desc) (s : State) : Touch 0x6000 s (fetchPass p r ds s) :=
  setRing_touch _ _ _ _

theorem ring_fetchPass (p r : Nat) (ds : List Desc) (s : State) :
    ring (fetchPass p r ds s) p r = fetchGo (rtNow s) (isSteward s p) ds (ring s p r) := ring_setRing_same _ _ _ _

/-! ### Reads of host memory that fail (R107) -/

theorem execHostReadFail_descriptor {s : State} {p r : Nat} (cause : Nat) (hp : p < 2) (hr : r < 4)
    (on : (ring s p r).st = .on) (served : mbxServed s = true) :
    execHostReadFail p r none cause s = .next (ringFault p r [4, dw cause] s) := by
  simp only [execHostReadFail, port_in_range hp, ring_in_range hr, on, served, beq_self_eq_true, Bool.or_self, Bool.and_self,
    Bool.false_eq_true, if_false, if_true]

/-- The read of a transfer under way. -/
theorem execHostReadFail_transfer {s : State} {p r : Nat} {e : InFlight} {tag : W16} (cause : Nat) (hp : p < 2) (hr : r < 4)
    (runs : (ring s p r).inflight.find? (fun x => inTransfer x && x.desc.tag == tag && hostReads x.desc) = some e) :
    execHostReadFail p r (some tag) cause s = .next (endCmd p r e (failWith stAborted 1) (transferStops p r e s)) := by
  simp only [execHostReadFail, port_in_range hp, ring_in_range hr, runs, Bool.or_self, Bool.false_eq_true, if_false]

/-- The read of a command that waits to be served. -/
theorem execHostReadFail_waiting {s : State} {p r : Nat} {e : InFlight} (cause : Nat) (hp : p < 2) (hr : r < 4)
    (served : mbxServed s = true) (idle : ∀ x ∈ (ring s p r).inflight, inTransfer x = false)
    (next : firstWaiting (ring s p r).inflight = some e) (fence : fenceOpen (ring s p r).inflight e = true)
    (reads : hostReads e.desc = true) :
    execHostReadFail p r (some e.desc.tag) cause s = .next (putEntry p r e { e with fails := some 1 } s) := by
  have noTransfer :
      (ring s p r).inflight.find? (fun x => inTransfer x && x.desc.tag == e.desc.tag && hostReads x.desc) = none :=
    List.find?_eq_none.2 fun x hx => by
      rw [idle x hx]
      exact Bool.false_ne_true
  simp only [execHostReadFail, port_in_range hp, ring_in_range hr, noTransfer, next, served, fence, reads, beq_self_eq_true,
    Bool.or_self, Bool.and_self, Bool.false_eq_true, if_false, if_true]

/-! ### Completions (R119, R120, R124) -/

/-- Where the next completion of a ring goes, and with which PHASE. -/
def cplAddr (x : Ring) : W64 := BitVec.ofNat 64 (x.cplBase.toNat * 4096 + x.cplNo % 2 ^ x.entries.toNat * 32)

def cplPhase (x : Ring) : Bool := x.cplNo / 2 ^ x.entries.toNat % 2 == 0

/-- A command that ends without an interrupt: one completion is written, and its entry leaves the ring. -/
theorem endCmd_of_no_irq {s : State} {p r : Nat} {e : InFlight} (x : Result) (kept : e.dropped = false)
    (irq : (ring s p r).irqEn = false) (flag : bit e.desc.flags 2 = false) :
    endCmd p r e x s = emit (.hostWrite p (cplAddr (ring s p r)) (completionBytes e x (cplPhase (ring s p r))))
      (setRing (setRing s p r { ring s p r with inflight := (ring s p r).inflight.erase e }) p r { ring s p r with
        cplNo := (ring s p r).cplNo + 1, inflight := (ring s p r).inflight.erase e }) := by
  simp only [endCmd, writeCompletion, ring_setRing_same, kept, irq, flag, Bool.or_false, Bool.false_eq_true, if_false,
    cplAddr, cplPhase]

theorem execCommandComplete_of_result {s : State} {p r nth : Nat} {tag : W16} {e : InFlight} {x : Result}
    (data : List Byte) (errs : List (Nat × Nat)) (pkg : PkgIn) (runs : cpRuns s = true) (ready : s.spring.mbxReady = true)
    (started : startedCmd s p r tag nth = some e) (result : e.result = some x) :
    execCommandComplete p r tag nth data errs pkg s = .next (endCmd p r e x s) := by
  simp only [execCommandComplete, runs, ready, started, result, Bool.not_true, Bool.or_self, Bool.false_eq_true, if_false]

/-- Settles O9: by the rule of each row. That a failed data read ends the transfer under way or marks the waiting command
(log entry 69), and that a write of RING_CTL ends D3hot (log entry 47), are the model's choices. -/
theorem ringsFetchAndComplete : Obligations.RingsFetchAndComplete := by
  refine ⟨fun s p r v => execRingCtlWrite_enables, fun s p r v hp hr up off en desc => ?_, fun s p r v hp hr up on en => ?_,
    fun s p r v hp hr up fault en => ?_, fun s p r d hp hr up on served free once room phase => ?_,
    fun s p r ds hp hr => execRingDoorbell_latches ds hp hr,
    fun s p r d hp hr on served busy once room phase => ?_, fun s p r cause hp hr on served => ?_,
    fun s p r e hp hr => execHostReadFail_waiting 1 hp hr, fun s p r e hp hr => execHostReadFail_transfer 1 hp hr,
    fun s p r nth e x hp hr runs ready started result kept irq flag => ?_⟩
  · have run := execRingCtlWrite_of_off hp hr up off en
    rw [ringEnable_of_no_descBase (x := withCtl v (ring s p r)) _ desc] at run
    have written (x : Ring) : Touch 0x100006000 s (setRing (awake p s) p r x) :=
      (setRing_touch _ _ _ _).via rfl ((awake_touch p s).mono rfl)
    exact ⟨_, run, by rw [ring_ringFault], ((ringFault_touch_mgt _ _ _ _).via rfl (written _)).eq_merge⟩
  · refine ⟨_, execRingCtlWrite_of_cleared hp hr up (.inl on) en, ?_⟩
    rw [ring_ringDisable, ctlIgnored_wrigOnly p r v (awake p s), ring_awake]
    exact ⟨rfl, rfl, rfl, rfl⟩
  · have ignored : Touch 0x100006000 s (ctlIgnored p r v (awake p s)) :=
      (ctlIgnored_touch _ _ _ _).via rfl ((awake_touch p s).mono rfl)
    refine ⟨_, execRingCtlWrite_of_cleared hp hr up (.inr fault) en, ?_, ?_,
      ((ringDisable_touch_fn _ _ _ _).via rfl ignored).eq_merge⟩
    · rw [ring_ringDisable]
    · rw [ring_ringDisable, ctlIgnored_wrigOnly p r v (awake p s), ring_awake]
  · refine ⟨_, execRingDoorbell_fetches [d] hp hr up on served free, ?_, (fetchPass_touch_fn _ _ _ _).eq_merge⟩
    rw [ring_fetchPass, fetchGo_single _ _ once room phase, ← free]
  · refine ⟨_, execRingFetchResume_fetches [d] hp hr on served busy room, ?_, ?_, (fetchPass_touch_fn _ _ _ _).eq_merge⟩
    · rw [ring_fetchPass, fetchGo_single _ _ once room phase]
    · rw [ring_fetchPass, fetchGo_single _ _ once room phase]
  · exact ⟨_, execHostReadFail_descriptor cause hp hr on served, by rw [ring_ringFault], ringFault_mgt _ _ _ _,
      (ringFault_touch_mgt _ _ _ _).eq_merge⟩
  · have frame : Touch 0x1000006000 s (endCmd p r e x s) := by
      rw [endCmd_of_no_irq x kept irq flag]
      exact (emit_touch _ _).via rfl ((setRing_touch _ _ _ _).via rfl ((setRing_touch _ _ _ _).mono rfl))
    refine ⟨_, execCommandComplete_of_result [] [] {} runs ready started result, ?_, ?_, frame.eq_merge⟩
    · rw [endCmd_of_no_irq x kept irq flag, emit, State.setOut_out, (setRing_touch _ _ _ _).out rfl,
        (setRing_touch _ _ _ _).out rfl]
      rfl
    · rw [endCmd_of_no_irq x kept irq flag, ring_emit, ring_setRing_same]

end Sys2Proof.Machine
end

section
/-! SUPPORT. Proofs of the Spring family: functions that lose their link or are reset, and stewardship (R63, R64, R105, R112
to R114). -/

namespace Sys2Proof.Machine

open Sys2Proof

/-- A fold of steps that keep to a reflexive and transitive relation keeps to it. -/
theorem foldl_of_refl_trans {β : Type} {R : State → State → Prop} (refl : ∀ s, R s s)
    (trans : ∀ {s t u}, R s t → R t u → R s u) {f : State → β → State} (hf : ∀ t b, R t (f t b)) (l : List β) (s : State) :
    R s (l.foldl f s) := by
  induction l generalizing s with
  | nil => exact refl s
  | cons b l ih => exact trans (hf s b) (ih _)

/-! ### What ending commands leaves of a function -/

/-- Of the two functions nothing differs but the rings and the pending messages of function `p`. -/
structure RingsOnly (p : Nat) (s t : State) : Prop where
  other : fn t (1 - p) = fn s (1 - p)
  own : fn t p = { fn s p with rings := (fn t p).rings, pba := (fn t p).pba }

theorem RingsOnly.refl (p : Nat) (s : State) : RingsOnly p s s := ⟨rfl, rfl⟩

theorem RingsOnly.trans {p : Nat} {s t u : State} (h : RingsOnly p s t) (g : RingsOnly p t u) : RingsOnly p s u :=
  ⟨g.other.trans h.other, by rw [g.own, h.own]⟩

theorem setFn_ringsOnly (s : State) {p : Nat} (rings : Tbl Ring) (pba : BitVec 8) (hp : p < 2) :
    RingsOnly p s (setFn s p { fn s p with rings, pba }) :=
  ⟨fn_setFn_other s _ hp, by rw [fn_setFn_same]⟩

theorem setRing_ringsOnly (s : State) {p : Nat} (r : Nat) (x : Ring) (hp : p < 2) : RingsOnly p s (setRing s p r x) :=
  setFn_ringsOnly s _ _ hp

/-- And every ring of function `p` is in the state in which it was. -/
structure CompletionsOnly (p : Nat) (s t : State) : Prop extends RingsOnly p s t where
  life : ∀ r, (ring t p r).st = (ring s p r).st

theorem CompletionsOnly.refl (p : Nat) (s : State) : CompletionsOnly p s s := ⟨.refl p s, fun _ => rfl⟩

theorem CompletionsOnly.trans {p : Nat} {s t u : State} (h : CompletionsOnly p s t) (g : CompletionsOnly p t u) :
    CompletionsOnly p s u :=
  ⟨h.toRingsOnly.trans g.toRingsOnly, fun r => (g.life r).trans (h.life r)⟩

/-- A frame without the functions. -/
theorem Touch.completionsOnly {m : Nat} {s t : State} (h : Touch m s t) (h0 : m.testBit 13 = false)
    (h1 : m.testBit 14 = false) (p : Nat) : CompletionsOnly p s t where
  other := h.fn h0 h1 (1 - p)
  own := by rw [h.fn h0 h1 p]
  life r := congrArg Ring.st (h.ring h0 h1 p r)

theorem setRing_completionsOnly (s : State) {p : Nat} (r : Nat) {x : Ring} (hp : p < 2) (h : x.st = (ring s p r).st) :
    CompletionsOnly p s (setRing s p r x) := by
  refine ⟨setRing_ringsOnly s r x hp, fun k => ?_⟩
  by_cases same : k = r
  · rw [same, ring_setRing_same, h]
  · rw [ring_setRing_ne s x hp hp (fun e => same (Prod.mk.inj e).2)]

theorem msix_completionsOnly (s : State) {p : Nat} (v : Nat) (hp : p < 2) : CompletionsOnly p s (msix p v s) := by
  unfold msix
  dsimp only
  split
  · exact ⟨setFn_ringsOnly s _ _ hp, fun r => congrArg Ring.st (ring_setFn_of_rings_eq s r rfl)⟩
  · exact (emit_touch _ _).completionsOnly rfl rfl p

theorem writeCompletion_completionsOnly (s : State) {p : Nat} (r : Nat) (e : InFlight) (x : Result) (hp : p < 2) :
    CompletionsOnly p s (writeCompletion p r e x s) := by
  unfold writeCompletion
  extract_lets y n m phase addr s1 s2
  have counted : CompletionsOnly p s s1 := setRing_completionsOnly s r hp rfl
  have written : CompletionsOnly p s s2 := counted.trans ((emit_touch _ _).completionsOnly rfl rfl p)
  split
  · exact written.trans (msix_completionsOnly s2 _ hp)
  · exact written

theorem endCmd_completionsOnly (s : State) {p : Nat} (r : Nat) (e : InFlight) (x : Result) (hp : p < 2) :
    CompletionsOnly p s (endCmd p r e x s) := by
  unfold endCmd
  extract_lets y s1
  have taken : CompletionsOnly p s s1 := setRing_completionsOnly s r hp rfl
  split
  · exact taken.trans ((logMod_touch_mgt _ _ _ _).completionsOnly rfl rfl p)
  · exact taken.trans (writeCompletion_completionsOnly s1 r e x hp)

/-- A transfer of the function that stops. -/
theorem stopped_completionsOnly (s : State) {p : Nat} (r : Nat) (e : InFlight) (x : Result) (hp : p < 2) :
    CompletionsOnly p s (endCmd p r e x (transferStops p r e s)) :=
  ((transferStops_touch p r e s).completionsOnly rfl rfl p).trans (endCmd_completionsOnly _ r e x hp)

/-! ### Rings that go Off (R114 items 1 and 2) -/

theorem oneRing_ringOff : OneRing ringOff := fun s _ _ _ _ hp hq h => ring_setRing_ne s _ hp hq h

theorem ringsOff_ringsOnly (s : State) {p : Nat} (hp : p < 2) : RingsOnly p s (ringsOff p s) :=
  foldl_of_refl_trans (.refl p) .trans (fun t r => setRing_ringsOnly t r _ hp) _ s

theorem ring_ringsOff_st (s : State) {p r : Nat} (hp : p < 2) (hr : r < 4) : (ring (ringsOff p s) p r).st = .off := by
  have places : ringsOff p s = ((List.range 4).map fun k => (p, k)).foldl (fun t x => ringOff x.1 x.2 t) s := rfl
  have small : ∀ x ∈ (List.range 4).map fun k => (p, k), x.1 < 2 := fun x hx => by
    obtain ⟨k, -, rfl⟩ := List.mem_map.1 hx
    exact hp
  have distinct : ((List.range 4).map fun k => (p, k)).Nodup :=
    List.Pairwise.map _ (fun _ _ ne same => ne (Prod.mk.inj same).2) List.nodup_range
  rw [places]
  exact oneRing_ringOff.foldl_each (R := fun _ x => x.st = .off) small distinct
    (fun s p r => by rw [ringOff, ring_setRing_same]; rfl) hp (List.mem_map.2 ⟨r, List.mem_range.2 hr, rfl⟩) s

/-! ### The reset of a function (R114) -/

/-- What every loss of a function's link and every reset of it leaves: rings Off, no mappings, configuration space reset,
and the other function as it was. -/
structure TakenDown (p : Nat) (s t : State) : Prop where
  maps : (fn t p).maps = []
  cfg : (fn t p).cfg = {}
  off : ∀ r < 4, (ring t p r).st = .off
  other : fn t (1 - p) = fn s (1 - p)

theorem TakenDown.trans_completionsOnly {p : Nat} {s t u : State} (h : TakenDown p s t) (g : CompletionsOnly p t u) :
    TakenDown p s u :=
  ⟨by rw [g.own, h.maps], by rw [g.own, h.cfg], fun r hr => (g.life r).trans (h.off r hr), g.other.trans h.other⟩

/-- A write to other fields of the function. -/
theorem TakenDown.setFn {p : Nat} {s t : State} {f : Fn} (h : TakenDown p s t) (hp : p < 2) (maps : f.maps = (fn t p).maps)
    (cfg : f.cfg = (fn t p).cfg) (rings : f.rings = (fn t p).rings) : TakenDown p s (setFn t p f) :=
  ⟨by rw [fn_setFn_same, maps, h.maps], by rw [fn_setFn_same, cfg, h.cfg],
    fun r hr => by rw [ring_setFn_of_rings_eq t r rings, h.off r hr], (fn_setFn_other t f hp).trans h.other⟩

/-- Marking commands in a table of rings leaves the state of each ring. -/
theorem tget_foldl_mark_st (mark : InFlight → InFlight) (l : List Nat) (t : Tbl Ring) (r : Nat) :
    (tget (ringReset r) (l.foldl (fun t k => tmod (ringReset k) t k fun x => { x with inflight := x.inflight.map mark }) t)
      r).st = (tget (ringReset r) t r).st := by
  induction l generalizing t with
  | nil => rfl
  | cons k l ih =>
    rw [List.foldl_cons, ih]
    by_cases same : r = k
    · rw [same, tget_tmod_same]
    · rw [tmod, tget_tset_ne_of_default _ _ _ _ _ _ same]

/-- The fields of a function that its reset leaves. -/
theorem fnReset_own (s : State) {p : Nat} (hp : p < 2) :
    fn (fnReset p s) p = { fn s p with
      cfg := {}, maps := [], msix := [], pba := (fn (fnReset p s) p).pba, rings := (fn (fnReset p s) p).rings } := by
  have reset : fn (fnReset p s) p = { fn (ringsOff p s) p with
      cfg := {}, maps := [], msix := [], pba := 0, rings := (fn (fnReset p s) p).rings } := by
    rw [show fn (fnReset p s) p = _ from fn_setFn_same (ringsOff p s) p _]
  rw [reset, (ringsOff_ringsOnly s hp).own]

theorem fnReset_takenDown (s : State) {p : Nat} (hp : p < 2) : TakenDown p s (fnReset p s) := by
  refine ⟨by rw [fnReset_own s hp], by rw [fnReset_own s hp], fun r hr => ?_, ?_⟩
  · have rings : ring (fnReset p s) p r = _ :=
      congrArg (fun f => tget (ringReset r) (Fn.rings f) r) (fn_setFn_same (ringsOff p s) p _)
    rw [rings, tget_foldl_mark_st]
    exact ring_ringsOff_st s hp hr
  · exact (fn_setFn_other (ringsOff p s) _ hp).trans (ringsOff_ringsOnly s hp).other

/-- After its reset, the transfers that stop write completions only. -/
theorem fnLost_completionsOnly (s : State) {p : Nat} (hp : p < 2) : CompletionsOnly p (fnReset p s) (fnLost p s) :=
  foldl_of_refl_trans (.refl p) .trans (fun t r => foldl_of_refl_trans (.refl p) .trans
    (fun u e => stopped_completionsOnly u r e (failsWith e) hp) _ t) _ _

theorem fnLost_takenDown (s : State) {p : Nat} (hp : p < 2) : TakenDown p s (fnLost p s) :=
  (fnReset_takenDown s hp).trans_completionsOnly (fnLost_completionsOnly s hp)

theorem fnLost_linkUp (s : State) {p : Nat} (hp : p < 2) : (fn (fnLost p s) p).linkUp = (fn s p).linkUp := by
  rw [(fnLost_completionsOnly s hp).own, fnReset_own s hp]

theorem fnLost_perstLow (s : State) {p : Nat} (hp : p < 2) : (fn (fnLost p s) p).perstLow = (fn s p).perstLow := by
  rw [(fnLost_completionsOnly s hp).own, fnReset_own s hp]

/-! ### Links (R63, R113) -/

theorem linkGone_of_up {s : State} {p : Nat} (up : (fn s p).linkUp = true) :
    linkGone p s = setFn (fnLost p s) p { fn (fnLost p s) p with
      linkUp := false, d3hot := false, downSince := rtNow (fnLost p s), overdue := false } := if_pos up

theorem linkGone_takenDown {s : State} {p : Nat} (hp : p < 2) (up : (fn s p).linkUp = true) :
    TakenDown p s (linkGone p s) := by
  rw [linkGone_of_up up]
  exact (fnLost_takenDown s hp).setFn hp rfl rfl rfl

theorem linkGone_linkUp {s : State} {p : Nat} (up : (fn s p).linkUp = true) : (fn (linkGone p s) p).linkUp = false := by
  rw [linkGone_of_up up, fn_setFn_same]

theorem linkGone_perstLow {s : State} {p : Nat} (hp : p < 2) (up : (fn s p).linkUp = true) :
    (fn (linkGone p s) p).perstLow = (fn s p).perstLow := by
  rw [linkGone_of_up up, fn_setFn_same, fnLost_perstLow s hp]

/-- Domains and the part decide which domains are On. -/
theorem Touch.domOn {m : Nat} {s t : State} (h : Touch m s t) (h0 : m.testBit 0 = false) (h3 : m.testBit 3 = false)
    (n : Nat) : domOn t n = domOn s n := by
  have sameDies : dies t = dies s := by rw [dies, dies, h.variant h0]
  have samePorts : ports t = ports s := by rw [ports, ports, h.variant h0]
  rw [Machine.domOn, Machine.domOn, domPresent, domPresent, sameDies, samePorts, dom, dom, h.doms h3]

theorem execPerstAssert_of_port {s : State} {p : Nat} (hp : p < 2) : execPerstAssert p s =
    .next (setFn (linkGone p s) p { fn (linkGone p s) p with perstLow := true, training := false }) :=
  if_neg (Nat.not_le.2 hp)

theorem execLinkDown_of_up {s : State} {p : Nat} (hp : p < 2) (up : (fn s p).linkUp = true) : execLinkDown p s =
    .next (setFn (linkGone p s) p { fn (linkGone p s) p with
      training := domOn (linkGone p s) (74 + p) && !(fn (linkGone p s) p).perstLow }) :=
  if_neg (port_reached hp up)

theorem execFunctionLevelReset_of_up {s : State} {p : Nat} (hp : p < 2) (up : (fn s p).linkUp = true) :
    execFunctionLevelReset p s = .next (setFn (fnLost p s) p { fn (fnLost p s) p with d3hot := false }) :=
  if_neg (port_reached hp up)

theorem execD3hotEntry_of_up {s : State} {p : Nat} (hp : p < 2) (up : (fn s p).linkUp = true) :
    execD3hotEntry p s = .next (setFn (ringsOff p s) p { fn (ringsOff p s) p with d3hot := true }) :=
  if_neg (port_reached hp up)

theorem execPerstDeassert_of_on {s : State} {p : Nat} (hp : p < 2) (on : domOn s (74 + p) = true)
    (down : (fn s p).linkUp = false) :
    execPerstDeassert p s = .next (setFn s p { fn s p with perstLow := false, training := true }) := by
  rw [execPerstDeassert, if_neg (Nat.not_le.2 hp)]
  simp only [on, down, Bool.not_false, Bool.and_self, Bool.or_true]

/-- The function whose link has trained. -/
def trained (p : Nat) (s : State) : State :=
  setFn s p { fn s p with training := false, linkUp := true, overdue := false, d3hot := false }

theorem trained_touch (p : Nat) (s : State) : Touch 0x6000 s (trained p s) := setFn_touch _ _ _

/-- A link that comes up takes the stewardship if the steward's own has been down for 2 s. -/
theorem execLinkTrainingDone_of_training {s : State} {p : Nat} (hp : p < 2) (training : (fn s p).training = true)
    (high : (fn s p).perstLow = false) (on : domOn s (74 + p) = true) :
    execLinkTrainingDone p s = if s.steward = some (1 - p) ∧ (fn s (1 - p)).overdue = true ∧ s.spring.mbxReady = true
      then .next (failover (trained p s)) else .next (trained p s) := by
  have trains : ¬ ((decide (2 ≤ p) || !(fn s p).training || (fn s p).perstLow || !domOn s (74 + p)) = true) := by
    rw [port_in_range hp, training, high, on]
    exact Bool.false_ne_true
  have steward : (trained p s).steward = s.steward := (trained_touch p s).steward rfl
  have spring : (trained p s).spring = s.spring := (trained_touch p s).spring rfl
  have other : fn (trained p s) (1 - p) = fn s (1 - p) := fn_setFn_other s _ hp
  rw [← steward, ← spring, ← other, execLinkTrainingDone, if_neg trains]
  rfl

/-! ### Stewardship (R112, R113) -/

theorem failover_steward (s : State) : (failover s).steward = s.steward.map (1 - ·) := rfl

theorem failover_mgt (s : State) : (failover s).mgt = (logMod 0x9007 0 [] s).mgt := logMod_mgt_congr _ _ _ rfl rfl

theorem failover_touch_mgt (s : State) : Touch 0x100008000 s (failover s) :=
  (logMod_touch_mgt _ _ _ _).via rfl (.setSteward rfl (.refl _ _))

theorem execStewardFailover_of_down {s : State} {p : Nat} (steward : s.steward = some p) (down : (fn s p).linkUp = false)
    (up : (fn s (1 - p)).linkUp = true) (ready : s.spring.mbxReady = true) :
    execStewardFailover s = .next (failover s) := by
  simp only [execStewardFailover, steward, down, up, ready, Bool.not_true, Bool.or_self, Bool.false_eq_true, if_false, if_true]

/-- Settles O5: a lost link and a reset take the function down, then the row's own fields are written. -/
theorem pcieLinksResetsAndStewardship : Obligations.PcieLinksResetsAndStewardship := by
  refine ⟨fun s p hp up => ?_, fun s p hp on down => execPerstDeassert_of_on hp on down,
    fun s p hp training high on steward => ?_, fun s p hp training high on steward overdue ready => ?_,
    fun s p hp up on high => ?_, fun s p hp up => ?_, fun s p hp up => ?_, fun s p hp steward down up ready => ?_⟩
  · obtain ⟨maps, cfg, off, other⟩ := (linkGone_takenDown hp up).setFn
      (f := { fn (linkGone p s) p with perstLow := true, training := false }) hp rfl rfl rfl
    exact ⟨_, execPerstAssert_of_port hp, by rw [fn_setFn_same], by rw [fn_setFn_same, linkGone_linkUp up],
      by rw [fn_setFn_same], maps, cfg, off, other⟩
  · have notOther : ¬ (s.steward = some (1 - p) ∧ (fn s (1 - p)).overdue = true ∧ s.spring.mbxReady = true) := fun h => by
      have own := Option.some.inj (steward.symm.trans h.1)
      omega
    exact (execLinkTrainingDone_of_training hp training high on).trans (if_neg notOther)
  · have passed : (failover (trained p s)).steward = some p := by
      rw [failover_steward, (trained_touch p s).steward rfl, steward, Option.map_some, Nat.sub_sub_self (by omega)]
    have up : (fn (failover (trained p s)) p).linkUp = true := by
      rw [(failover_touch_mgt _).fn rfl rfl, trained, fn_setFn_same]
    have frame : Touch 0x10000e000 s (failover (trained p s)) :=
      (failover_touch_mgt _).via rfl ((trained_touch p s).mono rfl)
    exact ⟨_, (execLinkTrainingDone_of_training hp training high on).trans (if_pos ⟨steward, overdue, ready⟩), passed, up,
      frame.eq_merge⟩
  · have on' : domOn (linkGone p s) (74 + p) = true := ((linkGone_touch p s).domOn rfl rfl _).trans on
    have high' := (linkGone_perstLow hp up).trans high
    obtain ⟨maps, -, off, other⟩ := (linkGone_takenDown hp up).setFn
      (f := { fn (linkGone p s) p with training := domOn (linkGone p s) (74 + p) && !(fn (linkGone p s) p).perstLow })
      hp rfl rfl rfl
    exact ⟨_, execLinkDown_of_up hp up, by rw [fn_setFn_same, linkGone_linkUp up], by rw [fn_setFn_same, on', high']; rfl,
      maps, off, other⟩
  · obtain ⟨maps, cfg, off, other⟩ := (fnLost_takenDown s hp).setFn
      (f := { fn (fnLost p s) p with d3hot := false }) hp rfl rfl rfl
    exact ⟨_, execFunctionLevelReset_of_up hp up, by rw [fn_setFn_same, fnLost_linkUp s hp, up], maps, cfg,
      by rw [fn_setFn_same], off, other⟩
  · refine ⟨_, execD3hotEntry_of_up hp up, by rw [fn_setFn_same], ?_, fun r hr => ?_,
      ((setFn_touch _ _ _).via rfl (ringsOff_touch p s)).eq_merge⟩
    · rw [fn_setFn_same, (ringsOff_ringsOnly s hp).own]
    · have spared := ring_setFn_of_rings_eq (ringsOff p s) (f := { fn (ringsOff p s) p with d3hot := true }) r rfl
      exact (congrArg Ring.st spared).trans (ring_ringsOff_st s hp hr)
  · exact ⟨_, execStewardFailover_of_down steward down up ready, by rw [failover_steward, steward]; rfl, failover_mgt s,
      (failover_touch_mgt s).eq_merge⟩

end Sys2Proof.Machine
end

section
/-! SUPPORT. Proofs of the Spring family: the life of blocks and of rings in a block's place, and the parity of their
configuration (R81 to R84, R89, R99, R100, R117). -/

namespace Sys2Proof.Machine

open Sys2Proof

/-! ### Blocks and their RWB registers -/

@[simp] theorem blk_setBlk_same (s : State) (b : Nat) (x : Blk) : blk (setBlk s b x) b = x := tget_tset_same _ _ _ _

@[simp] theorem rwbOf_setRwbOf_same (s : State) (b c : Nat) (x : Rwb) : rwbOf (setRwbOf s b c x) b c = x :=
  tget_tset_same _ _ _ _

/-- A frame without the blocks. -/
theorem Touch.blk {m : Nat} {s t : State} (h : Touch m s t) (h11 : m.testBit 11 = false) (b : Nat) : blk t b = blk s b := by
  rw [Machine.blk, Machine.blk, h.blks h11]

theorem Touch.rwbOf {m : Nat} {s t : State} (h : Touch m s t) (h12 : m.testBit 12 = false) (b c : Nat) :
    rwbOf t b c = rwbOf s b c := by
  rw [Machine.rwbOf, Machine.rwbOf, h.rwb h12]

/-- Every frame of BAR0 lies below the plan offsets that name rings. -/
theorem lt_of_frameAt {a : Nat} {f : Frame0} (h : frameAt a = some f) : a < 0x4000000 := by
  refine Nat.lt_of_not_le fun above => ?_
  have beyond : frameAt a = none := by
    unfold frameAt
    repeat rw [if_neg (by omega)]
  rw [beyond] at h
  cases h

theorem ringNamed_of_frameAt {a : Nat} {f : Frame0} (h : frameAt a = some f) : ringNamed a = none := by
  have below := lt_of_frameAt h
  exact if_neg (by omega)

theorem ringNamed_ringOffset {p r : Nat} (hp : p < 2) (hr : r < 4) : ringNamed (ringOffset p r) = some (p, r) := by
  have port : (ringOffset p r - 0x4000000) / 0x100000 = p := by unfold ringOffset; omega
  have number : ringOffset p r % 0x100000 / 0x1000 = r := by unfold ringOffset; omega
  have low : 0x4000000 ≤ ringOffset p r := by unfold ringOffset; omega
  rw [ringNamed, port, number]
  exact if_pos ⟨low, hp, hr, rfl⟩

/-! ### Writes of BLK_CTL (R81 to R83, R89) -/

section
variable {s : State} {who : Nat} {v : W32} {f : Frame0} (found : frameAt f.base = some f) (up : whoUp s who = true)
include found up

/-- A write by a requester that R89 does not permit. -/
theorem execBlkCtlWrite_of_denied (denied : mayWrite s who f f.base = false) :
    execBlkCtlWrite who f.base v s = .next (barDenied who f.base s) := by
  simp only [execBlkCtlWrite, found, up, denied, bne_self_eq_false, Bool.not_true, Bool.not_false, Bool.or_self,
    Bool.false_eq_true, if_false, if_true]

theorem execBlkCtlWrite_of_barred (may : mayWrite s who f f.base = true) (barred : cpBarred s who f = true) :
    execBlkCtlWrite who f.base v s = .next (secRefuse s) := by
  simp only [execBlkCtlWrite, found, up, may, barred, bne_self_eq_false, Bool.not_true, Bool.or_self, Bool.false_eq_true,
    if_false, if_true]

/-- A write that reaches its block. -/
theorem execBlkCtlWrite_of_permitted (may : mayWrite s who f f.base = true) (free : cpBarred s who f = false)
    (present : frameAbsent s f = false) (on : domOn s f.dom = true) :
    execBlkCtlWrite who f.base v s = .next (blkCtl who f.base v f s) := by
  simp only [execBlkCtlWrite, inDomain, found, up, may, free, present, on, bne_self_eq_false, Bool.not_true, Bool.or_self,
    Bool.false_eq_true, if_false, if_true]

end

/-- A block other than a core takes EN alone, and its dependents learn of it when it leaves On. -/
theorem blkCtl_of_not_core {f : Frame0} (who off : Nat) (v : W32) (s : State) (notCore : f.code ≠ 0x12) :
    blkCtl who off v f s =
      if ((blk s f.base).st == .on && (enWrite (bit v 0) (blk s f.base)).st != .on) = true
      then blkLeftOn f (setBlk s f.base (enWrite (bit v 0) (blk s f.base)))
      else setBlk s f.base (enWrite (bit v 0) (blk s f.base)) := by
  simp only [blkCtl, if_neg notCore]

theorem enWrite_off {x : Blk} (h : x.st = .off) : enWrite true x = { x with st := .enabling, en := true } := by
  simp only [enWrite, h]

theorem enWrite_on {x : Blk} (h : x.st = .on) : enWrite false x = { x with st := .disabling, en := false } := by
  simp only [enWrite, h]

theorem blkCtl_enables {f : Frame0} {v : W32} {s : State} (who off : Nat) (notCore : f.code ≠ 0x12)
    (isOff : (blk s f.base).st = .off) (en : bit v 0 = true) :
    blkCtl who off v f s = setBlk s f.base { blk s f.base with st := .enabling, en := true } := by
  rw [blkCtl_of_not_core who off v s notCore, en, enWrite_off isOff, isOff]
  rfl

theorem blkCtl_disables {f : Frame0} {v : W32} {s : State} (who off : Nat) (notCore : f.code ≠ 0x12)
    (isOn : (blk s f.base).st = .on) (en : bit v 0 = false) :
    blkCtl who off v f s = blkLeftOn f (setBlk s f.base { blk s f.base with st := .disabling, en := false }) := by
  rw [blkCtl_of_not_core who off v s notCore, en, enWrite_on isOn, isOn]
  rfl

/-! ### The ends of Enabling and Disabling (R83, R84, R117) -/

theorem execBlockDisableDone_of_block {s : State} {f : Frame0} (notRing : ringNamed f.base = none) :
    execBlockDisableDone f.base s = blkDisableDone f.base s := by
  simp only [execBlockDisableDone, notRing]

theorem execBlockEnableDone_of_block {s : State} {f : Frame0} (notRing : ringNamed f.base = none) :
    execBlockEnableDone f.base s = blkEnableDone f.base s := by
  simp only [execBlockEnableDone, notRing]

/-- What a block leaves when its Disabling ends: its counters are reset and its shadows hold live values. -/
def blkEnded (f : Frame0) (s : State) : State :=
  shadowsLive f (blkOffReset f (if (blk s f.base).updPend = true then shadowsApply f s else s))

theorem blkEnded_touch (f : Frame0) (s : State) : Touch 0x1fb6b1400 s (blkEnded f s) :=
  (shadowsLive_touch _ _).via rfl ((blkOffReset_touch _ _).via rfl
    (Touch.ite ((shadowsApply_touch _ _).mono rfl) (.refl _ _)))

theorem blkDisableDone_of_drained {s : State} {f : Frame0} (found : frameAt f.base = some f) (on : domOn s f.dom = true)
    (disabling : (blk s f.base).st = .disabling) (healthy : (blk s f.base).recovering = false)
    (final : (blk s f.base).enPend = false) (done : drained f s = true) :
    blkDisableDone f.base s = .next (setBlk (blkEnded f s) f.base { parity := (blk s f.base).parity }) := by
  simp only [blkDisableDone, blkEnded, found, on, disabling, healthy, final, done, bne_self_eq_false, Bool.not_true,
    Bool.or_self, Bool.false_eq_true, if_false]

theorem blkDisableDone_of_busy {s : State} {f : Frame0} (found : frameAt f.base = some f) (busy : drained f s = false) :
    blkDisableDone f.base s = .next s := by
  simp only [blkDisableDone, found, busy, Bool.not_false, Bool.or_true, if_true]

theorem blkEnableDone_of_en {s : State} {f : Frame0} (found : frameAt f.base = some f) (on : domOn s f.dom = true)
    (notSeq : f.code ≠ 0x16) (enabling : (blk s f.base).st = .enabling) (en : (blk s f.base).en = true)
    (noUpdate : (blk s f.base).updPend = false) :
    blkEnableDone f.base s = .next (setBlk s f.base { blk s f.base with st := .on }) := by
  simp only [blkEnableDone, found, on, if_neg notSeq, enabling, en, noUpdate, bne_self_eq_false, Bool.not_true, Bool.or_self,
    Bool.false_and, Bool.false_eq_true, if_false, if_true]

theorem execBlockDisableDone_of_ring {s : State} {p r : Nat} (hp : p < 2) (hr : r < 4)
    (disabling : (ring s p r).st = .disabling) :
    execBlockDisableDone (ringOffset p r) s = .next (ringDisabled p r s) := by
  rw [execBlockDisableDone, ringNamed_ringOffset hp hr]
  exact if_pos (beq_iff_eq.2 disabling)

theorem ringDisabled_of_final {s : State} {p r : Nat} (final : (ring s p r).enPend = false) :
    ringDisabled p r s = setRing s p r { ring s p r with
      st := .off, wrig := false, wrigCount := 0, wrigSrc := 0, wrigAddr := 0 } := by
  simp only [ringDisabled, final, Bool.false_eq_true, if_false]

theorem execBlockEnableDone_of_ring {s : State} {p r : Nat} (hp : p < 2) (hr : r < 4)
    (enabling : (ring s p r).st = .enabling) (en : (ring s p r).en = true) :
    execBlockEnableDone (ringOffset p r) s = .next (setRing s p r { ring s p r with st := .on }) := by
  have goesOn : ringEnabled p r s = setRing s p r { ring s p r with st := .on } := if_pos en
  rw [execBlockEnableDone, ringNamed_ringOffset hp hr, ← goesOn]
  exact if_pos (beq_iff_eq.2 enabling)

/-! ### Parity (R99, R100) -/

/-- The sweep finds the control register of a block bad. -/
theorem execConfigParitySweep_of_block {s : State} {f : Frame0} (found : frameAt f.base = some f) (size : 0 < f.size) :
    execConfigParitySweep f.base (some f.base) s = .next (parityHit f.base s) := by
  have inside : f.base = f.base ∧ f.base ≤ f.base ∧ f.base < f.base + f.size := ⟨rfl, Nat.le_refl _, by omega⟩
  rw [execConfigParitySweep, ringNamed_of_frameAt found, found]
  exact congrArg Host.Outcome.next (if_pos inside)

/-- What a mismatch makes of the block: Fault, for good when the block had one within 24 h, and no pending shadow. -/
def parityHurt (now : W64) (x : Blk) : Blk :=
  let recent := x.dead || x.parity.any fun t => now.toNat - t.toNat < ticksDay
  { x with st := .fault, parity := now :: x.parity, recovering := !recent, dead := recent, enPend := false, updPend := false }

/-- The steps that depend on the block, and its core, hear of a mismatch after the block is in Fault. -/
theorem blk_parityFault (f : Frame0) (off : Nat) (s : State) :
    blk (parityFault f off s) f.base = parityHurt (rtNow s) (blk s f.base) := by
  unfold parityFault
  extract_lets x rt recent y s1 s2
  have hurt : blk s1 f.base = parityHurt (rtNow s) (blk s f.base) := by
    rw [(logMod_touch_mgt _ _ _ _).blk rfl, blk_setBlk_same]
    rfl
  have told : Touch 0x3bbfcb6000 s1 s2 := Touch.ite (.refl _ _) ((noteAborts_touch _ _ _).via rfl
    ((abortDependents_touch _ _).via rfl ((clusterBlockDown_touch _ _ _ _ _ _).mono rfl)))
  have marked : Touch 0x3bbfcb6000 s1 (if (recent && (f.code == 0x12 || f.code == 0x13)) = true
      then markCore (coreKey f.die f.inst f.sub) 2 s2 else s2) := Touch.ite ((markCore_touch _ _ _).via rfl told) told
  rw [marked.blk rfl, hurt]

/-- The control register of a block outside the CP. -/
theorem blk_parityHit {s : State} {f : Frame0} (found : frameAt f.base = some f) (present : frameAbsent s f = false)
    (on : domOn s f.dom = true) (notCp : f.code ≠ 0x1B) :
    blk (parityHit f.base s) f.base = parityHurt (rtNow s) (blk s f.base) := by
  have checked : ¬ ((frameAbsent s f || !domOn s f.dom || !parityReg f f.base) = true) := by
    rw [present, on, parityReg, beq_self_eq_true]
    exact Bool.false_ne_true
  have dead := Touch.ite (c := (f.code = 0x15 && blkDead (parityFault f f.base s) f.base) = true)
    (laserDead_touch f.inst (parityFault f f.base s)) (.refl _ _)
  simp only [parityHit, found, if_neg checked, if_neg notCp]
  rw [dead.blk rfl, blk_parityFault]

theorem parityHit_of_cp {s : State} {f : Frame0} (found : frameAt f.base = some f) (present : frameAbsent s f = false)
    (on : domOn s f.dom = true) (cp : f.code = 0x1B) :
    parityHit f.base s = cpRestart 5 0 (logMod 0x9001 0 [dw (blkId f).toNat, dw f.base] s) := by
  simp only [parityHit, found, present, on, if_pos cp, parityReg, beq_self_eq_true, Bool.true_or, Bool.not_true, Bool.or_self,
    Bool.false_eq_true, if_false]

/-- The sweep finds the low half of a ring's DESC_BASE bad. -/
theorem execConfigParitySweep_of_ring {s : State} {p r : Nat} (hp : p < 2) (hr : r < 4) :
    execConfigParitySweep (ringOffset p r) (some (ringOffset p r + 0x10)) s =
      .next (ringParity p (0x1000 * r + 0x10) s) := by
  have offset : 0x1000 * r + (ringOffset p r + 0x10 - ringOffset p r) = 0x1000 * r + 0x10 := by omega
  rw [execConfigParitySweep, ringNamed_ringOffset hp hr, ← offset]
  exact congrArg Host.Outcome.next (if_pos ⟨by omega, by omega⟩)

/-- CFG_PARITY is logged, and a ring that is not in Fault enters it (log entry 84). -/
theorem ringParity_descBase {s : State} {p r : Nat} (hp : p < 2) (hr : r < 4) (on : domOn s (74 + p) = true) :
    (ring (ringParity p (0x1000 * r + 0x10) s) p r).st = .fault
      ∧ Touch 0x100006000 s (ringParity p (0x1000 * r + 0x10) s) := by
  have number : (0x1000 * r + 0x10) / 0x1000 = r := by omega
  have register : (0x1000 * r + 0x10) % 0x1000 = 0x10 := by omega
  have checked : ¬ ((decide (2 ≤ p) || decide (4 ≤ r) || !ringConfig.contains 0x10 || !domOn s (74 + p)) = true) := by
    rw [port_in_range hp, ring_in_range hr, on]
    exact Bool.false_ne_true
  rw [ringParity, number, register]
  rw [if_neg checked]
  extract_lets t
  have logged : Touch 0x100006000 s t := (logMod_touch_mgt _ _ _ _).mono rfl
  split
  · next fault => exact ⟨beq_iff_eq.1 fault, logged⟩
  · exact ⟨by rw [ring_ringFault], (ringFault_touch_mgt _ _ _ _).via rfl logged⟩

theorem execCfgParityRecovery_of_off {s : State} {f : Frame0} (found : frameAt f.base = some f) (on : domOn s f.dom = true)
    (notRestarting : s.rel.restarting = false) (notHeld : s.rel.held = false)
    (recovering : (blk s f.base).recovering = true) (isOff : (blk s f.base).st = .off) (sec : blkOn s baseSEC = true) :
    execCfgParityRecovery f.base s = .next (setBlk (cfgRewrite f s) f.base
      { blk s f.base with st := .enabling, en := true, recovering := false }) := by
  simp only [execCfgParityRecovery, cpBarred, found, on, notRestarting, notHeld, recovering, isOff, sec, bne_self_eq_false,
    Bool.not_true, Bool.and_false, Bool.or_self, Bool.false_eq_true, if_false]

/-- The RWB register of the block takes the CP's record of it. -/
theorem rwbOf_cfgRewrite {f : Frame0} (s : State) (rwb : (rwbReset f.code).isSome = true) :
    rwbOf (cfgRewrite f s) f.base f.code = { rwbOf s f.base f.code with
      live := (rwbOf s f.base f.code).record, shadow := (rwbOf s f.base f.code).record } := by
  simp only [cfgRewrite, if_pos rwb]
  split
  · rw [(setCore_touch _ _ _ _ _).rwbOf rfl, rwbOf_setRwbOf_same]
  · rw [rwbOf_setRwbOf_same]

/-- Settles O6: by the rule of each row. The refusal of the CP's writes (log entry 8) and the Fault of a ring by parity (log
entry 84) are the model's choices. -/
theorem blockLifeCycleAndParity : Obligations.BlockLifeCycleAndParity := by
  refine ⟨fun s who v f found up may present on notCore free isOff en => ?_,
    fun s who v f found up may present on notCore free isOn en => ?_, fun s who v f found up may barred => ?_,
    fun s who v f found up denied => ?_, fun s f notRing found on disabling healthy final done => ?_,
    fun s f notRing found _ busy => ?_, fun s p r hp hr disabling final => ?_,
    fun s f notRing found on notSeq enabling en noUpdate => ?_,
    fun s p r hp hr => execBlockEnableDone_of_ring hp hr, fun s f found present on size notCp => ?_,
    fun s p r hp hr on => ?_, fun s f found on size cp present up => ?_,
    fun s f found on notRestarting notHeld recovering isOff sec => ?_⟩
  · rw [← blkCtl_enables who f.base notCore isOff en]
    exact execBlkCtlWrite_of_permitted found up may free present on
  · have run := execBlkCtlWrite_of_permitted (v := v) found up may free present on
    rw [blkCtl_disables who f.base notCore isOn en] at run
    have told := blkLeftOn_touch f (setBlk s f.base { blk s f.base with st := .disabling, en := false })
    exact ⟨_, run, by rw [told.blk rfl, blk_setBlk_same], told.rwb rfl, told.sup rfl⟩
  · exact ⟨_, execBlkCtlWrite_of_barred found up may barred, rfl⟩
  · exact ⟨_, execBlkCtlWrite_of_denied found up denied, (barDenied_touch_mgt _ _ _).eq_merge⟩
  · exact ⟨_, (execBlockDisableDone_of_block notRing).trans (blkDisableDone_of_drained found on disabling healthy final done),
      blk_setBlk_same _ _ _, (blkEnded_touch f s).mem rfl⟩
  · exact (execBlockDisableDone_of_block notRing).trans (blkDisableDone_of_busy found busy)
  · have run := execBlockDisableDone_of_ring hp hr disabling
    rw [ringDisabled_of_final final] at run
    exact ⟨_, run, by rw [ring_setRing_same], by rw [ring_setRing_same], (setRing_touch _ _ _ _).eq_merge⟩
  · exact (execBlockEnableDone_of_block notRing).trans (blkEnableDone_of_en found on notSeq enabling en noUpdate)
  · have hurt := blk_parityHit found present on notCp
    exact ⟨_, execConfigParitySweep_of_block found size, congrArg Blk.st hurt, congrArg Blk.updPend hurt⟩
  · obtain ⟨fault, frame⟩ := ringParity_descBase hp hr on
    exact ⟨_, execConfigParitySweep_of_ring hp hr, fault, frame.eq_merge⟩
  · have run := execConfigParitySweep_of_block (s := s) found size
    rw [parityHit_of_cp found present on cp] at run
    have rel := cpRestart_rel 5 0 (s := logMod 0x9001 0 [dw (blkId f).toNat, dw f.base] s) up
    exact ⟨_, run, by rw [rel]; rfl, by rw [rel]; rfl⟩
  · have rewritten : Touch 0x401800 s (cfgRewrite f s) := (cfgRewrite_touch f s).mono rfl
    exact ⟨_, execCfgParityRecovery_of_off found on notRestarting notHeld recovering isOff sec, blk_setBlk_same _ _ _,
      fun rwb => rwbOf_cfgRewrite s rwb, ((setBlk_touch _ _ _).via rfl rewritten).eq_merge⟩

end Sys2Proof.Machine
end

section
/-! SUPPORT. Proofs of the Spring family: reads of registers and accesses through BAR2 (R64, R85, R88, R89, R109, R110). -/

namespace Sys2Proof.Machine

open Sys2Proof

/-! ### Register reads (R85, R88, R89, R110) -/

/-- A register of BAR0 gives its value; outside its domain the access is logged (R97). -/
theorem regRead_touch_mgt (off : Nat) (s : State) : Touch 0x100000000 s (regRead off s).2 := by
  unfold regRead
  split
  · exact .refl _ _
  · split
    · exact .refl _ _
    · split
      · exact logFold_touch_mgt _ _ _ _ _
      · exact .refl _ _

/-- A read that finds no parity error. -/
theorem bar0Read_touch_mgt (who off : Nat) (s : State) : Touch 0x100000000 s (bar0Read who off false s).2 := by
  unfold bar0Read
  split
  · exact .refl _ _
  · split
    · exact barDenied_touch_mgt _ _ _
    · exact regRead_touch_mgt _ _

theorem bar0Read_of_denied {s : State} {who off : Nat} {f : Frame0} (bad : Bool) (found : regAt off = some f)
    (denied : mayRead s who f off = false) : bar0Read who off bad s = (0, barDenied who off s) := by
  simp only [bar0Read, found, denied, Bool.not_false, if_true]

theorem bar0Read_of_reserved {off : Nat} (who : Nat) (bad : Bool) (s : State) (reserved : regAt off = none) :
    bar0Read who off bad s = (0, s) := by
  simp only [bar0Read, reserved]

/-- One dword as the host of port `p` reads it, with no parity error. -/
def dwordRead (p bar off : Nat) (s : State) : W32 × State :=
  if bar = 4 then (bar4Read s p off, s) else bar0Read (p + 1) off false s

theorem dwordRead_touch_mgt (p bar off : Nat) (s : State) : Touch 0x100000000 s (dwordRead p bar off s).2 := by
  unfold dwordRead
  split
  · exact .refl _ _
  · exact bar0Read_touch_mgt _ _ _

/-- The host of port `p` reads a dword and gets it under its byte enables. -/
def dwordAnswered (p bar off mask : Nat) (s : State) : State :=
  emit (.readData p bar off (byEnable mask (dwordRead p bar off s).1) false) (dwordRead p bar off s).2

theorem execRegisterRead_of_host {s : State} {p : Nat} (bar off n mask : Nat) (up : (fn s p).linkUp = true) :
    execRegisterRead (p + 1) bar off n mask [] s =
      .next ((List.range n).foldl (fun t i => dwordAnswered p bar (off + 4 * i) mask t) s) := by
  have reached : ¬ ((!whoUp s (p + 1)) = true) := by
    rw [show whoUp s (p + 1) = true from up]
    exact Bool.false_ne_true
  rw [execRegisterRead, if_neg reached]
  rfl

theorem execRegisterRead_one {s : State} {p : Nat} (bar off mask : Nat) (up : (fn s p).linkUp = true) :
    execRegisterRead (p + 1) bar off 1 mask [] s = .next (dwordAnswered p bar off mask s) :=
  execRegisterRead_of_host bar off 1 mask up

/-- `n` answers go out, and nothing but outputs and the event queue differs. -/
def Answers (n : Nat) (s t : State) : Prop := t.out.length = s.out.length + n ∧ Touch 0x1100000000 s t

theorem dwordAnswered_answers (p bar off mask : Nat) (s : State) : Answers 1 s (dwordAnswered p bar off mask s) := by
  have read := dwordRead_touch_mgt p bar off s
  refine ⟨?_, (emit_touch _ _).via rfl (read.mono rfl)⟩
  rw [dwordAnswered, emit, State.setOut_out, List.length_cons, read.out rfl]

theorem Answers.foldl {β : Type} (f : State → β → State) (hf : ∀ t b, Answers 1 t (f t b)) (l : List β) (s : State) :
    Answers l.length s (l.foldl f s) := by
  induction l generalizing s with
  | nil => exact ⟨rfl, .refl _ _⟩
  | cons b l ih =>
    obtain ⟨one, first⟩ := hf s b
    obtain ⟨rest, later⟩ := ih (f s b)
    exact ⟨by rw [List.foldl_cons, rest, one, List.length_cons]; omega, first.trans later⟩

/-- Of a dword of zeros every selection of bytes is zero. -/
theorem byEnable_zero (mask : Nat) : byEnable mask 0 = 0 := by
  have byte (i : Nat) : fld (0 : W32) (8 * i) 8 = 0 := by
    rw [fld, show (0 : W32).toNat = 0 from rfl, Nat.zero_shiftRight, Nat.zero_mod]
  simp only [byEnable, byte, Nat.zero_mul, ite_self]
  rfl

/-! ### BAR2 (R64, R109) -/

theorem applyErrs_nil (s : State) : applyErrs [] s = s := rfl

theorem bar2Denied_touch_mgt (p off : Nat) (s : State) : Touch 0x100000000 s (bar2Denied p off s) :=
  barDenied_touch_mgt _ _ _

section
variable {s : State} {p : Nat} (hp : p < 2) (up : (fn s p).linkUp = true)
include hp up

theorem execBar2Access_read_of_winter (off len : Nat) (winter : winterRuns s = true) :
    execBar2Access p off len none [] s = .next (emit (.bar2Data p off (zeros len) false) s) := by
  rw [execBar2Access, if_neg (port_reached hp up)]
  simp only [bar2Zero, winter, Option.isSome_none, Option.map_none, Option.getD_none, Bool.false_eq_true, if_false, if_true]

variable (calm : winterRuns s = false)
include calm

theorem execBar2Access_read_of_unmapped {off : Nat} (len : Nat)
    (unmapped : tget none (fn s p).maps (off / 0x200000) = none) :
    execBar2Access p off len none [] s = .next (emit (.bar2Data p off (zeros len) false) (bar2Denied p off s)) := by
  rw [execBar2Access, if_neg (port_reached hp up)]
  simp only [bar2Zero, calm, unmapped, Option.isSome_none, Option.map_none, Option.getD_none, Bool.false_eq_true, if_false]

variable {off : Nat} {m : BarMap} (mapped : tget none (fn s p).maps (off / 0x200000) = some m)
include mapped

theorem execBar2Access_write_of_refused (b : List Byte) (refused : m.write = false) :
    execBar2Access p off 0 (some b) [] s = .next (bar2Denied p off s) := by
  rw [execBar2Access, if_neg (port_reached hp up)]
  simp only [bar2Zero, calm, mapped, refused, Option.isSome_some, Bool.not_false, Bool.false_eq_true, if_false, if_true]

variable (low : m.target < 2 ^ 63)
include low

theorem execBar2Access_read_of_permitted {len : Nat} (may : m.read = true)
    (reached : checkRange m.realm .host false (m.target + off % 0x200000) len s = none) :
    execBar2Access p off len none [] s = .next (emit
      (.bar2Data p off (memRead m.realm (m.target + off % 0x200000) len s).1
        (memRead m.realm (m.target + off % 0x200000) len s).2.1)
      (memRead m.realm (m.target + off % 0x200000) len s).2.2) := by
  rw [execBar2Access, if_neg (port_reached hp up)]
  simp only [calm, mapped, may, if_neg (Nat.not_le.2 low), Option.isSome_none, Option.map_none,
    Option.getD_none, reached, applyErrs_nil, Bool.not_true, Bool.false_eq_true, if_false]

theorem execBar2Access_write_of_permitted {b : List Byte} (may : m.write = true)
    (reached : checkRange m.realm .host true (m.target + off % 0x200000) b.length s = none) :
    execBar2Access p off 0 (some b) [] s = .next (loadNotes (m.target + off % 0x200000) b.length false
      (memWrite m.realm (m.target + off % 0x200000) b s)) := by
  rw [execBar2Access, if_neg (port_reached hp up)]
  simp only [calm, mapped, may, if_neg (Nat.not_le.2 low), Option.isSome_some, Option.isSome_none,
    Option.map_some, Option.getD_some, reached, applyErrs_nil, Bool.not_true, Bool.false_eq_true, if_false, if_true]

end

/-- Settles O8: a read is its dwords answered one by one, and an access through BAR2 has one rule for each outcome. -/
theorem registerAndBarTwoAccesses : Obligations.RegisterAndBarTwoAccesses := by
  refine ⟨fun s p bar off n mask _ up => ?_, fun s p off _ up => execRegisterRead_one 4 off 15 up,
    fun s p off f _ up found denied => ?_, fun s p off _ up reserved => ?_,
    fun s p off len hp up winter => execBar2Access_read_of_winter hp up off len winter,
    fun s p off len hp up calm unmapped => ?_, fun s p off b m hp up calm mapped refused => ?_,
    fun s p off len m hp up calm mapped may low reached => ?_, fun s p off b m hp up calm mapped may low reached => ?_⟩
  · obtain ⟨answers, frame⟩ := Answers.foldl (fun t i => dwordAnswered p bar (off + 4 * i) mask t)
      (fun t i => dwordAnswered_answers p bar (off + 4 * i) mask t) (List.range n) s
    rw [List.length_range] at answers
    exact ⟨_, execRegisterRead_of_host bar off n mask up, answers, frame.eq_merge⟩
  · have nothing : dwordRead p 0 off s = (0, barDenied (p + 1) off s) := bar0Read_of_denied false found denied
    have denial := barDenied_touch_mgt (p + 1) off s
    refine ⟨_, execRegisterRead_one 0 off 15 up, ?_, (dwordAnswered_answers p 0 off 15 s).2.eq_merge⟩
    rw [dwordAnswered, nothing, byEnable_zero, emit, State.setOut_out, denial.out rfl]
  · have nothing : dwordRead p 0 off s = (0, s) := bar0Read_of_reserved (p + 1) false s reserved
    refine (execRegisterRead_one 0 off 15 up).trans ?_
    rw [dwordAnswered, nothing, byEnable_zero]
    rfl
  · have denial := bar2Denied_touch_mgt p off s
    refine ⟨_, execBar2Access_read_of_unmapped hp up calm len unmapped, ?_,
      ((emit_touch _ _).via rfl (denial.mono (n := 0x1100000000) rfl)).eq_merge⟩
    rw [emit, State.setOut_out, denial.out rfl]
  · have denial := bar2Denied_touch_mgt p off s
    exact ⟨_, execBar2Access_write_of_refused hp up calm mapped b refused, denial.mem rfl, denial.out rfl, denial.eq_merge⟩
  · have read := memRead_touch m.realm (m.target + off % 0x200000) len s
    refine ⟨_, execBar2Access_read_of_permitted hp up calm mapped low may reached, ?_, read.sec rfl⟩
    rw [emit, State.setOut_out, read.out rfl]
  · have written := memWrite_touch m.realm (m.target + off % 0x200000) b s
    have noted := loadNotes_touch (m.target + off % 0x200000) b.length false
      (memWrite m.realm (m.target + off % 0x200000) b s)
    exact ⟨_, execBar2Access_write_of_permitted hp up calm mapped low may reached, noted.mem rfl,
      (noted.out rfl).trans (written.out rfl)⟩

end Sys2Proof.Machine
end

section
/-! SUPPORT. Proofs of the register conventions family: writes of ring bases and of RWB registers, GLB_UPDATE and abandoned
accesses (R88 to R90, R95, R101 to R104, R116). -/

namespace Sys2Proof.Machine

open Sys2Proof

/-! ### Blocks and RWB registers at other bases -/

theorem blk_setBlk_ne (s : State) {b k : Nat} (x : Blk) (h : k ≠ b) : blk (setBlk s b x) k = blk s k :=
  tget_tset_ne _ _ _ _ _ h

theorem rwbOf_setRwbOf_ne (s : State) {b k : Nat} (c e : Nat) (x : Rwb) (h : k ≠ b) :
    rwbOf (setRwbOf s b c x) k e = rwbOf s k e :=
  tget_tset_ne_of_default _ _ _ _ _ _ h

/-! ### Writes of registers in BAR4 (R88, R116) -/

/-- A host's write in BAR4 reaches the port's own registers when its bytes are all enabled, and is ignored otherwise. -/
theorem execRegisterWrite_of_bar4 {s : State} {p : Nat} (off : Nat) (v : W32) (whole : Bool)
    (up : (fn s p).linkUp = true) :
    execRegisterWrite (p + 1) 4 off v whole s =
      .next (if whole = true then bar4Write p off v s else writeIgnored (p + 1) off s) := by
  have reached : whoUp s (p + 1) = true := up
  cases whole <;> simp [execRegisterWrite, reached]

theorem bar4Write_descBase {s : State} {p r : Nat} (v : W32) (hr : r < 4) (isOff : (ring s p r).st = .off) :
    bar4Write p (0x1000 * r + 0x10) v s =
      setRing s p r { ring s p r with descBase := baseWrite false v (ring s p r).descBase } := by
  have number : (0x1000 * r + 0x10) / 0x1000 = r := by omega
  have register : (0x1000 * r + 0x10) % 0x1000 = 0x10 := by omega
  have low : 0x1000 * r + 0x10 < 0x4000 := by omega
  simp [bar4Write, number, register, low, isOff]

/-! ### Writes of RWB registers (R90, R101, R102) -/

/-- A write that reaches its block goes by the mode. -/
theorem execRwbWrite_of_permitted {s : State} {who : Nat} (v : W32) {f : Frame0}
    (found : frameAt (f.base + 0x20) = some f) (rwb : (rwbReset f.code).isSome = true) (up : whoUp s who = true)
    (may : mayWrite s who f (f.base + 0x20) = true) (free : cpBarred s who f = false)
    (present : frameAbsent s f = false) (on : domOn s f.dom = true) :
    execRwbWrite who (f.base + 0x20) v s = .next (if compat s then rwbCompat who (f.base + 0x20) v f s
      else rwbNative who (f.base + 0x20) v f s) := by
  have register : isRwb f (f.base + 0x20) = true := by rw [isRwb, rwb, beq_self_eq_true]; rfl
  simp only [execRwbWrite, inDomain, found, register, up, may, free, present, on, Bool.not_true, Bool.or_self,
    Bool.false_eq_true, if_false, if_true]

section
variable {s : State} {f : Frame0} {reset mask : W32} (reg : rwbReset f.code = some (reset, mask))
include reg

theorem rwbCompat_of_on (who off : Nat) (v : W32) (isOn : (blk s f.base).st = .on) :
    rwbCompat who off v f s = setRwbOf s f.base f.code { rwbOf s f.base f.code with shadow := v &&& mask } := by
  simp only [rwbCompat, reg, isOn]

theorem rwbCompat_of_off (who off : Nat) (v : W32) (isOff : (blk s f.base).st = .off) :
    rwbCompat who off v f s = setRwbOf s f.base f.code ⟨v &&& mask, v &&& mask, v &&& mask⟩ := by
  simp only [rwbCompat, reg, isOff]

theorem rwbNative_of_off (who off : Nat) (v : W32) (isOff : (blk s f.base).st = .off) :
    rwbNative who off v f s = setRwbOf s f.base f.code
      ⟨v &&& mask, v &&& mask, if who = 0 then v &&& mask else (rwbOf s f.base f.code).record⟩ := by
  simp only [rwbNative, reg, isOff, beq_self_eq_true, if_true]

/-- At Off both modes write the live value and the shadow; they differ in the CP's record. -/
theorem rwbWritten_of_off (who off : Nat) (v : W32) (isOff : (blk s f.base).st = .off) :
    ∃ record, (if compat s then rwbCompat who off v f s else rwbNative who off v f s) =
      setRwbOf s f.base f.code ⟨v &&& mask, v &&& mask, record⟩ := by
  split
  · exact ⟨_, rwbCompat_of_off reg who off v isOff⟩
  · exact ⟨_, rwbNative_of_off reg who off v isOff⟩

end

/-! ### GLB_UPDATE (R103, R104) -/

theorem frameAt_baseWAT {d c : Nat} (hd : d < 8) (hc : c < 48) :
    frameAt (baseWAT d c) = some ⟨0x11, baseWAT d c, 0x400, d, c, 0xFF, quadDom d c⟩ := by
  have offset : baseWAT d c - 0x1000000 = d * 0x400000 + (0x100000 + c * 0x8000 + 0xC00) := by
    unfold baseWAT cluBase dieBase
    omega
  have die : (baseWAT d c - 0x1000000) / 0x400000 = d := by omega
  have inDie : (baseWAT d c - 0x1000000) % 0x400000 = 0x100000 + (c * 0x8000 + 0xC00) := by omega
  have cluster : (c * 0x8000 + 0xC00) / 0x8000 = c := by omega
  have inCluster : (c * 0x8000 + 0xC00) % 0x8000 = 0xC00 := by omega
  unfold frameAt
  rw [if_neg (by omega), if_pos (by omega)]
  simp only [die, inDie]
  repeat rw [if_neg (by omega)]
  rw [if_pos ⟨by omega, by omega⟩]
  simp only [Nat.add_sub_cancel_left, cluster, inCluster]
  rfl

theorem dies_le (s : State) : dies s ≤ 8 := by
  unfold dies
  split <;> decide

/-- The offset `b` is the base of its frame. -/
def FrameBase (b : Nat) : Prop := ∀ f, frameAt b = some f → f.base = b

theorem frameBase_of_frameAt {b : Nat} {f : Frame0} (found : frameAt b = some f) (own : f.base = b) : FrameBase b :=
  fun g h => by rw [Option.some.inj (h.symm.trans found), own]

theorem frameBase_of_mem_updFrames {s : State} {v : W32} {b : Nat} (named : b ∈ updFrames s v) : FrameBase b := by
  simp only [updFrames, List.mem_append, List.mem_ite_nil_right, List.mem_singleton, List.mem_flatMap, List.mem_map,
    List.mem_range] at named
  obtain (((⟨-, rfl⟩ | ⟨-, rfl⟩) | ⟨-, rfl⟩) | ⟨-, rfl⟩) | ⟨-, d, hd, -, c, hc, rfl⟩ := named
  · exact frameBase_of_frameAt rfl rfl
  · exact frameBase_of_frameAt rfl rfl
  · exact frameBase_of_frameAt rfl rfl
  · exact frameBase_of_frameAt rfl rfl
  · exact frameBase_of_frameAt (frameAt_baseWAT (Nat.lt_of_lt_of_le hd (dies_le s)) hc) rfl

/-- A named block that is On takes its shadows. -/
theorem updOne_of_on {s : State} {b : Nat} {f : Frame0} (found : frameAt b = some f) (isOn : (blk s f.base).st = .on) :
    updOne s b = shadowsApply f s := by
  simp only [updOne, found, isOn]

theorem rwbOf_shadowsApply {f : Frame0} (s : State) (rwb : (rwbReset f.code).isSome = true) :
    rwbOf (shadowsApply f s) f.base f.code = { rwbOf s f.base f.code with
      live := (rwbOf s f.base f.code).shadow, record := (rwbOf s f.base f.code).shadow } := by
  simp only [shadowsApply, if_pos rwb, rwbOf_setRwbOf_same]

/-- What a named block does leaves the blocks at other bases. -/
theorem updOne_other (s : State) {b k : Nat} (c : Nat) (own : FrameBase b) (h : k ≠ b) :
    rwbOf (updOne s b) k c = rwbOf s k c ∧ blk (updOne s b) k = blk s k := by
  unfold updOne
  split
  · exact ⟨rfl, rfl⟩
  · next f found =>
    have other : k ≠ f.base := fun e => h (e.trans (own f found))
    have noted (x : Blk) : rwbOf (setBlk s f.base x) k c = rwbOf s k c ∧ blk (setBlk s f.base x) k = blk s k :=
      ⟨rfl, blk_setBlk_ne s x other⟩
    dsimp only
    split
    · refine ⟨?_, (shadowsApply_touch f s).blk rfl k⟩
      unfold shadowsApply
      split
      · exact rwbOf_setRwbOf_ne s _ _ _ other
      · rfl
    · exact noted _
    · exact noted _
    · exact ⟨rfl, rfl⟩

/-- Whatever blocks are updated with it, a block that is On ends with its shadow live, once it is named. -/
theorem live_foldl_updOne {f : Frame0} (found : frameAt f.base = some f) (rwb : (rwbReset f.code).isSome = true)
    (l : List Nat) (own : ∀ b ∈ l, FrameBase b) (s : State) (isOn : (blk s f.base).st = .on)
    (named : f.base ∈ l ∨ (rwbOf s f.base f.code).live = (rwbOf s f.base f.code).shadow) :
    (rwbOf (l.foldl updOne s) f.base f.code).live = (rwbOf s f.base f.code).shadow := by
  induction l generalizing s with
  | nil => exact named.resolve_left List.not_mem_nil
  | cons b l ih =>
    have later := ih (fun k hk => own k (List.mem_cons_of_mem b hk)) (updOne s b)
    rw [List.foldl_cons]
    by_cases same : b = f.base
    · have applied := rwbOf_shadowsApply s rwb
      have kept := (shadowsApply_touch f s).blk rfl f.base
      rw [same, updOne_of_on found isOn] at later ⊢
      rw [applied, kept] at later
      exact later isOn (.inr rfl)
    · obtain ⟨shadow, kept⟩ := updOne_other s f.code (own b List.mem_cons_self) (Ne.symm same)
      rw [shadow, kept] at later
      exact later isOn (named.imp_left fun h => (List.mem_cons.1 h).resolve_left (Ne.symm same))

theorem execGlbUpdate_of_compat {s : State} (v : W32) (up : whoUp s 0 = true) (on : domOn s 76 = true)
    (mode : compat s = true) (sec : blkOn s baseSEC = true) (glb : blkOn s baseGLB = true) :
    execGlbUpdate 0 v s = .next ((updFrames s v).foldl updOne s) := by
  have found : frameAt 0x30 = some ⟨0, baseGLB, 0x1000, 0xFF, 0, 0xFF, 76⟩ := rfl
  have present : domPresent s 76 = true := rfl
  have isOn : (blk s baseGLB).st = .on := beq_iff_eq.1 glb
  simp [execGlbUpdate, inDomain, frameAbsent, cpBarred, found, up, present, on, mode, sec, isOn]

/-! ### Abandoned accesses (R89, R95) -/

section
variable {s : State} {p off : Nat} {f : Frame0} (found : regAt off = some f) (up : (fn s p).linkUp = true)
  (present : frameAbsent s f = false)
include found up present

/-- A permitted read is abandoned: OFFDOM_ACCESS is logged with the number 1 (log entry 82), and the host reads all ones. -/
theorem execCrossingTimeout_of_permitted (may : mayRead s (p + 1) f off = true) :
    execCrossingTimeout (p + 1) off true s = .next (emit (.readData p 0 off 0xFFFFFFFF false)
      (logFold ticksMs 0x9003 0xFF 0xFFFF (resDom f.dom) [dw off, 1] s)) := by
  have reached : whoUp s (p + 1) = true := up
  simp [execCrossingTimeout, answer, found, reached, present, may]

theorem execCrossingTimeout_of_denied (denied : mayRead s (p + 1) f off = false) :
    execCrossingTimeout (p + 1) off true s = .next (emit (.readData p 0 off 0 false) (barDenied (p + 1) off s)) := by
  have reached : whoUp s (p + 1) = true := up
  simp [execCrossingTimeout, answer, found, reached, present, denied]

end

/-- Settles O7: by the rule of each row; GLB_UPDATE goes through the named blocks by induction on their list. -/
theorem registerWritesShadowsAndUpdates : Obligations.RegisterWritesShadowsAndUpdates := by
  refine ⟨fun s p r v _ hr up isOff => ?_, fun s p off v _ up => ?_,
    fun s who v f found rwb up may free present on mode isOn => ?_,
    fun s who v f found rwb up may free present on isOff => ?_,
    fun s v b f up on mode sec glb named found isOn => ?_, fun s p off f _ found up present may => ?_,
    fun s p off f _ found up present denied => ?_⟩
  · have run := execRegisterWrite_of_bar4 (0x1000 * r + 0x10) v true up
    rw [if_pos rfl, bar4Write_descBase v hr isOff] at run
    exact ⟨_, run, ring_setRing_same _ _ _ _, (setRing_touch _ _ _ _).eq_merge⟩
  · exact ⟨_, execRegisterWrite_of_bar4 off v false up, rfl, (writeIgnored_touch_mgt _ _ _).eq_merge⟩
  · obtain ⟨⟨reset, mask⟩, reg⟩ := Option.isSome_iff_exists.1 rwb
    have run := execRwbWrite_of_permitted v found rwb up may free present on
    rw [if_pos mode, rwbCompat_of_on reg who _ v isOn] at run
    exact ⟨_, mask, run, by rw [reg]; rfl, rwbOf_setRwbOf_same _ _ _ _, (setRwbOf_touch _ _ _ _).eq_merge⟩
  · obtain ⟨⟨reset, mask⟩, reg⟩ := Option.isSome_iff_exists.1 rwb
    obtain ⟨record, written⟩ := rwbWritten_of_off reg who (f.base + 0x20) v isOff
    have run := execRwbWrite_of_permitted v found rwb up may free present on
    rw [written] at run
    exact ⟨_, mask, run, by rw [reg]; rfl, by rw [rwbOf_setRwbOf_same], by rw [rwbOf_setRwbOf_same],
      (setRwbOf_touch _ _ _ _).eq_merge⟩
  · have own : f.base = b := frameBase_of_mem_updFrames named f found
    rw [← own] at named found
    have frame : Touch 0x1800 s ((updFrames s v).foldl updOne s) :=
      Touch.foldl _ _ (fun t k => updOne_touch t k) (.refl _ _)
    exact ⟨_, execGlbUpdate_of_compat v up on mode sec glb, fun rwb => live_foldl_updOne found rwb _
      (fun _ => frameBase_of_mem_updFrames) s isOn (.inl named), frame.eq_merge⟩
  · have logged := logFold_touch_mgt ticksMs 0x9003 (resDom f.dom) [dw off, 1] s
    refine ⟨_, execCrossingTimeout_of_permitted found up present may, ?_,
      ((emit_touch _ _).via rfl (logged.mono (n := 0x1100000000) rfl)).eq_merge⟩
    rw [emit, State.setOut_out, logged.out rfl]
  · have denial := barDenied_touch_mgt (p + 1) off s
    refine ⟨_, execCrossingTimeout_of_denied found up present denied, ?_, (emit_touch _ _).eq_merge⟩
    rw [emit, State.setOut_out, denial.out rfl]

end Sys2Proof.Machine
end

section
/-! SUPPORT. Proofs of the core family: a core whose task has ended starts none while its step is aborted (R160, R233,
R245, R258, R334). -/

namespace Sys2Proof.Machine

open Sys2Proof

/-! ### Members of a table -/

theorem mem_of_mem_tset {α : Type} [DecidableEq α] {d v : α} {t : Tbl α} {k : Nat} {e : Nat × α}
    (h : e ∈ tset d t k v) : e = (k, v) ∨ (e ∈ t ∧ e.1 ≠ k) := by
  have kept : e ∈ tdrop t k → e ∈ t ∧ e.1 ≠ k := fun h => by
    rw [tdrop_eq_filter, List.mem_filter] at h
    exact ⟨h.1, of_decide_eq_true h.2⟩
  unfold tset at h
  split at h
  · exact .inr (kept h)
  · exact (mem_tins _ _ _ _ h).imp id kept

theorem tget_eq_or_mem {α : Type} (d : α) (t : Tbl α) (k : Nat) : tget d t k = d ∨ (k, tget d t k) ∈ t := by
  induction t with
  | nil => exact .inl rfl
  | cons e t ih =>
    obtain ⟨j, v⟩ := e
    by_cases same : j = k
    · subst same
      simp [tget]
    · rw [tget, if_neg same]
      exact ih.imp id (List.mem_cons_of_mem _)

/-! ### Cores without a task -/

/-- No entry of the cores' table with key `n` runs a task, the hidden ones of a table out of canonical form included. -/
structure TaskFree (n : Nat) (s : State) : Prop where
  task_of_mem : ∀ e ∈ s.cmp.core, e.1 = n → e.2.task = none

theorem TaskFree.core {n : Nat} {s : State} (h : TaskFree n s) {d c k : Nat} (key : coreKey d c k = n) :
    (core s d c k).task = none := by
  unfold Machine.core
  rcases tget_eq_or_mem ({} : Core) s.cmp.core (coreKey d c k) with absent | found
  · rw [absent]
  · exact h.task_of_mem _ found key

/-- A frame without the clusters. -/
theorem TaskFree.touch {n m : Nat} {s t : State} (h : TaskFree n s) (frame : Touch m s t)
    (clusters : m.testBit 22 = false) : TaskFree n t :=
  ⟨frame.cmp clusters ▸ h.task_of_mem⟩

/-- Clusters that change in parts other than the cores. -/
theorem TaskFree.of_cores_eq {n : Nat} {s t : State} (h : TaskFree n s) (same : t.cmp.core = s.cmp.core) :
    TaskFree n t :=
  ⟨same ▸ h.task_of_mem⟩

theorem TaskFree.setCore {n : Nat} {s : State} (h : TaskFree n s) {d c k : Nat} {x : Core}
    (idle : coreKey d c k = n → x.task = none) : TaskFree n (setCore s d c k x) where
  task_of_mem e found key := by
    rcases mem_of_mem_tset found with rfl | ⟨old, -⟩
    · exact idle key
    · exact h.task_of_mem e old key

theorem taskFree_setCore (s : State) (d c k : Nat) {x : Core} (idle : x.task = none) :
    TaskFree (coreKey d c k) (setCore s d c k x) where
  task_of_mem e found key := by
    rcases mem_of_mem_tset found with rfl | ⟨-, other⟩
    · exact idle
    · exact absurd key other

/-- A change of every core that starts no task. -/
theorem TaskFree.tmap {n : Nat} {s t : State} (h : TaskFree n s) {f : Nat → Core → Core}
    (eq : t.cmp.core = tmap {} f s.cmp.core) (keeps : ∀ k x, x.task = none → (f k x).task = none) :
    TaskFree n t where
  task_of_mem e found key := by
    rw [eq, Machine.tmap, List.mem_filter, List.mem_map] at found
    obtain ⟨⟨old, mem, rfl⟩, -⟩ := found
    exact keeps _ _ (h.task_of_mem old mem key)

theorem TaskFree.foldl {β : Type} {n : Nat} {s : State} {f : State → β → State} (l : List β) (h : TaskFree n s)
    (keeps : ∀ t b, TaskFree n t → TaskFree n (f t b)) : TaskFree n (l.foldl f s) := by
  induction l generalizing s with
  | nil => exact h
  | cons b l ih => exact ih (keeps s b h)

/-! ### Stopping contexts (R233, R258) -/

/-- What the stop of a slot makes of a core. -/
def stoppedCore (slot : Nat) (x : Core) : Core :=
  if x.slot = slot ∧ (x.task.isSome ∨ x.pendTask.isSome ∨ x.checking) then
    { coreIdle x with pendTask := none, checking := false } else x

theorem stopSlot_cores (slot : Nat) (s : State) :
    (stopSlot slot s).cmp.core = tmap {} (fun _ => stoppedCore slot) s.cmp.core := rfl

section
variable {n : Nat} {s : State} (h : TaskFree n s)
include h

theorem TaskFree.dropPending (d c slot : Nat) : TaskFree n (dropPending d c slot s) := by
  refine h.foldl _ fun t k free => ?_
  dsimp only
  split
  · exact free.setCore free.core
  · exact free

theorem TaskFree.setVe (d c slot : Nat) (x : Ve) : TaskFree n (setVe s d c slot x) := h.of_cores_eq rfl

theorem TaskFree.setDma (d c slot : Nat) (x : Dma) : TaskFree n (setDma s d c slot x) := h.of_cores_eq rfl

theorem TaskFree.setCcc (d c slot : Nat) (x : Ccc) : TaskFree n (setCcc s d c slot x) := h.of_cores_eq rfl

theorem TaskFree.cccStop (d c slot : Nat) : TaskFree n (cccStop d c slot s) :=
  (((h.dropPending d c slot).setVe d c slot _).setDma d c slot _).setCcc d c slot _

theorem TaskFree.stopSlot (slot : Nat) : TaskFree n (stopSlot slot s) := by
  refine h.tmap (stopSlot_cores slot s) fun k x free => ?_
  unfold stoppedCore
  split
  · rfl
  · exact free

/-! ### Withdrawn jobs and aborted steps (R245, R259, R334) -/

/-- The slot gives up its held signals, its stash and its collectives. -/
theorem TaskFree.release (slot : Nat) : TaskFree n (dropCol slot (pendDiscard slot (stashRelease slot s))) :=
  ((h.touch (stashRelease_touch _ _) rfl).touch (pendDiscard_touch _ _) rfl).touch (dropCol_touch _ _) rfl

theorem TaskFree.withdrawJob (slot : Nat) : TaskFree n (withdrawJob slot s) := by
  unfold Machine.withdrawJob
  split
  · exact h
  next j _ =>
    extract_lets s0 s1 s2 rtb s3 left off s4
    have stopped : TaskFree n s0 := by
      unfold s0
      split
      · exact h.stopSlot _
      · exact h
    have freed : TaskFree n s1 := (((stopped.touch (setJobAt_touch ..) rfl).touch (freeRegion_touch ..) rfl).touch
      (freeRegion_touch ..) rfl).touch (freeRegion_touch ..) rfl
    have cleared : TaskFree n s4 := (freed.release slot).of_cores_eq rfl
    split
    · exact cleared.of_cores_eq rfl
    · exact cleared.tmap (f := fun _ x => { x with role := 0 }) rfl fun _ _ free => free

theorem TaskFree.runDeferred (slot : Nat) (inSol : Bool) (d : Deferred) : TaskFree n (runDeferred slot inSol s d) := by
  have finish {t : State} (free : TaskFree n t) (p r no : Nat) (res : Result) :
      TaskFree n (finishCmd p r no res inSol t) := free.touch (finishCmd_touch ..) rfl
  have set (j : Option Job) : TaskFree n (setJobAt s slot j) := h.touch (setJobAt_touch ..) rfl
  unfold Machine.runDeferred
  cases jobAt s slot with
  | none =>
    cases d with
    | abort => exact finish h _ _ _ _
    | control => exact finish h _ _ _ _
    | ack => exact finish h _ _ _ _
    | act => exact h
  | some j =>
    cases d with
    | abort p r no force =>
      cases force with
      | false => exact finish (set _) _ _ _ _
      | true => exact finish ((set _).withdrawJob _) _ _ _ _
    | control p r no action count =>
      dsimp only
      split
      · exact finish h _ _ _ _
      · exact finish (set _) _ _ _ _
    | ack => exact finish h _ _ _ _
    | act action count =>
      dsimp only
      split
      · exact h
      · exact set _

theorem TaskFree.finishDeferred (slot : Nat) (inSol : Bool) : TaskFree n (finishDeferred slot inSol s) := by
  unfold Machine.finishDeferred
  split
  · exact h
  · exact (h.touch (setJobAt_touch ..) rfl).foldl _ fun t d free => free.runDeferred slot inSol d

theorem TaskFree.incompleteSolstice (slot : Nat) : TaskFree n (incompleteSolstice slot s) := by
  unfold Machine.incompleteSolstice
  split
  · exact h
  split
  · exact h
  next j _ _ st _ =>
    have ended {j' : Job} : TaskFree n (noteStepEnd (setJobAt (journalAdd (.done true j.realm j.id st.num (rtNow s)) s)
        slot (some j'))) :=
      ((h.touch (journalAdd_touch ..) rfl).touch (setJobAt_touch ..) rfl).touch (noteStepEnd_touch _) rfl
    have finished {j' : Job} := ((((ended (j' := j')).touch (logJob_touch 0x3003 j' 0 [st.num] _) rfl).stopSlot
      slot).release slot).finishDeferred slot true
    dsimp only
    split
    · exact finished.withdrawJob _
    · exact finished

theorem TaskFree.abortStep (slot : Nat) : TaskFree n (abortStep slot s) := by
  unfold Machine.abortStep abortWith
  split
  · exact h
  split
  · exact h
  split
  · split
    · exact h
    · exact ((h.touch (setJobAt_touch ..) rfl).touch (noteStepEnd_touch _) rfl).release _
  split
  · exact h
  · exact h.incompleteSolstice _

/-! ### Faults of a context (R233, R276) -/

theorem TaskFree.fillFault (owner : Nat) : TaskFree n (fillFault owner s) := by
  unfold Machine.fillFault
  split
  · exact h
  · exact ((h.touch (setJobAt_touch ..) rfl).stopSlot _).touch (fillCheck_touch ..) rfl

theorem TaskFree.ctxAbort (slot : Nat) : TaskFree n (ctxAbort slot s) := by
  unfold Machine.ctxAbort
  split
  · exact h.abortStep _
  · exact h.fillFault _

theorem TaskFree.cccFault (d c slot cause agent : Nat) : TaskFree n (cccFault d c slot cause agent s) := by
  unfold Machine.cccFault
  dsimp only
  split
  · exact h
  · exact ((h.touch (logCtx_touch ..) rfl).cccStop ..).ctxAbort _

end

/-- The fault of a core's task ends it (R160), whatever the abort of its step does to the cores. -/
theorem core_tileFault_task (d c k cause : Nat) (s : State) : (core (tileFault d c k cause s) d c k).task = none := by
  unfold tileFault
  dsimp only
  split
  · assumption
  · have idle := taskFree_setCore s d c k (x := coreIdle (core s d c k)) rfl
    exact (((idle.touch (checkEnded_touch ..) rfl).touch (logCtx_touch ..) rfl).cccFault ..).core rfl

end Sys2Proof.Machine
end

section
/-! SUPPORT. Proofs of the core family: what a core does with the tile instruction at its PC (R154, R159, R160). -/

namespace Sys2Proof.Machine

open Sys2Proof

/-! ### Issue -/

theorem tileIssue_of_issues {s : State} {d c k : Nat} {w : W32} {op : Nat → Bool} (body : Core → State → State)
    (issues : coreIssues s d c k = true) (word : tileWord s d c k = w) (named : op (fld w 26 6) = true) :
    tileIssue d c k w op body s = .next (body (core s d c k) s) := by
  simp only [tileIssue, issues, word, named, bne_self_eq_false, Bool.not_true, Bool.or_self, Bool.false_eq_true,
    if_false]

theorem tileChecked_of_bad (d c k : Nat) (w : W32) (used : Nat) (body : Core → State → State) (x : Core) (s : State) :
    tileChecked d c k w used false body x s = tileFault d c k 1 s := by
  rw [tileChecked, Bool.not_false, Bool.or_true, if_pos rfl]

theorem linesIn_of_le {a n : Nat} (fits : a + n ≤ 20480) : linesIn a n = true := decide_eq_true fits

section
variable {op used d c k : Nat} {w : W32} {x : Core} {s : State} (at_ : TileAt op used d c k w x s)
include at_

/-- The PC advances within the store, whatever else the instruction makes of its core. -/
theorem tileAdvance_of_tileAt {y : Core} (t : State) (stays : y.pc = x.pc) :
    tileAdvance d c k y t = setCore t d c k { y with pc := y.pc + 1 } := by
  obtain ⟨-, -, -, -, -, pc⟩ := at_
  exact if_neg (by omega)

/-- An operation takes its place in the queue, and with PI its address register moves on. -/
theorem enqueue_of_tileAt {ar n : Nat} {pi : Bool} {e : QEntry} {y : Core} (t : State) (stays : y.pc = x.pc) :
    enqueue d c k ar n pi e y t = setCore t d c k { y with
      pc := y.pc + 1, queue := y.queue ++ [e]
      ar := if pi = true then tset 0 y.ar ar (tget 0 y.ar ar + BitVec.ofNat 16 n) else y.ar } := by
  cases pi <;> exact tileAdvance_of_tileAt at_ t stays

/-- A core that stands at an instruction with clear reserved bits does what its body says. -/
theorem tileIssue_of_tileAt {named : Nat → Bool} {good : Bool} (body : Core → State → State) (mine : named op = true)
    (legal : good = true) :
    tileIssue d c k w named (tileChecked d c k w used good body) s = .next (body x s) := by
  obtain ⟨issues, here, word, opcode, clear, -⟩ := at_
  rw [tileIssue_of_issues _ issues word (opcode ▸ mine), here, tileChecked, clear, legal]
  rfl

end

section
variable {d c k : Nat} {w : W32} {x : Core} {s : State}

/-! ### The instructions that do not queue -/

theorem execTileNop_of_tileAt (at_ : TileAt 0 0 d c k w x s) :
    execTileNop d c k w s = .next (setCore s d c k { x with pc := x.pc + 1 }) := by
  obtain ⟨-, -, -, opcode, -⟩ := id at_
  exact (tileIssue_of_tileAt at_ _ rfl (decide_eq_true opcode)).trans (congrArg _ (tileAdvance_of_tileAt at_ s rfl))

theorem execTileNop_of_undefined (issues : coreIssues s d c k = true) (word : tileWord s d c k = w)
    (undefined : fld w 26 6 = 7 ∨ 0xC ≤ fld w 26 6) : execTileNop d c k w s = .next (tileFault d c k 1 s) := by
  have named : (decide (fld w 26 6 = 0) || decide (fld w 26 6 = 7) || decide (0xC ≤ fld w 26 6)) = true := by
    simpa [or_assoc] using Or.inr undefined
  have bad : decide (fld w 26 6 = 0) = false := decide_eq_false (by omega)
  rw [execTileNop, tileIssue_of_issues _ issues word named, bad, tileChecked_of_bad]

theorem execTileEnd_of_tileAt (at_ : TileAt 1 0 d c k w x s) :
    execTileEnd d c k w s = .next (if x.undrained = true then tileFault d c k 6 s
      else setCore s d c k { x with ending := true }) :=
  tileIssue_of_tileAt at_ _ rfl rfl

theorem execSeta_of_tileAt (at_ : TileAt 2 0x380FFFF d c k w x s) :
    execSeta d c k w s = .next (setCore s d c k { x with
      pc := x.pc + 1, ar := tset 0 x.ar (fld w 23 3) (BitVec.ofNat 16 (fld w 0 16)) }) :=
  (tileIssue_of_tileAt at_ _ rfl rfl).trans (congrArg _ (tileAdvance_of_tileAt at_ s rfl))

theorem execAdda_of_tileAt (at_ : TileAt 3 0x380FFFF d c k w x s) :
    execAdda d c k w s = .next (setCore s d c k { x with
      pc := x.pc + 1, ar := tset 0 x.ar (fld w 23 3) (tget 0 x.ar (fld w 23 3) + BitVec.ofNat 16 (fld w 0 16)) }) :=
  (tileIssue_of_tileAt at_ _ rfl rfl).trans (congrArg _ (tileAdvance_of_tileAt at_ s rfl))

/-- LOOP with a counter that no open loop uses, within the four levels. -/
theorem execLoop_of_tileAt (at_ : TileAt 4 0x3000FFF d c k w x s) (room : x.loops.length < 4)
    (unused : ∀ e ∈ x.loops, e.1 ≠ fld w 24 2) :
    execLoop d c k w s = .next (setCore s d c k { x with
      pc := x.pc + 1, loops := (fld w 24 2, x.pc + 1) :: x.loops, lc := tset 0 x.lc (fld w 24 2) (fld w 0 12) }) := by
  have free : (x.loops.any fun e => e.1 == fld w 24 2) = false :=
    List.any_eq_false.2 fun e open_ => by simpa using unused e open_
  have legal : (decide (4 ≤ x.loops.length) || x.loops.any fun e => e.1 == fld w 24 2) = false := by
    rw [free, decide_eq_false (Nat.not_le.2 room)]
    rfl
  refine (tileIssue_of_tileAt at_ _ rfl rfl).trans (congrArg _ ?_)
  simp only [legal, Bool.false_eq_true, if_false]
  exact tileAdvance_of_tileAt at_ s rfl

/-- ENDL of the innermost loop: the loop closes when its count is done, and goes back otherwise. -/
theorem execEndl_of_tileAt {back : Nat} {rest : List (Nat × Nat)} (at_ : TileAt 5 0x3000000 d c k w x s)
    (innermost : x.loops = (fld w 24 2, back) :: rest) :
    execEndl d c k w s = .next (setCore s d c k (if tget 0 x.lc (fld w 24 2) = 0
      then { x with pc := x.pc + 1, loops := rest }
      else { x with pc := back, lc := tset 0 x.lc (fld w 24 2) (tget 0 x.lc (fld w 24 2) - 1) })) := by
  refine (tileIssue_of_tileAt at_ _ rfl rfl).trans (congrArg _ ?_)
  simp only [innermost, ne_eq, not_true_eq_false, if_false]
  split
  · exact tileAdvance_of_tileAt at_ s rfl
  · rfl

/-- SCL with no DRN before it in the queue: it reads its word at issue. -/
theorem execScl_of_tileAt {s1 : State} {errs : List (Nat × Nat)} {b : List Byte} (at_ : TileAt 6 0x3800007 d c k w x s)
    (drained : ∀ l a rows, QEntry.drn .waiting l a rows ∉ x.queue ∧ QEntry.drn .running l a rows ∉ x.queue)
    (inHalf : (tget 0 x.ar (fld w 23 3)).toNat < 20480)
    (read : memRead (slotRealm s x.slot)
      (lineAddr d c k x.slot (tget 0 x.ar (fld w 23 3)).toNat + 4 * fld w 0 3) 4 (applyErrs errs s) = (b, false, s1)) :
    execScl d c k w errs s = .next (setCore s1 d c k { x with pc := x.pc + 1, sc := BitVec.ofNat 32 (leNat b) }) := by
  have noDrn : ¬ (x.queue.any fun e => match e with | .drn _ _ _ _ => true | _ => false) = true :=
    ne_true_of_eq_false <| List.any_eq_false.2 fun e queued => by
      cases e with
      | wld => exact Bool.false_ne_true
      | mma => exact Bool.false_ne_true
      | drn st l a rows => cases st with
        | waiting => exact absurd queued (drained l a rows).1
        | running => exact absurd queued (drained l a rows).2
  refine (tileIssue_of_tileAt at_ _ rfl rfl).trans (congrArg _ ?_)
  refine (if_neg noDrn).trans ?_
  simp only [arOf, linesIn_of_le (n := 1) inHalf, read, Bool.not_true, Bool.false_eq_true, if_false]
  exact tileAdvance_of_tileAt at_ s1 rfl

theorem execSync_of_tileAt (at_ : TileAt 0xB 0 d c k w x s) :
    execSync d c k w s = .next (if x.queue = [] then setCore s d c k { x with pc := x.pc + 1 } else s) := by
  refine (tileIssue_of_tileAt at_ _ rfl rfl).trans (congrArg _ ?_)
  simp only [List.isEmpty_iff, tileAdvance_of_tileAt at_ s rfl]

/-! ### The instructions that queue -/

section
variable (room : x.queue.length < 8) (arrays : blkOn s (baseARR d c k) = true)
include room arrays

theorem execWld_of_tileAt (at_ : TileAt 8 0x3F8000F d c k w x s) {n a : Nat} {f : BFmt} (format : fld w 20 2 < 3)
    (hf : f = fmtOf (fld w 20 2)) (hn : n = fld w 0 4 + 1) (ha : a = (tget 0 x.ar (fld w 23 3)).toNat)
    (inHalf : a + n * wldLines f ≤ 20480) (fits : n ≤ bankTiles f) :
    execWld d c k w s = .next (setCore s d c k { x with
      pc := x.pc + 1, queue := x.queue ++ [.wld .waiting a (fld w 22 1) f n]
      ar := if bit w 19 = true then tset 0 x.ar (fld w 23 3) (tget 0 x.ar (fld w 23 3) + BitVec.ofNat 16 (n * wldLines f))
        else x.ar }) := by
  subst hf hn ha
  refine (tileIssue_of_tileAt at_ _ rfl (decide_eq_true (Nat.ne_of_lt format))).trans (congrArg _ ?_)
  simp only [arOf, if_neg (Nat.not_le.2 room), linesIn_of_le inHalf, if_neg (Nat.not_lt.2 fits), arrays, Bool.not_true,
    Bool.false_eq_true, if_false]
  exact enqueue_of_tileAt at_ s rfl

/-- MMA behind a drained one. When the bank was not loaded by this task, the running check of the core is abandoned. -/
theorem execMma_of_tileAt (at_ : TileAt 9 0x3FCF0FF d c k w x s) {n a : Nat} {f : BFmt} (format : fld w 20 2 < 3)
    (hf : f = fmtOf (fld w 20 2)) (hn : n = fld w 0 4 + 1) (ha : a = (tget 0 x.ar (fld w 23 3)).toNat)
    (inHalf : ∀ l ∈ mmaReads f n (bitsOf 4 (fld w 12 4)), a + l < 20480)
    (fits : fld w 4 4 + n ≤ (bankTilesFor x (fld w 22 1)).1) (drained : x.undrained = false) :
    execMma d c k w s = .next (setCore
      (if x.ownBanks.contains (fld w 22 1) || wldOn x.queue (fld w 22 1) then s else checkAbandon d c k s) d c k { x with
      pc := x.pc + 1, undrained := true
      queue := x.queue ++ [.mma .waiting a (fld w 22 1) f (fld w 4 4) n (BitVec.ofNat 4 (fld w 12 4)) (bit w 18) x.sc]
      ar := if bit w 19 = true then tset 0 x.ar (fld w 23 3) (tget 0 x.ar (fld w 23 3) + BitVec.ofNat 16 (groupLines f n))
        else x.ar }) := by
  subst hf hn ha
  have reads := List.all_eq_true.2 fun l read => linesIn_of_le (n := 1) (inHalf l read)
  refine (tileIssue_of_tileAt at_ _ rfl (decide_eq_true (Nat.ne_of_lt format))).trans (congrArg _ ?_)
  simp only [arOf, if_neg (Nat.not_le.2 room), reads, if_neg (Nat.not_lt.2 fits), drained, arrays, Bool.not_true,
    Bool.false_eq_true, if_false]
  exact enqueue_of_tileAt at_ _ rfl

theorem execDrn_of_tileAt (at_ : TileAt 0xA 0x3E00000 d c k w x s) {a : Nat} (ha : a = (tget 0 x.ar (fld w 23 3)).toNat)
    (undrained : x.undrained = true) (inHalf : ∀ v ∈ drnArrays x, a + 4 * v + 4 ≤ 20480) :
    execDrn d c k w s = .next (setCore s d c k { x with
      pc := x.pc + 1, undrained := false, queue := x.queue ++ [.drn .waiting a (bit w 22) []]
      ar := if bit w 21 = true then tset 0 x.ar (fld w 23 3) (tget 0 x.ar (fld w 23 3) + 16) else x.ar }) := by
  subst ha
  have writes := List.all_eq_true.2 fun v drains => linesIn_of_le (inHalf v drains)
  refine (tileIssue_of_tileAt at_ _ rfl rfl).trans (congrArg _ ?_)
  simp only [arOf, if_neg (Nat.not_le.2 room), writes, undrained, arrays, Bool.not_true, Bool.and_false,
    Bool.false_eq_true, if_false]
  exact enqueue_of_tileAt at_ s rfl

end

end

/-- Settles O24: by the rule of each instruction; the two faults end the task, since an abort starts none. -/
theorem tileInstructionsIssue : Obligations.TileInstructionsIssue := by
  refine ⟨fun s d c k w x at_ => execTileNop_of_tileAt at_,
    fun s d c k w issues word undefined =>
      ⟨_, execTileNop_of_undefined issues word undefined, core_tileFault_task ..⟩,
    fun s d c k w x at_ drained => ?_, fun s d c k w x at_ undrained => ⟨_, ?_, core_tileFault_task d c k 6 s⟩,
    fun s d c k w x at_ => execSeta_of_tileAt at_, fun s d c k w x at_ => execAdda_of_tileAt at_,
    fun s d c k w x at_ room unused => execLoop_of_tileAt at_ room unused,
    fun s d c k w x back rest at_ innermost => execEndl_of_tileAt at_ innermost,
    fun s s1 d c k w x errs b at_ drained inHalf read => execScl_of_tileAt at_ drained inHalf read,
    fun s d c k w x at_ => execSync_of_tileAt at_,
    fun s d c k n a f w x at_ format hf hn ha room inHalf fits arrays =>
      execWld_of_tileAt room arrays at_ format hf hn ha inHalf fits,
    fun s d c k n a f w x at_ format hf hn ha room inHalf fits drained arrays =>
      execMma_of_tileAt room arrays at_ format hf hn ha inHalf fits drained,
    fun s d c k a w x at_ ha room undrained inHalf arrays => execDrn_of_tileAt room arrays at_ ha undrained inHalf⟩
  · exact (execTileEnd_of_tileAt at_).trans (by rw [drained]; rfl)
  · exact (execTileEnd_of_tileAt at_).trans (by rw [undrained]; rfl)

end Sys2Proof.Machine
end

section
/-! SUPPORT. Proofs of the scheduler family: runs of collective ops begin, send, are pushed and complete (R257, R333,
R341, R343, R431 to R434, R436). -/

namespace Sys2Proof.Machine

open Sys2Proof

/-! ### Dispatch of a collective run (R257, R432) -/

/-- What a collective run does after its start `r`: it ends in fault (R439), or takes the packets that have come for it. -/
def colGoesOn (d slot op m : Nat) (num : W64) (y : ColRun) (r : Run) : State :=
  match r.2 with
  | some cause => colFail y cause r.1
  | none => takeEarly d slot op m num r.1.fab.early r.1

section

variable {code d slot op m : Nat} {errs : List (Nat × Nat)} {x : ColCtx} {y : ColRun} {t s : State}
  {start : ColCtx → ColRun → State → Run}

theorem colGoesOn_of_failed {num : W64} {r : Run} {cause : Nat} (failed : r.2 = some cause) :
    colGoesOn d slot op m num y r = colFail y cause r.1 := by
  simp only [colGoesOn, failed]

theorem colGoesOn_of_started {num : W64} {r : Run} (started : r.2 = none) :
    colGoesOn d slot op m num y r = takeEarly d slot op m num r.1.fab.early r.1 := by
  simp only [colGoesOn, started]

/-- The two ways of a collective run that can begin: it is at fault at once, or it starts. -/
theorem colBegin_of_colAt (at_ : ColAt code d slot op m errs x y t s) :
    colBegin code d slot op m errs start s = .next (
      if x.g.length ≤ x.r || !chunksGood x.o x.g.length then colFail y 1 t
      else colGoesOn d slot op m x.st.num y (start x y t)) := by
  obtain ⟨ctx, rfl, ready, first, rfl, u, rfl, rfl⟩ := at_
  simp only [colBegin, ctx, ready, first, Bool.not_true, Bool.or_false, ne_eq, not_true_eq_false, decide_false,
    Bool.false_eq_true, if_false]
  split
  · rfl
  · split
    case h_1 cause failed => exact congrArg Host.Outcome.next (colGoesOn_of_failed failed).symm
    case h_2 started => exact congrArg Host.Outcome.next (colGoesOn_of_started started).symm

theorem colBegin_of_outside (at_ : ColAt code d slot op m errs x y t s) (outside : x.g.length ≤ x.r) :
    colBegin code d slot op m errs start s = .next (colFail y 1 t) := by
  rw [colBegin_of_colAt at_, decide_eq_true outside, Bool.true_or, if_pos rfl]

variable (at_ : ColAt code d slot op m errs x y t s) (inside : x.r < x.g.length)
  (good : chunksGood x.o x.g.length = true)
include at_ inside good

theorem colBegin_of_start {r : Run} (start_eq : start x y t = r) :
    colBegin code d slot op m errs start s = .next (colGoesOn d slot op m x.st.num y r) := by
  rw [colBegin_of_colAt at_, decide_eq_false (Nat.not_le.2 inside), good, start_eq]
  rfl

theorem colBegin_of_started {u : State} (started : start x y t = (u, none)) :
    colBegin code d slot op m errs start s = .next (takeEarly d slot op m x.st.num u.fab.early u) :=
  colBegin_of_start at_ inside good started

theorem colBegin_of_start_failed {u : State} {cause : Nat} (failed : start x y t = (u, some cause)) :
    colBegin code d slot op m errs start s = .next (colFail y cause u) :=
  colBegin_of_start at_ inside good failed

end

/-- RSIG goes at once when the sends of the new run are issued and it has not gone yet (R432). -/
theorem thenQuiet_next (d slot op m : Nat) (t : State)
    [Decidable (∃ z, runAt t d slot op m = some z ∧ z.sent = true ∧ z.signalled = false)] :
    thenQuiet d slot op m (.next t) = .next (
      if ∃ z, runAt t d slot op m = some z ∧ z.sent = true ∧ z.signalled = false then colQuiet d slot op m t else t) := by
  split
  case isTrue due =>
    obtain ⟨z, run, sent, silent⟩ := due
    simp only [thenQuiet, run, sent, silent, Bool.not_false, Bool.and_self, if_true]
  case isFalse notDue =>
    cases run : runAt t d slot op m with
    | none => simp only [thenQuiet, run]
    | some z =>
      have stays : ¬(z.sent && !z.signalled) = true := fun due => notDue ⟨z, run, by simpa using due⟩
      simp only [thenQuiet, run, if_neg stays]

/-! ### Sends of each op (R431, R433, R434, R436) -/

section

variable {d slot op m : Nat} {errs : List (Nat × Nat)} {x : ColCtx} {y : ColRun} {t t1 t2 t3 s : State}

/-- What a run of RS reads of its chunk for the member `k` of the group (R433). -/
def rsChunk (x : ColCtx) (d m : Nat) (k : Nat × Member) (u : State) : List Byte × Run :=
  colRead x d (mbAddr x.o x.o.src m + chunkOff x.o k.1) (colBytes x.o.dtype (countAt x.o k.1)) u

theorem others_of_alone (alone : x.g.length = 1) (first : x.r = 0) : others x = [] := by
  obtain ⟨k, group⟩ := List.length_eq_one_iff.1 alone
  simp [others, group, first]

theorem sumTo_zero (f : Nat → Nat) : sumTo f 0 = 0 := rfl

theorem chunkOff_zero (o : ColOp) : chunkOff o 0 = 0 := sumTo_zero _

variable (inside : x.r < x.g.length) (good : chunksGood x.o x.g.length = true)
include inside good

theorem execColRs_of_colAt (at_ : ColAt 1 d slot op m errs x y t s)
    (sent : runAll (others x) (fun k u => thenRun (rsChunk x d m k u).2 (colSendReduce x y k.2 (rsChunk x d m k u).1)) t
      = (t1, none))
    (added : rsAdvance x (x.g.length + 1) { y with sent := true } t1 = (t2, none)) :
    execColRs d slot op m errs s = .next (takeEarly d slot op m x.st.num t2.fab.early t2) :=
  colBegin_of_started at_ inside good ((congrArg (thenRun · _) sent).trans added)

theorem execColAg_of_colAt {b : List Byte} (at_ : ColAt 2 d slot op m errs x y t s)
    (read : colRead x d (mbAddr x.o x.o.src m) (colBytes x.o.dtype (countAt x.o x.r)) t = (b, t1, none))
    (sent : runAll (others x) (fun k v => colSendWrites y x.j.realm k.2.chip (dstOn v k.2 op m + chunkOff x.o x.r) b none v)
      t1 = (t2, none))
    (placed : colWrite x d (mbAddr x.o x.o.dst m + chunkOff x.o x.r) b t2 = (t3, none)) :
    execColAg d slot op m errs s
      = .next (takeEarly d slot op m x.st.num (markSent y t3).fab.early (markSent y t3)) := by
  refine colBegin_of_started at_ inside good ?_
  simp only [read, thenRun, sent, placed]

theorem execColA2a_of_countMismatch (at_ : ColAt 3 d slot op m errs x y t s)
    (mismatch : countAt x.o x.r ≠ countFrom x.o x.g.length x.r) :
    execColA2a d slot op m errs s = .next (colFail y 6 t) :=
  colBegin_of_start_failed at_ inside good (if_pos mismatch)

omit inside in
theorem execColA2a_of_alone {b : List Byte} (at_ : ColAt 3 d slot op m errs x y t s) (alone : x.g.length = 1)
    (first : x.r = 0) (counts : countAt x.o 0 = countFrom x.o 1 0)
    (read : colRead x d (mbAddr x.o x.o.src m) (colBytes x.o.dtype (countAt x.o 0)) t = (b, t1, none))
    (placed : colWrite x d (mbAddr x.o x.o.dst m) b t1 = (t2, none)) :
    execColA2a d slot op m errs s
      = .next (takeEarly d slot op m x.st.num (markSent y t2).fab.early (markSent y t2)) := by
  refine colBegin_of_started at_ (by omega) good ?_
  have noOther := others_of_alone alone first
  obtain ⟨k, group⟩ := List.length_eq_one_iff.1 alone
  have own : (List.range 1).zip x.g = [(0, k)] := by rw [group]; rfl
  rw [counts] at read
  simp only [alone, first, counts, noOther, own, runAll, List.foldl_nil, List.foldl_cons, thenRun, chunkOff_zero, sumTo_zero,
    Nat.add_zero, read, placed, ne_eq, not_true_eq_false, if_false, if_true]

theorem execColSend_of_colAt (at_ : ColAt 4 d slot op m errs x y t s)
    (sent : sendTo x y (peerRank x) x.o.len t = (t1, none)) :
    execColSend d slot op m errs s = thenQuiet d slot op m (.next (takeEarly d slot op m x.st.num t1.fab.early t1)) :=
  congrArg (thenQuiet d slot op m) (colBegin_of_started at_ inside good sent)

theorem execColRing_of_colAt (at_ : ColAt 5 d slot op m errs x y t s)
    (sent : sendTo x y (peerRank x) (countAt x.o x.r) t = (t1, none)) :
    execColRing d slot op m errs s = thenQuiet d slot op m (.next (takeEarly d slot op m x.st.num t1.fab.early t1)) :=
  congrArg (thenQuiet d slot op m) (colBegin_of_started at_ inside good sent)

theorem execColBarrier_of_colAt {z : ColRun} (at_ : ColAt 6 d slot op m [] x y t s)
    (stamped : z = { y with own := rtNow t, latest := (rtNow t, ownChip t, d), sent := true })
    (sent : barSend x z t = (t1, none)) :
    execColBarrier d slot op m s = .next (takeEarly d slot op m x.st.num (setRun z t1).fab.early (setRun z t1)) := by
  subst stamped
  exact colBegin_of_started at_ inside good (congrArg (thenRun · _) sent)

end

/-! ### Buddy pushes (R333, R341, R343) -/

section

variable {d slot op m : Nat} {errs : List (Nat × Nat)} {x : ColCtx} {s : State} (ctx : colCtx s d slot op = some x)
include ctx

theorem execColBuddy_of_not_held_back (fresh : (d, op, m) ∉ x.j.pushes) :
    execColBuddy d slot op m errs s = colBegin 7 d slot op m errs pushStart s := by
  simp only [execColBuddy, ctx, List.contains_iff_mem, if_neg fresh]

theorem execColBuddy_of_held_back (buddy : x.o.op = 7) (waiting : (d, op, m) ∈ x.j.pushes) (noSolstice : x.j.sol = .none)
    (going : x.j.aborting = false) (serves : colServes s d = true) (notRunning : runAt s d slot op m = none) :
    execColBuddy d slot op m errs s = .next (pushGo x d slot op m (applyErrs errs s)) := by
  simp [execColBuddy, ctx, waiting, buddy, noSolstice, going, serves, notRunning]

end

theorem execColBuddy_of_colAt {d slot op m : Nat} {errs : List (Nat × Nat)} {x : ColCtx} {y : ColRun} {t t1 s : State}
    (at_ : ColAt 7 d slot op m errs x y t s) (fresh : (d, op, m) ∉ x.j.pushes) (inside : x.r < x.g.length)
    (good : chunksGood x.o x.g.length = true)
    (asked : buddyBegin x { y with sent := true } (setRun { y with sent := true } (addCapture slot true t)) = (t1, none)) :
    execColBuddy d slot op m errs s = .next (takeEarly d slot op m x.st.num t1.fab.early t1) := by
  obtain ⟨ctx, -, -, -, rfl, -⟩ := id at_
  exact (execColBuddy_of_not_held_back ctx fresh).trans (colBegin_of_started at_ inside good asked)

/-! ### The end of a collective run (R431, R432) -/

theorem runIs_iff {d slot op m : Nat} {r : ColRun} :
    runIs d slot op m r = true ↔ (r.die, r.slot, r.op, r.m) = (d, slot, op, m) := by
  simp [runIs, and_assoc]

theorem runIs_of_runAt {s : State} {d slot op m : Nat} {y : ColRun} (run : runAt s d slot op m = some y) :
    (y.die, y.slot, y.op, y.m) = (d, slot, op, m) :=
  runIs_iff.1 (List.find?_some run)

theorem mem_runs_dropRun {x r : ColRun} {s : State} :
    r ∈ (dropRun x s).fab.runs ↔ r ∈ s.fab.runs ∧ (r.die, r.slot, r.op, r.m) ≠ (x.die, x.slot, x.op, x.m) := by
  simp only [dropRun, State.setFab_fab, List.mem_filter, Bool.not_eq_true', ← Bool.not_eq_true, runIs_iff, ne_eq]

theorem runAt_eq_none_iff {s : State} {d slot op m : Nat} :
    runAt s d slot op m = none ↔ ∀ r ∈ s.fab.runs, (r.die, r.slot, r.op, r.m) ≠ (d, slot, op, m) := by
  simp only [runAt, List.find?_eq_none, runIs_iff, ne_eq]

/-- The run `y` has left: it is marked done, and the pieces that it waited for are claimed. -/
def colLeft (x : ColCtx) (y : ColRun) (s : State) : State :=
  let t := dropRun y s
  t.setFab { t.fab with
    colDone := t.fab.colDone ++ [(y.die, y.slot, y.op, y.m)]
    landed := (expected x y.m).foldl (fun l e => claimPieces y.slot e.2.1 e.2.2 l) t.fab.landed }

/-- The job of a slot makes progress now. -/
def progressed (slot : Nat) (s : State) : State :=
  setJobAt s slot ((jobAt s slot).map fun j => { j with progress := rtNow s })

theorem progressed_touch (slot : Nat) (s : State) : Touch 0x30000 s (progressed slot s) := setJobAt_touch ..

/-- The run `y` of the op of `x` has completed: it has left, and its signals are on their way. -/
def colEnded (d slot op m : Nat) (x : ColCtx) (y : ColRun) (s : State) : State :=
  addSigs (x.o.sig.toList.map fun g => sigOf d slot g m (BitVec.ofNat 8 x.st.num.toNat) false (3, op, m))
    (progressed slot (colLeft x y s))

section

variable {s : State} {d slot op m : Nat} {x : ColCtx} {y : ColRun} (run : runAt s d slot op m = some y)
  (ctx : colCtx s d slot op = some x)
include run ctx

theorem execColOpDone_of_incomplete (errs : List (Nat × Nat)) (incomplete : colComplete s x y = false) :
    execColOpDone d slot op m errs s = .next s := by
  simp only [execColOpDone, run, ctx, incomplete, Bool.not_false, Bool.or_true, if_true]

/-- A run that moves data, unlike BARRIER and BUDDY, and has no shard headers to check (R325). -/
theorem execColOpDone_of_complete (works : colWorks s d = true) (complete : colComplete s x y = true)
    (signals : y.held = false) (noShard : x.o.shard = false) (notBarrier : x.o.op ≠ 6) (notBuddy : x.o.op ≠ 7) :
    execColOpDone d slot op m [] s = .next (colEnded d slot op m x y s) := by
  obtain ⟨rfl, rfl, rfl, rfl⟩ : y.die = d ∧ y.slot = slot ∧ y.op = op ∧ y.m = m := by
    simpa using runIs_of_runAt run
  simp [execColOpDone, run, ctx, works, complete, shardCheck, noShard, notBarrier, notBuddy, signals, applyErrs_nil,
    colLeft, progressed, colEnded]

end

theorem colEnded_touch (d slot op m : Nat) (x : ColCtx) (y : ColRun) (s : State) :
    Touch 0x20030000 s (colEnded d slot op m x y s) :=
  ((((dropRun_touch y s).mono rfl).setFab rfl).trans ((progressed_touch slot (colLeft x y s)).mono rfl)).trans
    ((addSigs_touch ..).mono rfl)

theorem colEnded_fab (d slot op m : Nat) (x : ColCtx) (y : ColRun) (s : State) :
    (colEnded d slot op m x y s).fab = { (colLeft x y s).fab with
      sigs := s.fab.sigs ++ x.o.sig.toList.map fun g =>
        sigOf d slot g m (BitVec.ofNat 8 x.st.num.toNat) false (3, op, m) } := by
  rw [colEnded, addSigs, State.setFab_fab, (progressed_touch slot (colLeft x y s)).fab rfl]
  rfl

theorem mem_runs_colEnded {d slot op m : Nat} {x : ColCtx} {y r : ColRun} {s : State} :
    r ∈ (colEnded d slot op m x y s).fab.runs ↔
      r ∈ s.fab.runs ∧ (r.die, r.slot, r.op, r.m) ≠ (y.die, y.slot, y.op, y.m) := by
  rw [colEnded_fab]
  exact mem_runs_dropRun

theorem mem_colDone_colEnded (d slot op m : Nat) (x : ColCtx) (y : ColRun) (s : State) :
    (y.die, y.slot, y.op, y.m) ∈ (colEnded d slot op m x y s).fab.colDone := by
  rw [colEnded_fab]
  exact List.mem_append_right _ (List.mem_singleton.2 rfl)

/-- Settles O45: a collective run that can begin has one rule for its fault, for a send that fails and for sends that succeed,
and the ops differ in their sends alone; a complete one is taken out of the list of runs. That a push which a Solstice held
back starts without its waits is the model's choice (log entry 64). -/
theorem collectiveInstancesRun : Obligations.CollectiveInstancesRun := by
  refine ⟨fun s t d sl op m errs x y outside =>
      ⟨fun at_ => show execColRs d sl op m errs s = _ from colBegin_of_outside at_ outside,
        fun at_ => show execColAg d sl op m errs s = _ from colBegin_of_outside at_ outside,
        fun at_ => show execColA2a d sl op m errs s = _ from colBegin_of_outside at_ outside⟩,
    fun s t t1 t2 d sl op m errs x y at_ inside good sent added => execColRs_of_colAt inside good at_ sent added,
    fun s t t1 t2 t3 d sl op m errs x y b at_ inside good read sent placed =>
      execColAg_of_colAt inside good at_ read sent placed,
    fun s t d sl op m errs x y at_ inside good => ⟨fun mismatch => execColA2a_of_countMismatch inside good at_ mismatch,
      fun t1 b t2 alone counts first read placed => execColA2a_of_alone good at_ alone first counts read placed⟩,
    fun s t t1 t2 d sl op m errs x y inside good => ⟨fun at_ sent early => ?send, fun at_ sent early => ?ring⟩,
    fun s t t1 d sl op m x y z at_ inside good stamped sent => execColBarrier_of_colAt inside good at_ stamped sent,
    fun s t t1 d sl op m errs x y at_ fresh inside good asked => execColBuddy_of_colAt at_ fresh inside good asked,
    fun s d sl op m errs x ctx buddy waiting noSolstice going serves notRunning =>
      execColBuddy_of_held_back ctx buddy waiting noSolstice going serves notRunning,
    fun s d sl op m x y run ctx works complete signals noShard moves => ?done,
    fun s d sl op m x y errs run ctx incomplete => execColOpDone_of_incomplete run ctx errs incomplete⟩
  case send =>
    subst early
    exact (execColSend_of_colAt inside good at_ sent).trans (thenQuiet_next ..)
  case ring =>
    subst early
    exact (execColRing_of_colAt inside good at_ sent).trans (thenQuiet_next ..)
  case done =>
    have key := runIs_of_runAt run
    have frame := colEnded_touch d sl op m x y s
    refine ⟨colEnded d sl op m x y s,
      execColOpDone_of_complete run ctx works complete signals noShard (by omega) (by omega),
      key ▸ mem_colDone_colEnded d sl op m x y s,
      runAt_eq_none_iff.2 fun r stays => key ▸ (mem_runs_colEnded.1 stays).2,
      fun r runs other => mem_runs_colEnded.2 ⟨runs, key ▸ other⟩, ?_,
      frame.mem rfl, frame.scb rfl, frame.sec rfl, frame.out rfl⟩
    rw [colEnded_fab]

end Sys2Proof.Machine
end

section
/-! SUPPORT. Proofs of the memory family: what a write of bonded SRAM leaves in its words, lines and error lists (R288, R290). -/

namespace Sys2Proof.Machine

open Sys2Proof

/-! ### The words of an access -/

theorem nodup_map_of_injective {α β : Type} {f : α → β} (inj : ∀ a b, f a = f b → a = b) {l : List α}
    (once : l.Nodup) : (l.map f).Nodup :=
  List.pairwise_map.2 (once.imp fun ne same => ne (inj _ _ same))

theorem unitsOf_nodup (off len size : Nat) : (unitsOf off len size).Nodup := by
  unfold unitsOf
  split
  · exact List.nodup_nil
  · exact nodup_map_of_injective (fun _ _ e => Nat.add_left_cancel e) List.nodup_range

theorem getElem?_leBytes {k i v : Nat} (h : i < k) : (leBytes k v)[i]? = some (BitVec.ofNat 8 (v / 256 ^ i)) := by
  induction k generalizing i v with
  | zero => omega
  | succ k ih =>
    cases i with
    | zero => simp [leBytes]
    | succ i =>
      rw [leBytes, List.getElem?_cons_succ, ih (by omega), Nat.div_div_eq_div_mul, Nat.pow_succ']

theorem length_leBytes (k v : Nat) : (leBytes k v).length = k := by
  induction k generalizing v with
  | zero => rfl
  | succ k ih => rw [leBytes, List.length_cons, ih]

/-- The bytes of a word, low byte first, are its 8-bit fields. -/
theorem getElem_leBytes_word (x : W64) {i : Nat} (h : i < (leBytes 8 x.toNat).length) :
    (leBytes 8 x.toNat)[i] = x.extractLsb' (8 * i) 8 := by
  have len := length_leBytes 8 x.toNat
  apply Option.some_inj.1
  rw [← List.getElem?_eq_getElem h, getElem?_leBytes (by omega)]
  congr 1
  apply BitVec.eq_of_toNat_eq
  rw [BitVec.toNat_ofNat, BitVec.extractLsb'_toNat, Nat.shiftRight_eq_div_pow, Nat.pow_mul]

/-! ### The read of a read-modify-write -/

/-- Mending a word writes at most its 8 bytes. -/
theorem sramMend_mem (s : State) (w : Nat) :
    ∃ b : List Byte, b.length ≤ 8 ∧ (sramMend s w).mem = { s.mem with sram := tsetRun 0 s.mem.sram (8 * w) b } := by
  unfold sramMend
  dsimp only
  split
  · exact ⟨[], by simp, rfl⟩
  next x _ => exact ⟨leBytes 8 x.toNat, Nat.le_of_eq (length_leBytes ..), sramCorrected_mem ..⟩
  · exact ⟨_, by simp, sramUncorrectable_mem ..⟩

theorem sramMend_line (s : State) (w : Nat) : (sramMend s w).mem.line = s.mem.line := by
  obtain ⟨b, -, mem⟩ := sramMend_mem s w
  rw [mem]

theorem sramMend_sramEcc (s : State) (w : Nat) : (sramMend s w).mem.sramEcc = s.mem.sramEcc := by
  obtain ⟨b, -, mem⟩ := sramMend_mem s w
  rw [mem]

theorem sramMend_sram_ne (s : State) {w a : Nat} (h : a / 8 ≠ w) :
    tget 0 (sramMend s w).mem.sram a = tget 0 s.mem.sram a := by
  obtain ⟨b, len, mem⟩ := sramMend_mem s w
  rw [mem]
  exact tget_tsetRun_out 0 b _ _ _ (by omega)

theorem sramMend_of_ok {s : State} {w : Nat} (clean : tget 0 s.mem.sramEcc w = 0) : sramMend s w = s := by
  have found : sramFound s w = (.ok, sramWord s w) := by rw [sramFound, if_pos clean]
  rw [sramMend, found]

/-- A correctable word holds its corrected bytes from then on. -/
theorem sramMend_sram_of_correctable {s : State} {w a : Nat} {x : W64} (found : sramFound s w = (.correctable, x))
    (h : a / 8 = w) : tget 0 (sramMend s w).mem.sram a = x.extractLsb' (8 * (a % 8)) 8 := by
  have len := length_leBytes 8 x.toNat
  rw [sramMend, found]
  dsimp only
  rw [sramCorrected_mem, show a = 8 * w + a % 8 by omega]
  refine (tget_tsetRun_in 0 _ s.mem.sram (8 * w) (a % 8) (by omega)).trans ?_
  rw [getElem_leBytes_word]
  congr 2
  omega

/-- What a read finds in a word depends on the bytes and the changed bits of that word alone. -/
theorem sramFound_congr {s t : State} {w : Nat} (ecc : tget 0 t.mem.sramEcc w = tget 0 s.mem.sramEcc w)
    (bytes : ∀ a, a / 8 = w → tget 0 t.mem.sram a = tget 0 s.mem.sram a) : sramFound t w = sramFound s w := by
  have word : sramWord t w = sramWord s w := by
    have run : tgetRun 0 t.mem.sram (8 * w) 8 = tgetRun 0 s.mem.sram (8 * w) 8 :=
      List.map_congr_left fun i hi => bytes _ (by have := List.mem_range.1 hi; omega)
    rw [sramWord, sramWord, run]
  rw [sramFound, sramFound, ecc, word]

theorem foldl_sramMend_line (ws : List Nat) (s : State) : (ws.foldl sramMend s).mem.line = s.mem.line := by
  induction ws generalizing s with
  | nil => rfl
  | cons w ws ih => rw [List.foldl_cons, ih, sramMend_line]

theorem foldl_sramMend_sramEcc (ws : List Nat) (s : State) : (ws.foldl sramMend s).mem.sramEcc = s.mem.sramEcc := by
  induction ws generalizing s with
  | nil => rfl
  | cons w ws ih => rw [List.foldl_cons, ih, sramMend_sramEcc]

theorem foldl_sramMend_sram_ne {ws : List Nat} {s : State} {a : Nat} (h : a / 8 ∉ ws) :
    tget 0 (ws.foldl sramMend s).mem.sram a = tget 0 s.mem.sram a := by
  induction ws generalizing s with
  | nil => rfl
  | cons w ws ih =>
    obtain ⟨ne, notin⟩ := not_or.1 (mt List.mem_cons.2 h)
    rw [List.foldl_cons, ih notin, sramMend_sram_ne s ne]

theorem foldl_sramMend_of_ok {ws : List Nat} {s : State} (clean : ∀ w ∈ ws, tget 0 s.mem.sramEcc w = 0) :
    ws.foldl sramMend s = s := by
  induction ws with
  | nil => rfl
  | cons w ws ih =>
    rw [List.foldl_cons, sramMend_of_ok (clean w List.mem_cons_self), ih fun v hv => clean v (List.mem_cons_of_mem w hv)]

theorem foldl_sramMend_sram_of_correctable {ws : List Nat} (once : ws.Nodup) {s : State} {w a : Nat} {x : W64} (named : w ∈ ws)
    (found : sramFound s w = (.correctable, x)) (h : a / 8 = w) :
    tget 0 (ws.foldl sramMend s).mem.sram a = x.extractLsb' (8 * (a % 8)) 8 := by
  induction ws generalizing s with
  | nil => cases named
  | cons v ws ih =>
    obtain ⟨first, once⟩ := List.nodup_cons.1 once
    rw [List.foldl_cons]
    by_cases hv : w = v
    · subst hv
      rw [foldl_sramMend_sram_ne (h ▸ first), sramMend_sram_of_correctable found h]
    · refine ih once ((List.mem_cons.1 named).resolve_left hv) ?_
      rw [sramFound_congr (by rw [sramMend_sramEcc]) fun b hb => sramMend_sram_ne s (by omega), found]

/-! ### The write -/

/-- The words of a valid line that a write covers in part: those that it reads first. -/
def partWords (s : State) (off len : Nat) : List Nat :=
  (unitsOf off len 8).filter fun w =>
    (tget none s.mem.line (w / 4)).isSome && !(decide (off ≤ 8 * w) && decide (8 * w + 8 ≤ off + len))

theorem mem_partWords {s : State} {off len w : Nat} : w ∈ partWords s off len ↔ w ∈ unitsOf off len 8
    ∧ (tget none s.mem.line (w / 4)).isSome = true ∧ ¬ (off ≤ 8 * w ∧ 8 * w + 8 ≤ off + len) := by
  rw [partWords, List.mem_filter]
  simp only [Bool.and_eq_true, Bool.not_eq_true', Bool.and_eq_false_iff, decide_eq_false_iff_not,
    Decidable.not_and_iff_not_or_not]

/-- The state that a write finds once it has read those words. -/
def sramMended (s : State) (off len : Nat) : State := (partWords s off len).foldl sramMend s

/-- Only the first and the last word can be covered in part. -/
theorem end_of_mem_partWords {s : State} {off len w : Nat} (h : w ∈ partWords s off len) :
    w = off / 8 ∨ w = (off + len - 1) / 8 := by
  obtain ⟨inside, -, cut⟩ := mem_partWords.1 h
  obtain ⟨pos, lo, hi⟩ := (mem_unitsOf ..).1 inside
  omega

section

variable {s : State} {r off : Nat} {data : List Byte}

theorem sramWrite_line_in {l : Nat} (h : l ∈ unitsOf off data.length 32) :
    tget none (sramWrite r off data s).mem.line l = some r :=
  tget_foldl_tset_in none (some r) _ _ _ (.inl h)

theorem tget_foldl_tset_out {α : Type} [DecidableEq α] (d v : α) (ks : List Nat) (t : Tbl α) {k : Nat} (h : k ∉ ks) :
    tget d (ks.foldl (fun t l => tset d t l v) t) k = tget d t k := by
  induction ks generalizing t with
  | nil => rfl
  | cons l ks ih =>
    obtain ⟨ne, notin⟩ := not_or.1 (mt List.mem_cons.2 h)
    rw [List.foldl_cons, ih _ notin, tget_tset_ne _ _ _ _ _ ne]

theorem sramWrite_line_out {l : Nat} (h : l ∉ unitsOf off data.length 32) :
    tget none (sramWrite r off data s).mem.line l = tget none s.mem.line l :=
  (tget_foldl_tset_out none (some r) _ (sramMended s off data.length).mem.line h).trans
    (by rw [sramMended, foldl_sramMend_line])

/-- A word that is written, and every word of a line that becomes valid, keeps no error. -/
theorem sramWrite_sramEcc {w : Nat} (touched : w / 4 ∈ unitsOf off data.length 32)
    (h : w ∈ unitsOf off data.length 8 ∨ tget none s.mem.line (w / 4) = none) :
    tget 0 (sramWrite r off data s).mem.sramEcc w = 0 := by
  unfold sramWrite
  dsimp only [State.setMem]
  split
  · rfl
  · refine tget_foldl_tdrop _ _ _ _ (.inl (List.mem_filter.2 ⟨?_, ?_⟩))
    · rw [mem_unitsOf] at touched ⊢
      omega
    · rcases h with written | invalid
      · simp [written]
      · simp [invalid]

theorem sramWrite_sram_out {a : Nat} (h : a < off ∨ off + data.length ≤ a) :
    tget 0 (sramWrite r off data s).mem.sram a = tget 0 (sramMended s off data.length).mem.sram a :=
  tget_tsetRun_out 0 data _ off a h

/-- A read of a byte without a changed bit in its word, by the owner of its line. -/
theorem sramByte_of_ok {t : State} {a : Nat} (tag : tget none t.mem.line (a / 32) = some r)
    (clean : tget 0 t.mem.sramEcc (a / 8) = 0) : sramByte t r a = tget 0 t.mem.sram a := by
  rw [sramByte, if_neg fun foreign => foreign tag, if_pos clean]

/-- Without a changed bit in the first and the last word, a write mends none. -/
theorem sramMended_of_ok (first : tget 0 s.mem.sramEcc (off / 8) = 0)
    (last : tget 0 s.mem.sramEcc ((off + data.length - 1) / 8) = 0) :
    sramMended s off data.length = s :=
  foldl_sramMend_of_ok fun w h => by
    rcases end_of_mem_partWords h with rfl | rfl
    · exact first
    · exact last

theorem sramWrite_eq_setMem : sramWrite r off data s =
    (sramMended s off data.length).setMem { (sramMended s off data.length).mem with
      sram := (sramWrite r off data s).mem.sram, line := (sramWrite r off data s).mem.line
      sramEcc := (sramWrite r off data s).mem.sramEcc } := rfl

theorem sramWrite_frame (first : tget 0 s.mem.sramEcc (off / 8) = 0)
    (last : tget 0 s.mem.sramEcc ((off + data.length - 1) / 8) = 0) :
    sramWrite r off data s = { s with mem := { s.mem with
      sram := (sramWrite r off data s).mem.sram, line := (sramWrite r off data s).mem.line
      sramEcc := (sramWrite r off data s).mem.sramEcc } } :=
  sramWrite_eq_setMem.trans (by rw [sramMended_of_ok first last]; rfl)

end

/-- Settles O35: a word that a write covers in part is mended before its other bytes are kept, once each, and the lines and
words that are written take the tag of the realm and lose their errors. -/
theorem sramWritesTagTheirLines : Obligations.SramWritesTagTheirLines := by
  rintro s t r off data rfl some_data
  have pos : 0 < data.length := List.length_pos_iff.2 some_data
  have line_iff (l : Nat) : l ∈ unitsOf off data.length 32 ↔ off / 32 ≤ l ∧ l ≤ (off + data.length - 1) / 32 := by
    rw [mem_unitsOf, and_iff_right pos]
  have word_iff (w : Nat) : w ∈ unitsOf off data.length 8 ↔ off / 8 ≤ w ∧ w ≤ (off + data.length - 1) / 8 := by
    rw [mem_unitsOf, and_iff_right pos]
  refine ⟨fun l lo hi => sramWrite_line_in ((line_iff l).2 ⟨lo, hi⟩),
    fun l out => sramWrite_line_out (by rw [line_iff]; omega), fun i hi => ?data, fun w lo hi => ?ecc,
    fun w a x aw out lo hi valid found => ?corrected, fun a lo hi out invalid zero => ?filled,
    fun q a other lo hi => ?others, fun first last => ⟨fun a out => ?kept, sramWrite_frame first last⟩⟩
  case data => rw [sramByte_sramWrite_in r off data s i hi, ← List.getElem_eq_getD (h := hi)]
  case ecc => exact sramWrite_sramEcc ((line_iff _).2 (by omega)) (.inl ((word_iff w).2 ⟨lo, hi⟩))
  case corrected =>
    have inside := (word_iff w).2 ⟨lo, hi⟩
    have named : w ∈ partWords s off data.length := mem_partWords.2 ⟨inside, valid, by omega⟩
    have touched : a / 8 / 4 ∈ unitsOf off data.length 32 := (line_iff _).2 (by omega)
    rw [sramByte_of_ok (sramWrite_line_in ((line_iff _).2 (by omega))) (sramWrite_sramEcc touched (.inl (aw ▸ inside))),
      sramWrite_sram_out out]
    exact foldl_sramMend_sram_of_correctable ((unitsOf_nodup ..).filter _) named found aw
  case filled =>
    have touched : a / 32 ∈ unitsOf off data.length 32 := (line_iff _).2 ⟨lo, hi⟩
    have same : a / 8 / 4 = a / 32 := Nat.div_div_eq_div_mul a 8 4
    have unread : a / 8 ∉ partWords s off data.length := fun h => by
      obtain ⟨-, valid, -⟩ := mem_partWords.1 h
      rw [same, invalid] at valid
      cases valid
    rw [sramByte_of_ok (sramWrite_line_in touched) (sramWrite_sramEcc (same ▸ touched) (.inr (same ▸ invalid))),
      sramWrite_sram_out out, sramMended, foldl_sramMend_sram_ne unread, zero]
  case others =>
    have tag := sramWrite_line_in (s := s) (r := r) ((line_iff (a / 32)).2 ⟨lo, hi⟩)
    rw [sramByte, if_pos (by rw [tag]; simpa using other.symm)]
  case kept => rw [sramWrite_sram_out out, sramMended_of_ok first last]

end Sys2Proof.Machine
end

section
/-! SUPPORT. Proofs of the memory family: the map of LPDDR5X offsets to stacks, channels and raw addresses (R292 to R295). -/

namespace Sys2Proof.Machine

open Sys2Proof

/-! ### The channels of an offset (R292, R295) -/

/-- The channels that serve the half of offset `o`, those retired among them, in map order. -/
def halfChans (s : State) (o : Nat) : List Nat :=
  if twoRealm s = true then (List.range 40).map fun j => 16 * (j / 8) + (if o < 0x2000000000 then 0 else 8) + j % 8
  else List.range 80

theorem mapChans_eq_filter (s : State) (d o : Nat) :
    mapChans s d o = (halfChans s o).filter fun q => !chanRetired s d q := rfl

theorem halfChans_nodup (s : State) (o : Nat) : (halfChans s o).Nodup := by
  unfold halfChans
  split
  · refine nodup_map_of_injective (fun i j e => ?_) List.nodup_range
    split at e <;> omega
  · exact List.nodup_range

theorem halfChans_length (s : State) (o : Nat) : (halfChans s o).length = if twoRealm s = true then 40 else 80 := by
  unfold halfChans
  split <;> simp

theorem lt_of_mem_halfChans {s : State} {o q : Nat} (h : q ∈ halfChans s o) : q < 80 := by
  unfold halfChans at h
  split at h
  · obtain ⟨j, hj, rfl⟩ := List.mem_map.1 h
    rw [List.mem_range] at hj
    split <;> omega
  · exact List.mem_range.1 h

/-- In two-realm mode the low eight channels of a stack serve the low half and the others the high one. -/
theorem low_of_mem_halfChans {s : State} {o q : Nat} (two : twoRealm s = true) (h : q ∈ halfChans s o) :
    q % 16 < 8 ↔ o < 0x2000000000 := by
  rw [halfChans, if_pos two] at h
  obtain ⟨j, -, rfl⟩ := List.mem_map.1 h
  split <;> omega

theorem halfChans_congr {s : State} {a b : Nat} (half : twoRealm s = true → (a < 0x2000000000 ↔ b < 0x2000000000)) :
    halfChans s a = halfChans s b := by
  unfold halfChans
  split
  next two => simp only [half two]
  · rfl

theorem mapChans_of_none_retired {s : State} {d : Nat} (o : Nat) (whole : ∀ q < 80, chanRetired s d q = false) :
    mapChans s d o = halfChans s o :=
  List.filter_eq_self.2 fun q hq => by rw [whole q (lt_of_mem_halfChans hq)]; rfl

/-! ### The place of a granule (R292) -/

/-- The granule's number in its half, its channel, and its number in that channel. -/
def mapGran (s : State) (o : Nat) : Nat := mapOff s o / 64
def mapChan (s : State) (d o : Nat) : Nat := (mapChans s d o).getD (mapGran s o % (mapChans s d o).length) 0
def chanGran (s : State) (d o : Nat) : Nat := mapGran s o / (mapChans s d o).length

/-- The raw address of a channel's granule: 15 to a group of 1,024 bytes. -/
def granAddr (cg : Nat) : Nat := cg / 15 * 1024 + cg % 15 * 64

theorem rawPlace_eq (s : State) (d o : Nat) :
    rawPlace s d o = (5 * d + mapChan s d o / 16, mapChan s d o % 16, granAddr (chanGran s d o)) := rfl

theorem granAddr_inj {a b : Nat} (h : granAddr a = granAddr b) : a = b := by
  unfold granAddr at h
  omega

/-- A granule lies in the 960 data bytes of its group. -/
theorem granAddr_in_data (cg : Nat) : granAddr cg % 1024 + 64 ≤ 960 ∧ granAddr cg / 1024 = cg / 15 := by
  unfold granAddr
  omega

theorem mapChans_ne_nil {s : State} {d o : Nat} (h : backed s d o = true) : 0 < (mapChans s d o).length := by
  rw [backed, decide_eq_true_eq] at h
  omega

theorem getElem?_mapChans {s : State} {d o : Nat} (h : backed s d o = true) :
    (mapChans s d o)[mapGran s o % (mapChans s d o).length]? = some (mapChan s d o) := by
  have inside := Nat.mod_lt (mapGran s o) (mapChans_ne_nil h)
  rw [List.getElem?_eq_getElem inside, mapChan, List.getElem_eq_getD 0]

theorem mapChan_mem {s : State} {d o : Nat} (h : backed s d o = true) :
    mapChan s d o ∈ halfChans s o ∧ chanRetired s d (mapChan s d o) = false := by
  have named := List.mem_of_getElem? (getElem?_mapChans h)
  rw [mapChans_eq_filter, List.mem_filter, Bool.not_eq_true'] at named
  exact named

/-- A channel has 43,945,305 granules: 2,929,687 groups of 15. -/
theorem chanGran_lt {s : State} {d o : Nat} (h : backed s d o = true) : chanGran s d o < 15 * 2929687 := by
  rw [backed, decide_eq_true_eq] at h
  refine (Nat.div_lt_iff_lt_mul (by omega)).2 ?_
  rw [mapGran]
  omega

/-- Offsets whose granules share a channel lie in one half. -/
theorem mapChan_half {s : State} {d a b : Nat} (ha : backed s d a = true) (hb : backed s d b = true)
    (same : mapChan s d a = mapChan s d b) (two : twoRealm s = true) : a < 0x2000000000 ↔ b < 0x2000000000 := by
  rw [← low_of_mem_halfChans two (mapChan_mem ha).1, ← low_of_mem_halfChans two (mapChan_mem hb).1, same]

/-- A channel and a number in it name one granule of the half. -/
theorem mapGran_inj {s : State} {d a b : Nat} (ha : backed s d a = true) (hb : backed s d b = true)
    (chan : mapChan s d a = mapChan s d b) (gran : chanGran s d a = chanGran s d b) : mapGran s a = mapGran s b := by
  have once : (mapChans s d a).Nodup := (halfChans_nodup s a).filter _
  have chans : mapChans s d b = mapChans s d a := by
    rw [mapChans_eq_filter, mapChans_eq_filter, halfChans_congr (mapChan_half ha hb chan)]
  have index : mapGran s a % (mapChans s d a).length = mapGran s b % (mapChans s d a).length := by
    have atA := getElem?_mapChans ha
    have atB := getElem?_mapChans hb
    rw [chans, ← chan] at atB
    exact (List.getElem?_inj (Nat.mod_lt _ (mapChans_ne_nil ha)) once).1 (atA.trans atB.symm)
  rw [chanGran, chanGran, chans] at gran
  rw [← Nat.div_add_mod (mapGran s a), ← Nat.div_add_mod (mapGran s b) (mapChans s d a).length, gran, index]

/-- A granule of a half, and the half, name a granule of the die. -/
theorem granule_eq_of_mapGran {s : State} {a b : Nat} (ha : a < 2 ^ 38) (hb : b < 2 ^ 38)
    (half : twoRealm s = true → (a < 0x2000000000 ↔ b < 0x2000000000)) (h : mapGran s a = mapGran s b) : a / 64 = b / 64 := by
  unfold mapGran mapOff at h
  split at h
  next two =>
    have := half two
    omega
  · exact h

/-- Settles O56: a place names a channel, the channel the half, and the half with the number in the channel the granule. -/
theorem memoryMapKeepsGranulesApart : Obligations.MemoryMapKeepsGranulesApart := by
  refine ⟨fun s d o ho whole => ?_, fun s d a b ha hb backA backB same => ?_, fun s d o stk ch raw _ back place => ?_⟩
  · rw [backed, mapChans_of_none_retired o whole, halfChans_length, mapOff, decide_eq_true_eq]
    split <;> rfl
  · simp only [rawPlace_eq, Prod.mk.injEq] at same
    obtain ⟨stk, ch, raw⟩ := same
    have chan : mapChan s d a = mapChan s d b := by omega
    exact granule_eq_of_mapGran ha hb (mapChan_half backA backB chan) (mapGran_inj backA backB chan (granAddr_inj raw))
  · rw [rawPlace_eq, Prod.mk.injEq, Prod.mk.injEq] at place
    obtain ⟨rfl, rfl, rfl⟩ := place
    obtain ⟨half, inUse⟩ := mapChan_mem back
    have small := lt_of_mem_halfChans half
    have count := chanGran_lt back
    obtain ⟨inData, group⟩ := granAddr_in_data (chanGran s d o)
    refine ⟨by omega, by omega, inData, by omega, ?_⟩
    rw [chanRetired, beq_eq_false_iff_ne] at inUse
    exact inUse

end Sys2Proof.Machine
end

section
/-! SUPPORT. Proofs of the memory family: LPDDR5X reads back what is written, patrols, and requests of other chips and dies
(R298, R300, R301, R303, R313, R314, R322). -/

namespace Sys2Proof.Machine

open Sys2Proof

/-! ### Writes of LPDDR5X (R301, R303) -/

theorem length_granule (s : State) (g : Nat) : (granule s g).length = 64 := by
  unfold granule
  simp

/-- A granule that is listed under the key of its page reads as the bytes listed. -/
theorem granule_of_listed {s : State} {g : Nat} {b : List Byte}
    (listed : tget none s.mem.lpx g = some { key := granKey s g, data := b }) :
    granule s g = (List.range 64).map fun i => b.getD i 0 := by
  unfold granule
  rw [listed]
  dsimp only
  rw [if_pos rfl]

/-- The state with other granules listed. -/
def withLpx (lpx : Tbl (Option Gran)) (ecc : Tbl Nat) (s : State) : State := s.setMem { s.mem with lpx, lpxEcc := ecc }

/-- What a granule reads as depends on its own entry alone, besides keys and pages. -/
theorem granule_withLpx {lpx : Tbl (Option Gran)} {s : State} {g : Nat} (ecc : Tbl Nat)
    (same : tget none lpx g = tget none s.mem.lpx g) : granule (withLpx lpx ecc s) g = granule s g := by
  have key : granKey (withLpx lpx ecc s) g = granKey s g := rfl
  have entry : tget none (withLpx lpx ecc s).mem.lpx g = tget none s.mem.lpx g := same
  have pages : (withLpx lpx ecc s).mem.pageGen = s.mem.pageGen := rfl
  have crypts (back : Bool) (k : MemKey) (b : List Byte) : crypt (withLpx lpx ecc s) back k g b = crypt s back k g b := rfl
  have stored : storedGran (withLpx lpx ecc s) g = storedGran s g := by
    rw [storedGran, storedGran, entry, pages]
    rfl
  simp only [granule, key, entry, stored, crypts]

/-- The granules that an access touches as a whole, after a write of `data` at `off`. -/
def lpxWhole (s : State) (off : Nat) (data : List Byte) : List Byte :=
  (granule s (off / 64)).take (off % 64) ++ data
    ++ (granule s ((off + data.length - 1) / 64)).drop ((off + data.length - 1) % 64 + 1)

/-- The entries that a write lists, one for each granule it touches. -/
def lpxEntries (s : State) (off : Nat) (data : List Byte) : List (Option Gran) :=
  ((unitsOf off data.length 64).zip (cut 64 (unitsOf off data.length 64).length (lpxWhole s off data))).map fun x =>
    some { key := granKey s x.1, data := x.2 }

theorem lpxWrite_nil (off : Nat) (s : State) : lpxWrite off [] s = s := rfl

theorem lpxWrite_eq_withLpx {off : Nat} {data : List Byte} {s : State} (some_data : 0 < data.length) :
    lpxWrite off data s = withLpx (tsetRun none s.mem.lpx (off / 64) (lpxEntries s off data))
      (lpxWrite off data s).mem.lpxEcc s := by
  unfold lpxWrite
  dsimp only
  rw [if_neg (Nat.ne_of_gt some_data)]
  rfl

theorem getElem?_cut {k n i : Nat} {b : List Byte} (h : i < n) : (cut k n b)[i]? = some ((b.drop (k * i)).take k) := by
  induction n generalizing i b with
  | zero => omega
  | succ n ih =>
    cases i with
    | zero => simp [cut]
    | succ i => rw [cut, List.getElem?_cons_succ, ih (by omega), List.drop_drop, Nat.mul_succ, Nat.add_comm]

theorem getElem?_unitsOf {off len size i : Nat} (pos : 0 < len) (h : off / size + i ≤ (off + len - 1) / size) :
    (unitsOf off len size)[i]? = some (off / size + i) := by
  have first : off / size ≤ (off + len - 1) / size := Nat.div_le_div_right (by omega)
  rw [unitsOf, if_neg (Nat.ne_of_gt pos), List.getElem?_map, List.getElem?_range (by omega)]
  rfl

theorem length_unitsOf {off len size : Nat} (pos : 0 < len) :
    (unitsOf off len size).length = (off + len - 1) / size - off / size + 1 := by
  rw [unitsOf, if_neg (Nat.ne_of_gt pos), List.length_map, List.length_range]

theorem length_lpxEntries {s : State} {off : Nat} {data : List Byte} (pos : 0 < data.length) :
    (lpxEntries s off data).length = (off + data.length - 1) / 64 - off / 64 + 1 := by
  have cuts (k n : Nat) (b : List Byte) : (cut k n b).length = n := by
    induction n generalizing b with
    | zero => rfl
    | succ n ih => rw [cut, List.length_cons, ih]
  rw [lpxEntries, List.length_map, List.length_zip, cuts, length_unitsOf pos, Nat.min_self]

theorem getElem?_lpxEntries {s : State} {off i : Nat} {data : List Byte} (pos : 0 < data.length)
    (h : off / 64 + i ≤ (off + data.length - 1) / 64) : (lpxEntries s off data)[i]? =
      some (some { key := granKey s (off / 64 + i), data := ((lpxWhole s off data).drop (64 * i)).take 64 }) := by
  have inside : i < (unitsOf off data.length 64).length := by rw [length_unitsOf pos]; omega
  have unit := getElem?_unitsOf (size := 64) pos h
  have piece := getElem?_cut (k := 64) (b := lpxWhole s off data) inside
  have pair := (List.getElem?_zip_eq_some (z := (off / 64 + i, _))).2 ⟨unit, piece⟩
  rw [lpxEntries, List.getElem?_map, pair]
  rfl

theorem getD_take_drop {b : List Byte} {k m j : Nat} (h : j < m) : ((b.drop k).take m).getD j 0 = b.getD (k + j) 0 := by
  simp [List.getD_eq_getElem?_getD, h]

section

variable {s : State} {off a : Nat} {data : List Byte}

/-- A byte of a granule that a write touches is that of the granules as a whole. -/
theorem lpxByte_lpxWrite_touched (pos : 0 < data.length) (lo : off / 64 ≤ a / 64)
    (hi : a / 64 ≤ (off + data.length - 1) / 64) :
    lpxByte (lpxWrite off data s) a = (lpxWhole s off data).getD (a - off / 64 * 64) 0 := by
  obtain ⟨i, at_⟩ : ∃ i, a / 64 = off / 64 + i := Nat.exists_eq_add_of_le lo
  have entry := getElem?_lpxEntries (s := s) (off := off) (i := i) pos (by omega)
  obtain ⟨inside, entry⟩ := List.getElem?_eq_some_iff.1 entry
  have listed : tget none (lpxWrite off data s).mem.lpx (a / 64) =
      some { key := granKey s (a / 64), data := ((lpxWhole s off data).drop (64 * i)).take 64 } := by
    rw [lpxWrite_eq_withLpx pos, at_]
    exact (tget_tsetRun_in none _ _ _ _ inside).trans entry
  have key : granKey (lpxWrite off data s) (a / 64) = granKey s (a / 64) := by
    rw [lpxWrite_eq_withLpx pos]
    rfl
  have small : a % 64 < 64 := Nat.mod_lt _ (by omega)
  rw [lpxByte, granule_of_listed (key ▸ listed), List.getD_eq_getElem?_getD, List.getElem?_map,
    List.getElem?_range small, Option.map_some, Option.getD_some, getD_take_drop small]
  congr 1
  omega

theorem lpxByte_lpxWrite_untouched (out : a / 64 < off / 64 ∨ (off + data.length - 1) / 64 < a / 64) :
    lpxByte (lpxWrite off data s) a = lpxByte s a := by
  rcases Nat.eq_zero_or_pos data.length with empty | pos
  · rw [List.eq_nil_of_length_eq_zero empty, lpxWrite_nil]
  · have len := length_lpxEntries (s := s) (off := off) pos
    rw [lpxWrite_eq_withLpx pos, lpxByte, granule_withLpx, lpxByte]
    exact tget_tsetRun_out none _ _ _ _ (by omega)

/-- The whole holds the first granule's bytes before `off`, the data, and the last granule's bytes behind them. -/
theorem getD_lpxWhole (pos : 0 < data.length) (lo : off / 64 ≤ a / 64)
    (hi : a / 64 ≤ (off + data.length - 1) / 64) :
    (lpxWhole s off data).getD (a - off / 64 * 64) 0 =
      if off ≤ a ∧ a < off + data.length then data.getD (a - off) 0 else lpxByte s a := by
  have head : ((granule s (off / 64)).take (off % 64)).length = off % 64 := by
    rw [List.length_take, length_granule]
    omega
  have front : ((granule s (off / 64)).take (off % 64) ++ data).length = off % 64 + data.length := by
    rw [List.length_append, head]
  unfold lpxWhole
  by_cases before : a < off
  · have same : a / 64 = off / 64 := by omega
    have index : a - off / 64 * 64 = a % 64 := by omega
    have inHead : a % 64 < ((granule s (off / 64)).take (off % 64)).length := by omega
    have kept := getD_take_drop (b := granule s (off / 64)) (k := 0) (head ▸ inHead)
    rw [List.drop_zero, Nat.zero_add] at kept
    rw [if_neg (by omega), index, List.append_assoc, List.getD_eq_getElem?_getD, List.getElem?_append_left inHead,
      ← List.getD_eq_getElem?_getD, kept, lpxByte, same]
  · by_cases inside : a < off + data.length
    · have index : a - off / 64 * 64 = off % 64 + (a - off) := by omega
      have inFront : off % 64 + (a - off) < ((granule s (off / 64)).take (off % 64) ++ data).length := by omega
      have behind : ((granule s (off / 64)).take (off % 64)).length ≤ off % 64 + (a - off) := by omega
      rw [if_pos (by omega), index, List.getD_eq_getElem?_getD, List.getElem?_append_left inFront,
        List.getElem?_append_right behind, head, Nat.add_sub_cancel_left, ← List.getD_eq_getElem?_getD]
    · have same : a / 64 = (off + data.length - 1) / 64 := by omega
      have behind : ((granule s (off / 64)).take (off % 64) ++ data).length ≤ a - off / 64 * 64 := by omega
      have index : (off + data.length - 1) % 64 + 1 + (a - off / 64 * 64 - (off % 64 + data.length)) = a % 64 := by omega
      rw [if_neg (by omega), List.getD_eq_getElem?_getD, List.getElem?_append_right behind, front, List.getElem?_drop, index,
        ← List.getD_eq_getElem?_getD, lpxByte, same]

/-- LPDDR5X reads back what was written, and every other byte reads as before (R303). -/
theorem lpxByte_lpxWrite : lpxByte (lpxWrite off data s) a =
    if off ≤ a ∧ a < off + data.length then data.getD (a - off) 0 else lpxByte s a := by
  by_cases touched : 0 < data.length ∧ off / 64 ≤ a / 64 ∧ a / 64 ≤ (off + data.length - 1) / 64
  · obtain ⟨pos, lo, hi⟩ := touched
    rw [lpxByte_lpxWrite_touched pos lo hi, getD_lpxWhole pos lo hi]
  · rcases Nat.eq_zero_or_pos data.length with empty | pos
    · rw [if_neg (by omega), List.eq_nil_of_length_eq_zero empty, lpxWrite_nil]
    · rw [if_neg (by omega), lpxByte_lpxWrite_untouched (by omega)]

end

theorem lpxWrite_frame (off : Nat) (data : List Byte) (s : State) : lpxWrite off data s =
    { s with mem := { s.mem with lpx := (lpxWrite off data s).mem.lpx, lpxEcc := (lpxWrite off data s).mem.lpxEcc } } := by
  unfold lpxWrite
  dsimp only
  split <;> rfl

/-! ### Patrols and channels (R298, R300) -/

theorem execLpxScrubSchedule_of_on {s : State} {d : Nat} (present : d < dies s) (on : domOn s (8 * d + 7) = true)
    (runs : cpRuns s = true) : execLpxScrubSchedule d s = .next (askLock 1 (resDie d) s) := by
  rw [execLpxScrubSchedule, on, runs, decide_eq_false (Nat.not_le.2 present)]
  rfl

/-- A corrected granule is rewritten. -/
theorem patrolGranule_of_correctable {s : State} {g : Nat} (bad : granuleEcc (tget 0 s.mem.lpxEcc g) = .correctable) :
    tget 0 (patrolGranule s g).mem.lpxEcc g = 0 := by
  rw [patrolGranule, if_pos bad]
  exact tget_tdrop_same ..

/-- The stacks that a patrol scrubs, as a list or one by one. -/
theorem contains_scrubbed (s : State) (d m : Nat) :
    ((List.range 5).filter fun k => (stack s (5 * d + k)).scrub).contains m =
      (List.range 5).any fun k => (stack s (5 * d + k)).scrub && k == m := by
  rw [Bool.eq_iff_iff]
  simp only [List.contains_iff_mem, List.mem_filter, List.any_eq_true, Bool.and_eq_true, beq_iff_eq]
  constructor
  · exact fun ⟨inside, scrub⟩ => ⟨m, inside, scrub, rfl⟩
  · rintro ⟨k, inside, scrub, rfl⟩
    exact ⟨inside, scrub⟩

theorem execPatrolDone_of_scrub {s : State} {d i : Nat} (inside : i < 5) (scrub : (stack s (5 * d + i)).scrub = true)
    (runs : cpRuns s = true) :
    execPatrolDone d [] s = .next (
      let s2 := ((badGranules s d).filter fun g =>
        (List.range 5).any fun k => (stack s (5 * d + k)).scrub && k == (rawPlace s d (64 * g % 0x4000000000)).1 % 5).foldl
          patrolGranule s
      let s3 := setScrub (resDie d) false s2
      (heldLocks s3).foldl (fun t e =>
        if e.2.cls = 1 ∧ e.2.host = false ∧ e.2.res = resDie d then lockDrop e.1 t else t) s3) := by
  have named : i ∈ (List.range 5).filter fun k => (stack s (5 * d + k)).scrub :=
    List.mem_filter.2 ⟨List.mem_range.2 inside, scrub⟩
  have some_on : ((List.range 5).filter fun k => (stack s (5 * d + k)).scrub).isEmpty = false :=
    List.isEmpty_eq_false_iff_exists_mem.2 ⟨i, named⟩
  unfold execPatrolDone
  simp only [some_on, runs, applyErrs_nil, contains_scrubbed, Bool.and_eq_true, beq_iff_eq, Bool.not_eq_true', and_assoc,
    Bool.not_true, Bool.or_self, Bool.false_eq_true, if_false]

theorem execWckTrackingLost_of_on {s : State} {n q : Nat} (on : domOn s (8 * (n / 5) + 7) = true) :
    execWckTrackingLost n q s = .next (chanFailing n q 2 s) := by
  rw [execWckTrackingLost, on]
  rfl

/-- The rule of a channel that fails: a present one fails, an armed one stays armed and is noted once. -/
theorem chanFailing_eq (n q cause : Nat) (s : State) : chanFailing n q cause s =
    if tget .present (stack s n).chans q = .present
    then logMod 0x2006 (resChan n q) [dw cause] (setStack s n { stack s n with
      chans := tset .present (stack s n).chans q .failing })
    else if tget .present (stack s n).chans q = .armed ∧ q ∉ (stack s n).alsoFailing
    then logMod 0x2006 (resChan n q) [dw cause] (setStack s n { stack s n with alsoFailing := q :: (stack s n).alsoFailing })
    else s := by
  unfold chanFailing
  extract_lets x log
  cases state : tget .present x.chans q
  case armed => by_cases noted : q ∈ x.alsoFailing <;> simp [x, log, noted]
  all_goals simp [x, log]

/-! ### Requests at their target (R313, R322) -/

section

variable {s : State} {src : Src} {realm off len k : Nat} {data : List Byte}

theorem targetWrite_of_refused (refused : refusal src realm true (behind s src realm off data.length) s = some k) :
    targetWrite src realm off data s = (.nack k, s) := by
  rw [targetWrite, refused]

theorem targetRead_of_refused (memory : ∀ o, placeOf s off ≠ .window o)
    (refused : refusal src realm false (behind s src realm off len) s = some k) :
    targetRead src realm off len s = (.nack k, s) := by
  unfold targetRead
  split
  case _ o window => exact absurd window (memory o)
  case _ => simp only [refused]

/-- A range that lies behind itself is refused by its own checks. -/
theorem refusal_single (write : Bool) : refusal src realm write [(off, len)] s = checkRange realm src write off len s :=
  List.findSome?_singleton

theorem targetWrite_of_single (single : behind s src realm off data.length = [(off, data.length)])
    (passes : checkRange realm src true off data.length s = none) :
    targetWrite src realm off data s = (.ack, memWrite realm off data s) := by
  rw [targetWrite, single, refusal_single, passes]
  simp only [List.foldl_cons, List.foldl_nil, List.take_length]

theorem targetRead_of_single {b : List Byte} {poison : Bool} {t : State} (memory : ∀ o, placeOf s off ≠ .window o)
    (single : behind s src realm off len = [(off, len)]) (passes : checkRange realm src false off len s = none)
    (read : memRead realm off len s = (b, poison, t)) : targetRead src realm off len s = (.data b poison, t) := by
  unfold targetRead
  split
  case _ o window => exact absurd window (memory o)
  case _ => simp only [single, refusal_single, passes, List.foldl_cons, List.foldl_nil, read, List.nil_append, Bool.false_or]

end

/-- What serves a request before it is logged. -/
def atTarget (src : Src) (realm off : Nat) (write : Bool) (len : Nat) (data : List Byte) (s : State) : Answer × State :=
  if write = true then targetWrite src realm off data s else targetRead src realm off len s

section

variable {s t : State} {src : Src} {chip realm off len k : Nat} {write : Bool} {data : List Byte}

theorem serve_of_nack (answer : atTarget src realm off write len data s = (.nack k, t)) :
    serve src chip realm off write len data s = (.nack k, remoteDenied chip off k t) := by
  rw [atTarget] at answer
  rw [serve, answer]

theorem serve_of_ack (answer : atTarget src realm off write len data s = (.ack, t)) :
    serve src chip realm off write len data s = (.ack, t) := by
  rw [atTarget] at answer
  rw [serve, answer]

theorem serve_of_data {b : List Byte} {poison : Bool}
    (answer : atTarget src realm off write len data s = (.data b poison, t)) :
    serve src chip realm off write len data s = (.data b poison, t) := by
  rw [atTarget] at answer
  rw [serve, answer]

theorem atTarget_of_refused (memory : ∀ o, placeOf s off ≠ .window o)
    (refused : refusal src realm write (behind s src realm off (if write = true then data.length else len)) s = some k) :
    atTarget src realm off write len data s = (.nack k, s) := by
  cases write with
  | true => exact targetWrite_of_refused refused
  | false => exact targetRead_of_refused memory refused

/-- A refusal is logged, and that is all it does. -/
theorem remoteDenied_frame (chip off check : Nat) (s : State) :
    remoteDenied chip off check s = { s with mgt := (remoteDenied chip off check s).mgt } := rfl

theorem execRemoteRequest_of_other {sl : Nat} {a : Answer} (grants : dfbGrants s off = true) (other : isOwn s chip = false)
    (served : serve (.remote chip) chip realm off write len data s = (a, t)) :
    execRemoteRequest chip sl realm write off len data [] s = .next (emit (.packet (answerPacket s chip 0 a)) t) := by
  unfold execRemoteRequest
  simp only [grants, other, applyErrs_nil, served, Bool.not_true, Bool.false_eq_true, Bool.false_and, if_false]

/-- A write of this chip's own that the persist fence refuses aborts the step of its slot. -/
theorem execRemoteRequest_of_own_fence {sl : Nat} (grants : dfbGrants s off = true) (own : isOwn s chip = true)
    (served : serve (.agent sl (((jobAt s sl).map fun j => j.sol == .run).getD false)) chip realm off write len data s
      = (.nack 5, t)) :
    execRemoteRequest chip sl realm write off len data [] s
      = .next (emit (.packet (answerPacket s chip 0 (.nack 5))) (abortStep sl t)) := by
  unfold execRemoteRequest
  simp only [grants, own, applyErrs_nil, served, Bool.not_true, Bool.false_eq_true, Bool.true_and, if_false, if_true,
    beq_self_eq_true]

end

/-- Settles O36: memory reads back by the entries of its granules, and a request is answered by what its target answers.
That lost tracking is cause 2 of CHANNEL_FAILING is the model's choice (log entry 94). -/
theorem memoryIsScrubbedAndServed : Obligations.MemoryIsScrubbedAndServed := by
  refine ⟨fun s t off data e => ⟨fun i hi => ?inside, fun a out => ?outside, ?frame⟩,
    fun s d present on runs => execLpxScrubSchedule_of_on present on runs,
    fun s d i inside scrub runs => execPatrolDone_of_scrub inside scrub runs,
    fun s g bad => patrolGranule_of_correctable bad,
    fun s n q on => (execWckTrackingLost_of_on on).trans (congrArg _ (chanFailing_eq n q 2 s)),
    fun s chip sl realm off len k wr data grants other memory refused => ⟨remoteDenied chip off k s,
      execRemoteRequest_of_other grants other (serve_of_nack (atTarget_of_refused memory refused)), rfl,
      remoteDenied_frame ..⟩,
    fun s chip sl realm off len data grants other single passes =>
      execRemoteRequest_of_other grants other (serve_of_ack (targetWrite_of_single single passes)),
    fun s t chip sl realm off len data b poison grants other memory single passes read =>
      execRemoteRequest_of_other grants other (serve_of_data (targetRead_of_single memory single passes read)),
    fun s chip sl realm off len data grants own refused =>
      execRemoteRequest_of_own_fence grants own (serve_of_nack (targetWrite_of_refused ?fence))⟩
  case inside =>
    subst e
    rw [lpxByte_lpxWrite, if_pos (by omega), Nat.add_sub_cancel_left]
  case outside =>
    subst e
    rw [lpxByte_lpxWrite, if_neg (by omega)]
  case frame =>
    subst e
    exact lpxWrite_frame ..
  case fence =>
    exact (refusal_single true).trans refused

end Sys2Proof.Machine
end

section
/-! SUPPORT. Proofs of the memory family: packets at their target, answers, transit and transaction timeouts (R313, R314, R425,
R427, R428, R432, R460, R461). -/

namespace Sys2Proof.Machine

open Sys2Proof

/-! ### The packet at the head of a link (R425, R460) -/

section

variable {s : State} {l kind : Nat} {q : RxPkt}

theorem packetRow_of_pktAt (at_ : PktAt kind l q s) (act : RxPkt → State → State) :
    packetRow l kind act s = .next (act q s) := by
  obtain ⟨first, same, own, opened⟩ := at_
  rw [packetRow, first]
  simp [same, own, opened]

theorem packetRow_of_unopened (first : inFirst s l = some q) (same : q.pkt.kind = kind) (own : isOwn s q.pkt.dst = true)
    (sealed : q.opened = false) (act : RxPkt → State → State) :
    packetRow l kind act s = .next (refuse q (realmCheck q.pkt) (inPop q s)) := by
  rw [packetRow, first]
  simp [same, own, sealed]

theorem answerRow_of_opened (first : inFirst s l = some q) (same : q.pkt.kind = kind) (own : isOwn s q.pkt.dst = true)
    (opened : q.opened = true) (act : RxPkt → State → State) :
    answerRow l kind act s = .next (act q (inPop q s)) := by
  rw [answerRow, first]
  simp [same, own, opened]

/-- The refusal of a packet that asks for an answer: under its own realm when its frame was opened, else under the operator's. -/
theorem refuse_of_request (check : Nat) (request : isRequest q.pkt = true) :
    refuse q check s = sendAnswer (answerPacket (remoteDenied q.pkt.src q.pkt.offset check s) q.pkt.src q.pkt.tag (.nack check))
      (if q.opened = true then q.realm else 0) (remoteDenied q.pkt.src q.pkt.offset check s) := by
  rw [refuse, if_pos request]

theorem refuse_of_no_request (check : Nat) (silent : isRequest q.pkt = false) :
    refuse q check s = remoteDenied q.pkt.src q.pkt.offset check s := by
  rw [refuse, silent]
  rfl

end

/-! ### Requests (R313, R314, R425) -/

section

variable {s u : State} {l : Nat} {q : RxPkt} {k : Nat}

theorem execWrite_of_ack (at_ : PktAt 1 l q s) (grants : dfbGrants s q.pkt.offset = true)
    (answer : targetWrite (packetSrc s q) q.realm q.pkt.offset q.pkt.payload (inPop q s) = (.ack, u)) {t : State}
    (landed : t = landWrite 1 q.realm q.pkt.offset q.pkt.payload.length q.stamp
      (landWrite 0 q.realm q.pkt.offset q.pkt.payload.length q.stamp u)) :
    execWrite l s = .next (sendAnswer (answerPacket t q.pkt.src q.pkt.tag .ack) q.realm t) := by
  rw [execWrite, packetRow_of_pktAt at_]
  simp only [grants, serve_of_ack (write := true) answer, Bool.not_true, Bool.false_eq_true, if_false, beq_self_eq_true, if_true,
    landed]

theorem execWrite_of_nack (at_ : PktAt 1 l q s) (grants : dfbGrants s q.pkt.offset = true)
    (answer : targetWrite (packetSrc s q) q.realm q.pkt.offset q.pkt.payload (inPop q s) = (.nack k, u)) {t : State}
    (denied : t = remoteDenied q.pkt.src q.pkt.offset k u) :
    execWrite l s = .next (sendAnswer (answerPacket t q.pkt.src q.pkt.tag (.nack k)) q.realm t) := by
  have notAck : (Answer.nack k == Answer.ack) = false := by simp
  rw [execWrite, packetRow_of_pktAt at_]
  simp only [grants, serve_of_nack (write := true) answer, notAck, Bool.not_true, Bool.false_eq_true, if_false, denied]

theorem execRead_of_serve {errs : List (Nat × Nat)} {a : Answer} (at_ : PktAt 3 l q s)
    (grants : dfbGrants s q.pkt.offset = true)
    (served : serve (packetSrc s q) q.pkt.src q.realm q.pkt.offset false q.pkt.len [] (applyErrs errs (inPop q s)) = (a, u)) :
    execRead l errs s = .next (sendAnswer (answerPacket u q.pkt.src q.pkt.tag a) q.realm u) := by
  rw [execRead, packetRow_of_pktAt at_]
  simp only [grants, served, Bool.not_true, Bool.false_eq_true, if_false]

/-- A WRITE whose frame was not opened is refused under the operator realm. -/
theorem execWrite_of_unopened (first : inFirst s l = some q) (kind : q.pkt.kind = 1) (own : isOwn s q.pkt.dst = true)
    (sealed : q.opened = false) {t : State} (denied : t = remoteDenied q.pkt.src q.pkt.offset (realmCheck q.pkt) (inPop q s)) :
    execWrite l s = .next (sendAnswer (answerPacket t q.pkt.src q.pkt.tag (.nack (realmCheck q.pkt))) 0 t) := by
  rw [execWrite, packetRow_of_unopened first kind own sealed, refuse_of_request _ (by simp [isRequest, kind]), sealed, denied]
  rfl

end

/-! ### Answers (R428) -/

section

variable {s : State} {l : Nat} {q : RxPkt}

theorem execWriteAck_of_no_col {x : Txn} (first : inFirst s l = some q) (kind : q.pkt.kind = 2) (own : isOwn s q.pkt.dst = true)
    (opened : q.opened = true) (asked : txnOf (inPop q s) q.pkt.tag = some x) (noCol : ∀ d sl op m, x.who ≠ .col d sl op m) :
    execWriteAck l s = .next (txnEnd x (inPop q s)) := by
  rw [execWriteAck, answerRow_of_opened first kind own opened]
  simp only [asked]
  cases who : x.who with
  | dma => rfl
  | pull => rfl
  | col d sl op m => exact absurd who (noCol d sl op m)

theorem execWriteAck_of_unasked (first : inFirst s l = some q) (kind : q.pkt.kind = 2) (own : isOwn s q.pkt.dst = true)
    (opened : q.opened = true) (unasked : txnOf (inPop q s) q.pkt.tag = none) :
    execWriteAck l s = .next (inPop q s) := by
  rw [execWriteAck, answerRow_of_opened first kind own opened, unasked]

theorem execReadData_of_dma {errs : List (Nat × Nat)} {x : Txn} {d c sl qn : Nat} (first : inFirst s l = some q)
    (kind : q.pkt.kind = 4) (own : isOwn s q.pkt.dst = true) (opened : q.opened = true)
    (asked : txnOf (inPop q s) q.pkt.tag = some x) (who : x.who = .dma d c sl qn) :
    execReadData l errs s = .next (dmaData d c sl qn (x.into.getD 0) q.pkt.payload (q.pkt.aux % 2 == 1)
      (applyErrs errs (txnEnd x (inPop q s)))) := by
  rw [execReadData, answerRow_of_opened first kind own opened]
  simp only [asked, who]

theorem execReadData_of_pull {errs : List (Nat × Nat)} {x : Txn} {p r no : Nat} (first : inFirst s l = some q)
    (kind : q.pkt.kind = 4) (own : isOwn s q.pkt.dst = true) (opened : q.opened = true)
    (asked : txnOf (inPop q s) q.pkt.tag = some x) (who : x.who = .pull p r no) :
    execReadData l errs s = .next (pullData p r no (x.into.getD 0) q.pkt.payload (q.pkt.aux % 2 == 1)
      (applyErrs errs (txnEnd x (inPop q s)))) := by
  rw [execReadData, answerRow_of_opened first kind own opened]
  simp only [asked, who]

theorem execNack_of_asked {x : Txn} (first : inFirst s l = some q) (kind : q.pkt.kind = 7) (own : isOwn s q.pkt.dst = true)
    (opened : q.opened = true) (asked : txnOf (inPop q s) q.pkt.tag = some x) :
    execNack l s = .next (txnFault x (inPop q s)) := by
  rw [execNack, answerRow_of_opened first kind own opened]
  simp only [asked]

theorem execNack_of_unasked (first : inFirst s l = some q) (kind : q.pkt.kind = 7) (own : isOwn s q.pkt.dst = true)
    (opened : q.opened = true) (unasked : txnOf (inPop q s) q.pkt.tag = none) : execNack l s = .next (inPop q s) := by
  rw [execNack, answerRow_of_opened first kind own opened, unasked]

variable {x : Txn} {d c sl qn : Nat}

/-- The fault of a transaction that a running transfer waits for is a REMOTE fault of it. -/
theorem txnFault_of_running_dma (who : x.who = .dma d c sl qn) (runs : (dmaHead (txnEnd x s) d c sl qn).isSome = true) :
    txnFault x s = dmaFault d c sl qn 4 (txnEnd x s) := by
  rw [txnFault, who]
  exact if_pos runs

theorem txnFault_of_no_dma (who : x.who = .dma d c sl qn) (ended : dmaHead (txnEnd x s) d c sl qn = none) :
    txnFault x s = txnEnd x s := by
  rw [txnFault, who]
  exact if_neg (by simp [ended])

theorem txnFault_of_pull {p r no : Nat} {y : Pull} (who : x.who = .pull p r no) (waits : pullOf s p r no = some y) :
    txnFault x s = pullFail y stTimeout (txnEnd x s) := by
  have waits' : pullOf (txnEnd x s) p r no = some y := waits
  rw [txnFault, who]
  simp only [waits']

end

/-! ### Signals and transit (R427, R432, R461) -/

section

variable {s u : State} {l : Nat} {q : RxPkt}

/-- The signal that a SIGNAL packet carries (R432). -/
def packetSig (q : RxPkt) : Sig :=
  let w := q.pkt.aux2.toNat % 2 ^ 32
  { slot := q.pkt.slot, die := if w.testBit 31 = true then w / 2 ^ 28 % 8 else q.pkt.die, entry := w % 2048,
    amount := w / 2 ^ 24 % 16 + 1, step := q.pkt.step, fill := false, src := (3, 0, 0) }

theorem slotForeign_iff : slotForeign s q = true ↔ bindOf s q.pkt.slot ≠ some q.realm := bne_iff_ne

theorem execSignal_of_foreign (at_ : PktAt 5 l q s) (foreign : bindOf s q.pkt.slot ≠ some q.realm) :
    execSignal l s = .next (remoteDenied q.pkt.src q.pkt.offset 4 (inPop q s)) := by
  obtain ⟨-, kind, -, -⟩ := id at_
  rw [execSignal, packetRow_of_pktAt at_]
  simp only [slotForeign_iff.2 foreign, if_true, refuse_of_no_request (q := q) 4 (by simp [isRequest, kind])]

/-- A signal of the slot's own realm is taken, or stays at the head of its link. -/
theorem execSignal_of_own (at_ : PktAt 5 l q s) (own : bindOf s q.pkt.slot = some q.realm) :
    execSignal l s = .next (match sigTake (packetSig q) s with | none => s | some u => inPop q u) := by
  have notForeign : slotForeign s q = false := by rw [slotForeign, own, bne_self_eq_false]
  rw [execSignal, packetRow_of_pktAt at_]
  simp only [notForeign, Bool.false_eq_true, if_false]
  rfl

theorem execPacketForward_of_last_hop (first : inFirst s l = some q) (other : isOwn s q.pkt.dst = false)
    (opened : q.opened = true) (last : q.pkt.hops ≤ 1) :
    execPacketForward l s = .next (routeDrop q 0x11 (inPop q s)) := by
  have none_left : q.pkt.hops - 1 = 0 := by omega
  rw [execPacketForward, first]
  simp [other, opened, none_left]

theorem execPacketForward_of_sent {port : Option Nat} (first : inFirst s l = some q) (other : isOwn s q.pkt.dst = false)
    (opened : q.opened = true) (hops : 2 ≤ q.pkt.hops)
    (sent : sendPacket { q.pkt with hops := q.pkt.hops - 1 } q.realm q.red q.nf (inPop q s) = some (port, u)) :
    execPacketForward l s = .next (dfbCount (linkDie s l) 0 u) := by
  have some_left : q.pkt.hops - 1 ≠ 0 := by omega
  rw [execPacketForward, first]
  simp [other, opened, some_left, sent]

theorem execPacketForward_of_unreachable (first : inFirst s l = some q) (other : isOwn s q.pkt.dst = false)
    (opened : q.opened = true) (hops : 2 ≤ q.pkt.hops)
    (unsent : sendPacket { q.pkt with hops := q.pkt.hops - 1 } q.realm q.red q.nf (inPop q s) = none) :
    execPacketForward l s = .next (routeDrop q 0x10 (inPop q s)) := by
  have some_left : q.pkt.hops - 1 ≠ 0 := by omega
  rw [execPacketForward, first]
  simp [other, opened, some_left, unsent]

end

/-! ### Timeouts (R428) -/

theorem retime_touch_rtb (s : State) : Touch 0x110000000 s (retime s) := by
  unfold retime
  have source := (setRtb_touch s { s.rtb with
    tsrc := BitVec.ofNat 2 (timeSource s)
    slewCorr := if timeSource s = 3 then 0 else if timeSource s = 0 then -s.rtb.corr.toInt else s.rtb.slewCorr }).mono
      (n := 0x110000000) rfl
  refine Touch.ite (source.trans ?_) source
  exact ((setRtb_touch _ _).mono (n := 0x110000000) rfl).trans ((logMod_touch_mgt ..).mono rfl)

/-- What a time port held of link `l` is void. -/
def timeVoid (l : Nat) (t : State) (i : Nat) : State :=
  if timePortNo t i = some l ∧ l < 32 then setTimePort t i { timePort t i with kept := [], first := none, usable := false }
  else t

theorem timeVoid_touch (l : Nat) (t : State) (i : Nat) : Touch 0x10000000 t (timeVoid l t i) :=
  Touch.ite (setTimePort_touch ..) (Touch.refl _ _)

/-- The fabric without what it knows of its ports. -/
def portsForgotten (l : Nat) (s : State) : State :=
  if l < 32 then s.setFab { s.fab with ports := tmod {} s.fab.ports l fun x =>
    { x with heard := false, judged := none, trained := false, opened := false } } else s

theorem portsForgotten_touch (l : Nat) (s : State) : Touch 0x20000000 s (portsForgotten l s) :=
  Touch.ite (Touch.setFab rfl (Touch.refl _ _)) (Touch.refl _ _)

theorem portsForgotten_txns (l : Nat) (s : State) : (portsForgotten l s).fab.txns = s.fab.txns := by
  unfold portsForgotten
  split <;> rfl

theorem portForget_eq (l : Nat) (s : State) :
    portForget l s = retime (portsForgotten l (timeVoid l (timeVoid l s 0) 1)) := rfl

theorem portForget_touch_rtb (l : Nat) (s : State) : Touch 0x130000000 s (portForget l s) := by
  rw [portForget_eq]
  exact (retime_touch_rtb _).via rfl ((portsForgotten_touch _ _).via rfl
    ((timeVoid_touch ..).via rfl ((timeVoid_touch ..).mono rfl)))

theorem portForget_txns (l : Nat) (s : State) : (portForget l s).fab.txns = s.fab.txns := by
  rw [portForget_eq, (retime_touch_rtb _).fab rfl, portsForgotten_txns, (timeVoid_touch ..).fab rfl, (timeVoid_touch ..).fab rfl]

/-- A port that goes down touches its link, Rack Time, the fabric and the log alone. -/
theorem portDown_touch_rtb (l cause : Nat) (s : State) : Touch 0x138000000 s (portDown l cause s) :=
  Touch.ite ((portForget_touch_rtb _ _).via rfl ((logMod_touch_mgt ..).via rfl (Touch.setLinks rfl (Touch.refl _ _))))
    (Touch.refl _ _)

theorem portDown_txns (l cause : Nat) (s : State) : (portDown l cause s).fab.txns = s.fab.txns := by
  unfold portDown
  extract_lets x s1
  split
  · rw [portForget_txns, (logMod_touch_mgt ..).fab rfl, State.setLinks_fab]
  · rfl

@[simp] theorem lnk_setLnk_same (s : State) (l : Nat) (x : Link) : lnk (setLnk s l x) l = x := tget_tset_same ..

/-- A link whose port a transaction's timeout has taken down: nothing is unacknowledged, its numbers begin anew, and it holds no
frame of the transaction. -/
def timedOut (tag : W32) (l : Nat) (s : State) : State :=
  let t := portDown l 4 s
  setLnk t l { lnk t l with
    unacked := [], txSeq := 0, rxSeq := 0, rxAny := false, discarding := false, replay := false
    held := (lnk t l).held.filter fun f => !f.packets.any fun p => p.tag == tag && isRequest p && p.src == ownChip t }

theorem timedOut_touch (tag : W32) (l : Nat) (s : State) : Touch 0x138000000 s (timedOut tag l s) :=
  (setLnk_touch ..).via rfl (portDown_touch_rtb ..)

theorem timedOut_txns (tag : W32) (l : Nat) (s : State) : (timedOut tag l s).fab.txns = s.fab.txns :=
  portDown_txns ..

section

variable {s : State} {tag : W32} {x : Txn}

theorem execRemoteTransactionTimeout_of_no_port (found : txnOf s tag = some x) (inside : x.port = none) :
    execRemoteTransactionTimeout tag s = .next (txnFault x s) := by
  rw [execRemoteTransactionTimeout, found]
  simp only [inside]

theorem execRemoteTransactionTimeout_of_carried {l : Nat} (found : txnOf s tag = some x) (out : x.port = some l)
    (carried : carries s l x = true) : execRemoteTransactionTimeout tag s = .next (txnFault x (timedOut tag l s)) := by
  rw [execRemoteTransactionTimeout, found]
  simp only [out, carried, if_true]
  rfl

/-- A transaction that nothing waits for any more only ends. -/
theorem txnFault_of_forgotten (noCol : ∀ op sl d m, x.who ≠ .col d sl op m) (noPull : ∀ p r no, x.who ≠ .pull p r no)
    (noDma : ∀ d c sl qn, x.who = .dma d c sl qn → dmaHead s d c sl qn = none) : txnFault x s = txnEnd x s := by
  cases who : x.who with
  | dma d c sl qn => exact txnFault_of_no_dma who (noDma d c sl qn who)
  | col d sl op m => exact absurd who (noCol op sl d m)
  | pull p r no => exact absurd who (noPull p r no)

theorem dmaHead_of_cmp_eq {s t : State} (same : t.cmp = s.cmp) (d c sl qn : Nat) : dmaHead t d c sl qn = dmaHead s d c sl qn := by
  rw [dmaHead, dmaHead, dma, dma, same]

end

/-- Settles O43: a packet is served by what its target answers, and an answer by what waits for its transaction. That the
NACK of an unopened frame travels under the operator realm and that sequence numbers begin anew is the model's choice (log
entry 27), and so is the TIMEOUT of a pull that is refused (log entry 61). -/
theorem packetsAreServedAnsweredAndForwarded : Obligations.PacketsAreServedAnsweredAndForwarded := by
  refine ⟨fun s u l q at_ grants =>
      ⟨fun answer => ⟨_, execWrite_of_ack at_ grants answer rfl, rfl⟩,
        fun k answer => ⟨_, execWrite_of_nack at_ grants answer rfl, rfl⟩⟩,
    fun s u l q errs at_ grants =>
      ⟨fun b p answer => execRead_of_serve at_ grants (serve_of_data (write := false) answer),
        fun k answer => ⟨_, execRead_of_serve at_ grants (serve_of_nack (write := false) answer), rfl⟩⟩,
    fun s l q first kind own sealed => ⟨_, execWrite_of_unopened first kind own sealed rfl, rfl⟩,
    fun s l d c sl qn q x opened first own asked who =>
      ⟨fun kind => execWriteAck_of_no_col first kind own opened asked (by simp [who]),
        fun errs kind => execReadData_of_dma first kind own opened asked who,
        fun kind runs => (execNack_of_asked first kind own opened asked).trans
          (congrArg _ (txnFault_of_running_dma who runs)),
        fun kind ended => (execNack_of_asked first kind own opened asked).trans
          (congrArg _ (txnFault_of_no_dma who ended))⟩,
    fun s l p r no q x opened first own asked who =>
      ⟨fun kind => execWriteAck_of_no_col first kind own opened asked (by simp [who]),
        fun errs kind => execReadData_of_pull first kind own opened asked who,
        fun y kind waits => (execNack_of_asked first kind own opened asked).trans
          (congrArg _ (txnFault_of_pull who waits))⟩,
    fun s l q first own unasked opened => ⟨fun kind => execWriteAck_of_unasked first kind own opened unasked,
      fun kind => execNack_of_unasked first kind own opened unasked⟩,
    fun s u l q g w at_ word sig => ?signal,
    fun s u l q port first other opened =>
      ⟨fun hops sent => execPacketForward_of_sent first other opened hops sent,
        fun hops unsent => execPacketForward_of_unreachable first other opened hops unsent,
        fun last => execPacketForward_of_last_hop first other opened last⟩,
    fun s tag x found inside => execRemoteTransactionTimeout_of_no_port found inside,
    fun s tag x l found out carried noCol noPull noDma => ?timeout⟩
  case signal =>
    have same : packetSig q = g := by
      subst word
      exact sig.symm
    exact ⟨fun own taken => (execSignal_of_own at_ own).trans (by rw [same, taken]),
      fun own stays => (execSignal_of_own at_ own).trans (by rw [same, stays]),
      fun foreign => execSignal_of_foreign at_ foreign⟩
  case timeout =>
    have frame := timedOut_touch tag l s
    have ends : txnFault x (timedOut tag l s) = txnEnd x (timedOut tag l s) :=
      txnFault_of_forgotten noCol noPull fun d c sl qn who =>
        (dmaHead_of_cmp_eq (frame.cmp rfl) d c sl qn).trans (noDma d c sl qn who)
    have link : lnk (txnEnd x (timedOut tag l s)) l = lnk (timedOut tag l s) l := rfl
    refine ⟨txnEnd x (timedOut tag l s), ?_, ?_⟩
    · exact (execRemoteTransactionTimeout_of_carried found out carried).trans (congrArg _ ends)
    · rw [link, timedOut, lnk_setLnk_same]
      exact ⟨rfl, rfl, rfl, rfl, congrArg (·.erase x) (timedOut_txns tag l s)⟩

end Sys2Proof.Machine
end

section
/-! SUPPORT. Proofs of the memory family: the sweep of a realm's keys, the attestation report and the certificate chain (R304,
R446, R451, R453, R462, R481). -/

namespace Sys2Proof.Machine

open Sys2Proof

/-! ### Realms -/

theorem realmOf_setRealm_same (s : State) {r : Nat} (x : Realm) : realmOf (setRealm s r x) r = x := by
  unfold realmOf setRealm
  by_cases first : r = 1 <;> simp [first]

theorem realmOf_of_sec_eq {s t : State} (same : t.sec = s.sec) (r : Nat) : realmOf t r = realmOf s r := by
  rw [realmOf, realmOf, same]

/-- What an event of a realm makes of the management part depends on that part and on Rack Time alone: it names no job. -/
theorem logFold_mgt_congr (fold code : Nat) (realm : Byte) (unit : W64) (data : List W64) {s t : State} (mgt : s.mgt = t.mgt)
    (rtb : s.rtb = t.rtb) :
    (logFold fold code realm 0xFFFF unit data s).mgt = (logFold fold code realm 0xFFFF unit data t).mgt := by
  have now : rtNow s = rtNow t := by rw [rtNow, rtNow, rtb]
  simp only [logFold, logEv, now, mgt, if_true, State.setMgt_mgt]

/-! ### The sweep (R304, R453) -/

theorem execKeySweepStart_of_due {s : State} {r : Nat} (tenant : r = 1 ∨ r = 2) (keyed : (realmOf s r).st = .keyed)
    (two : (realmOf s r).two = true) (moved : (realmOf s r).linkNew = true) (rests : (realmOf s r).sweeping = false)
    (serves : blkOn s baseSEC = true) (due : (realmOf s r).linkAt.toNat + 2500000 ≤ (rtNow s).toNat) :
    execKeySweepStart r s = .next (setRealm s r { realmOf s r with sweeping := true }) := by
  have named : (r == 1 || r == 2) = true := by simpa using tenant
  have notEarly : decide ((rtNow s).toNat < (realmOf s r).linkAt.toNat + 2500000) = false := decide_eq_false (by omega)
  have state : ((realmOf s r).st != .keyed) = false := by rw [keyed]; rfl
  unfold execKeySweepStart
  simp only [named, state, two, moved, rests, serves, notEarly]
  rfl

/-- A page that is moved is under its owner's newest epoch from then on; every other page is as before. -/
theorem pageAttr_movePage (pg p : Nat) (s : State) : pageAttr (movePage pg s) p =
    if p = pg then (pageAttr s pg).map fun a => (a.1, (realmOf s a.1).epoch) else pageAttr s p := by
  unfold movePage sweepTo
  split
  case _ unassigned =>
    by_cases same : p = pg
    · rw [if_pos same, same, unassigned]
      rfl
    · rw [if_neg same]
  case _ o e assigned =>
    simp only [pageAttr, State.setMem_mem, if_true]
    by_cases same : p = pg
    · rw [if_pos same, same, tget_tset_same, ← pageAttr, assigned]
      rfl
    · rw [if_neg same, tget_tset_ne _ _ _ _ _ same]

/-- Moving pages takes one of realm `r` to its newest epoch, and leaves there one that is at it. -/
theorem pageAttr_foldl_movePage {pages : List Nat} {s : State} {r pg : Nat} {e : Nat}
    (owned : pageAttr s pg = some (r, e)) (due : pg ∈ pages ∨ e = (realmOf s r).epoch) :
    pageAttr (pages.foldl (fun t p => movePage p t) s) pg = some (r, (realmOf s r).epoch) := by
  induction pages generalizing s e with
  | nil =>
    rcases due with named | newest
    · cases named
    · rw [← newest]
      exact owned
  | cons p pages ih =>
    have kept : realmOf (movePage p s) r = realmOf s r := realmOf_of_sec_eq ((movePage_touch p s).sec rfl) r
    have attr := pageAttr_movePage p pg s
    rw [List.foldl_cons, ← kept]
    by_cases same : pg = p
    · subst same
      rw [if_pos rfl, owned] at attr
      exact ih attr (.inr (by rw [kept]))
    · rw [if_neg same, owned] at attr
      exact ih attr (due.imp (fun named => (List.mem_cons.1 named).resolve_left same) fun newest => newest.trans (by rw [kept]))

/-- The pages of realm `r` under epoch `old`. -/
def pagesUnder (s : State) (r old : Nat) : List Nat := (s.mem.page.filter fun e => e.2 == some (r, old)).map (·.1)

theorem mem_pagesUnder {s : State} {r old pg : Nat} (owned : pageAttr s pg = some (r, old)) : pg ∈ pagesUnder s r old := by
  rcases tget_eq_or_mem none s.mem.page pg with absent | listed
  · rw [pageAttr, absent] at owned
    cases owned
  · rw [← pageAttr, owned] at listed
    exact List.mem_map.2 ⟨_, List.mem_filter.2 ⟨listed, beq_self_eq_true _⟩, rfl⟩

/-- The state in which every page of the old epoch has moved. -/
def pagesMoved (r : Nat) (s : State) : State :=
  (pagesUnder s r (((realmOf s r).epoch + 3) % 4)).foldl (fun t pg => movePage pg t) s

theorem pagesMoved_touch (r : Nat) (s : State) : Touch 0x800000 s (pagesMoved r s) :=
  Touch.foldl _ _ (fun t pg => movePage_touch pg t) (Touch.refl _ _)

/-- The state in which the old epoch is retired besides: its secret and its counters are destroyed. -/
def epochRetired (r : Nat) (s : State) : State :=
  dropCounters (fun a e => a == r && e == ((realmOf s r).epoch + 3) % 4) (setRealm (pagesMoved r s) r { realmOf s r with
    secrets := tset [] (realmOf s r).secrets (((realmOf s r).epoch + 3) % 4) []
    two := false, linkNew := false, sweeping := false })

/-- The end of a sweep, logged. -/
def sweepEnded (r : Nat) (s : State) : State :=
  logFold 0 0x6001 (BitVec.ofNat 8 r) 0xFFFF 0 [dw r, dw (((realmOf s r).epoch + 3) % 4)] (epochRetired r s)

theorem execKeySweepDone_of_sweeping {s : State} {r : Nat} (tenant : r = 1 ∨ r = 2) (sweeps : (realmOf s r).sweeping = true)
    (serves : blkOn s baseSEC = true) : execKeySweepDone r s = .next (sweepEnded r s) := by
  have named : (r == 1 || r == 2) = true := by simpa using tenant
  unfold execKeySweepDone
  simp only [named, sweeps, serves]
  rfl

theorem epochRetired_touch (r : Nat) (s : State) : Touch 0x40800000 s (epochRetired r s) :=
  (dropCounters_touch ..).via rfl ((setRealm_touch ..).via rfl ((pagesMoved_touch r s).mono rfl))

theorem sweepEnded_mem (r : Nat) (s : State) : (sweepEnded r s).mem = (pagesMoved r s).mem :=
  (setRealm_touch ..).mem rfl

theorem sweepEnded_frame (r : Nat) (s : State) : sweepEnded r s =
    { s with sec := (sweepEnded r s).sec, mem := (sweepEnded r s).mem, mgt := (sweepEnded r s).mgt } := by
  have frame := (epochRetired_touch r s).eq_merge
  have logged : sweepEnded r s = (epochRetired r s).setMgt (sweepEnded r s).mgt := rfl
  rw [logged, frame]
  rfl

/-! ### The checks of a command (R118, R126, R128, R448) -/

/-- The checks of R126 that do not look at a command's arguments let it pass. -/
structure Permitted (k : CmdSpec) (p r : Nat) (e : InFlight) (s : State) : Prop where
  deny : denyDetail k p r e s = none
  own : k.deny e s = none
  sec : k.sec = false
  winter : ((r == 1 || r == 2) && (realmOf s r).st == .winter) = false
  field : badField k r e = none
  phase : wrongPhase k r e s = false

theorem badField_of_callReady {k : CmdSpec} {op : Nat} {c : Cmd} {e : InFlight} {s : State} {r : Nat}
    (ready : CallReady op k.args c e s) (realm : r = 0 ∨ r = 3 → e.desc.realm = 0) (now : e.desc.rtAt = 0) :
    badField k r e = none := by
  obtain ⟨-, -, -, -, flags, rsvd, args⟩ := ready
  have zero : (List.range 6).find? (fun i => !k.args.testBit i && argOf e.desc i != 0) = none := by
    refine List.find?_eq_none.2 fun i inside found => ?_
    simp only [Bool.and_eq_true, Bool.not_eq_true', bne_iff_ne] at found
    exact found.2 (args i (List.mem_range.1 inside) found.1)
  rw [badField, if_neg fun bad => bad.2 (realm bad.1), if_neg fun bad => bad flags, if_neg fun bad => bad rsvd,
    if_neg fun bad => bad.1 now, zero]

section

variable {k : CmdSpec} {op : Nat} {c : Cmd} {e : InFlight} {s : State}

theorem permitted_of_fromOperator (from_ : FromOperator op k.args c e s) (o : k.o = true) (own : k.deny e s = none)
    (sec : k.sec = false) (early : k.early = true) : Permitted k c.port c.ring e s := by
  obtain ⟨ready, ring, realm, now⟩ := from_
  obtain ⟨-, -, -, phase, -⟩ := id ready
  refine ⟨?_, own, sec, by simp [ring], badField_of_callReady ready (fun _ => realm) now,
    by simp [wrongPhase, phase, now, early, ring]⟩
  rw [denyDetail, if_pos ring, if_pos o]

theorem permitted_of_fromTelemetry (from_ : FromTelemetry op k.args c e s) (t : k.t = true) (own : k.deny e s = none)
    (sec : k.sec = false) (early : k.early = true) : Permitted k c.port c.ring e s := by
  obtain ⟨ready, ring, realm, now⟩ := from_
  obtain ⟨-, -, -, phase, -⟩ := id ready
  refine ⟨?_, own, sec, by simp [ring], badField_of_callReady ready (fun _ => realm) now,
    by simp [wrongPhase, phase, now, early, ring]⟩
  rw [denyDetail, if_neg (by omega), if_pos ring, if_pos t]

/-- A realm's ring serves the commands of its state: all of them when it is Keyed. -/
theorem permitted_of_realm {r : Nat} (from_ : FromOpen r op k.args c e s) (m : k.m = true)
    (serves : (realmOf s r).st = .keyed ∨ k.inOpen = true) (own : k.deny e s = none)
    (sec : k.sec = false) (early : k.early = true) : Permitted k c.port c.ring e s := by
  obtain ⟨ready, tenant, rfl, realm, now, owner, opened⟩ := from_
  obtain ⟨-, -, -, phase, -⟩ := id ready
  have notWinter : ((realmOf s c.ring).st == .winter) = false := by
    rcases opened with st | st <;> rw [st] <;> rfl
  refine ⟨?_, own, sec, by rw [notWinter, Bool.and_false], badField_of_callReady ready (fun other => by omega) now, ?_⟩
  · rw [denyDetail, if_neg (by omega), if_neg (by omega), m, owner]
    simp [realm]
  · rcases opened with st | st
    · have inOpen : k.inOpen = true := serves.resolve_left (by rw [st]; simp)
      simp [wrongPhase, phase, now, early, st, inOpen]
    · simp [wrongPhase, phase, now, early, st]

theorem fromOpen_of_fromRealm {r args : Nat} (from_ : FromRealm r op args c e s) : FromOpen r op args c e s := by
  obtain ⟨ready, tenant, ring, realm, now, owner, keyed⟩ := from_
  exact ⟨ready, tenant, ring, realm, now, owner, .inr keyed⟩

variable {bad : InFlight → State → Option Result} {winter wrong : InFlight → State → Bool}
  {body : InFlight → State → State × Option Result}

theorem turnAway_of_permitted (may : Permitted k c.port c.ring e s) (running : winter e s = false) :
    turnAway k bad winter wrong c.port c.ring e s = match bad e s with
      | some x => some x
      | none => if wrong e s = true then some (failWith stWrongState 0) else none := by
  rw [turnAway, may.deny]
  dsimp only
  rw [may.own]
  dsimp only
  rw [may.sec, may.winter, may.field, running, may.phase]
  rfl

/-- A permitted command with good arguments runs its body on the state in which it has begun. -/
theorem runCmd_of_permitted {t : State} {x : Result} (ready : CallReady k.op k.args c e s) (may : Permitted k c.port c.ring e s)
    (running : winter e s = false) (good : bad e s = none) (right : wrong e s = false)
    (done : body (begun e) (taken c e s) = (t, some x)) :
    runCmd k c bad winter wrong body s = .next (endCmd c.port c.ring (begun e) x t) := by
  obtain ⟨next, op, fails, -⟩ := ready
  have passes : turnAway k bad winter wrong c.port c.ring e s = none := by
    rw [turnAway_of_permitted may running, good, right]
    rfl
  have started : body { e with started := true } (putEntry c.port c.ring e { e with started := true } s) = (t, some x) := done
  rw [runCmd, next]
  simp only [op, ne_eq, not_true_eq_false, if_false, passes, started]
  split
  case _ impossible => cases impossible
  case _ same =>
    cases same
    rfl
  case _ failed _ => cases fails.symm.trans failed
  case _ failed _ => cases fails.symm.trans failed

/-- A permitted command with a bad argument ends with BAD_ARG, and has no other effect. -/
theorem runCmd_of_bad {x : Result} (ready : CallReady k.op k.args c e s) (may : Permitted k c.port c.ring e s)
    (running : winter e s = false) (found : bad e s = some x) (badArg : x.status = stBadArg) :
    runCmd k c bad winter wrong body s = .next (endCmd c.port c.ring e x s) := by
  obtain ⟨next, op, -⟩ := ready
  have notDenied : x ≠ failWith stDenied 4 := fun denied => by
    rw [denied] at badArg
    exact absurd badArg (by decide)
  have turned : turnAway k bad winter wrong c.port c.ring e s = some x := by
    rw [turnAway_of_permitted may running, found]
  rw [runCmd, next]
  simp only [op, ne_eq, not_true_eq_false, if_false, turned, notDenied]

end

/-! ### The attestation report (R462, R481) -/

/-- Signing a report draws a salt and counts the report. -/
theorem signReport_sec (who : Nat) (clean : Bool) (nonce : List Byte) (s : State) :
    (signReport who clean nonce s).2.sec = { s.sec with reports := inc32 s.sec.reports 1 } := rfl

theorem signReport_touch_sec (who : Nat) (clean : Bool) (nonce : List Byte) (s : State) :
    Touch 0x840000000 s (signReport who clean nonce s).2 :=
  Touch.setSec rfl ((fresh_touch s).mono rfl)

theorem signReport_frame (who : Nat) (clean : Bool) (nonce : List Byte) (s : State) : (signReport who clean nonce s).2 =
    { s with sec := (signReport who clean nonce s).2.sec, freeCtr := (signReport who clean nonce s).2.freeCtr } :=
  (signReport_touch_sec ..).eq_merge

/-- What the tables of R134 give ATTEST_REPORT and CERT_CHAIN_GET. -/
def attestSpec : CmdSpec := { op := 0x0501, o := true, m := true, args := 63, inOpen := true }
def certSpec : CmdSpec := { op := 0x0504, o := true, m := true, t := true, args := 3 }

theorem taken_sec (c : Cmd) (e : InFlight) (s : State) : (taken c e s).sec = s.sec := (putEntry_touch ..).sec rfl

section

variable {c : Cmd} {e : InFlight} {s : State}

/-- ATTEST_REPORT of the operator: the report of all realms, and no anchor. -/
theorem execAttestReport_of_operator (ready : CallReady 0x0501 63 c e s) (may : Permitted attestSpec c.port c.ring e s)
    (operator : c.ring = 0) (serves : blkOn s baseATT = true) (room : badBuf e.desc 4 1536 = none) :
    execAttestReport c s = .next (endCmd c.port c.ring (begun e) (okRv 1536 0 0)
      (intoBuf c 4 (signReport 0 false (nonceOf e.desc) (taken c e s)).1
        (signReport 0 false (nonceOf e.desc) (taken c e s)).2)) := by
  have realm : ringRealm c.ring = 0 := by rw [operator]; rfl
  refine runCmd_of_permitted (k := attestSpec) ready may rfl room (by rw [serves]; rfl) ?_
  simp only [realm]
  rfl

/-- The state after ATTEST_REPORT on a realm's ring: the report is counted and its nonce is the realm's anchor. -/
def anchored (c : Cmd) (e : InFlight) (s : State) : State :=
  let t := (signReport c.ring false (nonceOf e.desc) (taken c e s)).2
  setRealm t c.ring { realmOf t c.ring with anchor := some (nonceOf e.desc, false) }

theorem execAttestReport_of_realm (ready : CallReady 0x0501 63 c e s) (may : Permitted attestSpec c.port c.ring e s)
    (tenant : c.ring = 1 ∨ c.ring = 2) (serves : blkOn s baseATT = true) (room : badBuf e.desc 4 1536 = none) :
    execAttestReport c s = .next (endCmd c.port c.ring (begun e) (okRv 1536 0 0)
      (intoBuf c 4 (signReport c.ring false (nonceOf e.desc) (taken c e s)).1 (anchored c e s))) := by
  have realm : ringRealm c.ring = c.ring := if_pos tenant
  have notOperator : c.ring ≠ 0 := by omega
  refine runCmd_of_permitted (k := attestSpec) ready may rfl room (by rw [serves]; rfl) ?_
  simp only [realm, if_neg notOperator]
  rfl

theorem realmOf_anchored (c : Cmd) (e : InFlight) (s : State) :
    realmOf (anchored c e s) c.ring = { realmOf s c.ring with anchor := some (nonceOf e.desc, false) } := by
  have kept : realmOf (signReport c.ring false (nonceOf e.desc) (taken c e s)).2 c.ring = realmOf (taken c e s) c.ring := rfl
  rw [anchored, realmOf_setRealm_same, kept, realmOf_of_sec_eq (taken_sec c e s)]

theorem setRealm_reports (s : State) (r : Nat) (x : Realm) : (setRealm s r x).sec.reports = s.sec.reports := by
  unfold setRealm
  split <;> rfl

theorem anchored_reports (c : Cmd) (e : InFlight) (s : State) : (anchored c e s).sec.reports = inc32 s.sec.reports 1 := by
  rw [anchored, setRealm_reports, signReport_sec, taken_sec]

theorem anchored_frame (c : Cmd) (e : InFlight) (s : State) : anchored c e s =
    { taken c e s with sec := (anchored c e s).sec, freeCtr := (anchored c e s).freeCtr } :=
  ((setRealm_touch ..).via (n := 0x840000000) rfl (signReport_touch_sec ..)).eq_merge

/-! ### The certificate chain (R446) -/

theorem certChain_taken (c : Cmd) (e : InFlight) (s : State) : certChain (taken c e s) = certChain s := by
  have flash : (taken c e s).flash = s.flash := (putEntry_touch ..).flash rfl
  rw [certChain, certChain, flash]

/-- A buffer at an aligned address, of an aligned length, is bad only when it is too short. -/
theorem badBuf_of_aligned {d : Desc} {k need : Nat} (addr : (argOf d k).toNat % 64 = 0)
    (len : (argOf d (k + 1)).toNat % 64 = 0) : badBuf d k need = if (argOf d (k + 1)).toNat < need then
      some { status := stBadArg, detail := BitVec.ofNat 16 (k + 1), rv0 := BitVec.ofNat 64 need } else none := by
  rw [badBuf, if_neg fun bad => bad addr, if_neg fun bad => bad len]

theorem execCertChainGet_of_permitted (ready : CallReady 0x0504 3 c e s) (may : Permitted certSpec c.port c.ring e s)
    (addr : e.desc.a0.toNat % 64 = 0) (len : e.desc.a1.toNat % 64 = 0) :
    execCertChainGet c s = .next (if e.desc.a1.toNat < (certChain s).length then
        endCmd c.port c.ring e { status := stBadArg, detail := 1, rv0 := BitVec.ofNat 64 (certChain s).length } s
      else endCmd c.port c.ring (begun e) (okRv (dw (certChain s).length) 0 0)
        (intoBuf c 0 (certChain s) (taken c e s))) := by
  have room := badBuf_of_aligned (d := e.desc) (k := 0) (need := (certChain s).length) addr len
  by_cases short : e.desc.a1.toNat < (certChain s).length
  · rw [if_pos short]
    exact runCmd_of_bad (k := certSpec) ready may rfl (room.trans (if_pos short)) rfl
  · rw [if_neg short]
    refine runCmd_of_permitted (k := certSpec) ready may rfl (room.trans (if_neg short)) rfl ?_
    rw [certChain_taken]

end

/-- Settles O13: the pages that the sweep's end moves are all those of the old epoch, and a permitted command with good
arguments runs its body. The event that the end logs, 0x6001, is KEY_EPOCH_RETIRED in R528. -/
theorem epochSweepAndAttestation : Obligations.EpochSweepAndAttestation := by
  refine ⟨fun s r tenant keyed two moved rests serves due =>
      execKeySweepStart_of_due tenant keyed two moved rests serves due,
    fun s r tenant sweeps serves => ⟨sweepEnded r s, execKeySweepDone_of_sweeping tenant sweeps serves, ?realm,
      fun pg owned => ?pages, ?log, sweepEnded_frame r s⟩,
    fun s c e from_ serves room => ?operator,
    fun s c e from_ serves room => ?tenant,
    fun s c e from_ addr len => ?chain⟩
  case realm => exact realmOf_setRealm_same ..
  case pages =>
    rw [pageAttr, sweepEnded_mem]
    exact pageAttr_foldl_movePage owned (.inl (mem_pagesUnder owned))
  case log =>
    have frame := epochRetired_touch r s
    exact logFold_mgt_congr _ _ _ _ _ (frame.mgt rfl) (frame.rtb rfl)
  case operator =>
    have may := permitted_of_fromOperator (k := attestSpec) from_ rfl rfl rfl rfl
    obtain ⟨ready, operator, -⟩ := from_
    exact ⟨_, execAttestReport_of_operator ready may operator serves room, by rw [signReport_sec, taken_sec],
      signReport_frame ..⟩
  case tenant =>
    have may := permitted_of_realm (k := attestSpec) from_ rfl (.inr rfl) rfl rfl rfl
    obtain ⟨ready, tenant, -⟩ := from_
    exact ⟨_, execAttestReport_of_realm ready may tenant serves room, realmOf_anchored .., anchored_reports ..,
      anchored_frame ..⟩
  case chain =>
    rcases from_ with operator | telemetry | realm
    · exact execCertChainGet_of_permitted operator.1
        (permitted_of_fromOperator (k := certSpec) operator rfl rfl rfl rfl) addr len
    · exact execCertChainGet_of_permitted telemetry.1
        (permitted_of_fromTelemetry (k := certSpec) telemetry rfl rfl rfl rfl) addr len
    · obtain ⟨ready, -, -, -, -, -, keyed⟩ := id realm
      exact execCertChainGet_of_permitted ready
        (permitted_of_realm (k := certSpec) (fromOpen_of_fromRealm realm) rfl (.inl keyed) rfl rfl rfl) addr len

end Sys2Proof.Machine
end
